-- ==== Sys2Proof/Word.lean ====
section
/-!
DEFINITION. Bytes, little-endian fields (R4) and two's complement (R5): the word types of the PZ7192.
-/

namespace Sys2Proof

/-- One byte of a host structure, a radio frame or a drawbar frame. -/
abbrev Byte := BitVec 8

/-- A 32-bit register value (R6). -/
abbrev Word32 := BitVec 32

end Sys2Proof
end

