-- ==== Sys2Proof/Machine/Tab.lean ====
section
/-!
DEFINITION. Sparse tables: lists of (key, value) pairs with strictly rising keys. Every indexed kind of state
(register fields, channels, segments, waybills, keys, ...) is held in one, so that the state stays plain data.
-/

namespace Sys2Proof.Machine

/-- A sparse table. A key that is not listed reads as the reader's own default. -/
abbrev Tab (α : Type) := List (Nat × α)

/-- The value listed for a key. -/
def tabFind {α : Type} : Tab α → Nat → Option α
  | [], _ => none
  | (k', v) :: t, k => if k = k' then some v else tabFind t k

/-- List a value under a key, in its sorted place, replacing what was there. -/
def tabPut {α : Type} : Tab α → Nat → α → Tab α
  | [], k, v => [(k, v)]
  | (k', v') :: t, k, v =>
    if k < k' then (k, v) :: (k', v') :: t
    else if k = k' then (k, v) :: t
    else (k', v') :: tabPut t k v

/-- Remove a key. -/
def tabDel {α : Type} (t : Tab α) (k : Nat) : Tab α := t.filter fun p => p.1 != k

/-- The listed value, or the type's default. -/
def tabGet {α : Type} [Inhabited α] (t : Tab α) (k : Nat) : α := (tabFind t k).getD default

/-- Change the value of one key through a function. -/
def tabMod {α : Type} [Inhabited α] (t : Tab α) (k : Nat) (f : α → α) : Tab α := tabPut t k (f (tabGet t k))

/-- Change every listed value. -/
def tabMapV {α : Type} (t : Tab α) (f : Nat → α → α) : Tab α := t.map fun p => (p.1, f p.1 p.2)

/-- Put an element in its place in a list sorted by a number, before its equals. -/
def insBy {α : Type} (f : α → Nat) (x : α) : List α → List α
  | [] => [x]
  | y :: t => if f x ≤ f y then x :: y :: t else y :: insBy f x t

/-- Sort by a number, equals in their order. -/
def sortNat {α : Type} (f : α → Nat) (l : List α) : List α := l.foldr (insBy f) []

/-- The canonical form: keys strictly rising. -/
def tabWf {α : Type} (t : Tab α) : Bool := decide (t.Pairwise fun a b => a.1 < b.1)

end Sys2Proof.Machine
end

