-- ==== Sys2Proof/Machine/Regs.lean ====
section
/-!
DEFINITION. The register map: one row per field of every register table of the spec, with its BAR0 address, its
strides, its bits, its access type (R7), the store that holds it (R10, R11, R596) and its reset or first-start value.
-/

namespace Sys2Proof.Machine

/-- Access types of R7. -/
inductive Acc where
  | rw | ro | w1c | w1s | wo
  deriving DecidableEq, Repr

/-- Where a field is held (R10, R65, R596). `part p` is a setting of firmware part p, in the order SUP, SAFE, TRK, MAC, CTL. -/
inductive Store where
  | vol | mram | aon | ident
  | part (p : Nat)
  deriving DecidableEq, Repr

/-- Reset or first-start values (R10, R11). -/
inductive Rst where
  | c (v : Nat)
  | idx (l : List Nat)
  | idx2 (l : List Nat)
  | grid (l : List (List Nat))
  | burst | period | fixedCls
  deriving DecidableEq, Repr

/-- Values a field lists (R9). -/
inductive Listed where
  | all
  | range (lo hi : Nat)
  | even (hi : Nat)
  | tcoh
  deriving DecidableEq, Repr

/-- One field of the register map. `base` is the BAR0 address of its first register, `s1`, `n1` and `s2`, `n2` the
strides and counts of its indices. -/
structure Fld where
  base : Nat
  s1 : Nat
  n1 : Nat
  s2 : Nat
  n2 : Nat
  lsb : Nat
  width : Nat
  acc : Acc
  store : Store
  rst : Rst
  listed : Listed
  deriving DecidableEq, Repr

/-- The key of a field's copy (i, j) in a store: its BAR0 address and its lowest bit. -/
def Fld.key (f : Fld) (i j : Nat) : Nat := 32 * (f.base + f.s1 * i + f.s2 * j) + f.lsb

/-- A class that is never limited (R640). -/
def fixedClass (k : Nat) : Bool := k ≤ 11 || (204 ≤ k && k ≤ 255)

/-- The rate-limited classes of R642: 0x0705, 0x0A07, 0x0C02, 0x0D03, 0x0F04 and 0x1002. -/
def slowClass (k : Nat) : Bool := k ∈ [6 * 12 + 4, 9 * 12 + 6, 11 * 12 + 1, 12 * 12 + 2, 14 * 12 + 3, 15 * 12 + 1]

/-- The reset or first-start value of copy (i, j) (R10, R11, R642). -/
def Fld.reset (f : Fld) (i j : Nat) : Nat :=
  match f.rst with
  | .c v => v
  | .idx l => l.getD i 0
  | .idx2 l => l.getD j 0
  | .grid l => (l.getD i []).getD j 0
  | .burst => if fixedClass i then 0 else if slowClass i then 4 else 32
  | .period => if fixedClass i then 1 else if slowClass i then 10000 else 100
  | .fixedCls => if fixedClass i then 1 else 0

/-- Coherent lengths allowed for a search class (R92). -/
def tcohAllowed (c t : Nat) : Bool :=
  match c with
  | 2 => 1 ≤ t && t ≤ 10
  | 3 => t ∈ [4, 8, 12, 16]
  | 4 => t ∈ [10, 20]
  | _ => 1 ≤ t && t ≤ 20

/-- A value the field's table lists (R9). -/
def Fld.lists (f : Fld) (i v : Nat) : Bool :=
  match f.listed with
  | .all => true
  | .range lo hi => lo ≤ v && v ≤ hi
  | .even hi => v % 2 == 0 && v ≤ hi
  | .tcoh => tcohAllowed i v

/-- A row with no index, one index, two indices. -/
def mk0 (base lsb width : Nat) (a : Acc) (s : Store) (r : Rst) (l : Listed) : Fld := ⟨base, 0x10000000, 1, 0x10000000, 1, lsb, width, a, s, r, l⟩
/-- A row with one index. -/
def mk1 (base s1 n1 lsb width : Nat) (a : Acc) (s : Store) (r : Rst) (l : Listed) : Fld := ⟨base, s1, n1, s1, 1, lsb, width, a, s, r, l⟩
/-- A row with two indices. -/
def mk2 (base s1 n1 s2 n2 lsb width : Nat) (a : Acc) (s : Store) (r : Rst) (l : Listed) : Fld := ⟨base, s1, n1, s2, n2, lsb, width, a, s, r, l⟩

namespace R

/-- PWR_CTRL.TARGET, R70. -/
def PWR_CTRL_TARGET : Fld := mk0 0x20000 0 2 .rw .vol (.c 0) (.range 0 2)
/-- PWR_CTRL.GO, R70. -/
def PWR_CTRL_GO : Fld := mk0 0x20000 8 1 .w1s .vol (.c 0) .all
/-- PWR_STATUS.STATE, R71. -/
def PWR_STATUS_STATE : Fld := mk0 0x20004 0 2 .ro .vol (.c 0) .all
/-- PWR_STATUS.WAKE_SRC, R71. -/
def PWR_STATUS_WAKE_SRC : Fld := mk0 0x20004 4 4 .ro .aon (.c 0) .all
/-- PWR_STATUS.REFUSED, R71. -/
def PWR_STATUS_REFUSED : Fld := mk0 0x20004 8 1 .w1c .vol (.c 0) .all
/-- PWR_STATUS.REFUSE_WHY, R71. -/
def PWR_STATUS_REFUSE_WHY : Fld := mk0 0x20004 12 4 .ro .vol (.c 0) .all
/-- PWR_DOMAIN.RUNNING, R72. -/
def PWR_DOMAIN_RUNNING : Fld := mk0 0x20008 0 14 .ro .vol (.c 1) .all
/-- PWR_WAKE_CFG.RTC_EN, R73. -/
def PWR_WAKE_CFG_RTC_EN : Fld := mk0 0x2000C 0 1 .rw .aon (.c 0) .all
/-- PWR_WAKE_CFG.PERST_EN, R73. -/
def PWR_WAKE_CFG_PERST_EN : Fld := mk0 0x2000C 1 1 .rw .aon (.c 1) .all
/-- PWR_WAKE_CFG.PCNT_EN, R73. -/
def PWR_WAKE_CFG_PCNT_EN : Fld := mk0 0x2000C 2 4 .rw .aon (.c 0) .all
/-- PWR_WAKE_CFG.RADIO_EN, R73. -/
def PWR_WAKE_CFG_RADIO_EN : Fld := mk0 0x2000C 6 1 .rw .aon (.c 0) .all
/-- PWR_RTC_ALARM.ALARM_S, R73. -/
def PWR_RTC_ALARM_ALARM_S : Fld := mk0 0x20010 0 32 .rw .aon (.c 0) .all
/-- PWR_PCNT_CMP[i].CMP, R73. -/
def PWR_PCNT_CMP_CMP : Fld := mk1 0x20020 0x4 4 0 32 .rw .aon (.c 0) .all
/-- SYS_LEVEL.LEVEL, R74. -/
def SYS_LEVEL_LEVEL : Fld := mk0 0x10100 0 2 .ro .vol (.c 0) .all
/-- SYS_LEVEL.HOLDOVER, R74. -/
def SYS_LEVEL_HOLDOVER : Fld := mk0 0x10100 4 1 .ro .vol (.c 0) .all
/-- SYS_LEVEL.LAST_FALL, R74. -/
def SYS_LEVEL_LAST_FALL : Fld := mk0 0x10100 8 4 .ro .vol (.c 0) .all
/-- SYS_LEVEL.FALLS, R74. -/
def SYS_LEVEL_FALLS : Fld := mk0 0x10100 16 16 .ro .vol (.c 0) .all
/-- SYS_LEVEL_CFG.CAP, R74. -/
def SYS_LEVEL_CFG_CAP : Fld := mk0 0x10104 0 2 .rw (.part 1) (.c 3) .all
/-- SYS_LEVEL_CFG.HO_LIMIT, R74. -/
def SYS_LEVEL_CFG_HO_LIMIT : Fld := mk0 0x10104 8 4 .rw (.part 1) (.c 5) (.range 1 15)
/-- SYS_LEVEL_CFG.RANGE_REQ, R74. -/
def SYS_LEVEL_CFG_RANGE_REQ : Fld := mk0 0x10104 16 1 .rw (.part 1) (.c 1) .all
/-- SYS_RESET.KEY, R74. -/
def SYS_RESET_KEY : Fld := mk0 0x10108 0 32 .wo .vol (.c 0) .all
/-- SYS_BOOT_STATUS.REF_ABSENT, R74. -/
def SYS_BOOT_STATUS_REF_ABSENT : Fld := mk0 0x1010C 0 1 .ro .vol (.c 0) .all
/-- SYS_BOOT_STATUS.NO_SAFE, R74. -/
def SYS_BOOT_STATUS_NO_SAFE : Fld := mk0 0x1010C 1 1 .ro .vol (.c 0) .all
/-- SYS_BOOT_STATUS.SLOT_B, R74. -/
def SYS_BOOT_STATUS_SLOT_B : Fld := mk0 0x1010C 4 5 .ro .vol (.c 0) .all
/-- SYS_DEV_ID.NEXT_ID, R75. -/
def SYS_DEV_ID_NEXT_ID : Fld := mk0 0x10110 0 10 .rw .ident (.c 0) .all
/-- SYS_DEV_ID.PENDING, R75. -/
def SYS_DEV_ID_PENDING : Fld := mk0 0x10110 12 1 .ro .vol (.c 0) .all
/-- SYS_DEV_ID.REFUSED, R75. -/
def SYS_DEV_ID_REFUSED : Fld := mk0 0x10110 13 1 .w1c .vol (.c 0) .all
/-- SYS_DEV_ID.KEY, R75. -/
def SYS_DEV_ID_KEY : Fld := mk0 0x10110 16 16 .wo .vol (.c 0) .all
/-- LC_STATE.STATE, R76. -/
def LC_STATE_STATE : Fld := mk0 0x140000 0 3 .ro .ident (.c 0) .all
/-- LC_STATE.WIPE_DONE, R76. -/
def LC_STATE_WIPE_DONE : Fld := mk0 0x140000 8 1 .ro .ident (.c 0) .all
/-- LC_STATE.DEBUG_OPEN, R76. -/
def LC_STATE_DEBUG_OPEN : Fld := mk0 0x140000 9 1 .ro .vol (.c 0) .all
/-- LC_CMD.TARGET, R76. -/
def LC_CMD_TARGET : Fld := mk0 0x140004 0 3 .rw .vol (.c 0) (.range 0 4)
/-- LC_CMD.REQ, R76. -/
def LC_CMD_REQ : Fld := mk0 0x140004 8 1 .w1s .vol (.c 0) .all
/-- LC_CMD.COMMIT, R76. -/
def LC_CMD_COMMIT : Fld := mk0 0x140004 9 1 .w1s .vol (.c 0) .all
/-- LC_CMD.DEBUG, R76. -/
def LC_CMD_DEBUG : Fld := mk0 0x140004 10 1 .rw .vol (.c 0) .all
/-- LC_CMD.FAIL, R76. -/
def LC_CMD_FAIL : Fld := mk0 0x140004 16 1 .w1c .vol (.c 0) .all
/-- LC_CHAL[i].CHAL, R76. -/
def LC_CHAL_CHAL : Fld := mk1 0x140010 0x4 4 0 32 .ro .vol (.c 0) .all
/-- LC_RESP[i].RESP, R76. -/
def LC_RESP_RESP : Fld := mk1 0x140020 0x4 4 0 32 .wo .vol (.c 0) .all
/-- SKY_CTRL.BAND_EN, R108. -/
def SKY_CTRL_BAND_EN : Fld := mk0 0x30000 0 3 .rw .vol (.c 7) .all
/-- SKY_CTRL.ACQ_EN, R108. -/
def SKY_CTRL_ACQ_EN : Fld := mk0 0x30000 4 1 .rw .vol (.c 1) .all
/-- SKY_CTRL.AUTO_SKY, R108. -/
def SKY_CTRL_AUTO_SKY : Fld := mk0 0x30000 5 1 .rw .vol (.c 1) .all
/-- SKY_STATUS.PLL_LOCK, R108. -/
def SKY_STATUS_PLL_LOCK : Fld := mk0 0x30004 0 3 .ro .vol (.c 0) .all
/-- SKY_STATUS.RF_LOCK, R108. -/
def SKY_STATUS_RF_LOCK : Fld := mk0 0x30004 4 3 .ro .vol (.c 0) .all
/-- SKY_STATUS.BAND_FAULT, R108. -/
def SKY_STATUS_BAND_FAULT : Fld := mk0 0x30004 8 3 .w1c .vol (.c 0) .all
/-- SKY_STATUS.BIAS_FAULT, R108. -/
def SKY_STATUS_BIAS_FAULT : Fld := mk0 0x30004 12 1 .w1c .vol (.c 0) .all
/-- SKY_STATUS.JAM_MAX, R108. -/
def SKY_STATUS_JAM_MAX : Fld := mk0 0x30004 16 2 .ro .vol (.c 0) .all
/-- SKY_BIAS_CFG.VSEL, R109. -/
def SKY_BIAS_CFG_VSEL : Fld := mk0 0x30008 0 2 .rw .vol (.c 0) (.range 0 2)
/-- SKY_BIAS_CFG.ILIM, R109. -/
def SKY_BIAS_CFG_ILIM : Fld := mk0 0x30008 4 4 .rw .vol (.c 5) .all
/-- SKY_BIAS_CFG.OPEN_MA, R109. -/
def SKY_BIAS_CFG_OPEN_MA : Fld := mk0 0x30008 8 4 .rw .vol (.c 2) .all
/-- SKY_BIAS_STAT.CURRENT, R109. -/
def SKY_BIAS_STAT_CURRENT : Fld := mk0 0x3000C 0 8 .ro .vol (.c 0) .all
/-- SKY_BIAS_STAT.STATE, R109. -/
def SKY_BIAS_STAT_STATE : Fld := mk0 0x3000C 8 2 .ro .vol (.c 0) .all
/-- SKY_JAM_CFG.WARN_THR, R110. -/
def SKY_JAM_CFG_WARN_THR : Fld := mk0 0x30010 0 8 .rw .vol (.c 32) .all
/-- SKY_JAM_CFG.JAM_THR, R110. -/
def SKY_JAM_CFG_JAM_THR : Fld := mk0 0x30010 8 8 .rw .vol (.c 96) .all
/-- SKY_JAM_CFG.HYST, R110. -/
def SKY_JAM_CFG_HYST : Fld := mk0 0x30010 16 8 .rw .vol (.c 8) .all
/-- SKY_JAM_CFG.NOTCH_THR, R110. -/
def SKY_JAM_CFG_NOTCH_THR : Fld := mk0 0x30010 24 8 .rw .vol (.c 20) .all
/-- SKY_AGC_CFG[i].TARGET, R111. -/
def SKY_AGC_CFG_TARGET : Fld := mk1 0x30100 0x40 3 0 8 .rw .vol (.c 32) .all
/-- SKY_AGC_CFG[i].MODE, R111. -/
def SKY_AGC_CFG_MODE : Fld := mk1 0x30100 0x40 3 8 2 .rw .vol (.c 0) (.range 0 2)
/-- SKY_AGC_CFG[i].MAN_GAIN, R111. -/
def SKY_AGC_CFG_MAN_GAIN : Fld := mk1 0x30100 0x40 3 10 8 .rw .vol (.c 0) .all
/-- SKY_AGC_CFG[i].BLANK_THR, R111. -/
def SKY_AGC_CFG_BLANK_THR : Fld := mk1 0x30100 0x40 3 24 8 .rw .vol (.c 0) .all
/-- SKY_AGC_STAT[i].GAIN, R111. -/
def SKY_AGC_STAT_GAIN : Fld := mk1 0x30104 0x40 3 0 8 .ro .vol (.c 0) .all
/-- SKY_AGC_STAT[i].BASE, R111. -/
def SKY_AGC_STAT_BASE : Fld := mk1 0x30104 0x40 3 8 8 .ro .vol (.c 0) .all
/-- SKY_AGC_STAT[i].BASE_VALID, R111. -/
def SKY_AGC_STAT_BASE_VALID : Fld := mk1 0x30104 0x40 3 16 1 .ro .vol (.c 0) .all
/-- SKY_AGC_STAT[i].SETTLED, R111. -/
def SKY_AGC_STAT_SETTLED : Fld := mk1 0x30104 0x40 3 17 1 .ro .vol (.c 0) .all
/-- SKY_AGC_STAT[i].BLANK_RATE, R111. -/
def SKY_AGC_STAT_BLANK_RATE : Fld := mk1 0x30104 0x40 3 24 8 .ro .vol (.c 0) .all
/-- SKY_JAM[i].JAM_IND, R111. -/
def SKY_JAM_JAM_IND : Fld := mk1 0x30108 0x40 3 0 8 .ro .vol (.c 0) .all
/-- SKY_JAM[i].STATE, R111. -/
def SKY_JAM_STATE : Fld := mk1 0x30108 0x40 3 8 2 .ro .vol (.c 0) .all
/-- SKY_JAM[i].PEAK_BIN, R111. -/
def SKY_JAM_PEAK_BIN : Fld := mk1 0x30108 0x40 3 10 10 .ro .vol (.c 0) .all
/-- SKY_JAM[i].PEAK_DB, R111. -/
def SKY_JAM_PEAK_DB : Fld := mk1 0x30108 0x40 3 20 8 .ro .vol (.c 0) .all
/-- SKY_NOTCH_CFG[i][j].MODE, R112. -/
def SKY_NOTCH_CFG_MODE : Fld := mk2 0x30200 0x40 3 0x8 6 0 2 .rw .vol (.c 2) (.range 0 2)
/-- SKY_NOTCH_CFG[i][j].BW, R112. -/
def SKY_NOTCH_CFG_BW : Fld := mk2 0x30200 0x40 3 0x8 6 2 3 .rw .vol (.c 2) .all
/-- SKY_NOTCH_CFG[i][j].ACTIVE, R112. -/
def SKY_NOTCH_CFG_ACTIVE : Fld := mk2 0x30200 0x40 3 0x8 6 8 1 .ro .vol (.c 0) .all
/-- SKY_NOTCH_FREQ[i][j].FREQ, R112. -/
def SKY_NOTCH_FREQ_FREQ : Fld := mk2 0x30204 0x40 3 0x8 6 0 24 .rw .vol (.c 0) .all
/-- ACQ_CTRL.START_TYPE, R113. -/
def ACQ_CTRL_START_TYPE : Fld := mk0 0x30400 0 2 .rw .vol (.c 0) (.range 0 2)
/-- ACQ_CTRL.RESTART, R113. -/
def ACQ_CTRL_RESTART : Fld := mk0 0x30400 4 1 .w1s .vol (.c 0) .all
/-- ACQ_CTRL.PASS2_EN, R113. -/
def ACQ_CTRL_PASS2_EN : Fld := mk0 0x30400 8 1 .rw .vol (.c 1) .all
/-- ACQ_STATUS.ENGINE_OK, R113. -/
def ACQ_STATUS_ENGINE_OK : Fld := mk0 0x30404 0 2 .ro .vol (.c 3) .all
/-- ACQ_STATUS.QUEUE, R113. -/
def ACQ_STATUS_QUEUE : Fld := mk0 0x30404 4 9 .ro .vol (.c 0) .all
/-- ACQ_STATUS.SKY_DONE, R113. -/
def ACQ_STATUS_SKY_DONE : Fld := mk0 0x30404 16 1 .ro .vol (.c 0) .all
/-- ACQ_STATUS.DROPPED, R113. -/
def ACQ_STATUS_DROPPED : Fld := mk0 0x30404 24 8 .ro .vol (.c 0) .all
/-- ACQ_DOPP_CFG.SPAN, R113. -/
def ACQ_DOPP_CFG_SPAN : Fld := mk0 0x30408 0 16 .rw .vol (.c 5000) .all
/-- ACQ_DOPP_CFG.REF_UNC, R113. -/
def ACQ_DOPP_CFG_REF_UNC : Fld := mk0 0x30408 16 16 .rw .vol (.c 500) .all
/-- ACQ_CLASS_CFG[i].TCOH, R114. -/
def ACQ_CLASS_CFG_TCOH : Fld := mk1 0x30440 0x4 6 0 5 .rw .vol (.idx [5, 1, 1, 4, 10, 1]) .tcoh
/-- ACQ_CLASS_CFG[i].K, R114. -/
def ACQ_CLASS_CFG_K : Fld := mk1 0x30440 0x4 6 8 8 .rw .vol (.idx [8, 40, 40, 10, 4, 20]) (.range 1 255)
/-- ACQ_CLASS_CFG[i].THR, R114. -/
def ACQ_CLASS_CFG_THR : Fld := mk1 0x30440 0x4 6 16 8 .rw .vol (.c 56) .all
/-- ACQ_CLASS_CFG[i].P2_MULT, R114. -/
def ACQ_CLASS_CFG_P2_MULT : Fld := mk1 0x30440 0x4 6 24 3 .rw .vol (.c 2) (.range 1 7)
/-- TRK_CTRL.EN, R152. -/
def TRK_CTRL_EN : Fld := mk0 0x40000 0 1 .rw .vol (.c 1) .all
/-- TRK_CTRL.AUTO_ALLOC, R152. -/
def TRK_CTRL_AUTO_ALLOC : Fld := mk0 0x40000 1 1 .rw .vol (.c 1) .all
/-- TRK_CTRL.HANDOVER, R152. -/
def TRK_CTRL_HANDOVER : Fld := mk0 0x40000 2 1 .rw .vol (.c 1) .all
/-- TRK_CTRL.ELEV_MASK, R152. -/
def TRK_CTRL_ELEV_MASK : Fld := mk0 0x40000 8 8 .rw .vol (.c 5) (.range 0 90)
/-- TRK_STATUS.TRACKING, R152. -/
def TRK_STATUS_TRACKING : Fld := mk0 0x40004 0 8 .ro .vol (.c 0) .all
/-- TRK_STATUS.OOS, R152. -/
def TRK_STATUS_OOS : Fld := mk0 0x40004 8 8 .ro .vol (.c 0) .all
/-- TRK_STATUS.SPARES_USED, R152. -/
def TRK_STATUS_SPARES_USED : Fld := mk0 0x40004 16 5 .ro .vol (.c 0) .all
/-- TRK_THR.CONF_CN0, R153. -/
def TRK_THR_CONF_CN0 : Fld := mk0 0x40008 0 8 .rw .vol (.c 112) .all
/-- TRK_THR.LOSS_CN0, R153. -/
def TRK_THR_LOSS_CN0 : Fld := mk0 0x40008 8 8 .rw .vol (.c 88) .all
/-- TRK_THR.LOSS_T, R153. -/
def TRK_THR_LOSS_T : Fld := mk0 0x40008 16 8 .rw .vol (.c 20) (.range 1 255)
/-- TRK_THR.PLI_THR, R153. -/
def TRK_THR_PLI_THR : Fld := mk0 0x40008 24 8 .rw .vol (.c 205) .all
/-- TRK_MEAS_CFG.RING, R153. -/
def TRK_MEAS_CFG_RING : Fld := mk0 0x4000C 0 5 .rw .vol (.c 0) .all
/-- TRK_MEAS_CFG.EN, R153. -/
def TRK_MEAS_CFG_EN : Fld := mk0 0x4000C 8 1 .rw .vol (.c 0) .all
/-- TRK_ISB_CFG.TAU, R153. -/
def TRK_ISB_CFG_TAU : Fld := mk0 0x40010 0 16 .rw .vol (.c 600) (.range 1 65535)
/-- TRK_ISB_CFG.STEP_THR, R153. -/
def TRK_ISB_CFG_STEP_THR : Fld := mk0 0x40010 16 8 .rw .vol (.c 10) .all
/-- TRK_ISB_CFG.MIN_EL, R153. -/
def TRK_ISB_CFG_MIN_EL : Fld := mk0 0x40010 24 8 .rw .vol (.c 15) .all
/-- TRK_LOOP[i].DLL_BW, R154. -/
def TRK_LOOP_DLL_BW : Fld := mk1 0x40100 0x4 8 0 8 .rw .vol (.idx [0xC8, 0x32, 0x0A, 0x32, 0x32, 0x32, 0x32, 0x32]) (.range 5 200)
/-- TRK_LOOP[i].FLL_BW, R154. -/
def TRK_LOOP_FLL_BW : Fld := mk1 0x40100 0x4 8 8 8 .rw .vol (.idx [0x28, 0x08, 0x04, 0x08, 0x08, 0x08, 0x08, 0x08]) .all
/-- TRK_LOOP[i].PLL_BW, R154. -/
def TRK_LOOP_PLL_BW : Fld := mk1 0x40100 0x4 8 16 8 .rw .vol (.idx [0x3C, 0x28, 0x14, 0x28, 0x28, 0x28, 0x28, 0x28]) (.range 8 120)
/-- TRK_LOOP[i].TINT, R154. -/
def TRK_LOOP_TINT : Fld := mk1 0x40100 0x4 8 24 5 .rw .vol (.idx [1, 0, 0, 0, 0, 0, 0, 0]) (.range 0 20)
/-- TRK_TAPSET[i][j].TAP0, R155. -/
def TRK_TAPSET_TAP0 : Fld := mk2 0x40200 0x8 4 0x4 2 0 8 .rw .vol (.grid [[192, 8], [224, 8], [128, 32], [192, 8]]) .all
/-- TRK_TAPSET[i][j].TAP1, R155. -/
def TRK_TAPSET_TAP1 : Fld := mk2 0x40200 0x8 4 0x4 2 8 8 .rw .vol (.grid [[224, 16], [235, 12], [160, 64], [224, 16]]) .all
/-- TRK_TAPSET[i][j].TAP2, R155. -/
def TRK_TAPSET_TAP2 : Fld := mk2 0x40200 0x8 4 0x4 2 16 8 .rw .vol (.grid [[240, 32], [244, 21], [192, 96], [240, 32]]) .all
/-- TRK_TAPSET[i][j].TAP3, R155. -/
def TRK_TAPSET_TAP3 : Fld := mk2 0x40200 0x8 4 0x4 2 24 8 .rw .vol (.grid [[248, 64], [248, 32], [224, 127], [248, 64]]) .all
/-- TRK_SPARE[i].IN_USE, R156. -/
def TRK_SPARE_IN_USE : Fld := mk1 0x40300 0x4 16 0 1 .ro .vol (.c 0) .all
/-- TRK_SPARE[i].REPL, R156. -/
def TRK_SPARE_REPL : Fld := mk1 0x40300 0x4 16 4 4 .ro .vol (.c 0) .all
/-- TRK_SPARE[i].FAULTS, R156. -/
def TRK_SPARE_FAULTS : Fld := mk1 0x40300 0x4 16 8 8 .ro .vol (.c 0) .all
/-- TRK_SPARE[i].SCRUB, R156. -/
def TRK_SPARE_SCRUB : Fld := mk1 0x40300 0x4 16 16 1 .ro .vol (.c 1) .all
/-- TRK_ISB[i].ISB, R157. -/
def TRK_ISB_ISB : Fld := mk1 0x40400 0x4 6 0 32 .ro .vol (.c 0) .all
/-- TRK_ISB_STAT.VALID, R157. -/
def TRK_ISB_STAT_VALID : Fld := mk0 0x40418 1 5 .ro .vol (.c 0) .all
/-- TRK_ISB_STAT.STEP, R157. -/
def TRK_ISB_STAT_STEP : Fld := mk0 0x40418 9 5 .w1c .vol (.c 0) .all
/-- TRK_GLO_IFB[i].IFB, R157. -/
def TRK_GLO_IFB_IFB : Fld := mk1 0x40440 0x4 14 0 32 .ro .vol (.c 0) .all
/-- TRK_CH_CFG[i].OWNER, R158. -/
def TRK_CH_CFG_OWNER : Fld := mk1 0x41000 0x10 192 0 1 .rw .vol (.c 0) .all
/-- TRK_CH_CFG[i].LOOP_PROF, R158. -/
def TRK_CH_CFG_LOOP_PROF : Fld := mk1 0x41000 0x10 192 1 3 .rw .vol (.c 1) .all
/-- TRK_CH_CFG[i].TAP_SET, R158. -/
def TRK_CH_CFG_TAP_SET : Fld := mk1 0x41000 0x10 192 4 3 .rw .vol (.c 4) (.range 0 4)
/-- TRK_CH_CFG[i].COMB_MODE, R158. -/
def TRK_CH_CFG_COMB_MODE : Fld := mk1 0x41000 0x10 192 8 2 .rw .vol (.c 1) (.range 0 2)
/-- TRK_CH_CFG[i].SPACING, R158. -/
def TRK_CH_CFG_SPACING : Fld := mk1 0x41000 0x10 192 16 7 .rw .vol (.c 0) (.even 64)
/-- TRK_CH_SEL[i].SAT, R158. -/
def TRK_CH_SEL_SAT : Fld := mk1 0x41004 0x10 192 0 16 .rw .vol (.c 0) .all
/-- TRK_CH_SEL[i].SIG, R158. -/
def TRK_CH_SEL_SIG : Fld := mk1 0x41004 0x10 192 16 8 .rw .vol (.c 0) (.range 0 17)
/-- TRK_CH_STAT[i].STATE, R158. -/
def TRK_CH_STAT_STATE : Fld := mk1 0x41008 0x10 192 0 3 .ro .vol (.c 0) .all
/-- TRK_CH_STAT[i].ON_SPARE, R158. -/
def TRK_CH_STAT_ON_SPARE : Fld := mk1 0x41008 0x10 192 4 1 .ro .vol (.c 0) .all
/-- TRK_CH_STAT[i].TINT, R158. -/
def TRK_CH_STAT_TINT : Fld := mk1 0x41008 0x10 192 8 5 .ro .vol (.c 0) .all
/-- TRK_CH_STAT[i].CN0, R158. -/
def TRK_CH_STAT_CN0 : Fld := mk1 0x41008 0x10 192 16 16 .ro .vol (.c 0) .all
/-- TRK_CH_CMD[i].START, R158. -/
def TRK_CH_CMD_START : Fld := mk1 0x4100C 0x10 192 0 1 .w1s .vol (.c 0) .all
/-- TRK_CH_CMD[i].STOP, R158. -/
def TRK_CH_CMD_STOP : Fld := mk1 0x4100C 0x10 192 1 1 .w1s .vol (.c 0) .all
/-- TRK_CH_CMD[i].FAIL, R158. -/
def TRK_CH_CMD_FAIL : Fld := mk1 0x4100C 0x10 192 8 1 .w1c .vol (.c 0) .all
/-- TIME_CTRL.PPSIN_EN, R189. -/
def TIME_CTRL_PPSIN_EN : Fld := mk0 0x50000 0 1 .rw .vol (.c 0) .all
/-- TIME_CTRL.DISC_TC, R189. -/
def TIME_CTRL_DISC_TC : Fld := mk0 0x50000 8 8 .rw .vol (.c 100) (.range 10 255)
/-- TIME_STATUS.SRC, R189. -/
def TIME_STATUS_SRC : Fld := mk0 0x50004 0 3 .ro .vol (.c 5) .all
/-- TIME_STATUS.SLEWING, R189. -/
def TIME_STATUS_SLEWING : Fld := mk0 0x50004 4 1 .ro .vol (.c 0) .all
/-- TIME_STATUS.STEPPED, R189. -/
def TIME_STATUS_STEPPED : Fld := mk0 0x50004 5 1 .w1c .vol (.c 0) .all
/-- TIME_STATUS.STEP_PENDING, R189. -/
def TIME_STATUS_STEP_PENDING : Fld := mk0 0x50004 6 1 .ro .vol (.c 0) .all
/-- TIME_UNC.UNC, R189. -/
def TIME_UNC_UNC : Fld := mk0 0x50008 0 32 .ro .vol (.c 4294967295) .all
/-- TIME_ERR.ERR, R189. -/
def TIME_ERR_ERR : Fld := mk0 0x5000C 0 32 .ro .vol (.c 0) .all
/-- TIME_NOW_LO.NS_LO, R190. -/
def TIME_NOW_LO_NS_LO : Fld := mk0 0x50010 0 32 .ro .vol (.c 0) .all
/-- TIME_NOW_HI.NS_HI, R190. -/
def TIME_NOW_HI_NS_HI : Fld := mk0 0x50014 0 32 .ro .vol (.c 0) .all
/-- TIME_ANT_DELAY.DELAY, R191. -/
def TIME_ANT_DELAY_DELAY : Fld := mk0 0x50020 0 24 .rw (.part 2) (.c 0) .all
/-- TIME_PPSOUT_DELAY.DELAY, R191. -/
def TIME_PPSOUT_DELAY_DELAY : Fld := mk0 0x50024 0 24 .rw (.part 2) (.c 0) .all
/-- TIME_PPSIN_DELAY.DELAY, R191. -/
def TIME_PPSIN_DELAY_DELAY : Fld := mk0 0x50028 0 24 .rw (.part 2) (.c 0) .all
/-- TIME_PPS_CFG.MODE, R192. -/
def TIME_PPS_CFG_MODE : Fld := mk0 0x5002C 0 2 .rw .vol (.c 1) (.range 0 2)
/-- TIME_PPS_CFG.WIDTH, R192. -/
def TIME_PPS_CFG_WIDTH : Fld := mk0 0x5002C 8 8 .rw .vol (.c 100) (.range 1 200)
/-- TIME_HO_CFG.FREQ_UNC, R192. -/
def TIME_HO_CFG_FREQ_UNC : Fld := mk0 0x50030 0 16 .rw (.part 2) (.c 1000) .all
/-- TIME_HO_CFG.AGING, R192. -/
def TIME_HO_CFG_AGING : Fld := mk0 0x50030 16 16 .rw (.part 2) (.c 1000) .all
/-- TIME_PPSIN_TOD.GPS_S, R192. -/
def TIME_PPSIN_TOD_GPS_S : Fld := mk0 0x50034 0 32 .rw .vol (.c 0) .all
/-- TIME_PPSIN_UNC.UNC, R192. -/
def TIME_PPSIN_UNC_UNC : Fld := mk0 0x50038 0 16 .rw .vol (.c 100) .all
/-- TIME_FREQ.STEER, R192. -/
def TIME_FREQ_STEER : Fld := mk0 0x5003C 0 32 .ro .vol (.c 0) .all
/-- BASE_CTRL.MODE, R193. -/
def BASE_CTRL_MODE : Fld := mk0 0x50100 0 2 .rw (.part 2) (.c 0) .all
/-- BASE_CTRL.GO, R193. -/
def BASE_CTRL_GO : Fld := mk0 0x50100 4 1 .w1s .vol (.c 0) .all
/-- BASE_CTRL.AUTO_RESURVEY, R193. -/
def BASE_CTRL_AUTO_RESURVEY : Fld := mk0 0x50100 5 1 .rw (.part 2) (.c 0) .all
/-- BASE_STATUS.STATE, R193. -/
def BASE_STATUS_STATE : Fld := mk0 0x50104 0 3 .ro .vol (.c 0) .all
/-- BASE_STATUS.WHY, R193. -/
def BASE_STATUS_WHY : Fld := mk0 0x50104 4 2 .ro .vol (.c 0) .all
/-- BASE_STATUS.SURVEY_S, R193. -/
def BASE_STATUS_SURVEY_S : Fld := mk0 0x50104 16 16 .ro .vol (.c 0) .all
/-- BASE_X_LO.POS_LO, R194. -/
def BASE_X_LO_POS_LO : Fld := mk0 0x50110 0 32 .rw (.part 2) (.c 0) .all
/-- BASE_Y_LO.POS_LO, R194. -/
def BASE_Y_LO_POS_LO : Fld := mk0 0x50118 0 32 .rw (.part 2) (.c 0) .all
/-- BASE_Z_LO.POS_LO, R194. -/
def BASE_Z_LO_POS_LO : Fld := mk0 0x50120 0 32 .rw (.part 2) (.c 0) .all
/-- BASE_X_HI.POS_HI, R194. -/
def BASE_X_HI_POS_HI : Fld := mk0 0x50114 0 32 .rw (.part 2) (.c 0) .all
/-- BASE_Y_HI.POS_HI, R194. -/
def BASE_Y_HI_POS_HI : Fld := mk0 0x5011C 0 32 .rw (.part 2) (.c 0) .all
/-- BASE_Z_HI.POS_HI, R194. -/
def BASE_Z_HI_POS_HI : Fld := mk0 0x50124 0 32 .rw (.part 2) (.c 0) .all
/-- BASE_ARP_H.HEIGHT, R194. -/
def BASE_ARP_H_HEIGHT : Fld := mk0 0x50128 0 16 .rw (.part 2) (.c 0) .all
/-- BASE_SURVEY_CFG.MIN_DUR, R195. -/
def BASE_SURVEY_CFG_MIN_DUR : Fld := mk0 0x50130 0 16 .rw .vol (.c 300) (.range 1 65535)
/-- BASE_SURVEY_CFG.ACC_LIMIT, R195. -/
def BASE_SURVEY_CFG_ACC_LIMIT : Fld := mk0 0x50130 16 16 .rw .vol (.c 200) .all
/-- BASE_VER_CFG.VER_T, R195. -/
def BASE_VER_CFG_VER_T : Fld := mk0 0x50134 0 8 .rw .vol (.c 30) (.range 1 255)
/-- BASE_VER_CFG.VER_TOL, R195. -/
def BASE_VER_CFG_VER_TOL : Fld := mk0 0x50134 8 8 .rw .vol (.c 30) .all
/-- BASE_VER_CFG.MOVE_TOL, R195. -/
def BASE_VER_CFG_MOVE_TOL : Fld := mk0 0x50134 16 8 .rw .vol (.c 50) .all
/-- BASE_VER_CFG.MIN_SAT, R195. -/
def BASE_VER_CFG_MIN_SAT : Fld := mk0 0x50134 24 8 .rw .vol (.c 8) (.range 5 40)
/-- CORR_CFG.YC_EN, R196. -/
def CORR_CFG_YC_EN : Fld := mk0 0x50200 0 1 .rw .vol (.c 1) .all
/-- CORR_CFG.EL_MASK, R196. -/
def CORR_CFG_EL_MASK : Fld := mk0 0x50200 8 8 .rw .vol (.c 10) (.range 0 90)
/-- CORR_CFG.MIN_SAT, R196. -/
def CORR_CFG_MIN_SAT : Fld := mk0 0x50200 16 4 .rw .vol (.c 5) (.range 4 15)
/-- CORR_CFG.MAX_SIG, R196. -/
def CORR_CFG_MAX_SIG : Fld := mk0 0x50200 20 3 .rw .vol (.c 3) (.range 1 7)
/-- RTCM_CFG.STATION_ID, R196. -/
def RTCM_CFG_STATION_ID : Fld := mk0 0x50204 0 12 .rw (.part 0) (.c 0) .all
/-- RTCM_CFG.MSM_TYPE, R196. -/
def RTCM_CFG_MSM_TYPE : Fld := mk0 0x50204 12 1 .rw .vol (.c 1) .all
/-- RTCM_CFG.MSM_RATE, R196. -/
def RTCM_CFG_MSM_RATE : Fld := mk0 0x50204 13 2 .rw .vol (.c 0) .all
/-- RTCM_CFG.STA_MSG, R196. -/
def RTCM_CFG_STA_MSG : Fld := mk0 0x50204 15 1 .rw .vol (.c 1) .all
/-- RTCM_CFG.SYS_MASK, R196. -/
def RTCM_CFG_SYS_MASK : Fld := mk0 0x50204 16 4 .rw .vol (.c 15) .all
/-- RTCM_CFG.RTCM_EN, R196. -/
def RTCM_CFG_RTCM_EN : Fld := mk0 0x50204 20 1 .rw .vol (.c 0) .all
/-- RTCM_CFG.EARLY, R196. -/
def RTCM_CFG_EARLY : Fld := mk0 0x50204 21 1 .rw .vol (.c 0) .all
/-- RTCM_CFG.RING_EN, R196. -/
def RTCM_CFG_RING_EN : Fld := mk0 0x50204 22 1 .rw .vol (.c 0) .all
/-- RTCM_CFG.UART_EN, R196. -/
def RTCM_CFG_UART_EN : Fld := mk0 0x50204 23 1 .rw .vol (.c 0) .all
/-- RTCM_CFG.RING, R196. -/
def RTCM_CFG_RING : Fld := mk0 0x50204 24 5 .rw .vol (.c 0) .all
/-- RTCM_UART_CFG.BAUD, R196. -/
def RTCM_UART_CFG_BAUD : Fld := mk0 0x50208 0 3 .rw .vol (.c 3) (.range 0 6)
/-- CORR_STATUS.NSAT, R196. -/
def CORR_STATUS_NSAT : Fld := mk0 0x5020C 0 8 .ro .vol (.c 0) .all
/-- CORR_STATUS.PRODUCING, R196. -/
def CORR_STATUS_PRODUCING : Fld := mk0 0x5020C 8 1 .ro .vol (.c 0) .all
/-- CORR_STATUS.STR_TRUNC, R196. -/
def CORR_STATUS_STR_TRUNC : Fld := mk0 0x5020C 9 1 .ro .vol (.c 0) .all
/-- CORR_STATUS.TRUNCS, R196. -/
def CORR_STATUS_TRUNCS : Fld := mk0 0x5020C 16 8 .ro .vol (.c 0) .all
/-- CORR_STATUS.UART_DROPPED, R196. -/
def CORR_STATUS_UART_DROPPED : Fld := mk0 0x5020C 24 8 .ro .vol (.c 0) .all
/-- CORR_ANT_STR[i].CHARS, R197. -/
def CORR_ANT_STR_CHARS : Fld := mk1 0x50240 0x4 16 0 32 .rw (.part 0) (.c 0) .all
/-- YRD_CTRL.EN, R227. -/
def YRD_CTRL_EN : Fld := mk0 0x60000 0 1 .rw .vol (.c 0) .all
/-- YRD_CTRL.AUTO_EN, R227. -/
def YRD_CTRL_AUTO_EN : Fld := mk0 0x60000 1 1 .rw .vol (.c 1) .all
/-- YRD_CTRL.ANCHOR_EN, R227. -/
def YRD_CTRL_ANCHOR_EN : Fld := mk0 0x60000 2 1 .rw .vol (.c 1) .all
/-- YRD_STATUS.CALIBRATED, R227. -/
def YRD_STATUS_CALIBRATED : Fld := mk0 0x60004 0 1 .ro .vol (.c 0) .all
/-- YRD_STATUS.N_CAL, R227. -/
def YRD_STATUS_N_CAL : Fld := mk0 0x60004 4 5 .ro .vol (.c 0) .all
/-- YRD_STATUS.LATE, R227. -/
def YRD_STATUS_LATE : Fld := mk0 0x60004 16 8 .ro .vol (.c 0) .all
/-- YRD_STATUS.DISCARDED, R227. -/
def YRD_STATUS_DISCARDED : Fld := mk0 0x60004 24 8 .ro .vol (.c 0) .all
/-- YRD_CFG.WAIT, R228. -/
def YRD_CFG_WAIT : Fld := mk0 0x60008 0 8 .rw (.part 0) (.c 12) (.range 1 40)
/-- YRD_CFG.MIN_ANCH, R228. -/
def YRD_CFG_MIN_ANCH : Fld := mk0 0x60008 8 4 .rw (.part 0) (.c 3) (.range 3 8)
/-- YRD_CFG.REPORT_RING, R228. -/
def YRD_CFG_REPORT_RING : Fld := mk0 0x60008 16 5 .rw (.part 0) (.c 0) .all
/-- YRD_CFG.FIX_RING, R228. -/
def YRD_CFG_FIX_RING : Fld := mk0 0x60008 24 5 .rw (.part 0) (.c 0) .all
/-- YRD_CFG2.REPORT_EN, R228. -/
def YRD_CFG2_REPORT_EN : Fld := mk0 0x6000C 0 1 .rw (.part 0) (.c 0) .all
/-- YRD_CFG2.FIX_EN, R228. -/
def YRD_CFG2_FIX_EN : Fld := mk0 0x6000C 1 1 .rw (.part 0) (.c 0) .all
/-- YRD_CFG2.SPACING, R228. -/
def YRD_CFG2_SPACING : Fld := mk0 0x6000C 8 7 .rw (.part 0) (.c 8) (.range 1 64)
/-- YRD_CFG2.SNR_MIN, R228. -/
def YRD_CFG2_SNR_MIN : Fld := mk0 0x6000C 16 8 .rw (.part 0) (.c 60) .all
/-- YRD_CAL_CFG.MAX_AGE, R229. -/
def YRD_CAL_CFG_MAX_AGE : Fld := mk0 0x60010 0 8 .rw (.part 0) (.c 2) (.range 1 60)
/-- YRD_CAL_CFG.AVG, R229. -/
def YRD_CAL_CFG_AVG : Fld := mk0 0x60010 8 4 .rw (.part 0) (.c 4) (.range 1 15)
/-- YRD_CAL_CFG.RES_TOL, R229. -/
def YRD_CAL_CFG_RES_TOL : Fld := mk0 0x60010 16 8 .rw (.part 0) (.c 20) .all
/-- YRD_HGT.HGT, R229. -/
def YRD_HGT_HGT : Fld := mk0 0x60014 0 32 .rw (.part 0) (.c 0) .all
/-- YRD_AUTO.RELEASE_S, R229. -/
def YRD_AUTO_RELEASE_S : Fld := mk0 0x60018 0 8 .rw (.part 0) (.c 10) (.range 1 255)
/-- YRD_AUTO.WAITING, R229. -/
def YRD_AUTO_WAITING : Fld := mk0 0x60018 8 8 .ro .vol (.c 0) .all
/-- YRD_AUTO.ALLOTTED, R229. -/
def YRD_AUTO_ALLOTTED : Fld := mk0 0x60018 16 8 .ro .vol (.c 0) .all
/-- YRD_ANCH_ID[i].DEV, R230. -/
def YRD_ANCH_ID_DEV : Fld := mk1 0x60100 0x20 16 0 10 .rw (.part 0) (.c 0) .all
/-- YRD_ANCH_ID[i].VALID, R230. -/
def YRD_ANCH_ID_VALID : Fld := mk1 0x60100 0x20 16 16 1 .rw (.part 0) (.c 0) .all
/-- YRD_ANCH_POS[i][j].POS, R230. -/
def YRD_ANCH_POS_POS : Fld := mk2 0x60104 0x20 16 0x4 6 0 32 .rw (.part 0) (.c 0) .all
/-- YRD_ANCH_CAL[i].CAL, R230. -/
def YRD_ANCH_CAL_CAL : Fld := mk1 0x6011C 0x20 16 0 1 .ro .vol (.c 0) .all
/-- YRD_ANCH_CAL[i].AGE, R230. -/
def YRD_ANCH_CAL_AGE : Fld := mk1 0x6011C 0x20 16 8 8 .ro .vol (.c 255) .all
/-- YRD_ANCH_CAL[i].RES, R230. -/
def YRD_ANCH_CAL_RES : Fld := mk1 0x6011C 0x20 16 16 8 .ro .vol (.c 255) .all
/-- YRD_PLAN[i].KIND, R231. -/
def YRD_PLAN_KIND : Fld := mk1 0x60400 0x4 110 0 2 .rw (.part 0) (.c 0) .all
/-- YRD_PLAN[i].CELL, R231. -/
def YRD_PLAN_CELL : Fld := mk1 0x60400 0x4 110 4 9 .rw (.part 0) (.c 0) .all
/-- YRD_PLAN[i].ID, R231. -/
def YRD_PLAN_ID : Fld := mk1 0x60400 0x4 110 16 10 .rw (.part 0) (.c 0) .all
/-- RAD_CTRL.EN, R274. -/
def RAD_CTRL_EN : Fld := mk0 0x70000 0 1 .rw .vol (.c 1) .all
/-- RAD_STATUS.ROLE, R274. -/
def RAD_STATUS_ROLE : Fld := mk0 0x70004 0 2 .ro .vol (.c 0) .all
/-- RAD_STATUS.HOLD_EOA, R274. -/
def RAD_STATUS_HOLD_EOA : Fld := mk0 0x70004 4 1 .ro .vol (.c 0) .all
/-- RAD_STATUS.FREE, R274. -/
def RAD_STATUS_FREE : Fld := mk0 0x70004 5 1 .ro .vol (.c 0) .all
/-- RAD_STATUS.DUP_ID, R274. -/
def RAD_STATUS_DUP_ID : Fld := mk0 0x70004 6 1 .ro .vol (.c 0) .all
/-- RAD_STATUS.NO_KEY, R274. -/
def RAD_STATUS_NO_KEY : Fld := mk0 0x70004 7 1 .ro .vol (.c 0) .all
/-- RAD_STATUS.MISSED, R274. -/
def RAD_STATUS_MISSED : Fld := mk0 0x70004 8 4 .ro .vol (.c 0) .all
/-- RAD_CELL_CFG.CELL_CH, R275. -/
def RAD_CELL_CFG_CELL_CH : Fld := mk0 0x70008 0 2 .rw (.part 3) (.c 0) (.range 0 2)
/-- RAD_CELL_CFG.CODE, R275. -/
def RAD_CELL_CFG_CODE : Fld := mk0 0x70008 4 2 .rw (.part 3) (.c 0) .all
/-- RAD_CELL_CFG.SITE_CH, R275. -/
def RAD_CELL_CFG_SITE_CH : Fld := mk0 0x70008 8 2 .rw (.part 3) (.c 0) (.range 0 2)
/-- RAD_CELL_CFG.SITE_CODE, R275. -/
def RAD_CELL_CFG_SITE_CODE : Fld := mk0 0x70008 12 2 .rw (.part 3) (.c 0) .all
/-- RAD_CELL_CFG.CELL, R275. -/
def RAD_CELL_CFG_CELL : Fld := mk0 0x70008 16 9 .rw (.part 3) (.c 0) .all
/-- RAD_TX_CFG.PWR, R275. -/
def RAD_TX_CFG_PWR : Fld := mk0 0x7000C 0 7 .rw .vol (.c 40) (.range 0 60)
/-- RAD_TX_CFG.PA_EN_MODE, R275. -/
def RAD_TX_CFG_PA_EN_MODE : Fld := mk0 0x7000C 8 1 .rw .vol (.c 0) .all
/-- RAD_TX_CFG.TRSW_POL, R275. -/
def RAD_TX_CFG_TRSW_POL : Fld := mk0 0x7000C 9 1 .rw .vol (.c 0) .all
/-- RAD_TIMING.WIN, R275. -/
def RAD_TIMING_WIN : Fld := mk0 0x70010 0 4 .rw .vol (.c 8) (.range 2 10)
/-- RAD_TIMING.TCORR_THR, R275. -/
def RAD_TIMING_TCORR_THR : Fld := mk0 0x70010 8 4 .rw .vol (.c 2) (.range 1 8)
/-- RAD_SITE_CFG.PRIO, R276. -/
def RAD_SITE_CFG_PRIO : Fld := mk0 0x70014 0 4 .rw (.part 3) (.c 0) .all
/-- RAD_SITE_CFG.ELECT_T, R276. -/
def RAD_SITE_CFG_ELECT_T : Fld := mk0 0x70014 8 8 .rw .vol (.c 10) (.range 3 255)
/-- RAD_SITE_CFG.REALIGN, R276. -/
def RAD_SITE_CFG_REALIGN : Fld := mk0 0x70014 16 8 .rw .vol (.c 40) .all
/-- RAD_SITE_STAT.MASTER_ID, R276. -/
def RAD_SITE_STAT_MASTER_ID : Fld := mk0 0x70018 0 10 .ro .vol (.c 0) .all
/-- RAD_SITE_STAT.MASTER_VALID, R276. -/
def RAD_SITE_STAT_MASTER_VALID : Fld := mk0 0x70018 10 1 .ro .vol (.c 0) .all
/-- RAD_SITE_STAT.MASTER_CELL, R276. -/
def RAD_SITE_STAT_MASTER_CELL : Fld := mk0 0x70018 16 9 .ro .vol (.c 0) .all
/-- RAD_SITE_STAT.HEARD, R276. -/
def RAD_SITE_STAT_HEARD : Fld := mk0 0x70018 26 6 .ro .vol (.c 0) .all
/-- RAD_KEY_CFG.CUR_SLOT, R277. -/
def RAD_KEY_CFG_CUR_SLOT : Fld := mk0 0x7001C 0 6 .rw (.part 3) (.c 0) .all
/-- RAD_KEY_CFG.NEXT_SLOT, R277. -/
def RAD_KEY_CFG_NEXT_SLOT : Fld := mk0 0x7001C 8 6 .rw (.part 3) (.c 1) .all
/-- RAD_KEY_CFG.SITE_SLOT, R277. -/
def RAD_KEY_CFG_SITE_SLOT : Fld := mk0 0x7001C 16 6 .rw (.part 3) (.c 2) .all
/-- RAD_KEY_CFG.SWITCH_ARMED, R277. -/
def RAD_KEY_CFG_SWITCH_ARMED : Fld := mk0 0x7001C 24 1 .rw .vol (.c 0) .all
/-- RAD_KEY_SWITCH_LO.SFN_LO, R277. -/
def RAD_KEY_SWITCH_LO_SFN_LO : Fld := mk0 0x70020 0 32 .rw .vol (.c 0) .all
/-- RAD_KEY_SWITCH_HI.SFN_HI, R277. -/
def RAD_KEY_SWITCH_HI_SFN_HI : Fld := mk0 0x70024 0 16 .rw .vol (.c 0) .all
/-- RAD_ERR.CRC_ERR, R278. -/
def RAD_ERR_CRC_ERR : Fld := mk0 0x70028 0 8 .ro .vol (.c 0) .all
/-- RAD_ERR.MIC_FAIL, R278. -/
def RAD_ERR_MIC_FAIL : Fld := mk0 0x70028 8 8 .ro .vol (.c 0) .all
/-- RAD_ERR.REPLAY, R278. -/
def RAD_ERR_REPLAY : Fld := mk0 0x70028 16 8 .ro .vol (.c 0) .all
/-- RAD_ERR.WINDOW, R278. -/
def RAD_ERR_WINDOW : Fld := mk0 0x70028 24 8 .ro .vol (.c 0) .all
/-- RAD_UL_STAT[i].OFS, R279. -/
def RAD_UL_STAT_OFS : Fld := mk1 0x70100 0x4 240 0 16 .ro .vol (.c 0) .all
/-- RAD_UL_STAT[i].SNR, R279. -/
def RAD_UL_STAT_SNR : Fld := mk1 0x70100 0x4 240 16 8 .ro .vol (.c 0) .all
/-- RAD_UL_STAT[i].MISSED, R279. -/
def RAD_UL_STAT_MISSED : Fld := mk1 0x70100 0x4 240 24 8 .ro .vol (.c 0) .all
/-- RAD_ADMIT_LO[i].SERIAL_LO, R280. -/
def RAD_ADMIT_LO_SERIAL_LO : Fld := mk1 0x70800 0x8 240 0 32 .rw (.part 3) (.c 0) .all
/-- RAD_ADMIT_HI[i].SERIAL_HI, R280. -/
def RAD_ADMIT_HI_SERIAL_HI : Fld := mk1 0x70804 0x8 240 0 32 .rw (.part 3) (.c 0) .all
/-- RAD_ADMIT_VALID[i].VALID, R280. -/
def RAD_ADMIT_VALID_VALID : Fld := mk1 0x70F80 0x4 8 0 32 .rw (.part 3) (.c 0) .all
/-- RSV_CTRL.EN, R314. -/
def RSV_CTRL_EN : Fld := mk0 0x80000 0 1 .rw .vol (.c 0) .all
/-- RSV_STATUS.MAP_OK, R314. -/
def RSV_STATUS_MAP_OK : Fld := mk0 0x80004 0 1 .ro .vol (.c 0) .all
/-- RSV_STATUS.COMPARE_OK, R314. -/
def RSV_STATUS_COMPARE_OK : Fld := mk0 0x80004 1 1 .ro .vol (.c 1) .all
/-- RSV_STATUS.GRANT_HOLD, R314. -/
def RSV_STATUS_GRANT_HOLD : Fld := mk0 0x80004 2 1 .ro .vol (.c 0) .all
/-- RSV_STATUS.COMMIT_BUSY, R314. -/
def RSV_STATUS_COMMIT_BUSY : Fld := mk0 0x80004 3 1 .ro .vol (.c 0) .all
/-- RSV_STATUS.QUEUE, R314. -/
def RSV_STATUS_QUEUE : Fld := mk0 0x80004 8 7 .ro .vol (.c 0) .all
/-- RSV_STATUS.PARKED, R314. -/
def RSV_STATUS_PARKED : Fld := mk0 0x80004 16 7 .ro .vol (.c 0) .all
/-- RSV_CFG.REL_MARGIN, R315. -/
def RSV_CFG_REL_MARGIN : Fld := mk0 0x80008 0 8 .rw .vol (.c 50) .all
/-- RSV_CFG.RELEASE_N, R315. -/
def RSV_CFG_RELEASE_N : Fld := mk0 0x80008 8 2 .rw .vol (.c 2) (.range 1 3)
/-- RSV_CFG.MAX_AGE, R315. -/
def RSV_CFG_MAX_AGE : Fld := mk0 0x80008 16 8 .rw .vol (.c 50) (.range 1 255)
/-- RSV_CFG.SHORTEN_T, R315. -/
def RSV_CFG_SHORTEN_T : Fld := mk0 0x80008 24 8 .rw .vol (.c 5) (.range 1 255)
/-- RSV_MAP_VER.VER, R315. -/
def RSV_MAP_VER_VER : Fld := mk0 0x8000C 0 32 .ro (.part 1) (.c 0) .all
/-- RSV_COUNTS.GRANTS, R315. -/
def RSV_COUNTS_GRANTS : Fld := mk0 0x80010 0 16 .ro .vol (.c 0) .all
/-- RSV_COUNTS.REFUSALS, R315. -/
def RSV_COUNTS_REFUSALS : Fld := mk0 0x80010 16 16 .ro .vol (.c 0) .all
/-- RSV_ENG.MISMATCH, R315. -/
def RSV_ENG_MISMATCH : Fld := mk0 0x80014 0 1 .w1c .vol (.c 0) .all
/-- RSV_ENG.CAUSE, R315. -/
def RSV_ENG_CAUSE : Fld := mk0 0x80014 1 3 .ro .vol (.c 0) .all
/-- RSV_ENG.ECC_FIX, R315. -/
def RSV_ENG_ECC_FIX : Fld := mk0 0x80014 8 8 .ro .vol (.c 0) .all
/-- RSV_MACH[i].REAR, R316. -/
def RSV_MACH_REAR : Fld := mk1 0x80400 0x4 240 0 16 .rw (.part 1) (.c 65535) .all
/-- RSV_MACH[i].HELD, R316. -/
def RSV_MACH_HELD : Fld := mk1 0x80400 0x4 240 16 7 .ro .vol (.c 0) .all
/-- RSV_MACH[i].JOINED, R316. -/
def RSV_MACH_JOINED : Fld := mk1 0x80400 0x4 240 24 1 .ro .vol (.c 0) .all
/-- RSV_BOUND[i].SEG, R317. -/
def RSV_BOUND_SEG : Fld := mk1 0x80800 0x4 64 0 11 .ro .mram (.c 0) .all
/-- RSV_BOUND[i].STATE, R317. -/
def RSV_BOUND_STATE : Fld := mk1 0x80800 0x4 64 12 2 .ro .mram (.c 0) .all
/-- RSV_BOUND[i].SEQ, R317. -/
def RSV_BOUND_SEQ : Fld := mk1 0x80800 0x4 64 16 16 .ro .mram (.c 0) .all
/-- RSV_CG[i].HOLDER, R318. -/
def RSV_CG_HOLDER : Fld := mk1 0x81000 0x4 512 0 8 .ro .vol (.c 255) .all
/-- RSV_CG[i].COUNT, R318. -/
def RSV_CG_COUNT : Fld := mk1 0x81000 0x4 512 8 8 .ro .vol (.c 0) .all
/-- RSV_SEG[i].HOLDER, R318. -/
def RSV_SEG_HOLDER : Fld := mk1 0x82000 0x4 2048 0 8 .ro .vol (.c 255) .all
/-- RSV_SEG[i].STATE, R318. -/
def RSV_SEG_STATE : Fld := mk1 0x82000 0x4 2048 8 3 .ro .vol (.c 0) .all
/-- RSV_SEG[i].CONF_LOST, R318. -/
def RSV_SEG_CONF_LOST : Fld := mk1 0x82000 0x4 2048 11 1 .ro .vol (.c 0) .all
/-- RSV_SEG[i].ROUTE_ID, R318. -/
def RSV_SEG_ROUTE_ID : Fld := mk1 0x82000 0x4 2048 16 16 .ro .vol (.c 0) .all
/-- BRK_STATUS.CELL_DRAG, R353. -/
def BRK_STATUS_CELL_DRAG : Fld := mk0 0x90000 0 1 .ro .vol (.c 1) .all
/-- BRK_STATUS.DRAG_OUT, R353. -/
def BRK_STATUS_DRAG_OUT : Fld := mk0 0x90000 1 1 .ro .vol (.c 1) .all
/-- BRK_STATUS.STOPS, R353. -/
def BRK_STATUS_STOPS : Fld := mk0 0x90000 8 8 .ro .vol (.c 0) .all
/-- BRK_STATUS.AUTHS, R353. -/
def BRK_STATUS_AUTHS : Fld := mk0 0x90000 16 8 .ro .vol (.c 0) .all
/-- BRK_SRC.SRC, R353. -/
def BRK_SRC_SRC : Fld := mk0 0x90004 0 6 .ro .vol (.c 4) .all
/-- BRK_CFG.SPD_TOL, R354. -/
def BRK_CFG_SPD_TOL : Fld := mk0 0x90008 0 8 .rw (.part 1) (.c 5) .all
/-- BRK_CFG.AGE_MAX, R354. -/
def BRK_CFG_AGE_MAX : Fld := mk0 0x90008 8 8 .rw (.part 1) (.c 20) (.range 1 100)
/-- BRK_CFG.MISS_N, R354. -/
def BRK_CFG_MISS_N : Fld := mk0 0x90008 16 2 .rw (.part 1) (.c 2) (.range 1 3)
/-- BRK_CFG.STILL_SPD, R354. -/
def BRK_CFG_STILL_SPD : Fld := mk0 0x90008 24 8 .rw (.part 1) (.c 2) .all
/-- BRK_CFG2.BACK_TOL, R354. -/
def BRK_CFG2_BACK_TOL : Fld := mk0 0x9000C 0 8 .rw (.part 1) (.c 20) .all
/-- BRK_CFG2.AUTH_ACK_T, R354. -/
def BRK_CFG2_AUTH_ACK_T : Fld := mk0 0x9000C 8 8 .rw (.part 1) (.c 5) (.range 1 255)
/-- BRK_IN.A, R355. -/
def BRK_IN_A : Fld := mk0 0x90010 0 1 .ro .vol (.c 0) .all
/-- BRK_IN.B, R355. -/
def BRK_IN_B : Fld := mk0 0x90010 1 1 .ro .vol (.c 0) .all
/-- BRK_IN.DISC, R355. -/
def BRK_IN_DISC : Fld := mk0 0x90010 2 1 .w1c .vol (.c 0) .all
/-- BRK_IN.DISC_T, R355. -/
def BRK_IN_DISC_T : Fld := mk0 0x90010 8 8 .rw (.part 1) (.c 50) (.range 5 255)
/-- BRK_WD_CFG.ACTION, R355. -/
def BRK_WD_CFG_ACTION : Fld := mk0 0x90014 0 2 .rw (.part 1) (.c 0) (.range 0 2)
/-- BRK_WD_CFG.PERIOD, R355. -/
def BRK_WD_CFG_PERIOD : Fld := mk0 0x90014 4 12 .rw (.part 1) (.c 500) (.range 10 4095)
/-- BRK_WD_CFG.EXPIRED, R355. -/
def BRK_WD_CFG_EXPIRED : Fld := mk0 0x90014 16 1 .w1c .vol (.c 0) .all
/-- BRK_WD_KICK.KEY, R355. -/
def BRK_WD_KICK_KEY : Fld := mk0 0x90018 0 32 .wo .vol (.c 0) .all
/-- BRK_LAT.LAST_US, R355. -/
def BRK_LAT_LAST_US : Fld := mk0 0x9001C 0 16 .ro .vol (.c 0) .all
/-- BRK_LAT.MAX_US, R355. -/
def BRK_LAT_MAX_US : Fld := mk0 0x9001C 16 16 .ro .vol (.c 0) .all
/-- BRK_STOP[i].STOP, R356. -/
def BRK_STOP_STOP : Fld := mk1 0x90100 0x4 8 0 32 .ro .vol (.c 0) .all
/-- BRK_MODEL[i].A_BRAKE, R357. -/
def BRK_MODEL_A_BRAKE : Fld := mk1 0x91000 0x10 240 0 12 .rw (.part 1) (.c 10) (.range 10 1000)
/-- BRK_MODEL[i].A_ACC, R357. -/
def BRK_MODEL_A_ACC : Fld := mk1 0x91000 0x10 240 16 12 .rw (.part 1) (.c 0) .all
/-- BRK_MODEL[i].VALID, R357. -/
def BRK_MODEL_VALID : Fld := mk1 0x91000 0x10 240 31 1 .rw (.part 1) (.c 0) .all
/-- BRK_MODEL[i].T, R357. -/
def BRK_MODEL_T : Fld := mk1 0x91004 0x10 240 0 16 .rw (.part 1) (.c 0) .all
/-- BRK_MODEL[i].V_MAX, R357. -/
def BRK_MODEL_V_MAX : Fld := mk1 0x91004 0x10 240 16 8 .rw (.part 1) (.c 0) .all
/-- BRK_MODEL[i].FRONT, R357. -/
def BRK_MODEL_FRONT : Fld := mk1 0x91008 0x10 240 0 16 .rw (.part 1) (.c 0) .all
/-- BRK_MODEL[i].MODEL_CRC, R357. -/
def BRK_MODEL_MODEL_CRC : Fld := mk1 0x9100C 0x10 240 0 16 .ro (.part 1) (.c 0) .all
/-- BRK_MACH[i].AUTH_SEQ, R358. -/
def BRK_MACH_AUTH_SEQ : Fld := mk1 0x92000 0x4 240 0 16 .ro .vol (.c 0) .all
/-- BRK_MACH[i].ACKED, R358. -/
def BRK_MACH_ACKED : Fld := mk1 0x92000 0x4 240 16 1 .ro .vol (.c 0) .all
/-- BRK_MACH[i].VOID, R358. -/
def BRK_MACH_VOID : Fld := mk1 0x92000 0x4 240 17 1 .ro .vol (.c 1) .all
/-- BRK_MACH[i].HOLD, R358. -/
def BRK_MACH_HOLD : Fld := mk1 0x92000 0x4 240 18 1 .ro .vol (.c 0) .all
/-- BRK_MACH[i].WITHHELD, R358. -/
def BRK_MACH_WITHHELD : Fld := mk1 0x92000 0x4 240 19 1 .ro .vol (.c 0) .all
/-- BRK_MACH[i].CAUSE, R358. -/
def BRK_MACH_CAUSE : Fld := mk1 0x92000 0x4 240 20 4 .ro .vol (.c 0) .all
/-- BRK_MACH[i].MISS, R358. -/
def BRK_MACH_MISS : Fld := mk1 0x92000 0x4 240 24 2 .ro .vol (.c 0) .all
/-- WB_CTRL.EN, R397. -/
def WB_CTRL_EN : Fld := mk0 0xA0000 0 1 .rw .vol (.c 0) .all
/-- WB_STATUS.IN_FLIGHT, R397. -/
def WB_STATUS_IN_FLIGHT : Fld := mk0 0xA0004 0 13 .ro .vol (.c 0) .all
/-- WB_STATUS.READY, R397. -/
def WB_STATUS_READY : Fld := mk0 0xA0004 16 13 .ro .vol (.c 0) .all
/-- WB_STATUS.STORE_FULL, R397. -/
def WB_STATUS_STORE_FULL : Fld := mk0 0xA0004 29 1 .ro .vol (.c 0) .all
/-- WB_STATUS.FIFO_FULL, R397. -/
def WB_STATUS_FIFO_FULL : Fld := mk0 0xA0004 30 1 .ro .vol (.c 0) .all
/-- WB_CFG.DONE_RING, R398. -/
def WB_CFG_DONE_RING : Fld := mk0 0xA0008 0 5 .rw .mram (.c 0) .all
/-- WB_CFG.DISP_RING, R398. -/
def WB_CFG_DISP_RING : Fld := mk0 0xA0008 8 5 .rw .mram (.c 0) .all
/-- WB_CFG.EVT_RING, R398. -/
def WB_CFG_EVT_RING : Fld := mk0 0xA0008 16 5 .rw .mram (.c 0) .all
/-- WB_CFG.EVT_EN, R398. -/
def WB_CFG_EVT_EN : Fld := mk0 0xA0008 24 1 .rw .mram (.c 0) .all
/-- WB_CFG2.ORDER_TRIES, R398. -/
def WB_CFG2_ORDER_TRIES : Fld := mk0 0xA000C 0 8 .rw .mram (.c 10) (.range 1 255)
/-- WB_FIFO.DEPTH, R399. -/
def WB_FIFO_DEPTH : Fld := mk0 0xA0010 0 14 .ro .vol (.c 0) .all
/-- WB_FIFO.HWM, R399. -/
def WB_FIFO_HWM : Fld := mk0 0xA0010 16 14 .w1c .vol (.c 0) .all
/-- WB_COUNTS.ENDED, R399. -/
def WB_COUNTS_ENDED : Fld := mk0 0xA0014 0 16 .ro .vol (.c 0) .all
/-- WB_COUNTS.REPEATS, R399. -/
def WB_COUNTS_REPEATS : Fld := mk0 0xA0014 16 8 .ro .vol (.c 0) .all
/-- WB_COUNTS.EVT_DISCARD, R399. -/
def WB_COUNTS_EVT_DISCARD : Fld := mk0 0xA0014 24 8 .ro .vol (.c 0) .all
/-- WB_DELAY.USED, R399. -/
def WB_DELAY_USED : Fld := mk0 0xA0018 0 13 .ro .vol (.c 0) .all
/-- WB_DELAY.LAG_MAX, R399. -/
def WB_DELAY_LAG_MAX : Fld := mk0 0xA0018 16 16 .ro .vol (.c 0) .all
/-- WB_TICK.TICK, R399. -/
def WB_TICK_TICK : Fld := mk0 0xA001C 0 32 .ro .vol (.c 0) .all
/-- WB_RANK[i].COUNT, R400. -/
def WB_RANK_COUNT : Fld := mk1 0xA0040 0x4 8 0 13 .ro .vol (.c 0) .all
/-- WB_RANK[i].BLOCKED, R400. -/
def WB_RANK_BLOCKED : Fld := mk1 0xA0040 0x4 8 16 4 .ro .vol (.c 0) .all
/-- WB_HOSTFLAG[i].FLAG, R401. -/
def WB_HOSTFLAG_FLAG : Fld := mk1 0xA0100 0x4 128 0 32 .ro .vol (.c 0) .all
/-- WB_POOL[i][j].MEMBER, R402. -/
def WB_POOL_MEMBER : Fld := mk2 0xA0400 0x20 16 0x4 8 0 32 .rw (.part 0) (.c 0) .all
/-- WB_MACH[i].BOUND, R402. -/
def WB_MACH_BOUND : Fld := mk1 0xA0800 0x4 240 0 16 .ro .vol (.c 65535) .all
/-- WB_MACH[i].LOT, R402. -/
def WB_MACH_LOT : Fld := mk1 0xA0800 0x4 240 16 8 .ro .vol (.c 0) .all
/-- WB_MACH[i].LOT_VALID, R402. -/
def WB_MACH_LOT_VALID : Fld := mk1 0xA0800 0x4 240 26 1 .ro .vol (.c 0) .all
/-- WB_MACH[i].FREE, R402. -/
def WB_MACH_FREE : Fld := mk1 0xA0800 0x4 240 24 1 .ro .vol (.c 0) .all
/-- WB_MACH[i].DISABLE, R402. -/
def WB_MACH_DISABLE : Fld := mk1 0xA0800 0x4 240 25 1 .rw .mram (.c 0) .all
/-- WB_PEEK_IDX.INDEX, R403. -/
def WB_PEEK_IDX_INDEX : Fld := mk0 0xA1000 0 12 .rw .vol (.c 0) .all
/-- WB_PEEK_DATA[i].DATA, R403. -/
def WB_PEEK_DATA_DATA : Fld := mk1 0xA1010 0x4 16 0 32 .ro .vol (.c 0) .all
/-- WB_RESTART[i].LINE, R403. -/
def WB_RESTART_LINE : Fld := mk1 0xA1080 0x4 8 0 32 .ro .vol (.c 0) .all
/-- WB_RESTART_STAT.VALID, R403. -/
def WB_RESTART_STAT_VALID : Fld := mk0 0xA10A0 0 1 .ro .vol (.c 0) .all
/-- ID_PART.PART, R408. -/
def ID_PART_PART : Fld := mk0 0x0 0 32 .ro .ident (.c 29074) .all
/-- ID_REV.STEP, R408. -/
def ID_REV_STEP : Fld := mk0 0x4 0 4 .ro .ident (.c 2) .all
/-- ID_REV.GRADE, R408. -/
def ID_REV_GRADE : Fld := mk0 0x4 4 4 .ro .ident (.c 0) .all
/-- ID_DEV.DEV, R408. -/
def ID_DEV_DEV : Fld := mk0 0x8 0 10 .ro .ident (.c 0) .all
/-- ID_SERIAL_LO.SERIAL, R408. -/
def ID_SERIAL_LO_SERIAL : Fld := mk0 0xC 0 32 .ro .ident (.c 0) .all
/-- ID_SERIAL_HI.SERIAL, R408. -/
def ID_SERIAL_HI_SERIAL : Fld := mk0 0x10 0 32 .ro .ident (.c 0) .all
/-- ID_MAP.VER, R408. -/
def ID_MAP_VER : Fld := mk0 0x14 0 16 .ro .ident (.c 1) .all
/-- RING_GLB_STATUS.LINK_UP, R442. -/
def RING_GLB_STATUS_LINK_UP : Fld := mk0 0xB0000 0 1 .ro .vol (.c 0) .all
/-- RING_GLB_STATUS.SPEED, R442. -/
def RING_GLB_STATUS_SPEED : Fld := mk0 0xB0000 1 2 .ro .vol (.c 0) .all
/-- RING_GLB_STATUS.WIDTH, R442. -/
def RING_GLB_STATUS_WIDTH : Fld := mk0 0xB0000 3 2 .ro .vol (.c 0) .all
/-- RING_GLB_STATUS.PAUSED, R442. -/
def RING_GLB_STATUS_PAUSED : Fld := mk0 0xB0000 5 1 .ro .vol (.c 0) .all
/-- RING_JOURNAL.JOURNAL, R442. -/
def RING_JOURNAL_JOURNAL : Fld := mk0 0xB0004 0 32 .ro .vol (.c 0) .all
/-- RING_BOOT.BOOT, R442. -/
def RING_BOOT_BOOT : Fld := mk0 0xB0008 0 32 .ro .ident (.c 0) .all
/-- RING_DEV_IRQ.FAULT, R442. -/
def RING_DEV_IRQ_FAULT : Fld := mk0 0xB000C 0 1 .w1c .vol (.c 0) .all
/-- RING_DEV_IRQ.BLOCK, R442. -/
def RING_DEV_IRQ_BLOCK : Fld := mk0 0xB000C 1 20 .ro .vol (.c 0) .all
/-- RING_DEV_IRQ_EN.EN, R442. -/
def RING_DEV_IRQ_EN_EN : Fld := mk0 0xB0010 0 21 .rw .vol (.c 1) .all
/-- RING_LINK_LOST.JOURNAL, R442. -/
def RING_LINK_LOST_JOURNAL : Fld := mk0 0xB0014 0 32 .ro .mram (.c 0) .all
/-- RING_LINK_DROP.CPL, R442. -/
def RING_LINK_DROP_CPL : Fld := mk0 0xB0018 0 16 .ro .mram (.c 0) .all
/-- RING_LINK_DROP.ITEMS, R442. -/
def RING_LINK_DROP_ITEMS : Fld := mk0 0xB0018 16 16 .ro .mram (.c 0) .all
/-- RING_BASE_LO[i].ADDR, R443. -/
def RING_BASE_LO_ADDR : Fld := mk1 0xB0100 0x40 32 12 20 .rw .vol (.c 0) .all
/-- RING_BASE_HI[i].ADDR, R443. -/
def RING_BASE_HI_ADDR : Fld := mk1 0xB0104 0x40 32 0 32 .rw .vol (.c 0) .all
/-- RING_CFG[i].KIND, R443. -/
def RING_CFG_KIND : Fld := mk1 0xB0108 0x40 32 0 2 .rw .vol (.c 0) (.range 0 2)
/-- RING_CFG[i].LOG2, R443. -/
def RING_CFG_LOG2 : Fld := mk1 0xB0108 0x40 32 4 5 .rw .vol (.c 6) (.range 6 16)
/-- RING_CFG[i].PRIO, R443. -/
def RING_CFG_PRIO : Fld := mk1 0xB0108 0x40 32 12 1 .rw .vol (.c 0) .all
/-- RING_CFG[i].COMPL, R443. -/
def RING_CFG_COMPL : Fld := mk1 0xB0108 0x40 32 16 5 .rw .vol (.c 0) .all
/-- RING_CTRL[i].EN, R443. -/
def RING_CTRL_EN : Fld := mk1 0xB010C 0x40 32 0 1 .rw .vol (.c 0) .all
/-- RING_CTRL[i].FLUSH, R443. -/
def RING_CTRL_FLUSH : Fld := mk1 0xB010C 0x40 32 1 1 .w1s .vol (.c 0) .all
/-- RING_STATUS[i].STATE, R444. -/
def RING_STATUS_STATE : Fld := mk1 0xB0110 0x40 32 0 2 .ro .vol (.c 0) .all
/-- RING_STATUS[i].FULL, R444. -/
def RING_STATUS_FULL : Fld := mk1 0xB0110 0x40 32 4 1 .ro .vol (.c 0) .all
/-- RING_STATUS[i].STAGED, R444. -/
def RING_STATUS_STAGED : Fld := mk1 0xB0110 0x40 32 8 4 .ro .vol (.c 0) .all
/-- RING_STATUS[i].RESERVED, R444. -/
def RING_STATUS_RESERVED : Fld := mk1 0xB0110 0x40 32 16 16 .ro .vol (.c 0) .all
/-- RING_PROD[i].P, R444. -/
def RING_PROD_P : Fld := mk1 0xB0114 0x40 32 0 32 .ro .vol (.c 0) .all
/-- RING_CONS[i].C, R444. -/
def RING_CONS_C : Fld := mk1 0xB0118 0x40 32 0 32 .ro .vol (.c 0) .all
/-- RING_IRQ_CFG[i].COUNT, R444. -/
def RING_IRQ_CFG_COUNT : Fld := mk1 0xB011C 0x40 32 0 16 .rw .vol (.c 1) .all
/-- RING_IRQ_CFG[i].TIMER, R444. -/
def RING_IRQ_CFG_TIMER : Fld := mk1 0xB011C 0x40 32 16 16 .rw .vol (.c 0) .all
/-- RING_ECC[i].CORRECTED, R445. -/
def RING_ECC_CORRECTED : Fld := mk1 0xB0120 0x40 32 0 16 .ro .vol (.c 0) .all
/-- RING_ECC[i].UNCORR, R445. -/
def RING_ECC_UNCORR : Fld := mk1 0xB0120 0x40 32 16 8 .ro .vol (.c 0) .all
/-- RING_ERR[i].DB_BAD, R445. -/
def RING_ERR_DB_BAD : Fld := mk1 0xB0124 0x40 32 0 1 .w1c .vol (.c 0) .all
/-- RING_ERR[i].DMA, R445. -/
def RING_ERR_DMA : Fld := mk1 0xB0124 0x40 32 1 1 .w1c .vol (.c 0) .all
/-- RING_ERR[i].TOO_LONG, R445. -/
def RING_ERR_TOO_LONG : Fld := mk1 0xB0124 0x40 32 2 1 .w1c .vol (.c 0) .all
/-- RING_ERR[i].REFUSED, R445. -/
def RING_ERR_REFUSED : Fld := mk1 0xB0124 0x40 32 3 1 .w1c .vol (.c 0) .all
/-- RING_ERR[i].ECC_UNC, R445. -/
def RING_ERR_ECC_UNC : Fld := mk1 0xB0124 0x40 32 4 1 .w1c .vol (.c 0) .all
/-- RING_FLUSHED[i].ENTRIES, R445. -/
def RING_FLUSHED_ENTRIES : Fld := mk1 0xB0128 0x40 32 0 32 .ro .vol (.c 0) .all
/-- RING_DROP[i].ITEMS, R445. -/
def RING_DROP_ITEMS : Fld := mk1 0xB012C 0x40 32 0 32 .ro .vol (.c 0) .all
/-- MTR_CTRL.EN, R481. -/
def MTR_CTRL_EN : Fld := mk0 0xC0000 0 1 .rw (.part 0) (.c 0) .all
/-- MTR_CTRL.STREAM_EN, R481. -/
def MTR_CTRL_STREAM_EN : Fld := mk0 0xC0000 1 1 .rw (.part 0) (.c 0) .all
/-- MTR_CTRL.STREAM_RING, R481. -/
def MTR_CTRL_STREAM_RING : Fld := mk0 0xC0000 8 5 .rw (.part 0) (.c 0) .all
/-- MTR_STATUS.ZX_LOST, R481. -/
def MTR_STATUS_ZX_LOST : Fld := mk0 0xC0004 0 3 .ro .vol (.c 0) .all
/-- MTR_STATUS.REF, R481. -/
def MTR_STATUS_REF : Fld := mk0 0xC0004 4 2 .ro .vol (.c 0) .all
/-- MTR_STATUS.FREE_RUN, R481. -/
def MTR_STATUS_FREE_RUN : Fld := mk0 0xC0004 6 1 .ro .vol (.c 0) .all
/-- MTR_STATUS.UNREAD, R481. -/
def MTR_STATUS_UNREAD : Fld := mk0 0xC0004 16 8 .ro .mram (.c 0) .all
/-- MTR_ZX_CFG.TIMEOUT, R481. -/
def MTR_ZX_CFG_TIMEOUT : Fld := mk0 0xC0008 0 8 .rw (.part 0) (.c 50) (.range 20 200)
/-- MTR_ZX_CFG.REF, R481. -/
def MTR_ZX_CFG_REF : Fld := mk0 0xC0008 8 2 .rw (.part 0) (.c 0) (.range 0 2)
/-- MTR_ZX_CFG.AUTO_REF, R481. -/
def MTR_ZX_CFG_AUTO_REF : Fld := mk0 0xC0008 12 1 .rw (.part 0) (.c 1) .all
/-- MTR_FREQ.FREQ, R481. -/
def MTR_FREQ_FREQ : Fld := mk0 0xC000C 0 16 .ro .vol (.c 0) .all
/-- MTR_NOLOAD.NL_FEED, R482. -/
def MTR_NOLOAD_NL_FEED : Fld := mk0 0xC0010 0 16 .rw (.part 0) (.c 10) .all
/-- MTR_NOLOAD.NL_DOCK, R482. -/
def MTR_NOLOAD_NL_DOCK : Fld := mk0 0xC0010 16 16 .rw (.part 0) (.c 50) .all
/-- MTR_SAVE_STAT.SAVE_NO, R482. -/
def MTR_SAVE_STAT_SAVE_NO : Fld := mk0 0xC0014 0 32 .ro .mram (.c 0) .all
/-- MTR_CALBAD.BAD, R482. -/
def MTR_CALBAD_BAD : Fld := mk0 0xC0018 0 13 .ro .vol (.c 0) .all
/-- MTR_CH_CFG[i].FS, R483. -/
def MTR_CH_CFG_FS : Fld := mk1 0xC0100 0x4 13 0 16 .rw (.part 0) (.c 0) .all
/-- MTR_CH_CFG[i].I_NOM, R483. -/
def MTR_CH_CFG_I_NOM : Fld := mk1 0xC0100 0x4 13 16 16 .rw (.part 0) (.c 0) .all
/-- MTR_DOCK_CFG[i].PHASE, R483. -/
def MTR_DOCK_CFG_PHASE : Fld := mk1 0xC0140 0x4 6 0 2 .rw (.part 0) (.c 0) (.range 0 2)
/-- MTR_DOCK_CFG[i].SEG, R483. -/
def MTR_DOCK_CFG_SEG : Fld := mk1 0xC0140 0x4 6 4 11 .rw (.part 0) (.c 0) .all
/-- MTR_DOCK_CFG[i].SEG_EN, R483. -/
def MTR_DOCK_CFG_SEG_EN : Fld := mk1 0xC0140 0x4 6 15 1 .rw (.part 0) (.c 0) .all
/-- MTR_SRC_CFG[i].SAVE, R483. -/
def MTR_SRC_CFG_SAVE : Fld := mk1 0xC0180 0x4 26 0 1 .rw (.part 0) (.idx [1, 1, 1, 1, 1, 1, 1, 1, 1, 1, 1, 1, 1, 1]) .all
/-- MTR_SRC_CFG[i].SAME_FEED, R483. -/
def MTR_SRC_CFG_SAME_FEED : Fld := mk1 0xC0180 0x4 26 1 1 .rw (.part 0) (.idx [1, 1, 1, 1, 1, 1, 1, 1, 1, 1]) .all
/-- MTR_SRC_CFG[i].BOUND, R483. -/
def MTR_SRC_CFG_BOUND : Fld := mk1 0xC0180 0x4 26 16 16 .ro .vol (.c 65535) .all
/-- MTR_CAL[i][j].I_PT, R484. -/
def MTR_CAL_I_PT : Fld := mk2 0xC0400 0x40 13 0x10 4 0 24 .rw (.part 0) (.c 0) .all
/-- MTR_CAL[i][j].VALID, R484. -/
def MTR_CAL_VALID : Fld := mk2 0xC0400 0x40 13 0x10 4 31 1 .rw (.part 0) (.c 0) .all
/-- MTR_CAL[i][j].GAIN, R484. -/
def MTR_CAL_GAIN : Fld := mk2 0xC0404 0x40 13 0x10 4 0 24 .rw (.part 0) (.c 0) .all
/-- MTR_CAL[i][j].PHASE, R484. -/
def MTR_CAL_PHASE : Fld := mk2 0xC0408 0x40 13 0x10 4 0 16 .rw (.part 0) (.c 0) .all
/-- MTR_PI_CFG[i].DEB, R485. -/
def MTR_PI_CFG_DEB : Fld := mk1 0xC0800 0x10 16 0 8 .rw (.part 0) (.c 10) (.range 1 255)
/-- MTR_PI_CFG[i].SUP_EN, R485. -/
def MTR_PI_CFG_SUP_EN : Fld := mk1 0xC0800 0x10 16 8 1 .rw (.part 0) (.c 0) .all
/-- MTR_PI_STAT[i].LEVEL, R485. -/
def MTR_PI_STAT_LEVEL : Fld := mk1 0xC0804 0x10 16 0 2 .ro .vol (.c 1) .all
/-- MTR_PI_STAT[i].WIRE, R485. -/
def MTR_PI_STAT_WIRE : Fld := mk1 0xC0804 0x10 16 2 1 .ro .vol (.c 0) .all
/-- MTR_PI_STAT[i].WIRE_SEEN, R485. -/
def MTR_PI_STAT_WIRE_SEEN : Fld := mk1 0xC0804 0x10 16 3 1 .w1c .vol (.c 0) .all
/-- MTR_PI_RATE[i].RATE, R485. -/
def MTR_PI_RATE_RATE : Fld := mk1 0xC0808 0x10 16 0 16 .ro .vol (.c 0) .all
/-- MTR_PO_CFG[i].SRC, R486. -/
def MTR_PO_CFG_SRC : Fld := mk1 0xC0900 0x10 4 0 5 .rw (.part 0) (.c 0) (.range 0 25)
/-- MTR_PO_CFG[i].EN, R486. -/
def MTR_PO_CFG_EN : Fld := mk1 0xC0900 0x10 4 8 1 .rw (.part 0) (.c 0) .all
/-- MTR_PO_CFG[i].POL, R486. -/
def MTR_PO_CFG_POL : Fld := mk1 0xC0900 0x10 4 9 1 .rw (.part 0) (.c 0) .all
/-- MTR_PO_K[i].K, R486. -/
def MTR_PO_K_K : Fld := mk1 0xC0904 0x10 4 0 32 .rw (.part 0) (.c 1000) (.range 1 4294967295)
/-- MTR_PO_STAT[i].BACKLOG, R486. -/
def MTR_PO_STAT_BACKLOG : Fld := mk1 0xC0908 0x10 4 0 16 .ro .vol (.c 0) .all
/-- MTR_PO_STAT[i].LOST, R486. -/
def MTR_PO_STAT_LOST : Fld := mk1 0xC0908 0x10 4 16 16 .ro .vol (.c 0) .all
/-- CTL_CTRL.EN, R513. -/
def CTL_CTRL_EN : Fld := mk0 0xD0000 0 1 .rw .vol (.c 1) .all
/-- CTL_STATUS.AUTO, R513. -/
def CTL_STATUS_AUTO : Fld := mk0 0xD0004 0 7 .ro .vol (.c 0) .all
/-- CTL_STATUS.MANUAL, R513. -/
def CTL_STATUS_MANUAL : Fld := mk0 0xD0004 8 7 .ro .vol (.c 0) .all
/-- CTL_STATUS.HELD, R513. -/
def CTL_STATUS_HELD : Fld := mk0 0xD0004 16 1 .ro .vol (.c 0) .all
/-- CTL_EVAL.LAG_MAX, R513. -/
def CTL_EVAL_LAG_MAX : Fld := mk0 0xD0008 0 16 .ro .vol (.c 0) .all
/-- CTL_PWM_CFG[i].FREQ, R513. -/
def CTL_PWM_CFG_FREQ : Fld := mk1 0xD0100 0x4 8 0 15 .rw (.part 4) (.c 1000) (.range 10 20000)
/-- CTL_PWM_CFG[i].POL, R513. -/
def CTL_PWM_CFG_POL : Fld := mk1 0xD0100 0x4 8 16 1 .rw (.part 4) (.c 0) .all
/-- CTL_GRP_STAT[i].WINNER, R513. -/
def CTL_GRP_STAT_WINNER : Fld := mk1 0xD0200 0x4 32 0 6 .ro .vol (.c 0) .all
/-- CTL_GRP_STAT[i].VALID, R513. -/
def CTL_GRP_STAT_VALID : Fld := mk1 0xD0200 0x4 32 6 1 .ro .vol (.c 0) .all
/-- CTL_GRP_STAT[i].OUT, R513. -/
def CTL_GRP_STAT_OUT : Fld := mk1 0xD0200 0x4 32 16 16 .ro .vol (.c 0) .all
/-- CTL_LOOP_CFG[i].EN, R514. -/
def CTL_LOOP_CFG_EN : Fld := mk1 0xD1000 0x40 64 0 1 .rw (.part 4) (.c 0) .all
/-- CTL_LOOP_CFG[i].DIR, R514. -/
def CTL_LOOP_CFG_DIR : Fld := mk1 0xD1000 0x40 64 1 1 .rw (.part 4) (.c 0) .all
/-- CTL_LOOP_CFG[i].FAIL_ACT, R514. -/
def CTL_LOOP_CFG_FAIL_ACT : Fld := mk1 0xD1000 0x40 64 2 1 .rw (.part 4) (.c 0) .all
/-- CTL_LOOP_CFG[i].GROUP, R514. -/
def CTL_LOOP_CFG_GROUP : Fld := mk1 0xD1000 0x40 64 4 5 .rw (.part 4) (.c 0) .all
/-- CTL_LOOP_CFG[i].GRP_EN, R514. -/
def CTL_LOOP_CFG_GRP_EN : Fld := mk1 0xD1000 0x40 64 9 1 .rw (.part 4) (.c 0) .all
/-- CTL_LOOP_CFG[i].PERIOD, R514. -/
def CTL_LOOP_CFG_PERIOD : Fld := mk1 0xD1000 0x40 64 16 16 .rw (.part 4) (.c 1) .all
/-- CTL_LOOP_IO[i].IN_KIND, R514. -/
def CTL_LOOP_IO_IN_KIND : Fld := mk1 0xD1004 0x40 64 0 2 .rw (.part 4) (.c 0) (.range 0 2)
/-- CTL_LOOP_IO[i].IN_SEL, R514. -/
def CTL_LOOP_IO_IN_SEL : Fld := mk1 0xD1004 0x40 64 2 5 .rw (.part 4) (.c 0) .all
/-- CTL_LOOP_IO[i].OUT_KIND, R514. -/
def CTL_LOOP_IO_OUT_KIND : Fld := mk1 0xD1004 0x40 64 8 2 .rw (.part 4) (.c 0) .all
/-- CTL_LOOP_IO[i].OUT_SEL, R514. -/
def CTL_LOOP_IO_OUT_SEL : Fld := mk1 0xD1004 0x40 64 10 4 .rw (.part 4) (.c 0) .all
/-- CTL_LOOP_IO[i].PHASE, R514. -/
def CTL_LOOP_IO_PHASE : Fld := mk1 0xD1004 0x40 64 16 16 .rw (.part 4) (.c 0) .all
/-- CTL_LOOP_IN_LO[i].IN_LO, R514. -/
def CTL_LOOP_IN_LO_IN_LO : Fld := mk1 0xD1008 0x40 64 0 32 .rw (.part 4) (.c 0) .all
/-- CTL_LOOP_IN_HI[i].IN_HI, R514. -/
def CTL_LOOP_IN_HI_IN_HI : Fld := mk1 0xD100C 0x40 64 0 32 .rw (.part 4) (.c 0) .all
/-- CTL_LOOP_STAT[i].MODE, R515. -/
def CTL_LOOP_STAT_MODE : Fld := mk1 0xD1010 0x40 64 0 2 .ro .vol (.c 0) .all
/-- CTL_LOOP_STAT[i].WINNER, R515. -/
def CTL_LOOP_STAT_WINNER : Fld := mk1 0xD1010 0x40 64 2 1 .ro .vol (.c 0) .all
/-- CTL_LOOP_STAT[i].TRACKING, R515. -/
def CTL_LOOP_STAT_TRACKING : Fld := mk1 0xD1010 0x40 64 3 1 .ro .vol (.c 0) .all
/-- CTL_LOOP_STAT[i].SAT_HI, R515. -/
def CTL_LOOP_STAT_SAT_HI : Fld := mk1 0xD1010 0x40 64 4 1 .ro .vol (.c 0) .all
/-- CTL_LOOP_STAT[i].SAT_LO, R515. -/
def CTL_LOOP_STAT_SAT_LO : Fld := mk1 0xD1010 0x40 64 5 1 .ro .vol (.c 0) .all
/-- CTL_LOOP_STAT[i].PV_BAD, R515. -/
def CTL_LOOP_STAT_PV_BAD : Fld := mk1 0xD1010 0x40 64 6 1 .ro .vol (.c 0) .all
/-- CTL_LOOP_STAT[i].AX_BLOCK, R515. -/
def CTL_LOOP_STAT_AX_BLOCK : Fld := mk1 0xD1010 0x40 64 7 1 .ro .vol (.c 0) .all
/-- CTL_LOOP_STAT[i].ACTIVE_BANK, R515. -/
def CTL_LOOP_STAT_ACTIVE_BANK : Fld := mk1 0xD1010 0x40 64 8 1 .ro (.part 4) (.c 0) .all
/-- CTL_LOOP_STAT[i].NEXT_BANK, R515. -/
def CTL_LOOP_STAT_NEXT_BANK : Fld := mk1 0xD1010 0x40 64 9 1 .ro (.part 4) (.c 0) .all
/-- CTL_LOOP_STAT[i].SWAP_PENDING, R515. -/
def CTL_LOOP_STAT_SWAP_PENDING : Fld := mk1 0xD1010 0x40 64 10 1 .ro .vol (.c 0) .all
/-- CTL_LOOP_STAT[i].CLOSE_PENDING, R515. -/
def CTL_LOOP_STAT_CLOSE_PENDING : Fld := mk1 0xD1010 0x40 64 11 1 .ro .vol (.c 0) .all
/-- CTL_LOOP_STAT[i].RESIDUE, R515. -/
def CTL_LOOP_STAT_RESIDUE : Fld := mk1 0xD1010 0x40 64 16 8 .ro .vol (.c 0) .all
/-- CTL_LOOP_STAT[i].CFG_ERR, R515. -/
def CTL_LOOP_STAT_CFG_ERR : Fld := mk1 0xD1010 0x40 64 24 1 .w1c .vol (.c 0) .all
/-- CTL_LOOP_PV[i].PV, R515. -/
def CTL_LOOP_PV_PV : Fld := mk1 0xD1014 0x40 64 0 16 .ro .vol (.c 0) .all
/-- CTL_LOOP_PV[i].SP, R515. -/
def CTL_LOOP_PV_SP : Fld := mk1 0xD1014 0x40 64 16 16 .ro .vol (.c 0) .all
/-- CTL_LOOP_OUT[i].OUT, R515. -/
def CTL_LOOP_OUT_OUT : Fld := mk1 0xD1018 0x40 64 0 16 .ro .vol (.c 0) .all
/-- CTL_LOOP_OUT[i].MAN_OUT, R515. -/
def CTL_LOOP_OUT_MAN_OUT : Fld := mk1 0xD1018 0x40 64 16 16 .ro .vol (.c 0) .all
/-- CTL_LOOP_SAFE[i].SAFE_OUT, R515. -/
def CTL_LOOP_SAFE_SAFE_OUT : Fld := mk1 0xD101C 0x40 64 0 16 .rw (.part 4) (.c 0) .all
/-- CTL_LOOP_AX_LO[i].AX_LO, R516. -/
def CTL_LOOP_AX_LO_AX_LO : Fld := mk1 0xD1020 0x40 64 0 32 .rw (.part 4) (.c 0) .all
/-- CTL_LOOP_AX_HI[i].AX_HI, R516. -/
def CTL_LOOP_AX_HI_AX_HI : Fld := mk1 0xD1024 0x40 64 0 32 .rw (.part 4) (.c 0) .all
/-- CTL_LOOP_AX_DB[i].AX_DB, R516. -/
def CTL_LOOP_AX_DB_AX_DB : Fld := mk1 0xD1028 0x40 64 0 16 .rw (.part 4) (.c 0) .all
/-- AXS_CTRL.EN, R546. -/
def AXS_CTRL_EN : Fld := mk0 0xE0000 0 1 .rw .vol (.c 1) .all
/-- AXS_STATUS.MOVING, R546. -/
def AXS_STATUS_MOVING : Fld := mk0 0xE0004 0 16 .ro .vol (.c 0) .all
/-- AXS_STATUS.HOMED, R546. -/
def AXS_STATUS_HOMED : Fld := mk0 0xE0004 16 16 .ro .vol (.c 0) .all
/-- AXS_STATUS2.FAULT, R546. -/
def AXS_STATUS2_FAULT : Fld := mk0 0xE0008 0 16 .ro .vol (.c 0) .all
/-- AXS_STATUS2.DIS_REFUSED, R546. -/
def AXS_STATUS2_DIS_REFUSED : Fld := mk0 0xE0008 16 1 .w1c .vol (.c 0) .all
/-- AXS_GRP_STAT[i].MEMBERS, R546. -/
def AXS_GRP_STAT_MEMBERS : Fld := mk1 0xE0040 0x4 8 0 16 .ro .vol (.c 0) .all
/-- AXS_GRP_STAT[i].LEADER, R546. -/
def AXS_GRP_STAT_LEADER : Fld := mk1 0xE0040 0x4 8 16 4 .ro .vol (.c 0) .all
/-- AXS_GRP_STAT[i].ACTIVE, R546. -/
def AXS_GRP_STAT_ACTIVE : Fld := mk1 0xE0040 0x4 8 20 1 .ro .vol (.c 0) .all
/-- AXS_AX_CFG[i].MRES, R547. -/
def AXS_AX_CFG_MRES : Fld := mk1 0xE1000 0x80 16 0 4 .rw (.part 4) (.c 4) (.range 0 8)
/-- AXS_AX_CFG[i].DIR_INV, R547. -/
def AXS_AX_CFG_DIR_INV : Fld := mk1 0xE1000 0x80 16 4 1 .rw (.part 4) (.c 0) .all
/-- AXS_AX_CFG[i].STAND, R547. -/
def AXS_AX_CFG_STAND : Fld := mk1 0xE1000 0x80 16 5 2 .rw (.part 4) (.c 1) (.range 0 2)
/-- AXS_AX_CFG[i].GROUP, R547. -/
def AXS_AX_CFG_GROUP : Fld := mk1 0xE1000 0x80 16 8 3 .rw (.part 4) (.c 0) .all
/-- AXS_AX_CFG[i].GRP_EN, R547. -/
def AXS_AX_CFG_GRP_EN : Fld := mk1 0xE1000 0x80 16 11 1 .rw (.part 4) (.c 0) .all
/-- AXS_AX_CFG[i].LIM_EN, R547. -/
def AXS_AX_CFG_LIM_EN : Fld := mk1 0xE1000 0x80 16 12 1 .rw (.part 4) (.c 1) .all
/-- AXS_AX_CFG[i].LIM_POL, R547. -/
def AXS_AX_CFG_LIM_POL : Fld := mk1 0xE1000 0x80 16 13 1 .rw (.part 4) (.c 0) .all
/-- AXS_AX_CFG[i].HOME_POL, R547. -/
def AXS_AX_CFG_HOME_POL : Fld := mk1 0xE1000 0x80 16 14 1 .rw (.part 4) (.c 0) .all
/-- AXS_AX_CFG[i].HOME_CHECK, R547. -/
def AXS_AX_CFG_HOME_CHECK : Fld := mk1 0xE1000 0x80 16 15 1 .rw (.part 4) (.c 0) .all
/-- AXS_AX_CFG[i].SLIP_TOL, R547. -/
def AXS_AX_CFG_SLIP_TOL : Fld := mk1 0xE1000 0x80 16 16 16 .rw (.part 4) (.c 0) .all
/-- AXS_AX_CHOP[i].T_OFF, R547. -/
def AXS_AX_CHOP_T_OFF : Fld := mk1 0xE1004 0x80 16 0 6 .rw (.part 4) (.c 20) (.range 1 63)
/-- AXS_AX_CHOP[i].FAST, R547. -/
def AXS_AX_CHOP_FAST : Fld := mk1 0xE1004 0x80 16 8 3 .rw (.part 4) (.c 3) .all
/-- AXS_AX_CHOP[i].BLANK, R547. -/
def AXS_AX_CHOP_BLANK : Fld := mk1 0xE1004 0x80 16 12 2 .rw (.part 4) (.c 1) .all
/-- AXS_AX_CHOP[i].I_RUN, R547. -/
def AXS_AX_CHOP_I_RUN : Fld := mk1 0xE1004 0x80 16 16 8 .rw (.part 4) (.c 0) .all
/-- AXS_AX_CHOP[i].I_HOLD, R547. -/
def AXS_AX_CHOP_I_HOLD : Fld := mk1 0xE1004 0x80 16 24 8 .rw (.part 4) (.c 0) .all
/-- AXS_AX_IN[i].FILT, R547. -/
def AXS_AX_IN_FILT : Fld := mk1 0xE1008 0x80 16 0 8 .rw (.part 4) (.c 10) (.range 1 255)
/-- AXS_AX_IN[i].CHAT_WIN, R547. -/
def AXS_AX_IN_CHAT_WIN : Fld := mk1 0xE1008 0x80 16 8 8 .rw (.part 4) (.c 50) (.range 1 255)
/-- AXS_AX_IN[i].CHAT_N, R547. -/
def AXS_AX_IN_CHAT_N : Fld := mk1 0xE1008 0x80 16 16 4 .rw (.part 4) (.c 4) (.range 2 15)
/-- AXS_AX_IN[i].T_HOLD, R547. -/
def AXS_AX_IN_T_HOLD : Fld := mk1 0xE1008 0x80 16 24 8 .rw (.part 4) (.c 50) .all
/-- AXS_AX_SOFT_LO[i].SOFT_LO, R547. -/
def AXS_AX_SOFT_LO_SOFT_LO : Fld := mk1 0xE100C 0x80 16 0 32 .rw (.part 4) (.c 0) .all
/-- AXS_AX_SOFT_HI[i].SOFT_HI, R547. -/
def AXS_AX_SOFT_HI_SOFT_HI : Fld := mk1 0xE1010 0x80 16 0 32 .rw (.part 4) (.c 0) .all
/-- AXS_AX_STAT[i].STATE, R548. -/
def AXS_AX_STAT_STATE : Fld := mk1 0xE1014 0x80 16 0 3 .ro .vol (.c 0) .all
/-- AXS_AX_STAT[i].HOMED, R548. -/
def AXS_AX_STAT_HOMED : Fld := mk1 0xE1014 0x80 16 3 1 .ro .vol (.c 0) .all
/-- AXS_AX_STAT[i].FAULT, R548. -/
def AXS_AX_STAT_FAULT : Fld := mk1 0xE1014 0x80 16 4 4 .ro .vol (.c 0) .all
/-- AXS_AX_STAT[i].LIM_LO, R548. -/
def AXS_AX_STAT_LIM_LO : Fld := mk1 0xE1014 0x80 16 8 1 .ro .vol (.c 0) .all
/-- AXS_AX_STAT[i].LIM_HI, R548. -/
def AXS_AX_STAT_LIM_HI : Fld := mk1 0xE1014 0x80 16 9 1 .ro .vol (.c 0) .all
/-- AXS_AX_STAT[i].HOME, R548. -/
def AXS_AX_STAT_HOME : Fld := mk1 0xE1014 0x80 16 10 1 .ro .vol (.c 0) .all
/-- AXS_AX_STAT[i].LIM_STOP, R548. -/
def AXS_AX_STAT_LIM_STOP : Fld := mk1 0xE1014 0x80 16 11 1 .w1c .vol (.c 0) .all
/-- AXS_AX_STAT[i].OWNER, R548. -/
def AXS_AX_STAT_OWNER : Fld := mk1 0xE1014 0x80 16 12 2 .ro .vol (.c 0) .all
/-- AXS_AX_STAT[i].PROF_PENDING, R548. -/
def AXS_AX_STAT_PROF_PENDING : Fld := mk1 0xE1014 0x80 16 14 1 .ro .vol (.c 0) .all
/-- AXS_AX_STAT[i].LOCKED, R548. -/
def AXS_AX_STAT_LOCKED : Fld := mk1 0xE1014 0x80 16 15 1 .ro .vol (.c 0) .all
/-- AXS_AX_STAT[i].PHASE, R548. -/
def AXS_AX_STAT_PHASE : Fld := mk1 0xE1014 0x80 16 16 10 .ro .vol (.c 0) .all
/-- AXS_AX_POS[i].POS, R548. -/
def AXS_AX_POS_POS : Fld := mk1 0xE1018 0x80 16 0 32 .ro .vol (.c 0) .all
/-- AXS_AX_TGT[i].TGT, R548. -/
def AXS_AX_TGT_TGT : Fld := mk1 0xE101C 0x80 16 0 32 .ro .vol (.c 0) .all
/-- AXS_AX_VEL[i].VEL, R548. -/
def AXS_AX_VEL_VEL : Fld := mk1 0xE1020 0x80 16 0 32 .ro .vol (.c 0) .all
/-- AXS_AX_LATCH[i].HOME_LATCH, R548. -/
def AXS_AX_LATCH_HOME_LATCH : Fld := mk1 0xE1024 0x80 16 0 32 .ro .vol (.c 0) .all
/-- AXS_AX_PROF[i][j].VALUE, R549. -/
def AXS_AX_PROF_VALUE : Fld := mk2 0xE1030 0x80 16 0x4 7 0 32 .ro (.part 4) (.idx2 [0, 1000, 100, 1000, 1000, 0, 2000]) .all
/-- AXS_AX_WIN_LO[i][j].LO, R549. -/
def AXS_AX_WIN_LO_LO : Fld := mk2 0xE1050 0x80 16 0x8 4 0 32 .ro (.part 4) (.c 0) .all
/-- AXS_AX_WIN_HI[i][j].HI, R549. -/
def AXS_AX_WIN_HI_HI : Fld := mk2 0xE1054 0x80 16 0x8 4 0 32 .ro (.part 4) (.c 0) .all
/-- AXS_AX_WIN_CFG[i].VALID, R549. -/
def AXS_AX_WIN_CFG_VALID : Fld := mk1 0xE1070 0x80 16 0 4 .ro (.part 4) (.c 0) .all
/-- AXS_AX_WIN_CFG[i].ALLOW_OFF, R549. -/
def AXS_AX_WIN_CFG_ALLOW_OFF : Fld := mk1 0xE1070 0x80 16 4 4 .ro (.part 4) (.c 0) .all
/-- AXS_AX_WIN_CFG[i].CONF, R549. -/
def AXS_AX_WIN_CFG_CONF : Fld := mk1 0xE1070 0x80 16 8 4 .ro .vol (.c 0) .all
/-- AXS_AX_WIN_CFG[i].REQUIRED, R549. -/
def AXS_AX_WIN_CFG_REQUIRED : Fld := mk1 0xE1070 0x80 16 12 4 .ro .vol (.c 0) .all
/-- KEY_STATUS.ROOT_SET, R576. -/
def KEY_STATUS_ROOT_SET : Fld := mk0 0xF0000 0 1 .ro .ident (.c 0) .all
/-- KEY_STATUS.STD_OK, R576. -/
def KEY_STATUS_STD_OK : Fld := mk0 0xF0000 1 1 .ro .vol (.c 0) .all
/-- KEY_STATUS.NV_BUSY, R576. -/
def KEY_STATUS_NV_BUSY : Fld := mk0 0xF0000 2 1 .ro .vol (.c 0) .all
/-- KEY_NV_STAT.FAULT, R576. -/
def KEY_NV_STAT_FAULT : Fld := mk0 0xF0004 0 16 .ro .vol (.c 0) .all
/-- KEY_RESTART.OUTCOME, R576. -/
def KEY_RESTART_OUTCOME : Fld := mk0 0xF0008 0 2 .ro .vol (.c 0) .all
/-- KEY_RESTART.SLOT, R576. -/
def KEY_RESTART_SLOT : Fld := mk0 0xF0008 8 4 .ro .vol (.c 0) .all
/-- KEY_JOIN_CFG.SLOT, R576. -/
def KEY_JOIN_CFG_SLOT : Fld := mk0 0xF000C 0 6 .rw (.part 0) (.c 63) .all
/-- KEY_ATTR[i].STATE, R577. -/
def KEY_ATTR_STATE : Fld := mk1 0xF0100 0x10 64 0 2 .ro .vol (.c 0) .all
/-- KEY_ATTR[i].SIZE, R577. -/
def KEY_ATTR_SIZE : Fld := mk1 0xF0100 0x10 64 2 1 .ro .vol (.c 0) .all
/-- KEY_ATTR[i].USAGE, R577. -/
def KEY_ATTR_USAGE : Fld := mk1 0xF0100 0x10 64 3 2 .ro .vol (.c 0) .all
/-- KEY_ATTR[i].MASK, R577. -/
def KEY_ATTR_MASK : Fld := mk1 0xF0100 0x10 64 8 6 .ro .vol (.c 0) .all
/-- KEY_ATTR[i].DEPTH, R577. -/
def KEY_ATTR_DEPTH : Fld := mk1 0xF0100 0x10 64 16 3 .ro .vol (.c 0) .all
/-- KEY_ATTR[i].PARENT, R577. -/
def KEY_ATTR_PARENT : Fld := mk1 0xF0100 0x10 64 24 7 .ro .vol (.c 127) .all
/-- KEY_ATTR[i].NV, R577. -/
def KEY_ATTR_NV : Fld := mk1 0xF0100 0x10 64 31 1 .ro .vol (.c 0) .all
/-- KEY_GEN[i].GEN, R577. -/
def KEY_GEN_GEN : Fld := mk1 0xF0104 0x10 64 0 32 .ro .vol (.c 0) .all
/-- KEY_PGEN[i].PGEN, R577. -/
def KEY_PGEN_PGEN : Fld := mk1 0xF0108 0x10 64 0 32 .ro .vol (.c 0) .all
/-- KEY_NV_HWM[i].HWM, R578. -/
def KEY_NV_HWM_HWM : Fld := mk1 0xF0600 0x4 16 0 32 .ro .mram (.c 0) .all
/-- IMG_CTRL.RX_EN, R606. -/
def IMG_CTRL_RX_EN : Fld := mk0 0x100000 0 1 .rw .mram (.c 0) .all
/-- IMG_STATUS.TRIAL_PART, R606. -/
def IMG_STATUS_TRIAL_PART : Fld := mk0 0x100004 0 3 .ro .vol (.c 7) .all
/-- IMG_STATUS.ACTIVATING, R606. -/
def IMG_STATUS_ACTIVATING : Fld := mk0 0x100004 3 1 .ro .vol (.c 0) .all
/-- IMG_STATUS.CONFIRM_LEFT, R606. -/
def IMG_STATUS_CONFIRM_LEFT : Fld := mk0 0x100004 16 16 .ro .vol (.c 0) .all
/-- IMG_CFG.KEY_SLOT, R606. -/
def IMG_CFG_KEY_SLOT : Fld := mk0 0x100008 0 6 .rw .mram (.c 0) (.range 0 15)
/-- IMG_CFG.TX_MAX, R606. -/
def IMG_CFG_TX_MAX : Fld := mk0 0x100008 8 8 .rw .mram (.c 10) (.range 1 99)
/-- IMG_XFER.OPEN, R607. -/
def IMG_XFER_OPEN : Fld := mk0 0x10000C 0 1 .ro .mram (.c 0) .all
/-- IMG_XFER.SOURCE, R607. -/
def IMG_XFER_SOURCE : Fld := mk0 0x10000C 1 1 .ro .mram (.c 0) .all
/-- IMG_XFER.COMPLETE, R607. -/
def IMG_XFER_COMPLETE : Fld := mk0 0x10000C 2 1 .ro .mram (.c 0) .all
/-- IMG_XFER.PART, R607. -/
def IMG_XFER_PART : Fld := mk0 0x10000C 4 3 .ro .mram (.c 0) .all
/-- IMG_XFER.XFER, R607. -/
def IMG_XFER_XFER : Fld := mk0 0x10000C 16 16 .ro .mram (.c 0) .all
/-- IMG_XFER_CNT.PIECES, R607. -/
def IMG_XFER_CNT_PIECES : Fld := mk0 0x100010 0 13 .ro .mram (.c 0) .all
/-- IMG_XFER_CNT.RECEIVED, R607. -/
def IMG_XFER_CNT_RECEIVED : Fld := mk0 0x100010 16 13 .ro .mram (.c 0) .all
/-- IMG_RX_CFG.SRC_CELL, R607. -/
def IMG_RX_CFG_SRC_CELL : Fld := mk0 0x100014 0 9 .ro .mram (.c 0) .all
/-- IMG_RX_CFG.SRC_CH, R607. -/
def IMG_RX_CFG_SRC_CH : Fld := mk0 0x100014 16 2 .ro .mram (.c 0) .all
/-- IMG_RX_CFG.SRC_CODE, R607. -/
def IMG_RX_CFG_SRC_CODE : Fld := mk0 0x100014 20 2 .ro .mram (.c 0) .all
/-- IMG_RX_STAT.FRAMES, R607. -/
def IMG_RX_STAT_FRAMES : Fld := mk0 0x100018 0 16 .ro .vol (.c 0) .all
/-- IMG_RX_STAT.REJECTED, R607. -/
def IMG_RX_STAT_REJECTED : Fld := mk0 0x100018 16 16 .ro .vol (.c 0) .all
/-- IMG_PART_STAT[i].RUN_SLOT, R608. -/
def IMG_PART_STAT_RUN_SLOT : Fld := mk1 0x100040 0x4 5 0 1 .ro .mram (.c 0) .all
/-- IMG_PART_STAT[i].STATE_A, R608. -/
def IMG_PART_STAT_STATE_A : Fld := mk1 0x100040 0x4 5 1 3 .ro .mram (.c 0) .all
/-- IMG_PART_STAT[i].STATE_B, R608. -/
def IMG_PART_STAT_STATE_B : Fld := mk1 0x100040 0x4 5 4 3 .ro .mram (.c 0) .all
/-- IMG_PART_STAT[i].SELF_OK, R608. -/
def IMG_PART_STAT_SELF_OK : Fld := mk1 0x100040 0x4 5 8 1 .ro .vol (.c 0) .all
/-- IMG_PART_STAT[i].CONV, R608. -/
def IMG_PART_STAT_CONV : Fld := mk1 0x100040 0x4 5 9 2 .ro .mram (.c 0) .all
/-- IMG_PART_STAT[i].LOST, R608. -/
def IMG_PART_STAT_LOST : Fld := mk1 0x100040 0x4 5 16 16 .ro .mram (.c 0) .all
/-- IMG_VER[i][j].VERSION, R608. -/
def IMG_VER_VERSION : Fld := mk2 0x100080 0x8 5 0x4 2 0 32 .ro .mram (.c 0) .all
/-- IMG_EPOCH[i].SEC_EPOCH, R608. -/
def IMG_EPOCH_SEC_EPOCH : Fld := mk1 0x1000C0 0x4 5 0 6 .ro .mram (.c 0) .all
/-- IMG_EPOCH[i].IF_EPOCH, R608. -/
def IMG_EPOCH_IF_EPOCH : Fld := mk1 0x1000C0 0x4 5 16 16 .ro .mram (.c 0) .all
/-- IMG_BITMAP[i].PIECE, R609. -/
def IMG_BITMAP_PIECE : Fld := mk1 0x100400 0x4 128 0 32 .ro .mram (.c 0) .all
/-- IMG_REC_ADDR_LO.ADDR, R609. -/
def IMG_REC_ADDR_LO_ADDR : Fld := mk0 0x100800 4 28 .rw .vol (.c 0) .all
/-- IMG_REC_ADDR_HI.ADDR, R609. -/
def IMG_REC_ADDR_HI_ADDR : Fld := mk0 0x100804 0 32 .rw .vol (.c 0) .all
/-- IMG_REC_CMD.PART, R609. -/
def IMG_REC_CMD_PART : Fld := mk0 0x100808 0 3 .rw .vol (.c 0) (.range 0 4)
/-- IMG_REC_CMD.GO, R609. -/
def IMG_REC_CMD_GO : Fld := mk0 0x100808 8 1 .w1s .vol (.c 0) .all
/-- IMG_REC_CMD.FAIL, R609. -/
def IMG_REC_CMD_FAIL : Fld := mk0 0x100808 9 1 .w1c .vol (.c 0) .all
/-- PAIR_CFG.KEY_SLOT, R633. -/
def PAIR_CFG_KEY_SLOT : Fld := mk0 0x110000 0 6 .rw (.part 1) (.c 0) .all
/-- PAIR_CFG.SOLO_T, R633. -/
def PAIR_CFG_SOLO_T : Fld := mk0 0x110000 8 8 .rw (.part 1) (.c 0) .all
/-- PAIR_STATUS.ROLE, R633. -/
def PAIR_STATUS_ROLE : Fld := mk0 0x110004 0 2 .ro .vol (.c 0) .all
/-- PAIR_STATUS.PAIRED, R633. -/
def PAIR_STATUS_PAIRED : Fld := mk0 0x110004 2 1 .ro .vol (.c 0) .all
/-- PAIR_STATUS.READY, R633. -/
def PAIR_STATUS_READY : Fld := mk0 0x110004 4 1 .ro .vol (.c 0) .all
/-- PAIR_STATUS.PARTNER_READY, R633. -/
def PAIR_STATUS_PARTNER_READY : Fld := mk0 0x110004 5 1 .ro .vol (.c 0) .all
/-- PAIR_STATUS.LINK, R633. -/
def PAIR_STATUS_LINK : Fld := mk0 0x110004 6 2 .ro .vol (.c 0) .all
/-- PAIR_STATUS.YOKE, R633. -/
def PAIR_STATUS_YOKE : Fld := mk0 0x110004 8 1 .ro .vol (.c 0) .all
/-- PAIR_STATUS.YOKE_FAULT, R633. -/
def PAIR_STATUS_YOKE_FAULT : Fld := mk0 0x110004 9 1 .w1c .vol (.c 0) .all
/-- PAIR_STATUS.TIME_FAULT, R633. -/
def PAIR_STATUS_TIME_FAULT : Fld := mk0 0x110004 10 1 .ro .vol (.c 0) .all
/-- PAIR_STATUS.CELL_MISMATCH, R633. -/
def PAIR_STATUS_CELL_MISMATCH : Fld := mk0 0x110004 11 1 .ro .vol (.c 0) .all
/-- PAIR_STATUS.COMPAT, R633. -/
def PAIR_STATUS_COMPAT : Fld := mk0 0x110004 12 1 .ro .vol (.c 0) .all
/-- PAIR_STATUS.PRESENT_CHG, R633. -/
def PAIR_STATUS_PRESENT_CHG : Fld := mk0 0x110004 13 1 .w1c .vol (.c 0) .all
/-- PAIR_STATUS.PARTNER_ID, R633. -/
def PAIR_STATUS_PARTNER_ID : Fld := mk0 0x110004 16 10 .ro .vol (.c 0) .all
/-- PAIR_STATUS.PARTNER_VALID, R633. -/
def PAIR_STATUS_PARTNER_VALID : Fld := mk0 0x110004 26 1 .ro .vol (.c 0) .all
/-- PAIR_LEASE.LEFT, R634. -/
def PAIR_LEASE_LEFT : Fld := mk0 0x110008 0 16 .ro .vol (.c 0) .all
/-- PAIR_COPY.COPY_NO, R634. -/
def PAIR_COPY_COPY_NO : Fld := mk0 0x11000C 0 32 .ro .vol (.c 0) .all
/-- PAIR_ACKED.COPY_NO, R634. -/
def PAIR_ACKED_COPY_NO : Fld := mk0 0x110010 0 32 .ro .vol (.c 0) .all
/-- PAIR_TOFS.THETA, R634. -/
def PAIR_TOFS_THETA : Fld := mk0 0x110014 0 32 .ro .vol (.c 0) .all
/-- PAIR_TAKE.COUNT, R635. -/
def PAIR_TAKE_COUNT : Fld := mk0 0x110018 0 16 .ro .vol (.c 0) .all
/-- PAIR_TAKE.LAST_ROW, R635. -/
def PAIR_TAKE_LAST_ROW : Fld := mk0 0x110018 16 3 .ro .vol (.c 0) .all
/-- PAIR_TAKE.LAST_COLD, R635. -/
def PAIR_TAKE_LAST_COLD : Fld := mk0 0x110018 19 1 .ro .vol (.c 0) .all
/-- PAIR_GAP.LAST, R635. -/
def PAIR_GAP_LAST : Fld := mk0 0x11001C 0 16 .ro .vol (.c 0) .all
/-- PAIR_GAP.MAX, R635. -/
def PAIR_GAP_MAX : Fld := mk0 0x11001C 16 16 .ro .vol (.c 0) .all
/-- PAIR_ERR.AUTH_FAIL, R635. -/
def PAIR_ERR_AUTH_FAIL : Fld := mk0 0x110020 0 8 .ro .vol (.c 0) .all
/-- PAIR_ERR.REPLAY, R635. -/
def PAIR_ERR_REPLAY : Fld := mk0 0x110020 8 8 .ro .vol (.c 0) .all
/-- PAIR_ERR.LANE_FAULT, R635. -/
def PAIR_ERR_LANE_FAULT : Fld := mk0 0x110020 16 1 .w1c .vol (.c 0) .all
/-- PAIR_ERR.COPY_DROP, R635. -/
def PAIR_ERR_COPY_DROP : Fld := mk0 0x110020 24 8 .ro .vol (.c 0) .all
/-- EVT_CFG.RING, R655. -/
def EVT_CFG_RING : Fld := mk0 0x120000 0 5 .rw (.part 0) (.c 0) .all
/-- EVT_CFG.STREAM_EN, R655. -/
def EVT_CFG_STREAM_EN : Fld := mk0 0x120000 8 1 .rw (.part 0) (.c 0) .all
/-- EVT_CFG.FLUSH_AT, R655. -/
def EVT_CFG_FLUSH_AT : Fld := mk0 0x120000 16 8 .rw (.part 0) (.c 8) (.range 1 255)
/-- EVT_CFG.FLUSH_MS, R655. -/
def EVT_CFG_FLUSH_MS : Fld := mk0 0x120000 24 8 .rw (.part 0) (.c 100) (.range 1 255)
/-- EVT_STATUS.UNFLUSHED, R655. -/
def EVT_STATUS_UNFLUSHED : Fld := mk0 0x120004 0 13 .ro .vol (.c 0) .all
/-- EVT_STATUS.NVM_OK, R655. -/
def EVT_STATUS_NVM_OK : Fld := mk0 0x120004 16 1 .ro .vol (.c 0) .all
/-- EVT_STATUS.OVERRUN, R655. -/
def EVT_STATUS_OVERRUN : Fld := mk0 0x120004 17 1 .w1c .vol (.c 0) .all
/-- EVT_NEXT.REC_NO, R655. -/
def EVT_NEXT_REC_NO : Fld := mk0 0x120008 0 32 .ro .mram (.c 0) .all
/-- EVT_OLDEST.REC_NO, R655. -/
def EVT_OLDEST_REC_NO : Fld := mk0 0x12000C 0 32 .ro .mram (.c 0) .all
/-- EVT_COUNTS.LOST, R655. -/
def EVT_COUNTS_LOST : Fld := mk0 0x120010 0 16 .ro .vol (.c 0) .all
/-- EVT_COUNTS.SUMMARIES, R655. -/
def EVT_COUNTS_SUMMARIES : Fld := mk0 0x120010 16 16 .ro .vol (.c 0) .all
/-- EVT_CLR_CMD.REQ, R656. -/
def EVT_CLR_CMD_REQ : Fld := mk0 0x120020 0 1 .w1s .vol (.c 0) .all
/-- EVT_CLR_CMD.COMMIT, R656. -/
def EVT_CLR_CMD_COMMIT : Fld := mk0 0x120020 1 1 .w1s .vol (.c 0) .all
/-- EVT_CLR_CMD.FAIL, R656. -/
def EVT_CLR_CMD_FAIL : Fld := mk0 0x120020 8 1 .w1c .vol (.c 0) .all
/-- EVT_CLR_CMD.CHAL_VALID, R656. -/
def EVT_CLR_CMD_CHAL_VALID : Fld := mk0 0x120020 9 1 .ro .vol (.c 0) .all
/-- EVT_CLR_UPTO.UPTO, R656. -/
def EVT_CLR_UPTO_UPTO : Fld := mk0 0x120024 0 32 .ro .vol (.c 0) .all
/-- EVT_CHAL[i].CHAL, R656. -/
def EVT_CHAL_CHAL : Fld := mk1 0x120030 0x4 4 0 32 .ro .vol (.c 0) .all
/-- EVT_RESP[i].RESP, R656. -/
def EVT_RESP_RESP : Fld := mk1 0x120040 0x4 4 0 32 .wo .vol (.c 0) .all
/-- EVT_CLASS_LIM[i].BURST, R657. -/
def EVT_CLASS_LIM_BURST : Fld := mk1 0x120400 0x8 256 0 8 .rw (.part 0) .burst .all
/-- EVT_CLASS_LIM[i].PERIOD, R657. -/
def EVT_CLASS_LIM_PERIOD : Fld := mk1 0x120400 0x8 256 8 16 .rw (.part 0) .period (.range 1 65535)
/-- EVT_CLASS_LIM[i].FIXED, R657. -/
def EVT_CLASS_LIM_FIXED : Fld := mk1 0x120400 0x8 256 31 1 .ro .vol .fixedCls .all
/-- EVT_CLASS_STAT[i].TOKENS, R657. -/
def EVT_CLASS_STAT_TOKENS : Fld := mk1 0x120404 0x8 256 0 8 .ro .vol .burst .all
/-- EVT_CLASS_STAT[i].PENDING, R657. -/
def EVT_CLASS_STAT_PENDING : Fld := mk1 0x120404 0x8 256 16 16 .ro .vol (.c 0) .all
/-- TLB_ALLOT_LO.SRC, R658. -/
def TLB_ALLOT_LO_SRC : Fld := mk0 0x130000 0 32 .rw (.part 0) (.c 1394745873) .all
/-- TLB_ALLOT_HI.SRC, R658. -/
def TLB_ALLOT_HI_SRC : Fld := mk0 0x130004 0 32 .rw (.part 0) (.c 1145324612) .all
/-- TLB_STATUS.READY, R658. -/
def TLB_STATUS_READY : Fld := mk0 0x130008 0 1 .ro .vol (.c 0) .all
/-- TLB_STATUS.MANIFEST_VALID, R658. -/
def TLB_STATUS_MANIFEST_VALID : Fld := mk0 0x130008 1 1 .ro .vol (.c 0) .all
/-- TLB_STATUS.CONSUMED, R658. -/
def TLB_STATUS_CONSUMED : Fld := mk0 0x130008 2 1 .ro .mram (.c 0) .all
/-- TLB_STATUS.ALLOT_BAD, R658. -/
def TLB_STATUS_ALLOT_BAD : Fld := mk0 0x130008 8 1 .w1c .vol (.c 0) .all
/-- TLB_STATUS.WRITTEN, R658. -/
def TLB_STATUS_WRITTEN : Fld := mk0 0x130008 16 16 .ro .vol (.c 0) .all
/-- TLB_CUT_LO.T_CUT, R658. -/
def TLB_CUT_LO_T_CUT : Fld := mk0 0x13000C 0 32 .ro .mram (.c 0) .all
/-- TLB_CUT_HI.T_CUT, R658. -/
def TLB_CUT_HI_T_CUT : Fld := mk0 0x130010 0 32 .ro .mram (.c 0) .all
/-- TLB_SAVE.SAVE_ID, R658. -/
def TLB_SAVE_SAVE_ID : Fld := mk0 0x130014 0 32 .ro .mram (.c 0) .all
/-- TLB_LAST.LINES, R658. -/
def TLB_LAST_LINES : Fld := mk0 0x130018 0 5 .ro .mram (.c 0) .all
/-- TLB_LAST.T_US, R658. -/
def TLB_LAST_T_US : Fld := mk0 0x130018 16 16 .ro .mram (.c 0) .all
/-- TLB_USER[i][j].DATA, R659. -/
def TLB_USER_DATA : Fld := mk2 0x130100 0x20 16 0x4 8 0 32 .rw .vol (.c 0) .all
/-- SYS_TEMP.CORE, R671. -/
def SYS_TEMP_CORE : Fld := mk0 0x10200 0 16 .ro .vol (.c 0) .all
/-- SYS_TEMP.FIELD, R671. -/
def SYS_TEMP_FIELD : Fld := mk0 0x10200 16 16 .ro .vol (.c 0) .all
/-- SYS_TEMP_STAT.WARN, R671. -/
def SYS_TEMP_STAT_WARN : Fld := mk0 0x10204 0 1 .w1c .vol (.c 0) .all
/-- SYS_TEMP_STAT.HOT, R671. -/
def SYS_TEMP_STAT_HOT : Fld := mk0 0x10204 1 1 .ro .vol (.c 0) .all
/-- SYS_TEMP_STAT.MAX, R671. -/
def SYS_TEMP_STAT_MAX : Fld := mk0 0x10204 16 16 .ro .vol (.c 0) .all

end R

/-- Register map, piece 0. -/
def regMap0 : List Fld := [
  R.PWR_CTRL_TARGET, R.PWR_CTRL_GO, R.PWR_STATUS_STATE, R.PWR_STATUS_WAKE_SRC,
  R.PWR_STATUS_REFUSED, R.PWR_STATUS_REFUSE_WHY, R.PWR_DOMAIN_RUNNING, R.PWR_WAKE_CFG_RTC_EN,
  R.PWR_WAKE_CFG_PERST_EN, R.PWR_WAKE_CFG_PCNT_EN, R.PWR_WAKE_CFG_RADIO_EN, R.PWR_RTC_ALARM_ALARM_S,
  R.PWR_PCNT_CMP_CMP, R.SYS_LEVEL_LEVEL, R.SYS_LEVEL_HOLDOVER, R.SYS_LEVEL_LAST_FALL,
  R.SYS_LEVEL_FALLS, R.SYS_LEVEL_CFG_CAP, R.SYS_LEVEL_CFG_HO_LIMIT, R.SYS_LEVEL_CFG_RANGE_REQ,
  R.SYS_RESET_KEY, R.SYS_BOOT_STATUS_REF_ABSENT, R.SYS_BOOT_STATUS_NO_SAFE, R.SYS_BOOT_STATUS_SLOT_B,
  R.SYS_DEV_ID_NEXT_ID, R.SYS_DEV_ID_PENDING, R.SYS_DEV_ID_REFUSED, R.SYS_DEV_ID_KEY,
  R.LC_STATE_STATE, R.LC_STATE_WIPE_DONE, R.LC_STATE_DEBUG_OPEN, R.LC_CMD_TARGET,
  R.LC_CMD_REQ, R.LC_CMD_COMMIT, R.LC_CMD_DEBUG, R.LC_CMD_FAIL,
  R.LC_CHAL_CHAL, R.LC_RESP_RESP, R.SKY_CTRL_BAND_EN, R.SKY_CTRL_ACQ_EN,
  R.SKY_CTRL_AUTO_SKY, R.SKY_STATUS_PLL_LOCK, R.SKY_STATUS_RF_LOCK, R.SKY_STATUS_BAND_FAULT,
  R.SKY_STATUS_BIAS_FAULT, R.SKY_STATUS_JAM_MAX, R.SKY_BIAS_CFG_VSEL, R.SKY_BIAS_CFG_ILIM,
  R.SKY_BIAS_CFG_OPEN_MA, R.SKY_BIAS_STAT_CURRENT, R.SKY_BIAS_STAT_STATE, R.SKY_JAM_CFG_WARN_THR,
  R.SKY_JAM_CFG_JAM_THR, R.SKY_JAM_CFG_HYST, R.SKY_JAM_CFG_NOTCH_THR, R.SKY_AGC_CFG_TARGET,
  R.SKY_AGC_CFG_MODE, R.SKY_AGC_CFG_MAN_GAIN, R.SKY_AGC_CFG_BLANK_THR, R.SKY_AGC_STAT_GAIN,
  R.SKY_AGC_STAT_BASE, R.SKY_AGC_STAT_BASE_VALID, R.SKY_AGC_STAT_SETTLED, R.SKY_AGC_STAT_BLANK_RATE,
  R.SKY_JAM_JAM_IND, R.SKY_JAM_STATE, R.SKY_JAM_PEAK_BIN, R.SKY_JAM_PEAK_DB,
  R.SKY_NOTCH_CFG_MODE, R.SKY_NOTCH_CFG_BW, R.SKY_NOTCH_CFG_ACTIVE, R.SKY_NOTCH_FREQ_FREQ,
  R.ACQ_CTRL_START_TYPE, R.ACQ_CTRL_RESTART, R.ACQ_CTRL_PASS2_EN, R.ACQ_STATUS_ENGINE_OK,
  R.ACQ_STATUS_QUEUE, R.ACQ_STATUS_SKY_DONE, R.ACQ_STATUS_DROPPED, R.ACQ_DOPP_CFG_SPAN]

/-- Register map, piece 1. -/
def regMap1 : List Fld := [
  R.ACQ_DOPP_CFG_REF_UNC, R.ACQ_CLASS_CFG_TCOH, R.ACQ_CLASS_CFG_K, R.ACQ_CLASS_CFG_THR,
  R.ACQ_CLASS_CFG_P2_MULT, R.TRK_CTRL_EN, R.TRK_CTRL_AUTO_ALLOC, R.TRK_CTRL_HANDOVER,
  R.TRK_CTRL_ELEV_MASK, R.TRK_STATUS_TRACKING, R.TRK_STATUS_OOS, R.TRK_STATUS_SPARES_USED,
  R.TRK_THR_CONF_CN0, R.TRK_THR_LOSS_CN0, R.TRK_THR_LOSS_T, R.TRK_THR_PLI_THR,
  R.TRK_MEAS_CFG_RING, R.TRK_MEAS_CFG_EN, R.TRK_ISB_CFG_TAU, R.TRK_ISB_CFG_STEP_THR,
  R.TRK_ISB_CFG_MIN_EL, R.TRK_LOOP_DLL_BW, R.TRK_LOOP_FLL_BW, R.TRK_LOOP_PLL_BW,
  R.TRK_LOOP_TINT, R.TRK_TAPSET_TAP0, R.TRK_TAPSET_TAP1, R.TRK_TAPSET_TAP2,
  R.TRK_TAPSET_TAP3, R.TRK_SPARE_IN_USE, R.TRK_SPARE_REPL, R.TRK_SPARE_FAULTS,
  R.TRK_SPARE_SCRUB, R.TRK_ISB_ISB, R.TRK_ISB_STAT_VALID, R.TRK_ISB_STAT_STEP,
  R.TRK_GLO_IFB_IFB, R.TRK_CH_CFG_OWNER, R.TRK_CH_CFG_LOOP_PROF, R.TRK_CH_CFG_TAP_SET,
  R.TRK_CH_CFG_COMB_MODE, R.TRK_CH_CFG_SPACING, R.TRK_CH_SEL_SAT, R.TRK_CH_SEL_SIG,
  R.TRK_CH_STAT_STATE, R.TRK_CH_STAT_ON_SPARE, R.TRK_CH_STAT_TINT, R.TRK_CH_STAT_CN0,
  R.TRK_CH_CMD_START, R.TRK_CH_CMD_STOP, R.TRK_CH_CMD_FAIL, R.TIME_CTRL_PPSIN_EN,
  R.TIME_CTRL_DISC_TC, R.TIME_STATUS_SRC, R.TIME_STATUS_SLEWING, R.TIME_STATUS_STEPPED,
  R.TIME_STATUS_STEP_PENDING, R.TIME_UNC_UNC, R.TIME_ERR_ERR, R.TIME_NOW_LO_NS_LO,
  R.TIME_NOW_HI_NS_HI, R.TIME_ANT_DELAY_DELAY, R.TIME_PPSOUT_DELAY_DELAY, R.TIME_PPSIN_DELAY_DELAY,
  R.TIME_PPS_CFG_MODE, R.TIME_PPS_CFG_WIDTH, R.TIME_HO_CFG_FREQ_UNC, R.TIME_HO_CFG_AGING,
  R.TIME_PPSIN_TOD_GPS_S, R.TIME_PPSIN_UNC_UNC, R.TIME_FREQ_STEER, R.BASE_CTRL_MODE,
  R.BASE_CTRL_GO, R.BASE_CTRL_AUTO_RESURVEY, R.BASE_STATUS_STATE, R.BASE_STATUS_WHY,
  R.BASE_STATUS_SURVEY_S, R.BASE_X_LO_POS_LO, R.BASE_Y_LO_POS_LO, R.BASE_Z_LO_POS_LO]

/-- Register map, piece 2. -/
def regMap2 : List Fld := [
  R.BASE_X_HI_POS_HI, R.BASE_Y_HI_POS_HI, R.BASE_Z_HI_POS_HI, R.BASE_ARP_H_HEIGHT,
  R.BASE_SURVEY_CFG_MIN_DUR, R.BASE_SURVEY_CFG_ACC_LIMIT, R.BASE_VER_CFG_VER_T, R.BASE_VER_CFG_VER_TOL,
  R.BASE_VER_CFG_MOVE_TOL, R.BASE_VER_CFG_MIN_SAT, R.CORR_CFG_YC_EN, R.CORR_CFG_EL_MASK,
  R.CORR_CFG_MIN_SAT, R.CORR_CFG_MAX_SIG, R.RTCM_CFG_STATION_ID, R.RTCM_CFG_MSM_TYPE,
  R.RTCM_CFG_MSM_RATE, R.RTCM_CFG_STA_MSG, R.RTCM_CFG_SYS_MASK, R.RTCM_CFG_RTCM_EN,
  R.RTCM_CFG_EARLY, R.RTCM_CFG_RING_EN, R.RTCM_CFG_UART_EN, R.RTCM_CFG_RING,
  R.RTCM_UART_CFG_BAUD, R.CORR_STATUS_NSAT, R.CORR_STATUS_PRODUCING, R.CORR_STATUS_STR_TRUNC,
  R.CORR_STATUS_TRUNCS, R.CORR_STATUS_UART_DROPPED, R.CORR_ANT_STR_CHARS, R.YRD_CTRL_EN,
  R.YRD_CTRL_AUTO_EN, R.YRD_CTRL_ANCHOR_EN, R.YRD_STATUS_CALIBRATED, R.YRD_STATUS_N_CAL,
  R.YRD_STATUS_LATE, R.YRD_STATUS_DISCARDED, R.YRD_CFG_WAIT, R.YRD_CFG_MIN_ANCH,
  R.YRD_CFG_REPORT_RING, R.YRD_CFG_FIX_RING, R.YRD_CFG2_REPORT_EN, R.YRD_CFG2_FIX_EN,
  R.YRD_CFG2_SPACING, R.YRD_CFG2_SNR_MIN, R.YRD_CAL_CFG_MAX_AGE, R.YRD_CAL_CFG_AVG,
  R.YRD_CAL_CFG_RES_TOL, R.YRD_HGT_HGT, R.YRD_AUTO_RELEASE_S, R.YRD_AUTO_WAITING,
  R.YRD_AUTO_ALLOTTED, R.YRD_ANCH_ID_DEV, R.YRD_ANCH_ID_VALID, R.YRD_ANCH_POS_POS,
  R.YRD_ANCH_CAL_CAL, R.YRD_ANCH_CAL_AGE, R.YRD_ANCH_CAL_RES, R.YRD_PLAN_KIND,
  R.YRD_PLAN_CELL, R.YRD_PLAN_ID, R.RAD_CTRL_EN, R.RAD_STATUS_ROLE,
  R.RAD_STATUS_HOLD_EOA, R.RAD_STATUS_FREE, R.RAD_STATUS_DUP_ID, R.RAD_STATUS_NO_KEY,
  R.RAD_STATUS_MISSED, R.RAD_CELL_CFG_CELL_CH, R.RAD_CELL_CFG_CODE, R.RAD_CELL_CFG_SITE_CH,
  R.RAD_CELL_CFG_SITE_CODE, R.RAD_CELL_CFG_CELL, R.RAD_TX_CFG_PWR, R.RAD_TX_CFG_PA_EN_MODE,
  R.RAD_TX_CFG_TRSW_POL, R.RAD_TIMING_WIN, R.RAD_TIMING_TCORR_THR, R.RAD_SITE_CFG_PRIO]

/-- Register map, piece 3. -/
def regMap3 : List Fld := [
  R.RAD_SITE_CFG_ELECT_T, R.RAD_SITE_CFG_REALIGN, R.RAD_SITE_STAT_MASTER_ID, R.RAD_SITE_STAT_MASTER_VALID,
  R.RAD_SITE_STAT_MASTER_CELL, R.RAD_SITE_STAT_HEARD, R.RAD_KEY_CFG_CUR_SLOT, R.RAD_KEY_CFG_NEXT_SLOT,
  R.RAD_KEY_CFG_SITE_SLOT, R.RAD_KEY_CFG_SWITCH_ARMED, R.RAD_KEY_SWITCH_LO_SFN_LO, R.RAD_KEY_SWITCH_HI_SFN_HI,
  R.RAD_ERR_CRC_ERR, R.RAD_ERR_MIC_FAIL, R.RAD_ERR_REPLAY, R.RAD_ERR_WINDOW,
  R.RAD_UL_STAT_OFS, R.RAD_UL_STAT_SNR, R.RAD_UL_STAT_MISSED, R.RAD_ADMIT_LO_SERIAL_LO,
  R.RAD_ADMIT_HI_SERIAL_HI, R.RAD_ADMIT_VALID_VALID, R.RSV_CTRL_EN, R.RSV_STATUS_MAP_OK,
  R.RSV_STATUS_COMPARE_OK, R.RSV_STATUS_GRANT_HOLD, R.RSV_STATUS_COMMIT_BUSY, R.RSV_STATUS_QUEUE,
  R.RSV_STATUS_PARKED, R.RSV_CFG_REL_MARGIN, R.RSV_CFG_RELEASE_N, R.RSV_CFG_MAX_AGE,
  R.RSV_CFG_SHORTEN_T, R.RSV_MAP_VER_VER, R.RSV_COUNTS_GRANTS, R.RSV_COUNTS_REFUSALS,
  R.RSV_ENG_MISMATCH, R.RSV_ENG_CAUSE, R.RSV_ENG_ECC_FIX, R.RSV_MACH_REAR,
  R.RSV_MACH_HELD, R.RSV_MACH_JOINED, R.RSV_BOUND_SEG, R.RSV_BOUND_STATE,
  R.RSV_BOUND_SEQ, R.RSV_CG_HOLDER, R.RSV_CG_COUNT, R.RSV_SEG_HOLDER,
  R.RSV_SEG_STATE, R.RSV_SEG_CONF_LOST, R.RSV_SEG_ROUTE_ID, R.BRK_STATUS_CELL_DRAG,
  R.BRK_STATUS_DRAG_OUT, R.BRK_STATUS_STOPS, R.BRK_STATUS_AUTHS, R.BRK_SRC_SRC,
  R.BRK_CFG_SPD_TOL, R.BRK_CFG_AGE_MAX, R.BRK_CFG_MISS_N, R.BRK_CFG_STILL_SPD,
  R.BRK_CFG2_BACK_TOL, R.BRK_CFG2_AUTH_ACK_T, R.BRK_IN_A, R.BRK_IN_B,
  R.BRK_IN_DISC, R.BRK_IN_DISC_T, R.BRK_WD_CFG_ACTION, R.BRK_WD_CFG_PERIOD,
  R.BRK_WD_CFG_EXPIRED, R.BRK_WD_KICK_KEY, R.BRK_LAT_LAST_US, R.BRK_LAT_MAX_US,
  R.BRK_STOP_STOP, R.BRK_MODEL_A_BRAKE, R.BRK_MODEL_A_ACC, R.BRK_MODEL_VALID,
  R.BRK_MODEL_T, R.BRK_MODEL_V_MAX, R.BRK_MODEL_FRONT, R.BRK_MODEL_MODEL_CRC]

/-- Register map, piece 4. -/
def regMap4 : List Fld := [
  R.BRK_MACH_AUTH_SEQ, R.BRK_MACH_ACKED, R.BRK_MACH_VOID, R.BRK_MACH_HOLD,
  R.BRK_MACH_WITHHELD, R.BRK_MACH_CAUSE, R.BRK_MACH_MISS, R.WB_CTRL_EN,
  R.WB_STATUS_IN_FLIGHT, R.WB_STATUS_READY, R.WB_STATUS_STORE_FULL, R.WB_STATUS_FIFO_FULL,
  R.WB_CFG_DONE_RING, R.WB_CFG_DISP_RING, R.WB_CFG_EVT_RING, R.WB_CFG_EVT_EN,
  R.WB_CFG2_ORDER_TRIES, R.WB_FIFO_DEPTH, R.WB_FIFO_HWM, R.WB_COUNTS_ENDED,
  R.WB_COUNTS_REPEATS, R.WB_COUNTS_EVT_DISCARD, R.WB_DELAY_USED, R.WB_DELAY_LAG_MAX,
  R.WB_TICK_TICK, R.WB_RANK_COUNT, R.WB_RANK_BLOCKED, R.WB_HOSTFLAG_FLAG,
  R.WB_POOL_MEMBER, R.WB_MACH_BOUND, R.WB_MACH_LOT, R.WB_MACH_LOT_VALID,
  R.WB_MACH_FREE, R.WB_MACH_DISABLE, R.WB_PEEK_IDX_INDEX, R.WB_PEEK_DATA_DATA,
  R.WB_RESTART_LINE, R.WB_RESTART_STAT_VALID, R.ID_PART_PART, R.ID_REV_STEP,
  R.ID_REV_GRADE, R.ID_DEV_DEV, R.ID_SERIAL_LO_SERIAL, R.ID_SERIAL_HI_SERIAL,
  R.ID_MAP_VER, R.RING_GLB_STATUS_LINK_UP, R.RING_GLB_STATUS_SPEED, R.RING_GLB_STATUS_WIDTH,
  R.RING_GLB_STATUS_PAUSED, R.RING_JOURNAL_JOURNAL, R.RING_BOOT_BOOT, R.RING_DEV_IRQ_FAULT,
  R.RING_DEV_IRQ_BLOCK, R.RING_DEV_IRQ_EN_EN, R.RING_LINK_LOST_JOURNAL, R.RING_LINK_DROP_CPL,
  R.RING_LINK_DROP_ITEMS, R.RING_BASE_LO_ADDR, R.RING_BASE_HI_ADDR, R.RING_CFG_KIND,
  R.RING_CFG_LOG2, R.RING_CFG_PRIO, R.RING_CFG_COMPL, R.RING_CTRL_EN,
  R.RING_CTRL_FLUSH, R.RING_STATUS_STATE, R.RING_STATUS_FULL, R.RING_STATUS_STAGED,
  R.RING_STATUS_RESERVED, R.RING_PROD_P, R.RING_CONS_C, R.RING_IRQ_CFG_COUNT,
  R.RING_IRQ_CFG_TIMER, R.RING_ECC_CORRECTED, R.RING_ECC_UNCORR, R.RING_ERR_DB_BAD,
  R.RING_ERR_DMA, R.RING_ERR_TOO_LONG, R.RING_ERR_REFUSED, R.RING_ERR_ECC_UNC]

/-- Register map, piece 5. -/
def regMap5 : List Fld := [
  R.RING_FLUSHED_ENTRIES, R.RING_DROP_ITEMS, R.MTR_CTRL_EN, R.MTR_CTRL_STREAM_EN,
  R.MTR_CTRL_STREAM_RING, R.MTR_STATUS_ZX_LOST, R.MTR_STATUS_REF, R.MTR_STATUS_FREE_RUN,
  R.MTR_STATUS_UNREAD, R.MTR_ZX_CFG_TIMEOUT, R.MTR_ZX_CFG_REF, R.MTR_ZX_CFG_AUTO_REF,
  R.MTR_FREQ_FREQ, R.MTR_NOLOAD_NL_FEED, R.MTR_NOLOAD_NL_DOCK, R.MTR_SAVE_STAT_SAVE_NO,
  R.MTR_CALBAD_BAD, R.MTR_CH_CFG_FS, R.MTR_CH_CFG_I_NOM, R.MTR_DOCK_CFG_PHASE,
  R.MTR_DOCK_CFG_SEG, R.MTR_DOCK_CFG_SEG_EN, R.MTR_SRC_CFG_SAVE, R.MTR_SRC_CFG_SAME_FEED,
  R.MTR_SRC_CFG_BOUND, R.MTR_CAL_I_PT, R.MTR_CAL_VALID, R.MTR_CAL_GAIN,
  R.MTR_CAL_PHASE, R.MTR_PI_CFG_DEB, R.MTR_PI_CFG_SUP_EN, R.MTR_PI_STAT_LEVEL,
  R.MTR_PI_STAT_WIRE, R.MTR_PI_STAT_WIRE_SEEN, R.MTR_PI_RATE_RATE, R.MTR_PO_CFG_SRC,
  R.MTR_PO_CFG_EN, R.MTR_PO_CFG_POL, R.MTR_PO_K_K, R.MTR_PO_STAT_BACKLOG,
  R.MTR_PO_STAT_LOST, R.CTL_CTRL_EN, R.CTL_STATUS_AUTO, R.CTL_STATUS_MANUAL,
  R.CTL_STATUS_HELD, R.CTL_EVAL_LAG_MAX, R.CTL_PWM_CFG_FREQ, R.CTL_PWM_CFG_POL,
  R.CTL_GRP_STAT_WINNER, R.CTL_GRP_STAT_VALID, R.CTL_GRP_STAT_OUT, R.CTL_LOOP_CFG_EN,
  R.CTL_LOOP_CFG_DIR, R.CTL_LOOP_CFG_FAIL_ACT, R.CTL_LOOP_CFG_GROUP, R.CTL_LOOP_CFG_GRP_EN,
  R.CTL_LOOP_CFG_PERIOD, R.CTL_LOOP_IO_IN_KIND, R.CTL_LOOP_IO_IN_SEL, R.CTL_LOOP_IO_OUT_KIND,
  R.CTL_LOOP_IO_OUT_SEL, R.CTL_LOOP_IO_PHASE, R.CTL_LOOP_IN_LO_IN_LO, R.CTL_LOOP_IN_HI_IN_HI,
  R.CTL_LOOP_STAT_MODE, R.CTL_LOOP_STAT_WINNER, R.CTL_LOOP_STAT_TRACKING, R.CTL_LOOP_STAT_SAT_HI,
  R.CTL_LOOP_STAT_SAT_LO, R.CTL_LOOP_STAT_PV_BAD, R.CTL_LOOP_STAT_AX_BLOCK, R.CTL_LOOP_STAT_ACTIVE_BANK,
  R.CTL_LOOP_STAT_NEXT_BANK, R.CTL_LOOP_STAT_SWAP_PENDING, R.CTL_LOOP_STAT_CLOSE_PENDING, R.CTL_LOOP_STAT_RESIDUE,
  R.CTL_LOOP_STAT_CFG_ERR, R.CTL_LOOP_PV_PV, R.CTL_LOOP_PV_SP, R.CTL_LOOP_OUT_OUT]

/-- Register map, piece 6. -/
def regMap6 : List Fld := [
  R.CTL_LOOP_OUT_MAN_OUT, R.CTL_LOOP_SAFE_SAFE_OUT, R.CTL_LOOP_AX_LO_AX_LO, R.CTL_LOOP_AX_HI_AX_HI,
  R.CTL_LOOP_AX_DB_AX_DB, R.AXS_CTRL_EN, R.AXS_STATUS_MOVING, R.AXS_STATUS_HOMED,
  R.AXS_STATUS2_FAULT, R.AXS_STATUS2_DIS_REFUSED, R.AXS_GRP_STAT_MEMBERS, R.AXS_GRP_STAT_LEADER,
  R.AXS_GRP_STAT_ACTIVE, R.AXS_AX_CFG_MRES, R.AXS_AX_CFG_DIR_INV, R.AXS_AX_CFG_STAND,
  R.AXS_AX_CFG_GROUP, R.AXS_AX_CFG_GRP_EN, R.AXS_AX_CFG_LIM_EN, R.AXS_AX_CFG_LIM_POL,
  R.AXS_AX_CFG_HOME_POL, R.AXS_AX_CFG_HOME_CHECK, R.AXS_AX_CFG_SLIP_TOL, R.AXS_AX_CHOP_T_OFF,
  R.AXS_AX_CHOP_FAST, R.AXS_AX_CHOP_BLANK, R.AXS_AX_CHOP_I_RUN, R.AXS_AX_CHOP_I_HOLD,
  R.AXS_AX_IN_FILT, R.AXS_AX_IN_CHAT_WIN, R.AXS_AX_IN_CHAT_N, R.AXS_AX_IN_T_HOLD,
  R.AXS_AX_SOFT_LO_SOFT_LO, R.AXS_AX_SOFT_HI_SOFT_HI, R.AXS_AX_STAT_STATE, R.AXS_AX_STAT_HOMED,
  R.AXS_AX_STAT_FAULT, R.AXS_AX_STAT_LIM_LO, R.AXS_AX_STAT_LIM_HI, R.AXS_AX_STAT_HOME,
  R.AXS_AX_STAT_LIM_STOP, R.AXS_AX_STAT_OWNER, R.AXS_AX_STAT_PROF_PENDING, R.AXS_AX_STAT_LOCKED,
  R.AXS_AX_STAT_PHASE, R.AXS_AX_POS_POS, R.AXS_AX_TGT_TGT, R.AXS_AX_VEL_VEL,
  R.AXS_AX_LATCH_HOME_LATCH, R.AXS_AX_PROF_VALUE, R.AXS_AX_WIN_LO_LO, R.AXS_AX_WIN_HI_HI,
  R.AXS_AX_WIN_CFG_VALID, R.AXS_AX_WIN_CFG_ALLOW_OFF, R.AXS_AX_WIN_CFG_CONF, R.AXS_AX_WIN_CFG_REQUIRED,
  R.KEY_STATUS_ROOT_SET, R.KEY_STATUS_STD_OK, R.KEY_STATUS_NV_BUSY, R.KEY_NV_STAT_FAULT,
  R.KEY_RESTART_OUTCOME, R.KEY_RESTART_SLOT, R.KEY_JOIN_CFG_SLOT, R.KEY_ATTR_STATE,
  R.KEY_ATTR_SIZE, R.KEY_ATTR_USAGE, R.KEY_ATTR_MASK, R.KEY_ATTR_DEPTH,
  R.KEY_ATTR_PARENT, R.KEY_ATTR_NV, R.KEY_GEN_GEN, R.KEY_PGEN_PGEN,
  R.KEY_NV_HWM_HWM, R.IMG_CTRL_RX_EN, R.IMG_STATUS_TRIAL_PART, R.IMG_STATUS_ACTIVATING,
  R.IMG_STATUS_CONFIRM_LEFT, R.IMG_CFG_KEY_SLOT, R.IMG_CFG_TX_MAX, R.IMG_XFER_OPEN]

/-- Register map, piece 7. -/
def regMap7 : List Fld := [
  R.IMG_XFER_SOURCE, R.IMG_XFER_COMPLETE, R.IMG_XFER_PART, R.IMG_XFER_XFER,
  R.IMG_XFER_CNT_PIECES, R.IMG_XFER_CNT_RECEIVED, R.IMG_RX_CFG_SRC_CELL, R.IMG_RX_CFG_SRC_CH,
  R.IMG_RX_CFG_SRC_CODE, R.IMG_RX_STAT_FRAMES, R.IMG_RX_STAT_REJECTED, R.IMG_PART_STAT_RUN_SLOT,
  R.IMG_PART_STAT_STATE_A, R.IMG_PART_STAT_STATE_B, R.IMG_PART_STAT_SELF_OK, R.IMG_PART_STAT_CONV,
  R.IMG_PART_STAT_LOST, R.IMG_VER_VERSION, R.IMG_EPOCH_SEC_EPOCH, R.IMG_EPOCH_IF_EPOCH,
  R.IMG_BITMAP_PIECE, R.IMG_REC_ADDR_LO_ADDR, R.IMG_REC_ADDR_HI_ADDR, R.IMG_REC_CMD_PART,
  R.IMG_REC_CMD_GO, R.IMG_REC_CMD_FAIL, R.PAIR_CFG_KEY_SLOT, R.PAIR_CFG_SOLO_T,
  R.PAIR_STATUS_ROLE, R.PAIR_STATUS_PAIRED, R.PAIR_STATUS_READY, R.PAIR_STATUS_PARTNER_READY,
  R.PAIR_STATUS_LINK, R.PAIR_STATUS_YOKE, R.PAIR_STATUS_YOKE_FAULT, R.PAIR_STATUS_TIME_FAULT,
  R.PAIR_STATUS_CELL_MISMATCH, R.PAIR_STATUS_COMPAT, R.PAIR_STATUS_PRESENT_CHG, R.PAIR_STATUS_PARTNER_ID,
  R.PAIR_STATUS_PARTNER_VALID, R.PAIR_LEASE_LEFT, R.PAIR_COPY_COPY_NO, R.PAIR_ACKED_COPY_NO,
  R.PAIR_TOFS_THETA, R.PAIR_TAKE_COUNT, R.PAIR_TAKE_LAST_ROW, R.PAIR_TAKE_LAST_COLD,
  R.PAIR_GAP_LAST, R.PAIR_GAP_MAX, R.PAIR_ERR_AUTH_FAIL, R.PAIR_ERR_REPLAY,
  R.PAIR_ERR_LANE_FAULT, R.PAIR_ERR_COPY_DROP, R.EVT_CFG_RING, R.EVT_CFG_STREAM_EN,
  R.EVT_CFG_FLUSH_AT, R.EVT_CFG_FLUSH_MS, R.EVT_STATUS_UNFLUSHED, R.EVT_STATUS_NVM_OK,
  R.EVT_STATUS_OVERRUN, R.EVT_NEXT_REC_NO, R.EVT_OLDEST_REC_NO, R.EVT_COUNTS_LOST,
  R.EVT_COUNTS_SUMMARIES, R.EVT_CLR_CMD_REQ, R.EVT_CLR_CMD_COMMIT, R.EVT_CLR_CMD_FAIL,
  R.EVT_CLR_CMD_CHAL_VALID, R.EVT_CLR_UPTO_UPTO, R.EVT_CHAL_CHAL, R.EVT_RESP_RESP,
  R.EVT_CLASS_LIM_BURST, R.EVT_CLASS_LIM_PERIOD, R.EVT_CLASS_LIM_FIXED, R.EVT_CLASS_STAT_TOKENS,
  R.EVT_CLASS_STAT_PENDING, R.TLB_ALLOT_LO_SRC, R.TLB_ALLOT_HI_SRC, R.TLB_STATUS_READY]

/-- Register map, piece 8. -/
def regMap8 : List Fld := [
  R.TLB_STATUS_MANIFEST_VALID, R.TLB_STATUS_CONSUMED, R.TLB_STATUS_ALLOT_BAD, R.TLB_STATUS_WRITTEN,
  R.TLB_CUT_LO_T_CUT, R.TLB_CUT_HI_T_CUT, R.TLB_SAVE_SAVE_ID, R.TLB_LAST_LINES,
  R.TLB_LAST_T_US, R.TLB_USER_DATA, R.SYS_TEMP_CORE, R.SYS_TEMP_FIELD,
  R.SYS_TEMP_STAT_WARN, R.SYS_TEMP_STAT_HOT, R.SYS_TEMP_STAT_MAX]

/-- The bits of copy (i, j) of a field that its table names (R8): RAD_ADMIT_VALID[7] and WB_POOL[p][7] have none above machine
239 (R280, R402). -/
def Fld.named (f : Fld) (i j : Nat) : Nat :=
  if (f.base == R.RAD_ADMIT_VALID_VALID.base && i == 7) || (f.base == R.WB_POOL_MEMBER.base && j == 7) then 0xFFFF else 2 ^ f.width - 1

/-- The whole register map. -/
def regMap : List Fld :=
  regMap0 ++ regMap1 ++ regMap2 ++ regMap3 ++ regMap4 ++ regMap5 ++ regMap6 ++ regMap7 ++ regMap8

end Sys2Proof.Machine
end

