-- ==== Sys2Proof/Syntax.lean ====
section
/-!
DEFINITION. The commands that reach the PZ7192, and the records their operands are made of.
-/

namespace Sys2Proof

/-- Which staging word of a ring proved wrong (R431): a corrected word; descriptor `n` of the staged ones; the
completion of the fetched descriptor with serial number `no`; a telemetry or a back-pressured item being assembled. -/
inductive StagWord where
  | corrected
  | desc (n : Nat)
  | compl (no : Nat)
  | telemetry (src : Nat)
  | backPressured (src : Nat)
  deriving DecidableEq, Repr, Inhabited

/-- Why the link counts as lost (R436). -/
inductive LinkCause where
  | linkDown
  | busMasterCleared
  | perst
  deriving DecidableEq, Repr, Inhabited

/-- A bin of a band's spectrum at least NOTCH_THR above the floor: bin, level above the floor in 0.5 dB, interpolated
frequency in the LSB of SKY_NOTCH_FREQ (R85). -/
structure HotBin where
  bin : Nat
  level : Nat
  freq : Nat
  deriving DecidableEq, Repr, Inhabited

/-- One band's spectrum (R83, R88): the peak bin and its level in 0.5 dB, the share of samples blanked, the bins over
NOTCH_THR, and the level at the bin of each of the six notches. -/
structure BandSpec where
  peakBin : Nat := 512
  peakDb : Nat := 0
  blank : Nat := 0
  hot : List HotBin := []
  notched : List Nat := []
  deriving DecidableEq, Repr, Inhabited

/-- What the start types of R96 depend on: whether the conditions of a hot and of a warm start hold, and the satellites
predicted, with their predicted Doppler in 1/16 Hz. -/
structure StartInfo where
  hotOk : Bool := false
  warmOk : Bool := false
  predicted : List (Nat × Int) := []
  deriving DecidableEq, Repr, Inhabited

/-- What a search found (R102): ratio in 0.25 dB, C/N0 in 0.01 dB-Hz, code phase in 1/1024 chip, Doppler in 1/16 Hz,
elevation of the satellite in degrees. -/
structure Hit where
  pnr : Nat
  cn0 : Nat
  codePh : Nat
  dopp : Int
  elev : Int
  deriving DecidableEq, Repr, Inhabited

/-- What a channel has synchronized to (R118). -/
inductive SyncKind where
  | none | dataBit | dataBit2 | codePeriod | codeFromL1 | secondary20 | secondary25 | secondary100 | meander | dataSymbol
  deriving DecidableEq, Repr, Inhabited

/-- What the 11 correlators of a channel accumulate over an integration (R123-R129), as I and Q: early, prompt, late, the eight comb
taps; what the bits show: the synchronization achieved, the transmit time at the integration's end in 1/1024 chip where the time of week has been decoded
(R137), the data polarity where it is resolved, true when inverted (R138); the satellite's elevation in degrees; and, where the sky is known, the signals of R97
that reach the antenna, as satellite and signal code. -/
structure Integ where
  e : Int × Int := (0, 0)
  p : Int × Int := (0, 0)
  l : Int × Int := (0, 0)
  comb : List (Int × Int) := []
  sync : SyncKind := .none
  tow : Option Nat := none
  polarity : Option Bool := none
  elev : Int := 0
  reach : Option (List (Nat × Nat)) := none
  deriving DecidableEq, Repr, Inhabited

/-- What the broadcast ephemeris says of a satellite at an epoch (R140, R174): its position at its transmit time in 0.1 mm, its clock term in ps, its
elevation in degrees, and the low 8 bits of the issue used. -/
structure SatGeo where
  sat : Nat
  pos : Int × Int × Int
  clk : Int
  elev : Int
  iod : Nat := 0
  deriving DecidableEq, Repr, Inhabited

/-- What the ephemerides and the code solution of a measurement epoch give (R140, R160-R162, R174, R181): whether the time solution
passes its residual check, yard time against GPS time as the signals at SKY_IN give it, in ps, the code position and the displacement since the last epoch
in 0.1 mm, the satellites, the offsets solved with the position and those the systems broadcast, as system and 0.01 ns. -/
structure EpochIn where
  timeOk : Bool := false
  clk : Int := 0
  pos : Int × Int × Int := (0, 0, 0)
  disp : Int × Int × Int := (0, 0, 0)
  geo : List SatGeo := []
  solved : List (Nat × Int) := []
  bcast : List (Nat × Int) := []
  deriving DecidableEq, Repr, Inhabited

/-- How the two reservation engines compare on a request, or over their whole copies (R309, R310): in agreement; a word
repaired in one copy (engine 0 A, 1 B); uncorrectable in both copies; a clean mismatch; a failed self-check. -/
inductive EngObs where
  | agree
  | repaired (engine word : Nat)
  | uncorrectable (word : Nat)
  | mismatch (word : Nat)
  | selfCheck
  deriving DecidableEq, Repr, Inhabited

/-- An edge of a homing switch (R530, R534): a raw edge, or a clean one with the pin's level after it. -/
inductive HomeEdge where
  | raw
  | clean (level : Bool)
  deriving DecidableEq, Repr, Inhabited

/-- What the loops of a tick are given (R487, R495): the 16-bit samples of AIN before the tick, the last one first, for each input,
and the loops whose evaluation fails a residue check, with the stage. -/
structure CtlIn where
  ain : List (Nat × List Nat) := []
  residue : List (Nat × Nat) := []
  deriving DecidableEq, Repr, Inhabited

/-- What the chopper of a coil saw, cycle by cycle (R527): the axis, the coil, 0 for A and 1 for B, and when after the start of ON the
comparator first tripped, in ns. -/
structure CoilTrips where
  axis : Nat := 0
  coil : Nat := 0
  trips : List Nat := []
  deriving DecidableEq, Repr, Inhabited

/-- A transmission heard in a ranging slot (R202): TOA in 1/1024 chip, phase in 2^-16 cycle, SNR in 0.25 dB, the frame. -/
structure RangeRx where
  toa : Nat
  phase : Nat
  snr : Nat
  frame : List Byte
  deriving DecidableEq, Repr, Inhabited

/-- What a boot finds (R47, R54, R147, R342): whether TIME_REF_IN is valid; the time of the RTC in ns; the slots
(2 × part + slot) that fail verification; the images in slots that the boot record lists as EMPTY, as shipped; the levels of
the two drag inputs; the datapaths that fail the pattern test, with their cause (192 + cluster is a spare); and how long the
repeated MRAM wipe takes. -/
structure BootIn where
  ref : Bool := true
  rtc : Nat := 0
  bad : List Nat := []
  shipped : List (Nat × List Byte) := []
  dragA : Bool := false
  dragB : Bool := false
  dps : List (Nat × Nat) := []
  wipeNs : Nat := 0
  deriving DecidableEq, Repr, Inhabited

/-- What a checker reports (R30, R40): a package fault; the yard cluster beyond its spare; both FFT engines; the reservation
engine pair; the host link, with whether the standby's link is up. -/
inductive SysFault where
  | package
  | yardCluster
  | fftEngines
  | resEngine
  | hostLink (peer : Bool)
  deriving DecidableEq, Repr, Inhabited

/-- The regions of R24 and the field die. -/
inductive Region where
  | corr | acq | sup | safe | pcie | bar | ctrl | nvm | aon | time | sky | rad | meter | motor | field
  deriving DecidableEq, Repr, Inhabited

/-- Why a region is lost (R27). -/
inductive RegionCause where
  | clock | supply | link
  deriving DecidableEq, Repr, Inhabited

/-- The commands: one constructor per row of the table of operations and events. A host write carries the value
written, a descriptor's command takes the oldest descriptor of its kind handed to the block and carries the host memory
the device reads for it, and an event carries what the device sees. -/
inductive Instr where
  /-- REGISTER_WRITE (R7): A host write to a register that has no row of its own stores, clears or sets bits by its access type. -/
  | registerWrite (addr width : Nat) (v : Word32)
  /-- SUPPLIES_VALID (R663): All supplies have been within range for 1 ms, and reset release follows 2 ms later when VIN_MON is above its release threshold. -/
  | suppliesValid
  /-- RESET_RELEASE (R54): Reset is released and the device runs its boot sequence: fuses, SRAM wipe, image verification, settings restore and sky start. -/
  | resetRelease (boot : BootIn)
  /-- BOOT_LISTEN_END (R54): Ten superframes of listening for site beacons end, and cell time is aligned to a heard beacon or else free-runs from the RTC. -/
  | bootListenEnd
  /-- REF_ABSENT_RECHECK (R47): With no valid TIME_REF_IN, the device checks the input again once a second. -/
  | refAbsentRecheck (boot : BootIn)
  /-- SYS_RESET_WRITE (R53): A write of 0x0000_A5A5 to SYS_RESET completes any NV key update, flushes the recorder and resets the device. -/
  | sysResetWrite (v : Word32)
  /-- SYS_DEV_ID_WRITE (R75): A write to SYS_DEV_ID with the key sets NEXT_ID, or is refused while authorities are held; with any other key it only clears REFUSED. -/
  | sysDevIdWrite (v : Word32)
  /-- VIN_MON_TRIP (R650): VIN_MON trips: DRAG_OUT is asserted, the fast domains are cut and the last-gasp sequence writes the tailboard. -/
  | vinMonTrip (lines : Option Nat)
  /-- VIN_MON_RELEASE (R53): VIN_MON rises above its release threshold after a last-gasp save, and the device resets. -/
  | vinMonRelease
  /-- PWR_GO (R49): PWR_CTRL.GO starts a change to the TARGET power state, or is refused with REFUSE_WHY under R50. -/
  | pwrGo (v : Word32)
  /-- POWER_STATE_ENTERED (R51): Entry to WATCH or DEEP completes, and a wake event latched meanwhile makes the device leave at once. -/
  | powerStateEntered
  /-- RTC_ALARM_WAKE (R73): The RTC reaches PWR_RTC_ALARM and, when enabled, wakes the device. -/
  | rtcAlarmWake
  /-- PERST_WAKE (R73): Deassertion of PE_PERST_N wakes the device when PERST_EN is set. -/
  | perstWake
  /-- PCNT_COMPARE_WAKE (R73): An always-on pulse counter reaches PWR_PCNT_CMP and, when enabled, wakes the device. -/
  | pcntCompareWake (n : Nat)
  /-- DEEP_PULSE_COUNT (R466): In DEEP an always-on counter counts a debounced edge of PULSE_IN[3:0]. -/
  | deepPulseCount (n : Nat)
  /-- WATCH_LISTEN (R270): In WATCH the device listens in slot 396 of superframe 0 each second and wakes when a site beacon lists its ID in WAKE. -/
  | watchListen (frame : List Byte)
  /-- LC_REQ (R67): LC_CMD.REQ places a fresh 16-byte challenge for a life-cycle transition in LC_CHAL. -/
  | lcReq (v : Word32)
  /-- LC_COMMIT (R66): LC_CMD.COMMIT checks the response, burns the state fuse, resets and wipes, or sets FAIL. -/
  | lcCommit (v : Word32)
  /-- LC_DEBUG_REQ (R69): LC_CMD.REQ with DEBUG set issues a challenge for a JTAG debug open. -/
  | lcDebugReq (v : Word32)
  /-- LC_DEBUG_COMMIT (R69): LC_CMD.COMMIT with DEBUG set checks the response and sets DEBUG_OPEN, or refuses with FAIL. -/
  | lcDebugCommit (v : Word32)
  /-- LC_CHALLENGE_EXPIRY (R67): A life-cycle challenge expires 60 s after it is issued. -/
  | lcChallengeExpiry
  /-- FLEET_CYCLE_BOUNDARY (R59): At each 10 ms fleet cycle boundary the device evaluates its level, renews its lease, takes a copy and compares its reservation engines. -/
  | fleetCycleBoundary (eng : EngObs)
  /-- LEVEL_RISE (R59): Once the entry conditions of the next level have held for 10 consecutive fleet cycles, the level rises by one. -/
  | levelRise
  /-- SKY_REINS_PASS (R41): After holding a higher service level for 10 fleet cycles, the device takes the reins for the sky input by a normal switchover. -/
  | skyReinsPass
  /-- SUPERFRAME_START (R235): A 100 ms superframe starts on yard time and the slot schedule begins again. -/
  | superframeStart (epoch : EpochIn)
  /-- GPS_SECOND_BOUNDARY (R186): A GPS second of yard time begins: PPS_OUT edges, plan applies and time steps take place. -/
  | gpsSecondBoundary
  /-- FAULT_DETECTED (R30): A checker reports a fault; the device freezes the affected outputs and reacts by the first matching row of the reaction table. -/
  | faultDetected (fault : SysFault)
  /-- D2D_CRC_FAIL (R26): A die-to-die transfer fails its CRC and is retried, and three consecutive failures mean the field die is lost. -/
  | d2dCrcFail (retry : Bool)
  /-- D2D_LINK_TIMEOUT (R26): The die-to-die link carries no valid transfer for 1 ms, and the field die is treated as lost. -/
  | d2dLinkTimeout
  /-- REGION_LOSS (R27): A region or the field die is lost; an event names region and cause, and the fault interrupt is raised within 10 ms. -/
  | regionLoss (region : Region) (cause : RegionCause) (peer : Bool)
  /-- SAFE_WATCHDOG_EXPIRY (R30): The SAFE watchdog misses a supervisor check-in for a fleet cycle, and the expiry counts as a package fault. -/
  | safeWatchdogExpiry
  /-- TEMP_SAMPLE (R670): The die sensors are read every 10 ms: 125 °C sets WARN, and 135 °C is a package fault. -/
  | tempSample (core field : Int)
  /-- BIAS_SAMPLE (R80): The antenna bias current is measured once per millisecond. -/
  | biasSample (ma : Nat)
  /-- BIAS_SHORT (R80): Bias current at the limit for 10 ms switches the bias off and sets STATE shorted. -/
  | biasShort
  /-- BIAS_RETRY (R80): After a short, the bias is retried once a second. -/
  | biasRetry
  /-- BIAS_OPEN (R80): Bias current below OPEN_MA for 1 s sets STATE open and writes an event. -/
  | biasOpen
  /-- AGC_STEP (R81): Each band's AGC adjusts its gain once per millisecond toward TARGET. -/
  | agcStep (ra rb rc : Nat)
  /-- RF_LOCK_ACQUIRED (R96): All enabled bands have RF lock, and the device chooses a hot, warm or cold start. -/
  | rfLockAcquired (info : StartInfo)
  /-- SPECTRUM_UPDATE (R88): Every 10 ms the spectrum monitor yields a spectrum, JAM_IND is computed and auto notches are placed. -/
  | spectrumUpdate (a b c : BandSpec)
  /-- JAM_STATE_FALL (R90): JAM_IND below the threshold less HYST for 100 computations lowers STATE by one step. -/
  | jamStateFall (b : Nat)
  /-- AUTO_NOTCH_RELEASE (R85): A notched bin below NOTCH_THR - 3 dB for 100 spectra releases its notch. -/
  | autoNotchRelease (b n : Nat)
  /-- NOTCH_APPLY (R86): A notch change takes effect at the next 1 ms tick and flags affected channels discontinuous. -/
  | notchApply
  /-- BASE_GAIN_LEARN (R89): After 60 s of clear operation without notches, BASE is learned or refreshed. -/
  | baseGainLearn (b : Nat)
  /-- SKY_SEARCH (R101): A SKY_SEARCH descriptor queues an FFT search for one satellite. -/
  | skySearch
  /-- ACQ_CAPTURE_DONE (R94): A capture of samples for a search class fills, serving every queued search of its class and band. -/
  | acqCaptureDone (cls band : Nat)
  /-- ACQ_BIN_DONE (R95): An FFT engine finishes a Doppler bin and takes the next job in priority order. -/
  | acqBinDone (engine : Nat)
  /-- SEARCH_DONE (R103): A search ends, its result is written, and any candidate is handed to a free channel. -/
  | searchDone (i : Nat) (hit : Option Hit)
  /-- CANDIDATE_DROP (R99): A candidate held 1 s without a free channel is discarded and counted. -/
  | candidateDrop
  /-- ACQ_RESTART (R96): ACQ_CTRL.RESTART discards the sky search state and starts again by start type. -/
  | acqRestart (v : Word32) (info : StartInfo)
  /-- AUTO_SKY_REPEAT (R98): After full sky, pass 2 is repeated every 10 s for the missing identifiers. -/
  | autoSkyRepeat
  /-- ACQ_DISABLE (R104): Clearing ACQ_EN stops fetching SKY descriptors and aborts running and queued searches within 1 ms. -/
  | acqDisable (v : Word32)
  /-- BAND_DISABLE (R104): Clearing a BAND_EN bit aborts that band's searches, powers the chain down and loses its channels. -/
  | bandDisable (v : Word32)
  /-- BAND_FAULT (R105): A band's synthesizer loses lock or its ADC sticks; RF_LOCK clears and its searches abort. -/
  | bandFault (b cause : Nat)
  /-- BAND_RETRY (R105): A faulted band's synthesizer is retried every 100 ms. -/
  | bandRetry (b : Nat) (locked : Bool)
  /-- FFT_ENGINE_FAULT (R106): An FFT engine fails its self-check and the queue runs on the other engine. -/
  | fftEngineFault (e : Nat)
  /-- TRK_CH_START (R122): TRK_CH_CMD.START starts a host-owned channel by a search or a handover, or sets FAIL. -/
  | trkChStart (ch : Nat) (v : Word32)
  /-- TRK_CH_STOP (R122): TRK_CH_CMD.STOP returns a channel to IDLE within 1 ms. -/
  | trkChStop (ch : Nat) (v : Word32)
  /-- INTEGRATION_END (R129): A channel's integration ends on a grain boundary and its loops and state update. -/
  | integrationEnd (ch : Nat) (m : Integ)
  /-- PULLIN_TIMEOUT (R130): A channel not confirmed within 200 ms of PULLIN returns to IDLE. -/
  | pullinTimeout (ch : Nat)
  /-- FLL_TIMEOUT (R130): A channel still in FLL after 500 ms goes to LOST. -/
  | fllTimeout (ch : Nat)
  /-- CHANNEL_LOSS (R130): C/N0 below LOSS_CN0 for LOSS_T puts a channel in LOST and queues a reacquisition. -/
  | channelLoss (ch : Nat)
  /-- REACQ_HOLD_EXPIRY (R131): A LOST channel held 1 s for reacquisition with no candidate becomes free. -/
  | reacqHoldExpiry (ch : Nat)
  /-- HANDOVER_RETRY (R121): An unconfirmed handover signal is retried every 10 s while its source tracks. -/
  | handoverRetry (sat sig : Nat)
  /-- DATAPATH_DUMP (R143): Every datapath dumps its accumulations each millisecond and is checked by residue, parity and SECDED. -/
  | datapathDump (ch : Nat) (fault : Option Nat)
  /-- SPARE_TAKEOVER (R144): At the next dump boundary the cluster spare takes over a faulted channel, or the channel goes out of service. -/
  | spareTakeover (ch : Nat)
  /-- TRK_DISABLE (R150): Clearing TRK_CTRL.EN stops every sky channel within 1 ms and writes no block for the epoch. -/
  | trkDisable (v : Word32)
  /-- BASE_GO (R159): BASE_CTRL.GO applies MODE: a surveyed, survey-in or stored base position, or clears it. -/
  | baseGo (v : Word32)
  /-- BASE_SKY_LOST_TIMEOUT (R162): Sky lost for more than 60 s returns a verified base to FIXED. -/
  | baseSkyLostTimeout
  /-- RTCM_MSM_OUTPUT (R170): At each MSM period the MSMs of the epoch go to the ring and the UART. -/
  | rtcmMsmOutput
  /-- RTCM_PERIODIC_OUTPUT (R169): Every 10 s messages 1005 or 1006, 1033 and 1230 go out. -/
  | rtcmPeriodicOutput
  /-- RTCM_DISABLE (R180): Clearing RTCM_EN completes the message in progress and sends no more. -/
  | rtcmDisable (v : Word32)
  /-- YC_DISABLE (R180): Clearing CORR_CFG.YC_EN stops yard correction blocks from the next superframe. -/
  | ycDisable (v : Word32)
  /-- PPS_IN_EDGE (R181): A PPS_IN rising edge is time-stamped and serves as a time source when enabled. -/
  | ppsInEdge (t : Nat)
  /-- TIME_REF_LOSS (R187): TIME_REF_IN becomes invalid while running and is handled as loss of the field die. -/
  | timeRefLoss
  /-- TIME_NOW_LO_READ (R190): A read of TIME_NOW_LO latches the 64-bit yard time for TIME_NOW_HI. -/
  | timeNowLoRead
  /-- RANGING_SLOT_RX (R202): In a ranging slot the device measures TOA, phase and SNR, and after the third slot forms an anchor report. -/
  | rangingSlotRx (slot : Nat) (rx : Option RangeRx)
  /-- CAL_FRAME_TX (R205): The device named by a CAL plan position transmits calibration frames in the three slots. -/
  | calFrameTx (e : Nat)
  /-- YRD_REPORTS (R221): A YRD_REPORTS descriptor posts reports of neighbouring anchors to the device. -/
  | yrdReports (mem : Option (List Byte))
  /-- FIX_GATHER_END (R210): Gathering ends when all anchors have reported or WAIT passes, and the fix is solved. -/
  | fixGatherEnd (p : Nat)
  /-- CAL_AGE_EXPIRY (R207): An anchor's newest sample grows older than MAX_AGE, and it stops counting as calibrated. -/
  | calAgeExpiry (a : Nat)
  /-- YRD_AUTO_RELEASE (R218): A machine that has cleared its request for RELEASE_S seconds loses its AUTO positions. -/
  | yrdAutoRelease (m : Nat)
  /-- YRD_DISABLE (R223): Clearing YRD_CTRL.EN stops listening and CAL frames and aborts fetched YRD_REPORTS. -/
  | yrdDisable (v : Word32)
  /-- CELL_BEACON_TX (R249): The reins holder transmits the cell beacon in slots 0–3. -/
  | cellBeaconTx
  /-- STANDBY_DRAG_DECISION (R33): At the start of a drag slot a paired standby decides whether to send the whole-cell drag frame. -/
  | standbyDragDecision
  /-- DRAG_DECISION (R345): Fifteen µs into a drag slot the reins holder picks a whole-cell frame, an individual frame or silence. -/
  | dragDecision
  /-- CORR_FRAME_TX (R175): A piece of the yard correction block goes out in one of slots 5–40. -/
  | corrFrameTx
  /-- DOWNLINK_TX (R237): A free downlink slot carries the next frame by order: authority, join or rekey, fix, order, allotment or piece. -/
  | downlinkTx
  /-- UPLINK_RX (R255): A machine uplink is received in its slot, authenticated and timed, and feeds supervision, release and events. -/
  | uplinkRx (slot : Nat) (ofs : Int) (snr : Nat) (frame : List Byte)
  /-- JOIN_RX (R260): A JOIN frame from an admitted serial clears the machine's high-water entry and queues a JOIN_ACCEPT. -/
  | joinRx (slot : Nat) (frame : List Byte)
  /-- SITE_BEACON_TX (R264): The master sends its site beacon in slot 396, and others in their rotating slot. -/
  | siteBeaconTx
  /-- SITE_BEACON_RX (R264): A site beacon is received and checked for time, rank and duplicate device ID. -/
  | siteBeaconRx (slot : Nat) (ofs : Int) (frame : List Byte)
  /-- MASTER_BEACON_MISS (R265): Slot 396 passes without an on-time master beacon; at three misses the follower free-runs and holds at EoA. -/
  | masterBeaconMiss
  /-- MASTER_CLAIM (R268): After ELECT_T superframes without a master, an eligible top-ranked device claims the master role. -/
  | masterClaim
  /-- MASTER_RESIGN (R268): A master ineligible for 60 s gives up the role. -/
  | masterResign
  /-- SITE_HWM_CLEAR (R245): The site high-water entries are cleared at each GPS week start. -/
  | siteHwmClear
  /-- OLD_KEY_EXPIRY (R247): Ten superframes after a key switch, frames under the old key stop being accepted. -/
  | oldKeyExpiry
  /-- RAD_DISABLE (R271): Clearing RAD_CTRL.EN asserts whole-cell drag, sends four drag frames, then stops and drops waiting downlink. -/
  | radDisable (v : Word32)
  /-- ROUTE (R289): A ROUTE descriptor queues a route request for a machine. -/
  | route (mem : Option (List Byte))
  /-- ROUTE_EVALUATE (R291): Both engines evaluate the request at the head of the queue and grant or refuse it after comparison. -/
  | routeEvaluate (eng : EngObs)
  /-- PARKED_TIMEOUT (R293): A parked request not granted within TIMEOUT superframes completes TIMEOUT. -/
  | parkedTimeout (no : Nat)
  /-- GRANT_HOLD_END (R296): Slot 346 ends in the first full superframe after a takeover, and new grants are allowed. -/
  | grantHoldEnd
  /-- MAP_LOAD (R319): MAP_LOAD writes entries into the shadow map. -/
  | mapLoad (mem : Option (List Byte))
  /-- MAP_COMMIT (R284): MAP_COMMIT checks the shadow map and the held segments at fetch. -/
  | mapCommit
  /-- MAP_COMMIT_APPLY (R285): At the next fleet cycle boundary the commit is tested again and applied in both engines and MRAM. -/
  | mapCommitApply
  /-- SHORTEN (R300): SHORTEN has braking supervision issue an authority ending at LAST_SEG. -/
  | shorten
  /-- SHORTEN_TIMEOUT (R300): No acknowledging uplink within SHORTEN_T superframes completes the SHORTEN TIMEOUT. -/
  | shortenTimeout (m : Nat)
  /-- EVICT (R301): EVICT releases every segment of a stopped machine that holds no authority. -/
  | evict
  /-- SEGMENT_CLOSE (R302): CLOSE makes a free segment CLOSED and a held one CLOSE_PENDING. -/
  | segmentClose
  /-- SEGMENT_OPEN (R302): OPEN makes a closed segment FREE or restores a CLOSE_PENDING one. -/
  | segmentOpen
  /-- XFER_OUT (R306): XFER OUT makes a home boundary segment FOREIGN or LEAVING and writes the record. -/
  | xferOut
  /-- XFER_IN (R306): XFER IN takes a boundary segment home from a record with the next SEQ. -/
  | xferIn (mem : Option (List Byte))
  /-- XFER_DONE (R306): XFER DONE makes a LEAVING segment FOREIGN and releases it. -/
  | xferDone
  /-- XFER_SET (R306): XFER SET at L1 forces a boundary segment's state and SEQ. -/
  | xferSet
  /-- MAP_CRC_CHECK (R308): The active map's CRC-32 is checked once per second. -/
  | mapCrcCheck (ok : Bool)
  /-- RSV_DISABLE (R311): Clearing RSV_CTRL.EN aborts every queued and parked route request within 1 ms. -/
  | rsvDisable (v : Word32)
  /-- AUTH_ACK_TIMEOUT (R323): An authority not acknowledged within AUTH_ACK_T superframes writes event 0x0905. -/
  | authAckTimeout (m : Nat)
  /-- MISS_COUNT (R337): At the end of slot 346 a miss is counted for each supervised machine without a counting uplink. -/
  | missCount
  /-- DRAG_ASSERT (R352): A DRAG descriptor asserts the HOST whole-cell drag source. -/
  | dragAssert
  /-- DRAG_RELEASE (R341): A DRAG release clears a named source when its release condition holds. -/
  | dragRelease
  /-- STOP (R352): A STOP descriptor sets a HOST individual stop for a machine. -/
  | stop
  /-- STOP_RELEASE (R340): STOP_RELEASE clears a machine's stop when it stands still and its cause is resolved. -/
  | stopRelease
  /-- DRAG_INPUT_CHANGE (R342): A filtered drag input asserts or deasserts and sets the INPUT source. -/
  | dragInputChange (a b : Bool)
  /-- DRAG_INPUT_DISCREPANCY (R342): The two drag channels disagree longer than DISC_T, and DISC is set. -/
  | dragInputDiscrepancy
  /-- WD_KICK (R344): A write of 0x0000_5A5A to BRK_WD_KICK arms or kicks the host watchdog. -/
  | wdKick (v : Word32)
  /-- HOST_WATCHDOG_EXPIRY (R344): A period without a kick sets EXPIRED and holds at EoA or sets the WATCHDOG source. -/
  | hostWatchdogExpiry
  /-- WB_CREATE (R367): WB_CREATE accepts a waybill into the store, arms its operands and writes the result. -/
  | wbCreate (mem : Option (List Byte))
  /-- WB_ROUTE_PLACE (R369): An armed ROUTE operand places its request in the reservation queue once there is room and EN is set. -/
  | wbRoutePlace
  /-- WB_BUDGET_EXPIRY (R369): A ROUTE operand's BUDGET is spent and the waybill ends TIMEOUT. -/
  | wbBudgetExpiry (i : Nat)
  /-- WB_DISPATCH (R375): The dispatcher takes a ready waybill whose target can take it and carries out its target action. -/
  | wbDispatch
  /-- ORDER_UNTAKEN_TIMEOUT (R376): An ORDER frame on air ORDER_TRIES superframes without ORDER_TAKEN ends the waybill and sends CANCEL. -/
  | orderUntakenTimeout (i : Nat)
  /-- MACHINE_EVENT_TAKE (R389): The engine takes an event from the inbound FIFO, matches operands and device codes and copies it to EVT_RING. -/
  | machineEventTake
  /-- WB_TICK (R380): At each 1 ms tick the engine processes every due delay entry. -/
  | wbTick
  /-- WB_DELAY_EXPIRY (R363): An armed DELAY operand reaches its tick count and arrives. -/
  | wbDelayExpiry (i : Nat)
  /-- WB_WAIT_LIMIT (R381): WAIT_LIMIT passes before firing and the waybill ends TIMEOUT. -/
  | wbWaitLimit (i : Nat)
  /-- WB_RUN_LIMIT (R381): RUN_LIMIT passes after dispatch and the waybill ends TIMEOUT, sending CANCEL for an order. -/
  | wbRunLimit (i : Nat)
  /-- WB_RECORD_WRITE (R382): An ended waybill's record is written to DONE_RING once there is room, freeing its index. -/
  | wbRecordWrite
  /-- TOKEN_SET (R390): TOKEN sets a host flag. -/
  | tokenSet
  /-- TOKEN_CLEAR (R390): TOKEN clears a host flag. -/
  | tokenClear
  /-- TOKEN_DELIVER (R390): TOKEN delivers to a HOST operand of a waybill. -/
  | tokenDeliver
  /-- WB_CANCEL (R392): CANCEL ends a waiting or ready waybill, or brings a dispatched one to its end. -/
  | wbCancel
  /-- WB_DONE (R390): WB_DONE ends a dispatched HOST waybill with the given status. -/
  | wbDone
  /-- ROUTE_LOAD (R391): ROUTE_LOAD checks and writes route templates. -/
  | routeLoad (mem : Option (List Byte))
  /-- WB_MACH_DISABLE_WRITE (R386): Setting WB_MACH.DISABLE on a bound machine ends its waybill ABORTED with MACHINE_LOST. -/
  | wbMachDisableWrite (m : Nat) (v : Word32)
  /-- WB_PEEK (R403): A write to WB_PEEK_IDX copies a store entry atomically into WB_PEEK_DATA. -/
  | wbPeek (v : Word32)
  /-- WB_ECC_ERROR (R387): An uncorrectable store word ends that waybill ECC_UNCORRECTABLE and unbinds its machine. -/
  | wbEccError (i lost : Nat)
  /-- WB_DISABLE (R393): Clearing WB_CTRL.EN ends every waybill ABORTED with DISABLED within 10 ms. -/
  | wbDisable (v : Word32)
  /-- RING_DOORBELL (R416): A write to RING_DB advances P of a SUBMIT ring or C of a completion or item ring, or is ignored with DB_BAD. -/
  | ringDoorbell (r : Nat) (v : Word32)
  /-- DESCRIPTOR_FETCH (R417): The device reserves completion entries and fetches up to 8 descriptors into staging. -/
  | descriptorFetch (r : Nat) (descs : List (List Byte))
  /-- DESCRIPTOR_DISPATCH (R418): A staged descriptor is checked and handed to its block when the block can take it. -/
  | descriptorDispatch (r : Nat)
  /-- GAP_ITEM_WRITE (R423): A GAP item for dropped telemetry is written before the next item or at the first tick it fits. -/
  | gapItemWrite (src : Nat)
  /-- RING_IRQ_TIMER (R433): TIMER µs pass after the first untaken entry and the ring's vector is raised. -/
  | ringIrqTimer (r : Nat)
  /-- RING_ENABLE (R412): Setting RING_CTRL.EN enables a ring or is refused for a bad configuration. -/
  | ringEnable (r : Nat) (v : Word32)
  /-- RING_DISABLE (R435): Clearing RING_CTRL.EN drains the ring as its kind requires. -/
  | ringDisable (r : Nat) (v : Word32)
  /-- RING_FLUSH (R430): RING_CTRL.FLUSH empties the ring and aborts fetched descriptors. -/
  | ringFlush (r : Nat) (v : Word32)
  /-- DESCRIPTOR_READ_FAIL (R432): A failed descriptor read halts the SUBMIT ring. -/
  | descriptorReadFail (r : Nat)
  /-- RING_STAGING_ECC (R431): An uncorrectable staging word completes, drops or gaps the affected descriptor or item. -/
  | ringStagingEcc (r : Nat) (word : StagWord)
  /-- LINK_LOSS (R436): Loss of the PCIe link disables every ring and aborts fetched descriptors. -/
  | linkLoss (cause : LinkCause)
  /-- LINK_LOSS_DROP_TIMEOUT (R436): After 1 s of link loss back-pressured items are dropped and counted. -/
  | linkLossDropTimeout
  /-- PCIE_RESET (R437): PE_PERST_N or Function Level Reset resets the PCIE region and the RING registers only. -/
  | pcieReset
  /-- LINK_UP (R437): The link comes up again and event 0x0B05 is written. -/
  | linkUp (speed width : Nat)
  /-- METER_SAMPLE (R446): All 13 metering channels are sampled at a sample boundary, and pending bindings take effect. -/
  | meterSample (x : List Int)
  /-- LINE_CYCLE_END (R448): A zero crossing ends a line cycle, and quantities are computed and accumulated into sources and accounts. -/
  | lineCycleEnd (residueBad : Bool)
  /-- ZX_TIMEOUT (R449): A voltage channel without a counting crossing for TIMEOUT sets ZX_LOST. -/
  | zxTimeout (k : Nat)
  /-- PULSE_IN_EDGE (R464): A debounced OPEN-to-CLOSED change on PULSE_IN counts an edge. -/
  | pulseInEdge (n level : Nat)
  /-- PULSE_WIRE_FAULT (R465): BROKEN or SHORT held 200 ms sets WIRE and stops counting. -/
  | pulseWireFault (n : Nat)
  /-- PULSE_WIRE_RECOVER (R465): A valid level held 1 s clears WIRE and ends the interval. -/
  | pulseWireRecover (n : Nat)
  /-- PULSE_OUT_EMIT (R467): A pulse output emits a due pulse from its backlog. -/
  | pulseOutEmit (o : Nat)
  /-- METER_SAVE (R468): At each quarter hour the metering state is saved to MRAM. -/
  | meterSave
  /-- METER_ACCOUNT_ECC (R476): An uncorrectable account word sets ECC and GAP on that lot. -/
  | meterAccountEcc (lot : Nat)
  /-- MTR_SNAP (R478): SNAP writes a snapshot of sources or an account. -/
  | mtrSnap
  /-- LOT_OPEN (R459): LOT open zeroes and opens a lot account. -/
  | lotOpen
  /-- LOT_CLOSE (R459): LOT close rebinds the lot's sources to HOUSE, writes the final snapshot and frees the account. -/
  | lotClose
  /-- MTR_CAL (R456): CAL starts a calibration of a channel set over CYCLES cycles. -/
  | mtrCal
  /-- MTR_CAL_DONE (R456): The calibration cycles end; the result is written and applied when APPLY is set. -/
  | mtrCalDone
  /-- MTR_BIND (R460): BIND binds sources to a lot from the next sample boundary. -/
  | mtrBind
  /-- MTR_SAVE (R478): SAVE starts a metering save and completes at its commit. -/
  | mtrSave
  /-- MTR_INTERVALS (R473): INTERVALS reads unaccounted interval entries, freeing them with ACK. -/
  | mtrIntervals
  /-- MTR_DISABLE (R475): Clearing MTR_CTRL.EN stops accumulation and starts a DISABLED interval. -/
  | mtrDisable (v : Word32)
  /-- LOOP_TICK (R491): A loop falls due at a tick; it is evaluated by the control law and its output applied. -/
  | loopTick (l : Nat) (x : CtlIn)
  /-- LOOP_CLOSE (R500): At its due tick a pending loop swaps banks and closes without a bump. -/
  | loopClose (l : Nat) (x : CtlIn)
  /-- CTL_MODE (R499): CTL_MODE applies a setpoint, a manual output and a change of mode. -/
  | ctlMode
  /-- CTL_BANK (R504): CTL_BANK writes a whole coefficient bank and may set NEXT_BANK. -/
  | ctlBank
  /-- CTL_TABLE (R497): CTL_TABLE writes a whole gain table. -/
  | ctlTable (mem : Option (List Byte))
  /-- LOOP_ENABLE (R506): Setting a loop's EN checks its configuration and starts it in MANUAL, or sets CFG_ERR. -/
  | loopEnable (l : Nat) (v : Word32)
  /-- LOOP_DISABLE (R507): Clearing a loop's EN puts it OFF with its output held. -/
  | loopDisable (l : Nat) (v : Word32)
  /-- CTL_DISABLE (R507): Clearing CTL_CTRL.EN stops every evaluation and holds the outputs. -/
  | ctlDisable (v : Word32)
  /-- CTL_ENABLE (R507): Setting CTL_CTRL.EN resumes the loops, with AUTO loops closing under R505. -/
  | ctlEnable (v : Word32)
  /-- AX_MOVE (R545): AX_MOVE moves an axis to a target, or re-plans a move in progress. -/
  | axMove
  /-- AX_GMOVE (R526): AX_GMOVE moves an interpolation group along a line. -/
  | axGmove
  /-- AX_HOME (R533): AX_HOME runs the homing sequence toward the named switch. -/
  | axHome
  /-- AX_STOP (R683): AX_STOP brakes a moving or homing axis to a standstill. -/
  | axStop
  /-- AX_PROFILE (R523): AX_PROFILE writes profile values, applied at once or deferred. -/
  | axProfile
  /-- AX_ENABLE (R539): AX_CTRL enable enables an axis without changing a leg. -/
  | axEnable
  /-- AX_DISABLE (R539): AX_CTRL disable brakes the axis at D_EMG and disables it unless it is locked. -/
  | axDisable
  /-- AX_CLEAR_FAULT (R545): AX_CTRL clear FAULT clears an axis fault once its cause no longer persists. -/
  | axClearFault (persists : Bool)
  /-- AX_WINDOW (R538): AX_WINDOW writes a confirmation window unless a held segment requires it. -/
  | axWindow
  /-- AX_MOVE_END (R521): The last step of a move lands on its target and the axis holds I_HOLD. -/
  | axMoveEnd (a : Nat)
  /-- AX_CONFIRM (R536): Ten ms after a move ends the axis is confirmed at each window it lies in. -/
  | axConfirm (a : Nat)
  /-- AX_STAND_TIMEOUT (R529): After T_HOLD the axis turns its coils OFF or shorts them by STAND. -/
  | axStandTimeout (a : Nat)
  /-- AX_LIMIT_INPUT (R531): A clean limit change during a move toward it brakes the axis at D_EMG. -/
  | axLimitInput (a : Nat) (hi active : Bool)
  /-- AX_HOME_EDGE (R533): A clean edge of the homing switch advances homing or is compared for a slip. -/
  | axHomeEdge (a src : Nat) (edge : HomeEdge)
  /-- HOME_MAX_TRAVEL (R533): Homing passes MAX_TRAVEL in a state and fails with HOME_NOT_FOUND. -/
  | homeMaxTravel (a : Nat)
  /-- AX_OVERCURRENT (R527, R528): A comparator tripped at end of blanking for 16 cycles turns the legs OFF with OVERCURRENT. -/
  | axOvercurrent (a : CoilTrips)
  /-- AXS_DISABLE (R540): Clearing AXS_CTRL.EN disables every axis, or is discarded while any axis is locked. -/
  | axsDisable (v : Word32)
  /-- KEY_COMMISSION (R557): KEY_COMMISSION burns the root in BLANK and derives the standard keys. -/
  | keyCommission (mem : Option (List Byte))
  /-- KEY_IMPORT (R558): KEY_IMPORT unwraps a key into a working slot or an NV slot. -/
  | keyImport (mem : Option (List Byte))
  /-- KEY_DERIVE (R559): KEY_DERIVE fills a slot from a parent by SP 800-108 KDF. -/
  | keyDerive
  /-- KEY_INVALIDATE (R564): KEY_INVALIDATE raises the generation of a slot and its descendants and makes them STALE. -/
  | keyInvalidate
  /-- KEY_ATTEST (R571): KEY_ATTEST returns the state block and its HMAC response for a challenge. -/
  | keyAttest
  /-- KEY_SLOT_ECC (R573): An uncorrectable word in a working slot sets it FAULT. -/
  | keySlotEcc (n : Nat)
  /-- IMG_OPEN (R583): IMG_OPEN starts or resumes a transfer and erases staging. -/
  | imgOpen
  /-- IMG_ERASE_DONE (R583): The staging erase of IMG_OPEN completes and the descriptor completes. -/
  | imgEraseDone
  /-- IMG_CLOSE (R583): IMG_CLOSE abandons the open transfer. -/
  | imgClose
  /-- IMG_LOAD (R584): IMG_LOAD writes pieces from host memory into staging. -/
  | imgLoad (mem : Option (List Byte))
  /-- IMG_SEND (R586): IMG_SEND sends pieces as PIECE frames in free downlink slots. -/
  | imgSend (mem : Option (List Byte))
  /-- PIECE_FRAME_RX (R587): An accepted PIECE frame is programmed into staging, and a piece's bit is set when all fragments are in. -/
  | pieceFrameRx (slot ch code : Nat) (frame : List Byte)
  /-- IMG_INSTALL (R589): IMG_INSTALL checks, decrypts and copies a complete container into the free slot. -/
  | imgInstall
  /-- IMG_INSTALL_DONE (R589): The install's copy and verification end and the slot becomes VALID. -/
  | imgInstallDone
  /-- IMG_ACTIVATE (R593): IMG_ACTIVATE starts a VALID slot as TRIAL at the part's boundary, building its settings store. -/
  | imgActivate (convOk : Bool)
  /-- IMG_ACTIVATE_PAUSE_END (R593): The part's activation pause ends and the descriptor completes. -/
  | imgActivatePauseEnd
  /-- IMG_CONFIRM (R599): IMG_CONFIRM makes the TRIAL slot RUNNING and raises the epoch counter. -/
  | imgConfirm
  /-- IMG_FALLBACK (R600): IMG_FALLBACK returns a part in TRIAL to its confirmed image. -/
  | imgFallback
  /-- IMG_CONFIRM_TIMEOUT (R600): A trial not confirmed 120 s after its pause falls back by itself. -/
  | imgConfirmTimeout
  /-- IMG_REC_GO (R601): IMG_REC_CMD.GO recovers a part from a host container and resets the device. -/
  | imgRecGo (v : Word32)
  /-- HELLO_TX (R613): HELLO goes out at link up and once per superframe. -/
  | helloTx
  /-- HELLO_RX (R613): A HELLO frame is received with the partner's role and readiness. -/
  | helloRx (frame : List Byte)
  /-- LEASE_RX (R617): A LEASE frame is accepted and the lease expiry restarts. -/
  | leaseRx (frame : List Byte)
  /-- COPY_RX (R615): A copy's frames arrive and are applied whole with an ACK. -/
  | copyRx (frames : List (List Byte))
  /-- COPY_DEADLINE (R615): A copy not complete by T_C + 5 ms is discarded. -/
  | copyDeadline
  /-- ACK_RX (R617): An ACK is received; acknowledged copies release withheld authorities and records. -/
  | ackRx (frame : List Byte)
  /-- RELEASE_RX (R624): A RELEASE frame makes the standby take the reins warm. -/
  | releaseRx (frame : List Byte)
  /-- LAPSED_RX (R620): A LAPSED frame is recorded for the takeover rules. -/
  | lapsedRx (frame : List Byte)
  /-- CLAIM_RX (R626): A CLAIM frame from a lower ID makes the device yield. -/
  | claimRx (frame : List Byte)
  /-- YIELD_RX (R626): A YIELD frame is received during start-up claim. -/
  | yieldRx (frame : List Byte)
  /-- TAKEN_RX (R619): A TAKEN frame makes a lapsed or switching device release its outputs. -/
  | takenRx (frame : List Byte)
  /-- LEASE_LAPSE (R619): A device's own lease lapses: outputs freeze, radio is inhibited and YOKE is released. -/
  | leaseLapse
  /-- PARTNER_LEASE_EXPIRY (R620): The partner's lease expires and the standby takes the reins by the table. -/
  | partnerLeaseExpiry (yoke : Bool)
  /-- TAKEOVER_DELAYED (R620): Ninety ms after the last LEASE with LAPSED seen, the standby takes the reins. -/
  | takeoverDelayed
  /-- TAKEOVER_BEACON_LOSS (R620): With YOKE asserted and no LAPSED, three superframes without a cell beacon give a cold takeover. -/
  | takeoverBeaconLoss
  /-- YOKE_SEEN_ASSERTED (R619): A lapsed device sees YOKE asserted by its partner and makes its outputs high-impedance. -/
  | yokeSeenAsserted
  /-- YOKE_FAULT (R618): YOKE read-back disagrees with its drive for 1 ms. -/
  | yokeFault
  /-- DRAWBAR_LANE_FAULT (R610): A drawbar lane loses lock and the link carries on at half rate. -/
  | drawbarLaneFault (lane : Nat)
  /-- PAIR_PRESENT_CHANGE (R610): PAIR_PRESENT_N changes after reset release, which is recorded for the next reset. -/
  | pairPresentChange (asserted : Bool)
  /-- PAIR_SWITCH (R625): PAIR_SWITCH requests a planned handover to a ready standby. -/
  | pairSwitch
  /-- PAIR_SWITCH_RUN (R624): At T_s the device freezes, sends its final copy and RELEASE. -/
  | pairSwitchRun
  /-- PAIR_SWITCH_TIMEOUT (R624): No TAKEN within 20 ms: the device reasserts YOKE and resumes. -/
  | pairSwitchTimeout (yoke : Bool)
  /-- PAIR_CLAIM (R626): A synchronized paired device without reins sends CLAIM and listens one fleet cycle. -/
  | pairClaim (yoke : Bool)
  /-- PAIR_YOKE_ASSERT (R626): After its ID-based wait with YOKE released, the claimant asserts YOKE. -/
  | pairYokeAssert (yoke : Bool)
  /-- PAIR_SOLO_CLAIM (R627): After SOLO_T without a drawbar, a device may claim the reins alone. -/
  | pairSoloClaim (yoke : Bool)
  /-- EVT_FLUSH_RUN (R643): A flush copies unflushed records to the MRAM ring and commits. -/
  | evtFlushRun
  /-- EVT_FLUSH_AGE (R643): FLUSH_MS passes since the oldest unflushed record and a flush starts. -/
  | evtFlushAge
  /-- EVT_OVERRUN_END (R644): An overrun episode ends and record 0x1203 is written. -/
  | evtOverrunEnd
  /-- EVT_CLASS_PERIOD (R641): A class regains a token each PERIOD and writes a summary when PENDING is not 0. -/
  | evtClassPeriod (k : Nat)
  /-- EVT_CLR_REQ (R646): EVT_CLR_CMD.REQ issues a clear challenge bound to UPTO. -/
  | evtClrReq (v : Word32)
  /-- EVT_CLR_COMMIT (R647): EVT_CLR_CMD.COMMIT checks the response and discards records up to UPTO, or refuses. -/
  | evtClrCommit (v : Word32)
  /-- EVT_CLR_EXPIRY (R646): A clear challenge expires after 60 s. -/
  | evtClrExpiry
  /-- EVT_READ (R654): EVT_READ copies records from the log to host memory. -/
  | evtRead
  /-- EVT_FLUSH (R654): EVT_FLUSH forces a flush and completes at its commit. -/
  | evtFlush
  /-- EVT_NOTE (R654): EVT_NOTE makes a host note record. -/
  | evtNote
  /-- TLB_ALLOT_WRITE (R648): A write to TLB_ALLOT changes the allotment from the next fleet cycle, or is discarded. -/
  | tlbAllotWrite (hi : Bool) (v : Word32)
  /-- VAON_APPLIED (R664): VAON is first applied: the AON island starts on its RC oscillator, PWR_WAKE_CFG reads 0x0000_0002 and SUPPLY_REQ is asserted. -/
  | vaonApplied
  /-- SUPPLIES_LOST (R55): The supplies leave their ranges after the hold-up window, ending the last-gasp save and making DRAG_OUT high-impedance, and with VAON gone the AON state is lost. -/
  | suppliesLost (vaon : Bool)
  /-- XO32_CRYSTAL_START (R665): The 32.768 kHz crystal has started, AON switches from its RC oscillator to it, and the METER domain may start. -/
  | xo32CrystalStart
  /-- CELL_BEACON_RX (R620): An authenticated cell beacon of its own cell is heard by a device that does not hold the reins, resetting the beacon-loss count for takeover and solo claim and satisfying the MAC self-check on a standby. -/
  | cellBeaconRx (frame : List Byte)
  /-- DRAWBAR_LANE_LOCK (R610): A drawbar lane gains lock; when it is the first lane, the link comes up, HELLO goes out and the active device sends a FULL copy. -/
  | drawbarLaneLock (lane : Nat)
  /-- AX_STANDSTILL (R683): A braking that ends on no planned target reaches V_START and its last step, and the axis stands, completing a stopped, limited, disabled, replaced or homing move as its rule says. -/
  | axStandstill (a : Nat)
  /-- IMG_RECOVERY_DONE (R601): The boot code finishes reading and checking the recovery container, and it either writes slot A and resets the device or sets FAIL. -/
  | imgRecoveryDone (mem : Option (List Byte))
  /-- METER_SAVE_COMMIT (R468): A metering save finishes writing its copy and commits the commit word, which raises SAVE_NO and completes any MTR_SAVE descriptor. -/
  | meterSaveCommit
  /-- NV_KEY_COMMIT (R567): An NV key update writes its commit word, updates the working mirror, clears the journal and completes its descriptor. -/
  | nvKeyCommit
  deriving DecidableEq, Repr

end Sys2Proof
end

