-- ==== Sys2Proof/Machine/Dev.lean ====
section
/-!
DEFINITION. The device's state as plain data, block by block: clocks, the register file, and for every block the state
the spec gives it beside its registers. Every structure's default is the state after reset.
-/

namespace Sys2Proof.Machine

/-! ### Fuses, clocks, register file -/

/-- Life-cycle states of R64, in the order of LC_STATE.STATE (R76). -/
inductive Lc where
  | blank | provisioned | field | ret | scrapped
  deriving DecidableEq, Repr, Inhabited

/-- LC_STATE.STATE code of R76. -/
def Lc.code : Lc → Nat
  | .blank => 0 | .provisioned => 1 | .field => 2 | .ret => 3 | .scrapped => 4

/-- The state a code names (R76). -/
def Lc.ofCode : Nat → Option Lc
  | 0 => some .blank | 1 => some .provisioned | 2 => some .field | 3 => some .ret | 4 => some .scrapped | _ => none

/-- What the fuses hold (R54, R64, R66, R554, R590). `wipeDone` is LC_STATE.WIPE_DONE, `root` the device root once it
is burned, `epochs` the security epoch counter of each firmware part. -/
structure Fuse where
  lc : Lc := .blank
  wipeDone : Bool := false
  root : Option (List Byte) := none
  epochs : Tab Nat := []
  serial : Nat := 0
  deriving DecidableEq, Repr, Inhabited

/-- Time. `yard` is yard time in ns since the GPS epoch, `mono` ns since reset release (tick count of R380), and the
next four are 1 + the index of the last fleet cycle, superframe, GPS second and tick processed; `slew` is what yard time has still to be
slewed by in ns, positive while it is ahead, `slewAcc` the ns since the last one slewed (R184). -/
structure Clk where
  yard : Nat := 0
  mono : Nat := 0
  slew : Int := 0
  slewAcc : Nat := 0
  fc : Nat := 0
  sf : Nat := 0
  sec : Nat := 0
  tick : Nat := 0
  deriving DecidableEq, Repr, Inhabited

/-- The register file: the SRAM copy that a reset wipes, and the kept copies of R10 and R65. `parts` holds the settings
of the five firmware parts (R596). -/
structure RegFile where
  vol : Tab Nat := []
  mram : Tab Nat := []
  aon : Tab Nat := []
  ident : Tab Nat := []
  parts : Tab (Tab Nat) := []
  deriving DecidableEq, Repr, Inhabited

/-! ### Rings -/

/-- A fetched descriptor: its SUBMIT ring, its position, its serial number, its COMPLETE ring, the 64 bytes read, and
whether the function it names was enabled at the fetch (R425, R435). -/
structure Desc where
  ring : Nat := 0
  idx : Nat := 0
  no : Nat := 0
  compl : Nat := 0
  gate : Bool := true
  bytes : List Byte := []
  deriving DecidableEq, Repr, Inhabited

/-- Interrupt state of a ring (R433): entries since the last interrupt, time of the first of them, a completion that
asked for an interrupt, and whether the vector waits for a doorbell. -/
structure IrqSt where
  count : Nat := 0
  first : Option Nat := none
  now : Bool := false
  waitDb : Bool := false
  deriving DecidableEq, Repr, Inhabited

/-- Items of one telemetry source dropped and not yet reported (R423). -/
structure Gap where
  ring : Nat := 0
  seq : Nat := 0
  tFirst : Nat := 0
  count : Nat := 0
  tLast : Nat := 0
  deriving DecidableEq, Repr, Inhabited

/-- An item in a ring, not yet taken by the host: count of its first entry, its entries, source, sequence, time, and how
many items of the source it accounts for (a GAP several, a PAD none). -/
structure ItemRef where
  at0 : Nat := 0
  n : Nat := 0
  src : Nat := 0
  seq : Nat := 0
  t : Nat := 0
  items : Nat := 0
  deriving DecidableEq, Repr, Inhabited

/-- Ring state beside the RING registers. `staged` holds the fetched descriptors of each ring, `handed` those handed to
their blocks and not yet taken, `live` every fetched one that awaits its completion. `deferred` and `heldDb` wait for
the end of a pause (R439). -/
structure Ring where
  staged : Tab (List Desc) := []
  handed : List Desc := []
  live : List Desc := []
  nextNo : Nat := 0
  seqs : Tab Nat := []
  gaps : Tab Gap := []
  irq : Tab IrqSt := []
  items : Tab (List ItemRef) := []
  deferred : List (Desc × Nat × Nat) := []
  heldDb : List (Nat × Nat) := []
  served : Tab Nat := []
  lostAt : Option Nat := none
  dropping : Bool := false
  msix : Tab Nat := []
  busMaster : Bool := true
  wake : Bool := false
  deriving DecidableEq, Repr, Inhabited

/-! ### Recorder and tailboard -/

/-- A record (R636). -/
structure Rec where
  t : Nat := 0
  no : Nat := 0
  code : Nat := 0
  holdover : Bool := false
  restored : Bool := false
  boot : Nat := 0
  arg : List Byte := []
  deriving DecidableEq, Repr, Inhabited

/-- Token bucket times of a class (R641): when the next token is due, and the times of the first and last record
suppressed. -/
structure ClsT where
  due : Option Nat := none
  first : Nat := 0
  last : Nat := 0
  deriving DecidableEq, Repr, Inhabited

/-- Recorder state beside the EVT registers. `buf` holds the unflushed records, oldest first, `nv` the committed ring. -/
structure Evt where
  buf : List Rec := []
  nv : List Rec := []
  next : Nat := 0
  started : Bool := false
  committed : Option Nat := none
  finalMark : Bool := false
  nvmLost : Bool := false
  flushWant : Bool := false
  flushDescs : List Desc := []
  cls : Tab ClsT := []
  episode : Option (Nat × Nat) := none
  chalT : Nat := 0
  chalYard : Nat := 0
  chalExpired : Bool := false
  deriving DecidableEq, Repr, Inhabited

/-- A tailboard line as written at a save: line number, source, ordinal, content (R651). -/
structure TlbLine where
  line : Nat := 0
  src : Nat := 0
  ord : Nat := 0
  content : List Byte := []
  deriving DecidableEq, Repr, Inhabited

/-- The manifest of the last save (R651). -/
structure Manifest where
  saveId : Nat := 0
  recNext : Nat := 0
  tCut : Nat := 0
  allot : Nat := 0
  boot : Nat := 0
  lines : List TlbLine := []
  deriving DecidableEq, Repr, Inhabited

/-- Tailboard state: the manifest in MRAM, whether its header holds, and the allotment that a write has replaced but
that stays in force until the next fleet cycle boundary (R648). -/
structure Tlb where
  manifest : Manifest := {}
  headerOk : Bool := false
  old : Option Nat := none
  deriving DecidableEq, Repr, Inhabited

/-! ### Keys -/

/-- One copy of a non-volatile key as MRAM holds it (R553, R567): attributes, generation, whether it is stale, the key,
and whether it fails its tag or SECDED check. -/
structure NvCopy where
  size : Nat := 0
  usage : Nat := 0
  mask : Nat := 0
  gen : Nat := 0
  stale : Bool := false
  key : List Byte := []
  bad : Bool := false
  deriving DecidableEq, Repr, Inhabited

/-- A non-volatile key slot (R567): its two copies, and the commit word's copy number and update count. -/
structure NvSlot where
  c0 : NvCopy := {}
  c1 : NvCopy := {}
  valid : Nat := 0
  count : Nat := 0
  deriving DecidableEq, Repr, Inhabited

/-- A non-volatile update in flight, the key journal of R567: slot, operation (1 import, 2 invalidate), old generation,
the copy that would be committed, the time of step 1, and its descriptor. -/
structure NvUp where
  slot : Nat := 0
  op : Nat := 0
  old : Nat := 0
  copy : NvCopy := {}
  t : Nat := 0
  desc : Desc := {}
  deriving DecidableEq, Repr, Inhabited

/-- Key state beside the KEY registers: the key of each working slot, the highest generation each has held since reset,
the non-volatile slots, and the update in flight. -/
structure Key where
  bytes : Tab (List Byte) := []
  hwm : Tab Nat := []
  nv : Tab NvSlot := []
  up : Option NvUp := none
  deriving DecidableEq, Repr, Inhabited

/-! ### What the device puts out -/

/-- A frame put on the air: slot, RF channel, code set, type, key slot and frame counter, and the payload before
encryption (R238, R243); the frame as sent, header to CRC, sealed (R238, R241); its power as PWR gives it (R275); and from when to when
RAD_TRSW selects transmit, with its level then, and whether RAD_PA_EN is asserted then (R234). -/
structure AirFrame where
  slot : Nat := 0
  ch : Nat := 0
  code : Nat := 0
  typ : Nat := 0
  key : Nat := 0
  fcnt : Nat := 0
  header : List Byte := []
  payload : List Byte := []
  frame : List Byte := []
  pwr : Nat := 0
  on0 : Nat := 0
  on1 : Nat := 0
  trsw : Bool := true
  paEn : Bool := false
  deriving DecidableEq, Repr, Inhabited

/-- A drawbar frame: its type, header and body before encryption; the frame as sent, with body encrypted and tag (R611-R613). -/
structure DbFrame where
  typ : Nat := 0
  header : List Byte := []
  body : List Byte := []
  frame : List Byte := []
  deriving DecidableEq, Repr, Inhabited

/-- What leaves the device, in order. -/
inductive Out where
  /-- An entry written to a host ring: ring, position, bytes (R414, R420). -/
  | entry (ring pos : Nat) (b : List Byte)
  /-- Bytes written to a host buffer a descriptor names (R406). -/
  | hostWrite (addr : Nat) (b : List Byte)
  /-- An MSI-X vector raised (R433, R434). -/
  | msix (v : Nat)
  /-- A radio frame sent. -/
  | air (f : AirFrame)
  /-- A drawbar frame sent. -/
  | drawbar (f : DbFrame)
  /-- Bytes sent on CORR_UART_TX. -/
  | uart (b : List Byte)
  /-- A pulse on PPS_OUT: the yard time of its rising edge in 0.125 ns, its width in ms (R182, R186). -/
  | ppsOut (t : Int) (w : Nat)
  /-- A pulse on PULSE_OUT[o], with its width in ns, and whether it drives the output low (R467, R486). -/
  | pulse (o w : Nat) (low : Bool)
  /-- PE_WAKE_N asserted. -/
  | peWake
  deriving DecidableEq, Repr, Inhabited

/-! ### Sky front and acquisition -/

/-- Applied and wanted state of a notch (R85, R86): placed by the auto pool, the bin and level it sits on, spectra below
the release level, and whether it is on and where as of the last tick. -/
structure NotchSt where
  placed : Bool := false
  bin : Nat := 0
  level : Nat := 0
  quiet : Nat := 0
  isOn : Bool := false
  freqNow : Nat := 0
  deriving DecidableEq, Repr, Inhabited

/-- Who asked for a search; the order is the priority of R95. -/
inductive SearchKind where
  | reacq | hostPrio | host | auto
  deriving DecidableEq, Repr, Inhabited

/-- Priority number of R95. -/
def SearchKind.prio : SearchKind → Nat
  | .reacq => 1 | .hostPrio => 2 | .host => 3 | .auto => 4

/-- A queued search (R92-R101). -/
structure Search where
  no : Nat := 0
  kind : SearchKind := .auto
  cls : Nat := 0
  band : Nat := 0
  sat : Nat := 0
  sig : Nat := 0
  tcoh : Nat := 0
  k : Nat := 0
  thr : Nat := 0
  track : Bool := false
  doppC : Int := 0
  nbins : Nat := 0
  pass : Nat := 0
  chan : Option Nat := none
  desc : Option Desc := none
  captured : Bool := false
  bins : Nat := 0
  deriving DecidableEq, Repr, Inhabited

/-- A candidate that waits for a channel (R99), with its code phase in 1/1024 chip and Doppler in 1/16 Hz, or a handover signal that does
(R120, R121), with the host's channel it was started on. -/
structure Cand where
  sat : Nat := 0
  sig : Nat := 0
  t : Nat := 0
  handover : Bool := false
  elev : Int := 0
  codePh : Nat := 0
  dopp : Int := 0
  chan : Option Nat := none
  deriving DecidableEq, Repr, Inhabited

/-- Sky front and acquisition state beside the SKY and ACQ registers. `known` is what the last start was told of ephemerides and almanac. -/
structure Sky where
  known : StartInfo := {}
  biasLim : Nat := 0
  biasLow : Nat := 0
  shortAt : Nat := 0
  settle : Tab Nat := []
  learnSum : Tab Nat := []
  learnN : Tab Nat := []
  jamLow : Tab Nat := []
  persist : Tab Nat := []
  notch : Tab NotchSt := []
  pending : List Nat := []
  queue : List Search := []
  nextNo : Nat := 0
  engine : Tab Nat := []
  cands : List Cand := []
  requeue : List Search := []
  started : Bool := false
  repeatAt : Nat := 0
  retryAt : Tab Nat := []
  deriving DecidableEq, Repr, Inhabited

/-! ### Tracking -/

/-- State of a channel beside its registers (R121-R138): when it entered its state and when its last integration ended (ns since reset),
when its C/N0 fell, the flags of its next record, whether the carrier is locked and when it last locked or slipped; the prompt of its last integrations with
their length in ms, newest first; the side-peak count; the code at the last integration's end in 2^-30 chip, the accumulated carrier in 1/256,000 cycle, carrier
Doppler in 1/256 Hz and its rate; the eleven correlators summed over the epoch, the comb offsets in force, the code bias of the last fit in 1/1024 chip;
synchronization, time of week, unresolved polarity; the reacquisition it is held for. -/
structure Chan where
  since : Nat := 0
  at0 : Nat := 0
  lossAt : Option Nat := none
  slip : Bool := false
  discont : Bool := false
  locked : Bool := false
  lockAt : Option Nat := none
  hist : List (Int × Int × Nat) := []
  side : Int := 0
  sideN : Nat := 0
  code : Int := 0
  carrier : Int := 0
  doppler : Int := 0
  rate : Int := 0
  comb : List (Int × Int) := []
  taps : List Int := []
  mp : Int := 0
  mpSuspect : Bool := false
  sync : Bool := false
  tow : Bool := false
  half : Bool := false
  handover : Bool := false
  holdTo : Option Nat := none
  elev : Int := 0
  deriving DecidableEq, Repr, Inhabited

/-- Tracking state beside the TRK registers. `faults` are the datapath faults that wait for the dump boundary, `badSpare` the clusters whose
spare has failed, `rot` the place each cluster's spare checks (R143-R147). -/
structure Trk where
  chan : Tab Chan := []
  retry : List Cand := []
  isb : Tab Int := []
  isbRun : Tab Nat := []
  isbFew : Tab Nat := []
  isbStep : Tab Nat := []
  ifb : Tab Int := []
  rot : Tab Nat := []
  faults : Tab Nat := []
  badSpare : List Nat := []
  allDiscont : Option Nat := none
  noBlock : Bool := false
  deriving DecidableEq, Repr, Inhabited

/-! ### Corrections and yard time -/

/-- A vector in 0.1 mm. -/
structure Vec3 where
  x : Int := 0
  y : Int := 0
  z : Int := 0
  deriving DecidableEq, Repr, Inhabited

/-- Lock of a signal in the corrections (R165, R166, R174): satellite and signal, the whole number of cycles held once it is chosen, when the
lock time of its block entries restarted, and when that of its RTCM output did. -/
structure CorrLock where
  sat : Nat := 0
  sig : Nat := 0
  n : Option Int := none
  at0 : Nat := 0
  rt : Nat := 0
  deriving DecidableEq, Repr, Inhabited

/-- Time, base position and corrections beside their registers. `hoLog` are the changes of SYS_LEVEL.HOLDOVER and their yard times,
newest first (R15); `gnssErr`, `ppsErr` and `beaconErr` the error last measured against each source; `steers` the steering at the last epochs, newest first;
`arpH` the ARP height in force (R164). -/
structure Tim where
  gnss : Bool := false
  ppsEdge : Option Nat := none
  ppsOk : Bool := false
  beaconOk : Bool := false
  beaconUnc : Nat := 0
  hadSource : Bool := false
  hoLog : List (Nat × Bool) := []
  hoStart : Nat := 0
  hoUnc : Nat := 0
  slewAt : Option Nat := none
  gnssErr : Int := 0
  ppsErr : Int := 0
  beaconErr : Int := 0
  stepErr : Int := 0
  stepAt : Option Nat := none
  steers : List Int := []
  ppsLatched : Bool := false
  base : Option Vec3 := none
  stored : Option Vec3 := none
  arpH : Nat := 0
  changedAt : Option Nat := none
  sumPos : Vec3 := {}
  nPos : Nat := 0
  groupSum : Vec3 := {}
  groupN : Nat := 0
  groups : Nat := 0
  groupsSum : Vec3 := {}
  groupsSq : Int := 0
  verSum : Vec3 := {}
  verN : Nat := 0
  disp : List Vec3 := []
  skyLostAt : Option Nat := none
  locks : Tab CorrLock := []
  jammed : Nat := 0
  restart : Nat := 0
  formed : List Bool := []
  block : List Byte := []
  blockSf : Nat := 0
  seq : Nat := 0
  uartFill : Nat := 0
  uartAt : Nat := 0
  periodicAt : Nat := 0
  deriving DecidableEq, Repr, Inhabited

/-! ### Metering -/

/-- One sample instant of the cycle that runs: the 13 codes, the account each source was bound to (R446, R450), and whether accumulation was
enabled (R475). -/
structure MSample where
  x : List Int := []
  bound : List Nat := []
  en : Bool := true
  deriving DecidableEq, Repr, Inhabited

/-- A lot account, HOUSE or UNATTR (R458-R462). Amounts are numerators over the source's unit. -/
structure Acct where
  isOpen : Bool := false
  gap : Bool := false
  extrap : Bool := false
  handoff : Bool := false
  ecc : Bool := false
  tOpen : Nat := 0
  v : Tab Int := []
  deriving DecidableEq, Repr, Inhabited

/-- An unaccounted interval (R473). -/
structure MIv where
  t0 : Nat := 0
  t1 : Nat := 0
  srcs : Nat := 0
  cause : Nat := 0
  merged : Bool := false
  seq : Nat := 0
  deriving DecidableEq, Repr, Inhabited

/-- What a save holds (R468): sources, accounts with their flags, bindings. -/
structure MSave where
  src : Tab Int := []
  acct : Tab Acct := []
  bound : Tab Nat := []
  t : Nat := 0
  deriving DecidableEq, Repr, Inhabited

/-- A calibration in progress (R456): its descriptor, when it began, cycles and samples so far, and the sums with gain 1
(voltage and current squares, P and Q numerators). -/
structure MCal where
  desc : Desc := {}
  t0 : Nat := 0
  n : Nat := 0
  samples : Nat := 0
  vv : Nat := 0
  ii : Nat := 0
  p : Int := 0
  q : Int := 0
  deriving DecidableEq, Repr, Inhabited

/-- What the stream item of a superframe sums (R480): cycles, samples, squares per channel, P per phase, feed Q and
P per dock, and flags seen. -/
structure MStream where
  cycles : Nat := 0
  samples : Nat := 0
  sq : List Nat := []
  p : List Int := []
  q : Int := 0
  dock : List Int := []
  noload : Nat := 0
  rev : Nat := 0
  extrap : Nat := 0
  tEnd : Nat := 0
  deriving DecidableEq, Repr, Inhabited

/-- Metering state beside the MTR registers. `lastX` and `okX` are the samples of a channel's last crossing and last one that
counted (R449); `wireAt` is when a pulse input last went from a valid level to a faulty one or back (R465); `dockLot` is the lot each dock with SEG_EN was last given (R461);
`pow` holds the powers of the last cycle in 0.1 W: feed phases 0-2, feed P, feed Q, docks (R487). -/
structure Mtr where
  samp : Nat := 0
  cyc : List MSample := []
  prev : List MSample := []
  due : Bool := false
  above : Tab Bool := []
  lastX : Tab Nat := []
  runX : Tab Nat := []
  okX : Tab Nat := []
  lens : List Nat := []
  irms : Tab Nat := []
  src : Tab Int := []
  srcExtrap : Nat := 0
  acct : Tab Acct := []
  bind : List (Nat × Nat) := []
  extrapAt : Tab Nat := []
  edge : Tab Nat := []
  gap : Tab Nat := []
  wireAt : Tab Nat := []
  poAcc : Tab Int := []
  poStart : Tab Nat := []
  dir : Tab Nat := []
  saved : MSave := {}
  saving : Option MSave := none
  saveDescs : List Desc := []
  ivs : List MIv := []
  ivSeq : Nat := 0
  ivOpen : Tab (Nat × Nat) := []
  cal : Option MCal := none
  stream : MStream := {}
  dockLot : Tab Nat := []
  pow : Tab Int := []
  deriving DecidableEq, Repr, Inhabited

/-- The always-on island (R44, R466, R664): the counters of PULSE_IN[3:0], `cnt` what the next boot adds to the sources and `cmp` what is compared with
PWR_PCNT_CMP. -/
structure Aon where
  cnt : Tab Nat := []
  cmp : Tab Nat := []
  deriving DecidableEq, Repr, Inhabited

/-! ### Track map, reservation and braking -/

/-- An element of a machine's route (R289, R297): segment, entry end, and consecutive counting uplinks that cleared it. -/
structure PathEl where
  seg : Nat := 0
  entry : Nat := 0
  n : Nat := 0
  deriving DecidableEq, Repr, Inhabited

/-- A route request (R289, R369): its number, machine, elements, options, who asked (a ROUTE descriptor, or the waybill
operand of a store index), and, once refused, the superframe of the first refusal and what the last evaluation said. -/
structure Req where
  no : Nat := 0
  m : Nat := 0
  route : List (Nat × Nat) := []
  stopOfs : Nat := 0
  wait : Bool := false
  auth : Bool := false
  timeout : Nat := 0
  desc : Option Desc := none
  wb : Option Nat := none
  since : Nat := 0
  reason : Nat := 0
  index : Nat := 255
  blockSeg : Nat := 0xFFFF
  blockMach : Nat := 255
  deriving DecidableEq, Repr, Inhabited

/-- The last uplink taken from a machine (R255): slot start, superframe, segment, offset, speed, age, 1σ, AUTH_SEQ. -/
structure Upl where
  t : Nat := 0
  sf : Nat := 0
  seg : Nat := 0
  ofs : Nat := 0
  speed : Nat := 0
  age : Nat := 0
  sigma : Nat := 0
  authSeq : Nat := 0
  deriving DecidableEq, Repr, Inhabited

/-- A SHORTEN that waits (R300): its descriptor, LAST_SEG, the superframe it was accepted in, and the sequence of its
authority once that is sent. -/
structure Shorten where
  desc : Desc := {}
  last : Nat := 0
  since : Nat := 0
  seq : Option Nat := none
  deriving DecidableEq, Repr, Inhabited

/-- State of a boundary segment, kept in MRAM under its BID (R306): 0 HOME, 1 FOREIGN, 2 LEAVING; SEQ; the IN record last
taken. -/
structure Bound where
  st : Nat := 0
  seq : Nat := 0
  taken : List Byte := []
  deriving DecidableEq, Repr, Inhabited

/-- Reservation state beside the RSV registers. `map` and `bound` are in MRAM. `held` lists the segments that have a
holder. -/
structure Rsv where
  map : Tab (List Byte) := []
  mapBad : Bool := false
  bound : Tab Bound := []
  shadow : Tab (List Byte) := []
  held : List Nat := []
  path : Tab (List PathEl) := []
  upl : Tab Upl := []
  queue : List Req := []
  parked : List Req := []
  nextReq : Nat := 0
  routeId : Nat := 0
  commit : Option (Desc × Nat) := none
  short : Tab Shorten := []
  holdSf : Nat := 0
  deriving DecidableEq, Repr, Inhabited

/-- A route element as an authority keeps it (R320): segment, entry end, LEN, line speed, grade in the direction of
travel, and whether it allows creep. -/
structure AuthEl where
  seg : Nat := 0
  entry : Nat := 0
  len : Nat := 0
  vmax : Nat := 0
  grade : Int := 0
  creepOk : Bool := false
  deriving DecidableEq, Repr, Inhabited

/-- How the cap of an authority acts (R327, R334): at once; not yet, until a lowered cap is acknowledged; or from a
distance along the route, in cm, as a fraction. -/
inductive Cap where
  | now
  | waits
  | past (num den : Nat)
  deriving DecidableEq, Repr, Inhabited

/-- A movement authority (R320-R322). `sf` is 1 + the superframe it was last sent in, `first` the superframe it was first
sent in, `part` the parts of it sent in that superframe. -/
structure Auth where
  seq : Nat := 0
  routeId : Nat := 0
  els : List AuthEl := []
  eoa : Nat := 0
  vlim : Nat := 0
  creep : Bool := false
  hold : Bool := false
  nextCell : Nat := 0
  mapVer : Nat := 0
  crc : Nat := 0
  maxX : Nat := 0
  cap : Cap := .now
  first : Nat := 0
  sf : Nat := 0
  part : Nat := 0
  deriving DecidableEq, Repr, Inhabited

/-- What calls for an authority (R324, R328, R684). -/
inductive CallKind where
  | grant | shorten | fall | rise
  deriving DecidableEq, Repr, Inhabited

/-- The newest call for an authority of a machine (R324): route
elements and STOP_OFS of a grant or SHORTEN, kept elements and EoA of a re-issue, the drawbar copy it waits for, and when it came. -/
structure Call where
  kind : CallKind := .grant
  routeId : Nat := 0
  route : List (Nat × Nat) := []
  stopOfs : Nat := 0
  els : List AuthEl := []
  eoa : Nat := 0
  copy : Nat := 0
  t : Nat := 0
  deriving DecidableEq, Repr, Inhabited

/-- A machine's braking supervision beside its registers: the authority, the one it replaces until acknowledged (R327),
the withheld call, the hold of R328, event 0x0905 written, SPEED of the last two counting
uplinks and the permitted speed at the last, whether this superframe gave one and the segment it named, and the first
drawbar copy that holds the machine's newest grant (R295). -/
structure BrkM where
  auth : Option Auth := none
  prev : Option Auth := none
  call : Option Call := none
  fallHold : Bool := false
  late : Bool := false
  spd : List Nat := []
  perm : Nat := 0
  counted : Bool := false
  seg : Nat := 0xFFFF
  gcopy : Nat := 0
  deriving DecidableEq, Repr, Inhabited

/-- Braking state beside the BRK registers: machines, and those with an authority to send in order of arrival; when each drag input was last seen deasserted and when the two began
to disagree; the discrepancy latch; watchdog arming and last kick; the hold of R344; a drag input on its way to the air;
and after a release, the copy that must be acknowledged (R36). -/
structure Brk where
  m : Tab BrkM := []
  order : List Nat := []
  lowSince : Option Nat := none
  diffAt : Option Nat := none
  wdArmed : Bool := false
  wdLast : Nat := 0
  wdKicked : Bool := true
  wdHold : Bool := false
  inputAt : Option Nat := none
  relCopy : Option Nat := none
  reissue : Nat := 0
  deriving DecidableEq, Repr, Inhabited

/-! ### Axes -/

/-- A stretch of motion: its length in ns, and the speed, acceleration and jerk at its start, in 1/65,536 microstep. -/
structure Leg where
  dur : Nat := 0
  v : Nat := 0
  a : Int := 0
  j : Int := 0
  deriving DecidableEq, Repr, Inhabited

/-- A planned motion: start position, direction, start time since reset, what was travelled before, in 1/65,536
microstep, its stretches, and the whole microsteps from the start position to its end. -/
structure Motion where
  x0 : Int := 0
  neg : Bool := false
  t0 : Nat := 0
  off : Nat := 0
  legs : List Leg := []
  len : Nat := 0
  deriving DecidableEq, Repr, Inhabited

/-- Homing states of R533. -/
inductive HomeSt where
  | fast | backoff | creep
  deriving DecidableEq, Repr, Inhabited

/-- A homing (R533): its parameters, its state, whether BACKOFF has seen the release, and how it ends at standstill:
the cause of event 0x0E01, where one is decided. -/
structure Homing where
  st : HomeSt := .fast
  neg : Bool := false
  src : Nat := 0
  vFast : Nat := 0
  vCreep : Nat := 0
  dHome : Nat := 0
  backoff : Nat := 0
  homePos : Int := 0
  maxTravel : Nat := 0
  released : Bool := false
  braking : Bool := false
  cause : Option Nat := none
  deriving DecidableEq, Repr, Inhabited

/-- A profile (R545): SHAPE, V, V_START, A, D, J, D_EMG. -/
structure Prof where
  shape : Nat := 0
  v : Nat := 0
  vs : Nat := 0
  a : Nat := 0
  d : Nat := 0
  j : Nat := 0
  demg : Nat := 0
  deriving DecidableEq, Repr, Inhabited

/-- What the coils of a standing axis do (R529). -/
inductive Coil where
  | off | run | hold | short
  deriving DecidableEq, Repr, Inhabited

/-- The chopper cycle of a coil (R527): when its ON began and, once it has ended, when; the reference in 2^-16 of full scale and
the direction of drive latched at that ON; T_OFF and BLANK in ns and the fast-decay share of the cycle; and the cycles in a row
whose comparator had tripped at the end of BLANK (R528). -/
structure Chop where
  t0 : Nat := 0
  off : Option Nat := none
  ref : Nat := 0
  neg : Bool := false
  tOff : Nat := 0
  fast : Nat := 0
  blank : Nat := 0
  trips : Nat := 0
  deriving DecidableEq, Repr, Inhabited

/-- A gate output: the high side on, the low side on, or both off (R517). -/
inductive Gate where
  | high | low | off
  deriving DecidableEq, Repr, Inhabited

/-- An axis beside its registers: enabled; the motion and the profile it runs under; `stopping` marks a braking of R683
that ends on no planned target, after which `next` follows; who waits for the move (`desc`, `wb`); a deferred profile;
homing; the group it moves in; coils, with the chopper cycles of coils A and B while they are chopped; when its last move ended; raw
edges of the homing switch; the switch and direction of the last homing; and the clean levels of the pins HOME, LIM_LO and LIM_HI. -/
structure Axis where
  en : Bool := false
  mot : Option Motion := none
  prof : Prof := {}
  stopping : Bool := false
  desc : Option Desc := none
  wb : Option Nat := none
  next : Option (Int × Nat) := none
  nextDesc : Option Desc := none
  pend : Prof := {}
  homing : Option Homing := none
  group : Option Nat := none
  coil : Coil := .off
  endAt : Option Nat := none
  edges : List Nat := []
  homeSrc : Nat := 0
  homeNeg : Bool := false
  chopA : Option Chop := none
  chopB : Option Chop := none
  pins : Nat := 0
  deriving DecidableEq, Repr, Inhabited

/-- A group move (R525, R526): members with start and signed distance, the motion of the leader along its distance, the
effective profile, its descriptor, and whether it brakes to a standstill; and a move that waits for the members. -/
structure Group where
  mem : List (Nat × Int × Int) := []
  mot : Motion := {}
  prof : Prof := {}
  desc : Option Desc := none
  stopping : Bool := false
  wait : Option (Desc × List (Nat × Int)) := none
  active : Bool := false
  deriving DecidableEq, Repr, Inhabited

/-- Axes beside the AXS registers. -/
structure Axs where
  ax : Tab Axis := []
  grp : Tab Group := []
  deriving DecidableEq, Repr, Inhabited

/-! ### Waybills -/

/-- An operand of a waybill (R362-R369). `got` counts pulses; `due` is the tick of a DELAY; a ROUTE operand has `req` 1 to
be placed, 2 placed, 3 to ask again at the next superframe start, `reqNo` its request and `sf0` the superframe of arming. -/
structure WbOp where
  kind : Nat := 0
  ordered : Bool := false
  key : Nat := 0
  armed : Bool := false
  arrived : Bool := false
  got : Nat := 0
  due : Nat := 0
  req : Nat := 0
  reqNo : Nat := 0
  sf0 : Nat := 0
  deriving DecidableEq, Repr, Inhabited

/-- A waybill (R359-R383). `state` is 1 WAITING, 2 READY, 3 DISPATCHED, 4 ENDING; times are ticks; `rankNo` is its place
of arrival in its rank, `no` its place of creation, `stamp` the order in which its timer entry or order was inserted; `tries`, `sent` and `taken` follow its ORDER frame; `copy` is the drawbar copy its order or record waits for; `lostWords` the words lost of R387. -/
structure Waybill where
  id : Nat := 0
  state : Nat := 1
  rank : Nat := 0
  target : Nat := 0
  ops : List WbOp := []
  raw : List Byte := []
  lot : Nat := 0xFFFF
  bind : Nat := 0
  mask : Nat := 0
  waitLim : Nat := 0
  runLim : Nat := 0
  user : Nat := 0
  arg : List Byte := []
  seq : Nat := 0
  tAccept : Nat := 0
  tFire : Option Nat := none
  tDisp : Option Nat := none
  tEnd : Nat := 0
  tState : Nat := 0
  yAccept : Nat := 0
  machine : Option Nat := none
  rankNo : Nat := 0
  stamp : Nat := 0
  status : Nat := 0
  detail : Nat := 0
  result : Nat := 0
  cancel : Bool := false
  queued : Bool := false
  qAt : Nat := 0
  tries : Nat := 0
  sent : Nat := 0
  taken : Bool := false
  copy : Nat := 0
  no : Nat := 0
  yEnd : Nat := 0
  lostWords : Nat := 0
  deriving DecidableEq, Repr, Inhabited

/-- An ORDER frame with CANCEL set that waits for a slot (R376): its place of arrival, machine, the drawbar copy it waits
for, when it was queued, and its payload. -/
structure CancelFr where
  no : Nat := 0
  m : Nat := 0
  copy : Nat := 0
  qAt : Nat := 0
  payload : List Byte := []
  deriving DecidableEq, Repr, Inhabited

/-- A machine event in the inbound FIFO (R389). -/
structure MEvt where
  m : Nat := 0
  code : Nat := 0
  arg : Nat := 0
  t : Nat := 0
  seq : Nat := 0
  deriving DecidableEq, Repr, Inhabited

/-- An input at the engine's port (R361). -/
inductive WbIn where
  /-- A route request of a waybill is decided: its store index, request number, ROUTE outcome (0 granted, 1 refused, 2 timed out, 3 aborted)
  and REASON. -/
  | route (idx no out reason : Nat)
  /-- An axis is confirmed at a window, or no longer. -/
  | axis (a w : Nat) (on : Bool)
  /-- A counted edge of PULSE_IN[n]. -/
  | pulse (n : Nat)
  /-- The move of a waybill ends with a status and a DETAIL. -/
  | moveEnd (idx status detail : Nat)
  /-- A waybill has ended: what a WAYBILL operand that names it makes of it (R371). -/
  | ended (id status : Nat)
  /-- A machine rejoined, was evicted, or was set DISABLE (1, 2, 3). -/
  | lost (m cause : Nat)
  deriving DecidableEq, Repr, Inhabited

/-- The engine beside the WB registers. `used` counts indices given out for the first time, `freed` is the free list
behind them; `count` numbers arrivals; `ending` holds the indices whose record waits, in order of ending; `cancels` the
CANCEL frames to send; `heldRecs` the completions that wait for a drawbar copy, with what is written to the host first. -/
structure Wb where
  store : Tab Waybill := []
  used : Nat := 0
  freed : List Nat := []
  ended : Tab (Nat × Nat × Bool) := []
  count : Nat := 0
  ending : List Nat := []
  cancels : List CancelFr := []
  port : List WbIn := []
  fifo : List MEvt := []
  matched : Option Nat := none
  templates : Tab (List Byte) := []
  heldRecs : List (Nat × Desc × Nat × Nat × List Byte) := []
  recSeq : Nat := 0
  createSeq : Nat := 0
  full : Bool := false
  fifoFull : Bool := false
  deriving DecidableEq, Repr, Inhabited

/-! ### Dryer and aeration loops -/

/-- A block-floating value (R494): mantissa and exponent. -/
structure BF where
  m : Int := 0
  e : Nat := 0
  deriving DecidableEq, Repr, Inhabited

/-- A coefficient bank (R504): KP, TI and TD as BF24 words, N, TABLE, OUT_LO, OUT_HI. -/
structure Bank where
  kp : Nat := 0
  ti : Nat := 0
  td : Nat := 0
  n : Nat := 0
  table : Nat := 0xFF
  lo : Nat := 0
  hi : Nat := 0
  deriving DecidableEq, Repr, Inhabited

/-- A loop beside its registers (R491, R495, R505): the integrator with its 36-bit mantissa, D, PV_prev and the last
output; a close without a swap that is due; consecutive residue failures; 1 + the tick of its last run. -/
structure LoopSt where
  i : BF := {}
  dt : BF := {}
  pvPrev : BF := {}
  u : BF := {}
  resume : Bool := false
  residue : Nat := 0
  last : Nat := 0
  deriving DecidableEq, Repr, Inhabited

/-- Control beside the CTL registers: loops, banks (2 × loop + bank), gain tables (ERR, GAIN), the codes and duties last
applied to AOUT and PWM, the target last sent to each axis, and whether the CTRL region is lost (R40). -/
structure Ctl where
  loops : Tab LoopSt := []
  banks : Tab Bank := []
  tables : Tab (List (Nat × Nat)) := []
  dac : Tab Nat := []
  pwm : Tab BF := []
  sent : Tab Int := []
  lost : Bool := false
  deriving DecidableEq, Repr, Inhabited

/-! ### Yard ranging -/

/-- What was measured in one slot of the exchange that runs (R202): channel, TOA, PHASE and SNR where the slot counts as
received, and the frame's counter, source and whether its MIC was verified. -/
structure YMeas where
  f : Nat := 0
  toa : Nat := 0
  phase : Nat := 0
  snr : Nat := 0
  fcnt : Nat := 0
  src : Nat := 0
  ok : Bool := false
  got : Bool := false
  deriving DecidableEq, Repr, Inhabited

/-- The reports of an exchange (R204, R210): start of its first slot, plan position, whether it is a CAL position and of
which device, the counters verified (each less its slot number), the machine, the reports by anchor table entry, and whether
gathering has ended. -/
structure YGather where
  tSlot : Nat := 0
  pos : Nat := 0
  cal : Bool := false
  dev : Nat := 0
  base : List Nat := []
  machine : Nat := 0
  reports : Tab (List Byte) := []
  ended : Bool := false
  deriving DecidableEq, Repr, Inhabited

/-- Calibration of an anchor (R206): samples, newest first, as D in nm and C60 and C30 in 2^-32 cycle; when the newest was
taken. -/
structure YCal where
  samples : List (Int × Int × Int) := []
  at0 : Option Nat := none
  deriving DecidableEq, Repr, Inhabited

/-- A machine and its AUTO positions (R218): it asks; when it cleared its request; its positions. -/
structure YAuto where
  want : Bool := false
  cleared : Option Nat := none
  pos : List Nat := []
  waits : Bool := false
  deriving DecidableEq, Repr, Inhabited

/-- An anchor table entry in force: device, antenna position. -/
structure YAnch where
  dev : Nat := 0
  pos : Vec3 := {}
  deriving DecidableEq, Repr, Inhabited

/-- A fix that waits for a slot: when it is ready, its machine, its FIX body. -/
structure YFix where
  ready : Nat := 0
  m : Nat := 0
  body : List Byte := []
  deriving DecidableEq, Repr, Inhabited

/-- Yard ranging beside the YRD registers. `plan` and `anch` are the plan and the anchor table in force, `planNew` and
`anchNew` mark writes that wait for the next GPS second; `selfAt` is when the device last formed a sample from a CAL exchange
received on all channels; `hint` is each machine's U in mm and time of its last 3D fix; `calTo` is 1 + the superframe up to
which CAL frames go on after EN was cleared. -/
structure Yrd where
  rx : List YMeas := []
  rxAt : Nat := 0
  gathers : List YGather := []
  cal : Tab YCal := []
  selfAt : Option Nat := none
  auto : Tab YAuto := []
  allotQ : List Nat := []
  plan : Tab Nat := []
  planNew : Bool := false
  anch : Tab YAnch := []
  anchNew : List Nat := []
  fixes : List YFix := []
  hint : Tab (Int × Nat) := []
  calTo : Nat := 0
  deriving DecidableEq, Repr, Inhabited

/-! ### The site radio -/

/-- A join response or a key change that waits for a slot (R237): JOIN_ACCEPT of a serial, or REKEY; machine; the first
superframe it may go out in. -/
structure KeyFr where
  join : Bool := false
  serial : Nat := 0
  m : Nat := 0
  sf : Nat := 0
  deriving DecidableEq, Repr, Inhabited

/-- An IMG_SEND in progress (R586): its descriptor, transfer number, pieces with their bytes, next fragment. -/
structure Send where
  desc : Desc := {}
  xfer : Nat := 0
  pieces : List (Nat × List Byte) := []
  frag : Nat := 0
  deriving DecidableEq, Repr, Inhabited

/-- Radio state beside the RAD registers. `hwM`, `hwSite` and `hwSer` are the high-water entries that are valid (R245);
`ulAck` to `tcorr` are for the next beacon (R249, R256, R261), and `ackSf` is 1 + the superframe they come
from; `sleep` is until when no uplink of a machine is expected
(R263); `keyQ` and `sends` wait for downlink slots; `dl`, `corr`, `bcn` and `drag` say what has gone out of the present
superframe; `stopAir` counts the drag slots left after a disable (R271); `inhibit` silences the radio and `faulted` marks a fault of the device's own (R30); `oldTo` is the
superframe in which the old key ends (R247); `discard` is 1 + the superframe of a takeover (R246); `copyDrag` is what the
last applied copy shows of whole-cell drag (R33); `heard` are the eligible devices with their PRIO and when heard (R267);
`lastMaster` the last master heard, ID and cell (R276); `miss`, `seenSf` and `missSf` follow the master's beacons (R265); `listenTo` is when start-up listening ends; `cellBcn` is
1 + the superframe of the last cell beacon heard (R620). -/
structure Rad where
  hwM : Tab Nat := []
  hwSite : Tab Nat := []
  hwSer : Tab Nat := []
  ulAck : List Nat := []
  rep : List Nat := []
  resync : List Nat := []
  tcorr : List (Nat × Int) := []
  ackSf : Nat := 0
  sleep : Tab Nat := []
  keyQ : List KeyFr := []
  sends : List Send := []
  pieceSf : Nat := 0
  pieceN : Nat := 0
  dlSf : Nat := 0
  dlNext : Nat := 0
  corrSf : Nat := 0
  corrNext : Nat := 0
  bcnSf : Nat := 0
  siteSf : Nat := 0
  dragAt : Nat := 0
  stopAir : Nat := 0
  inhibit : Bool := false
  faulted : Bool := false
  oldTo : Option Nat := none
  discard : Nat := 0
  copyDrag : Bool := false
  heard : Tab (Nat × Nat) := []
  heardMaster : Bool := false
  lastMaster : Nat × Nat := (0, 0)
  miss : Nat := 0
  seenSf : Nat := 0
  missSf : Nat := 0
  inelAt : Option Nat := none
  listenTo : Option Nat := none
  cellBcn : Nat := 0
  deriving DecidableEq, Repr, Inhabited

/-! ### Firmware parts -/

/-- The settings of a part beside its registers (R596): the map of SAFE, the templates of SUP, the banks and gain tables of
CTL. -/
structure PartStore where
  regs : Tab Nat := []
  map : Tab (List Byte) := []
  templates : Tab (List Byte) := []
  banks : Tab Bank := []
  tables : Tab (List (Nat × Nat)) := []
  deriving DecidableEq, Repr, Inhabited

/-- An install that copies (R589): its descriptor, part, slot and container. -/
structure ImgInst where
  desc : Desc := {}
  part : Nat := 0
  slot : Nat := 0
  image : List Byte := []
  deriving DecidableEq, Repr, Inhabited

/-- An activation or a fallback under way (R593, R600): part, slot to run, whether it is a fallback and why (0 timeout,
1 host), the outcome of the conversion, who waits, and the time since reset at which the pause began. -/
structure ImgAct where
  part : Nat := 0
  slot : Nat := 0
  falls : Bool := false
  cause : Nat := 0
  conv : Nat := 0
  desc : Option Desc := none
  started : Option Nat := none
  deriving DecidableEq, Repr, Inhabited

/-- Firmware update beside the IMG registers (R579-R603). `flash` holds the container of slot 2 × part + slot, `stage` the
pieces programmed into the staging area, `frags` the fragments received of incomplete pieces (SRAM). `macSf` is 1 + the
superframe of a MAC switch; `trialAt` is when the pause of a trial ended; `stores` holds the settings
of the slots that do not run, by 2 × part + slot; `writes` and `writeLast` count the settings written during the trial; `recov` is a recovery
that runs: its part. -/
structure Img where
  flash : Tab (List Byte) := []
  stage : Tab (List Byte) := []
  frags : Tab (List Nat) := []
  erasing : Option Desc := none
  install : Option ImgInst := none
  act : Option ImgAct := none
  macSf : Nat := 0
  trialAt : Option Nat := none
  stores : Tab PartStore := []
  writes : Nat := 0
  writeLast : Nat := 0
  recov : Option Nat := none
  deriving DecidableEq, Repr, Inhabited

/-! ### The pair -/

/-- The content of a drawbar copy (R614): its number, T_C, the sender's time since reset then; the copied registers; reservation, braking, waybills, loops,
axes; metering sources, accounts and backlogs; AUTO positions; the machines' and serials' high-water entries. -/
structure CellCopy where
  no : Nat := 0
  t : Nat := 0
  mono : Nat := 0
  regs : RegFile := {}
  rsv : Rsv := {}
  brk : Brk := {}
  wb : Wb := {}
  ctl : Ctl := {}
  axs : Axs := {}
  src : Tab Int := []
  acct : Tab Acct := []
  poAcc : Tab Int := []
  auto : Tab YAuto := []
  hwM : Tab Nat := []
  hwSer : Tab Nat := []
  deriving DecidableEq, Repr, Inhabited

/-- A copy that arrives: number, base, T_C, whether it is FULL, the records so far, and whether a frame of it is missing. -/
structure CopyRx where
  no : Nat := 0
  base : Nat := 0
  t : Nat := 0
  full : Bool := false
  body : List Byte := []
  gap : Bool := false
  deriving DecidableEq, Repr, Inhabited

/-- Pairing beside the PAIR registers (R610-R629). Times without a remark count from reset. `present` is PAIR_PRESENT_N;
`lanes` the lanes in lock; `fcnt` the next frame counter; `rxBoot` and `rxFcnt` the partner's last accepted BOOT and FCNT
(each plus 1); `hello` and `helloSent` the HELLOs accepted and sent since the link came up, `helloSf` 1 + the superframe of
the last sent; `role`, `level`, `fault` and `acc` are the partner's, from its HELLO; `refused` a refused partner; `theta`
whether θ has been measured; `t1` to `t4` the times of the last LEASE and ACK (yard time); `lease` the end of the own lease;
`leaseAt` when the last LEASE came, `wasReady` whether the device was ready then, `expired` that the partner's lease has
expired, `lapsed` that a LAPSED frame came since, `lapseT` its T_EVENT (yard time) or that of the own lapse, and `lapseCause` the own cause; `held` the copy held, `rx` the one that
arrives, `own` the sources measured at the last two fleet cycle boundaries and `ownSrc` those at the held copy's T_C; `sent`
what the last copies sent held; `full` that a FULL copy is due; `drive` the drive of YOKE; `frozen` the outputs hold, AX_G at `gates`, `hiZ` they
are high-impedance, `driveAt` when they are driven again; `bcnFrom` the yard time of the first beacon allowed; `sw` a switch:
its descriptor, and when it ran; `claimAt` when the claim went out; `ownFault` a fault of its own; `higher` fleet cycles the
partner's level has been higher; `started` when the boot was complete. -/
structure Pair where
  present : Bool := false
  lanes : List Nat := []
  fcnt : Nat := 0
  rxBoot : Nat := 0
  rxFcnt : Nat := 0
  hello : Bool := false
  helloSent : Bool := false
  helloSf : Nat := 0
  role : Nat := 0
  level : Nat := 0
  fault : Bool := false
  acc : List Byte := []
  refused : Bool := false
  theta : Bool := false
  t1 : Nat := 0
  t2 : Nat := 0
  t3 : Option Nat := none
  t4 : Nat := 0
  lease : Option Nat := none
  leaseAt : Option Nat := none
  wasReady : Bool := false
  expired : Bool := false
  lapsed : Bool := false
  lapseT : Option Nat := none
  lapseCause : Nat := 0
  held : Option CellCopy := none
  rx : Option CopyRx := none
  own : List (Nat × Tab Int) := []
  ownSrc : Tab Int := []
  sent : List CellCopy := []
  full : Bool := false
  drive : Bool := false
  frozen : Bool := false
  gates : List (List Gate) := []
  hiZ : Bool := false
  driveAt : Option Nat := none
  bcnFrom : Nat := 0
  sw : Option (Option Desc × Option Nat) := none
  claimAt : Option Nat := none
  ownFault : Bool := false
  higher : Nat := 0
  started : Option Nat := none
  deriving DecidableEq, Repr, Inhabited

/-! ### The whole device -/

/-- Power, levels and faults beside their registers (R44-R76, R26-R30). `up` marks a completed boot, `ran` a boot past its
settings; `supplies`, `vaon`, `xo` and `vin` say whether the supplies, VAON, the crystal and VIN_MON are good, `vaonLost` that VAON went away since the last boot; `saved` a
last-gasp save taken; `hold` the fleet cycles the next level's conditions have held; `target` a power state being entered
and `wake` the wake event latched meanwhile; `chal` when a life-cycle challenge was issued, and whether it was for debug;
`retries` consecutive failed transfers of the die-to-die link; `lost` the regions lost and `field` the field die; `down` the
parts that do not run; `pkg` a package fault; `refOk` a valid reference; `hot` that a temperature warning stands. -/
structure Sys where
  up : Bool := false
  ran : Bool := false
  supplies : Bool := true
  vaon : Bool := true
  vaonLost : Bool := false
  xo : Bool := false
  vin : Bool := true
  saved : Bool := false
  hold : Nat := 0
  target : Option Nat := none
  wake : Option Nat := none
  chal : Option (Nat × Bool) := none
  retries : Nat := 0
  lost : List Nat := []
  field : Bool := false
  down : List Nat := []
  pkg : Bool := false
  refOk : Bool := false
  hot : Bool := false
  deriving DecidableEq, Repr, Inhabited

/-! ### The device -/

/-- Everything but the queue of commands and the fuses themselves. `boot` is what the last boot read from the fuses. -/
structure Dev where
  clk : Clk := {}
  boot : Fuse := {}
  regs : RegFile := {}
  ring : Ring := {}
  evt : Evt := {}
  tlb : Tlb := {}
  key : Key := {}
  sky : Sky := {}
  trk : Trk := {}
  tim : Tim := {}
  mtr : Mtr := {}
  aon : Aon := {}
  rsv : Rsv := {}
  brk : Brk := {}
  axs : Axs := {}
  wb : Wb := {}
  ctl : Ctl := {}
  yrd : Yrd := {}
  rad : Rad := {}
  img : Img := {}
  pair : Pair := {}
  sys : Sys := {}
  out : List Out := []
  free : Nat := 0
  deriving DecidableEq, Repr, Inhabited

end Sys2Proof.Machine
end

