-- ==== Sys2Proof/Config.lean ====
section
/-!
DEFINITION. What an implementation fixes, and the values the spec leaves open. Each is a constant with no body, so no
proof can see its value.
-/

namespace Sys2Proof

/-- A value the spec leaves open, fresh at each use: applied to the state's free counter (log entry 3). -/
opaque Config.free : Nat → Nat

/-- Sixteen fresh bytes of the device's random source: a challenge (R67, R69, R646). -/
opaque Config.fresh16 : Nat → List Byte

/-- The number by which an event's argument codes a choice, where the spec names the argument but not its codes
(log entry 4): event code, then the choice. -/
opaque Config.argCode : Nat → Nat → Nat

/-- Which satellites carry an L5, E5a or B2a signal (R91): the constellation's, not the device's. -/
opaque Config.carriesL5 : Nat → Bool

/-- Which BeiDou satellites are geostationary (R118). -/
opaque Config.isGeo : Nat → Bool

/-- The C/N0 in 0.01 dB-Hz that the narrowband-to-wideband power ratio of a window of prompts gives (R129): I, Q and length in ms of each. -/
opaque Config.cn0 : List (Int × Int × Nat) → Nat

/-- The code loop (R127), whose gains the spec does not give: its bandwidth in 0.01 Hz, the integration in ms, the discriminator in
1/1024 chip; the code it adds, in 2^-30 chip. -/
opaque Config.codeLoop : Nat → Nat → Int → Int

/-- The third-order phase loop with its frequency assist (R127), whose gains the spec does not give: PLL and FLL bandwidths in 0.25 Hz, the
integration in ms, phase in 2^-16 cycle and frequency in 1/256 Hz where they act, Doppler and its rate; Doppler and rate after. -/
opaque Config.carrierLoop : Nat → Nat → Nat → Option Int → Option Int → Int × Int → Int × Int

/-- The fit of R126 to a signal's ideal correlation, which the spec does not tabulate: the signal, the offsets of the correlators in 1/64 chip,
their sums turned into the phase of the prompt; the code bias in 1/1024 chip, and whether the residual exceeds 10 % of the prompt. -/
opaque Config.combFit : Nat → List Int → List (Int × Int) → Int × Bool

/-- GPS time less UTC in whole seconds (R137), as broadcast. -/
opaque Config.leap : Nat

/-- The steering of the TIME domain after one epoch (R182), a second-order loop whose gains the spec does not give:
present steering, error in ns, time constant in s. -/
opaque Config.steer : Int → Int → Nat → Int

/-- The content of an RTCM 10403.3 message (R169-R171), whose bit layout is the standard's: message number, flags, the
measurement records and settings it reports. -/
opaque Config.rtcmBody : Nat → Nat → List Byte → List Byte

/-- A sampled signal between its sample instants (R450, R453): the codes, and the position in ns after the first. -/
opaque Config.interp : List Int → Int → Int

/-- The angle of the origin in 0.000001 degree (R127, R456), which no formula states: Q, then P. -/
opaque Config.atan2 : Int → Int → Int

/-- The mantissa of a block-floating value that no exponent can hold (R494), from its numerator and denominator. -/
opaque Config.bfOver : Int → Nat → Int

/-- The circular mean of values in 2^-32 cycle that balance out (R206), which no formula states. -/
opaque Config.circMean : List Int → Int

/-- The estimated horizontal 1σ of a fix in mm (R213), for which the spec gives no formula: HDOP in 0.1, whether all differences are synthetic, residuals in nm. -/
opaque Config.yardSigma : Nat → Bool → List Int → Nat

/-- What flash holds after a second programming with other bytes (R584, R587): old bytes, new bytes. -/
opaque Config.reprogram : List Byte → List Byte → List Byte

/-- The records of a drawbar copy, whose layout the firmware images hold (R613): the copy it builds on, what is sent. -/
opaque Config.copyBytes : Machine.CellCopy → Machine.CellCopy → List Byte

/-- The content of a drawbar copy (R613): the copy it builds on, its records. -/
opaque Config.copyRecords : Machine.CellCopy → List Byte → Machine.CellCopy

/-- Event numbers of SYS and LC records for which the spec gives none (log entry 62). -/
opaque Config.evtNumber : Nat → Nat

end Sys2Proof
end

