-- ==== Sys2Proof/Machine/Operands.lean ====
section
/-!
DEFINITION. Operand forms: little-endian fields of descriptors, frames and items (R4, R5), reserved-byte checks (R12),
bit fields of words, and the CRCs the spec names (CRC-16 of R238, CRC-32 of R651).
-/

namespace Sys2Proof.Machine

/-- Little-endian value of a byte list (R4). -/
def le : List Byte → Nat
  | [] => 0
  | b :: bs => b.toNat + 256 * le bs

/-- `n` bytes of a value, lowest byte first (R4). -/
def toLe : Nat → Nat → List Byte
  | 0, _ => []
  | n + 1, v => BitVec.ofNat 8 v :: toLe n (v / 256)

/-- One byte, two bytes, four bytes, eight bytes of a value. -/
def u8 (v : Nat) : List Byte := toLe 1 v
/-- Two bytes. -/
def u16 (v : Nat) : List Byte := toLe 2 v
/-- Three bytes. -/
def u24 (v : Nat) : List Byte := toLe 3 v
/-- Four bytes. -/
def u32 (v : Nat) : List Byte := toLe 4 v
/-- Six bytes. -/
def u48 (v : Nat) : List Byte := toLe 6 v
/-- Eight bytes. -/
def u64 (v : Nat) : List Byte := toLe 8 v

/-- Reserved bytes, all 0 (R12). -/
def zeros (n : Nat) : List Byte := List.replicate n 0

/-- Two's complement code of an integer in `w` bits (R5). -/
def enc2 (w : Nat) (z : Int) : Nat := (z % (2 ^ w : Int)).toNat

/-- Integer coded in `w` bits of two's complement (R5). -/
def dec2 (w n : Nat) : Int := if 2 ^ (w - 1) ≤ n % 2 ^ w then ((n % 2 ^ w : Nat) : Int) - 2 ^ w else ((n % 2 ^ w : Nat) : Int)

/-- Clamp an integer to a signed field of `w` bits. -/
def clamp2 (w : Nat) (z : Int) : Int := max (-(2 ^ (w - 1) : Int)) (min z (2 ^ (w - 1) - 1))

/-- Signed values as bytes. -/
def s16 (z : Int) : List Byte := toLe 2 (enc2 16 z)
/-- Signed value, four bytes. -/
def s32 (z : Int) : List Byte := toLe 4 (enc2 32 z)
/-- Signed value, eight bytes. -/
def s64 (z : Int) : List Byte := toLe 8 (enc2 64 z)

/-- The field of `n` bytes at offset `o`. -/
def fld (b : List Byte) (o n : Nat) : Nat := le ((b.drop o).take n)

/-- The signed field of `n` bytes at offset `o` (R5). -/
def sfld (b : List Byte) (o n : Nat) : Int := dec2 (8 * n) (fld b o n)

/-- Bits `lo` to `lo + w - 1` of a word. -/
def bits (v lo w : Nat) : Nat := v / 2 ^ lo % 2 ^ w

/-- One bit of a word. -/
def bitOf (v i : Nat) : Bool := v / 2 ^ i % 2 == 1

/-- A word with one bit set or cleared. -/
def putBit (v i : Nat) (b : Bool) : Nat :=
  if bitOf v i then (if b then v else v - 2 ^ i) else (if b then v + 2 ^ i else v)

/-- Every byte from `o` for `n` bytes is 0 (a reserved field, R12). -/
def zeroAt (b : List Byte) (o n : Nat) : Bool := ((b.drop o).take n).all (· == 0)

/-- 1 for true, 0 for false. -/
def b2n (b : Bool) : Nat := if b then 1 else 0

/-- Round up to a whole number of units. -/
def ceilDiv (a b : Nat) : Nat := (a + b - 1) / b

/-- Quotient of an integer rounded to nearest, ties away from zero. -/
def rdiv (a : Int) (b : Nat) : Int :=
  if 0 ≤ a then (2 * a + b) / (2 * b) else -((2 * (-a) + b) / (2 * b))

/-- Digits of the integer square root, from binary digit `k - 1` down. -/
def isqrtGo (n : Nat) : Nat → Nat → Nat
  | 0, r => r
  | k + 1, r => if (r + 2 ^ k) * (r + 2 ^ k) ≤ n then isqrtGo n k (r + 2 ^ k) else isqrtGo n k r

/-- Integer square root, rounded down. -/
def isqrt (n : Nat) : Nat := isqrtGo n (Nat.log2 n / 2 + 1) 0

/-! ### Angles -/

/-- arctan of 2^-k, in 2^-40 cycle, for k from 0. -/
def cordicTab : List Int :=
  [137438953472, 81134951838, 42869480287, 21761217566, 10922836750, 5466743129, 2734038620, 1367102738, 683561799, 341782203] ++
  [170891265, 85445653, 42722829, 21361415, 10680707, 5340354, 2670177, 1335088, 667544, 333772] ++
  [166886, 83443, 41722, 20861, 10430, 5215, 2608, 1304, 652, 326, 163, 81, 41, 20, 10, 5, 3]

/-- Turn a point onto the first axis by ever smaller angles; the angle turned by. -/
def cordicVec : List Int → Nat → Int → Int → Int → Int
  | [], _, _, _, a => a
  | t :: l, k, x, y, a =>
    if y = 0 then a
    else if 0 < y then cordicVec l (k + 1) (x + y / 2 ^ k) (y - x / 2 ^ k) (a + t)
    else cordicVec l (k + 1) (x - y / 2 ^ k) (y + x / 2 ^ k) (a - t)

/-- Turn a point by an angle, by ever smaller angles. -/
def cordicRot : List Int → Nat → Int → Int → Int → Int × Int
  | [], _, x, y, _ => (x, y)
  | t :: l, k, x, y, z =>
    if 0 ≤ z then cordicRot l (k + 1) (x - y / 2 ^ k) (y + x / 2 ^ k) (z - t)
    else cordicRot l (k + 1) (x + y / 2 ^ k) (y - x / 2 ^ k) (z + t)

/-- The angle of a point (x, y) other than the origin, in 2^-40 cycle, from −2^39 to 2^39. -/
def turnOf (y x : Int) : Int :=
  let a := if 0 ≤ x then cordicVec cordicTab 0 (x * 2 ^ 60) (y * 2 ^ 60) 0 else cordicVec cordicTab 0 (-x * 2 ^ 60) (-y * 2 ^ 60) 0 + (if 0 ≤ y then 2 ^ 39 else -(2 ^ 39))
  a

/-- The direction of a phase in 2^-32 cycle, as a vector of one fixed length. -/
def dirOf (p : Int) : Int × Int :=
  let q := (p + 2 ^ 31) % 2 ^ 32 - 2 ^ 31
  if q < -(2 ^ 30) then let v := cordicRot cordicTab 0 (2 ^ 60) 0 ((q + 2 ^ 31) * 2 ^ 8); (-v.1, -v.2)
  else if 2 ^ 30 < q then let v := cordicRot cordicTab 0 (2 ^ 60) 0 ((q - 2 ^ 31) * 2 ^ 8); (-v.1, -v.2)
  else cordicRot cordicTab 0 (2 ^ 60) 0 (q * 2 ^ 8)

/-- Pad with zero bytes, or cut, to a length. -/
def fit (n : Nat) (b : List Byte) : List Byte := (b ++ zeros n).take n

/-- One bit of the reflected CRC-32 register (IEEE 802.3, R651). -/
def crc32Bit (r : Nat) : Nat := if r % 2 = 1 then Nat.xor (r / 2) 0xEDB88320 else r / 2

/-- Eight register steps. -/
def crc32Byte (r : Nat) (b : Byte) : Nat :=
  crc32Bit (crc32Bit (crc32Bit (crc32Bit (crc32Bit (crc32Bit (crc32Bit (crc32Bit (Nat.xor r b.toNat))))))))

/-- CRC-32 (IEEE 802.3) of a byte list. -/
def crc32 (b : List Byte) : Nat := Nat.xor (b.foldl crc32Byte 0xFFFFFFFF) 0xFFFFFFFF

/-- One bit of the CRC-16 register of R238: polynomial 0x1021, not reflected. -/
def crc16Bit (r : Nat) : Nat := if 0x8000 ≤ r then Nat.xor (2 * r % 0x10000) 0x1021 else 2 * r

/-- Eight register steps. -/
def crc16Byte (r : Nat) (b : Byte) : Nat :=
  crc16Bit (crc16Bit (crc16Bit (crc16Bit (crc16Bit (crc16Bit (crc16Bit (crc16Bit (Nat.xor r (256 * b.toNat)))))))))

/-- CRC-16 of R238: initial value 0xFFFF, no final XOR. -/
def crc16 (b : List Byte) : Nat := b.foldl crc16Byte 0xFFFF

end Sys2Proof.Machine
end

