-- ==== Sys2Proof/Machine/Crypto.lean ====
section
/-!
DEFINITION. The algorithms the spec takes from named standards (PRESUMED from the standards, log entry 10): AES in CCM (R241, SP 800-38C) and GCM mode (R558, R582, R612,
SP 800-38D), SHA-256 (R582) and HMAC-SHA-256 (R67, R552). Words are numbers, most significant byte first, as the standards write them.
-/

namespace Sys2Proof.Machine

/-! ### Byte strings as numbers -/

/-- The number whose bytes stand most significant first. -/
def be (b : List Byte) : Nat := b.foldl (fun n x => 256 * n + x.toNat) 0

/-- `n` bytes of a number, most significant first. -/
def toBe (n v : Nat) : List Byte := (toLe n v).reverse

/-- Two byte strings added bit by bit, as long as the shorter. -/
def xorB (a b : List Byte) : List Byte := List.zipWith (fun x y => x ^^^ y) a b

/-- A byte string cut into blocks of `n` bytes, the last filled with zeros. -/
def blocks (n : Nat) : Nat → List Byte → List (List Byte)
  | 0, _ => []
  | k + 1, b => if b.isEmpty then [] else ((b ++ List.replicate n 0).take n) :: blocks n k (b.drop n)

/-- The blocks of 16 bytes. -/
def blocks16 (b : List Byte) : List (List Byte) := blocks 16 b.length b

/-! ### AES (FIPS 197) -/

/-- The S-box, 64 bytes to a number. -/
def sboxBits (q : Nat) : Nat :=
  match q with
  | 0 => 0x75B227EBE28012079A059618C323C7041531D871F1E5A534CCF73F362693FDB7C072A49CAFA2D4ADF04759FA7DC982CA76ABD7FE2B670130C56F6BF27B777C63
  | 1 => 0xD2F3FF1021DAB6BCF5389D928F40A351A89F3C507F02F94585334D43FBAAEFD0CF584C4A39BECB6A5BB1FC20ED00D153842FE329B3D63B52A05A6E1B1A2C8309
  | 2 => 0x08AE7A65EAF4566CA94ED58D6D37C8E779E4959162ACD3C25C2406490A3A32E0DB0B5EDE14B8EE4688902A22DC4F816073195D643D7EA7C41744975FEC130CCD
  | _ => 0x16BB54B00F2D99416842E6BF0D89A18CDF2855CEE9871E9B948ED9691198F8E19E1DC186B95735610EF6034866B53E708A8BBD4B1F74DDE8C6B4A61C2E2578BA

/-- SubBytes of one byte. -/
def sbox (x : Nat) : Nat := sboxBits (x / 64) / 2 ^ (8 * (x % 64)) % 256

/-- Multiplication by x in GF(2^8). -/
def xtime (a : Nat) : Nat := if a < 128 then 2 * a else (2 * a) ^^^ 0x11B

/-- Byte `r` of a column. -/
def colByte (w r : Nat) : Nat := w / 2 ^ (24 - 8 * r) % 256

/-- A column of four bytes. -/
def colOf (a b c d : Nat) : Nat := ((a * 256 + b) * 256 + c) * 256 + d

/-- MixColumns of one column. -/
def mixCol (a b c d : Nat) : Nat :=
  let m := fun (p q r s : Nat) => xtime p ^^^ xtime q ^^^ q ^^^ r ^^^ s
  colOf (m a b c d) (m b c d a) (m c d a b) (m d a b c)

/-- One round on a state of four columns: SubBytes, ShiftRows, MixColumns but in the last, AddRoundKey. -/
def aesRound (last : Bool) (s k : List Nat) : List Nat :=
  (List.range 4).map fun c =>
    let b := fun (r : Nat) => sbox (colByte (s.getD ((c + r) % 4) 0) r)
    (if last then colOf (b 0) (b 1) (b 2) (b 3) else mixCol (b 0) (b 1) (b 2) (b 3)) ^^^ k.getD c 0

/-- The words of a byte string. -/
def wordsOf (b : List Byte) : List Nat := (blocks 4 b.length b).map be

/-- The round constant of round `i`. -/
def rcon (i : Nat) : Nat := (List.range (i - 1)).foldl (fun a _ => xtime a) 1

/-- SubWord. -/
def subWord (w : Nat) : Nat := colOf (sbox (colByte w 0)) (sbox (colByte w 1)) (sbox (colByte w 2)) (sbox (colByte w 3))

/-- The key schedule: `n` more words, the last word first. -/
def keyWords (nk : Nat) : Nat → List Nat → List Nat
  | 0, w => w
  | n + 1, w =>
    let i := w.length
    let t := w.headD 0
    let t := if i % nk = 0 then subWord (t % 2 ^ 24 * 256 + t / 2 ^ 24) ^^^ (rcon (i / nk) * 2 ^ 24) else if 6 < nk && i % nk = 4 then subWord t else t
    keyWords nk n ((w.getD (nk - 1) 0 ^^^ t) :: w)

/-- The round keys of a key of 16 or 32 bytes. -/
def roundKeys (key : List Byte) : List (List Nat) :=
  let nk := key.length / 4
  let w := (keyWords nk (4 * (nk + 7) - nk) (wordsOf key).reverse).reverse
  (List.range (nk + 7)).map fun r => (w.drop (4 * r)).take 4

/-- AES under round keys on one block. -/
def aes (ks : List (List Nat)) (b : List Byte) : List Byte :=
  let s := List.zipWith (fun x y => x ^^^ y) (wordsOf b) (ks.headD [])
  let n := ks.length - 2
  let s := ((ks.drop 1).take n).foldl (fun s k => aesRound false s k) s
  (aesRound true s (ks.getD (n + 1) [])).flatMap (toBe 4)

/-- The key stream of the counter blocks from `ctr`, added to a text. -/
def ctrMode (ks : List (List Nat)) (ctr : Nat → List Byte) (b : List Byte) : List Byte :=
  xorB b ((List.range (ceilDiv b.length 16)).flatMap fun i => aes ks (ctr i))

/-! ### CCM (SP 800-38C) with 13-byte nonce, 2-byte length field and 8-byte MIC (R241) -/

/-- The MIC before its encryption. -/
def ccmMac (ks : List (List Nat)) (nonce aad pt : List Byte) : List Byte :=
  let b0 := u8 (if aad.isEmpty then 0x19 else 0x59) ++ nonce ++ toBe 2 pt.length
  let a := if aad.isEmpty then [] else blocks16 (toBe 2 aad.length ++ aad)
  ((b0 :: (a ++ blocks16 pt)).foldl (fun y x => aes ks (xorB y x)) (zeros 16)).take 8

/-- Counter block `i`. -/
def ccmCtr (nonce : List Byte) (i : Nat) : List Byte := u8 1 ++ nonce ++ toBe 2 i

/-- Encryption: key, nonce, associated bytes, plaintext; the ciphertext with its MIC. -/
def ccmSeal (key nonce aad pt : List Byte) : List Byte :=
  let ks := roundKeys key
  ctrMode ks (fun i => ccmCtr nonce (i + 1)) pt ++ xorB (ccmMac ks nonce aad pt) (aes ks (ccmCtr nonce 0))

/-- Decryption and check: key, nonce, associated bytes, ciphertext with its MIC. -/
def ccmOpen (key nonce aad ct : List Byte) : Option (List Byte) :=
  let ks := roundKeys key
  let n := ct.length - 8
  let pt := ctrMode ks (fun i => ccmCtr nonce (i + 1)) (ct.take n)
  if 8 ≤ ct.length && xorB (ccmMac ks nonce aad pt) (aes ks (ccmCtr nonce 0)) == ct.drop n then some pt else none

/-! ### GCM (SP 800-38D) with 12-byte IV and 16-byte tag (R558, R612) -/

/-- The product of two blocks in GF(2^128). -/
def ghMul (x y : Nat) : Nat :=
  ((List.range 128).foldl (fun (p : Nat × Nat) i =>
    (if x / 2 ^ (127 - i) % 2 = 1 then p.1 ^^^ p.2 else p.1, if p.2 % 2 = 1 then (p.2 / 2) ^^^ (0xE1 * 2 ^ 120) else p.2 / 2)) (0, y)).1

/-- GHASH of blocks. -/
def ghash (h : Nat) (bs : List (List Byte)) : Nat := bs.foldl (fun y b => ghMul (y ^^^ be b) h) 0

/-- The tag of associated bytes and ciphertext. -/
def gcmTag (ks : List (List Nat)) (iv aad ct : List Byte) : List Byte :=
  let h := be (aes ks (zeros 16))
  let s := ghash h (blocks16 aad ++ blocks16 ct ++ [toBe 8 (8 * aad.length) ++ toBe 8 (8 * ct.length)])
  xorB (toBe 16 s) (aes ks (iv ++ toBe 4 1))

/-- The text under the key stream. -/
def gcmText (ks : List (List Nat)) (iv b : List Byte) : List Byte := ctrMode ks (fun i => iv ++ toBe 4 (i + 2)) b

/-- Encryption: key, IV, associated bytes, plaintext; the ciphertext with its 16-byte tag. -/
def gcmSeal (key iv aad pt : List Byte) : List Byte :=
  let ks := roundKeys key
  let ct := gcmText ks iv pt
  ct ++ gcmTag ks iv aad ct

/-- Decryption and check: key, IV, associated bytes, ciphertext, tag. -/
def gcmOpen (key iv aad ct tag : List Byte) : Option (List Byte) :=
  let ks := roundKeys key
  if gcmTag ks iv aad ct == tag then some (gcmText ks iv ct) else none

/-! ### SHA-256 (FIPS 180-4) and HMAC (FIPS 198-1) -/

/-- The round constants, 16 words to a number. -/
def shaBits (q : Nat) : Nat :=
  match q with
  | 0 => 0xC19BF1749BDC06A780DEB1FE72BE5D74550C7DC3243185BE12835B01D807AA98AB1C5ED5923F82A459F111F13956C25BE9B5DBA5B5C0FBCF71374491428A2F98
  | 1 => 0x1429296706CA6351D5A79147C6E00BF3BF597FC7B00327C8A831C66D983E515276F988DA5CB0A9DC4A7484AA2DE92C6F240CA1CC0FC19DC6EFBE4786E49B69C1
  | 2 => 0x106AA070F40E3585D6990624D192E819C76C51A3C24B8B70A81A664BA2BFE8A192722C8581C2C92E766A0ABB650A735453380D134D2C6DFC2E1B213827B70A85
  | _ => 0xC67178F2BEF9A3F7A4506CEB90BEFFFA8CC7020884C8781478A5636F748F82EE682E6FF35B9CCA4F4ED8AA4A391C0CB334B0BCB52748774C1E376C0819A4C116

/-- Round constant `i`. -/
def shaK (i : Nat) : Nat := shaBits (i / 16) / 2 ^ (32 * (i % 16)) % 2 ^ 32

/-- The initial hash value. -/
def shaH : List Nat := [0x6A09E667, 0xBB67AE85, 0x3C6EF372, 0xA54FF53A, 0x510E527F, 0x9B05688C, 0x1F83D9AB, 0x5BE0CD19]

/-- A word turned right. -/
def rotr (n x : Nat) : Nat := x / 2 ^ n + x % 2 ^ n * 2 ^ (32 - n)

/-- The message schedule: `n` more words, the last first. -/
def shaSched : Nat → List Nat → List Nat
  | 0, w => w
  | n + 1, w =>
    let a := w.getD 14 0
    let b := w.getD 1 0
    let s0 := rotr 7 a ^^^ rotr 18 a ^^^ (a / 2 ^ 3)
    let s1 := rotr 17 b ^^^ rotr 19 b ^^^ (b / 2 ^ 10)
    shaSched n (((s1 + w.getD 6 0 + s0 + w.getD 15 0) % 2 ^ 32) :: w)

/-- One round on the eight working words. -/
def shaRound (v : List Nat) (kw : Nat) : List Nat :=
  match v with
  | [a, b, c, d, e, f, g, h] =>
    let t1 := h + (rotr 6 e ^^^ rotr 11 e ^^^ rotr 25 e) + ((e &&& f) ^^^ ((2 ^ 32 - 1 - e) &&& g)) + kw
    let t2 := (rotr 2 a ^^^ rotr 13 a ^^^ rotr 22 a) + ((a &&& b) ^^^ (a &&& c) ^^^ (b &&& c))
    [(t1 + t2) % 2 ^ 32, a, b, c, (d + t1) % 2 ^ 32, e, f, g]
  | _ => v

/-- One block of 64 bytes. -/
def shaBlock (hs : List Nat) (b : List Byte) : List Nat :=
  let w := (shaSched 48 (wordsOf b).reverse).reverse
  let v := (List.range 64).foldl (fun v i => shaRound v (shaK i + w.getD i 0)) hs
  List.zipWith (fun x y => (x + y) % 2 ^ 32) hs v

/-- SHA-256. -/
def sha256 (m : List Byte) : List Byte :=
  let p := m ++ u8 0x80 ++ zeros ((119 - m.length % 64) % 64) ++ toBe 8 (8 * m.length)
  ((blocks 64 p.length p).foldl shaBlock shaH).flatMap (toBe 4)

/-- HMAC-SHA-256: key, then message. -/
def hmac (k m : List Byte) : List Byte :=
  let k := (if 64 < k.length then sha256 k else k)
  let k := k ++ zeros (64 - k.length)
  let pad := fun (x : Byte) => k.map fun b => b ^^^ x
  sha256 (pad 0x5C ++ sha256 (pad 0x36 ++ m))

end Sys2Proof.Machine
end

