-- ==== Sys2Proof/Machine/State.lean ====
section
/-!
DEFINITION. The machine's state, the reasons a step can stop, and the state after reset.
-/

namespace Sys2Proof.Machine

/-- The state: the commands that wait, first in, first out; the fuses; and everything else the device holds. -/
structure State where
  pending : List Instr := []
  fuse : Fuse := {}
  dev : Dev := {}
  deriving DecidableEq, Repr

/-- Faults. Every command has an effect the spec gives, so no step ends in one. -/
inductive Fault where
  /-- Raised by nothing: the spec describes no stop of the block. Safe. -/
  | never
  deriving DecidableEq, Repr

/-- Refusals. -/
inductive Refusal where
  /-- Raised by the arm of a command that has no meaning yet. Safe. -/
  | notModelled (mnemonic : String)
  deriving DecidableEq, Repr

/-- What a command answers. -/
abbrev Res := Host.Outcome State Fault Refusal

/-- The state after reset: every register field at the value the register map gives it (R10, R11), no supply lost, the
fuses as shipped (R64), and no command waiting. -/
def State.reset : State := {}

/-- A command whose effect leaves the fuses and the queue alone. -/
def onDev (f : Dev → Dev) (s : State) : Res := .next { s with dev := f s.dev }

end Sys2Proof.Machine
end

