-- ==== Sys2Proof/Machine/Ops.lean ====
section
/-!
DEFINITION. The named operations every block uses: reading and writing register fields, time, interrupts, the recorder,
items and completions (R6-R16, R410-R434, R636-R644).
-/

namespace Sys2Proof.Machine

/-! ### Angles -/

/-- The angle of a point (x, y) in 0.000001 degree (R127, R456). -/
def angleOf (y x : Int) : Int := if x = 0 && y = 0 then Config.atan2 y x else rdiv (turnOf y x * 360000000) (2 ^ 40)

/-- The circular mean of phases in 2^-32 cycle (R206): the direction of the sum of their directions. -/
def circMean (l : List Int) : Int :=
  let v := l.foldl (fun (a : Int × Int) (p : Int) => (a.1 + (dirOf p).1, a.2 + (dirOf p).2)) (0, 0)
  if v.1 = 0 && v.2 = 0 then Config.circMean l else rdiv (turnOf v.2 v.1) (2 ^ 8) % 2 ^ 32

/-! ### Register fields -/

/-- The store of a class (R10). -/
def RegFile.sel (r : RegFile) : Store → Tab Nat
  | .vol => r.vol
  | .mram => r.mram
  | .aon => r.aon
  | .ident => r.ident
  | .part p => (tabFind r.parts p).getD []

/-- Replace the store of a class. -/
def RegFile.upd (r : RegFile) (s : Store) (t : Tab Nat) : RegFile :=
  match s with
  | .vol => { r with vol := t }
  | .mram => { r with mram := t }
  | .aon => { r with aon := t }
  | .ident => { r with ident := t }
  | .part p => { r with parts := tabPut r.parts p t }

/-- The field has a copy (i, j). -/
def Fld.has (f : Fld) (i j : Nat) : Bool := i < f.n1 && j < f.n2

/-- The value of copy (i, j) of a field, cut to the field's width; the reset value where there is no such copy. -/
def Dev.get (d : Dev) (f : Fld) (i : Nat := 0) (j : Nat := 0) : Nat :=
  (if f.has i j then tabFind (d.regs.sel f.store) (f.key i j) else none).getD (f.reset i j) % 2 ^ f.width

/-- The field as a flag. -/
def Dev.on (d : Dev) (f : Fld) (i : Nat := 0) (j : Nat := 0) : Bool := d.get f i j != 0

/-- The field as a signed number (R5). -/
def Dev.geti (d : Dev) (f : Fld) (i : Nat := 0) (j : Nat := 0) : Int := dec2 f.width (d.get f i j)

/-- A store with a value in copy (i, j) of a field. A value equal to the reset value is not listed, so the store stays in
one canonical form. -/
def RegFile.put (r : RegFile) (f : Fld) (v i j : Nat) : RegFile :=
  let t := r.sel f.store
  r.upd f.store (if v = f.reset i j then tabDel t (f.key i j) else tabPut t (f.key i j) v)

/-- Store a value, cut to the field's width, in copy (i, j), where there is one. -/
def Dev.set (d : Dev) (f : Fld) (v : Nat) (i : Nat := 0) (j : Nat := 0) : Dev :=
  { d with regs := if f.has i j then d.regs.put f (v % 2 ^ f.width) i j else d.regs }

/-- Store a flag. -/
def Dev.put (d : Dev) (f : Fld) (b : Bool) (i : Nat := 0) (j : Nat := 0) : Dev := d.set f (b2n b) i j

/-- Store a value, saturating at the field's greatest value. -/
def Dev.sat (d : Dev) (f : Fld) (v : Nat) (i : Nat := 0) (j : Nat := 0) : Dev := d.set f (min v (2 ^ f.width - 1)) i j

/-- Count one up, saturating. -/
def Dev.inc (d : Dev) (f : Fld) (i : Nat := 0) (j : Nat := 0) : Dev := d.sat f (d.get f i j + 1) i j

/-- Store a signed value in two's complement, cut to the field's width. -/
def Dev.seti (d : Dev) (f : Fld) (z : Int) (i : Nat := 0) (j : Nat := 0) : Dev := d.set f (enc2 f.width z) i j

/-- Store a signed value, saturating. -/
def Dev.sati (d : Dev) (f : Fld) (z : Int) (i : Nat := 0) (j : Nat := 0) : Dev := d.set f (enc2 f.width (clamp2 f.width z)) i j

/-- Set or clear bit `n` of a field. -/
def Dev.setBit (d : Dev) (f : Fld) (n : Nat) (b : Bool) (i : Nat := 0) (j : Nat := 0) : Dev := d.set f (putBit (d.get f i j) n b) i j

/-- Bit `n` of a field. -/
def Dev.bit (d : Dev) (f : Fld) (n : Nat) (i : Nat := 0) (j : Nat := 0) : Bool := bitOf (d.get f i j) n

/-- Every field copy of the register map that lies at a BAR0 address, with its indices. -/
def fieldsAt (a : Nat) : List (Fld × Nat × Nat) :=
  regMap.filterMap fun f =>
    if f.base ≤ a then
      let o := a - f.base
      let i := o / f.s1
      let j := o % f.s1 / f.s2
      if i < f.n1 && j < f.n2 && o % f.s1 % f.s2 == 0 then some (f, i, j) else none
    else none

/-! ### Output and free values -/

/-- Put something out. -/
def Dev.emit (d : Dev) (o : Out) : Dev := { d with out := d.out ++ [o] }

/-- A free value and the state that has used it up (log entry 3). -/
def Dev.fresh (d : Dev) : Nat × Dev := (Config.free d.free, { d with free := d.free + 1 })

/-! ### Time -/

/-- Lengths in ns of the units of time (Scope and conventions, Time). -/
def ms : Nat := 1000000
/-- A fleet cycle, 10 ms. -/
def fleetCycle : Nat := 10 * ms
/-- A superframe, 100 ms. -/
def superframe : Nat := 100 * ms
/-- A slot, 250 µs. -/
def slotLen : Nat := 250000
/-- A GPS second. -/
def second : Nat := 1000 * ms

/-- Yard time, ns. -/
def Dev.now (d : Dev) : Nat := d.clk.yard

/-- Yard time runs: it stops with the TIME domain, or its reference, while the device runs (R187); in WATCH and DEEP it is the
AON island's RTC that counts on (log entry 81). -/
def Dev.timeGoes (d : Dev) : Bool := !(d.sys.field && d.get R.PWR_STATUS_STATE == 0)

/-- What `n` ns slew yard time by (R184): 1 ns in 5 ms, that is 200 ns a second, up to the rest of the slew. -/
def Clk.slewIn (c : Clk) (n : Nat) : Int :=
  let k : Int := (c.slewAcc + n) / 5000000
  if 0 ≤ c.slew then min k c.slew else max (-k) c.slew

/-- The clock after a slew of `n` ns: the rest of the slew. -/
def Clk.slewed (c : Clk) (n : Nat) : Clk :=
  let r := c.slew - c.slewIn n
  { c with slew := r, slewAcc := if r = 0 then 0 else (c.slewAcc + n) % 5000000 }

/-- Pass `n` nanoseconds of yard time, or, where it does not run, of the time since reset. -/
def Dev.pass (d : Dev) (n : Nat) : Dev :=
  { d with clk := if d.timeGoes then
      { d.clk.slewed n with yard := d.clk.yard + n, mono := d.clk.mono + ((n : Int) + d.clk.slewIn n).toNat }
    else { d.clk with mono := d.clk.mono + n } }

/-- Pass time up to a yard time, if it lies ahead. -/
def Dev.passTo (d : Dev) (t : Nat) : Dev := d.pass (t - d.clk.yard)

/-- Pass `n` nanoseconds of the time since reset. -/
def Dev.passMono (d : Dev) (n : Nat) : Dev :=
  { d with clk := if d.timeGoes then
      { d.clk.slewed n with yard := d.clk.yard + ((n : Int) - d.clk.slewIn n).toNat, mono := d.clk.mono + n }
    else { d.clk with mono := d.clk.mono + n } }

/-- Pass time up to a time since reset, if it lies ahead. -/
def Dev.passToMono (d : Dev) (t : Nat) : Dev := d.passMono (t - d.clk.mono)

/-- The index of the next boundary of a unit of length `p`, where `last` is 1 + the index of the last one processed. -/
def nextIdx (yard p last : Nat) : Nat := if yard % p = 0 && last != yard / p + 1 then yard / p else yard / p + 1

/-- The superframe number since the GPS epoch, and the slot now (R235). -/
def Dev.sfn (d : Dev) : Nat := d.clk.yard / superframe
/-- The slot of the superframe now, 0-399. -/
def Dev.slot (d : Dev) : Nat := d.clk.yard % superframe / slotLen
/-- The yard time at which a slot of the present superframe starts. -/
def Dev.slotStart (d : Dev) (s : Nat) : Nat := d.sfn * superframe + s * slotLen

/-- GPS seconds now. -/
def Dev.gpsSec (d : Dev) : Nat := d.clk.yard / second

/-- Time is in holdover (R15). -/
def Dev.holdover (d : Dev) : Bool := d.on R.SYS_LEVEL_HOLDOVER

/-- Time was in holdover at a yard time (R15): as the log of changes says, or as now where it names none that early. -/
def Dev.holdAt (d : Dev) (t : Nat) : Bool :=
  match d.tim.hoLog.find? fun p => p.1 ≤ t with
  | some p => p.2
  | none => d.holdover

/-- SYS_LEVEL.HOLDOVER takes a value, and the log keeps since when. -/
def Dev.setHoldover (d : Dev) (b : Bool) : Dev :=
  let old := if d.tim.hoLog.isEmpty then [(0, d.holdover)] else d.tim.hoLog
  let l := if d.holdover == b then d.tim.hoLog else (d.now, b) :: old.filter fun p => p.1 ≤ d.now
  { d with tim := { d.tim with hoLog := l } }.put R.SYS_LEVEL_HOLDOVER b

/-! ### Identity, level, reins -/

/-- The device ID in force (R75). -/
def Dev.id (d : Dev) : Nat := d.get R.ID_DEV_DEV

/-- The service level (R58). -/
def Dev.level (d : Dev) : Nat := d.get R.SYS_LEVEL_LEVEL

/-- The device holds the reins (R20, R633). -/
def Dev.reins (d : Dev) : Bool := d.get R.PAIR_STATUS_ROLE == 1

/-! ### Domains and regions (R24, R44, R48) -/

/-- Codes of the regions. -/
def regionCode : Region → Nat
  | .corr => 0 | .acq => 1 | .sup => 2 | .safe => 3 | .pcie => 4 | .bar => 5 | .ctrl => 6 | .nvm => 7
  | .aon => 8 | .time => 9 | .sky => 10 | .rad => 11 | .meter => 12 | .motor => 13 | .field => 14

/-- The boot has come past the fuses, and the supplies stand (R54, R55). -/
def Dev.powered (d : Dev) : Bool := d.sys.ran && d.sys.supplies && d.sys.vin && d.get R.PWR_STATUS_STATE != 2

/-- The boot has come past the reference, with a SAFE image, in a life-cycle state that runs one (R47, R54, R56, R64). -/
def Dev.imaged (d : Dev) : Bool := d.powered && d.sys.refOk && !d.on R.SYS_BOOT_STATUS_NO_SAFE && d.boot.lc != .scrapped

/-- The TIME domain runs on its reference, so that the domains derived from it do (R48). -/
def Dev.timed (d : Dev) : Bool := d.imaged && !d.sys.field

/-- A region's domain runs, on demand where R44 says so: powered, not lost (R40), and clocked in this power state (R44, R48). SUP stops
with a package fault (R29). -/
def Dev.runs (d : Dev) (r : Region) : Bool :=
  let run := d.get R.PWR_STATUS_STATE == 0
  !d.sys.lost.contains (regionCode r) && match r with
    | .aon => d.sys.vaon
    | .pcie => d.powered && run
    | .nvm => d.powered
    | .safe => d.imaged && run
    | .time => d.timed
    | .meter => d.imaged && !d.sys.field && d.sys.xo
    | .sup => d.timed && run && !d.sys.pkg && !d.sys.down.contains 0
    | .bar => d.timed && run && d.on R.PAIR_STATUS_PAIRED
    | _ => d.timed && run

/-- A command whose work a region carries out: its effect while that region runs, none while it does not (R40, R44, R48). -/
def onRun (x : Region) (f : Dev → Dev) (s : State) : Res := onDev (fun d => if d.runs x then f d else d) s

/-! ### Interrupts of the device (R434) -/

/-- The block code of a register field. -/
def Fld.block (f : Fld) : Nat := f.base / 0x10000

/-- The keys of all W1C fields of a block: its interrupt causes. -/
def w1cOf (b : Nat) : List Fld := regMap.filter fun f => f.acc == .w1c && f.block == b

/-- A key lies in one of the copies of a field. -/
def Fld.owns (f : Fld) (k : Nat) : Bool :=
  k % 32 == f.lsb && (f.base ≤ k / 32 && (let o := k / 32 - f.base; o / f.s1 < f.n1 && o % f.s1 % f.s2 == 0 && o % f.s1 / f.s2 < f.n2))

/-- Block `b` has a cause pending in its own status registers. -/
def Dev.causePending (d : Dev) (b : Nat) : Bool :=
  d.regs.vol.any fun (k, v) => v != 0 && k / 32 / 0x10000 == b && (w1cOf b).any fun f => f.owns k

/-- Set a bit of RING_DEV_IRQ, numbered over the whole register, raising vector 32 when it rises while enabled. -/
def Dev.devIrq (d : Dev) (b : Nat) : Dev :=
  let was := if b = 0 then d.on R.RING_DEV_IRQ_FAULT else d.bit R.RING_DEV_IRQ_BLOCK (b - 1)
  let d' := if b = 0 then d.set R.RING_DEV_IRQ_FAULT 1 else d.setBit R.RING_DEV_IRQ_BLOCK (b - 1) true
  if !was && d.bit R.RING_DEV_IRQ_EN_EN b then d'.emit (.msix 32) else d'

/-- The fault interrupt of R27. -/
def Dev.faultIrq (d : Dev) : Dev := d.devIrq 0

/-- Set bits of a W1C field and with them the interrupt cause of its block (R434). -/
def Dev.raise (d : Dev) (f : Fld) (i : Nat := 0) (v : Nat := 1) : Dev :=
  (d.set f (Nat.lor (d.get f i) v) i).devIrq f.block

/-- After a host clears W1C bits, the block's bit follows its causes (R434). -/
def Dev.dropIrq (d : Dev) (b : Nat) : Dev :=
  if 1 ≤ b && b ≤ 20 && !d.causePending b then d.setBit R.RING_DEV_IRQ_BLOCK (b - 1) false else d

/-! ### Ring entries and interrupts (R410, R411, R433) -/

/-- Entries of a ring. -/
def Dev.ringSize (d : Dev) (r : Nat) : Nat := 2 ^ d.get R.RING_CFG_LOG2 r
/-- Entries written and not yet taken (R410). -/
def Dev.ringFill (d : Dev) (r : Nat) : Nat := (d.get R.RING_PROD_P r + 2 ^ 32 - d.get R.RING_CONS_C r) % 2 ^ 32
/-- PHASE of entry `k` of a ring (R411). -/
def Dev.phase (d : Dev) (r k : Nat) : Nat := if bitOf k (d.get R.RING_CFG_LOG2 r) then 0 else 1
/-- The link carries traffic: up, Bus Master Enable set, and SUP running (R56, R406, R436). -/
def Dev.linkUp (d : Dev) : Bool := d.on R.RING_GLB_STATUS_LINK_UP && d.ring.busMaster && !d.sys.down.contains 0

/-- Raise the ring's vector when a condition of R433 holds. -/
def Dev.ringIrq (d : Dev) (r : Nat) : Dev :=
  let q := tabGet d.ring.irq r
  let c := d.get R.RING_IRQ_CFG_COUNT r
  let t := d.get R.RING_IRQ_CFG_TIMER r
  let due := match q.first with
    | some f => t != 0 && f + t * 1000 ≤ d.clk.mono
    | none => false
  let cond := q.now || (c != 0 && c ≤ q.count) || due || (c == 0 && t == 0 && q.count != 0)
  if cond && !q.waitDb then
    { d with ring := { d.ring with irq := tabPut d.ring.irq r { waitDb := true } } }.emit (.msix r)
  else d

/-- `n` entries were written to ring `r`; `now` when a descriptor asked for an interrupt at once. -/
def Dev.entriesWritten (d : Dev) (r n : Nat) (now : Bool) : Dev :=
  let q := tabGet d.ring.irq r
  let q' : IrqSt := { count := q.count + n, first := some (q.first.getD d.clk.mono), now := q.now || now, waitDb := q.waitDb }
  let d' := (d.set R.RING_PROD_P (d.get R.RING_PROD_P r + n) r)
  let d' := { d' with ring := { d'.ring with irq := tabPut d'.ring.irq r q' } }
  (d'.put R.RING_STATUS_FULL (d'.ringFill r == d'.ringSize r) r).ringIrq r

/-- The next sequence of a source, and the state that has used it (R427). -/
def Dev.nextSeq (d : Dev) (src : Nat) : Nat × Dev :=
  let n := (tabFind d.ring.seqs src).getD 0
  (n, { d with ring := { d.ring with seqs := tabPut d.ring.seqs src ((n + 1) % 2 ^ 24) } })

/-! ### Items (R420-R423) -/

/-- Cut a byte list into 32-byte entries, with their positions from `k`. -/
def entriesOf (k : Nat) : Nat → List Byte → List (Nat × List Byte)
  | 0, _ => []
  | n + 1, b => (k, fit 32 b) :: entriesOf (k + 1) n (b.drop 32)

/-- Entries an item of `len` body bytes fills (R420). -/
def itemEntries (len : Nat) : Nat := ceilDiv (16 + len) 32

/-- Entries a PAD would fill before an item of `n` entries (R421). -/
def Dev.padOf (d : Dev) (r n : Nat) : Nat :=
  let pos := d.get R.RING_PROD_P r % d.ringSize r
  if d.ringSize r < pos + n then d.ringSize r - pos else 0

/-- The rings are held: paused for a SUP activation (R439), frozen by a fault (R29), or SUP's clock is stopped (R44, R48). Doorbells
and completions wait, telemetry is dropped, nothing is fetched. -/
def Dev.ringsHeld (d : Dev) : Bool := d.on R.RING_GLB_STATUS_PAUSED || !d.runs .sup

/-- The ring takes items: an enabled ITEM ring, the link up, not held (R422, R436, R439). -/
def Dev.itemRing (d : Dev) (r : Nat) : Bool :=
  r < 32 && d.on R.RING_CTRL_EN r && d.get R.RING_CFG_KIND r == 2 && d.linkUp && !d.ringsHeld

/-- An item of `n` entries is too long for the ring (R422). -/
def Dev.tooLong (d : Dev) (r n : Nat) : Bool := d.ringSize r / 2 < n

/-- An item of `n` entries fits, its PAD included (R420-R422). -/
def Dev.itemFits (d : Dev) (r n : Nat) : Bool :=
  d.itemRing r && !d.tooLong r n && d.ringFill r + d.padOf r n + n ≤ d.ringSize r

/-- Header and body of an item (R420). -/
def itemBytes (src seq flags t : Nat) (body : List Byte) : List Byte :=
  u16 src ++ u16 body.length ++ u24 seq ++ u8 flags ++ u64 t ++ body

/-- Write the entries of an item, later ones first (R420), and remember the item until the host takes it. -/
def Dev.putEntries (d : Dev) (r : Nat) (b : List Byte) (n : Nat) (x : ItemRef) : Dev :=
  let p := d.get R.RING_PROD_P r
  let d' := { d with
    out := d.out ++ (entriesOf (p % d.ringSize r) n b).reverse.map (fun (e : Nat × List Byte) => Out.entry r e.1 e.2),
    ring := { d.ring with items := tabPut d.ring.items r (tabGet d.ring.items r ++ [{ x with at0 := p, n := n }]) } }
  d'.entriesWritten r n false

/-- The PAD item that fills the ring up to its end (R421). -/
def Dev.putPad (d : Dev) (r n : Nat) : Dev :=
  let k := d.padOf r n
  if k = 0 then d
  else d.putEntries r (itemBytes 0 0 (4 + 128 * d.phase r (d.get R.RING_PROD_P r)) 0 (zeros (32 * k - 16))) k {}

/-- Write an item that fits, preceded by its PAD. -/
def Dev.putItem (d : Dev) (r src seq flags t : Nat) (body : List Byte) (items : Nat := 1) : Dev :=
  let n := itemEntries body.length
  let d := d.putPad r n
  d.putEntries r (itemBytes src seq (flags + b2n (d.holdAt t) + 128 * d.phase r (d.get R.RING_PROD_P r)) t body) n
    { src := src, seq := seq, t := t, items := items }

/-- The body of a GAP item (R423). -/
def gapBody (g : Gap) : List Byte := u32 (min g.count 0xFFFFFFFF) ++ u64 g.tLast ++ zeros 4

/-- Write the GAP item of a source (R423). -/
def Dev.putGap (d : Dev) (src : Nat) (g : Gap) : Dev :=
  let d := d.putItem g.ring src g.seq 2 g.tFirst (gapBody g) g.count
  { d with ring := { d.ring with gaps := tabDel d.ring.gaps src } }

/-- A telemetry item is dropped and counted (R422, R423). -/
def Dev.dropItem (d : Dev) (r src seq t : Nat) : Dev :=
  let g := match tabFind d.ring.gaps src with
    | some g => { g with ring := r, count := g.count + 1, tLast := t }
    | none => { ring := r, seq := seq, tFirst := t, count := 1, tLast := t }
  let d := { d with ring := { d.ring with gaps := tabPut d.ring.gaps src g } }
  d.inc R.RING_DROP_ITEMS r

/-- Give a telemetry item to a ring: written, after its source's GAP when one waits, or dropped (R422, R423). -/
def Dev.item (d : Dev) (r src t : Nat) (body : List Byte) : Dev :=
  let (seq, d) := d.nextSeq src
  let n := itemEntries body.length
  match tabFind d.ring.gaps src with
  | some g =>
    if d.itemFits r 1 && (d.putGap src { g with ring := r }).itemFits r n then (d.putGap src { g with ring := r }).putItem r src seq 0 t body
    else (if d.tooLong r n then d.raise R.RING_ERR_TOO_LONG r else d).dropItem r src seq t
  | none =>
    if d.itemFits r n then d.putItem r src seq 0 t body
    else (if d.tooLong r n then d.raise R.RING_ERR_TOO_LONG r else d).dropItem r src seq t

/-- Give a back-pressured item to a ring: whether it went (or, after 1 s of link loss, was dropped and counted, R436),
and the state after. One that finds no room waits (R422). -/
def Dev.itemBp (d : Dev) (r src t : Nat) (body : List Byte) : Bool × Dev :=
  let n := itemEntries body.length
  let g := tabFind d.ring.gaps src
  let d1 := match g with
    | some g => if d.itemFits r 1 then d.putGap src { g with ring := r } else d
    | none => d
  if d1.itemFits r n && (g.isNone || d.itemFits r 1) then
    let (seq, d1) := d1.nextSeq src
    (true, d1.putItem r src seq 0 t body)
  else if d.ring.dropping then (true, (d.nextSeq src).2.inc R.RING_LINK_DROP_ITEMS)
  else (false, if d.tooLong r n && d.itemRing r then d.raise R.RING_ERR_TOO_LONG r else d)

/-! ### The recorder (R636-R644) -/

/-- The class of an event code (R640). -/
def evtClass (code : Nat) : Nat :=
  if 0x12F0 ≤ code && code ≤ 0x12FF then 240 + (code - 0x12F0) else (code / 256 - 1) * 12 + (code % 256 - 1)

/-- The 32 bytes of a record (R636). -/
def recBytes (x : Rec) : List Byte :=
  u64 x.t ++ u32 x.no ++ u16 x.code ++ u8 (b2n x.holdover + 2 * b2n x.restored) ++ u8 x.boot ++ fit 16 x.arg

/-- Refresh the recorder's status registers from the log. -/
def Dev.evtStatus (d : Dev) : Dev :=
  let d := (d.set R.EVT_STATUS_UNFLUSHED d.evt.buf.length).set R.EVT_NEXT_REC_NO d.evt.next
  match d.evt.nv ++ d.evt.buf with
  | x :: _ => d.set R.EVT_OLDEST_REC_NO x.no
  | [] => d.set R.EVT_OLDEST_REC_NO d.evt.next

/-- A record is lost to a full buffer (R644): counted, and an overrun episode begins or goes on. -/
def Dev.recLost (d : Dev) : Dev :=
  let d := (d.inc R.EVT_COUNTS_LOST).raise R.EVT_STATUS_OVERRUN
  { d with evt := { d.evt with episode := match d.evt.episode with
      | some (t, n) => some (t, n + 1)
      | none => some (d.clk.mono, 1) } }

/-- Write a record that has passed its rate limit (R637, R639, R643, R644). -/
def Dev.pushRec (d : Dev) (t code : Nat) (arg : List Byte) : Dev :=
  let x : Rec := { t := t, no := d.evt.next, code := code, holdover := d.holdAt t, boot := d.get R.RING_BOOT_BOOT, arg := fit 16 arg }
  let full := 4096 ≤ d.evt.buf.length
  let d := if full then d.recLost else d
  let buf := (if full then d.evt.buf.drop 1 else d.evt.buf) ++ [x]
  let d := { d with evt := { d.evt with
    buf := buf, next := (d.evt.next + 1) % 2 ^ 32, started := true,
    flushWant := d.evt.flushWant || d.get R.EVT_CFG_FLUSH_AT ≤ buf.length } }
  let d := d.evtStatus
  if d.on R.EVT_CFG_STREAM_EN then d.item (d.get R.EVT_CFG_RING) 0x1201 t (recBytes x) else d

/-- Write a record, if its class lets it through (R641). -/
def Dev.record (d : Dev) (code : Nat) (arg : List Byte := []) : Dev :=
  let k := evtClass code
  if fixedClass k || d.get R.EVT_CLASS_LIM_BURST k = 0 then d.pushRec d.now code arg
  else
    let c := tabGet d.evt.cls k
    let due := some (c.due.getD (d.clk.mono + d.get R.EVT_CLASS_LIM_PERIOD k * ms))
    if d.get R.EVT_CLASS_STAT_TOKENS k != 0 then
      let d := d.set R.EVT_CLASS_STAT_TOKENS (d.get R.EVT_CLASS_STAT_TOKENS k - 1) k
      let d := { d with evt := { d.evt with cls := tabPut d.evt.cls k { c with due := due } } }
      d.pushRec d.now code arg
    else
      let first := if d.get R.EVT_CLASS_STAT_PENDING k = 0 then d.now else c.first
      let d := { d with evt := { d.evt with cls := tabPut d.evt.cls k { due := due, first := first, last := d.now } } }
      d.inc R.EVT_CLASS_STAT_PENDING k

/-- Ask for a flush (R643). -/
def Dev.wantFlush (d : Dev) : Dev := { d with evt := { d.evt with flushWant := true } }

/-! ### Completions (R414, R424-R432) -/

/-- BLOCK, FLAGS, TAG and OP of a descriptor (R413). -/
def Desc.block (q : Desc) : Nat := fld q.bytes 0 1
/-- FLAGS of R413. -/
def Desc.flags (q : Desc) : Nat := fld q.bytes 1 1
/-- OP of the block area. -/
def Desc.op (q : Desc) : Nat := fld q.bytes 16 1
/-- The block area, offsets 16-63. -/
def Desc.area (q : Desc) : List Byte := q.bytes.drop 16

/-- Completion status codes of R16. -/
inductive Status where
  | done | donePartial | aborted | refusedState | badDescriptor | keyStale | keyDenied | noGrant | timeout
  | versionDenied | eccUncorrectable | notHoldingReins
  deriving DecidableEq, Repr

/-- The code of a status (R16). -/
def Status.code : Status → Nat
  | .done => 0 | .donePartial => 1 | .aborted => 2 | .refusedState => 3 | .badDescriptor => 4 | .keyStale => 5
  | .keyDenied => 6 | .noGrant => 7 | .timeout => 8 | .versionDenied => 9 | .eccUncorrectable => 10 | .notHoldingReins => 11

/-- A block code of the block code table (Scope and conventions). -/
def blockListed (b : Nat) : Bool := 1 ≤ b && b ≤ 0x14

/-- The descriptor awaits its completion. -/
def Dev.isLive (d : Dev) (q : Desc) : Bool := d.ring.live.any fun x => x.no == q.no

/-- The source of a descriptor's completion: its block, or RING when its header is bad (R413). -/
def descSrc (q : Desc) : Nat := if blockListed q.block then q.block * 256 else 0x0B00

/-- The bytes of a completion entry but for PHASE (R414). -/
def complBytes (q : Desc) (t journal seq src status hold : Nat) (phase : Nat) : List Byte :=
  (q.bytes.drop 8).take 8 ++ u64 t ++ u32 journal ++ u32 seq ++ u16 src ++ u16 q.idx ++ u8 status ++
    u8 (if blockListed q.block then q.op else 0) ++ u8 q.ring ++ u8 (hold + 128 * phase)

/-- Take a descriptor out of those that await their completion, freeing its reservation; a disabled SUBMIT ring whose
last completion this is reads OFF (R435). -/
def Dev.unlive (d : Dev) (q : Desc) : Dev :=
  let d := { d with ring := { d.ring with live := d.ring.live.filter fun x => x.no != q.no } }
  let d := d.sat R.RING_STATUS_RESERVED ((d.ring.live.filter fun x => x.compl == q.compl).length) q.compl
  if d.get R.RING_STATUS_STATE q.ring = 2 && !(d.ring.live.any fun x => x.ring == q.ring) then d.set R.RING_STATUS_STATE 0 q.ring else d

/-- Write a completion entry (R414, R426, R427). With the link lost it is counted and not written (R436). -/
def Dev.writeCompl (d : Dev) (q : Desc) (src status t : Nat) : Dev :=
  let d := d.unlive q
  if !d.linkUp || !d.on R.RING_CTRL_EN q.compl then d.inc R.RING_LINK_DROP_CPL
  else
    let j := (d.get R.RING_JOURNAL_JOURNAL + 1) % 2 ^ 32
    let d := d.set R.RING_JOURNAL_JOURNAL j
    let (seq, d) := d.nextSeq src
    let p := d.get R.RING_PROD_P q.compl
    let d := d.emit (.entry q.compl (p % d.ringSize q.compl) (complBytes q t j seq src status (b2n (d.holdAt t)) (d.phase q.compl p)))
    d.entriesWritten q.compl 1 (bitOf q.flags 0)

/-- Complete a descriptor with a status, once (R415). While the rings are held the entry waits (R439). -/
def Dev.complete (d : Dev) (q : Desc) (st : Status) : Dev :=
  if !d.isLive q then d
  else if d.ringsHeld then { d with ring := { d.ring with deferred := d.ring.deferred ++ [(q, st.code, d.now)] } }
  else d.writeCompl q (descSrc q) st.code d.now

/-- Write to a host buffer a descriptor names, while the link carries traffic (R406). -/
def Dev.toHost (d : Dev) (addr : Nat) (b : List Byte) : Dev := if d.linkUp then d.emit (.hostWrite addr b) else d

/-- Complete a list of descriptors with one status. -/
def Dev.completeAll (d : Dev) (qs : List Desc) (st : Status) : Dev := qs.foldl (fun d q => d.complete q st) d

/-- Take the oldest descriptor handed to a block with a given OP, while SUP runs. -/
def Dev.take (d : Dev) (block op : Nat) : Option (Desc × Dev) :=
  if !d.runs .sup then none
  else match d.ring.handed.find? (fun q => q.block == block && q.op == op) with
    | some q => some (q, { d with ring := { d.ring with handed := d.ring.handed.filter fun x => x.no != q.no } })
    | none => none

/-- Fetched descriptors that satisfy `p` and have not been taken by their block are given up (R415). -/
def Dev.giveUp (d : Dev) (p : Desc → Bool) : Dev :=
  let l := (d.ring.handed ++ d.ring.staged.flatMap fun x => x.2).filter p
  let d := { d with ring := { d.ring with handed := d.ring.handed.filter (fun q => !p q), staged := tabMapV d.ring.staged fun _ x => x.filter fun q => !p q } }
  let d := d.ring.staged.foldl (fun (d : Dev) (x : Nat × List Desc) => d.set R.RING_STATUS_STAGED x.2.length x.1) d
  d.completeAll l .aborted

/-! ### Host writes, field by field (R7-R9) -/

/-- A host write's effect on one field copy: RW stores a listed value (R9), less its reserved bits (R8), W1C clears, RO and
reserved bits are not changed; the actions of W1S and WO fields are their own commands', which keep a W1S bit set until its action
completes (R7). Response words are held for their COMMIT. -/
def Dev.writeField (d : Dev) (f : Fld) (i j v : Nat) : Dev :=
  let x := bits v f.lsb f.width
  match f.acc with
  | .rw => if f.lists i x then d.set f (Nat.land x (f.named i j)) i j else d
  | .ro => d
  | .w1c => (d.set f (Nat.land (d.get f i j) (Nat.xor x (2 ^ f.width - 1))) i j).dropIrq f.block
  | .w1s => d
  | .wo => if f = R.LC_RESP_RESP || f = R.EVT_RESP_RESP then d.set f x i j else d

/-- A 32-bit host write to a register address, every field of it (R7, R8). -/
def Dev.writeAddr (d : Dev) (a v : Nat) : Dev := (fieldsAt a).foldl (fun d x => d.writeField x.1 x.2.1 x.2.2 v) d

/-- The word a register address reads as (R7, R8): every field of it in its place, WO fields and reserved bits 0. -/
def Dev.word (d : Dev) (a : Nat) : Nat :=
  ((fieldsAt a).map fun x => if x.1.acc == .wo then 0 else d.get x.1 x.2.1 x.2.2 * 2 ^ x.1.lsb).sum

/-- The windows a write reaches: all in RUN; SYS and LC alone when SCRAPPED (R64), the recovery registers alone without SAFE (R56), PWR
alone in WATCH (R44, R49), SYS, LC and PWR alone without the reference (R47); none before the boot has read the fuses, in DEEP, or while the PCIE region is
lost. -/
def Dev.writable (d : Dev) (f : Fld) : Bool :=
  let st := d.get R.PWR_STATUS_STATE
  let core := f.block == 1 || f.block == 0x14
  d.powered && !d.sys.lost.contains (regionCode .pcie) && (st == 0 || f.block == 2) &&
    (d.boot.lc != .scrapped || core) && (d.sys.refOk || core || f.block == 2) &&
    (!d.on R.SYS_BOOT_STATUS_NO_SAFE || f.base / 0x100 == R.IMG_REC_CMD_GO.base / 0x100)

/-- A host write of a register that acts, as a command of its own: nothing where the write does not reach it. -/
def onReg (x : Fld) (f : Dev → Dev) (s : State) : Res := onDev (fun d => if d.writable x then f d else d) s

/-- The address of the register that holds copy (i, j) of a field. -/
def Fld.addr (f : Fld) (i : Nat := 0) (j : Nat := 0) : Nat := f.base + f.s1 * i + f.s2 * j

/-! ### Parts on trial (R593, R598, R599) -/

/-- A self-check of a part passes; it counts while that part is on trial (R599). -/
def Dev.selfOk (d : Dev) (p : Nat) : Dev := if d.get R.IMG_STATUS_TRIAL_PART = p then d.set R.IMG_PART_STAT_SELF_OK 1 p else d

/-- A setting of a part is written; during its trial it is counted (R598). -/
def Dev.trialWrite (d : Dev) (p : Nat) : Dev :=
  if d.get R.IMG_STATUS_TRIAL_PART = p then { d with img := { d.img with writes := d.img.writes + 1, writeLast := d.now } } else d

/-- The pause of a part runs (R593). -/
def Dev.paused (d : Dev) (p : Nat) : Bool :=
  match d.img.act with
  | some a => a.part == p && a.started.isSome
  | none => false

/-! ### Keys -/

/-- The key of a working slot while it is VALID (R556, R577). -/
def Dev.keyOf (d : Dev) (n : Nat) : Option (List Byte) := if d.get R.KEY_ATTR_STATE n = 1 then tabFind d.key.bytes n else none

/-- Four register words as sixteen bytes. -/
def Dev.words16 (d : Dev) (f : Fld) : List Byte := u32 (d.get f 0) ++ u32 (d.get f 1) ++ u32 (d.get f 2) ++ u32 (d.get f 3)

/-- Sixteen bytes into four register words. -/
def Dev.putWords16 (d : Dev) (f : Fld) (b : List Byte) : Dev :=
  (((d.set f (fld b 0 4) 0).set f (fld b 4 4) 1).set f (fld b 8 4) 2).set f (fld b 12 4) 3

/-- Place a fresh 16-byte challenge in four registers (R67, R646). -/
def Dev.freshChal (d : Dev) (f : Fld) : Dev := { (d.putWords16 f (fit 16 (Config.fresh16 d.free))) with free := d.free + 1 }

/-- Named ranges of a block area are free, all other bytes must be 0 (R12). -/
def resvOk (area : List Byte) (named : List (Nat × Nat)) : Bool :=
  ((List.range area.length).all fun k => named.any (fun r => r.1 ≤ k && k < r.1 + r.2) || (area.getD k 0) == 0)

end Sys2Proof.Machine
end

