-- ==== Sys2Proof/Machine/Evt.lean ====
section
/-!
DEFINITION. The event recorder and the tailboard's allotment (R636-R659): flushes, classes, authorized clearing, the EVT
descriptors and writes of TLB_ALLOT.
-/

namespace Sys2Proof.Machine

/-! ### Flush (R643, R644) -/

/-- A flush commits: the unflushed records move to the MRAM ring of 8,192, and the next REC_NO is recorded with a mark
for the final flush of R53. -/
def Dev.flushCommit (d : Dev) (final : Bool) : Dev :=
  let all := d.evt.nv ++ d.evt.buf
  { d with evt := { d.evt with
    nv := all.drop (all.length - 8192), buf := [], committed := some d.evt.next, finalMark := final, flushWant := false } }.evtStatus

/-- The overrun episode ends: one record 0x1203 with the records lost in it (R644). -/
def Dev.endEpisode (d : Dev) : Dev :=
  match d.evt.episode with
  | some (_, n) => { d with evt := { d.evt with episode := none } }.record 0x1203 (u32 n)
  | none => d

/-- A flush runs (R643): committed, or failed with record 0x1204 while the NVM region or the flash is lost. -/
def Dev.flush (d : Dev) (final : Bool := false) : Dev :=
  let qs := d.evt.flushDescs
  if d.evt.nvmLost then
    let d := { d with evt := { d.evt with flushWant := false, flushDescs := [] } }
    (d.record 0x1204 (u16 d.evt.buf.length)).completeAll qs .aborted
  else
    let d := d.flushCommit final
    let d := { d with evt := { d.evt with flushDescs := [] } }
    d.endEpisode.completeAll qs .done

/-- EVT_FLUSH_RUN (R643): the flush that one of the five causes asked for, which fails while the NVM region is lost (R644). -/
def execEvtFlushRun (s : State) : Res := onDev (fun d => if d.powered && d.evt.flushWant then d.flush else d) s

/-- EVT_FLUSH_AGE (R643): FLUSH_MS × 10 ms after the oldest unflushed record was made. -/
def execEvtFlushAge (s : State) : Res :=
  onDev (fun d => match d.evt.buf with
    | x :: _ => if d.powered then (d.passTo (x.t + d.get R.EVT_CFG_FLUSH_MS * 10 * ms)).wantFlush else d
    | [] => d) s

/-- EVT_OVERRUN_END (R644): while no flush is possible an episode ends 1 s after it began. -/
def execEvtOverrunEnd (s : State) : Res :=
  onRun .sup (fun d => match d.evt.episode with
    | some (t, _) => (if d.evt.nvmLost then d.passToMono (t + 1000 * ms) else d).endEpisode
    | none => d) s

/-! ### Classes (R641) -/

/-- EVT_CLASS_PERIOD (R641): a token comes back, and suppressed records are summarized. -/
def Dev.classPeriod (d : Dev) (k : Nat) : Dev :=
  let c := tabGet d.evt.cls k
  match c.due with
  | none => d
  | some t =>
    let d := d.passToMono t
    let tok := min (d.get R.EVT_CLASS_STAT_TOKENS k + 1) (d.get R.EVT_CLASS_LIM_BURST k)
    let d := d.set R.EVT_CLASS_STAT_TOKENS tok k
    let next := if tok < d.get R.EVT_CLASS_LIM_BURST k then some (t + d.get R.EVT_CLASS_LIM_PERIOD k * ms) else none
    let d := { d with evt := { d.evt with cls := tabPut d.evt.cls k { c with due := next } } }
    let n := d.get R.EVT_CLASS_STAT_PENDING k
    if n = 0 then d
    else ((d.set R.EVT_CLASS_STAT_PENDING 0 k).pushRec c.last 0x1202 (u8 k ++ zeros 3 ++ u32 n ++ u64 c.first)).inc R.EVT_COUNTS_SUMMARIES

/-- EVT_CLASS_PERIOD (R641). -/
def execEvtClassPeriod (k : Nat) (s : State) : Res := onRun .sup (fun d => d.classPeriod k) s

/-! ### Authorized clearing (R646, R647) -/

/-- EVT_CLR_CMD.REQ: a challenge bound to the newest record made. -/
def Dev.clrReq (d : Dev) (v : Nat) : Dev :=
  let d := d.writeAddr R.EVT_CLR_CMD_REQ.addr v
  if !bitOf v 0 then d
  else
    let d := d.freshChal R.EVT_CHAL_CHAL
    let d := (d.set R.EVT_CLR_UPTO_UPTO (d.evt.next + 2 ^ 32 - 1)).set R.EVT_CLR_CMD_CHAL_VALID 1
    { d with evt := { d.evt with chalT := d.clk.mono, chalYard := d.now, chalExpired := false } }

/-- EVT_CLR_REQ (R646). -/
def execEvtClrReq (v : Word32) (s : State) : Res := onReg R.EVT_CLR_CMD_REQ (fun d => d.clrReq v.toNat) s

/-- Why a clear is refused (0x1205): 1 wrong, 2 expired, 3 no challenge, 4 key not VALID; 0 where it is allowed. -/
def Dev.clrCause (d : Dev) : Nat :=
  if !d.on R.EVT_CLR_CMD_CHAL_VALID then (if d.evt.chalExpired then 2 else 3)
  else match d.keyOf 63 with
    | none => 4
    | some k =>
      if (hmac k (d.words16 R.EVT_CHAL_CHAL ++ u32 (d.get R.EVT_CLR_UPTO_UPTO) ++ u16 d.id)).take 16 = d.words16 R.EVT_RESP_RESP
      then 0 else 1

/-- Record number `a` is at or before `b` (R637). -/
def recLe (a b : Nat) : Bool := (b + 2 ^ 32 - a) % 2 ^ 32 < 2 ^ 31

/-- EVT_CLR_CMD.COMMIT: discard every record up to UPTO, or refuse. -/
def Dev.clrCommit (d : Dev) (v : Nat) : Dev :=
  let d := d.writeAddr R.EVT_CLR_CMD_REQ.addr v
  if !bitOf v 1 then d
  else
    let c := d.clrCause
    let upto := d.get R.EVT_CLR_UPTO_UPTO
    let d := d.set R.EVT_CLR_CMD_CHAL_VALID 0
    if c != 0 then ((d.raise R.EVT_CLR_CMD_FAIL).record 0x1205 (u8 c))
    else
      let keep := fun (x : Rec) => !recLe x.no upto
      let n := ((d.evt.nv ++ d.evt.buf).filter fun x => recLe x.no upto).length
      let d := { d with evt := { d.evt with nv := d.evt.nv.filter keep, buf := d.evt.buf.filter keep } }
      (d.evtStatus.record 0x1201 (u32 upto ++ u32 n ++ u64 d.evt.chalYard)).flush

/-- EVT_CLR_COMMIT (R647). -/
def execEvtClrCommit (v : Word32) (s : State) : Res := onReg R.EVT_CLR_CMD_REQ (fun d => d.clrCommit v.toNat) s

/-- EVT_CLR_EXPIRY (R646): a challenge expires 60 s after it is issued. -/
def execEvtClrExpiry (s : State) : Res :=
  onRun .sup (fun d =>
    if d.on R.EVT_CLR_CMD_CHAL_VALID then
      let d := (d.passToMono (d.evt.chalT + 60 * second)).set R.EVT_CLR_CMD_CHAL_VALID 0
      { d with evt := { d.evt with chalExpired := true } }
    else d) s

/-! ### Descriptors (R654) -/

/-- The record held under a number. -/
def Dev.recOf (d : Dev) (no : Nat) : Option Rec := (d.evt.nv ++ d.evt.buf).find? fun x => x.no == no % 2 ^ 32

/-- EVT_READ: copies records FIRST to FIRST + COUNT - 1 to ADDR, a missing one as zeros. -/
def Dev.evtRead (d : Dev) : Dev :=
  match d.take 0x12 1 with
  | none => d
  | some (q, d) =>
    let a := q.area
    let first := fld a 4 4
    let addr := fld a 8 8
    let n := fld a 16 2
    if !resvOk a [(0, 1), (4, 14)] || addr % 16 != 0 || n = 0 || 1024 < n then d.complete q .badDescriptor
    else
      let rs := (List.range n).map fun k => d.recOf (first + k)
      let d := d.toHost addr (rs.flatMap fun r => match r with | some x => recBytes x | none => zeros 32)
      d.complete q (if rs.all Option.isSome then .done else .donePartial)

/-- EVT_READ (R654). -/
def execEvtRead (s : State) : Res := onDev Dev.evtRead s

/-- EVT_FLUSH (R654): a flush is forced, and the descriptor completes at its commit. -/
def Dev.evtFlush (d : Dev) : Dev :=
  match d.take 0x12 2 with
  | none => d
  | some (q, d) =>
    if !resvOk q.area [(0, 1)] then d.complete q .badDescriptor
    else if d.evt.nvmLost then d.complete q .aborted
    else { d with evt := { d.evt with flushWant := true, flushDescs := d.evt.flushDescs ++ [q] } }

/-- EVT_FLUSH (R654). -/
def execEvtFlush (s : State) : Res := onDev Dev.evtFlush s

/-- EVT_NOTE: record 0x12F0 + N with the descriptor's 16 bytes. -/
def Dev.evtNote (d : Dev) : Dev :=
  match d.take 0x12 3 with
  | none => d
  | some (q, d) =>
    let a := q.area
    if !resvOk a [(0, 2), (16, 16)] || 15 < fld a 1 1 then d.complete q .badDescriptor
    else (d.record (0x12F0 + fld a 1 1) ((a.drop 16).take 16)).complete q .done

/-- EVT_NOTE (R654). -/
def execEvtNote (s : State) : Res := onDev Dev.evtNote s

/-! ### Tailboard allotment (R648) -/

/-- The allotment in the registers, line i in bits 4i + 3:4i. -/
def Dev.allotReg (d : Dev) : Nat := d.get R.TLB_ALLOT_LO_SRC + 2 ^ 32 * d.get R.TLB_ALLOT_HI_SRC

/-- The allotment in force. -/
def Dev.allot (d : Dev) : Nat := d.tlb.old.getD d.allotReg

/-- Lines of an allotment with a given source. -/
def allotCount (a src : Nat) : Nat := ((List.range 16).filter fun i => bits a (4 * i) 4 == src).length

/-- A written allotment word: a line whose value is not listed keeps its source (R9). -/
def allotMerge (old new : Nat) : Nat :=
  (List.range 8).foldl (fun acc i => acc + 2 ^ (4 * i) * (if bits new (4 * i) 4 ≤ 6 then bits new (4 * i) 4 else bits old (4 * i) 4)) 0

/-- A write of TLB_ALLOT: discarded whole where KEYJ or WAYB would get two lines, else in force from the next fleet cycle. -/
def Dev.allotWrite (d : Dev) (hi : Bool) (v : Nat) : Dev :=
  let lo' := if hi then d.get R.TLB_ALLOT_LO_SRC else allotMerge (d.get R.TLB_ALLOT_LO_SRC) v
  let hi' := if hi then allotMerge (d.get R.TLB_ALLOT_HI_SRC) v else d.get R.TLB_ALLOT_HI_SRC
  let a := lo' + 2 ^ 32 * hi'
  if 1 < allotCount a 3 || 1 < allotCount a 5 then d.raise R.TLB_STATUS_ALLOT_BAD
  else
    let d := { d with tlb := { d.tlb with old := some d.allot } }
    ((d.set R.TLB_ALLOT_LO_SRC lo').set R.TLB_ALLOT_HI_SRC hi').record 0x1302 (u64 a)

/-- TLB_ALLOT_WRITE (R648). -/
def execTlbAllotWrite (hi : Bool) (v : Word32) (s : State) : Res := onReg R.TLB_ALLOT_LO_SRC (fun d => d.allotWrite hi v.toNat) s

end Sys2Proof.Machine
end

