-- ==== Sys2Proof/Machine/Brake.lean ====
section
/-!
DEFINITION. Stops, drag sources, holds and the voiding of authorities (R324-R326, R339, R341, R343), and what waits for a
drawbar copy to be acknowledged (R295, R307, R394).
-/

namespace Sys2Proof.Machine

/-! ### Drawbar copies -/

/-- A ready standby exists: paired, holding the reins, and the partner reports READY (R31, R633). -/
def Dev.partnerReady (d : Dev) : Bool := d.on R.PAIR_STATUS_PAIRED && d.on R.PAIR_STATUS_PARTNER_READY && d.reins

/-- There is a standby: paired, with the reins, and the partner's last HELLO names it standby. -/
def Dev.standbyThere (d : Dev) : Bool := d.on R.PAIR_STATUS_PAIRED && d.reins && d.pair.role == 2

/-- The standby has acknowledged a copy, or there is none. -/
def Dev.copyAcked (d : Dev) (n : Nat) : Bool := !d.standbyThere || n ≤ d.get R.PAIR_ACKED_COPY_NO

/-- The number of the next copy, the first to hold what happens now (R614). -/
def Dev.nextCopy (d : Dev) : Nat := d.get R.PAIR_COPY_COPY_NO + 1

/-- Nothing waits for copy `n`: there is no ready standby, or it has acknowledged it. -/
def Dev.copySafe (d : Dev) (n : Nat) : Bool := !d.partnerReady || n ≤ d.get R.PAIR_ACKED_COPY_NO

/-! ### Machines under supervision -/

/-- Supervision state of a machine. -/
def Dev.brkM (d : Dev) (m : Nat) : BrkM := tabGet d.brk.m m

/-- The machine has an individual stop outstanding (R339). -/
def Dev.stopped (d : Dev) (m : Nat) : Bool := d.bit R.BRK_STOP_STOP (m % 32) (m / 32)

/-- Whole-cell drag is asserted (R341). -/
def Dev.cellDrag (d : Dev) : Bool := d.get R.BRK_SRC_SRC != 0

/-- The authority that is not void, if the machine holds one. -/
def Dev.authOf (d : Dev) (m : Nat) : Option Auth := (d.brkM m).auth

/-- A hold of R265 or R344 stands. -/
def Dev.globalHold (d : Dev) : Bool := d.on R.RAD_STATUS_HOLD_EOA || d.brk.wdHold

/-- Authorities are withheld from the machine (R324). The hold of R328 does not withhold the re-issue that carries it. -/
def Dev.withheld (d : Dev) (m : Nat) : Bool :=
  let b := d.brkM m
  d.stopped m || d.cellDrag || d.globalHold ||
    (match b.call with
     | some c => (b.fallHold && b.auth.isSome && c.kind != .fall && c.kind != .rise) || !d.copySafe c.copy
     | none => false)

/-- Refresh what BRK_MACH and BRK_STATUS show of a machine. -/
def Dev.brkView (d : Dev) (m : Nat) : Dev :=
  let b := d.brkM m
  let d := (d.put R.BRK_MACH_VOID b.auth.isNone m).put R.BRK_MACH_HOLD (b.auth.isSome && (b.fallHold || d.globalHold)) m
  let d := d.put R.BRK_MACH_WITHHELD (b.call.isSome && d.withheld m) m
  d.set R.BRK_STATUS_AUTHS ((d.brk.m.filter fun p => p.2.auth.isSome).length)

/-- Replace a machine's supervision state. -/
def Dev.brkSet (d : Dev) (m : Nat) (b : BrkM) : Dev := { d with brk := { d.brk with m := tabPut d.brk.m m b } }.brkView m

/-- Refresh every machine's view. -/
def Dev.brkViewAll (d : Dev) : Dev := d.brk.m.foldl (fun (d : Dev) (p : Nat × BrkM) => d.brkView p.1) d

/-- A machine's authority becomes void (R325); a re-issue that waits for it has nothing left to re-issue. -/
def Dev.voidAuth (d : Dev) (m : Nat) : Dev :=
  let b := d.brkM m
  if b.auth.isNone && b.prev.isNone then d
  else
    let call := match b.call with
      | some c => if c.kind = .fall || c.kind = .rise then none else some c
      | none => none
    d.brkSet m { b with auth := none, prev := none, call := call, fallHold := false, perm := 0 }

/-- Every authority becomes void (R325). -/
def Dev.voidAll (d : Dev) : Dev := (d.brk.m.foldl (fun (d : Dev) (p : Nat × BrkM) => d.voidAuth p.1) d).brkViewAll

/-- A call for an authority replaces the one that waits (R324), and takes its place of arrival behind the others (R237). -/
def Dev.callAuth (d : Dev) (m : Nat) (c : Call) : Dev :=
  let d := { d with brk := { d.brk with order := d.brk.order.erase m ++ [m] } }
  d.brkSet m { d.brkM m with call := some { c with t := d.now } }

/-! ### Individual stops (R339) -/

/-- An individual stop is set: its first cause stays, the authority becomes void, event 0x0902. -/
def Dev.setStop (d : Dev) (m cause speed : Nat) : Dev :=
  if d.stopped m || 240 ≤ m then d
  else
    let perm := (d.brkM m).perm
    let d := (d.setBit R.BRK_STOP_STOP (m % 32) true (m / 32)).set R.BRK_MACH_CAUSE cause m
    let d := d.sat R.BRK_STATUS_STOPS (d.get R.BRK_STATUS_STOPS + 1)
    (((d.voidAuth m).brkView m).record 0x0902 (u8 m ++ u8 cause ++ u16 speed ++ u16 perm))

/-- The speed a machine last reported. -/
def Dev.lastSpeed (d : Dev) (m : Nat) : Nat := (tabGet d.rsv.upl m).speed

/-- An individual stop is released (R340). -/
def Dev.clearStop (d : Dev) (m : Nat) : Dev :=
  let d := (d.setBit R.BRK_STOP_STOP (m % 32) false (m / 32)).set R.BRK_MACH_CAUSE 0 m
  ((d.set R.BRK_STATUS_STOPS (d.get R.BRK_STATUS_STOPS - 1)).brkView m).record 0x0903 (u8 m)

/-! ### Whole-cell drag (R341, R343, R36) -/

/-- DRAG_OUT of a device without the reins follows its drag inputs, and of a lapsed one holds (R38, R55). -/
def Dev.dragOutFollow (d : Dev) : Dev :=
  if d.reins || d.get R.PAIR_STATUS_ROLE == 3 || !d.on R.PAIR_STATUS_PAIRED then d
  else d.put R.BRK_STATUS_DRAG_OUT (d.on R.BRK_IN_A || d.on R.BRK_IN_B)

/-- A drag source is set or released: event 0x0901 where the set changes; whole-cell drag voids every authority and, with
the reins, asserts DRAG_OUT. After the last release DRAG_OUT waits for the fleet cycle boundary, and the whole-cell frames
for the copy that shows it (R36, R343). -/
def Dev.setSrc (d : Dev) (k : Nat) (b : Bool) : Dev :=
  let old := d.get R.BRK_SRC_SRC
  let new := putBit old k b
  if new = old then d
  else
    let d := (d.set R.BRK_SRC_SRC new).record 0x0901 (u8 old ++ u8 new)
    if old = 0 then
      let d := { (d.set R.BRK_STATUS_CELL_DRAG 1) with brk := { d.brk with relCopy := none } }
      let d := if d.reins || !d.on R.PAIR_STATUS_PAIRED then d.set R.BRK_STATUS_DRAG_OUT 1 else d
      d.voidAll
    else if new = 0 then
      let c := if d.standbyThere then some d.nextCopy else none
      { (d.set R.BRK_STATUS_CELL_DRAG 0) with brk := { d.brk with relCopy := c } }.brkViewAll
    else d

/-- DRAG_OUT at a fleet cycle boundary (R343): released once no source is left, on the device that holds the reins. -/
def Dev.dragOutBoundary (d : Dev) : Dev :=
  if d.reins && !d.cellDrag then d.set R.BRK_STATUS_DRAG_OUT 0 else d

/-- The whole-cell frame goes on the air in a drag slot (R34, R36, R345). -/
def Dev.wholeCell (d : Dev) : Bool :=
  d.cellDrag || (match d.brk.relCopy with | some n => !d.copyAcked n | none => false)

end Sys2Proof.Machine
end

