-- ==== Sys2Proof/Machine/Rsv.lean ====
section
/-!
DEFINITION. The track map and segment reservation (R281-R319): map entries, evaluation of route requests, grants,
releases, intrusions, axis preconditions, the queue and the parked requests.
-/

namespace Sys2Proof.Machine

/-! ### Map entries (R281, R282) -/

/-- The entry of a segment in a map; one never loaded is all zeros. -/
def mapEnt (t : Tab (List Byte)) (s : Nat) : List Byte := (tabFind t s).getD (zeros 32)
/-- FLAGS bit 0. -/
def eValid (e : List Byte) : Bool := bitOf (fld e 0 1) 0
/-- FLAGS bit 1. -/
def eCreep (e : List Byte) : Bool := bitOf (fld e 0 1) 1
/-- FLAGS bit 2. -/
def eOneWay (e : List Byte) : Bool := bitOf (fld e 0 1) 2
/-- FLAGS bit 3. -/
def eBound (e : List Byte) : Bool := bitOf (fld e 0 1) 3
/-- LEN, cm. -/
def eLen (e : List Byte) : Nat := fld e 2 2
/-- The conflict groups listed. -/
def eGroups (e : List Byte) : List Nat := (List.range (min 4 (fld e 1 1 % 8))).map fun i => fld e (8 + 2 * i) 2 % 512
/-- The axis preconditions in use: axis, window. -/
def eReq (e : List Byte) : List (Nat × Nat) :=
  ([fld e 6 1, fld e 7 1].filter fun b => bitOf b 7).map fun b => (b % 16, bits b 4 2)
/-- Link `i` at end `x`. -/
def eLink (e : List Byte) (x i : Nat) : Nat := fld e (16 + 4 * x + 2 * i) 2
/-- BID. -/
def eBid (e : List Byte) : Nat := fld e 24 2
/-- The VALID links at end `x`: segment, end. -/
def eLinks (e : List Byte) (x : Nat) : List (Nat × Nat) :=
  ([eLink e x 0, eLink e x 1].filter fun l => bitOf l 15).map fun l => (l % 2048, b2n (bitOf l 11))

/-- The active entry of a segment. -/
def Dev.ent (d : Dev) (s : Nat) : List Byte := mapEnt d.rsv.map s

/-- The boundary segment that carries a BID in the active map. -/
def Dev.bidSeg (d : Dev) (bid : Nat) : Option Nat := (d.rsv.map.find? fun p => eBound p.2 && eBid p.2 == bid).map fun p => p.1

/-- The map counts as loaded (R286). -/
def Dev.mapOk (d : Dev) : Bool := d.get R.RSV_MAP_VER_VER != 0 && d.rsv.map.any fun p => eValid p.2

/-! ### Reservation state (R287, R288, R291) -/

/-- The machine that holds a segment, 0xFF none. -/
def Dev.holder (d : Dev) (s : Nat) : Nat := d.get R.RSV_SEG_HOLDER s
/-- STATE of a segment (R287). -/
def Dev.segSt (d : Dev) (s : Nat) : Nat := d.get R.RSV_SEG_STATE s
/-- Segments held by a machine. -/
def Dev.heldBy (d : Dev) (m : Nat) : List Nat := d.rsv.held.filter fun s => d.holder s == m

/-- The machine is admitted (R280). -/
def Dev.admitted (d : Dev) (m : Nat) : Bool := m < 240 && d.bit R.RAD_ADMIT_VALID_VALID (m % 32) (m / 32)
/-- The serial admitted as a machine. -/
def Dev.serialOf (d : Dev) (m : Nat) : Nat := d.get R.RAD_ADMIT_LO_SERIAL_LO m + 2 ^ 32 * d.get R.RAD_ADMIT_HI_SERIAL_HI m

/-- joined(m) of R291: an uplink taken in this superframe or in one of the last three. -/
def Dev.joined (d : Dev) (m : Nat) : Bool :=
  d.admitted m && (match tabFind d.rsv.upl m with | some u => d.sfn ≤ u.sf + 3 | none => false)

/-- JOINED of a machine (R316). -/
def Dev.joinView (d : Dev) (m : Nat) : Dev := d.put R.RSV_MACH_JOINED (d.joined m) m

/-- JOINED of every machine that was ever heard. -/
def Dev.joinAll (d : Dev) : Dev := d.rsv.upl.foldl (fun (d : Dev) (p : Nat × Upl) => d.joinView p.1) d

/-- last_seg(m) of R291. -/
def Dev.lastSeg (d : Dev) (m : Nat) : Option Nat :=
  match tabFind d.rsv.upl m with
  | some u => if d.now ≤ u.t + second then some u.seg else none
  | none => none

/-- confirmed(a, w) of R291, as AXS reports it (R536). -/
def Dev.confirmed (d : Dev) (a w : Nat) : Bool := d.bit R.AXS_AX_WIN_CFG_CONF w a

/-- The state of a boundary segment (R306). -/
def Dev.boundOf (d : Dev) (bid : Nat) : Bound := tabGet d.rsv.bound bid

/-- LOCKED of each axis and REQUIRED of each window follow the held segments (R304). -/
def Dev.syncLocks (d : Dev) : Dev :=
  let l := d.rsv.held.flatMap fun s => eReq (d.ent s)
  (List.range 16).foldl (fun (d : Dev) (a : Nat) =>
    let ws := (l.filter fun p => p.1 == a).map fun p => p.2
    (d.put R.AXS_AX_STAT_LOCKED (!ws.isEmpty) a).set R.AXS_AX_WIN_CFG_REQUIRED (((List.range 4).filter fun w => ws.contains w).map fun w => 2 ^ w).sum a) d

/-- The axis is locked (R304). -/
def Dev.axLocked (d : Dev) (a : Nat) : Bool := d.on R.AXS_AX_STAT_LOCKED a

/-- A free segment comes to be held by a machine, and joins its groups (R288, R291). -/
def Dev.segTake (d : Dev) (s m st rid : Nat) : Dev :=
  let d := (((d.set R.RSV_SEG_HOLDER m s).set R.RSV_SEG_STATE st s).set R.RSV_SEG_ROUTE_ID rid s).sat R.RSV_MACH_HELD (d.get R.RSV_MACH_HELD m + 1) m
  let d := (eGroups (d.ent s)).foldl (fun (d : Dev) (g : Nat) => (d.set R.RSV_CG_HOLDER m g).set R.RSV_CG_COUNT (d.get R.RSV_CG_COUNT g + 1) g) d
  { d with rsv := { d.rsv with held := d.rsv.held ++ [s] } }.syncLocks

/-- A held segment loses its holder and takes a state (R303); its groups' counts fall. -/
def Dev.segDrop (d : Dev) (s st : Nat) : Dev :=
  let m := d.holder s
  let d := (((d.set R.RSV_SEG_HOLDER 0xFF s).set R.RSV_SEG_STATE st s).set R.RSV_SEG_ROUTE_ID 0 s).put R.RSV_SEG_CONF_LOST false s
  let d := d.set R.RSV_MACH_HELD (d.get R.RSV_MACH_HELD m - 1) m
  let d := (eGroups (d.ent s)).foldl (fun (d : Dev) (g : Nat) =>
    let n := d.get R.RSV_CG_COUNT g - 1
    let d := d.set R.RSV_CG_COUNT n g
    if n = 0 then d.set R.RSV_CG_HOLDER 0xFF g else d) d
  { d with rsv := { d.rsv with held := d.rsv.held.filter (fun x => x != s), path := tabPut d.rsv.path m ((tabGet d.rsv.path m).filter fun e => e.seg != s) } }.syncLocks

/-- The RSV_BOUND registers, and STATE of boundary segments no machine holds, follow the map and the boundary states
(R287, R306, R317). A BID with no state takes HOME_AT_START. -/
def Dev.syncBound (d : Dev) : Dev :=
  let l := d.rsv.map.filter fun p => eBound p.2
  let d := l.foldl (fun (d : Dev) (p : Nat × List Byte) =>
    match tabFind d.rsv.bound (eBid p.2) with
    | some _ => d
    | none => { d with rsv := { d.rsv with bound := tabPut d.rsv.bound (eBid p.2) { st := if bitOf (fld p.2 26 2) 15 then 0 else 1 } } }) d
  let d := l.foldl (fun (d : Dev) (p : Nat × List Byte) =>
    let st := (d.boundOf (eBid p.2)).st
    if d.holder p.1 != 0xFF then d
    else if st = 1 then (if d.segSt p.1 = 0 then d.set R.RSV_SEG_STATE 5 p.1 else d)
    else if d.segSt p.1 = 5 then d.set R.RSV_SEG_STATE 0 p.1 else d) d
  (List.range 64).foldl (fun (d : Dev) (i : Nat) =>
    match l[i]? with
    | some p =>
      let b := d.boundOf (eBid p.2)
      ((d.set R.RSV_BOUND_SEG p.1 i).set R.RSV_BOUND_STATE b.st i).set R.RSV_BOUND_SEQ b.seq i
    | none => ((d.set R.RSV_BOUND_SEG 0 i).set R.RSV_BOUND_STATE 0 i).set R.RSV_BOUND_SEQ 0 i) d

/-- A segment is released (R303): FREE, CLOSED from CLOSE_PENDING, FOREIGN when it was leaving. -/
def Dev.segFree (d : Dev) (s : Nat) : Dev :=
  let e := d.ent s
  if eBound e && (d.boundOf (eBid e)).st == 2 then
    let d := d.segDrop s 5
    { d with rsv := { d.rsv with bound := tabMod d.rsv.bound (eBid e) fun b => { b with st := 1 } } }.syncBound
  else d.segDrop s (if d.segSt s = 4 then 3 else 0)

/-! ### Evaluation (R291, R292) -/

/-- What an evaluation decides: REASON 0 for a grant, INDEX, BLOCK_SEG, BLOCK_MACH (R290). -/
structure Verdict where
  reason : Nat := 0
  index : Nat := 0xFF
  blockSeg : Nat := 0xFFFF
  blockMach : Nat := 0xFF
  deriving DecidableEq, Repr

/-- The two ends meet (R282). -/
def Dev.linked (d : Dev) (s x t y : Nat) : Bool := (eLinks (d.ent s) x).contains (t, y)

/-- The tests of one route element, in the order of R291; `none` where it passes. -/
def Dev.evalElem (d : Dev) (m n : Nat) (route : List (Nat × Nat)) (i : Nat) : Option Verdict :=
  let el := route.getD i (0, 0)
  let s := el.1
  let e := d.ent s
  let st := d.segSt s
  let h := d.holder s
  let at_ := fun (r : Nat) => some ({ reason := r, index := i, blockSeg := s } : Verdict)
  if !eValid e || st == 3 || st == 4 then at_ 3
  else if d.level == 2 && !eCreep e then at_ 2
  else if eOneWay e && el.2 != 0 then at_ 14
  else if eBound e && (d.boundOf (eBid e)).st != 0 then at_ 9
  else
    let place :=
      if i = 0 then
        if h != m && !(st == 0 && d.lastSeg m == some s) then some ({ reason := 8, index := i, blockSeg := s, blockMach := h } : Verdict) else none
      else
        let p := route.getD (i - 1) (0, 0)
        if !d.linked p.1 (1 - p.2) s el.2 then at_ 7
        else if eBound e && i + 1 != n then at_ 7
        else if st != 0 && h != m then some { reason := 4, index := i, blockSeg := s, blockMach := h }
        else none
    match place with
    | some v => some v
    | none =>
      match (eGroups e).find? (fun g => d.get R.RSV_CG_HOLDER g != 0xFF && d.get R.RSV_CG_HOLDER g != m) with
      | some g => some { reason := 5, index := i, blockSeg := s, blockMach := d.get R.RSV_CG_HOLDER g }
      | none => if (eReq e).all fun p => d.confirmed p.1 p.2 then none else at_ 6

/-- The procedure of R291. -/
def Dev.evaluate (d : Dev) (q : Req) : Verdict :=
  let n := q.route.length
  let last := q.route.getD (n - 1) (0, 0)
  if d.level ≤ 1 then { reason := 1 }
  else if d.on R.RSV_STATUS_GRANT_HOLD then { reason := 11 }
  else if !d.on R.RSV_STATUS_COMPARE_OK then { reason := 10 }
  else if !d.joined q.m then { reason := 12 }
  else match (List.range n).findSome? (d.evalElem q.m n q.route) with
    | some v => v
    | none =>
      if eLen (d.ent last.1) ≤ q.stopOfs then { reason := 15, index := n - 1, blockSeg := last.1 }
      else if 64 < d.get R.RSV_MACH_HELD q.m + (q.route.filter fun p => d.segSt p.1 == 0).length then { reason := 13 }
      else {}

/-! ### Grants -/

/-- The next ROUTE_ID: counted from 1, from 0xFFFF back to 1 (R290). -/
def Dev.nextRoute (d : Dev) : Nat := if d.rsv.routeId = 0xFFFF then 1 else d.rsv.routeId + 1

/-- A machine's path after a grant (R297): the elements it still holds before the start of the new route, then the route. -/
def newPath (old : List PathEl) (route : List (Nat × Nat)) : List PathEl :=
  let start := (route.headD (0, 0)).1
  let prior := if old.any fun e => e.seg == start then old.takeWhile fun e => e.seg != start else []
  (prior.filter fun e => !(route.any fun p => p.1 == e.seg)) ++ route.map fun p => { seg := p.1, entry := p.2 }

/-- A request is granted (R291, R295). -/
def Dev.grant (d : Dev) (q : Req) : Dev :=
  let rid := d.nextRoute
  let ls := d.lastSeg q.m
  let d := { d with rsv := { d.rsv with routeId := rid, path := tabPut d.rsv.path q.m (newPath (tabGet d.rsv.path q.m) q.route) } }
  let d := q.route.zipIdx.foldl (fun (d : Dev) (p : (Nat × Nat) × Nat) =>
    let s := p.1.1
    if d.segSt s == 0 then d.segTake s q.m (if p.2 = 0 && ls == some s then 2 else 1) rid else d.set R.RSV_SEG_ROUTE_ID rid s) d
  let d := d.inc R.RSV_COUNTS_GRANTS
  let d := { d with brk := { d.brk with m := tabMod d.brk.m q.m fun b => { b with gcopy := d.nextCopy } } }
  if q.auth then d.callAuth q.m { kind := .grant, routeId := rid, route := q.route, stopOfs := q.stopOfs, copy := d.nextCopy } else d

/-- The result of R290. -/
def reqResult (rid : Nat) (v : Verdict) (t : Nat) : List Byte :=
  u16 rid ++ u8 v.reason ++ u8 v.index ++ u16 v.blockSeg ++ u8 v.blockMach ++ u8 0 ++ u64 t

/-- A route request ends: a ROUTE descriptor gets its result and its status, a waybill's goes to the engine's port. -/
def Dev.reqEnd (d : Dev) (q : Req) (st : Status) (rid : Nat) (v : Verdict) : Dev :=
  let d := if st = .noGrant then d.inc R.RSV_COUNTS_REFUSALS else d
  match q.desc, q.wb with
  | some x, _ =>
    let d := if st = .done || st = .noGrant || st = .timeout then d.toHost (fld x.bytes 32 8) (reqResult rid v d.now) else d
    d.complete x st
  | none, some i =>
    let out := match st with | .done => 0 | .noGrant => 1 | .timeout => 2 | _ => 3
    { d with wb := { d.wb with port := d.wb.port ++ [.route i q.no out v.reason] } }
  | none, none => d

/-- The counts the status register shows. -/
def Dev.rsvCounts (d : Dev) : Dev :=
  (d.set R.RSV_STATUS_QUEUE d.rsv.queue.length).set R.RSV_STATUS_PARKED d.rsv.parked.length

/-- A refusal that parks (R293). -/
def parks (r : Nat) : Bool := r == 4 || r == 5 || r == 6

/-- Carry out a decision on a request that is parked already, or (`fresh`) at its first evaluation. -/
def Dev.reqDecide (d : Dev) (q : Req) (v : Verdict) (fresh : Bool) : Dev :=
  if v.reason = 0 then
    let rid := d.nextRoute
    (d.grant q).reqEnd q .done rid v
  else if parks v.reason && q.wait && (!fresh || d.rsv.parked.length < 64) then
    let q := { q with reason := v.reason, index := v.index, blockSeg := v.blockSeg, blockMach := v.blockMach }
    let q := if fresh then { q with since := d.now } else q
    { d with rsv := { d.rsv with parked := d.rsv.parked ++ [q] } }
  else d.reqEnd q .noGrant 0 v

/-- The pass over the parked requests, in order of arrival (R293). -/
def Dev.parkedPass (d : Dev) : Dev :=
  if d.on R.RSV_STATUS_GRANT_HOLD || d.rsv.parked.isEmpty || d.paused 1 then d
  else
    let l := d.rsv.parked
    let d := { d with rsv := { d.rsv with parked := [] } }
    (l.foldl (fun (d : Dev) (q : Req) => d.reqDecide q (d.evaluate q) false) d).rsvCounts

/-! ### Two engines (R308-R310) -/

/-- The engine pair goes out of comparison (R310). -/
def Dev.engLost (d : Dev) (cause word : Nat) : Dev :=
  if !d.on R.RSV_STATUS_COMPARE_OK then d
  else (((d.set R.RSV_STATUS_COMPARE_OK 0).raise R.RSV_ENG_MISMATCH).set R.RSV_ENG_CAUSE cause).record 0x0801 (u8 cause ++ u16 word)

/-- The whole of the two copies is compared, once per fleet cycle (R310). -/
def Dev.engCompare (d : Dev) (e : EngObs) : Dev :=
  match e with
  | .agree => d
  | .repaired k w => (d.inc R.RSV_ENG_ECC_FIX).record 0x0802 (u8 k ++ u16 w)
  | .uncorrectable w => d.engLost 1 w
  | .mismatch w => d.engLost 2 w
  | .selfCheck => d.engLost 3 0

/-! ### ROUTE (R289, R294) -/

/-- The elements read from host memory. -/
def routeEls (b : List Byte) (n : Nat) : List Nat := (List.range n).map fun i => fld b (2 * i) 2

/-- A list of segments holds none twice. -/
def noDup (l : List Nat) : Bool := match l with | [] => true | x :: t => !t.contains x && noDup t

/-- The ROUTE descriptor's own fields are well formed (R294). -/
def routeAreaOk (a : List Byte) : Bool :=
  resvOk a [(0, 5), (6, 18)] && fld a 1 1 < 240 && 1 ≤ fld a 2 1 && fld a 2 1 ≤ 32 && fld a 3 1 < 4 &&
    (if bitOf (fld a 3 1) 0 then fld a 4 1 != 0 else fld a 4 1 == 0) && fld a 8 8 % 16 == 0 && fld a 16 8 % 16 == 0

/-- A request joins the queue. -/
def Dev.rsvEnqueue (d : Dev) (q : Req) : Dev :=
  { d with rsv := { d.rsv with queue := d.rsv.queue ++ [{ q with no := d.rsv.nextReq }], nextReq := d.rsv.nextReq + 1 } }.rsvCounts

/-- ROUTE on a taken descriptor. -/
def Dev.routeTake (d : Dev) (q : Desc) (mem : Option (List Byte)) : Dev :=
  let a := q.area
  let n := fld a 2 1
  if !routeAreaOk a then d.complete q .badDescriptor
  else match mem with
    | none =>
      if !d.reins then d.complete q .notHoldingReins
      else if !q.gate || !d.mapOk then d.complete q .refusedState
      else d.complete q .aborted
    | some b =>
      let l := routeEls b n
      let route := l.map fun w => (w % 2048, b2n (bitOf w 11))
      let last := d.ent ((route.getLastD (0, 0)).1)
      if (l.any fun w => 4096 ≤ w) || !noDup (route.map fun p => p.1) || (eValid last && eLen last ≤ fld a 6 2) then d.complete q .badDescriptor
      else if !d.reins then d.complete q .notHoldingReins
      else if !q.gate || !d.mapOk then d.complete q .refusedState
      else d.rsvEnqueue { m := fld a 1 1, route := route, stopOfs := fld a 6 2, wait := bitOf (fld a 3 1) 0, auth := bitOf (fld a 3 1) 1, timeout := fld a 4 1, desc := some q }

/-- ROUTE (R289). -/
def execRoute (mem : Option (List Byte)) (s : State) : Res :=
  onDev (fun d => match d.take 0x08 1 with | some (q, d) => d.routeTake q mem | none => d) s

/-- Both engines evaluate the request at the head of the queue (R291, R294, R309). Requests wait while a commit is being
applied (R285). -/
def Dev.routeEvaluate (d : Dev) (e : EngObs) : Dev :=
  match d.rsv.queue with
  | [] => d
  | q :: rest =>
    if d.rsv.commit.isSome || d.paused 1 then d
    else
      let d := { d with rsv := { d.rsv with queue := rest } }
      (match e with
       | .agree => d.reqDecide q (d.evaluate q) true
       | .uncorrectable w => (d.engLost 1 w).reqEnd q .eccUncorrectable 0 {}
       | .repaired k w => ((d.engCompare (.repaired k w)).reqDecide q (d.evaluate q) true)
       | .mismatch w => (d.engLost 4 w).reqEnd q .noGrant 0 { reason := 10 }
       | .selfCheck => (d.engLost 3 0).reqEnd q .noGrant 0 { reason := 10 }).rsvCounts

/-- PARKED_TIMEOUT (R293). -/
def Dev.parkedTimeout (d : Dev) (no : Nat) : Dev :=
  match d.rsv.parked.find? (fun q => q.no == no) with
  | none => d
  | some q =>
    let d := d.passTo (q.since + q.timeout * superframe)
    let d := { d with rsv := { d.rsv with parked := d.rsv.parked.filter fun x => x.no != no } }
    (d.reqEnd q .timeout 0 { reason := q.reason, index := q.index, blockSeg := q.blockSeg, blockMach := q.blockMach }).rsvCounts

/-- The grant hold of R296 ends when slot 346 has ended in the first whole superframe after the takeover. -/
def Dev.grantHoldEnd (d : Dev) : Dev :=
  if d.on R.RSV_STATUS_GRANT_HOLD then ((d.passTo (d.rsv.holdSf * superframe + 347 * slotLen)).set R.RSV_STATUS_GRANT_HOLD 0).parkedPass else d

/-! ### The map (R284, R285) -/

/-- MAP_LOAD (R319). -/
def Dev.mapLoad (d : Dev) (q : Desc) (mem : Option (List Byte)) : Dev :=
  let a := q.area
  let first := fld a 2 2
  let n := fld a 4 2
  if !resvOk a [(0, 1), (2, 4), (8, 8)] || n = 0 || 2048 < first + n || fld a 8 8 % 16 != 0 then d.complete q .badDescriptor
  else if !d.reins then d.complete q .notHoldingReins
  else match mem with
    | none => d.complete q .aborted
    | some b =>
      let t := (List.range n).foldl (fun t i =>
        let e := fit 32 (b.drop (32 * i))
        if e = zeros 32 then tabDel t (first + i) else tabPut t (first + i) e) d.rsv.shadow
      { d with rsv := { d.rsv with shadow := t } }.complete q .done

/-- MAP_LOAD (R319). While a commit waits for its boundary a load waits too, so that what is applied is what was checked (R284; DEDUCED, log entry 90). -/
def execMapLoad (mem : Option (List Byte)) (s : State) : Res :=
  onDev (fun d => if d.rsv.commit.isSome then d else match d.take 0x08 5 with | some (q, d) => d.mapLoad q mem | none => d) s

/-- The reserved fields of an entry are 0, and unused ones too (R284). -/
def entResvOk (e : List Byte) : Bool :=
  fld e 0 1 < 16 && fld e 1 1 ≤ 4 && !bitOf (fld e 6 1) 6 && !bitOf (fld e 7 1) 6 &&
    ((List.range 4).all fun i => if i < fld e 1 1 then fld e (8 + 2 * i) 2 < 512 else fld e (8 + 2 * i) 2 == 0) &&
    ((List.range 4).all fun k => bits (fld e (16 + 2 * k) 2) 12 3 == 0) && zeroAt e 28 4 && bits (fld e 26 2) 9 6 == 0 &&
    (eBound e || (eBid e == 0 && fld e 26 2 == 0))

/-- The links of an entry hold (R282, R284). -/
def entLinksOk (t : Tab (List Byte)) (s : Nat) (e : List Byte) : Bool :=
  [0, 1].all fun x =>
    let l := eLinks e x
    noDup (l.map fun p => p.1) && l.all fun p => p.1 != s && eValid (mapEnt t p.1) && (eLinks (mapEnt t p.1) p.2).contains (s, x)

/-- An entry meets every rule of R284; `before` are the boundary segments below it. -/
def entOk (t : Tab (List Byte)) (cell : Nat) (s : Nat) (e : List Byte) : Bool :=
  entResvOk e && entLinksOk t s e && (!eOneWay e || !(eLinks e 1).isEmpty) &&
    (!eBound e || (eBid e != 0 && !(t.any fun p => p.1 != s && eBound p.2 && eBid p.2 == eBid e) && fld e 26 2 % 512 != cell &&
      (eLinks e 0).length + (eLinks e 1).length ≤ 1 && (t.filter fun p => eBound p.2 && p.1 < s).length < 64))

/-- The first shadow entry that breaks a rule of R284. -/
def Dev.mapBreak (d : Dev) : Option Nat :=
  (d.rsv.shadow.find? fun p => !entOk d.rsv.shadow (d.get R.RAD_CELL_CFG_CELL) p.1 p.2).map fun p => p.1

/-- A changed segment, or one that shares a group with it, is held (R285). -/
def Dev.commitHeld (d : Dev) : Bool :=
  let ks := (d.rsv.shadow ++ d.rsv.map).map fun p => p.1
  ks.any fun s =>
    let o := d.ent s
    let n := mapEnt d.rsv.shadow s
    o != n && (d.holder s != 0xFF || (eGroups o ++ eGroups n).any fun g => d.get R.RSV_CG_HOLDER g != 0xFF)

/-- A commit is refused (R285); its result names no segment (R319). -/
def Dev.commitRefuse (d : Dev) (q : Desc) : Dev := (d.toHost (fld q.area 8 8) (u16 0xFFFF)).complete q .refusedState

/-- MAP_COMMIT on a taken descriptor: the checks at fetch (R284, R285). -/
def Dev.mapCommit (d : Dev) (q : Desc) : Dev :=
  let a := q.area
  if !resvOk a [(0, 1), (4, 12)] || fld a 4 4 = 0 then d.complete q .badDescriptor
  else if !d.reins then d.complete q .notHoldingReins
  else match d.mapBreak with
    | some s => (d.toHost (fld a 8 8) (u16 s)).complete q .badDescriptor
    | none =>
      if d.commitHeld then d.commitRefuse q
      else { d with rsv := { d.rsv with commit := some (q, d.now) } }.set R.RSV_STATUS_COMMIT_BUSY 1

/-- MAP_COMMIT (R284): one commit at a time. -/
def execMapCommit (s : State) : Res :=
  onDev (fun d => if d.rsv.commit.isSome then d else match d.take 0x08 6 with | some (q, d) => d.mapCommit q | none => d) s

/-- Before a new map: what is FOREIGN is FREE until the new map's boundary segments say otherwise (R287, R306). -/
def Dev.foreignFree (d : Dev) : Dev :=
  d.rsv.map.foldl (fun (d : Dev) (p : Nat × List Byte) => if d.segSt p.1 = 5 then d.set R.RSV_SEG_STATE 0 p.1 else d) d

/-- MAP_COMMIT_APPLY: at the fleet cycle boundary the second test, then the new map in both engines and MRAM (R285). -/
def Dev.mapApply (d : Dev) : Dev :=
  match d.rsv.commit with
  | none => d
  | some (q, t) =>
    let d := (d.passTo ((t / fleetCycle + 1) * fleetCycle)).set R.RSV_STATUS_COMMIT_BUSY 0
    let d := { d with rsv := { d.rsv with commit := none } }
    if d.commitHeld then d.commitRefuse q
    else
      let v := fld q.area 4 4
      let d := d.foreignFree
      let d := ({ d with rsv := { d.rsv with map := d.rsv.shadow, mapBad := false } }.set R.RSV_MAP_VER_VER v).trialWrite 1
      let d := (d.put R.RSV_STATUS_MAP_OK d.mapOk).syncBound
      ((d.record 0x0804 (u32 v)).toHost (fld q.area 8 8) (u16 0xFFFF)).complete q .done

/-- MAP_COMMIT_APPLY (R285). -/
def execMapCommitApply (s : State) : Res := onRun .safe Dev.mapApply s

/-- MAP_CRC_CHECK (R308): once per second both engines check the map's CRC-32; a failure is a failed self-check. -/
def execMapCrcCheck (ok : Bool) (s : State) : Res := onRun .safe (fun d => if ok then d else d.engLost 3 0) s

/-! ### Uplinks: occupation, intrusion, release (R297-R299) -/

/-- The segment a machine reports becomes OCCUPIED, and the one before it RESERVED (R298). -/
def Dev.occupy (d : Dev) (m s : Nat) : Dev :=
  let d := (d.heldBy m).foldl (fun (d : Dev) (k : Nat) => if k != s && d.segSt k == 2 then d.set R.RSV_SEG_STATE 1 k else d) d
  if d.holder s == m && d.segSt s == 1 then d.set R.RSV_SEG_STATE 2 s else d

/-- An uplink outside the machine's reservation (R299). Cause 7 is INTRUSION. -/
def Dev.intrusion (d : Dev) (m s speed : Nat) : Dev :=
  let e := d.ent s
  let h := if s < 2048 then d.holder s else 0xFF
  let others := ((h :: (eGroups e).map fun g => d.get R.RSV_CG_HOLDER g).filter fun n => n != 0xFF && n != m).eraseDups
  let d := d.record 0x0803 (u8 m ++ u16 s ++ u8 (others.headD 0xFF))
  if 2048 ≤ s || !eValid e then d.setStop m 7 speed
  else if !others.isEmpty then (m :: others).foldl (fun (d : Dev) (n : Nat) => d.setStop n 7 (if n = m then speed else d.lastSpeed n)) d
  else if d.segSt s == 0 then (d.segTake s m 2 0).setStop m 7 speed
  else d.setStop m 7 speed

/-- Distance in cm from the exit end of path element `k` to a point on element `i` (R297). -/
def Dev.clearDist (d : Dev) (p : List PathEl) (k i ofs : Nat) : Nat :=
  let e := p.getD i {}
  let between := (((p.take i).drop (k + 1)).map fun x => eLen (d.ent x.seg)).sum
  between + (if e.entry = 0 then ofs else eLen (d.ent e.seg) - ofs)

/-- The clear counts of a machine's path after a counting uplink on element `i` (R297). -/
def Dev.countClear (d : Dev) (m : Nat) (p : List PathEl) (i ofs sigma : Nat) : List PathEl :=
  let need := d.get R.RSV_MACH_REAR m + 3 * sigma + d.get R.RSV_CFG_REL_MARGIN
  p.zipIdx.map fun x => if x.2 < i && need ≤ d.clearDist p x.2 i ofs then { x.1 with n := x.1.n + 1 } else { x.1 with n := 0 }

/-- Release behind the machine (R297). -/
def Dev.release (d : Dev) (m : Nat) (u : Upl) : Dev :=
  let p := tabGet d.rsv.path m
  match p.findIdx? (fun e => e.seg == u.seg) with
  | none => d
  | some i =>
    if d.get R.RSV_CFG_MAX_AGE * 10 < u.age || d.paused 1 then d
    else
      let p := d.countClear m p i u.ofs u.sigma
      let d := { d with rsv := { d.rsv with path := tabPut d.rsv.path m p } }
      let gone := p.takeWhile fun e => d.get R.RSV_CFG_RELEASE_N ≤ e.n
      if gone.isEmpty then d else (gone.foldl (fun (d : Dev) (e : PathEl) => d.segFree e.seg) d).parkedPass

/-! ### SHORTEN and EVICT (R300, R301) -/

/-- Sequence `a` is at or above `b` (R322). -/
def seqGe (a b : Nat) : Bool := (a + 65536 - b) % 65536 < 32768

/-- Index of the segment a machine occupies on its path, 0 where it occupies none. -/
def Dev.occIdx (d : Dev) (m : Nat) : Nat := ((tabGet d.rsv.path m).findIdx? fun e => d.segSt e.seg == 2).getD 0

/-- The route of a SHORTEN's authority: that of the grant that waits, or of the authority, or the path, up to LAST_SEG. -/
def Dev.shortRoute (d : Dev) (m last : Nat) : Nat × List (Nat × Nat) :=
  let b := d.brkM m
  let upTo := fun (l : List (Nat × Nat)) => (l.takeWhile fun p => p.1 != last) ++ l.filter fun p => p.1 == last
  let has := fun (l : List (Nat × Nat)) => l.any fun p => p.1 == last
  let rc := match b.call with | some c => (c.routeId, c.route) | none => (0, [])
  let ra := match b.auth with | some a => (a.routeId, a.els.map fun (e : AuthEl) => (e.seg, e.entry)) | none => (0, [])
  if has rc.2 then (rc.1, upTo rc.2)
  else if has ra.2 then (ra.1, upTo ra.2)
  else
    let l := upTo ((tabGet d.rsv.path m).map fun e => (e.seg, e.entry))
    (d.get R.RSV_SEG_ROUTE_ID last, l.drop (l.length - 32))

/-- SHORTEN on a taken descriptor (R300). -/
def Dev.shorten (d : Dev) (q : Desc) : Dev :=
  let a := q.area
  let m := fld a 1 1
  let last := fld a 2 2
  let p := tabGet d.rsv.path m
  if !resvOk a [(0, 4)] || 240 ≤ m || 2048 ≤ last || !((p.drop (d.occIdx m)).any fun e => e.seg == last) then d.complete q .badDescriptor
  else if !d.reins then d.complete q .notHoldingReins
  else if (d.authOf m).isNone then d.complete q .refusedState
  else
    let d := match tabFind d.rsv.short m with | some o => d.complete o.desc .aborted | none => d
    let r := d.shortRoute m last
    let d := { d with rsv := { d.rsv with short := tabPut d.rsv.short m { desc := q, last := last, since := d.sfn } } }
    d.callAuth m { kind := .shorten, routeId := r.1, route := r.2, copy := (d.brkM m).gcopy }

/-- SHORTEN (R300). -/
def execShorten (s : State) : Res :=
  onDev (fun d => match d.take 0x08 2 with | some (q, d) => d.shorten q | none => d) s

/-- A taken uplink may let a SHORTEN release the segments beyond LAST_SEG (R300). -/
def Dev.shortUplink (d : Dev) (m : Nat) (u : Upl) : Dev :=
  match tabFind d.rsv.short m with
  | none => d
  | some x =>
    let p := tabGet d.rsv.path m
    let k := p.findIdx? fun e => e.seg == x.last
    let i := p.findIdx? fun e => e.seg == u.seg
    match x.seq, k, i with
    | some sq, some k, some i =>
      if seqGe u.authSeq sq && i ≤ k then
        let d := { d with rsv := { d.rsv with short := tabDel d.rsv.short m } }
        let d := (p.drop (k + 1)).foldl (fun (d : Dev) (e : PathEl) => d.segFree e.seg) d
        d.parkedPass.complete x.desc .done
      else d
    | _, _, _ => d

/-- SHORTEN_TIMEOUT (R300). -/
def Dev.shortTimeout (d : Dev) (m : Nat) : Dev :=
  match tabFind d.rsv.short m with
  | none => d
  | some x =>
    let d := d.passTo ((x.since + d.get R.RSV_CFG_SHORTEN_T) * superframe)
    { d with rsv := { d.rsv with short := tabDel d.rsv.short m } }.complete x.desc .timeout

/-- SHORTEN_TIMEOUT (R300). -/
def execShortenTimeout (m : Nat) (s : State) : Res := onRun .safe (fun d => d.shortTimeout m) s

/-- EVICT on a taken descriptor (R301); the engine loses the machine (R386). -/
def Dev.evict (d : Dev) (q : Desc) : Dev :=
  let a := q.area
  let m := fld a 1 1
  if !resvOk a [(0, 2)] || 240 ≤ m then d.complete q .badDescriptor
  else if !d.reins then d.complete q .notHoldingReins
  else if (d.authOf m).isSome || !d.stopped m then d.complete q .refusedState
  else
    let l := d.heldBy m
    let d := l.foldl (fun (d : Dev) (s : Nat) => d.segFree s) d
    let d := d.record 0x0807 (u8 m ++ u8 l.length)
    let d := { d with rsv := { d.rsv with path := tabDel d.rsv.path m }, wb := { d.wb with port := d.wb.port ++ [WbIn.lost m 2] } }
    d.parkedPass.complete q .done

/-! ### Closing and opening (R302) -/

/-- The oldest handed descriptor of an OP, taken only where it satisfies `p`: rows that share an OP tell themselves apart
by its ACTION. -/
def Dev.takeIf (d : Dev) (block op : Nat) (p : Desc → Bool) : Option (Desc × Dev) :=
  if !d.runs .sup then none
  else match d.ring.handed.find? (fun q => q.block == block && q.op == op) with
  | some q => if p q then some (q, { d with ring := { d.ring with handed := d.ring.handed.filter fun x => x.no != q.no } }) else none
  | none => none

/-- The fields of a CLOSE descriptor are well formed. -/
def closeOk (a : List Byte) : Bool := resvOk a [(0, 4)] && fld a 1 1 < 2 && fld a 2 2 < 2048

/-- CLOSE with ACTION close. -/
def Dev.segClose (d : Dev) (q : Desc) : Dev :=
  let s := fld q.area 2 2
  if !closeOk q.area then d.complete q .badDescriptor
  else if !d.reins then d.complete q .notHoldingReins
  else
    let st := d.segSt s
    let d := if d.holder s != 0xFF then d.set R.RSV_SEG_STATE 4 s else if st = 0 then d.set R.RSV_SEG_STATE 3 s else d
    d.parkedPass.complete q .done

/-- CLOSE with ACTION open. -/
def Dev.segOpen (d : Dev) (q : Desc) : Dev :=
  let s := fld q.area 2 2
  if !closeOk q.area then d.complete q .badDescriptor
  else if !d.reins then d.complete q .notHoldingReins
  else
    let st := d.segSt s
    let e := d.ent s
    if st != 3 && st != 4 then d.complete q .refusedState
    else
      let m := d.holder s
      let st2 := if st = 3 then 0
        else if eBound e && (d.boundOf (eBid e)).st == 2 then 6
        else if (match tabFind d.rsv.upl m with | some u => u.seg == s | none => false) then 2 else 1
      (d.set R.RSV_SEG_STATE st2 s).syncBound.parkedPass.complete q .done

/-! ### Boundary transfers (R306, R307) -/

/-- The XFER area is well formed (R307, R319). -/
def xferOk (a : List Byte) : Bool :=
  resvOk a [(0, 16)] && fld a 1 1 < 4 && (fld a 4 1 < 240 || fld a 4 1 == 0xFF) && fld a 5 1 < 2 && fld a 8 8 % 16 == 0

/-- A record of R307. -/
def Dev.xferRec (d : Dev) (bid seg seq serial : Nat) : List Byte :=
  u16 bid ++ u16 (d.get R.RAD_CELL_CFG_CELL) ++ u16 (fld (d.ent seg) 26 2 % 512) ++ u16 seq ++ u64 serial

/-- A boundary segment takes a state and SEQ, with event 0x0806. -/
def Dev.boundSet (d : Dev) (bid act : Nat) (b : Bound) : Dev :=
  ({ d with rsv := { d.rsv with bound := tabPut d.rsv.bound bid b } }.syncBound).record 0x0806 (u16 bid ++ u8 act ++ u16 b.seq)

/-- The record and the completion of an OUT leave once the standby has the new state (R307). -/
def Dev.xferOutEnd (d : Dev) (q : Desc) (rec : List Byte) : Dev :=
  if d.copySafe d.nextCopy then (d.toHost (fld q.area 8 8) rec).complete q .done
  else { d with wb := { d.wb with heldRecs := d.wb.heldRecs ++ [(d.nextCopy, q, 0, fld q.area 8 8, rec)] } }

/-- XFER OUT (R306). -/
def Dev.xferOut (d : Dev) (q : Desc) : Dev :=
  let a := q.area
  let bid := fld a 2 2
  if !xferOk a then d.complete q .badDescriptor
  else if !d.reins then d.complete q .notHoldingReins
  else match d.bidSeg bid with
    | none => d.complete q .refusedState
    | some s =>
      let b := d.boundOf bid
      let m := d.holder s
      let seq := (b.seq + 1) % 65536
      if b.st != 0 then d.complete q .refusedState
      else if m = 0xFF then
        if d.segSt s != 0 then d.complete q .refusedState
        else (d.boundSet bid 0 { b with st := 1, seq := seq }).xferOutEnd q (d.xferRec bid s seq 0)
      else if ((tabGet d.rsv.path m).getLastD {}).seg == s && !(tabGet d.rsv.path m).isEmpty then
        let d := (d.boundSet bid 0 { b with st := 2, seq := seq })
        let d := if d.segSt s = 4 then d else d.set R.RSV_SEG_STATE 6 s
        d.xferOutEnd q (d.xferRec bid s seq (d.serialOf m))
      else d.complete q .refusedState

/-- XFER IN (R306). A segment the host has closed in the meantime is taken as CLOSE_PENDING (R302; DEDUCED, log entry 90). -/
def Dev.xferIn (d : Dev) (q : Desc) (mem : Option (List Byte)) : Dev :=
  let a := q.area
  let bid := fld a 2 2
  let m := fld a 4 1
  if !xferOk a then d.complete q .badDescriptor
  else if !d.reins then d.complete q .notHoldingReins
  else match mem, d.bidSeg bid with
    | none, _ => d.complete q .aborted
    | some _, none => d.complete q .refusedState
    | some r, some s =>
      let r := fit 16 r
      let b := d.boundOf bid
      let serial := fld r 8 8
      let who := serial == 0 || (m < 240 && d.admitted m && d.serialOf m == serial)
      if b.st = 0 && r = b.taken then d.complete q .done
      else if b.st = 1 && fld r 0 2 == bid && fld r 4 2 == d.get R.RAD_CELL_CFG_CELL && fld r 6 2 == (b.seq + 1) % 65536 && who then
        let d := d.boundSet bid 1 { st := 0, seq := fld r 6 2, taken := r }
        let d := if serial = 0 then d else d.segTake s m (if d.segSt s = 3 then 4 else 2) 0
        d.parkedPass.complete q .done
      else d.complete q .refusedState

/-- XFER DONE (R306). -/
def Dev.xferDone (d : Dev) (q : Desc) : Dev :=
  let a := q.area
  let bid := fld a 2 2
  if !xferOk a then d.complete q .badDescriptor
  else if !d.reins then d.complete q .notHoldingReins
  else match d.bidSeg bid with
    | none => d.complete q .refusedState
    | some s =>
      if (d.boundOf bid).st != 2 then d.complete q .refusedState
      else
        let d := d.segFree s
        (d.boundSet bid 2 { d.boundOf bid with st := 1 }).parkedPass.complete q .done

/-- XFER SET (R306). -/
def Dev.xferSet (d : Dev) (q : Desc) : Dev :=
  let a := q.area
  let bid := fld a 2 2
  if !xferOk a then d.complete q .badDescriptor
  else if !d.reins then d.complete q .notHoldingReins
  else match d.bidSeg bid with
    | none => d.complete q .refusedState
    | some s =>
      if d.level != 1 || d.holder s != 0xFF then d.complete q .refusedState
      else (d.boundSet bid 3 { d.boundOf bid with st := fld a 5 1, seq := fld a 6 2 }).parkedPass.complete q .done

/-- XFER_OUT (R306). -/
def execXferOut (s : State) : Res :=
  onDev (fun d => match d.takeIf 0x08 7 (fun q => fld q.area 1 1 == 0) with | some (q, d) => d.xferOut q | none => d) s

/-! ### Axis preconditions (R304, R305) -/

/-- Held segments that require an axis at a window. -/
def Dev.requiring (d : Dev) (a w : Nat) : List Nat := d.rsv.held.filter fun s => (eReq (d.ent s)).contains (a, w)

/-- A confirmation is lost: causes of event 0x0805; cause 4 sets no stops. -/
def Dev.confLost (d : Dev) (a w cause : Nat) : Dev :=
  let l := d.requiring a w
  if l.isEmpty then d
  else
    let d := l.foldl (fun (d : Dev) (s : Nat) => d.put R.RSV_SEG_CONF_LOST true s) d
    let d := d.record 0x0805 (u8 a ++ u8 w ++ u8 cause)
    if cause = 4 then d else l.foldl (fun (d : Dev) (s : Nat) => d.setStop (d.holder s) 8 (d.lastSpeed (d.holder s))) d

/-- A confirmation returns: CONF_LOST clears where nothing else is lost, and the parked requests are evaluated again. -/
def Dev.confBack (d : Dev) (a w : Nat) : Dev :=
  let l := (d.requiring a w).filter fun s => d.on R.RSV_SEG_CONF_LOST s && (eReq (d.ent s)).all fun p => d.confirmed p.1 p.2
  let d := l.foldl (fun (d : Dev) (s : Nat) => d.put R.RSV_SEG_CONF_LOST false s) d
  (if l.isEmpty then d else d.record 0x0805 (u8 a ++ u8 w ++ u8 0)).parkedPass

/-! ### Disabling and boot (R311, R312) -/

/-- Every queued and parked request ends ABORTED (R311). -/
def Dev.rsvAbortAll (d : Dev) : Dev :=
  let l := d.rsv.queue ++ d.rsv.parked
  let d := { d with rsv := { d.rsv with queue := [], parked := [] } }
  (l.foldl (fun (d : Dev) (q : Req) => d.reqEnd q .aborted 0 {}) d).rsvCounts

/-- A write of RSV_CTRL (R311). -/
def Dev.rsvCtrlWrite (d : Dev) (v : Nat) : Dev :=
  let was := d.on R.RSV_CTRL_EN
  let d := d.writeAddr R.RSV_CTRL_EN.addr v
  if was && !bitOf v 0 then d.rsvAbortAll else d

/-- Reservation at boot (R285, R286, R306, R312): map and boundary states are kept; a LEAVING segment becomes FOREIGN; the
shadow map is a copy of the active one. -/
def Dev.rsvBoot (d : Dev) : Dev :=
  let r : Rsv := { map := d.rsv.map, mapBad := d.rsv.mapBad, bound := tabMapV d.rsv.bound (fun _ b => if b.st = 2 then { b with st := 1 } else b), shadow := d.rsv.map }
  let d := { d with rsv := r }
  (d.put R.RSV_STATUS_MAP_OK d.mapOk).syncBound

end Sys2Proof.Machine
end

