-- ==== Sys2Proof/Machine/Brk.lean ====
section
/-!
DEFINITION. Movement authorities, braking supervision, stops and drag (R320-R358): building and sending authorities, the
permitted-speed curve in exact integers, the judgement of uplinks, misses, drag inputs and the host watchdog.
-/

namespace Sys2Proof.Machine

/-! ### Building an authority (R320-R322, R327, R328, R684) -/

/-- A route element as it stands in the active map. -/
def Dev.authEl (d : Dev) (p : Nat × Nat) : AuthEl :=
  let e := d.ent p.1
  let g := sfld e 5 1
  { seg := p.1, entry := p.2, len := eLen e, vmax := fld e 4 1, grade := if p.2 = 0 then g else -g, creepOk := eCreep e }

/-- Length of a list of elements, cm. -/
def elsLen (l : List AuthEl) : Nat := (l.map fun e => e.len).sum

/-- The braking model of a machine as its 12 bytes, and their CRC (R331). -/
def Dev.modelBytes (d : Dev) (m : Nat) : List Byte :=
  u32 (d.get R.BRK_MODEL_A_BRAKE m + 2 ^ 16 * d.get R.BRK_MODEL_A_ACC m + 2 ^ 31 * d.get R.BRK_MODEL_VALID m) ++
    u32 (d.get R.BRK_MODEL_T m + 2 ^ 16 * d.get R.BRK_MODEL_V_MAX m) ++ u32 (d.get R.BRK_MODEL_FRONT m)

/-- Every machine with a VALID admit entry has a VALID model (R330). -/
def Dev.modelsOk (d : Dev) : Bool := (List.range 240).all fun m => !d.admitted m || d.on R.BRK_MODEL_VALID m

/-- The authority a call asks for, with the sequence, level and map of now; a re-issue keeps the route and the EoA (R320, R328). -/
def Dev.authFrom (d : Dev) (m : Nat) (c : Call) : Auth :=
  let b := d.brkM m
  let els := if c.kind = .grant || c.kind = .shorten then c.route.map d.authEl else c.els.map fun e => d.authEl (e.seg, e.entry)
  let eoa := if c.kind = .grant || c.kind = .shorten then elsLen els - c.stopOfs else c.eoa
  let old := b.auth.getD {}
  let held := c.kind = .fall && b.fallHold
  let vlim := if held then old.vlim else if d.level = 2 then 10 else 0
  let creep := if held then old.creep else d.level == 2
  let last := d.ent ((els.getLastD {}).seg)
  let lowered := b.auth.isSome && vlim != 0 && (old.vlim == 0 || vlim < old.vlim || old.cap != .now)
  { seq := (d.get R.BRK_MACH_AUTH_SEQ m + 1) % 65536, routeId := c.routeId, els := els, eoa := eoa, vlim := vlim, creep := creep
    hold := held, nextCell := if eBound last then fld last 26 2 % 512 + 2 ^ 15 else 0
    mapVer := d.get R.RSV_MAP_VER_VER % 65536, crc := crc16 (d.modelBytes m), cap := if lowered then .waits else .now, first := d.sfn }

/-- An authority is built from the waiting call, at the moment it is first sent. -/
def Dev.buildAuth (d : Dev) (m : Nat) : Dev :=
  let b := d.brkM m
  match b.call with
  | none => d
  | some c =>
    let a := d.authFrom m c
    let d := (d.set R.BRK_MACH_AUTH_SEQ a.seq m).set R.BRK_MACH_ACKED 0 m
    let d := if c.kind = .shorten then
        { d with rsv := { d.rsv with short := tabMapV d.rsv.short fun k x => if k = m && x.seq.isNone then { x with seq := some a.seq } else x } }
      else d
    d.brkSet m { b with auth := some a, prev := b.auth, call := none, late := false }

/-! ### Sending (R321, R323) -/

/-- Frames an authority takes. -/
def authParts (n : Nat) : Nat := if n ≤ 6 then 1 else if n ≤ 19 then 2 else 3

/-- A route element as a word (R289). -/
def elWord (e : AuthEl) : List Byte := u16 (e.seg + 2048 * e.entry)

/-- The payload of one part (R321). -/
def authPayload (a : Auth) (k : Nat) : List Byte :=
  let head := u8 1 ++ u16 a.seq ++ u8 (k + 16 * authParts a.els.length)
  let els := fun (lo n : Nat) => ((a.els.drop lo).take n).flatMap elWord
  fit 31 (match k with
    | 0 => head ++ u16 a.routeId ++ u8 (b2n a.hold + 2 * b2n a.creep) ++ u8 a.vlim ++ u32 a.eoa ++ u16 a.nextCell ++ u8 a.els.length ++
        u16 a.mapVer ++ u16 a.crc ++ els 0 6
    | 1 => head ++ els 6 13
    | _ => head ++ els 19 13)

/-- A waiting call may be built now: not withheld, called for early enough before the slot, and every part fits the slots left. -/
def Dev.authFresh (d : Dev) (m left start : Nat) : Bool :=
  match (d.brkM m).call with
  | some c => !d.withheld m && c.t + 150000 ≤ start &&
      authParts (if c.kind = .grant || c.kind = .shorten then c.route.length else c.els.length) ≤ left
  | none => false

/-- The machine has authority frames to send in this superframe, given the slots still left: parts of one already begun,
a call that is not withheld, or an authority to repeat. -/
def Dev.authDue (d : Dev) (m left start : Nat) : Bool :=
  let b := d.brkM m
  let begun := match b.auth with | some a => a.sf == d.sfn + 1 && 0 < a.part && a.part < authParts a.els.length | none => false
  let fresh := d.authFresh m left start
  let again := match b.auth with
    | some a => !d.on R.BRK_MACH_ACKED m && a.sf != d.sfn + 1 && authParts a.els.length ≤ left
    | none => false
  begun || fresh || again

/-- The next authority frame of a machine: its payload, and the state that has sent it. -/
def Dev.authSend (d : Dev) (m left start : Nat) : List Byte × Dev :=
  let b := d.brkM m
  let begun := match b.auth with | some a => a.sf == d.sfn + 1 && 0 < a.part && a.part < authParts a.els.length | none => false
  let d := if !begun && d.authFresh m left start then d.buildAuth m else d
  let b := d.brkM m
  match b.auth with
  | none => ([], d)
  | some a =>
    let k := if a.sf == d.sfn + 1 then a.part else 0
    (authPayload a k, d.brkSet m { b with auth := some { a with sf := d.sfn + 1, part := k + 1 } })

/-- AUTH_ACK_TIMEOUT (R323). -/
def Dev.authLate (d : Dev) (m : Nat) : Dev :=
  let b := d.brkM m
  match b.auth with
  | some a =>
    if d.on R.BRK_MACH_ACKED m || b.late then d
    else
      let d := d.passTo ((a.first + d.get R.BRK_CFG2_AUTH_ACK_T) * superframe)
      (d.brkSet m { b with late := true }).record 0x0905 (u8 m ++ u16 a.seq)
  | none => d

/-- AUTH_ACK_TIMEOUT (R323). -/
def execAuthAckTimeout (m : Nat) (s : State) : Res := onRun .safe (fun d => d.authLate m) s

/-! ### The permitted speed (R332-R334) -/

/-- Where a machine's reference point lies on a route, cm (R320): `none` off the route. -/
def xRef (els : List AuthEl) (seg ofs : Nat) : Option Nat :=
  match els.findIdx? (fun e => e.seg == seg) with
  | none => none
  | some i =>
    let e := els.getD i {}
    some (elsLen (els.take i) + (if e.entry = 0 then ofs else e.len - ofs))

/-- The elements with the distances at which they start and end. -/
def spans : Nat → List AuthEl → List (Nat × Nat × AuthEl)
  | _, [] => []
  | x, e :: t => (x, x + e.len, e) :: spans (x + e.len) t

/-- The lowest grade over the elements from `xr` to `tgt` (R333). -/
def lowGrade (els : List AuthEl) (xr tgt : Int) : Int :=
  let l := (spans 0 els).filter fun s => (s.1 : Int) < tgt && xr < (s.2.1 : Int)
  match l with
  | [] => 0
  | s :: t => t.foldl (fun g x => min g x.2.2.grade) s.2.2.grade

/-- A model's figures, in register units: A_BRAKE and A_ACC in 0.01 m/s², T in ms. -/
structure BModel where
  brake : Nat
  acc : Nat
  t : Nat
  deriving DecidableEq, Repr

/-- The deceleration of R333 in 0.00001 m/s². -/
def BModel.decel (b : BModel) (g : Int) : Int := b.brake * 1000 + 981 * min 0 g

/-- P_target of R333, mm/s rounded down, for a distance of num / den cm and a target speed in 0.05 m/s. -/
def BModel.pTarget (b : BModel) (g : Int) (num : Int) (den : Nat) (vt : Nat) : Nat :=
  let a := b.decel g
  if a ≤ 5000 || num < 0 || den = 0 then 0
  else
    let a := a.toNat
    let x := a * b.t
    let s := x * x + 2 * a * num.toNat * 10 ^ 9 / den + a * b.acc * b.t * b.t * 1000 + (vt * 5000000) * (vt * 5000000)
    (isqrt s - x - b.acc * b.t * 1000) / 100000

/-- The stopping distance s(v) of R333 in cm, as a fraction, for a speed in mm/s. R333 states none where the grade leaves no
deceleration: 0 there, so that a lowered cap acts at once (DESIGN CHOICE, log entry 91). -/
def BModel.stopDist (b : BModel) (g : Int) (v vt : Nat) : Nat × Nat :=
  let a := (b.decel g).toNat
  if a = 0 then (0, 1)
  else
    let w := v * 100 + b.acc * b.t
    (v * b.t * 200 * a + b.acc * b.t * b.t * a + (w * w - (vt * 5000) * (vt * 5000)) * 1000, 2000000 * a)

/-- The model of a machine. -/
def Dev.model (d : Dev) (m : Nat) : BModel := { brake := d.get R.BRK_MODEL_A_BRAKE m, acc := d.get R.BRK_MODEL_A_ACC m, t := d.get R.BRK_MODEL_T m }

/-- The targets of an authority ahead of a front point (R332): distance as a fraction, target speed. -/
def targets (a : Auth) (xf : Nat) : List (Nat × Nat × Nat) :=
  let sp := spans 0 a.els
  let lows := (List.range (sp.length - 1)).filterMap fun i =>
    let p := sp.getD i default
    let q := sp.getD (i + 1) default
    if xf < q.1 && q.2.2.vmax < p.2.2.vmax then some (q.1, 1, q.2.2.vmax) else none
  let cap := match a.cap with
    | .past n k => if n < a.eoa * k then [(n, k, a.vlim)] else []
    | _ => []
  [(a.eoa, 1, 0)] ++ lows ++ (cap.filter fun c => xf * c.2.1 ≤ c.1)

/-- VLIM acts on its own: at once, or once the front has passed the point a lowered cap starts from. -/
def capActs (a : Auth) (xf : Nat) : Bool :=
  match a.cap with | .now => true | .waits => false | .past n k => n < xf * k

/-- The permitted speed of R334 in mm/s, for a reference point and σ in cm. -/
def Dev.permitted (d : Dev) (m : Nat) (a : Auth) (x sigma : Nat) : Nat :=
  let xf := x + d.get R.BRK_MODEL_FRONT m + 3 * sigma
  let xr : Int := (x : Int) - d.get R.RSV_MACH_REAR m
  let line := ((spans 0 a.els).filter fun s => s.1 ≤ xf && xr < (s.2.1 : Int)).map fun s => s.2.2.vmax * 50
  let tg := (targets a xf).map fun t =>
    (d.model m).pTarget (lowGrade a.els xr (ceilDiv t.1 t.2.1 : Nat)) ((t.1 : Int) - xf * t.2.1) t.2.1 t.2.2
  let cap := if a.vlim != 0 && capActs a xf then [a.vlim * 50] else []
  (cap ++ line ++ tg).foldl min (d.get R.BRK_MODEL_V_MAX m * 50)

/-! ### Acknowledgement and judgement (R323, R327, R335, R336) -/

/-- The cap of an authority once acknowledged: a lowered one starts at x_f + s(v) (R327). -/
def Dev.capAt (d : Dev) (m : Nat) (a : Auth) (u : Upl) : Cap :=
  match a.cap, xRef a.els u.seg u.ofs with
  | .waits, some x =>
    let xf := x + d.get R.BRK_MODEL_FRONT m + 3 * u.sigma
    let g := lowGrade a.els ((x : Int) - d.get R.RSV_MACH_REAR m) a.eoa
    let s := (d.model m).stopDist g u.speed a.vlim
    .past (xf * s.2 + s.1) s.2
  | .waits, none => .now
  | c, _ => c

/-- A taken uplink acknowledges an authority that has been sent (R323). -/
def Dev.authAck (d : Dev) (m : Nat) (u : Upl) : Dev :=
  let b := d.brkM m
  match b.auth with
  | some a =>
    if !d.on R.BRK_MACH_ACKED m && a.sf != 0 && seqGe u.authSeq a.seq then
      (d.set R.BRK_MACH_ACKED 1 m).brkSet m { b with auth := some { a with cap := d.capAt m a u }, prev := none }
    else d
  | none => d

/-- The authorities an uplink is judged against, each with the reference point on its own route. -/
def BrkM.judges (b : BrkM) (u : Upl) : List (Auth × Nat) :=
  (b.auth.toList ++ b.prev.toList).filterMap fun a => (xRef a.els u.seg u.ofs).map fun x => (a, x)

/-- The first cause of R336 that holds, 0 none, and the permitted speed. -/
def Dev.judge (d : Dev) (m : Nat) (u : Upl) : Nat × Nat :=
  let l := (d.brkM m).judges u
  let p := l.foldl (fun p x => min p (d.permitted m x.1 x.2 u.sigma)) (l.headD ({}, 0) |> fun x => d.permitted m x.1 x.2 u.sigma)
  if l.isEmpty then (4, 0)
  else if l.any fun x => x.1.eoa < x.2 + d.get R.BRK_MODEL_FRONT m then (2, p)
  else if l.any fun x => x.2 + d.get R.BRK_CFG2_BACK_TOL < x.1.maxX then (3, p)
  else if p + d.get R.BRK_CFG_SPD_TOL * 10 < u.speed then (1, p)
  else (0, p)

/-- The highest reference point reported under an authority (R336). -/
def raiseX (u : Upl) (a : Auth) : Auth := { a with maxX := max a.maxX ((xRef a.els u.seg u.ofs).getD 0) }

/-- Supervision of a counting uplink (R335, R336). -/
def Dev.supervise (d : Dev) (m : Nat) (u : Upl) : Dev :=
  if d.get R.BRK_CFG_AGE_MAX * 10 < u.age || d.paused 1 then d
  else
    let b := d.brkM m
    let d := (d.set R.BRK_MACH_MISS 0 m).brkSet m { b with spd := (u.speed :: b.spd).take 2, counted := true, seg := u.seg }
    let b := d.brkM m
    if b.auth.isSome then
      let v := d.judge m u
      let d := d.brkSet m { b with perm := v.2, auth := b.auth.map (raiseX u), prev := b.prev.map (raiseX u) }
      if v.1 = 0 then d else d.setStop m v.1 u.speed
    else if d.get R.BRK_CFG_STILL_SPD * 10 < u.speed then d.setStop m 6 u.speed
    else d

/-- The machine stands on its NEXT_CELL boundary segment, and that is LEAVING (R329). -/
def Dev.handingOver (d : Dev) (m : Nat) : Bool :=
  match d.authOf m with
  | some a =>
    let s := (a.els.getLastD {}).seg
    bitOf a.nextCell 15 && (d.brkM m).seg == s && (d.boundOf (eBid (d.ent s))).st == 2
  | none => false

/-- One machine at the end of slot 346 (R329, R337). -/
def Dev.missOne (d : Dev) (m : Nat) : Dev :=
  let b := d.brkM m
  if b.counted then d.brkSet m { b with counted := false }
  else match b.auth with
    | none => d
    | some a =>
      if d.handingOver m then
        if (tabGet d.rsv.upl m).sf == d.sfn then d else (d.voidAuth m).record 0x0907 (u8 m ++ u16 (a.nextCell % 512))
      else
        let d := d.sat R.BRK_MACH_MISS (d.get R.BRK_MACH_MISS m + 1) m
        if d.get R.BRK_CFG_MISS_N ≤ d.get R.BRK_MACH_MISS m then d.setStop m 5 (d.lastSpeed m) else d

/-- MISS_COUNT at the end of slot 346; a superframe whose uplinks were discarded counts none (R246, R337). -/
def Dev.missCount (d : Dev) (discarded : Bool) : Dev :=
  let d := d.passTo (d.slotStart 347)
  if discarded || d.paused 1 then d else d.brk.m.foldl (fun (d : Dev) (p : Nat × BrkM) => d.missOne p.1) d

/-! ### Re-issues with the level (R328, R684) -/

/-- The re-issue of a fall to L2, at the next superframe start; an authority already issued at L2 stands. -/
def Dev.fallIssue (d : Dev) (m : Nat) : Dev :=
  match d.authOf m with
  | none => d
  | some a =>
    let rises : Bool := match (d.brkM m).call with | some c => c.kind == .rise | none => false
    let d := d.brkSet m { d.brkM m with fallHold := a.els.any fun e => !e.creepOk }
    if a.creep && !rises then d else d.callAuth m { kind := .fall, routeId := a.routeId, els := a.els, eoa := a.eoa }

/-- The lifting of the hold and the re-issue of a rise to L3. -/
def Dev.riseIssue (d : Dev) (m : Nat) : Dev :=
  let b := d.brkM m
  match b.auth with
  | none => d
  | some a =>
    if !a.creep && !b.fallHold && !a.hold then d
    else
      let newer : Bool := match b.call with | some c => c.kind == .grant || c.kind == .shorten | none => false
      let d := d.brkSet m { b with fallHold := false }
      if newer then d else d.callAuth m { kind := .rise, routeId := a.routeId, els := a.els, eoa := a.eoa }

/-- What a level change left for the superframe start. -/
def Dev.brkSuperframe (d : Dev) : Dev :=
  let k := d.brk.reissue
  let d := { d with brk := { d.brk with reissue := 0 } }
  let ms := d.brk.m.map fun p => p.1
  let d := if k = 1 then ms.foldl (fun (d : Dev) (m : Nat) => d.fallIssue m) d
    else if k = 2 then ms.foldl (fun (d : Dev) (m : Nat) => d.riseIssue m) d else d
  d.brkViewAll

/-! ### Descriptors (R352, R340, R341) -/

/-- The fields of a DRAG descriptor are well formed. -/
def dragOk (a : List Byte) : Bool :=
  resvOk a [(0, 3)] && fld a 1 1 < 2 && fld a 2 1 ≤ 5 && (if fld a 1 1 = 0 then fld a 2 1 == 1 else fld a 2 1 != 2 && fld a 2 1 != 3)

/-- DRAG assert. -/
def Dev.dragAssert (d : Dev) (q : Desc) : Dev :=
  if !dragOk q.area then d.complete q .badDescriptor
  else if !d.reins then d.complete q .notHoldingReins
  else (d.setSrc 1 true).complete q .done

/-- DRAG_ASSERT (R352). -/
def execDragAssert (s : State) : Res :=
  onDev (fun d => match d.takeIf 0x09 1 (fun q => fld q.area 1 1 == 0) with | some (q, d) => d.dragAssert q | none => d) s

/-- A release of a source is accepted (R341). -/
def Dev.releaseOk (d : Dev) (k : Nat) : Bool :=
  match k with
  | 0 => !d.on R.BRK_IN_A && !d.on R.BRK_IN_B && !d.on R.BRK_IN_DISC &&
      (match d.brk.lowSince with | some t => t + 100 * ms ≤ d.clk.mono | none => true)
  | 4 => d.on R.RAD_CTRL_EN && !d.on R.RAD_STATUS_NO_KEY
  | 5 => d.brk.wdKicked
  | _ => true

/-- DRAG release. -/
def Dev.dragRelease (d : Dev) (q : Desc) : Dev :=
  let k := fld q.area 2 1
  if !dragOk q.area then d.complete q .badDescriptor
  else if !d.reins then d.complete q .notHoldingReins
  else if !d.releaseOk k then d.complete q .refusedState
  else (d.setSrc k false).complete q .done

/-- DRAG_RELEASE (R341). -/
def execDragRelease (s : State) : Res :=
  onDev (fun d => match d.takeIf 0x09 1 (fun q => fld q.area 1 1 != 0) with | some (q, d) => d.dragRelease q | none => d) s

/-- STOP. Cause 9 is HOST. -/
def Dev.stopDesc (d : Dev) (q : Desc) : Dev :=
  let m := fld q.area 1 1
  if !resvOk q.area [(0, 2)] || 240 ≤ m then d.complete q .badDescriptor
  else if !d.reins then d.complete q .notHoldingReins
  else (d.setStop m 9 (d.lastSpeed m)).complete q .done

/-- The conditions of R340 hold. -/
def Dev.stopReleaseOk (d : Dev) (m : Nat) : Bool :=
  let b := d.brkM m
  let none_ := d.get R.RSV_MACH_HELD m == 0
  let still := b.spd.length == 2 && b.spd.all fun v => v ≤ d.get R.BRK_CFG_STILL_SPD * 10
  let s := (tabGet d.rsv.upl m).seg
  let other := s < 2048 && d.holder s != m && d.holder s != 0xFF
  (still || none_) &&
    (d.get R.BRK_MACH_CAUSE m != 8 || (d.heldBy m).all fun k => !d.on R.RSV_SEG_CONF_LOST k) &&
    (d.get R.BRK_MACH_CAUSE m != 7 || !other || none_)

/-- STOP_RELEASE (R340). -/
def Dev.stopRelease (d : Dev) (q : Desc) : Dev :=
  let m := fld q.area 1 1
  if !resvOk q.area [(0, 2)] || 240 ≤ m then d.complete q .badDescriptor
  else if !d.reins then d.complete q .notHoldingReins
  else if !d.stopped m || !d.stopReleaseOk m then d.complete q .refusedState
  else (d.clearStop m).complete q .done

/-! ### Drag inputs (R342) -/

/-- The filtered drag inputs change. -/
def Dev.dragInput (d : Dev) (a b : Bool) : Dev :=
  let was := d.on R.BRK_IN_A || d.on R.BRK_IN_B
  let d := (d.put R.BRK_IN_A a).put R.BRK_IN_B b
  let d := { d with brk := { d.brk with
    lowSince := if a || b then none else some (d.brk.lowSince.getD d.clk.mono)
    diffAt := if a == b then none else some (d.brk.diffAt.getD d.clk.mono)
    inputAt := if (a || b) && !was then some d.clk.mono else d.brk.inputAt } }
  (if a || b then d.setSrc 0 true else d).dragOutFollow

/-- DRAG_INPUT_CHANGE (R342): the hardware path works whenever SAFE has power, its clock stopped or not (R46, R55). -/
def execDragInputChange (a b : Bool) (s : State) : Res := onDev (fun d => if d.powered && !d.sys.lost.contains (regionCode .safe) then d.dragInput a b else d) s

/-- DRAG_INPUT_DISCREPANCY (R342). -/
def Dev.dragDisc (d : Dev) : Dev :=
  match d.brk.diffAt with
  | none => d
  | some t =>
    let d := (d.passToMono (t + d.get R.BRK_IN_DISC_T * ms)).raise R.BRK_IN_DISC
    (d.record 0x0904 (u8 (d.get R.BRK_IN_A + 2 * d.get R.BRK_IN_B))).setSrc 0 true

/-- DRAG_INPUT_DISCREPANCY (R342). -/
def execDragInputDiscrepancy (s : State) : Res := onRun .safe Dev.dragDisc s

/-! ### The host watchdog (R344) -/

/-- A write to BRK_WD_KICK. -/
def Dev.wdKick (d : Dev) (v : Nat) : Dev :=
  if v != 0x5A5A then d
  else { d with brk := { d.brk with wdArmed := d.on R.BRK_WD_CFG_ACTION, wdLast := d.clk.mono, wdKicked := true, wdHold := false } }.brkViewAll

/-- WD_KICK (R344). -/
def execWdKick (v : Word32) (s : State) : Res := onReg R.BRK_WD_KICK_KEY (fun d => d.wdKick v.toNat) s

/-- A period passes without a kick. It is reported once, until the next kick (DEDUCED, log entry 91). -/
def Dev.wdExpire (d : Dev) : Dev :=
  let act := d.get R.BRK_WD_CFG_ACTION
  if !d.brk.wdArmed || act = 0 then d
  else
    let d := (d.passToMono (d.brk.wdLast + d.get R.BRK_WD_CFG_PERIOD * ms)).raise R.BRK_WD_CFG_EXPIRED
    let d := { (d.record 0x0906 (u8 act)) with brk := { d.brk with wdArmed := false, wdKicked := false, wdHold := act == 1 } }
    if act = 2 then d.setSrc 5 true else d.brkViewAll

/-- HOST_WATCHDOG_EXPIRY (R344). -/
def execHostWatchdogExpiry (s : State) : Res := onRun .safe Dev.wdExpire s

/-- A write of BRK_WD_CFG: the first kick after ACTION is set arms the watchdog. -/
def Dev.wdCfgWrite (d : Dev) (v : Nat) : Dev :=
  let was := d.get R.BRK_WD_CFG_ACTION
  let d := d.writeAddr R.BRK_WD_CFG_ACTION.addr v
  if d.get R.BRK_WD_CFG_ACTION = was then d else { d with brk := { d.brk with wdArmed := false } }

/-- A write of a braking model word: discarded while the machine holds an authority; MODEL_CRC follows (R330, R331). -/
def Dev.modelWrite (d : Dev) (m a v : Nat) : Dev :=
  if (d.authOf m).isSome then d
  else
    let d := d.writeAddr a v
    d.set R.BRK_MODEL_MODEL_CRC (crc16 (d.modelBytes m)) m

end Sys2Proof.Machine
end

