-- ==== Sys2Proof/Machine/Axs.lean ====
section
/-!
DEFINITION. Gates, spouts and dampers (R517-R549): motion planned in exact integers, moves, group moves, homing, limits,
standstill, confirmation to the interlocking, and faults.
-/

namespace Sys2Proof.Machine

/-! ### Motion (R519-R521) -/

/-- Parts of a microstep (R521). -/
def usub : Nat := 65536

/-- Distance covered after `t` ns of a stretch. -/
def Leg.dist (l : Leg) (t : Nat) : Nat :=
  (((6 * 10 ^ 18 * l.v * t : Nat) + 3 * 10 ^ 9 * l.a * ((t * t : Nat) : Int) + l.j * ((t * t * t : Nat) : Int)) / (6 * 10 ^ 27 : Nat)).toNat

/-- Speed after `t` ns of a stretch. -/
def Leg.speed (l : Leg) (t : Nat) : Nat :=
  ((l.v : Int) + (2 * 10 ^ 9 * l.a * (t : Int) + l.j * ((t * t : Nat) : Int)) / (2 * 10 ^ 18 : Nat)).toNat

/-- Distance covered after `t` ns of a list of stretches. -/
def legsDist : List Leg → Nat → Nat
  | [], _ => 0
  | l :: r, t => if t < l.dur then l.dist t else l.dist l.dur + legsDist r (t - l.dur)

/-- Speed after `t` ns of a list of stretches. -/
def legsSpeed : List Leg → Nat → Nat
  | [], _ => 0
  | l :: r, t => if t < l.dur then l.speed t else legsSpeed r (t - l.dur)

/-- Length in time of a list of stretches. -/
def legsDur (l : List Leg) : Nat := (l.map fun x => x.dur).sum

/-- When a motion ends. -/
def Motion.ends (m : Motion) : Nat := m.t0 + legsDur m.legs

/-- What a motion has travelled from its start position by a time since reset. -/
def Motion.trav (m : Motion) (t : Nat) : Nat :=
  if m.ends ≤ t then m.len * usub else min (m.len * usub) (m.off + legsDist m.legs (t - m.t0))

/-- Its speed. -/
def Motion.speed (m : Motion) (t : Nat) : Nat := if m.ends ≤ t then 0 else legsSpeed m.legs (t - m.t0)

/-- A position at a whole number of microsteps from a start. -/
def stepFrom (x0 : Int) (neg : Bool) (n : Nat) : Int := if neg then x0 - n else x0 + n

/-- The whole microstep a motion has reached. -/
def Motion.pos (m : Motion) (t : Nat) : Int := stepFrom m.x0 m.neg (m.trav t / usub)

/-- A ramp between two speeds at an acceleration, limited in jerk for an S-curve (R520). -/
def ramp (shape v0 v1 a j : Nat) : List Leg :=
  let up := v0 ≤ v1
  let dv := if up then v1 - v0 else v0 - v1
  let s : Int := if up then 1 else -1
  let au : Nat := a * usub
  let ju : Nat := j * usub
  if dv = 0 || a = 0 then []
  else if shape = 0 || j = 0 then [{ dur := dv * 10 ^ 9 / au, v := v0, a := s * au }]
  else if a * au ≤ dv * j then
    let tj : Nat := a * 10 ^ 9 / j
    let dj : Nat := au * tj / (2 * 10 ^ 9)
    let va := if up then v0 + dj else v0 - dj
    let ta : Nat := (dv * 10 ^ 9 / au) - tj
    let vb := if up then v1 - dj else v1 + dj
    [{ dur := tj, v := v0, j := s * ju }, { dur := ta, v := va, a := s * au }, { dur := tj, v := vb, a := s * au, j := -(s * ju) }]
  else
    let tj : Nat := isqrt (dv * 10 ^ 18 / ju)
    let ap : Nat := ju * tj / 10 ^ 9
    let vm := if up then v0 + dv / 2 else v0 - dv / 2
    [{ dur := tj, v := v0, j := s * ju }, { dur := tj, v := vm, a := s * ap, j := -(s * ju) }]

/-- The distance of a ramp between a lower and a higher speed: d_a, d_d and b(v) of R520. -/
def rampDist (shape lo hi a j : Nat) : Nat :=
  if hi ≤ lo || a = 0 then 0
  else if shape = 0 || j = 0 then (hi * hi - lo * lo) / (2 * a * usub)
  else if a * a * usub ≤ (hi - lo) * j then (hi * hi - lo * lo) / (2 * a * usub) + (hi + lo) * a / (2 * j)
  else (hi + lo) * isqrt ((hi - lo) * 10 ^ 18 / (j * usub)) / 10 ^ 9

/-- b(v) of a profile at deceleration `d`. -/
def Prof.b (p : Prof) (v d : Nat) : Nat := rampDist p.shape (p.vs * usub) v d p.j

/-- The greatest speed between `lo` and `hi` from which a distance still suffices, by halving. -/
def peakSearch (p : Prof) (v l : Nat) : Nat → Nat → Nat → Nat
  | 0, lo, _ => lo
  | n + 1, lo, hi =>
    let mid := (lo + hi + 1) / 2
    if rampDist p.shape v mid p.a p.j + p.b mid p.d ≤ l then peakSearch p v l n mid hi else peakSearch p v l n lo (mid - 1)

/-- The peak speed of a move over a distance, from a present speed (R520). -/
def Prof.peak (p : Prof) (v l : Nat) : Nat :=
  let top := max v (p.v * usub)
  let vs := p.vs * usub
  if p.shape = 0 then max v (min top (isqrt ((2 * p.a * p.d * l * usub + p.d * (v * v) + p.a * (vs * vs)) / (p.a + p.d))))
  else peakSearch p v l 48 v top

/-- The stretches of a move: up to the peak, cruise, and down to V_START onto the target. -/
def Prof.plan (p : Prof) (v l : Nat) : List Leg :=
  let vp := p.peak v l
  let up := rampDist p.shape v vp p.a p.j
  let down := p.b vp p.d
  ramp p.shape v vp p.a p.j ++ [{ dur := if vp = 0 then 0 else (l - up - down) * 10 ^ 9 / vp, v := vp }] ++ ramp p.shape vp (p.vs * usub) p.d p.j

/-- A move from standstill at `x` to `tgt` (R520): it starts at V_START. -/
def Prof.move (p : Prof) (t : Nat) (x tgt : Int) : Motion :=
  let n := (tgt - x).natAbs
  { x0 := x, neg := decide (tgt < x), t0 := t, legs := if n = 0 then [] else p.plan (p.vs * usub) (n * usub), len := n }

/-- A braking to standstill at deceleration `d` from where a motion is (R683): down to V_START, ending on the whole
microstep at which that speed is reached; none from V_START or below. -/
def Motion.brake (m : Motion) (p : Prof) (t d : Nat) : Motion :=
  let s := m.trav t
  let v := m.speed t
  if v ≤ p.vs * usub then { m with t0 := t, off := s, legs := [], len := s / usub }
  else { m with t0 := t, off := s, legs := ramp p.shape v (p.vs * usub) d p.j, len := ceilDiv (s + p.b v d) usub }

/-- A motion planned anew toward `len` microsteps from its start position, from its present place and speed. -/
def Motion.replan (m : Motion) (p : Prof) (t len : Nat) : Motion :=
  let s := m.trav t
  { m with t0 := t, off := s, legs := p.plan (m.speed t) (len * usub - s), len := len }

/-- Hold-then-brake (R524): cruise at the present speed, then brake at the higher deceleration onto the target. -/
def Motion.holdBrake (m : Motion) (p : Prof) (t d : Nat) : Motion :=
  let s := m.trav t
  let v := m.speed t
  let rest := m.len * usub - s
  let hold := if v = 0 then 0 else (rest - p.b v d) * 10 ^ 9 / v
  { m with t0 := t, off := s, legs := { dur := hold, v := v } :: ramp p.shape v (p.vs * usub) d p.j }

/-- The motion brakes toward its target. -/
def Motion.inBraking (m : Motion) (p : Prof) (t : Nat) : Bool :=
  decide (p.vs * usub < m.speed t) && decide (m.len * usub ≤ m.trav t + p.b (m.speed t) p.d + usub)

/-! ### Axis state -/

/-- State of an axis beside its registers. -/
def Dev.axis (d : Dev) (a : Nat) : Axis := tabGet d.axs.ax a
/-- State of a group. -/
def Dev.group (d : Dev) (g : Nat) : Group := tabGet d.axs.grp g
/-- Replace a group's state. -/
def Dev.grpSet (d : Dev) (g : Nat) (x : Group) : Dev := { d with axs := { d.axs with grp := tabPut d.axs.grp g x } }

/-- The profile in force, from its registers (R549). -/
def Dev.profOf (d : Dev) (a : Nat) : Prof :=
  let v := fun (n : Nat) => d.get R.AXS_AX_PROF_VALUE a n
  { shape := v 0, v := v 1, vs := v 2, a := v 3, d := v 4, j := v 5, demg := v 6 }

/-- Store a profile in the registers. -/
def Dev.profPut (d : Dev) (a : Nat) (p : Prof) : Dev :=
  let s := fun (d : Dev) (n v : Nat) => d.set R.AXS_AX_PROF_VALUE v a n
  s (s (s (s (s (s (s d 0 p.shape) 1 p.v) 2 p.vs) 3 p.a) 4 p.d) 5 p.j) 6 p.demg

/-- STATE of an axis (R548). -/
def Axis.code (x : Axis) : Nat :=
  if x.homing.isSome then 3
  else if x.stopping then 4
  else if x.mot.isSome || x.group.isSome then 2
  else if x.en then 1 else 0

/-- d_max, the longest distance of a group move (R525); at least 1. -/
def Group.dmax (x : Group) : Nat := (x.mem.map fun m => m.2.2.natAbs).foldl max 1

/-- A member's share d_i / d_max of what its leader has gone or goes at, in parts of a microstep: in whole microsteps, with
its direction (R525). -/
def Group.share (x : Group) (dist : Int) (lead : Nat) : Int :=
  (if dist < 0 then -1 else 1) * ((dist.natAbs * lead / (x.dmax * usub) : Nat) : Int)

/-- Where an axis is at a time of its motion: on its own motion, along its group's line, or standing. -/
def Dev.axPosAt (d : Dev) (a t : Nat) : Int :=
  let x := d.axis a
  match x.group, x.mot with
  | some g, _ =>
    let gr := d.group g
    match gr.mem.find? (fun m => m.1 == a) with
    | some m => m.2.1 + gr.share m.2.2 (gr.mot.trav (max gr.mot.t0 t))
    | none => d.geti R.AXS_AX_POS_POS a
  | none, some m => m.pos (max m.t0 t)
  | none, none => d.geti R.AXS_AX_POS_POS a

/-- Where an axis is now. -/
def Dev.axPos (d : Dev) (a : Nat) : Int := d.axPosAt a d.clk.mono

/-- The speed of an axis now, with its direction. -/
def Dev.axVel (d : Dev) (a : Nat) : Int :=
  let x := d.axis a
  match x.group, x.mot with
  | some g, _ =>
    let gr := d.group g
    match gr.mem.find? (fun m => m.1 == a) with
    | some m => gr.share m.2.2 (gr.mot.speed d.clk.mono)
    | none => 0
  | none, some m => (if m.neg then -1 else 1) * ((m.speed d.clk.mono / usub : Nat) : Int)
  | none, none => 0

/-- The direction of travel of an axis, while it moves: whether it is negative. -/
def Dev.axNeg (d : Dev) (a : Nat) : Option Bool :=
  let x := d.axis a
  match x.group, x.mot with
  | some g, _ => ((d.group g).mem.find? fun m => m.1 == a && m.2.2 != 0).map fun m => decide (m.2.2 < 0)
  | none, some m => some m.neg
  | none, none => none

/-- The phase of an axis at a time: each microstep advances it by 256 / 2^MRES counts, reversed by DIR_INV (R518). -/
def Dev.phaseAt (d : Dev) (a t : Nat) : Nat :=
  let dx := d.axPosAt a t - d.geti R.AXS_AX_POS_POS a
  let per : Int := 256 / 2 ^ d.get R.AXS_AX_CFG_MRES a
  (((d.get R.AXS_AX_STAT_PHASE a : Int) + (if d.on R.AXS_AX_CFG_DIR_INV a then -dx * per else dx * per)) % 1024).toNat

/-! ### Chopping (R517, R518, R527) -/

/-- The reference of a coil, 0 for A and 1 for B, in 2^-16 of full scale, and its direction of drive: I × cos θ and I × sin θ
(R518). -/
def Dev.coilRef (d : Dev) (a c phase : Nat) (run : Bool) : Nat × Bool :=
  let v := dirOf (phase * 2 ^ 22)
  let x := if c = 0 then v.1 else v.2
  let i := if run then d.get R.AXS_AX_CHOP_I_RUN a else d.get R.AXS_AX_CHOP_I_HOLD a
  (i * x.natAbs * 65536 / (255 * (dirOf 0).1.natAbs), decide (x < 0))

/-- A cycle of a coil begins with ON: the reference, the direction and AXS_AX_CHOP as they then are (R527). -/
def Dev.chopStart (d : Dev) (a c t trips : Nat) (run : Bool) : Chop :=
  let r := d.coilRef a c (d.phaseAt a t) run
  { t0 := t, ref := r.1, neg := r.2, tOff := d.get R.AXS_AX_CHOP_T_OFF a * 1000, fast := d.get R.AXS_AX_CHOP_FAST a
    blank := 500 * (d.get R.AXS_AX_CHOP_BLANK a + 1), trips := trips }

/-- The cycle a coil is in at a time: after T_OFF the next one has begun. -/
def Dev.chopNow (d : Dev) (a c t : Nat) (run : Bool) (x : Chop) : Chop :=
  match x.off with
  | some e => if e + x.tOff ≤ t then d.chopStart a c (e + x.tOff) x.trips run else x
  | none => x

/-- Replace an axis's state; STATE and MOVING follow, and a coil that begins to hold current begins to be chopped, one that is off or
shorted no longer is (R527, R529). -/
def Dev.axSet (d : Dev) (a : Nat) (x : Axis) : Dev :=
  let chop := x.coil == .run || x.coil == .hold
  let start := fun (c : Nat) (o : Option Chop) => if chop then some (o.getD (d.chopStart a c d.clk.mono 0 (x.coil == .run))) else none
  let x := { x with chopA := start 0 x.chopA, chopB := start 1 x.chopB }
  let d := { d with axs := { d.axs with ax := tabPut d.axs.ax a x } }
  (d.set R.AXS_AX_STAT_STATE x.code a).setBit R.AXS_STATUS_MOVING a (decide (2 ≤ x.code))

/-- The cycles of both coils, brought up to now. -/
def Dev.chopSync (d : Dev) (a : Nat) : Dev :=
  let x := d.axis a
  let now := fun (c : Nat) (o : Option Chop) => o.map fun y => d.chopNow a c d.clk.mono (x.coil == .run) y
  { d with axs := { d.axs with ax := tabPut d.axs.ax a { x with chopA := now 0 x.chopA, chopB := now 1 x.chopB } } }

/-- The two legs of a chopped coil at a time: driven in ON; in OFF reversed for FAST × T_OFF / 8, then both LOW (R527). -/
def Chop.legs (x : Chop) (t : Nat) : Gate × Gate :=
  match x.off with
  | none => if x.neg then (.low, .high) else (.high, .low)
  | some e => if 8 * (t - e) < x.fast * x.tOff then (if x.neg then (.high, .low) else (.low, .high)) else (.low, .low)

/-- What the four outputs AX_G of an axis are driven to at a time (R517, R527, R529). -/
def Dev.axLegs (d : Dev) (a t : Nat) : List Gate :=
  let x := d.axis a
  let coil := fun (c : Nat) (o : Option Chop) => match o with
    | some y => let p := (d.chopNow a c t (x.coil == .run) y).legs t; [p.1, p.2]
    | none => if x.coil = .short then [Gate.low, Gate.low] else [Gate.off, Gate.off]
  coil 0 x.chopA ++ coil 1 x.chopB

/-- What every axis is driven to now. -/
def Dev.allLegs (d : Dev) : List (List Gate) := (List.range 16).map fun a => d.axLegs a d.clk.mono

/-- POS, VEL and PHASE follow the axis (R518). -/
def Dev.axSync (d : Dev) (a : Nat) : Dev :=
  let ph := d.phaseAt a d.clk.mono
  ((d.seti R.AXS_AX_POS_POS (d.axPos a) a).set R.AXS_AX_STAT_PHASE ph a).seti R.AXS_AX_VEL_VEL (d.axVel a) a

/-- Pass to a time since reset, with the axis's registers following. -/
def Dev.axTo (d : Dev) (a t : Nat) : Dev := (d.passToMono t).axSync a

/-! ### Confirmation (R536) -/

/-- The conditions of R536 but for the window. -/
def Dev.axStands (d : Dev) (a : Nat) : Bool :=
  let x := d.axis a
  d.on R.AXS_CTRL_EN && x.en && d.on R.AXS_AX_STAT_HOMED a && d.get R.AXS_AX_STAT_FAULT a == 0 && x.mot.isNone && x.homing.isNone &&
    x.group.isNone && (match x.endAt with | some t => t + 10 * ms ≤ d.clk.mono | none => true)

/-- The axis is confirmed at a window (R536). -/
def Dev.confNow (d : Dev) (a w : Nat) : Bool :=
  let p := d.geti R.AXS_AX_POS_POS a
  d.axStands a && d.bit R.AXS_AX_WIN_CFG_VALID w a && decide (d.geti R.AXS_AX_WIN_LO_LO a w ≤ p) && decide (p ≤ d.geti R.AXS_AX_WIN_HI_HI a w) &&
    ((d.axis a).coil != .off || d.bit R.AXS_AX_WIN_CFG_ALLOW_OFF w a)

/-- Confirmation is evaluated anew; what changes goes to the interlocking and to the waybill engine's port. -/
def Dev.confEval (d : Dev) (a cause : Nat) : Dev :=
  let old := d.get R.AXS_AX_WIN_CFG_CONF a
  let new := ((List.range 4).filter fun w => d.confNow a w).map (fun w => 2 ^ w) |>.sum
  if new = old then d
  else
    let d := d.set R.AXS_AX_WIN_CFG_CONF new a
    (List.range 4).foldl (fun (d : Dev) (w : Nat) =>
      if bitOf old w == bitOf new w then d
      else
        let d := { d with wb := { d.wb with port := d.wb.port ++ [WbIn.axis a w (bitOf new w)] } }
        if bitOf new w then d.confBack a w else d.confLost a w cause) d

/-! ### Ends of moves (R529, R375) -/

/-- A move is over for whoever waits for it. -/
def Dev.moveOver (d : Dev) (desc : Option Desc) (wb : Option Nat) (st : Status) : Dev :=
  let d := match desc with | some q => d.complete q st | none => d
  match wb with
  | some i => { d with wb := { d.wb with port := d.wb.port ++ [WbIn.moveEnd i st.code 0] } }
  | none => d

/-- The axis stands where it is and takes its standstill mode: I_HOLD at its present phase (R529). -/
def Dev.axStand (d : Dev) (a : Nat) : Dev :=
  let d := d.axSync a
  let x := d.axis a
  let d := d.axSet a { x with mot := none, stopping := false, desc := none, wb := none, homing := none, group := none, coil := .hold, endAt := some d.clk.mono, edges := [] }
  (d.set R.AXS_AX_STAT_OWNER 0 a).set R.AXS_AX_VEL_VEL 0 a

/-! ### Starting a move (R304, R531, R535, R537, R545) -/

/-- An enabled loop names the axis (R493, R535). -/
def Dev.loopNames (d : Dev) (a : Nat) : Bool :=
  (List.range 64).any fun l => d.on R.CTL_LOOP_CFG_EN l && d.get R.CTL_LOOP_IO_OUT_KIND l == 3 && d.get R.CTL_LOOP_IO_OUT_SEL l == a

/-- The axis is enabled, homed and without fault. -/
def Dev.axReady (d : Dev) (a : Nat) : Bool :=
  !d.sys.down.contains 4 && d.on R.AXS_CTRL_EN && (d.axis a).en && d.on R.AXS_AX_STAT_HOMED a && d.get R.AXS_AX_STAT_FAULT a == 0

/-- The owner rule of R535 refuses a move of an owner. -/
def Dev.ownerRefuses (d : Dev) (a owner : Nat) : Bool :=
  let x := d.axis a
  let o := d.get R.AXS_AX_STAT_OWNER a
  x.homing.isSome || (o != 0 && o != owner) || (owner != 3 && d.loopNames a)

/-- A limit is active toward a target (R531). -/
def Dev.limitToward (d : Dev) (a : Nat) (tgt : Int) : Bool :=
  let p := d.axPos a
  d.on R.AXS_AX_CFG_LIM_EN a && ((decide (tgt < p) && d.on R.AXS_AX_STAT_LIM_LO a) || (decide (p < tgt) && d.on R.AXS_AX_STAT_LIM_HI a))

/-- A target lies within the soft limits. -/
def Dev.softOk (d : Dev) (a : Nat) (tgt : Int) : Bool :=
  decide (d.geti R.AXS_AX_SOFT_LO_SOFT_LO a ≤ tgt) && decide (tgt ≤ d.geti R.AXS_AX_SOFT_HI_SOFT_HI a)

/-- How a move is refused, if it is: NO_GRANT for a lock, REFUSED_STATE for any other cause (R545). -/
def Dev.moveRefusal (d : Dev) (a owner : Nat) (tgt : Int) : Option Status :=
  if d.axLocked a then some .noGrant
  else if !d.axReady a || !d.softOk a tgt || d.ownerRefuses a owner || d.limitToward a tgt then some .refusedState
  else none

/-- A deferred profile takes effect at a move from standstill (R523). -/
def Dev.profApply (d : Dev) (a : Nat) : Dev :=
  if d.on R.AXS_AX_STAT_PROF_PENDING a then (d.profPut a (d.axis a).pend).put R.AXS_AX_STAT_PROF_PENDING false a else d

/-- A move starts from standstill; the axis is no longer confirmed (R537). -/
def Dev.startMove (d : Dev) (a owner : Nat) (tgt : Int) (desc : Option Desc) (wb : Option Nat) : Dev :=
  let d := d.profApply a
  let p := d.profOf a
  let x := d.axis a
  let d := d.axSet a { x with mot := some (p.move d.clk.mono (d.geti R.AXS_AX_POS_POS a) tgt), prof := p, desc := desc, wb := wb, coil := .run, next := none, nextDesc := none, stopping := false }
  ((d.set R.AXS_AX_STAT_OWNER owner a).seti R.AXS_AX_TGT_TGT tgt a).confEval a 1

/-- The axis's own motion begins to brake to standstill at `dec` (R683). -/
def Dev.brakeAxis (d : Dev) (a dec : Nat) : Dev :=
  let x := d.axis a
  match x.mot with
  | some m => d.axSet a { x with mot := some (m.brake x.prof d.clk.mono dec), stopping := true }
  | none => d

/-- A new target during a move (R522): re-planned without slowing when it lies ahead by at least b(v), else after a
braking at D. The move it replaces completes ABORTED at once. -/
def Dev.retarget (d : Dev) (a owner : Nat) (tgt : Int) (desc : Option Desc) : Dev :=
  let d := d.axSync a
  let x := d.axis a
  let d := (d.moveOver x.desc x.wb .aborted)
  let d := match x.nextDesc with | some q => d.complete q .aborted | none => d
  let d := d.seti R.AXS_AX_TGT_TGT tgt a
  match x.mot with
  | none => d
  | some m =>
    let t := d.clk.mono
    let ahead := if m.neg then decide (tgt ≤ m.x0) else decide (m.x0 ≤ tgt)
    let n := (tgt - m.x0).natAbs
    if !x.stopping && ahead && m.trav t + x.prof.b (m.speed t) x.prof.d ≤ n * usub then
      d.axSet a { x with mot := some (m.replan x.prof t n), desc := desc, wb := none }
    else
      let m' := if x.stopping then m else m.brake x.prof t x.prof.d
      d.axSet a { x with mot := some m', stopping := true, desc := none, wb := none, next := some (tgt, owner), nextDesc := desc }

/-! ### Group moves (R525, R526) -/

/-- The members of a group, the four of lowest number. -/
def Dev.members (d : Dev) (g : Nat) : List Nat :=
  ((List.range 16).filter fun a => d.on R.AXS_AX_CFG_GRP_EN a && d.get R.AXS_AX_CFG_GROUP a == g).take 4

/-- MEMBERS of every group follows the configuration. -/
def Dev.grpView (d : Dev) : Dev :=
  (List.range 8).foldl (fun (d : Dev) (g : Nat) => d.set R.AXS_GRP_STAT_MEMBERS (((d.members g).map fun a => 2 ^ a).sum) g) d

/-- The least of V_i / r_i over the members that move, r_i = d_i / d_max (R525). -/
def effMin (l : List (Nat × Nat)) (dmax : Nat) : Nat :=
  (l.filter fun p => p.2 != 0).foldl (fun m p => min m (p.1 * dmax / p.2)) (2 ^ 32 - 1)

/-- A group move starts: the leader is the member with the longest distance, and the profile is the leader's, reduced. -/
def Dev.groupStart (d : Dev) (g : Nat) (q : Desc) (tg : List (Nat × Int)) : Dev :=
  let d := tg.foldl (fun (d : Dev) (p : Nat × Int) => d.profApply p.1) d
  let mem := tg.map fun p => (p.1, d.geti R.AXS_AX_POS_POS p.1, p.2 - d.geti R.AXS_AX_POS_POS p.1)
  let dmax := (mem.map fun m => m.2.2.natAbs).foldl max 0
  let lead := ((mem.find? fun m => m.2.2.natAbs == dmax).getD (0, 0, 0)).1
  let red := fun (f : Prof → Nat) => effMin (mem.map fun m => (f (d.profOf m.1), m.2.2.natAbs)) dmax
  let lp := d.profOf lead
  let p : Prof := { lp with v := red (fun p => p.v), a := red (fun p => p.a), d := red (fun p => p.d), demg := red (fun p => p.demg) }
  let d := d.grpSet g { mem := mem, mot := p.move d.clk.mono 0 dmax, prof := p, desc := some q, active := true }
  let d := (d.set R.AXS_GRP_STAT_LEADER lead g).put R.AXS_GRP_STAT_ACTIVE true g
  tg.foldl (fun (d : Dev) (x : Nat × Int) =>
    let d := d.axSet x.1 { d.axis x.1 with group := some g, coil := .run, desc := none, wb := none }
    ((d.set R.AXS_AX_STAT_OWNER 1 x.1).seti R.AXS_AX_TGT_TGT x.2 x.1).confEval x.1 1) d

/-- The group brakes along its line at a deceleration; one that brakes already does so where it then stands sooner. -/
def Dev.groupBrake (d : Dev) (g dec : Nat) : Dev :=
  let x := d.group g
  let m := x.mot.brake x.prof d.clk.mono dec
  if !x.active || (x.stopping && x.mot.len ≤ m.len) then d
  else
    let d := d.grpSet g { x with mot := m, stopping := true }
    x.mem.foldl (fun (d : Dev) (m : Nat × Int × Int) => d.axSet m.1 { d.axis m.1 with stopping := true }) d

/-- A waiting group move starts once its members stand, if every member may still move. -/
def Dev.groupNext (d : Dev) (g : Nat) : Dev :=
  let x := d.group g
  match x.wait with
  | some (q, tg) =>
    if x.active || tg.any (fun p => (d.axis p.1).mot.isSome) then d
    else
      let d := d.grpSet g { x with wait := none }
      if tg.all fun p => (d.moveRefusal p.1 1 p.2).isNone then d.groupStart g q tg else d.complete q .aborted
  | none => d

/-- A group move that waits for an axis to stand is given up: the axis stops, or takes another target. -/
def Dev.waitDrop (d : Dev) (a : Nat) : Dev :=
  (List.range 8).foldl (fun (d : Dev) (g : Nat) =>
    let x := d.group g
    match x.wait with
    | some (q, tg) => if tg.any (fun p => p.1 == a) then (d.grpSet g { x with wait := none }).complete q .aborted else d
    | none => d) d

/-- The target an axis was to take next is given up, and a group move that waits for it. One move goes on through the
braking (R522): it completes when the axis stands, or at once where the axis leaves a group. -/
def Dev.dropNext (d : Dev) (a : Nat) : Dev :=
  let d := d.waitDrop a
  let x := d.axis a
  match x.nextDesc with
  | some o =>
    if x.mot.isSome then d.axSet a { x with next := none, nextDesc := none, desc := some o }
    else (d.axSet a { x with next := none, nextDesc := none }).complete o .aborted
  | none => if x.next.isSome then d.axSet a { x with next := none } else d

/-- The group's motion has ended: every member stands, and the move completes. -/
def Dev.groupOver (d : Dev) (g : Nat) (st : Status) : Dev :=
  let x := d.group g
  let d := x.mem.foldl (fun (d : Dev) (m : Nat × Int × Int) => if (d.axis m.1).group == some g then d.axStand m.1 else d) d
  let d := d.grpSet g { x with active := false, stopping := false, desc := none, mem := [] }
  (match x.desc with | some q => (d.put R.AXS_GRP_STAT_ACTIVE false g).complete q st | none => d.put R.AXS_GRP_STAT_ACTIVE false g).groupNext g

/-! ### Descriptors that move (R545) -/

/-- Refuse a descriptor whose area is bad, then for the reins, then for AXS_CTRL.EN at fetch; `none` lets it go on. -/
def Dev.axGate (d : Dev) (q : Desc) (ok gated : Bool) : Option Dev :=
  if !ok then some (d.complete q .badDescriptor)
  else if !d.reins then some (d.complete q .notHoldingReins)
  else if gated && !q.gate then some (d.complete q .refusedState)
  else none

/-- AX_MOVE on a taken descriptor. -/
def Dev.axMove (d : Dev) (q : Desc) : Dev :=
  let f := q.area
  let a := fld f 1 1
  match d.axGate q (resvOk f [(0, 3), (4, 4)] && a < 16 && fld f 2 1 < 2) true with
  | some d => d
  | none =>
    let d := d.axSync a
    let x := d.axis a
    let moving := x.mot.isSome || x.group.isSome
    let base : Int := if fld f 2 1 = 0 then 0 else if moving then d.geti R.AXS_AX_TGT_TGT a else d.geti R.AXS_AX_POS_POS a
    let tgt := dec2 32 (enc2 32 (base + sfld f 4 4))
    match d.moveRefusal a 1 tgt with
    | some st => d.complete q st
    | none =>
      let d := d.waitDrop a
      match x.group with
      | some g =>
        let gr := d.group g
        let d := match gr.desc with | some o => d.complete o .aborted | none => d
        let d := (d.grpSet g { gr with desc := none }).groupBrake g gr.prof.d
        let d := match x.nextDesc with | some o => d.complete o .aborted | none => d
        d.axSet a { d.axis a with next := some (tgt, 1), nextDesc := some q }
      | none => if x.mot.isSome then d.retarget a 1 tgt (some q) else d.startMove a 1 tgt (some q) none

/-- AX_GMOVE on a taken descriptor (R526). -/
def Dev.axGmove (d : Dev) (q : Desc) : Dev :=
  let f := q.area
  let g := fld f 1 1
  match d.axGate q (resvOk f [(0, 3), (4, 16)] && g < 8 && fld f 2 1 < 2) true with
  | some d => d
  | none =>
    let mem := d.members g
    let d := mem.foldl (fun (d : Dev) (a : Nat) => d.axSync a) d
    let tg := mem.zipIdx.map fun p =>
      let base : Int := if fld f 2 1 = 0 then 0 else if 2 ≤ (d.axis p.1).code then d.geti R.AXS_AX_TGT_TGT p.1 else d.geti R.AXS_AX_POS_POS p.1
      (p.1, dec2 32 (enc2 32 (base + sfld f (4 + 4 * p.2) 4)))
    if mem.any fun a => d.axLocked a then d.complete q .noGrant
    else if mem.isEmpty || tg.any (fun p => (d.moveRefusal p.1 1 p.2).isSome) then d.complete q .refusedState
    else
      let gr := d.group g
      let d := match gr.wait with | some (o, _) => d.complete o .aborted | none => d
      let d := match gr.desc with | some o => d.complete o .aborted | none => d
      let d := (d.grpSet g { gr with desc := none, wait := some (q, tg) }).groupBrake g gr.prof.d
      let d := mem.foldl (fun (d : Dev) (a : Nat) =>
        let x := d.axis a
        if x.mot.isSome then
          let d := (d.moveOver x.desc x.wb .aborted)
          let d := match x.nextDesc with | some o => d.complete o .aborted | none => d
          let d := d.axSet a { x with desc := none, wb := none, next := none, nextDesc := none }
          if x.stopping then d else d.brakeAxis a x.prof.d
        else match x.nextDesc with
          | some o => (d.axSet a { x with next := none, nextDesc := none }).complete o .aborted
          | none => d) d
      d.groupNext g

/-- The motion of a homing state: from V_START at A up to its speed, at most MAX_TRAVEL (R533). -/
def Dev.homeRun (d : Dev) (a : Nat) (neg : Bool) (v max : Nat) : Motion :=
  let p := d.profOf a
  let v0 := min p.vs v * usub
  let r := ramp p.shape v0 (v * usub) p.a p.j
  let up := legsDist r (legsDur r)
  { x0 := d.geti R.AXS_AX_POS_POS a, neg := neg, t0 := d.clk.mono, len := max
    legs := r ++ [{ dur := if v = 0 then 0 else (max * usub - up) * 10 ^ 9 / (v * usub), v := v * usub }] }

/-- The level of a homing switch: HOME, LIM_LO, LIM_HI (R548). -/
def Dev.switchOn (d : Dev) (a src : Nat) : Bool :=
  match src with | 0 => d.on R.AXS_AX_STAT_HOME a | 1 => d.on R.AXS_AX_STAT_LIM_LO a | _ => d.on R.AXS_AX_STAT_LIM_HI a

/-- The limit in a direction of travel is active and is not the homing's switch (R533). -/
def Dev.homeBlocked (d : Dev) (a src : Nat) (neg : Bool) : Bool :=
  if neg then src != 1 && d.on R.AXS_AX_STAT_LIM_LO a else src != 2 && d.on R.AXS_AX_STAT_LIM_HI a

/-- A homing enters a state; where the limit in its direction is active already it brakes at once, HOME_NOT_FOUND (R533). -/
def Dev.homeEnter (d : Dev) (a : Nat) (h : Homing) : Dev :=
  let neg := if h.st = .backoff then !h.neg else h.neg
  let v := if h.st = .fast then h.vFast else h.vCreep
  let run := d.homeRun a neg v h.maxTravel
  let stop := d.homeBlocked a h.src neg
  d.axSet a { d.axis a with
    mot := some (if stop then run.brake (d.axis a).prof d.clk.mono h.dHome else run), stopping := false
    homing := some { h with braking := stop, cause := if stop then some 3 else none, released := false } }

/-- AX_HOME on a taken descriptor (R533). -/
def Dev.axHome (d : Dev) (q : Desc) : Dev :=
  let f := q.area
  let a := fld f 1 1
  let src := bits (fld f 2 1) 1 2
  let ok := resvOk f [(0, 3), (4, 24)] && a < 16 && fld f 2 1 < 8 && src < 3 && fld f 4 4 != 0 && fld f 4 4 ≤ 250000 && fld f 8 4 != 0 &&
    fld f 8 4 ≤ 250000 && fld f 12 4 != 0
  match d.axGate q ok true with
  | some d => d
  | none =>
    let x := d.axis a
    if d.axLocked a then d.complete q .noGrant
    else if 2 ≤ x.code || !x.en || !d.on R.AXS_CTRL_EN || d.get R.AXS_AX_STAT_FAULT a != 0 || d.loopNames a then d.complete q .refusedState
    else
      let d := d.profApply a
      let neg := fld f 2 1 % 2 == 0
      let h : Homing := { st := if d.switchOn a src then .backoff else .fast, neg := neg, src := src, vFast := fld f 4 4, vCreep := fld f 8 4, dHome := fld f 12 4, backoff := fld f 16 4, homePos := sfld f 20 4, maxTravel := fld f 24 4 }
      let d := (d.put R.AXS_AX_STAT_HOMED false a).setBit R.AXS_STATUS_HOMED a false
      let d := d.axSet a { x with prof := d.profOf a, desc := some q, coil := .run, edges := [], homeSrc := src, homeNeg := neg }
      ((d.homeEnter a h).set R.AXS_AX_STAT_OWNER 1 a).confEval a 2

/-- The homing brakes at D_HOME, to end with a cause or to go on to its next state. -/
def Dev.homeBrake (d : Dev) (a : Nat) (cause : Option Nat) : Dev :=
  let d := d.axSync a
  let x := d.axis a
  match x.homing, x.mot with
  | some h, some m =>
    if h.cause.isSome then d
    else
      let m' := if h.braking && cause.isSome && !h.released then m else m.brake x.prof d.clk.mono h.dHome
      d.axSet a { x with mot := some m', homing := some { h with braking := true, cause := cause } }
  | _, _ => d

/-- AX_STOP on a taken descriptor. -/
def Dev.axStop (d : Dev) (q : Desc) : Dev :=
  let f := q.area
  let a := fld f 1 1
  match d.axGate q (resvOk f [(0, 2)] && a < 16) true with
  | some d => d
  | none =>
    let d := d.axSync a
    let x := d.axis a
    let d := d.dropNext a
    let d := if x.homing.isSome then d.homeBrake a (some 6)
      else match x.group with
        | some g => d.groupBrake g (d.group g).prof.d
        | none => if x.mot.isSome && !x.stopping then d.brakeAxis a x.prof.d else d
    d.complete q .done

/-! ### Profiles, windows, enabling (R523, R538, R539) -/

/-- A profile descriptor's values. -/
def profFrom (f : List Byte) : Prof :=
  { shape := fld f 2 1, v := fld f 4 4, vs := fld f 8 4, a := fld f 12 4, d := fld f 16 4, j := fld f 20 4, demg := fld f 24 4 }

/-- AX_PROFILE on a taken descriptor (R523). -/
def Dev.axProfile (d : Dev) (q : Desc) : Dev :=
  let f := q.area
  let a := fld f 1 1
  let n := profFrom f
  let ok := resvOk f [(0, 3), (4, 24)] && a < 16 && n.shape < 2 && 1 ≤ n.v && n.v ≤ 250000 && n.vs != 0 && n.vs ≤ n.v && n.a != 0 && n.d != 0 &&
    (n.shape == 0 || n.j != 0) && n.d ≤ n.demg
  match d.axGate q ok false with
  | some d => d
  | none =>
    let d := (d.trialWrite 4).axSync a
    let x := d.axis a
    let cur := d.profOf a
    if x.homing.isSome || (x.mot.isNone && x.group.isNone) then ((d.profPut a n).put R.AXS_AX_STAT_PROF_PENDING false a).complete q .done
    else if x.group.isSome then
      let d := (d.axSet a { x with pend := n }).put R.AXS_AX_STAT_PROF_PENDING true a
      (d.record 0x0E06 (u8 a ++ u32 n.d)).complete q .done
    else match x.mot with
      | none => d.complete q .done
      | some m =>
        let t := d.clk.mono
        let up := x.prof.d < n.d && !x.stopping
        let braking := m.inBraking x.prof t
        let p : Prof := { x.prof with demg := n.demg, d := if up then n.d else x.prof.d }
        let m' := if !up then m else if braking then m.holdBrake p t n.d else m.replan p t m.len
        let live : Prof := { cur with demg := n.demg, d := p.d }
        let deferred := live != n
        let d := (d.axSet a { x with mot := some m', prof := p, pend := n }).profPut a live
        let d := d.put R.AXS_AX_STAT_PROF_PENDING deferred a
        (if deferred || (up && braking) then d.record 0x0E06 (u8 a ++ u32 n.d) else d).complete q .done

/-- AX_CTRL is well formed. -/
def axCtrlOk (f : List Byte) : Bool := resvOk f [(0, 3)] && fld f 1 1 < 16 && fld f 2 1 < 3

/-- AX_CTRL with ACTION enable. -/
def Dev.axEnable (d : Dev) (q : Desc) : Dev :=
  let a := fld q.area 1 1
  match d.axGate q (axCtrlOk q.area) true with
  | some d => d
  | none =>
    let x := d.axis a
    let d := if x.en then d else ((d.axSet a { x with en := true }).record 0x0E05 (u8 a)).confEval a 1
    d.complete q .done

/-- An axis is disabled: a moving one brakes at D_EMG, a homing one at D_HOME (R533, R539). -/
def Dev.axOff (d : Dev) (a : Nat) : Dev :=
  let d := d.axSync a
  let x := d.axis a
  if !x.en then d
  else
    let d := d.dropNext a
    let d := d.axSet a { d.axis a with en := false }
    let d := if x.homing.isSome then d.homeBrake a (some 7)
      else match x.group with
        | some g => d.groupBrake g (d.group g).prof.demg
        | none => if x.mot.isSome then d.brakeAxis a x.prof.demg else d
    (d.record 0x0E05 (u8 a)).confEval a 1

/-- AX_CTRL with ACTION disable. -/
def Dev.axDisable (d : Dev) (q : Desc) : Dev :=
  let a := fld q.area 1 1
  match d.axGate q (axCtrlOk q.area) true with
  | some d => d
  | none => if d.axLocked a then d.complete q .noGrant else (d.axOff a).complete q .done

/-- AX_CTRL with ACTION clear FAULT: refused while the cause of OVERCURRENT or REGION persists. -/
def Dev.axClear (d : Dev) (q : Desc) (persists : Bool) : Dev :=
  let a := fld q.area 1 1
  match d.axGate q (axCtrlOk q.area) true with
  | some d => d
  | none =>
    let f := d.get R.AXS_AX_STAT_FAULT a
    if persists && (f == 1 || f == 5) then d.complete q .refusedState
    else (((d.set R.AXS_AX_STAT_FAULT 0 a).setBit R.AXS_STATUS2_FAULT a false).confEval a 3).complete q .done

/-- AX_WINDOW on a taken descriptor (R538). -/
def Dev.axWindow (d : Dev) (q : Desc) : Dev :=
  let f := q.area
  let a := fld f 1 1
  let w := fld f 2 1
  match d.axGate q (resvOk f [(0, 12)] && a < 16 && w < 4 && fld f 3 1 < 4 && decide (sfld f 4 4 ≤ sfld f 8 4)) false with
  | some d => d
  | none =>
    if d.bit R.AXS_AX_WIN_CFG_REQUIRED w a then d.complete q .noGrant
    else
      let d := (d.seti R.AXS_AX_WIN_LO_LO (sfld f 4 4) a w).seti R.AXS_AX_WIN_HI_HI (sfld f 8 4) a w
      let d := (d.setBit R.AXS_AX_WIN_CFG_VALID w (bitOf (fld f 3 1) 0) a).setBit R.AXS_AX_WIN_CFG_ALLOW_OFF w (bitOf (fld f 3 1) 1) a
      ((d.confEval a 1).trialWrite 4).complete q .done

/-! ### What time brings (R521, R529, R533, R536, R683) -/

/-- What follows once an axis stands: a replacing target, or a group move that waits. -/
def Dev.axNext (d : Dev) (a : Nat) (next : Option (Int × Nat)) (desc : Option Desc) : Dev :=
  match next with
  | some (tgt, owner) =>
    let x := d.axis a
    let d := d.axSet a { x with next := none, nextDesc := none }
    if (d.moveRefusal a owner tgt).isNone then d.startMove a owner tgt desc none else d.moveOver desc none .aborted
  | none => (List.range 8).foldl (fun (d : Dev) (g : Nat) => d.groupNext g) d

/-- AX_MOVE_END (R521, R529). -/
def Dev.axMoveEnd (d : Dev) (a : Nat) : Dev :=
  let x := d.axis a
  match x.group, x.mot with
  | some g, _ => if (d.group g).stopping then d else (d.axTo a (d.group g).mot.ends).groupOver g .done
  | none, some m =>
    if x.stopping || x.homing.isSome then d
    else
      let d := (d.axTo a m.ends).axStand a
      d.moveOver x.desc x.wb .done
  | none, none => d

/-- A homing has ended: its event, its fault, and its completion (R533, R544). -/
def Dev.homeOver (d : Dev) (a cause : Nat) (latch : Int) : Dev :=
  let x := d.axis a
  let d := d.axStand a
  let d := if cause = 0 then ((d.put R.AXS_AX_STAT_HOMED true a).setBit R.AXS_STATUS_HOMED a true)
    else if cause ≤ 5 then (d.set R.AXS_AX_STAT_FAULT cause a).setBit R.AXS_STATUS2_FAULT a true else d
  let d := d.record 0x0E01 (u8 a ++ u8 cause ++ s32 latch)
  d.moveOver x.desc x.wb (if cause = 0 then .done else .aborted)

/-- AX_STANDSTILL (R683). -/
def Dev.axStandstill (d : Dev) (a : Nat) : Dev :=
  let x := d.axis a
  match x.homing, x.group, x.mot with
  | some h, _, some m =>
    if !h.braking then d
    else
      let d := d.axTo a m.ends
      match h.cause with
      | some c => d.homeOver a c 0
      | none =>
        match h.st with
        | .fast => d.homeEnter a { h with st := .backoff }
        | .backoff => d.homeEnter a { h with st := .creep }
        | .creep => d.homeOver a 0 h.homePos
  | none, some g, _ =>
    if !(d.group g).stopping then d
    else
      let nx := (d.group g).mem.map fun m => (m.1, (d.axis m.1).next, (d.axis m.1).nextDesc)
      let d := (d.axTo a (d.group g).mot.ends).groupOver g .aborted
      nx.foldl (fun (d : Dev) (p : Nat × Option (Int × Nat) × Option Desc) => if p.2.1.isSome then d.axNext p.1 p.2.1 p.2.2 else d) d
  | none, none, some m =>
    if !x.stopping then d
    else
      let d := (d.axTo a m.ends).axStand a
      (d.moveOver x.desc x.wb .aborted).axNext a x.next x.nextDesc
  | _, _, none => d

/-- AX_CONFIRM (R536): 10 ms after the end of a move. -/
def Dev.axConfirm (d : Dev) (a : Nat) : Dev :=
  match (d.axis a).endAt with
  | some t => (d.passToMono (t + 10 * ms)).confEval a 1
  | none => d

/-- A locked axis holds current at a window without ALLOW_OFF (R529). -/
def Dev.mustHold (d : Dev) (a : Nat) : Bool :=
  (List.range 4).any fun w => d.bit R.AXS_AX_WIN_CFG_REQUIRED w a && !d.bit R.AXS_AX_WIN_CFG_ALLOW_OFF w a

/-- AX_STAND_TIMEOUT (R529). -/
def Dev.axStandTimeout (d : Dev) (a : Nat) : Dev :=
  let x := d.axis a
  match x.endAt with
  | none => d
  | some t =>
    if x.coil != .hold || 2 ≤ x.code then d
    else
      let d := d.passToMono (t + d.get R.AXS_AX_IN_T_HOLD a * 10 * ms)
      match d.get R.AXS_AX_CFG_STAND a with
      | 1 => if d.mustHold a then d else (d.axSet a { x with coil := .off }).confEval a 1
      | 2 => (d.axSet a { x with coil := .short }).confEval a 1
      | _ => d

/-! ### Inputs (R530-R534) -/

/-- The position latched for a clean edge: where the axis was at the raw edge, FILT earlier (R530). -/
def Dev.latchPos (d : Dev) (a : Nat) : Int := d.axPosAt a (d.clk.mono - d.get R.AXS_AX_IN_FILT a * 10000)

/-- BACKOFF has been released: it goes on at V_CREEP for BACKOFF microsteps after the latched edge and then brakes (R533). -/
def Dev.homeReleased (d : Dev) (a : Nat) (h : Homing) (m : Motion) : Dev :=
  let x := d.axis a
  let t := d.clk.mono
  let stop := ((d.latchPos a - m.x0).natAbs + h.backoff) * usub
  let s := m.trav t
  let v0 := m.speed t
  let up := if v0 < h.vCreep * usub then ramp x.prof.shape v0 (h.vCreep * usub) x.prof.a x.prof.j else []
  let fits : Bool := v0 < h.vCreep * usub && s + legsDist up (legsDur up) ≤ stop
  let v := if fits then h.vCreep * usub else v0
  let up := if fits then up else []
  if h.maxTravel * usub < stop then d.axSet a { x with homing := some { h with released := true } }
  else
    let cruise := if v = 0 then 0 else (stop - s - legsDist up (legsDur up)) * 10 ^ 9 / v
    let at_ := max s stop
    let m' : Motion := { m with t0 := t, off := s, legs := up ++ { dur := cruise, v := v } :: ramp x.prof.shape v (x.prof.vs * usub) h.dHome x.prof.j, len := if v ≤ x.prof.vs * usub then at_ / usub else ceilDiv (at_ + x.prof.b v h.dHome) usub }
    d.axSet a { x with mot := some m', homing := some { h with released := true, braking := true } }

/-- A clean edge of the homing switch during homing (R533). -/
def Dev.homeEdge (d : Dev) (a : Nat) (active : Bool) : Dev :=
  let x := d.axis a
  match x.homing, x.mot with
  | some h, some m =>
    if h.braking || h.cause.isSome then d
    else match h.st, active with
      | .fast, true => d.homeBrake a none
      | .backoff, false => d.homeReleased a h m
      | .creep, true =>
        let shift := h.homePos - d.latchPos a
        let d := d.axSet a { x with mot := some { m with x0 := m.x0 + shift } }
        let d := (d.seti R.AXS_AX_POS_POS (d.geti R.AXS_AX_POS_POS a + shift) a).seti R.AXS_AX_LATCH_HOME_LATCH h.homePos a
        d.homeBrake a none
      | _, _ => d
  | _, _ => d

/-- The home check (R532): an edge of the same sense and direction as the homing latch, compared with it. A member's fault
makes its group brake (R526). -/
def Dev.homeCheck (d : Dev) (a : Nat) (active : Bool) : Dev :=
  let x := d.axis a
  if !d.on R.AXS_AX_CFG_HOME_CHECK a || !d.on R.AXS_AX_STAT_HOMED a || !active || d.axNeg a != some x.homeNeg then d
  else
    let diff := d.latchPos a - d.geti R.AXS_AX_LATCH_HOME_LATCH a
    if diff.natAbs ≤ d.get R.AXS_AX_CFG_SLIP_TOL a then d
    else
      let d := (d.put R.AXS_AX_STAT_HOMED false a).setBit R.AXS_STATUS_HOMED a false
      let d := (d.set R.AXS_AX_STAT_FAULT 4 a).setBit R.AXS_STATUS2_FAULT a true
      let d := match x.group with | some g => d.groupBrake g (d.group g).prof.demg | none => d
      (d.record 0x0E04 (u8 a ++ s32 diff)).confEval a 2

/-- A limit stops a move toward it (R531). -/
def Dev.limitStop (d : Dev) (a : Nat) (hi : Bool) : Dev :=
  let x := d.axis a
  if d.axNeg a != some (!hi) || !d.on R.AXS_AX_CFG_LIM_EN a then d
  else
    let d := (d.raise R.AXS_AX_STAT_LIM_STOP a).record 0x0E03 (u8 a ++ u8 (b2n hi) ++ s32 (d.geti R.AXS_AX_POS_POS a))
    let d := d.dropNext a
    match x.group, x.mot with
    | some g, _ => d.groupBrake g (d.group g).prof.demg
    | none, some m => if x.stopping && m.len ≤ (m.brake x.prof d.clk.mono x.prof.demg).len then d else d.brakeAxis a x.prof.demg
    | none, none => d

/-- HOME, LIM_LO and LIM_HI as the clean pin levels give them, after HOME_POL and LIM_POL (R530, R548). -/
def Dev.axPins (d : Dev) (a : Nat) : Dev :=
  let p := (d.axis a).pins
  let act := fun (k : Nat) (pol : Fld) => bitOf p k != d.on pol a
  ((d.put R.AXS_AX_STAT_HOME (act 0 R.AXS_AX_CFG_HOME_POL) a).put R.AXS_AX_STAT_LIM_LO (act 1 R.AXS_AX_CFG_LIM_POL) a).put
    R.AXS_AX_STAT_LIM_HI (act 2 R.AXS_AX_CFG_LIM_POL) a

/-- A clean change of the pin HOME, LIM_LO or LIM_HI (0, 1, 2) to a level (R530). -/
def Dev.axInput (d : Dev) (a src : Nat) (level : Bool) : Dev :=
  let d := d.axSync a
  let x := d.axis a
  let d := { d with axs := { d.axs with ax := tabPut d.axs.ax a { x with pins := putBit x.pins src level } } }
  let d := d.axPins a
  let active := d.switchOn a src
  let x := d.axis a
  match x.homing, x.mot with
  | some h, some m =>
    if h.src = src then d.homeEdge a active
    else if active && ((src = 1 && m.neg) || (src = 2 && !m.neg)) then d.homeBrake a (some 3) else d
  | _, _ =>
    let d := if x.homeSrc = src then d.homeCheck a active else d
    if active && src != 0 then d.limitStop a (src == 2) else d

/-- A raw edge of the homing switch: more than CHAT_N within CHAT_WIN end the homing (R534). -/
def Dev.rawEdge (d : Dev) (a src : Nat) : Dev :=
  let x := d.axis a
  match x.homing with
  | some h =>
    if h.src != src then d
    else
      let es := (x.edges ++ [d.clk.mono]).filter fun t => d.clk.mono ≤ t + d.get R.AXS_AX_IN_CHAT_WIN a * ms
      let d := d.axSet a { x with edges := es }
      if d.get R.AXS_AX_IN_CHAT_N a < es.length then d.homeBrake a (some 2) else d
  | none => d

/-- HOME_MAX_TRAVEL (R533). -/
def Dev.homeMax (d : Dev) (a : Nat) : Dev :=
  let x := d.axis a
  match x.homing, x.mot with
  | some h, some m =>
    if h.braking then d
    else
      let d := d.axTo a (m.ends - 1)
      d.homeBrake a (some 3)
  | _, _ => d

/-- Every leg goes OFF and the axis's motion is gone: overcurrent (R528) or a lost region (R542). -/
def Dev.axDrop (d : Dev) (a fault : Nat) : Dev :=
  let d := d.axSync a
  let x := d.axis a
  let d := match x.group with | some g => d.groupBrake g (d.group g).prof.demg | none => d
  let d := (d.put R.AXS_AX_STAT_HOMED false a).setBit R.AXS_STATUS_HOMED a false
  let d := (d.set R.AXS_AX_STAT_FAULT fault a).setBit R.AXS_STATUS2_FAULT a true
  let d := d.axStand a
  let d := d.axSet a { d.axis a with coil := .off, next := none, nextDesc := none }
  let d := if x.homing.isSome then d.record 0x0E01 (u8 a ++ u8 fault ++ s32 0) else d
  let d := (d.moveOver x.desc x.wb .aborted).moveOver x.nextDesc none .aborted
  let d := d.confEval a (if fault = 5 then 4 else 3)
  (List.range 8).foldl (fun (d : Dev) (g : Nat) => d.groupNext g) d

/-- The comparator of a coil's present cycle first trips `n` ns after its ON began, or had tripped before the end of BLANK: ON ends
(R527). In the 16th such cycle in a row, with the reference at a quarter of full scale or more, the axis is faulted (R528). -/
def Dev.chopTrip (d : Dev) (a c n : Nat) : Dev :=
  let x := d.axis a
  match if c = 0 then x.chopA else x.chopB with
  | none => d
  | some y =>
    let y := match y.off with
      | some e => d.chopStart a c (e + y.tOff) y.trips (x.coil == Coil.run)
      | none => y
    let e := y.t0 + max y.blank n
    let k := if n ≤ y.blank then y.trips + 1 else 0
    let y := { y with off := some e, trips := k }
    let d := d.passToMono e
    let x := if c = 0 then { x with chopA := some y } else { x with chopB := some y }
    let d := { d with axs := { d.axs with ax := tabPut d.axs.ax a x } }
    if 16 ≤ k && 16384 ≤ y.ref then (d.axDrop a 1).record 0x0E02 (u8 a ++ u8 1) else d

/-- AX_OVERCURRENT (R527, R528): cycles of a coil's chopper, each told by when its comparator first tripped. -/
def Dev.axOver (d : Dev) (a c : Nat) (trips : List Nat) : Dev :=
  if a < 16 && c < 2 && !d.pair.frozen then trips.foldl (fun (d : Dev) (n : Nat) => d.chopTrip a c n) d else d

/-- The MOTOR region is lost (R542): group moves complete ABORTED too. -/
def Dev.axRegionLost (d : Dev) : Dev :=
  let d := (List.range 16).foldl (fun (d : Dev) (a : Nat) => d.axDrop a 5) d
  (List.range 8).foldl (fun (d : Dev) (g : Nat) =>
    let x := d.group g
    let d := match x.wait with | some (q, _) => d.complete q .aborted | none => d
    if x.active then (d.grpSet g { x with wait := none, mem := [] }).groupOver g .aborted else d.grpSet g {}) d

/-! ### AXS_CTRL (R540) and configuration writes (R547) -/

/-- A write of AXS_CTRL: clearing EN disables every axis, or is discarded while any axis is locked. -/
def Dev.axsCtrlWrite (d : Dev) (v : Nat) : Dev :=
  if d.on R.AXS_CTRL_EN && !bitOf v 0 then
    if (List.range 16).any fun a => d.axLocked a then d.raise R.AXS_STATUS2_DIS_REFUSED
    else
      let d := (List.range 16).foldl (fun (d : Dev) (a : Nat) => d.axOff a) d
      d.writeAddr R.AXS_CTRL_EN.addr v
  else d.writeAddr R.AXS_CTRL_EN.addr v

/-- A write to a configuration register of an axis: discarded while the axis is enabled, but for AXS_AX_CHOP,
which the next cycle of each coil uses (R527, R547). -/
def Dev.axCfgWrite (d : Dev) (a addr v : Nat) : Dev :=
  if addr = R.AXS_AX_CHOP_T_OFF.addr a then (d.chopSync a).writeAddr addr v
  else if (d.axis a).en then d
  else if addr = R.AXS_AX_CFG_MRES.addr a then ((d.writeAddr addr v).axPins a).grpView
  else d.writeAddr addr v

/-- An axis can take a loop's target now: it stands, or moves under a loop (R535). -/
def Dev.loopMay (d : Dev) (a : Nat) : Bool :=
  let x := d.axis a
  x.code < 2 || (x.mot.isSome && x.homing.isNone && d.get R.AXS_AX_STAT_OWNER a == 3)

/-- A loop's target for its axis (R493). -/
def Dev.loopMove (d : Dev) (a : Nat) (tgt : Int) : Dev :=
  let x := d.axis a
  if x.mot.isSome then d.retarget a 3 tgt none else if (d.moveRefusal a 3 tgt).isNone then (d.axSync a).startMove a 3 tgt none none else d

end Sys2Proof.Machine
end

