-- ==== Sys2Proof/Machine/Mtr.lean ====
section
/-!
DEFINITION. Metering, pulses and lot accounts (R446-R486): sampling, line cycles and their quantities, calibration,
sources and accounts, bindings, pulse inputs and outputs, saves, the restart and unaccounted intervals.
-/

namespace Sys2Proof.Machine

/-! ### Units -/

/-- HOUSE and UNATTR (R458). -/
def acctHouse : Nat := 0xFFFF
/-- UNATTR. -/
def acctUnattr : Nat := 0xFFFE

/-- Denominator of an energy amount: products of two codes, two GAINs and two FS values, per mWh (R446, R450, R483). -/
def energyDen : Nat := 2 ^ 90 * 1440000

/-- Denominator of a source's amounts; a counted edge is one unit. -/
def srcDen (s : Nat) : Nat := if s < 10 then energyDen else 1

/-- The 64-bit value of an amount in snapshot units (R457). -/
def amount (s : Nat) (z : Int) : Nat := enc2 64 (z / (srcDen s : Int))

/-- A source's amount. -/
def Dev.srcVal (d : Dev) (s : Nat) : Int := tabGet d.mtr.src s

/-- The account a source is bound to now. -/
def Dev.boundTo (d : Dev) (s : Nat) : Nat := d.get R.MTR_SRC_CFG_BOUND s

/-- A lot is open. -/
def Dev.lotOpen (d : Dev) (l : Nat) : Bool := l < 256 && (tabGet d.mtr.acct l).isOpen

/-- Change an account. -/
def Dev.acctMod (d : Dev) (a : Nat) (f : Acct → Acct) : Dev := { d with mtr := { d.mtr with acct := tabMod d.mtr.acct a f } }

/-! ### Unaccounted intervals (R473) -/

/-- UNREAD follows the table. -/
def Dev.unread (d : Dev) : Dev := d.set R.MTR_STATUS_UNREAD d.mtr.ivs.length

/-- An interval is recorded, merged into the newest while all 64 are unread (R473). -/
def Dev.interval (d : Dev) (cause srcs t0 t1 : Nat) : Dev :=
  let l := d.mtr.ivs
  let ivs := if l.length < 64 then l ++ [{ t0 := t0, t1 := t1, srcs := srcs, cause := cause, seq := d.mtr.ivSeq }]
    else l.dropLast ++ [{ (l.getLast?.getD {}) with t1 := max t1 (l.getLast?.getD {}).t1, srcs := Nat.lor (l.getLast?.getD {}).srcs srcs, merged := true }]
  let d := { d with mtr := { d.mtr with ivs := ivs, ivSeq := (d.mtr.ivSeq + 1) % 2 ^ 16 } }
  d.unread.record 0x0C05 (u8 cause ++ u32 srcs)

/-- GAP on the lots bound to the sources of a mask (R462). -/
def Dev.gapBound (d : Dev) (srcs : Nat) : Dev :=
  (List.range 26).foldl (fun d s => if bitOf srcs s && d.lotOpen (d.boundTo s) then d.acctMod (d.boundTo s) fun a => { a with gap := true } else d) d

/-- The sources of a mask that could have counted while the device did not: SAME_FEED clear (R471). -/
def Dev.gapMask (d : Dev) (srcs : Nat) : Nat :=
  (List.range 26).foldl (fun a s => a + b2n (bitOf srcs s && !d.on R.MTR_SRC_CFG_SAME_FEED s) * 2 ^ s) 0

/-- An interval that has begun and not ended: under a number of its own, its start and sources. -/
def Dev.ivBegin (d : Dev) (k srcs : Nat) : Dev :=
  let d := d.gapBound srcs
  { d with mtr := { d.mtr with ivOpen := tabPut d.mtr.ivOpen k (d.now, srcs) } }

/-- An interval that has begun ends now, and is recorded. -/
def Dev.ivEnd (d : Dev) (k cause : Nat) : Dev :=
  match tabFind d.mtr.ivOpen k with
  | some (t0, srcs) => { d with mtr := { d.mtr with ivOpen := tabDel d.mtr.ivOpen k } }.interval cause srcs t0 d.now
  | none => d

/-- Numbers of intervals that have begun: outage, DISABLED, REGION, DEEP, and WIRE of input n. -/
def ivOutage : Nat := 0
/-- DISABLED. -/
def ivDisabled : Nat := 1
/-- REGION. -/
def ivRegion : Nat := 2
/-- DEEP. -/
def ivDeep : Nat := 3
/-- WIRE. -/
def ivWire (n : Nat) : Nat := 8 + n

/-! ### Accumulation (R451, R458, R467) -/

/-- Dues of a pulse output: its source accumulates (R467). -/
def Dev.pulseDue (d : Dev) (o : Nat) (z : Int) : Dev :=
  let k := (d.get R.MTR_PO_K_K o * srcDen (d.get R.MTR_PO_CFG_SRC o) : Nat)
  let a := tabGet d.mtr.poAcc o + z
  let n := (a / (k : Int)).toNat
  let d := { d with mtr := { d.mtr with poAcc := tabPut d.mtr.poAcc o (a - n * k) } }
  let b := d.get R.MTR_PO_STAT_BACKLOG o + n
  let d := d.sat R.MTR_PO_STAT_BACKLOG b o
  if 65535 < b then (d.sat R.MTR_PO_STAT_LOST (d.get R.MTR_PO_STAT_LOST o + (b - 65535)) o).record 0x0C04 (u8 o) else d

/-- An amount goes into a source, with a share for each account (R451, R458); a lot no longer open gives its share to HOUSE. -/
def Dev.accumulate (d : Dev) (s : Nat) (shares : List (Nat × Int)) (extrap : Bool) : Dev :=
  let total := (shares.map fun (p : Nat × Int) => p.2).sum
  let d := { d with mtr := { d.mtr with src := tabPut d.mtr.src s (tabGet d.mtr.src s + total) } }
  let d := if extrap then { d with mtr := { d.mtr with srcExtrap := Nat.lor d.mtr.srcExtrap (2 ^ s) } } else d
  let d := shares.foldl (fun (d : Dev) (p : Nat × Int) =>
    let a := if d.lotOpen p.1 then p.1 else acctHouse
    d.acctMod a fun x => { x with v := tabPut x.v s (tabGet x.v s + p.2), extrap := x.extrap || extrap }) d
  (List.range 4).foldl (fun d o => if d.on R.MTR_PO_CFG_EN o && d.get R.MTR_PO_CFG_SRC o == s then d.pulseDue o total else d) d

/-! ### Bindings (R460) -/

/-- Sources of a BIND mask: bits 15:0 pulse inputs, 16 the feed, 22:17 the docks (R460). -/
def maskSrcs (m : Nat) : List Nat :=
  ((List.range 16).filter fun n => bitOf m n).map (fun n => 10 + n) ++ (if bitOf m 16 then [0, 1, 2, 3] else []) ++
    ((List.range 6).filter fun n => bitOf m (17 + n)).map (fun n => 4 + n)

/-- A binding waits for the next sample boundary (R460). -/
def Dev.bindLater (d : Dev) (mask lot : Nat) : Dev := { d with mtr := { d.mtr with bind := d.mtr.bind ++ [(mask, lot)] } }

/-- A binding takes effect (R460). -/
def Dev.bindNow (d : Dev) (mask lot : Nat) : Dev :=
  let bad := lot != acctHouse && !d.lotOpen lot
  let a := if bad then acctHouse else lot
  let d := (maskSrcs mask).foldl (fun d s => d.set R.MTR_SRC_CFG_BOUND a s) d
  if bad then d.record 0x0C07 (u16 lot ++ u32 mask) else d

/-- A write of MTR_PO_CFG: a new source starts from no due (R467; DESIGN CHOICE, log entry 92). -/
def Dev.poCfgWrite (d : Dev) (o a v : Nat) : Dev :=
  let was := d.get R.MTR_PO_CFG_SRC o
  let d := d.writeAddr a v
  if d.get R.MTR_PO_CFG_SRC o = was then d else { d with mtr := { d.mtr with poAcc := tabDel d.mtr.poAcc o } }

/-! ### Sampling and crossings (R446-R449) -/

/-- The reference in use (R448). -/
def Dev.zxRef (d : Dev) : Nat :=
  let r := d.get R.MTR_ZX_CFG_REF
  if d.on R.MTR_ZX_CFG_AUTO_REF && d.bit R.MTR_STATUS_ZX_LOST r then
    ((List.range 3).find? fun k => !d.bit R.MTR_STATUS_ZX_LOST k).getD r
  else r

/-- Codes of the hysteresis of R449, 1 % of full scale. -/
def zxHyst : Int := 83886

/-- One voltage channel's crossing at a sample (R449): whether a positive-going crossing counts, and the state after.
A half period of 40-65 Hz is 62 to 100 samples. -/
def Dev.zxStep (d : Dev) (k : Nat) (x : Int) : Bool × Dev :=
  let up := (tabFind d.mtr.above k).getD false
  let cross := if up then decide (x ≤ -zxHyst) else decide (zxHyst ≤ x)
  if !cross then (false, d)
  else
    let gap := (tabFind d.mtr.lastX k).map fun t => d.mtr.samp - t
    let ok := match gap with | some g => decide (62 ≤ g ∧ g ≤ 100) | none => false
    let run := if ok then tabGet d.mtr.runX k + 1 else 0
    let good := if ok then tabPut d.mtr.okX k d.mtr.samp else d.mtr.okX
    let d := { d with mtr := { d.mtr with above := tabPut d.mtr.above k !up, lastX := tabPut d.mtr.lastX k d.mtr.samp, runX := tabPut d.mtr.runX k run, okX := good } }
    let d := if 4 ≤ run && d.bit R.MTR_STATUS_ZX_LOST k then (d.setBit R.MTR_STATUS_ZX_LOST k false).record 0x0C01 (u8 k) else d
    (ok && !up, d)

/-- Present rate of a pulse input in 0.001 Hz (R466). -/
def Dev.pulseRate (d : Dev) (n : Nat) : Nat :=
  match tabFind d.mtr.edge n with
  | none => 0
  | some t =>
    let since := d.clk.mono - t
    let gap := tabGet d.mtr.gap n
    if 60 * second ≤ since || gap = 0 then 0 else min 65535 (10 ^ 12 / max gap (max since 1))

/-- METER_SAMPLE (R446, R448, R449, R460): at the next boundary of 125 µs the bindings that wait take effect, the 13
channels are sampled, and a crossing of the reference, or the end of a free-running cycle, makes the cycle due to end. -/
def Dev.meterSample (d : Dev) (x : List Int) : Dev :=
  let d := d.passTo ((d.now / 125000 + 1) * 125000)
  let b := d.mtr.bind
  let d := { d with mtr := { d.mtr with bind := [], samp := d.mtr.samp + 1 } }
  let d := b.foldl (fun (d : Dev) (p : Nat × Nat) => d.bindNow p.1 p.2) d
  let d := if d.on R.MTR_CTRL_EN then d.ivEnd ivOutage 2 else d
  let r := d.zxRef
  let step := (List.range 3).foldl (fun (a : List Bool × Dev) k =>
    let z := a.2.zxStep k (x.getD k 0)
    (a.1 ++ [z.1], z.2)) ([], d)
  let d := step.2
  let hit := step.1.getD r false
  let free := d.on R.MTR_STATUS_FREE_RUN
  let f := d.get R.MTR_FREQ_FREQ
  let full := decide (0 < f ∧ 8000000 ≤ (d.mtr.cyc.length + 1) * f)
  let serve := (List.range 3).any fun k => tabFind d.mtr.okX k == some d.mtr.samp && !d.bit R.MTR_STATUS_ZX_LOST k && (d.on R.MTR_ZX_CFG_AUTO_REF || d.get R.MTR_ZX_CFG_REF == k)
  let d := if free && serve then (d.set R.MTR_STATUS_FREE_RUN 0).record 0x0C01 (u8 r) else d
  let d := d.set R.MTR_STATUS_REF d.zxRef
  let d := { d with mtr := { d.mtr with
    cyc := d.mtr.cyc ++ [{ x := x, bound := (List.range 26).map d.boundTo, en := d.on R.MTR_CTRL_EN }], due := hit || (free && full) } }
  (List.range 16).foldl (fun d n => d.set R.MTR_PI_RATE_RATE (d.pulseRate n) n) d

/-- METER_SAMPLE (R446). -/
def execMeterSample (x : List Int) (s : State) : Res := onRun .meter (fun d => d.meterSample x) s

/-- ZX_TIMEOUT (R449): no counting crossing on channel `k` for TIMEOUT ms. -/
def Dev.zxTimeout (d : Dev) (k : Nat) : Dev :=
  if 3 ≤ k || d.bit R.MTR_STATUS_ZX_LOST k then d
  else
    let n := d.get R.MTR_ZX_CFG_TIMEOUT * 8
    if d.mtr.samp < tabGet d.mtr.okX k + n then d
    else
      let d := (d.setBit R.MTR_STATUS_ZX_LOST k true).record 0x0C01 (u8 k)
      let d := { d with mtr := { d.mtr with runX := tabPut d.mtr.runX k 0 } }
      let none := if d.on R.MTR_ZX_CFG_AUTO_REF then d.get R.MTR_STATUS_ZX_LOST == 7 else d.bit R.MTR_STATUS_ZX_LOST (d.get R.MTR_ZX_CFG_REF)
      let d := if none && !d.on R.MTR_STATUS_FREE_RUN then (d.set R.MTR_STATUS_FREE_RUN 1).record 0x0C01 (u8 k) else d
      d.set R.MTR_STATUS_REF d.zxRef

/-- ZX_TIMEOUT (R449). -/
def execZxTimeout (k : Nat) (s : State) : Res := onRun .meter (fun d => d.zxTimeout k) s

/-! ### Calibration coefficients (R453) -/

/-- VALID sets of a channel run from 0 upward with rising I_PT; how many, none when they do not. -/
def Dev.calSets (d : Dev) (c : Nat) : Option Nat :=
  let v := (List.range 4).filter fun k => d.on R.MTR_CAL_VALID c k
  let n := v.length
  let rising := (List.range (n - 1)).all fun k => d.get R.MTR_CAL_I_PT c k < d.get R.MTR_CAL_I_PT c (k + 1)
  if n != 0 && v == List.range n && rising then some n else none

/-- GAIN in 2^-22, PHASE in 10 ns, and EXTRAP, of a channel for a cycle (R453). -/
def Dev.calCoef (d : Dev) (c : Nat) : Nat × Int × Bool :=
  if c < 3 then (if d.on R.MTR_CAL_VALID c 0 then d.get R.MTR_CAL_GAIN c 0 else 2 ^ 22, 0, false)
  else match d.calSets c with
    | none => (2 ^ 22, 0, false)
    | some n =>
      let i := tabGet d.mtr.irms c
      let pt := fun k => d.get R.MTR_CAL_I_PT c k
      let set := fun k => (d.get R.MTR_CAL_GAIN c k, d.geti R.MTR_CAL_PHASE c k)
      if i ≤ pt 0 then ((set 0).1, (set 0).2, false)
      else if pt (n - 1) < i then ((set (n - 1)).1, (set (n - 1)).2, true)
      else
        let k := ((List.range (n - 1)).find? fun k => i ≤ pt (k + 1)).getD 0
        let w := pt (k + 1) - pt k
        let mid := fun (a b : Int) => rdiv (a * w + (b - a) * ((i - pt k : Nat) : Int)) w
        ((mid (set k).1 (set (k + 1)).1).toNat, mid (set k).2 (set (k + 1)).2, false)

/-! ### Quantities of a cycle (R450) -/

/-- A channel's code delayed by `lag` ns at sample `n` of the cycle; `base` samples of the cycle before stand ahead. -/
def delayed (codes : List Int) (base n : Nat) (lag : Int) : Int :=
  let pos : Int := ((base + n) * 125000 : Nat) - lag
  if pos % 125000 = 0 then codes.getD (pos / 125000).toNat 0 else Config.interp codes pos

/-- The codes of a channel over the cycle before and this cycle. -/
def Dev.codes (d : Dev) (c : Nat) : List Int := (d.mtr.prev ++ d.mtr.cyc).map fun s => s.x.getD c 0

/-- Per-sample energy of a voltage and a current channel, as numerators over `energyDen`; `quarter` delays the voltage by
a quarter of the cycle; `unit` takes the current's gain as 1 and its delay as `unitLag`. -/
def Dev.products (d : Dev) (v c : Nat) (quarter : Bool) (gi : Nat) (ph : Int) : List Int :=
  let n := d.mtr.cyc.length
  let base := d.mtr.prev.length
  let vs := d.codes v
  let is := d.codes c
  let lag : Int := ph * 10 + (if quarter then ((n * 125000 / 4 : Nat) : Int) else 0)
  let k : Int := ((d.calCoef v).1 * gi * d.get R.MTR_CH_CFG_FS v * d.get R.MTR_CH_CFG_FS c : Nat)
  (List.range n).map fun m => delayed vs base m lag * is.getD (base + m) 0 * k

/-- Products with the channel's own coefficients. -/
def Dev.productsCal (d : Dev) (v c : Nat) (quarter : Bool) : List Int :=
  d.products v c quarter (d.calCoef c).1 (d.calCoef c).2.1

/-- Sum of two lists, entry by entry. -/
def addLists (a b : List Int) : List Int := (a.zip b).map fun p => p.1 + p.2

/-- Squares of a channel over the cycle, times FS² and GAIN². -/
def Dev.squares (d : Dev) (c gain : Nat) : Nat :=
  (d.mtr.cyc.map fun s => ((s.x.getD c 0).natAbs * gain * d.get R.MTR_CH_CFG_FS c) ^ 2).sum

/-- Root mean square in mV or mA from the squares over `n` samples: FS has an LSB of 100 of them, and a full-scale code is
2^23 times the root of 2 of FS (R446, R483). -/
def rmsOf (sq n : Nat) : Nat := if n = 0 then 0 else isqrt (2 * 10000 * sq / (2 ^ 90 * n))

/-- Power in units of 1 / `per` W from a sum of numerators over `n` samples: one sample is 125 µs. -/
def powerOf (z : Int) (n per : Nat) : Int := if n = 0 then 0 else rdiv (z * (28800 * per : Nat)) (energyDen * n)

/-! ### The end of a cycle (R448-R454, R476) -/

/-- Shares of the samples by account; one taken while accumulation was disabled goes nowhere (R475). -/
def shareList (b : List MSample) (s : Nat) (l : List Int) : List (Nat × Int) :=
  ((b.zip l).filter fun p => p.1.en).foldl (fun (a : Tab Int) p => let k := p.1.bound.getD s acctHouse; tabPut a k (tabGet a k + p.2)) []

/-- A cycle's energy goes to one of two sources by its sign, unless it is below the no-load threshold (R451, R452). -/
def Dev.accSigned (d : Dev) (sPos : Nat) (sNeg : Option Nat) (b : List MSample) (l : List Int) (noload extrap : Bool) : Dev :=
  let t := l.sum
  if noload || t = 0 then d
  else if 0 < t then d.accumulate sPos (shareList b sPos l) extrap
  else match sNeg with
    | some s => d.accumulate s (shareList b s (l.map fun z => -z)) extrap
    | none => d

/-- FREQ from the last 8 cycles in mHz (R448). -/
def freqOf (lens : List Nat) : Nat := if lens.sum = 0 then 0 else (2 * 8000000 * lens.length + lens.sum) / (2 * lens.sum)

/-- EXTRAP of a channel in this cycle (R454): the first after 10 s without one is an event. -/
def Dev.extrapSeen (d : Dev) (c : Nat) : Dev :=
  let first := match tabFind d.mtr.extrapAt c with | some t => decide (t + 10 * second ≤ d.clk.mono) | none => true
  let d := { d with mtr := { d.mtr with extrapAt := tabPut d.mtr.extrapAt c d.clk.mono } }
  if first then d.record 0x0C02 (u8 c) else d

/-- A calibration takes this cycle's sums, with gain 1 in the set's place (R456). -/
def Dev.calCycle (d : Dev) : Dev :=
  match d.mtr.cal with
  | none => d
  | some m =>
    let a := m.desc.area
    let c := fld a 1 1
    let v := if c < 3 then c else if c < 6 then c - 3 else if c = 6 then 0 else d.get R.MTR_DOCK_CFG_PHASE (c - 7)
    let gi := if sfld a 6 2 = 0 then 2 ^ 22 else d.get R.MTR_CAL_GAIN c (fld a 2 1)
    let p := if c < 3 || c = 6 then [] else d.products v c false gi 0
    let q := if c < 3 || c = 6 then [] else d.products v c true gi 0
    let gv := if c < 3 then 2 ^ 22 else (d.calCoef v).1
    { d with mtr := { d.mtr with cal := some { m with
      n := m.n + 1, samples := m.samples + d.mtr.cyc.length, vv := m.vv + d.squares v gv, ii := m.ii + (if c < 3 then 0 else d.squares c gi),
      p := m.p + p.sum, q := m.q + q.sum } } }

/-- Zip two lists of sums, the shorter as zeros. -/
def sumNat (n : Nat) (a b : List Nat) : List Nat := (List.range n).map fun k => a.getD k 0 + b.getD k 0
/-- The same for integers. -/
def sumInt (n : Nat) (a b : List Int) : List Int := (List.range n).map fun k => a.getD k 0 + b.getD k 0

/-- LINE_CYCLE_END (R448-R454, R476): the quantities of the cycle, its shares, and a failed residue check. -/
def Dev.lineCycleEnd (d : Dev) (residueBad : Bool) : Dev :=
  if !d.mtr.due then d
  else
    let b := d.mtr.cyc
    let n := b.length
    let bad := (List.range 13).foldl (fun a c => a + b2n (3 ≤ c && (d.calSets c).isNone) * 2 ^ c) 0
    let d := d.set R.MTR_CALBAD_BAD bad
    let ext := fun c => (d.calCoef c).2.2
    let feedExt := ext 3 || ext 4 || ext 5
    let ph := [d.productsCal 0 3 false, d.productsCal 1 4 false, d.productsCal 2 5 false]
    let feedP := addLists (addLists (ph.getD 0 []) (ph.getD 1 [])) (ph.getD 2 [])
    let feedQ := addLists (addLists (d.productsCal 0 3 true) (d.productsCal 1 4 true)) (d.productsCal 2 5 true)
    let dock := (List.range 6).map fun k => d.productsCal (d.get R.MTR_DOCK_CFG_PHASE k) (7 + k) false
    let thr := fun (nl per : Nat) => nl * n * energyDen / (28800 * per)
    let noP := feedP.sum.natAbs < thr (d.get R.MTR_NOLOAD_NL_FEED) 1
    let noQ := feedQ.sum.natAbs < thr (d.get R.MTR_NOLOAD_NL_FEED) 1
    let dockRev := fun k => decide ((dock.getD k []).sum ≤ 0)
    let noD := fun k => decide ((dock.getD k []).sum < (thr (d.get R.MTR_NOLOAD_NL_DOCK) 10 : Nat))
    let sq := (List.range 13).map fun c => d.squares c (d.calCoef c).1
    let extMask := (List.range 10).foldl (fun a k => a + b2n (ext (3 + k)) * 2 ^ k) 0
    let d := (List.range 10).foldl (fun d k => if ext (3 + k) then d.extrapSeen (3 + k) else d) d
    let d := d.calCycle
    let len := n * 125000
    let d := if b.all (fun (x : MSample) => !x.en) then d
      else if residueBad then (d.gapBound 0x3FF).interval 7 0x3FF (d.now - len) d.now
      else
        let d := d.accSigned 0 (some 1) b feedP noP feedExt
        let d := d.accSigned 2 (some 3) b feedQ noQ feedExt
        (List.range 6).foldl (fun d k => d.accSigned (4 + k) none b (dock.getD k []) (noD k || dockRev k) (ext (7 + k))) d
    let st := d.mtr.stream
    let st : MStream := {
      cycles := st.cycles + 1, samples := st.samples + n, sq := sumNat 13 st.sq sq,
      p := sumInt 3 st.p (ph.map List.sum), q := st.q + feedQ.sum, dock := sumInt 6 st.dock (dock.map List.sum),
      noload := Nat.lor st.noload (b2n noP + 2 * b2n noQ + (List.range 6).foldl (fun a k => a + b2n (noD k) * 2 ^ (2 + k)) 0),
      rev := Nat.lor st.rev ((List.range 6).foldl (fun a k => a + b2n (dockRev k) * 2 ^ k) 0),
      extrap := Nat.lor st.extrap extMask, tEnd := d.now }
    let lens := (n :: d.mtr.lens).take 8
    let irms := (List.range 13).foldl (fun t c => tabPut t c (rmsOf (sq.getD c 0) n)) d.mtr.irms
    let pow := ([ph.map List.sum, [feedP.sum, feedQ.sum], dock.map List.sum].flatten.zipIdx.map fun p => (p.2, powerOf p.1 n 10))
    let d := { d with mtr := { d.mtr with pow := pow, stream := st, lens := lens, irms := irms, prev := b, cyc := [], due := false } }
    if d.on R.MTR_STATUS_FREE_RUN then d else d.sat R.MTR_FREQ_FREQ (freqOf lens)

/-- LINE_CYCLE_END (R448). -/
def execLineCycleEnd (residueBad : Bool) (s : State) : Res := onRun .meter (fun d => d.lineCycleEnd residueBad) s

/-- The stream item of a superframe (R480). -/
def Dev.meterStream (d : Dev) : Dev :=
  let m := d.mtr.stream
  let d := { d with mtr := { d.mtr with stream := { tEnd := m.tEnd } } }
  if !d.on R.MTR_CTRL_STREAM_EN then d
  else
    let rms := fun c => u32 (rmsOf (m.sq.getD c 0) m.samples)
    d.item (d.get R.MTR_CTRL_STREAM_RING) 0x0C01 m.tEnd
      (u16 (d.get R.MTR_FREQ_FREQ) ++ u8 (d.get R.MTR_STATUS_ZX_LOST + 8 * d.get R.MTR_STATUS_REF + 32 * d.get R.MTR_STATUS_FREE_RUN) ++
        u8 m.noload ++ u16 m.extrap ++ u8 (min m.cycles 255) ++ u8 m.rev ++
        (List.range 3).flatMap rms ++ (List.range 10).flatMap (fun k => rms (3 + k)) ++
        (List.range 3).flatMap (fun k => s32 (powerOf (m.p.getD k 0) m.samples 10)) ++ s32 (powerOf m.q m.samples 10) ++
        (List.range 6).flatMap fun k => s32 (powerOf (m.dock.getD k 0) m.samples 10))

/-! ### Pulse inputs (R463-R466) -/

/-- A level of a pulse input that has held for DEB ms (R463, R464): an OPEN-to-CLOSED change counts, while no wire fault stands and
accumulation is enabled. A fault level, or the valid level after it, began DEB ms ago (R465). -/
def Dev.pulseLevel (d : Dev) (n level : Nat) : Bool × Dev :=
  if 16 ≤ n || 4 ≤ level || (2 ≤ level && !d.on R.MTR_PI_CFG_SUP_EN n) then (false, d)
  else
    let was := d.get R.MTR_PI_STAT_LEVEL n
    let d := d.set R.MTR_PI_STAT_LEVEL level n
    let d := if (2 ≤ level) != (2 ≤ was) then { d with mtr := { d.mtr with wireAt := tabPut d.mtr.wireAt n (d.now - d.get R.MTR_PI_CFG_DEB n * ms) } } else d
    if was = 1 && level = 0 && !d.on R.MTR_PI_STAT_WIRE n then
      let gap := match tabFind d.mtr.edge n with | some t => d.clk.mono - t | none => 0
      let d := { d with mtr := { d.mtr with edge := tabPut d.mtr.edge n d.clk.mono, gap := tabPut d.mtr.gap n gap } }
      let d := if n < 4 && d.get R.PWR_STATUS_STATE = 1 then { d with aon := { d.aon with cmp := tabPut d.aon.cmp n (tabGet d.aon.cmp n + 1) } } else d
      let d := d.set R.MTR_PI_RATE_RATE (d.pulseRate n) n
      (true, if d.on R.MTR_CTRL_EN then d.accumulate (10 + n) [(d.boundTo (10 + n), 1)] false else d)
    else (false, d)

/-- PULSE_WIRE_FAULT (R465): BROKEN or SHORT held 200 ms. -/
def Dev.wireFault (d : Dev) (n : Nat) : Dev :=
  if 16 ≤ n || d.get R.MTR_PI_STAT_LEVEL n < 2 || d.on R.MTR_PI_STAT_WIRE n then d
  else
    let t0 := tabGet d.mtr.wireAt n
    let d := d.passTo (t0 + 200 * ms)
    let d := ((d.set R.MTR_PI_STAT_WIRE 1 n).raise R.MTR_PI_STAT_WIRE_SEEN n).gapBound (2 ^ (10 + n))
    let d := { d with mtr := { d.mtr with ivOpen := tabPut d.mtr.ivOpen (ivWire n) (t0, 2 ^ (10 + n)) } }
    d.record 0x0C03 (u8 n ++ u8 (d.get R.MTR_PI_STAT_LEVEL n))

/-- PULSE_WIRE_FAULT (R465). -/
def execPulseWireFault (n : Nat) (s : State) : Res := onRun .meter (fun d => d.wireFault n) s

/-- PULSE_WIRE_RECOVER (R465): a valid level has held 1 s. -/
def execPulseWireRecover (n : Nat) (s : State) : Res :=
  onRun .meter (fun d =>
    if 16 ≤ n || !d.on R.MTR_PI_STAT_WIRE n || 2 ≤ d.get R.MTR_PI_STAT_LEVEL n then d
    else
      let d := d.passTo (tabGet d.mtr.wireAt n + 1000 * ms)
      ((d.set R.MTR_PI_STAT_WIRE 0 n).ivEnd (ivWire n) 4).record 0x0C03 (u8 n ++ u8 (d.get R.MTR_PI_STAT_LEVEL n))) s

/-! ### Pulse outputs (R467) -/

/-- PULSE_OUT_EMIT (R467): a due pulse starts, at least 4 ms after the last start, while the device holds the reins and
accumulation is enabled. -/
def Dev.pulseEmit (d : Dev) (o : Nat) : Dev :=
  if 4 ≤ o || d.get R.MTR_PO_STAT_BACKLOG o = 0 || !d.on R.MTR_PO_CFG_EN o || !d.on R.MTR_CTRL_EN || !d.reins || d.pair.frozen || d.pair.hiZ then d
  else
    let d := match tabFind d.mtr.poStart o with | some t => d.passToMono (t + 4 * ms) | none => d
    let w := match tabFind d.mtr.poStart o with
      | some t => if 80 * ms ≤ d.clk.mono - t then 40 * ms else max (2 * ms) ((d.clk.mono - t) / 2)
      | none => 40 * ms
    let d := { d with mtr := { d.mtr with poStart := tabPut d.mtr.poStart o d.clk.mono } }
    (d.set R.MTR_PO_STAT_BACKLOG (d.get R.MTR_PO_STAT_BACKLOG o - 1) o).emit (.pulse o w (d.on R.MTR_PO_CFG_POL o))

/-- PULSE_OUT_EMIT (R467). -/
def execPulseOutEmit (o : Nat) (s : State) : Res := onRun .meter (fun d => d.pulseEmit o) s

/-! ### Saves (R468) -/

/-- A save starts: what it will commit. -/
def Dev.saveStart (d : Dev) : Dev :=
  { d with mtr := { d.mtr with saving := some {
    src := d.mtr.src, acct := d.mtr.acct, t := d.now,
    bound := (List.range 26).foldl (fun t s => tabPut t s (d.boundTo s)) [] } } }

/-- METER_SAVE (R468): at the next quarter hour of yard time; a save in progress goes on instead. Without NVM none is made (R40). -/
def execMeterSave (s : State) : Res :=
  onRun .nvm (fun d =>
    if !d.timed then d
    else
      let d := d.passTo ((d.now / (900 * second) + 1) * (900 * second))
      if d.mtr.saving.isSome then d else d.saveStart) s

/-- METER_SAVE_COMMIT (R468): the commit word, SAVE_NO, and the descriptors that waited. -/
def Dev.saveCommit (d : Dev) : Dev :=
  match d.mtr.saving with
  | none => d
  | some v =>
    let l := d.mtr.saveDescs
    let d := { d with mtr := { d.mtr with saved := v, saving := none, saveDescs := [] } }
    (d.set R.MTR_SAVE_STAT_SAVE_NO (d.get R.MTR_SAVE_STAT_SAVE_NO + 1)).completeAll l .done

/-- METER_SAVE_COMMIT (R468). -/
def execMeterSaveCommit (s : State) : Res := onRun .nvm Dev.saveCommit s

/-! ### Tailboard lines (R469, R470) -/

/-- A source's delta since the save, in units. -/
def Dev.srcDelta (d : Dev) (s : Nat) : Nat := amount s (d.srcVal s) - amount s (tabGet d.mtr.saved.src s)

/-- An account's delta in a source since the save, in units. -/
def Dev.acctDelta (d : Dev) (a s : Nat) : Nat :=
  let now := tabGet d.mtr.acct a
  let old := tabGet d.mtr.saved.acct a
  let from0 := if old.isOpen == now.isOpen && old.tOpen = now.tOpen then tabGet old.v s else 0
  amount s (tabGet now.v s) - amount s from0

/-- The sources carried in METER lines, in order (R469). -/
def Dev.savedSrcs (d : Dev) : List Nat := (List.range 26).filter fun s => d.on R.MTR_SRC_CFG_SAVE s

/-- The j-th METER line (R469). -/
def Dev.meterLine (d : Dev) (j : Nat) : List Byte :=
  u32 (d.get R.MTR_SAVE_STAT_SAVE_NO) ++ (List.range 7).flatMap fun k =>
    match (d.savedSrcs)[7 * j + k]? with
    | some s => u32 (min (d.srcDelta s) 0xFFFFFFFF)
    | none => u32 0xFFFFFFFF

/-- A lot received any amount since the save. -/
def Dev.touched (d : Dev) (l : Nat) : Bool := d.lotOpen l && (List.range 26).any fun s => d.acctDelta l s != 0

/-- The LOTS entries: HOUSE first, then lots in rising number, each with its sources in order, then the end (R470). -/
def Dev.lotEntries (d : Dev) : List (List Byte) :=
  let of := fun a hb => ((List.range 26).filter fun s => d.acctDelta a s != 0).map fun s =>
    u8 (if hb = 64 then 0 else a) ++ u8 (s + hb) ++ u32 (min (d.acctDelta a s) 0xFFFFFFFF)
  of acctHouse 64 ++ ((List.range 256).filter d.lotOpen).flatMap (fun l => of l 0) ++ [u8 0 ++ u8 0xFF ++ u32 0]

/-- The j-th LOTS line (R470): TOUCHED first. -/
def Dev.lotsLine (d : Dev) (j : Nat) : List Byte :=
  match j with
  | 0 => (List.range 32).flatMap fun b => u8 ((List.range 8).foldl (fun a k => a + b2n (d.touched (8 * b + k)) * 2 ^ k) 0)
  | j + 1 => u16 (d.get R.MTR_SAVE_STAT_SAVE_NO) ++ ((d.lotEntries.drop (5 * j)).take 5 ++ List.replicate 5 (u8 0 ++ u8 0xFF ++ u32 0)).flatten.take 30

/-! ### Restart (R471, R472) -/

/-- The entries of the LOTS lines written after TOUCHED, up to the end entry: account, source, delta. -/
def lotsRead (lines : List (List Byte)) : List (Nat × Nat × Nat) :=
  let es := lines.flatMap fun b => (List.range 5).map fun k => (fld b (2 + 6 * k) 1, fld b (3 + 6 * k) 1, fld b (4 + 6 * k) 4)
  (es.takeWhile fun e => e.2.1 != 0xFF).map fun e => (if bitOf e.2.1 6 then acctHouse else e.1, e.2.1 % 32, e.2.2)

/-- The LOTS lines hold the end entry. -/
def lotsEnded (lines : List (List Byte)) : Bool :=
  lines.any fun b => (List.range 5).any fun k => fld b (3 + 6 * k) 1 == 0xFF

/-- An amount goes into an account. -/
def Dev.acctAdd (d : Dev) (a s n : Nat) : Dev :=
  d.acctMod a fun x => { x with v := tabPut x.v s (tabGet x.v s + (n * srcDen s : Nat)) }

/-- The accounts return to the last save under the lot directory (R459, R468): a lot closed since does not reappear, one
opened since starts from zero. -/
def Dev.acctRestore (d : Dev) : Dev :=
  let v := d.mtr.saved
  let acct := d.mtr.dir.foldl (fun (t : Tab Acct) (p : Nat × Nat) =>
      let a := tabGet v.acct p.1
      tabPut t p.1 (if a.isOpen && a.tOpen = p.2 then a else { isOpen := true, tOpen := p.2 }))
    (v.acct.filter fun p => 256 ≤ p.1)
  let d := { d with mtr := { d.mtr with src := v.src, acct := acct } }
  (List.range 26).foldl (fun d s => d.set R.MTR_SRC_CFG_BOUND ((tabFind v.bound s).getD acctHouse) s) d

/-- The deltas of the METER lines written: source and amount. -/
def Dev.meterRead (d : Dev) (meter : Tab (List Byte)) : List (Nat × Nat) :=
  (d.savedSrcs.zipIdx).filterMap fun p => match tabFind meter (p.2 / 7) with
    | some b => if fld b (4 + 4 * (p.2 % 7)) 4 = 0xFFFFFFFF then none else some (p.1, fld b (4 + 4 * (p.2 % 7)) 4)
    | none => none

/-- The metering restart (R471): `meter` and `lots` are the lines written, by ordinal, of which one of another save is skipped (R652); `tCut` the cut; `vaon` whether the
always-on counters held; `cut` whether a manifest is taken, `deep` whether the device comes from DEEP. Without a manifest what was
not saved since is as if no line had been written, and the cut was now (DEDUCED, log entry 92). -/
def Dev.mtrRestart (d : Dev) (meter lots : Tab (List Byte)) (tCut : Nat) (vaon cut deep : Bool) : Dev :=
  let d := d.acctRestore
  let no := d.get R.MTR_SAVE_STAT_SAVE_NO
  let meter := meter.filter fun p => fld p.2 0 4 == no % 2 ^ 32
  let lots := lots.filter fun p => p.1 == 0 || fld p.2 0 2 == no % 2 ^ 16
  if deep || (!cut && !d.on R.MTR_CTRL_EN) then d.unread
  else
    let tCut := if cut then tCut else d.now
    let ds := d.meterRead meter
    let d := ds.foldl (fun (d : Dev) (p : Nat × Nat) =>
      { d with mtr := { d.mtr with src := tabPut d.mtr.src p.1 (tabGet d.mtr.src p.1 + (p.2 * srcDen p.1 : Nat)) } }) d
    let missing := (List.range 26).foldl (fun a s => a + b2n (!ds.any fun p => p.1 == s) * 2 ^ s) 0
    let tail := (lots.filter fun p => p.1 != 0).map fun p => p.2
    let es := lotsRead tail
    let d := es.foldl (fun (d : Dev) (e : Nat × Nat × Nat) => d.acctAdd e.1 e.2.1 e.2.2) d
    let d := ds.foldl (fun (d : Dev) (p : Nat × Nat) =>
      d.acctAdd acctUnattr p.1 (p.2 - (((es.filter fun e => e.2.1 == p.1).map fun e => e.2.2).sum))) d
    let whole := fun l => (lotsEnded tail && (lotsRead tail).any fun e => e.1 == l) || (lotsRead tail).any fun e => e.1 != acctHouse && l < e.1
    let d := (List.range 256).foldl (fun d l =>
      if d.lotOpen l && (match tabFind lots 0 with
          | some b => bitOf (fld b (l / 8) 1) (l % 8) && !whole l
          | none => true)
      then d.acctMod l fun a => { a with gap := true } else d) d
    let d := if missing != 0 then (d.gapBound missing).interval 1 missing d.mtr.saved.t tCut else d
    let offSrcs := (List.range 26).foldl (fun a s => a + b2n (!(vaon && 10 ≤ s && s ≤ 13)) * 2 ^ s) 0
    let d := d.gapBound (d.gapMask offSrcs)
    let d := { d with mtr := { d.mtr with ivOpen := tabPut d.mtr.ivOpen ivOutage (tCut, offSrcs) } }
    if cut then d.unread.record 0x0C09 (u8 meter.length ++ u8 lots.length) else d.unread

/-- Counts of the always-on counters go to sources 10-13 and the accounts bound at entry (R466). -/
def Dev.addAonCounts (d : Dev) : Dev :=
  (List.range 4).foldl (fun d n =>
    let c := tabGet d.aon.cnt n
    if c = 0 then d else d.accumulate (10 + n) [(d.boundTo (10 + n), (c : Int))] false) d

/-- Sources that do not count in DEEP (R472). -/
def deepSrcs : Nat := 0x3FFC3FF

/-! ### Descriptors (R475, R478, R479) -/

/-- A snapshot (R479). -/
def Dev.snapshot (d : Dev) (what acct : Nat) : List Byte :=
  let a := tabGet d.mtr.acct acct
  let flags := if what = 0 then 0 else b2n a.gap + 2 * b2n a.extrap + 4 * b2n a.handoff + 8 * b2n a.ecc + 16 * b2n a.isOpen
  u64 d.now ++ u32 (d.get R.MTR_SAVE_STAT_SAVE_NO) ++ u16 flags ++ u16 0 ++ u32 (if what = 0 then d.mtr.srcExtrap else 0) ++ u32 0 ++
    u64 (if what = 1 then a.tOpen else 0) ++ (List.range 26).flatMap fun s => u64 (amount s (if what = 0 then d.srcVal s else tabGet a.v s))

/-- The next sample boundary, without a sample of its own (R457, R459). -/
def Dev.toBoundary (d : Dev) : Dev := d.passTo ((d.now + 124999) / 125000 * 125000)

/-- MTR_SNAP on a taken descriptor. -/
def Dev.mtrSnap (d : Dev) (q : Desc) : Dev :=
  let a := q.area
  let what := fld a 1 1
  if !resvOk a [(0, 4), (8, 8)] || 4 ≤ what || 2 ≤ fld a 3 1 || fld a 8 8 % 16 != 0 then d.complete q .badDescriptor
  else if what = 1 && !d.lotOpen (fld a 2 1) then d.complete q .refusedState
  else
    let d := d.toBoundary
    let acct := match what with | 1 => fld a 2 1 | 2 => acctHouse | _ => acctUnattr
    let d := d.toHost (fld a 8 8) (d.snapshot what acct)
    let d := if fld a 3 1 = 1 && what = 0 then { d with mtr := { d.mtr with srcExtrap := 0 } } else d
    d.complete q .done

/-- MTR_SNAP (R478). -/
def execMtrSnap (s : State) : Res := onDev (fun d => match d.take 0x0C 1 with | some (q, d) => d.mtrSnap q | none => d) s

/-- The fields of a LOT descriptor are in range. -/
def lotFieldsOk (a : List Byte) : Bool := resvOk a [(0, 3), (8, 8)] && fld a 1 1 < 2 && fld a 8 8 % 16 == 0

/-- LOT open (R459). -/
def Dev.lotOpenOp (d : Dev) (q : Desc) (l : Nat) : Dev :=
  if d.lotOpen l then d.complete q .refusedState
  else
    let d := d.acctMod l fun _ => { isOpen := true, tOpen := d.now }
    let d := { d with mtr := { d.mtr with dir := tabPut d.mtr.dir l d.now } }
    (d.record 0x0C06 (u8 l)).complete q .done

/-- LOT close (R459): at the next sample boundary its sources go to HOUSE, and the final snapshot is written. -/
def Dev.lotCloseOp (d : Dev) (q : Desc) (l addr : Nat) : Dev :=
  if !d.lotOpen l then d.complete q .refusedState
  else
    let d := d.toBoundary
    let d := (List.range 26).foldl (fun d s => if d.boundTo s = l then d.set R.MTR_SRC_CFG_BOUND acctHouse s else d) d
    let d := d.toHost addr (d.snapshot 1 l)
    let d := { d with mtr := { d.mtr with acct := tabDel d.mtr.acct l, dir := tabDel d.mtr.dir l } }
    (d.record 0x0C06 (u8 l)).complete q .done

/-- The oldest LOT descriptor, when its ACTION is this one or out of range. -/
def Dev.takeLot (d : Dev) (action : Nat) : Option (Desc × Dev) :=
  match d.take 0x0C 2 with
  | some (q, d') => if fld q.area 1 1 = action || !lotFieldsOk q.area then some (q, d') else none
  | none => none

/-- LOT_OPEN (R459). -/
def execLotOpen (s : State) : Res :=
  onDev (fun d => match d.takeLot 0 with
    | some (q, d) => if lotFieldsOk q.area then d.lotOpenOp q (fld q.area 2 1) else d.complete q .badDescriptor
    | none => d) s

/-- LOT_CLOSE (R459). -/
def execLotClose (s : State) : Res :=
  onDev (fun d => match d.takeLot 1 with
    | some (q, d) => if lotFieldsOk q.area then d.lotCloseOp q (fld q.area 2 1) (fld q.area 8 8) else d.complete q .badDescriptor
    | none => d) s

/-- The voltage channel of a metered channel. -/
def Dev.voltOf (d : Dev) (c : Nat) : Nat := if c < 3 then c else if c < 6 then c - 3 else if c = 6 then 0 else d.get R.MTR_DOCK_CFG_PHASE (c - 7)

/-- MTR_CAL on a taken descriptor (R456, R478). -/
def Dev.mtrCal (d : Dev) (q : Desc) : Dev :=
  let a := q.area
  let c := fld a 1 1
  let k := fld a 2 1
  let ang := sfld a 6 2
  let angOk := ang == 0 || (3 ≤ c && c != 6 && decide (3000 ≤ ang ∧ ang ≤ 7000))
  if !resvOk a [(0, 24)] || 13 ≤ c || 4 ≤ k || (c < 3 && k != 0) || 2 ≤ fld a 3 1 || fld a 4 2 < 10 || 1000 < fld a 4 2 || !angOk || fld a 16 8 % 16 != 0 then
    d.complete q .badDescriptor
  else if !q.gate || (c != 6 && d.bit R.MTR_STATUS_ZX_LOST (d.voltOf c)) then d.complete q .refusedState
  else { d with mtr := { d.mtr with cal := some { desc := q, t0 := d.clk.mono } } }

/-- MTR_CAL (R456): one calibration at a time. -/
def execMtrCal (s : State) : Res :=
  onDev (fun d => if d.mtr.cal.isSome then d else match d.take 0x0C 3 with | some (q, d) => d.mtrCal q | none => d) s

/-- A quotient rounded to nearest; by 0 the value `z`. -/
def qdiv (z a b : Nat) : Nat := if b = 0 then z else (2 * a + b) / (2 * b)

/-- The result of a calibration (R456, R479): GAIN and PHASE, with the measured values. Where nothing was measured R456 states no GAIN: a free value
(log entry 92). -/
def Dev.calDone (d : Dev) (m : MCal) : Dev :=
  let a := m.desc.area
  let c := fld a 1 1
  let k := fld a 2 1
  let vref := fld a 8 4
  let iref := fld a 12 4
  let vr := rmsOf m.vv m.samples
  let ir := rmsOf m.ii m.samples
  let p := powerOf m.p m.samples 1000
  let qq := powerOf m.q m.samples 1000
  let ang := sfld a 6 2
  let (z, d) := d.fresh
  let gain := if ang != 0 then d.get R.MTR_CAL_GAIN c k
    else if c < 3 then qdiv z (2 ^ 22 * vref) vr
    else if c = 6 then qdiv z (2 ^ 22 * iref) ir
    else qdiv z (2 ^ 22 * vr * iref) (p.toNat * 1000)
  let delta := angleOf m.q m.p - ang * 10000
  let tcyc := m.samples * 125000 / max m.n 1
  let phase := if ang = 0 then d.geti R.MTR_CAL_PHASE c k else rdiv (delta * tcyc) (360 * 1000000 * 10)
  let d := d.toHost (fld a 16 8) (u32 vr ++ u32 ir ++ s64 p ++ s64 qq ++ u32 gain ++ s16 (clamp2 16 phase) ++ u16 (d.get R.MTR_FREQ_FREQ))
  let d := if fld a 3 1 = 1 then
      let d := if ang = 0 then
          let d := (d.sat R.MTR_CAL_GAIN gain c k).set R.MTR_CAL_VALID 1 c k
          if c < 3 then d else d.sat R.MTR_CAL_I_PT iref c k
        else d.sati R.MTR_CAL_PHASE phase c k
      (d.trialWrite 0).record 0x0C08 (u8 c ++ u8 k)
    else d
  d.complete m.desc .done

/-- MTR_CAL_DONE (R456, R478): its cycles have ended, or CYCLES × 25 ms has passed. -/
def execMtrCalDone (s : State) : Res :=
  onRun .meter (fun d => match d.mtr.cal with
    | none => d
    | some m =>
      let d' := { d with mtr := { d.mtr with cal := none } }
      if fld m.desc.area 4 2 ≤ m.n then d'.calDone m
      else (d'.passToMono (m.t0 + fld m.desc.area 4 2 * 25 * ms)).complete m.desc .timeout) s

/-- MTR_BIND on a taken descriptor (R460, R478). -/
def Dev.mtrBind (d : Dev) (q : Desc) : Dev :=
  let a := q.area
  let lot := fld a 2 2
  let mask := fld a 4 4
  let seg := (List.range 6).any fun k => bitOf mask (17 + k) && d.on R.MTR_DOCK_CFG_SEG_EN k
  if !resvOk a [(0, 1), (2, 6)] || (256 ≤ lot && lot != acctHouse) || 2 ^ 23 ≤ mask || seg then d.complete q .badDescriptor
  else if !q.gate then d.complete q .refusedState
  else (d.bindLater mask lot).complete q .done

/-- MTR_BIND (R460). -/
def execMtrBind (s : State) : Res := onDev (fun d => match d.take 0x0C 4 with | some (q, d) => d.mtrBind q | none => d) s

/-- MTR_SAVE (R468, R478): a save starts, completed at its commit. One that runs is waited for. Without NVM it is refused (R40; the status is a DESIGN CHOICE,
log entry 89). -/
def execMtrSave (s : State) : Res :=
  onDev (fun d =>
    if d.mtr.saving.isSome then d
    else match d.take 0x0C 5 with
      | some (q, d) =>
        if !resvOk q.area [(0, 1)] then d.complete q .badDescriptor
        else if !d.runs .nvm then d.complete q .refusedState
        else { d with mtr := { d.mtr with saveDescs := d.mtr.saveDescs ++ [q] } }.saveStart
      | none => d) s

/-- An interval entry's 32 bytes (R473). -/
def MIv.bytes (v : MIv) : List Byte := u64 v.t0 ++ u64 v.t1 ++ u32 v.srcs ++ u8 v.cause ++ u8 (b2n v.merged) ++ u16 v.seq ++ zeros 8

/-- MTR_INTERVALS on a taken descriptor (R473, R478): oldest first. -/
def Dev.mtrIntervals (d : Dev) (q : Desc) : Dev :=
  let a := q.area
  let n := fld a 1 1
  if !resvOk a [(0, 3), (8, 8)] || n = 0 || 64 < n || 2 ≤ fld a 2 1 || fld a 8 8 % 16 != 0 then d.complete q .badDescriptor
  else
    let d' := d.toHost (fld a 8 8) (fit (32 * n) ((d.mtr.ivs.take n).flatMap MIv.bytes))
    let d' := if fld a 2 1 = 1 then { d' with mtr := { d'.mtr with ivs := d'.mtr.ivs.drop n } }.unread else d'
    d'.complete q .done

/-- MTR_INTERVALS (R473). -/
def execMtrIntervals (s : State) : Res := onDev (fun d => match d.take 0x0C 6 with | some (q, d) => d.mtrIntervals q | none => d) s

/-! ### Disabling and faults (R475, R476) -/

/-- Clearing MTR_CTRL.EN (R475). -/
def Dev.mtrOff (d : Dev) : Dev :=
  let d := d.ivBegin ivDisabled 0x3FFFFFF
  match d.mtr.cal with
  | some m => { d with mtr := { d.mtr with cal := none } }.complete m.desc .aborted
  | none => d

/-- A write of MTR_CTRL (R475, R481). -/
def Dev.mtrCtrlWrite (d : Dev) (v : Nat) : Dev :=
  let was := d.on R.MTR_CTRL_EN
  let d := d.writeAddr R.MTR_CTRL_EN.addr v
  if was && !d.on R.MTR_CTRL_EN then d.mtrOff
  else if !was && d.on R.MTR_CTRL_EN then d.ivEnd ivDisabled 5
  else d

/-- MTR_DISABLE (R475): a write of MTR_CTRL that clears EN. -/
def execMtrDisable (v : Word32) (s : State) : Res := onReg R.MTR_CTRL_EN (fun d => if bitOf v.toNat 0 then d else d.mtrCtrlWrite v.toNat) s

/-- METER_ACCOUNT_ECC (R476). -/
def execMeterAccountEcc (lot : Nat) (s : State) : Res :=
  onRun .meter (fun d => if d.lotOpen lot then d.acctMod lot fun a => { a with ecc := true, gap := true } else d) s

/-- The METER region is lost (R476). -/
def Dev.meterLost (d : Dev) : Dev := d.ivBegin ivRegion 0x3FFC3FF

/-- DEEP is entered (R472): GAP as at an outage (R471), on the lots bound to a source without SAME_FEED. -/
def Dev.meterDeep (d : Dev) : Dev :=
  let d := d.gapBound (d.gapMask deepSrcs)
  { d with mtr := { d.mtr with ivOpen := tabPut d.mtr.ivOpen ivDeep (d.now, deepSrcs) } }

/-- DEEP ends. -/
def Dev.meterDeepEnd (d : Dev) : Dev := d.ivEnd ivDeep 3

end Sys2Proof.Machine
end

