-- ==== Sys2Proof/Machine/Wb.lean ====
section
/-!
DEFINITION. The waybill engine (R359-R404): the matching store, operands, binding, ranks and dispatch, timers, ends,
records, host flags, templates and machine events.
-/

namespace Sys2Proof.Machine

/-! ### The store (R359, R385) -/

/-- The tick now (R380). -/
def Dev.tickNow (d : Dev) : Nat := d.clk.mono / ms

/-- Replace a waybill of the store. -/
def Dev.wbPut (d : Dev) (i : Nat) (w : Waybill) : Dev := { d with wb := { d.wb with store := tabPut d.wb.store i w } }

/-- The waybill an identifier names, if it is in the store. -/
def Dev.wbFind (d : Dev) (id : Nat) : Option (Nat × Waybill) :=
  match tabFind d.wb.store (id % 4096) with
  | some w => if w.id = id then some (id % 4096, w) else none
  | none => none

/-- No index is free. -/
def Dev.wbFull (d : Dev) : Bool := 4096 ≤ d.wb.used && d.wb.freed.isEmpty

/-- The order in which the store is worked through: waybills by place of creation. -/
def Dev.wbList (d : Dev) : List (Nat × Waybill) := sortNat (fun (p : Nat × Waybill) => p.2.no) d.wb.store

/-- Change operand `j`. -/
def Waybill.opSet (w : Waybill) (j : Nat) (f : WbOp → WbOp) : Waybill :=
  { w with ops := w.ops.zipIdx.map fun p => if p.2 = j then f p.1 else p.1 }

/-- Every operand below `j` has arrived. -/
def Waybill.lower (w : Waybill) (j : Nat) : Bool := (w.ops.take j).all fun o => o.arrived

/-- Place in the arrival order, and the state that has used it. -/
def Dev.wbStamp (d : Dev) : Nat × Dev := (d.wb.count, { d with wb := { d.wb with count := d.wb.count + 1 } })

/-! ### Timers (R380, R381) -/

/-- Tick of WAIT_LIMIT while it runs. -/
def Waybill.waitDue (w : Waybill) : Option Nat := if w.state = 1 && w.waitLim != 0 then some (w.tAccept + 100 * w.waitLim) else none

/-- Tick of RUN_LIMIT while it runs. -/
def Waybill.runDue (w : Waybill) : Option Nat :=
  match w.tDisp with
  | some t => if w.state = 3 && w.runLim != 0 then some (t + 100 * w.runLim) else none
  | none => none

/-- Earliest tick of an armed DELAY operand. -/
def Waybill.delayDue (w : Waybill) : Option Nat :=
  if w.state = 1 then ((w.ops.filter fun o => o.kind == 6 && o.armed && !o.arrived).map fun o => o.due).min? else none

/-- The delay entry: the earliest of the waybill's running timers. -/
def Waybill.due (w : Waybill) : Option Nat := ([w.waitDue, w.runDue, w.delayDue].filterMap fun x => x).min?

/-! ### ORDER frames (R376) -/

/-- Payload of an ORDER frame, KIND included. -/
def orderPayload (w : Waybill) (cancel : Bool) : List Byte :=
  u8 2 ++ u16 w.id ++ u8 (fld w.arg 0 1) ++ u8 (b2n cancel) ++ u16 w.lot ++ (w.arg.drop 2).take 22 ++ zeros 2

/-- A frame with CANCEL set is queued; the order's own frame is no longer repeated. -/
def Dev.sendCancel (d : Dev) (i : Nat) : Dev :=
  match tabFind d.wb.store i with
  | some w =>
    let (n, d) := d.wbStamp
    let f : CancelFr := { no := n, m := w.machine.getD 0xFF, copy := d.nextCopy, qAt := d.now, payload := orderPayload w true }
    ({ d with wb := { d.wb with cancels := d.wb.cancels ++ [f] } }).wbPut i { w with cancel := true, queued := false }
  | none => d

/-- Orders in the order queue. -/
def Dev.orders (d : Dev) : Nat := (d.wb.store.filter fun p => p.2.queued).length

/-! ### Ends (R382-R387) -/

/-- The waybill bound to a machine. -/
def Dev.boundWb (d : Dev) (m : Nat) : Option (Nat × Waybill) := d.wb.store.find? fun p => p.2.machine == some m && p.2.state != 4

/-- The machine bound to a waybill is unbound; it shows no lot. -/
def Dev.wbUnbind (d : Dev) (w : Waybill) : Dev :=
  match w.machine with
  | some m =>
    ((d.set R.WB_MACH_BOUND 0xFFFF m).set R.WB_MACH_LOT_VALID 0 m).set R.WB_MACH_LOT 0 m
  | none => d

/-- Queued and parked route requests of a waybill are withdrawn (R369). -/
def Dev.wbWithdraw (d : Dev) (i : Nat) : Dev :=
  let keep := fun (q : Req) => q.wb != some i
  { d with rsv := { d.rsv with queue := d.rsv.queue.filter keep, parked := d.rsv.parked.filter keep } }.rsvCounts

/-- A waybill ends; an end once decided stands (R392). Its record then waits to be written. -/
def Dev.wbEnd (d : Dev) (i status detail result : Nat) : Dev :=
  match tabFind d.wb.store i with
  | none => d
  | some w =>
    if w.state = 4 then d
    else
      let d := (d.wbUnbind w).wbWithdraw i
      let d := { d with axs := { d.axs with ax := tabMapV d.axs.ax fun _ x => if x.wb = some i then { x with wb := none } else x } }
      let d := if status ≤ 1 && bitOf w.bind 0 && w.lot != 0xFFFF then d.bindLater w.mask w.lot else d
      let d := d.wbPut i { w with state := 4, tEnd := d.tickNow, tState := d.tickNow, yEnd := d.now, status := status, detail := detail, result := result, queued := false, copy := d.nextCopy }
      { (d.inc R.WB_COUNTS_ENDED) with wb := { d.wb with ending := d.wb.ending ++ [i], port := d.wb.port ++ [.ended w.id status] } }

/-! ### Operands (R363-R371) -/

/-- Whether a WAYBILL operand arrives on an end of the waybill it names. -/
def depGood (o : WbOp) (status : Nat) : Bool := status == 0 || bitOf o.key 16

/-- An operand is armed (R364), and arrives at once where its condition holds. -/
def Dev.armOp (d : Dev) (i : Nat) (w : Waybill) (j : Nat) (o : WbOp) : Dev :=
  let put := fun (d : Dev) (o : WbOp) => d.wbPut i (w.opSet j fun _ => { o with armed := true })
  match o.kind with
  | 0 => put d { o with arrived := true }
  | 2 =>
    if fld ((tabFind d.wb.templates (o.key % 512)).getD []) 0 1 = 0 then (put d o).wbEnd i 2 6 0
    else put d { o with req := 1, sf0 := d.sfn }
  | 3 => put d { o with arrived := d.confirmed (o.key % 16) (bits o.key 4 2) }
  | 5 => put d { o with arrived := bitOf o.key 12 && d.bit R.WB_HOSTFLAG_FLAG (o.key % 32) (o.key % 4096 / 32) }
  | 6 =>
    let (n, d) := d.wbStamp
    d.wbPut i { (w.opSet j fun _ => { o with armed := true, due := d.tickNow + o.key }) with stamp := n }
  | 7 => put d { o with arrived := o.arrived || o.got == 1 }
  | _ => put d o

/-- A waybill fires: it joins the tail of its rank (R360, R374). -/
def Dev.wbFire (d : Dev) (i : Nat) (w : Waybill) : Dev :=
  let (n, d) := d.wbStamp
  d.wbPut i { w with state := 2, tFire := some d.tickNow, tState := d.tickNow, rankNo := n }

/-- What may be armed is armed, lowest operand first. A WAYBILL operand whose waybill ended otherwise ends the waybill, armed or
not (R371); when every operand has arrived the waybill fires. -/
def Dev.wbAdvance (d : Dev) (i : Nat) : Dev :=
  let d := [0, 1, 2, 3].foldl (fun (d : Dev) (j : Nat) =>
    match tabFind d.wb.store i with
    | some w =>
      let o := w.ops.getD j {}
      if w.state = 1 && !o.armed && (!o.ordered || w.lower j) then d.armOp i w j o else d
    | none => d) d
  match tabFind d.wb.store i with
  | some w =>
    if w.state = 1 && w.ops.any fun o => o.kind == 7 && o.got == 2 then d.wbEnd i 2 5 0
    else if w.state = 1 && w.lower 4 then d.wbFire i w else d
  | none => d

/-- Every WAITING waybill's operands pass through a function; where one changed, the waybill is carried on. -/
def Dev.wbEach (d : Dev) (f : Waybill → WbOp → WbOp) : Dev :=
  d.wbList.foldl (fun (d : Dev) (p : Nat × Waybill) =>
    match tabFind d.wb.store p.1 with
    | some w =>
      let ops := w.ops.map (f w)
      if w.state = 1 && ops != w.ops then (d.wbPut p.1 { w with ops := ops }).wbAdvance p.1 else d
    | none => d) d

/-- A refusal after which the request is made again at the next superframe start (R369). -/
def routeAgain (reason : Nat) : Bool := reason == 1 || reason == 4 || reason == 5 || reason == 6 || reason == 11

/-- A decision on a waybill's route request (R369). -/
def Dev.wbRoute (d : Dev) (i no out reason : Nat) : Dev :=
  match tabFind d.wb.store i with
  | none => d
  | some w =>
    match w.ops.findIdx? fun o => o.kind == 2 && o.req == 2 && o.reqNo == no with
    | none => d
    | some j =>
      if w.state != 1 then d
      else match out with
        | 0 => (d.wbPut i (w.opSet j fun o => { o with arrived := true, req := 0 })).wbAdvance i
        | 1 => if routeAgain reason then d.wbPut i (w.opSet j fun o => { o with req := 3 }) else d.wbEnd i 7 6 reason
        | 2 => d.wbEnd i 8 6 0
        | _ => d.wbEnd i 2 6 0

/-- A bound machine rejoins, is evicted, or is set DISABLE (R386). -/
def Dev.wbLost (d : Dev) (m cause : Nat) : Dev :=
  match d.boundWb m with
  | some (i, w) =>
    let d := if w.state = 3 && w.target = 1 && cause != 1 then d.sendCancel i else d
    (d.record 0x0A06 (u8 m ++ u16 w.id ++ u8 cause)).wbEnd i 2 7 0
  | none => d

/-- One input at the port takes its full effect (R361). -/
def Dev.portTake (d : Dev) (x : WbIn) : Dev :=
  match x with
  | .route i no out reason => d.wbRoute i no out reason
  | .axis a w on => d.wbEach fun _ o => if o.kind = 3 && o.armed && o.key = a + 16 * w then { o with arrived := on } else o
  | .pulse n => d.wbEach fun _ o =>
      if o.kind = 8 && o.armed && !o.arrived && o.key % 16 = n then { o with got := o.got + 1, arrived := decide (o.key / 16 ≤ o.got + 1) } else o
  | .moveEnd i status detail =>
    match tabFind d.wb.store i with
    | some w => if w.state = 3 && w.target = 2 then d.wbEnd i status (if status = 2 && w.cancel then 1 else detail) 0 else d
    | none => d
  | .ended id status =>
    d.wbEach fun _ o =>
      if o.kind = 7 && o.key % 65536 = id && !o.arrived && o.got = 0 then
        (if depGood o status then { o with got := 1, arrived := o.armed } else { o with got := 2 })
      else o
  | .lost m cause => d.wbLost m cause

/-! ### Binding (R368) -/

/-- Machine m is free. -/
def Dev.wbFree (d : Dev) (m : Nat) : Bool :=
  d.joined m && (d.boundWb m).isNone && !d.stopped m && !d.on R.WB_MACH_DISABLE m

/-- The lowest free machine that suits a MACHINE key. -/
def Dev.wbSuits (d : Dev) (key : Nat) : Option Nat :=
  ((d.rsv.upl.map fun p => p.1).filter fun m =>
    (if key % 512 < 256 then m == key % 256 else d.bit R.WB_POOL_MEMBER (m % 32) (key % 16) (m / 32)) && d.wbFree m).min?

/-- The armed MACHINE operand of a waybill that still waits. -/
def Waybill.wantsMach (w : Waybill) : Option Nat :=
  if w.state = 1 then w.ops.findIdx? fun o => o.kind == 1 && o.armed && !o.arrived else none

/-- One machine is bound: the waybill of lowest rank first, then the one created first. -/
def Dev.bindOne (d : Dev) : Option Dev :=
  let l := (sortNat (fun (p : Nat × Waybill) => p.2.rank) d.wbList).findSome? fun p =>
    match p.2.wantsMach with
    | some j => (d.wbSuits (p.2.ops.getD j {}).key).map fun m => (p.1, p.2, j, m)
    | none => none
  match l with
  | some (i, w, j, m) =>
    let d := d.wbPut i { (w.opSet j fun o => { o with arrived := true }) with machine := some m }
    let d := d.set R.WB_MACH_BOUND w.id m
    let d := if w.lot != 0xFFFF then (d.set R.WB_MACH_LOT w.lot m).set R.WB_MACH_LOT_VALID 1 m else d
    some (d.wbAdvance i)
  | none => none

/-! ### Docks (R461) -/

/-- The lot a dock with SEG_EN takes: that of the machine that occupies its segment. -/
def Dev.dockLotNow (d : Dev) (k : Nat) : Nat :=
  let s := d.get R.MTR_DOCK_CFG_SEG k
  let m := d.holder s
  if m < 240 && d.segSt s == 2 && d.on R.WB_MACH_LOT_VALID m then d.get R.WB_MACH_LOT m else acctHouse

/-- Docks follow occupancy and bindings. -/
def Dev.dockBind (d : Dev) : Dev :=
  (List.range 6).foldl (fun (d : Dev) (k : Nat) =>
    if !d.on R.MTR_DOCK_CFG_SEG_EN k then d
    else
      let l := d.dockLotNow k
      if l = (tabFind d.mtr.dockLot k).getD acctHouse then d
      else { (d.bindLater (2 ^ (17 + k)) l) with mtr := { (d.bindLater (2 ^ (17 + k)) l).mtr with dockLot := tabPut d.mtr.dockLot k l } }) d

/-! ### Dispatch (R374, R375) -/

/-- The body of a dispatch item. -/
def dispBody (w : Waybill) : List Byte :=
  u16 w.id ++ zeros 2 ++ u8 (w.machine.getD 0xFF) ++ zeros 1 ++ u16 w.lot ++ u64 w.user ++ w.arg

/-- The target can take a waybill now. -/
def Dev.canTake (d : Dev) (w : Waybill) : Bool :=
  match w.target with
  | 0 => true
  | 1 => d.orders < 256
  | 2 =>
    let a := fld w.arg 0 1
    (d.axis a).code < 2 && !d.axLocked a && !d.loopNames a
  | _ => !d.ring.dropping && (d.itemBp (d.get R.WB_CFG_DISP_RING) 0x0A03 d.now (dispBody w)).1

/-- The waybills of a rank, in arrival order. -/
def Dev.rankList (d : Dev) (r : Nat) : List (Nat × Waybill) :=
  sortNat (fun (p : Nat × Waybill) => p.2.rankNo) (d.wb.store.filter fun p => p.2.state == 2 && p.2.rank == r)

/-- The first waybill of a rank whose target can take it, where none of its target waits before it. -/
def Dev.rankPick (d : Dev) : List (Nat × Waybill) → List Nat → Option (Nat × Waybill)
  | [], _ => none
  | p :: t, blocked =>
    if blocked.contains p.2.target then d.rankPick t blocked
    else if d.canTake p.2 then some p
    else d.rankPick t (p.2.target :: blocked)

/-- The dispatcher rests: during a grant hold and up to the first superframe after it (R394). -/
def Dev.dispRests (d : Dev) : Bool := d.on R.RSV_STATUS_GRANT_HOLD || (d.rsv.holdSf != 0 && d.sfn ≤ d.rsv.holdSf)

/-- A waybill is dispatched to its target (R375, R379). -/
def Dev.wbDispatch (d : Dev) (i : Nat) (w : Waybill) : Dev :=
  let (n, d) := d.wbStamp
  let w := { w with state := 3, tDisp := some d.tickNow, tState := d.tickNow, stamp := n }
  let d := d.wbPut i w
  let d := if !bitOf w.bind 0 && w.lot != 0xFFFF then d.bindLater w.mask w.lot else d
  match w.target with
  | 0 => d.wbEnd i 0 0 0
  | 1 => d.wbPut i { w with queued := true, qAt := d.now, tries := 0, sent := 0, taken := false, copy := d.nextCopy }
  | 2 =>
    let a := fld w.arg 0 1
    match d.moveRefusal a 2 (sfld w.arg 4 4) with
    | none => d.startMove a 2 (sfld w.arg 4 4) none (some i)
    | some .noGrant => d.wbEnd i 7 0 0
    | some _ => d.wbEnd i 2 10 0
  | _ => (d.itemBp (d.get R.WB_CFG_DISP_RING) 0x0A03 d.now (dispBody w)).2

/-- The dispatcher takes one waybill. -/
def Dev.wbDispatchOne (d : Dev) : Dev :=
  if d.dispRests then d
  else match (List.range 8).findSome? fun r => d.rankPick (d.rankList r) [] with
    | some (i, w) => d.wbDispatch i w
    | none => d

/-! ### The views (R397-R402) -/

/-- WB_STATUS, WB_RANK, WB_DELAY and FREE follow the store. -/
def Dev.wbView (d : Dev) : Dev :=
  let d := ((d.set R.WB_STATUS_IN_FLIGHT d.wb.store.length).set R.WB_STATUS_READY ((d.wb.store.filter fun p => p.2.state == 2).length)).put R.WB_STATUS_STORE_FULL d.wbFull
  let d := (d.set R.WB_DELAY_USED ((d.wb.store.filter fun p => p.2.due.isSome).length)).set R.WB_FIFO_DEPTH d.wb.fifo.length
  let d := d.put R.WB_STATUS_FIFO_FULL (decide (8192 ≤ d.wb.fifo.length))
  let d := (List.range 8).foldl (fun (d : Dev) (r : Nat) =>
    let l := d.rankList r
    let bl := [0, 1, 2, 3].filter fun t => l.any fun p => p.2.target == t && !d.canTake p.2
    (d.set R.WB_RANK_COUNT l.length r).set R.WB_RANK_BLOCKED ((bl.map fun t => 2 ^ t).sum) r) d
  d.rsv.upl.foldl (fun (d : Dev) (p : Nat × Upl) => d.put R.WB_MACH_FREE (d.wbFree p.1) p.1) d

/-- Inputs at the port are taken one after another, and free machines bound, until nothing is left. -/
def Dev.settleN : Nat → Dev → Dev
  | 0, d => d
  | n + 1, d =>
    match d.wb.port with
    | x :: t => Dev.settleN n (({ d with wb := { d.wb with port := t } } : Dev).portTake x)
    | [] => match d.bindOne with
      | some d' => Dev.settleN n d'
      | none => d

/-- The engine works off its port. Each of the 4,096 indices can be bound once and end once on the way. -/
def Dev.settle (d : Dev) : Dev := (Dev.settleN (d.wb.port.length + 8193) d).dockBind.wbView

/-! ### Creating (R367, R371-R373) -/

/-- Operand `j` of a WB_CREATE, with ORDERED as R364 treats it. -/
def opOf (a : List Byte) (j : Nat) : WbOp :=
  let b := fld a (16 + 4 * j) 1
  let k := b % 16
  let key := fld a (17 + 4 * j) 3
  { kind := k, ordered := bitOf b 4 || k == 2 || k == 6 || k == 8 || (k == 4 && !bitOf key 16), key := key }

/-- KIND and KEY are listed (R363). -/
def opOk (a : List Byte) (j : Nat) : Bool :=
  let o := opOf a j
  fld a (16 + 4 * j) 1 < 32 &&
    (match o.kind with
     | 0 => o.key == 0
     | 1 => o.key < 240 || (256 ≤ o.key && o.key < 272)
     | 2 => bits o.key 9 7 == 0 && o.key / 65536 != 0
     | 3 => o.key < 64
     | 4 => o.key < 2 ^ 17 && 1 ≤ o.key % 65536 && o.key % 65536 < 0x8000
     | 5 => o.key < 2 ^ 13
     | 6 => o.key != 0
     | 7 => o.key < 2 ^ 17
     | 8 => 16 ≤ o.key
     | _ => false)

/-- R366 holds: at most one MACHINE operand, at a lower index than what needs it. -/
def opsOk (ops : List WbOp) (target : Nat) : Bool :=
  let k := ops.findIdx? fun o => o.kind == 1
  (ops.filter fun o => o.kind == 1).length ≤ 1 && (target != 1 || k.isSome) &&
    ops.zipIdx.all fun p => !(p.1.kind == 2 || (p.1.kind == 4 && !bitOf p.1.key 16)) || (match k with | some i => i < p.2 | none => false)

/-- The block area of a WB_CREATE is well formed (R373). -/
def createOk (a : List Byte) : Bool :=
  let lot := fld a 4 2
  fld a 1 1 < 8 && fld a 2 1 < 4 && fld a 3 1 ≤ 4 && (lot < 256 || lot == 0xFFFF) && fld a 6 1 < 2 && fld a 7 1 == 0 &&
    fld a 12 4 < 2 ^ 17 && (lot != 0xFFFF || fld a 12 4 == 0) && zeroAt a (16 + 4 * fld a 3 1) (16 - 4 * fld a 3 1) &&
    ((List.range (fld a 3 1)).all fun j => opOk a j) && opsOk ((List.range 4).map (opOf a)) (fld a 2 1) &&
    fld a 40 8 != 0 && fld a 40 8 % 16 == 0

/-- Bytes 0-31 of the argument block are well formed for a target (R367). -/
def argOk (target : Nat) (b : List Byte) : Bool :=
  match target with
  | 0 => zeroAt b 0 32
  | 1 => fld b 0 1 != 0 && fld b 1 1 == 0 && zeroAt b 24 8
  | 2 => fld b 0 1 < 16 && zeroAt b 1 3 && zeroAt b 8 24
  | _ => true

/-- Completions of WB descriptors that wait to be written: for a drawbar copy, or for the end of a pause. -/
def Dev.wbWaiting (d : Dev) : Nat :=
  (d.wb.heldRecs.filter fun x => x.2.1.block == 0x0A).length + (d.ring.deferred.filter fun x => x.1.block == 0x0A).length

/-- The source sequence the next completion of the engine will carry. -/
def Dev.wbNextSeq (d : Dev) : Nat := ((tabFind d.ring.seqs 0x0A00).getD 0 + d.wbWaiting) % 2 ^ 24

/-- A WB descriptor's result and completion leave once the standby has acknowledged a copy that holds its cause (R394). -/
def Dev.wbComplete (d : Dev) (q : Desc) (st : Status) (addr : Nat) (b : List Byte) : Dev :=
  if d.copySafe d.nextCopy && d.wb.heldRecs.isEmpty then (if b.isEmpty then d else d.toHost addr b).complete q st
  else { d with wb := { d.wb with heldRecs := d.wb.heldRecs ++ [(d.nextCopy, q, st.code, addr, b)] } }

/-- A status from its code. -/
def Status.ofCode : Nat → Status
  | 0 => .done | 1 => .donePartial | 2 => .aborted | 3 => .refusedState | 4 => .badDescriptor | 5 => .keyStale | 6 => .keyDenied
  | 7 => .noGrant | 8 => .timeout | 9 => .versionDenied | 10 => .eccUncorrectable | _ => .notHoldingReins

/-- Completions whose drawbar copy has been acknowledged are written, in order. -/
def Dev.wbRelease (d : Dev) : Dev :=
  let l := d.wb.heldRecs.takeWhile fun x => d.copySafe x.1
  let d := { d with wb := { d.wb with heldRecs := d.wb.heldRecs.drop l.length } }
  l.foldl (fun (d : Dev) (x : Nat × Desc × Nat × Nat × List Byte) =>
    (if x.2.2.2.2.isEmpty then d else d.toHost x.2.2.2.1 x.2.2.2.2).complete x.2.1 (.ofCode x.2.2.1)) d

/-- The result of a WB_CREATE. -/
def wbResult (w : Waybill) : List Byte := u16 w.id ++ zeros 2 ++ u32 w.seq ++ u64 w.yAccept

/-- The named waybill of a WAYBILL operand is known: in the store, or as an ended record; the status where it has ended. -/
def Dev.depState (d : Dev) (id : Nat) : Option (Option Nat) :=
  match tabFind d.wb.store (id % 4096) with
  | some w => if w.id = id then some (if w.state = 4 then some w.status else none) else none
  | none => match tabFind d.wb.ended (id % 4096) with
    | some (e, st, _) => if e = id then some (some st) else none
    | none => none

/-- An operand as it enters the store: a WAYBILL operand whose waybill has ended is settled by that end. -/
def Dev.opEnter (d : Dev) (o : WbOp) : WbOp :=
  if o.kind = 7 then
    match d.depState (o.key % 65536) with
    | some (some st) => { o with got := if depGood o st then 1 else 2 }
    | _ => o
  else o

/-- Take a free index: those never given out first, then the head of the free list; the generation rises (R359). -/
def Dev.wbIndex (d : Dev) : Nat × Dev :=
  if d.wb.used < 4096 then (d.wb.used, { d with wb := { d.wb with used := d.wb.used + 1 } })
  else (d.wb.freed.headD 0, { d with wb := { d.wb with freed := d.wb.freed.drop 1 } })

/-- A waybill is accepted. -/
def Dev.wbAccept (d : Dev) (q : Desc) (a b : List Byte) : Dev :=
  let seq := d.wbNextSeq
  let (i, d) := d.wbIndex
  let (n, d) := d.wbStamp
  let gen := match tabFind d.wb.ended i with | some (e, _, _) => (e / 4096 + 1) % 16 | none => 0
  let w : Waybill := {
    id := i + 4096 * gen, rank := fld a 1 1, target := fld a 2 1, ops := (List.range 4).map fun j => d.opEnter (opOf a j)
    raw := (a.drop 16).take 16, lot := fld a 4 2, bind := fld a 6 1, mask := fld a 12 4, waitLim := fld a 8 2, runLim := fld a 10 2
    user := fld a 32 8, arg := fit 32 b, seq := seq, tAccept := d.tickNow, tState := d.tickNow, yAccept := d.now, no := n, stamp := n }
  let d := { d with wb := { d.wb with ended := tabDel d.wb.ended i, createSeq := seq } }.wbPut i w
  let d := if d.wbFull && !d.wb.full then { d with wb := { d.wb with full := true } }.record 0x0A03 (u8 (Config.argCode 0x0A03 0)) else d
  (d.wbAdvance i).wbComplete q .done (fld a 40 8 + 32) (wbResult w)

/-- WB_CREATE on a taken descriptor (R367, R371-R373). -/
def Dev.wbCreate (d : Dev) (q : Desc) (mem : Option (List Byte)) : Dev :=
  let a := q.area
  if !createOk a then d.complete q .badDescriptor
  else match mem with
    | none =>
      if !d.reins then d.complete q .notHoldingReins
      else if !q.gate then d.complete q .refusedState
      else d.complete q .aborted
    | some b =>
      let b := fit 32 b
      if !argOk (fld a 2 1) b then d.complete q .badDescriptor
      else if !d.reins then d.complete q .notHoldingReins
      else if !q.gate then d.complete q .refusedState
      else match d.wb.store.find? fun p => fld a 32 8 != 0 && p.2.user == fld a 32 8 with
        | some (_, w) => d.wbComplete q .done (fld a 40 8 + 32) (wbResult w)
        | none =>
          if (List.range 4).any fun j => (opOf a j).kind == 7 && (d.depState ((opOf a j).key % 65536)).isNone then d.complete q .refusedState
          else d.wbAccept q a b

/-- WB_CREATE (R367): while no index is free it is not taken (R373). -/
def execWbCreate (mem : Option (List Byte)) (s : State) : Res :=
  onDev (fun d => if d.wbFull then d else match d.take 0x0A 1 with | some (q, d) => (d.wbCreate q mem).settle | none => d) s

/-! ### Route requests (R369) -/

/-- The request of a waybill's ROUTE operand. -/
def Dev.wbReq (d : Dev) (i : Nat) (w : Waybill) (o : WbOp) : Req :=
  let t := (tabFind d.wb.templates (o.key % 512)).getD []
  let l := (List.range (fld t 0 1)).map fun k => fld t (8 + 2 * k) 2
  { m := w.machine.getD 0xFF, route := l.map fun e => (e % 2048, b2n (bitOf e 11)), stopOfs := fld t 2 2, wait := true, auth := true
    timeout := o.sf0 + o.key / 65536 - d.sfn, wb := some i }

/-- The reservation queue takes requests: it has room and EN is set (R294, R311). -/
def Dev.rsvRoom (d : Dev) : Bool := d.on R.RSV_CTRL_EN && d.rsv.queue.length < 64

/-- The first held request is placed. -/
def Dev.wbPlace (d : Dev) : Dev :=
  let f := d.wbList.findSome? fun p =>
    if p.2.state = 1 then (p.2.ops.findIdx? fun o => o.kind == 2 && o.armed && o.req == 1 && d.sfn < o.sf0 + o.key / 65536).map fun j => (p.1, p.2, j) else none
  match f with
  | some (i, w, j) =>
    if !d.rsvRoom then d
    else
      let no := d.rsv.nextReq
      let d := d.rsvEnqueue (d.wbReq i w (w.ops.getD j {}))
      d.wbPut i (w.opSet j fun o => { o with req := 2, reqNo := no })
  | none => d

/-- WB_ROUTE_PLACE (R369). -/
def execWbRoutePlace (s : State) : Res := onRun .sup (fun d => d.wbPlace.settle) s

/-- At a superframe start refused requests are made again (R369). -/
def Dev.wbSuperframe (d : Dev) : Dev := d.wbEach fun _ o => if o.kind = 2 && o.req = 3 then { o with req := 1 } else o

/-- WB_BUDGET_EXPIRY (R369). -/
def Dev.wbBudget (d : Dev) (i : Nat) : Dev :=
  match tabFind d.wb.store i with
  | some w =>
    match w.ops.find? fun o => o.kind == 2 && o.armed && !o.arrived with
    | some o => if w.state != 1 then d else (d.passTo ((o.sf0 + o.key / 65536) * superframe)).wbEnd i 8 6 0
    | none => d
  | none => d

/-- WB_BUDGET_EXPIRY (R369). -/
def execWbBudgetExpiry (i : Nat) (s : State) : Res := onRun .sup (fun d => (d.wbBudget i).settle) s

/-- WB_DISPATCH (R374, R375). -/
def execWbDispatch (s : State) : Res := onRun .sup (fun d => d.wbDispatchOne.settle) s

/-! ### Orders on the air (R376) -/

/-- An order that may go out in the present superframe. -/
def Dev.orderDue (d : Dev) (w : Waybill) : Bool :=
  w.queued && !w.taken && w.qAt + ms ≤ d.slotStart 41 && d.copySafe w.copy && w.sent != d.sfn + 1

/-- What the order queue sends next: arrival number, machine, payload, and the state once it is sent. -/
def Dev.orderNext (d : Dev) : Option (Nat × List Byte × Dev) :=
  let os : List (Nat × Nat × Waybill) := sortNat (fun x => x.1) ((d.wb.store.filter fun p => d.orderDue p.2).map fun p => (p.2.stamp, p.1, p.2))
  let cs := d.wb.cancels.filter fun c => c.qAt + ms ≤ d.slotStart 41 && d.copySafe c.copy
  match os.head?, cs.head? with
  | none, none => none
  | o, c =>
    let first : Bool := match o, c with | some o, some c => o.1 < c.no | some _, none => true | _, _ => false
    match o, c, first with
    | some (_, i, w), _, true =>
      some (w.machine.getD 0xFF, orderPayload w false, d.wbPut i { w with tries := w.tries + 1, sent := d.sfn + 1 })
    | _, some c, _ => some (c.m, c.payload, { d with wb := { d.wb with cancels := d.wb.cancels.filter fun x => x.no != c.no } })
    | _, _, _ => none

/-- ORDER_UNTAKEN (R376). -/
def Dev.orderUntaken (d : Dev) (i : Nat) : Dev :=
  match tabFind d.wb.store i with
  | some w =>
    if w.state != 3 || w.target != 1 || w.taken || !w.queued || w.tries < d.get R.WB_CFG2_ORDER_TRIES then d
    else
      let d := d.passTo ((w.sent - 1) * superframe + 347 * slotLen)
      ((d.sendCancel i).record 0x0A05 (u8 (w.machine.getD 0xFF) ++ u16 w.id)).wbEnd i 8 9 0
  | none => d

/-- ORDER_UNTAKEN_TIMEOUT (R376). -/
def execOrderUntakenTimeout (i : Nat) (s : State) : Res := onRun .sup (fun d => (d.orderUntaken i).settle) s

/-! ### Machine events (R377, R388, R389) -/

/-- The inbound FIFO has room. -/
def Dev.fifoRoom (d : Dev) : Bool := d.wb.fifo.length < 8192

/-- An event enters the FIFO; when it fills, event 0x0A02. -/
def Dev.fifoPut (d : Dev) (e : MEvt) : Dev :=
  let d := { d with wb := { d.wb with fifo := d.wb.fifo ++ [{ e with seq := d.wb.recSeq }], recSeq := d.wb.recSeq + 1 } }
  let d := (d.set R.WB_FIFO_DEPTH d.wb.fifo.length).set R.WB_FIFO_HWM (max (d.get R.WB_FIFO_HWM) d.wb.fifo.length)
  if d.fifoRoom then d else { d with wb := { d.wb with fifoFull := true } }.record 0x0A02 (u8 (Config.argCode 0x0A02 0))

/-- A machine event matched by nothing (R377). -/
def Dev.evtDiscard (d : Dev) (e : MEvt) : Dev := (d.inc R.WB_COUNTS_EVT_DISCARD).record 0x0A07 (u8 e.m ++ u16 e.code)

/-- A device code of R377. -/
def Dev.deviceCode (d : Dev) (e : MEvt) : Dev :=
  match d.wbFind (e.arg % 65536) with
  | some (i, w) =>
    if w.state != 3 || w.target != 1 || w.machine != some e.m || e.code = 0x8000 || 0x8004 ≤ e.code then (if e.code = 0x8004 then d else d.evtDiscard e)
    else match e.code with
      | 0x8001 => d.wbPut i { w with taken := true, queued := false }
      | 0x8002 => d.wbEnd i (if e.arg / 65536 = 0 then 0 else 1) 0 (e.arg / 65536)
      | _ => d.wbEnd i 2 (if w.cancel then 1 else 8) (e.arg / 65536)
  | none => if e.code = 0x8004 then d else d.evtDiscard e

/-- An EVENT operand that an event satisfies. -/
def evtHits (e : MEvt) (w : Waybill) (o : WbOp) : Bool :=
  w.state == 1 && o.kind == 4 && o.armed && !o.arrived && o.key % 65536 == e.code && (bitOf o.key 16 || w.machine == some e.m)

/-- An event is matched: operands satisfied, and the state after (R389). -/
def Dev.evtMatch (d : Dev) (e : MEvt) : Nat × Dev :=
  if 0x8000 ≤ e.code then (0, d.deviceCode e)
  else ((d.wb.store.map fun p => (p.2.ops.filter (evtHits e p.2)).length).sum, d.wbEach fun w o => if evtHits e w o then { o with arrived := true } else o)

/-- The event at the head of the FIFO leaves it; room again writes event 0x0A02. -/
def Dev.fifoPop (d : Dev) : Dev :=
  let d := { d with wb := { d.wb with fifo := d.wb.fifo.drop 1, matched := none } }
  if d.wb.fifoFull then { d with wb := { d.wb with fifoFull := false } }.record 0x0A02 (u8 (Config.argCode 0x0A02 1)) else d

/-- The engine takes the event at the head of the FIFO (R389). -/
def Dev.evtTake (d : Dev) : Dev :=
  match d.wb.fifo with
  | [] => d
  | e :: _ =>
    let (n, d) := match d.wb.matched with | some n => (n, d) | none => d.evtMatch e
    if d.on R.WB_CFG_EVT_EN then
      let (went, d') := d.itemBp (d.get R.WB_CFG_EVT_RING) 0x0A02 e.t (u8 e.m ++ zeros 1 ++ u16 e.code ++ u32 e.arg ++ u64 e.t ++ u16 n ++ zeros 14)
      if went then d'.fifoPop else { d' with wb := { d'.wb with matched := some n } }
    else d.fifoPop

/-- MACHINE_EVENT_TAKE (R389). -/
def execMachineEventTake (s : State) : Res := onRun .sup (fun d => d.evtTake.settle) s

/-! ### Ticks and limits (R380, R381) -/

/-- The DELAY operands of a waybill due by tick `t` arrive. -/
def Dev.delayArrive (d : Dev) (i t : Nat) : Dev :=
  match tabFind d.wb.store i with
  | some w =>
    if w.state != 1 then d
    else (d.wbPut i { w with ops := w.ops.map fun o => if o.kind = 6 && o.armed && o.due ≤ t then { o with arrived := true } else o }).wbAdvance i
  | none => d

/-- A limit of a waybill that has passed by tick `t` ends it. -/
def Dev.limitJudge (d : Dev) (i t : Nat) : Dev :=
  match tabFind d.wb.store i with
  | some w =>
    let past := fun (x : Option Nat) => match x with | some n => decide (n ≤ t) | none => false
    if past w.waitDue then d.wbEnd i 8 3 0
    else if past w.runDue then (if w.target = 1 then d.sendCancel i else d).wbEnd i 8 4 0
    else d
  | none => d

/-- Indices of the store by order of insertion into the delay list. -/
def Dev.delayList (d : Dev) : List Nat := (sortNat (fun (p : Nat × Waybill) => p.2.stamp) (d.wb.store.filter fun p => p.2.due.isSome)).map fun p => p.1

/-- A tick: due DELAY entries and all they bring about, then the limits. -/
def Dev.wbTick (d : Dev) : Dev :=
  let t := nextIdx d.clk.mono ms d.clk.tick
  let d := d.passToMono (t * ms)
  let d := { d with clk := { d.clk with tick := t + 1 } }.set R.WB_TICK_TICK t
  let d := (d.delayList.foldl (fun (d : Dev) (i : Nat) => d.delayArrive i t) d).settle
  (d.delayList.foldl (fun (d : Dev) (i : Nat) => d.limitJudge i t) d).settle

/-- WB_TICK (R380). -/
def execWbTick (s : State) : Res := onRun .sup Dev.wbTick s

/-- Pass to a tick, and do something there. -/
def Dev.atTick (d : Dev) (x : Option Nat) (f : Dev → Nat → Dev) : Dev :=
  match x with
  | some t => (f (d.passToMono (t * ms)) t).settle
  | none => d

/-- WB_DELAY_EXPIRY (R363). -/
def execWbDelayExpiry (i : Nat) (s : State) : Res :=
  onRun .sup (fun d => d.atTick ((tabFind d.wb.store i).bind fun w => w.delayDue) fun d t => d.delayArrive i t) s

/-- WB_WAIT_LIMIT (R381). -/
def execWbWaitLimit (i : Nat) (s : State) : Res :=
  onRun .sup (fun d => d.atTick ((tabFind d.wb.store i).bind fun w => w.waitDue) fun d t => d.limitJudge i t) s

/-- WB_RUN_LIMIT (R381). -/
def execWbRunLimit (i : Nat) (s : State) : Res :=
  onRun .sup (fun d => d.atTick ((tabFind d.wb.store i).bind fun w => w.runDue) fun d t => d.limitJudge i t) s

/-! ### Records (R382, R384, R385) -/

/-- The waybill record; fields whose word was lost read 0 (R387). The words are those of R404; words 14 and 15 stand for
what the entry keeps of acceptance, firing and dispatch. -/
def wbRecord (i : Nat) (w : Waybill) : List Byte :=
  let keep := fun (k v : Nat) => if bitOf w.lostWords k then 0 else v
  let idLost := bitOf w.lostWords 0
  let wait := match w.tFire with | some t => t - w.tAccept | none => 0xFFFFFFFF
  let run := match w.tDisp with | some t => w.tEnd - t | none => 0
  u16 (if idLost then 0xF000 + i else w.id) ++ u8 w.status ++ u8 w.detail ++ u8 (keep 1 (w.machine.getD 0xFF)) ++ u8 (keep 0 w.rank) ++
    u16 (keep 10 w.lot) ++ u64 (keep 7 (keep 6 w.user)) ++ u32 (keep 9 w.seq) ++ u32 (keep 14 wait) ++ u32 (keep 15 run) ++ u16 w.result ++
    u8 (b2n idLost) ++ zeros 1

/-- The next record is written once there is room and the standby holds its cause; its index goes to the tail of the free
list (R359, R388, R394). -/
def Dev.recordWrite (d : Dev) : Dev :=
  match d.wb.ending with
  | [] => d
  | i :: rest =>
    match tabFind d.wb.store i with
    | none => { d with wb := { d.wb with ending := rest } }
    | some w =>
      if !d.copySafe w.copy then d
      else
        let (went, d) := d.itemBp (d.get R.WB_CFG_DONE_RING) 0x0A01 w.yEnd (wbRecord i w)
        if !went then d
        else
          let e := if bitOf w.lostWords 0 then 0xF000 + i else w.id
          let d := { d with wb := { d.wb with
            ending := rest, store := tabDel d.wb.store i, freed := d.wb.freed ++ [i], ended := tabPut d.wb.ended i (e, w.status, w.tFire.isSome) } }
          if d.wb.full then { d with wb := { d.wb with full := false } }.record 0x0A03 (u8 (Config.argCode 0x0A03 1)) else d

/-- WB_RECORD_WRITE (R382). -/
def execWbRecordWrite (s : State) : Res := onRun .sup (fun d => d.recordWrite.settle) s

/-! ### Other descriptors (R390-R392) -/

/-- Take a TOKEN descriptor of an ACTION. -/
def Dev.takeToken (d : Dev) (p : Nat → Bool) : Option (Desc × Dev) := d.takeIf 0x0A 2 fun q => p (fld q.area 1 1)

/-- A TOKEN's fields are well formed. -/
def tokenOk (a : List Byte) : Bool := resvOk a [(0, 7)] && fld a 1 1 < 3 && fld a 2 2 < 4096 && fld a 6 1 < 4

/-- Checks every other WB descriptor shares: the area, the reins, EN at fetch. -/
def Dev.wbGate (d : Dev) (q : Desc) (ok : Bool) : Option Dev :=
  if !ok then some (d.complete q .badDescriptor)
  else if !d.reins then some (d.complete q .notHoldingReins)
  else if !q.gate then some (d.complete q .refusedState)
  else none

/-- TOKEN sets or clears a flag: level operands that watch it follow (R365). -/
def Dev.tokenFlag (d : Dev) (q : Desc) (on : Bool) : Dev :=
  match d.wbGate q (tokenOk q.area) with
  | some d => d
  | none =>
    let f := fld q.area 2 2
    let d := if d.bit R.WB_HOSTFLAG_FLAG (f % 32) (f / 32) == on then d
      else (d.setBit R.WB_HOSTFLAG_FLAG (f % 32) on (f / 32)).wbEach fun _ o =>
        if o.kind = 5 && o.armed && bitOf o.key 12 && o.key % 4096 = f then { o with arrived := on } else o
    d.wbComplete q .done 0 []

/-- TOKEN_SET (R390). -/
def execTokenSet (s : State) : Res :=
  onDev (fun d => match d.takeToken (fun a => a == 0) with | some (q, d) => (d.tokenFlag q true).settle | none => d) s

/-- TOKEN_CLEAR (R390). -/
def execTokenClear (s : State) : Res :=
  onDev (fun d => match d.takeToken (fun a => a == 1) with | some (q, d) => (d.tokenFlag q false).settle | none => d) s

/-- TOKEN deliver. -/
def Dev.tokenDeliver (d : Dev) (q : Desc) : Dev :=
  match d.wbGate q (tokenOk q.area) with
  | some d => d
  | none =>
    let j := fld q.area 6 1
    match d.wbFind (fld q.area 4 2) with
    | none => d.wbComplete q .done 0 []
    | some (i, w) =>
      let o := w.ops.getD j {}
      if w.state != 1 || o.kind = 0 then d.wbComplete q .done 0 []
      else if o.kind != 5 then d.complete q .badDescriptor
      else
        let d := if o.armed then (d.wbPut i (w.opSet j fun o => { o with arrived := true })).wbAdvance i else d
        d.wbComplete q .done 0 []

/-- TOKEN_DELIVER (R390); an ACTION that is not listed is refused here. -/
def execTokenDeliver (s : State) : Res :=
  onDev (fun d => match d.takeToken (fun a => 2 ≤ a) with | some (q, d) => (d.tokenDeliver q).settle | none => d) s

/-- CANCEL on a waybill (R392). -/
def Dev.wbCancelOne (d : Dev) (i : Nat) (w : Waybill) : Dev :=
  match w.state, w.target with
  | 1, _ | 2, _ => d.wbEnd i 2 1 0
  | 3, 1 => d.sendCancel i
  | 3, 2 =>
    let a := fld w.arg 0 1
    let d := (d.wbPut i { w with cancel := true }).axSync a
    if (d.axis a).wb = some i && !(d.axis a).stopping then d.brakeAxis a (d.axis a).prof.d else d
  | 3, 3 => d.wbEnd i 2 1 0
  | _, _ => d

/-- CANCEL on a taken descriptor. -/
def Dev.wbCancel (d : Dev) (q : Desc) : Dev :=
  match d.wbGate q (resvOk q.area [(0, 1), (2, 2)]) with
  | some d => d
  | none =>
    match d.wbFind (fld q.area 2 2) with
    | none => d.complete q .refusedState
    | some (i, w) => (d.wbCancelOne i w).wbComplete q .done 0 []

/-- WB_CANCEL (R392). -/
def execWbCancel (s : State) : Res :=
  onDev (fun d => match d.take 0x0A 3 with | some (q, d) => (d.wbCancel q).settle | none => d) s

/-- WB_DONE on a taken descriptor (R390). -/
def Dev.wbDone (d : Dev) (q : Desc) : Dev :=
  let a := q.area
  match d.wbGate q (resvOk a [(0, 1), (2, 3), (6, 2)] && fld a 4 1 < 3) with
  | some d => d
  | none =>
    match d.wbFind (fld a 2 2) with
    | none => d.complete q .refusedState
    | some (i, w) =>
      if w.state != 3 || w.target != 3 then d.complete q .refusedState
      else (d.wbEnd i (fld a 4 1) 0 (fld a 6 2)).wbComplete q .done 0 []

/-- WB_DONE (R390). -/
def execWbDone (s : State) : Res :=
  onDev (fun d => match d.take 0x0A 4 with | some (q, d) => (d.wbDone q).settle | none => d) s

/-- A route template holds to R391. -/
def templateOk (t : List Byte) : Bool :=
  let n := fld t 0 1
  let l := (List.range n).map fun k => fld t (8 + 2 * k) 2
  1 ≤ n && n ≤ 32 && fld t 1 1 == 0 && zeroAt t 4 4 && (l.all fun e => e < 4096) && zeroAt t (8 + 2 * n) (64 - 2 * n) &&
    noDup (l.map fun e => e % 2048)

/-- ROUTE_LOAD on a taken descriptor: every template is checked before any is written (R391). -/
def Dev.routeLoad (d : Dev) (q : Desc) (mem : Option (List Byte)) : Dev :=
  let a := q.area
  let first := fld a 2 2
  let n := fld a 4 2
  if !resvOk a [(0, 1), (2, 4), (8, 8)] || n = 0 || 512 < first + n || fld a 8 8 % 16 != 0 then d.complete q .badDescriptor
  else match mem with
    | none => (d.wbGate q true).getD (d.complete q .aborted)
    | some b =>
      let ts := (List.range n).map fun k => fit 72 (b.drop (72 * k))
      match d.wbGate q (ts.all templateOk) with
      | some d => d
      | none =>
        let t := ts.zipIdx.foldl (fun (t : Tab (List Byte)) (p : List Byte × Nat) => tabPut t (first + p.2) p.1) d.wb.templates
        ({ d with wb := { d.wb with templates := t } }.trialWrite 0).wbComplete q .done 0 []

/-- ROUTE_LOAD (R391). -/
def execRouteLoad (mem : Option (List Byte)) (s : State) : Res :=
  onDev (fun d => match d.take 0x0A 5 with | some (q, d) => (d.routeLoad q mem).settle | none => d) s

/-! ### Registers and losses (R386, R387, R393, R403) -/

/-- A write of WB_MACH[m] (R386). -/
def Dev.wbMachWrite (d : Dev) (m v : Nat) : Dev :=
  let d := d.writeAddr (R.WB_MACH_DISABLE.addr m) v
  if m < 240 && bitOf v 25 then d.wbLost m 3 else d

/-- WB_MACH_DISABLE_WRITE (R386). -/
def execWbMachDisableWrite (m : Nat) (v : Word32) (s : State) : Res := onReg R.WB_MACH_DISABLE (fun d => (d.wbMachWrite m v.toNat).settle) s

/-- The 64-byte entry WB_PEEK copies (R404); for a free index, the ended record. -/
def Dev.wbEntry (d : Dev) (i : Nat) : List Byte :=
  match tabFind d.wb.store i with
  | some w =>
    let m := fun (f : WbOp → Bool) => ((w.ops.zipIdx.filter fun p => f p.1).map fun p => 2 ^ p.2).sum
    let pulses := match w.ops.find? fun o => o.kind == 8 && o.armed with | some o => min o.got 0xFFFF | none => 0
    u16 w.id ++ u8 w.state ++ u8 w.rank ++ u8 w.target ++ u8 (m (fun o => o.arrived) + 16 * m fun o => o.armed) ++ u8 (w.machine.getD 0xFF) ++
      u8 w.bind ++ w.raw ++ u64 w.user ++ u32 w.mask ++ u32 w.seq ++ u16 w.lot ++ u16 w.waitLim ++ u16 w.runLim ++ u16 pulses ++
      u32 (w.due.getD 0) ++ u32 w.tState ++ zeros 8
  | none =>
    match tabFind d.wb.ended i with
    | some (e, st, fired) => fit 64 (u16 e ++ u8 0 ++ u8 st ++ u8 0 ++ u8 (b2n fired))
    | none => zeros 64

/-- A write of WB_PEEK_IDX (R403). -/
def Dev.wbPeek (d : Dev) (v : Nat) : Dev :=
  let d := d.writeAddr R.WB_PEEK_IDX_INDEX.addr v
  let e := d.wbEntry (d.get R.WB_PEEK_IDX_INDEX)
  (List.range 16).foldl (fun (d : Dev) (n : Nat) => d.set R.WB_PEEK_DATA_DATA (fld e (4 * n) 4) n) d

/-- WB_PEEK (R403). -/
def execWbPeek (v : Word32) (s : State) : Res := onReg R.WB_PEEK_IDX_INDEX (fun d => d.wbPeek v.toNat) s

/-- An uncorrectable store entry (R387): `lost` marks the words lost. -/
def Dev.wbEcc (d : Dev) (i lost : Nat) : Dev :=
  match tabFind d.wb.store i with
  | some w =>
    if w.state = 4 then d
    else ((d.wbPut i { w with lostWords := lost }).record 0x0A04 (u16 i)).wbEnd i 10 11 0
  | none => d

/-- WB_ECC_ERROR (R387). -/
def execWbEccError (i lost : Nat) (s : State) : Res := onRun .sup (fun d => (d.wbEcc i lost).settle) s

/-- A write of WB_CTRL: clearing EN ends every waybill (R393). -/
def Dev.wbCtrlWrite (d : Dev) (v : Nat) : Dev :=
  let was := d.on R.WB_CTRL_EN
  let d := d.writeAddr R.WB_CTRL_EN.addr v
  if was && !bitOf v 0 then
    d.wbList.foldl (fun (d : Dev) (p : Nat × Waybill) =>
      let d := if p.2.state = 3 && p.2.target = 1 then d.sendCancel p.1 else d
      d.wbEnd p.1 2 2 0) d
  else d

/-- WB_DISABLE (R393): a write of WB_CTRL with EN clear. -/
def execWbDisable (v : Word32) (s : State) : Res := onReg R.WB_CTRL_EN (fun d => if bitOf v.toNat 0 then d else (d.wbCtrlWrite v.toNat).settle) s

/-! ### Restart and the pair (R394, R395) -/

/-- The WAYB line of R395. -/
def Dev.wayBLine (d : Dev) : List Byte :=
  let n := fun (p : Waybill → Bool) => (d.wb.store.filter fun x => p x.2).length
  u64 d.now ++ u32 (d.get R.RING_JOURNAL_JOURNAL) ++ u32 d.wb.createSeq ++ u32 (((tabFind d.ring.seqs 0x0A01).getD 0 + 2 ^ 24 - 1) % 2 ^ 24) ++
    u16 d.wb.store.length ++ u16 (n fun w => w.state == 3) ++ u16 (n fun w => w.state == 3 && w.target == 1 && w.taken) ++ u16 d.wb.fifo.length ++ zeros 4

/-- At restart the WAYB line is mirrored and reported, or its absence (R395). -/
def Dev.wbRestart (d : Dev) (line : Option (List Byte)) : Dev :=
  match line with
  | some l =>
    let d := (List.range 8).foldl (fun (d : Dev) (n : Nat) => d.set R.WB_RESTART_LINE (fld l (4 * n) 4) n) d
    (d.set R.WB_RESTART_STAT_VALID 1).record 0x0A01 (l.take 16)
  | none => d.record 0x0A01 (zeros 16)

/-- The device takes the reins: every order of a DISPATCHED ORDER waybill goes out again (R394). -/
def Dev.wbTakeover (d : Dev) : Dev :=
  { d with wb := { d.wb with store := tabMapV d.wb.store fun _ w =>
      if w.state = 3 && w.target = 1 && !w.cancel then { w with queued := true, taken := false, qAt := d.now, tries := 0, sent := 0, copy := 0 } else w } }

end Sys2Proof.Machine
end

