-- ==== Sys2Proof/Machine/Interlock.lean ====
section
/-!
DEFINITION. The commands of the reservation engines, braking supervision, the axes and the pulse inputs whose decisions
reach the waybill engine's port (R361): each is carried out, and then the engine works off its port.
-/

namespace Sys2Proof.Machine

/-- Carry out a taken descriptor, then the engine's port. -/
def Dev.onDesc (d : Dev) (block op : Nat) (f : Dev → Desc → Dev) : Dev :=
  match d.take block op with
  | some (q, d) => (f d q).settle
  | none => d

/-- The same for a row that shares its OP with others and tells itself apart by its ACTION. -/
def Dev.onDescIf (d : Dev) (block op : Nat) (p : Nat → Bool) (f : Dev → Desc → Dev) (at_ : Nat := 1) : Dev :=
  match d.takeIf block op (fun q => p (fld q.area at_ 1)) with
  | some (q, d) => (f d q).settle
  | none => d

/-! ### Reservation -/

/-- ROUTE_EVALUATE (R291, R294, R309). -/
def execRouteEvaluate (eng : EngObs) (s : State) : Res := onRun .safe (fun d => (d.routeEvaluate eng).settle) s

/-- PARKED_TIMEOUT (R293). -/
def execParkedTimeout (no : Nat) (s : State) : Res := onRun .safe (fun d => (d.parkedTimeout no).settle) s

/-- GRANT_HOLD_END (R296). -/
def execGrantHoldEnd (s : State) : Res := onRun .safe (fun d => d.grantHoldEnd.settle) s

/-- EVICT (R301). -/
def execEvict (s : State) : Res := onDev (fun d => d.onDesc 0x08 3 fun d q => d.evict q) s

/-- SEGMENT_CLOSE (R302). -/
def execSegmentClose (s : State) : Res := onDev (fun d => d.onDescIf 0x08 4 (fun a => a == 0) fun d q => d.segClose q) s

/-- SEGMENT_OPEN (R302); an ACTION that is not listed is refused here. -/
def execSegmentOpen (s : State) : Res := onDev (fun d => d.onDescIf 0x08 4 (fun a => a != 0) fun d q => d.segOpen q) s

/-- XFER_IN (R306). -/
def execXferIn (mem : Option (List Byte)) (s : State) : Res :=
  onDev (fun d => d.onDescIf 0x08 7 (fun a => a == 1) fun d q => d.xferIn q mem) s

/-- XFER_DONE (R306). -/
def execXferDone (s : State) : Res := onDev (fun d => d.onDescIf 0x08 7 (fun a => a == 2) fun d q => d.xferDone q) s

/-- XFER_SET (R306); an ACTION that is not listed is refused here. -/
def execXferSet (s : State) : Res := onDev (fun d => d.onDescIf 0x08 7 (fun a => 3 ≤ a) fun d q => d.xferSet q) s

/-- RSV_DISABLE (R311): a write of RSV_CTRL with EN clear. -/
def execRsvDisable (v : Word32) (s : State) : Res := onReg R.RSV_CTRL_EN (fun d => if bitOf v.toNat 0 then d else (d.rsvCtrlWrite v.toNat).settle) s

/-! ### Braking supervision -/

/-- STOP (R339). -/
def execStop (s : State) : Res := onDev (fun d => d.onDesc 0x09 2 fun d q => d.stopDesc q) s

/-- STOP_RELEASE (R340). -/
def execStopRelease (s : State) : Res := onDev (fun d => d.onDesc 0x09 3 fun d q => d.stopRelease q) s

/-! ### Axes -/

/-- AX_MOVE (R521, R522). -/
def execAxMove (s : State) : Res := onDev (fun d => d.onDesc 0x0E 1 fun d q => d.axMove q) s

/-- AX_GMOVE (R525, R526). -/
def execAxGmove (s : State) : Res := onDev (fun d => d.onDesc 0x0E 2 fun d q => d.axGmove q) s

/-- AX_HOME (R533). -/
def execAxHome (s : State) : Res := onDev (fun d => d.onDesc 0x0E 3 fun d q => d.axHome q) s

/-- AX_STOP (R545). -/
def execAxStop (s : State) : Res := onDev (fun d => d.onDesc 0x0E 4 fun d q => d.axStop q) s

/-- AX_PROFILE (R523). -/
def execAxProfile (s : State) : Res := onDev (fun d => d.onDesc 0x0E 5 fun d q => d.axProfile q) s

/-- AX_ENABLE (R539). -/
def execAxEnable (s : State) : Res := onDev (fun d => d.onDescIf 0x0E 6 (fun a => a == 0) (fun d q => d.axEnable q) 2) s

/-- AX_DISABLE (R539). -/
def execAxDisable (s : State) : Res := onDev (fun d => d.onDescIf 0x0E 6 (fun a => a == 1) (fun d q => d.axDisable q) 2) s

/-- AX_CLEAR_FAULT (R545), told whether the cause of the fault persists; an ACTION that is not listed is refused here. -/
def execAxClearFault (persists : Bool) (s : State) : Res :=
  onDev (fun d => d.onDescIf 0x0E 6 (fun a => 2 ≤ a) (fun d q => d.axClear q persists) 2) s

/-- AX_WINDOW (R538). -/
def execAxWindow (s : State) : Res := onDev (fun d => d.onDesc 0x0E 7 fun d q => d.axWindow q) s

/-- AX_MOVE_END (R521). -/
def execAxMoveEnd (a : Nat) (s : State) : Res := onRun .motor (fun d => (d.axMoveEnd a).settle) s

/-- AX_STANDSTILL (R683). -/
def execAxStandstill (a : Nat) (s : State) : Res := onRun .motor (fun d => (d.axStandstill a).settle) s

/-- AX_CONFIRM (R536). -/
def execAxConfirm (a : Nat) (s : State) : Res := onRun .motor (fun d => (d.axConfirm a).settle) s

/-- AX_STAND_TIMEOUT (R529). -/
def execAxStandTimeout (a : Nat) (s : State) : Res := onRun .motor (fun d => (d.axStandTimeout a).settle) s

/-- AX_LIMIT_INPUT (R530, R531): a clean change of the pin LIM_LO or LIM_HI. -/
def execAxLimitInput (a : Nat) (hi level : Bool) (s : State) : Res :=
  onRun .motor (fun d => if a < 16 then (d.axInput a (if hi then 2 else 1) level).settle else d) s

/-- AX_HOME_EDGE (R530, R533, R534): an edge of the homing switch. -/
def execAxHomeEdge (a src : Nat) (edge : HomeEdge) (s : State) : Res :=
  onRun .motor (fun d =>
    if a < 16 && src < 3 then
      (match edge with | .raw => d.rawEdge a src | .clean level => d.axInput a src level).settle
    else d) s

/-- HOME_MAX_TRAVEL (R533). -/
def execHomeMaxTravel (a : Nat) (s : State) : Res := onRun .motor (fun d => (d.homeMax a).settle) s

/-- AX_OVERCURRENT (R527, R528): chopper cycles of a coil, the 16th in a row that trips by the end of BLANK being an overcurrent. -/
def execAxOvercurrent (a : CoilTrips) (s : State) : Res := onRun .motor (fun d => (d.axOver a.axis a.coil a.trips).settle) s

/-- AXS_DISABLE (R540): a write of AXS_CTRL with EN clear. -/
def execAxsDisable (v : Word32) (s : State) : Res := onReg R.AXS_CTRL_EN (fun d => if bitOf v.toNat 0 then d else (d.axsCtrlWrite v.toNat).settle) s

/-! ### Pulse inputs -/

/-- A debounced level of a pulse input; a counted edge reaches the engine while SUP runs (R361, R463). -/
def Dev.pulseEdge (d : Dev) (n level : Nat) : Dev :=
  let (counted, d) := d.pulseLevel n level
  if counted && d.runs .sup then { d with wb := { d.wb with port := d.wb.port ++ [WbIn.pulse n] } }.settle else d

/-- Without METER the always-on counters of inputs 0-3 count on, and the next boot adds them (R466, R476). -/
def Dev.aonEdge (d : Dev) (n level : Nat) : Dev :=
  if 4 ≤ n || 2 ≤ level || !d.powered || !d.runs .aon || d.sys.lost.contains (regionCode .field) then d
  else
    let was := d.get R.MTR_PI_STAT_LEVEL n
    let d := d.set R.MTR_PI_STAT_LEVEL level n
    if was = 1 && level = 0 then
      { d with aon := { cnt := tabPut d.aon.cnt n (tabGet d.aon.cnt n + 1), cmp := tabPut d.aon.cmp n (tabGet d.aon.cmp n + 1) } } else d

/-- PULSE_IN_EDGE (R463). -/
def execPulseInEdge (n level : Nat) (s : State) : Res := onDev (fun d => if d.runs .meter then d.pulseEdge n level else d.aonEdge n level) s

end Sys2Proof.Machine
end

