-- ==== Sys2Proof/Machine/Ctl.lean ====
section
/-!
DEFINITION. Dryer and aeration loops (R487-R516): block-floating arithmetic, the control law, closing, select groups,
outputs, and the CTL descriptors.
-/

namespace Sys2Proof.Machine

/-! ### Exact fractions and block-floating values (R494) -/

/-- An exact fraction; the denominator is not 0. -/
structure Frac where
  n : Int
  d : Nat := 1
  deriving DecidableEq, Repr

/-- Sum. -/
def Frac.add (a b : Frac) : Frac := { n := a.n * b.d + b.n * a.d, d := a.d * b.d }
/-- Negative. -/
def Frac.neg (a : Frac) : Frac := { a with n := -a.n }
/-- Difference. -/
def Frac.sub (a b : Frac) : Frac := a.add b.neg
/-- Product. -/
def Frac.mul (a b : Frac) : Frac := { n := a.n * b.n, d := a.d * b.d }
/-- Quotient by a positive fraction. -/
def Frac.div (a b : Frac) : Frac := { n := a.n * b.d, d := a.d * b.n.toNat }
/-- Size. -/
def Frac.abs (a : Frac) : Frac := { a with n := a.n.natAbs }
/-- Order. -/
def Frac.lt (a b : Frac) : Bool := decide (a.n * b.d < b.n * a.d)
/-- Kept between two limits. -/
def Frac.clamp (a lo hi : Frac) : Frac :=
  let x := if a.lt lo then lo else a
  if hi.lt x then hi else x

/-- Nearest integer of `n / d`, ties to even. -/
def roundEven (n : Int) (d : Nat) : Int :=
  let q := n / (d : Int)
  let r := 2 * (n % (d : Int))
  if r < d then q else if r = d then (if q % 2 = 0 then q else q + 1) else q + 1

/-- Mantissa of a fraction at an exponent, for mantissas of `w` bits: the unit is 2^(E - 31 - w). -/
def mantAt (w : Nat) (f : Frac) (e : Nat) : Int := roundEven (f.n * 2 ^ (31 + w)) (f.d * 2 ^ e)

/-- The mantissa fits. -/
def mantFits (w : Nat) (m : Int) : Bool := decide (-(2 ^ (w - 1) : Int) ≤ m) && decide (m < 2 ^ (w - 1))

/-- The smallest exponent at which every value of a stage fits; 63 where none does. -/
def stageExp (w : Nat) (fs : List Frac) : Nat :=
  ((List.range 64).find? fun e => fs.all fun f => f.d != 0 && mantFits w (mantAt w f e)).getD 63

/-- A stage's values, sharing an exponent (R494). One that no exponent can hold has a mantissa the spec does not give. -/
def stage (w : Nat) (fs : List Frac) : List BF :=
  let e := stageExp w fs
  fs.map fun f =>
    let m := if f.d = 0 then 2 ^ (w - 1) else mantAt w f e
    { m := if mantFits w m then m else dec2 w (enc2 w (Config.bfOver f.n f.d)), e := e }

/-- Value of an 18-bit mantissa. -/
def BF.val (b : BF) : Frac := { n := b.m * 2 ^ b.e, d := 2 ^ 49 }
/-- Value of a 36-bit mantissa. -/
def BF.wide (b : BF) : Frac := { n := b.m * 2 ^ b.e, d := 2 ^ 67 }
/-- A BF24 word (R494). -/
def bf24 (w : Nat) : Frac := { n := dec2 18 w * 2 ^ bits w 18 6, d := 2 ^ 49 }
/-- A 16-bit fraction. -/
def frac16 (n : Nat) : Frac := { n := n, d := 65536 }
/-- One value as a stage of its own. -/
def bfOne (w : Nat) (f : Frac) : BF := (stage w [f]).headD {}
/-- A fraction as a 16-bit register shows it, saturating. -/
def to16 (f : Frac) : Nat := (max 0 (min 65535 (roundEven (f.n * 65536) f.d))).toNat

/-! ### Loops, banks and groups -/

/-- Loop state. -/
def Dev.loop (d : Dev) (l : Nat) : LoopSt := tabGet d.ctl.loops l
/-- Replace it. -/
def Dev.loopSet (d : Dev) (l : Nat) (x : LoopSt) : Dev := { d with ctl := { d.ctl with loops := tabPut d.ctl.loops l x } }
/-- MODE of a loop (R515). -/
def Dev.loopMode (d : Dev) (l : Nat) : Nat := d.get R.CTL_LOOP_STAT_MODE l
/-- A loop's bank. -/
def Dev.bank (d : Dev) (l b : Nat) : Bank := tabGet d.ctl.banks (2 * l + b)
/-- The active bank. -/
def Dev.bankOf (d : Dev) (l : Nat) : Bank := d.bank l (d.get R.CTL_LOOP_STAT_ACTIVE_BANK l)

/-- Two loops are in one select group (R502). -/
def Dev.sameGroup (d : Dev) (a b : Nat) : Bool :=
  d.on R.CTL_LOOP_CFG_GRP_EN a && d.on R.CTL_LOOP_CFG_GRP_EN b && d.get R.CTL_LOOP_CFG_GROUP a == d.get R.CTL_LOOP_CFG_GROUP b

/-- The enabled loops that share a loop's output selection: its group, or itself. -/
def Dev.unit (d : Dev) (l : Nat) : List Nat :=
  if d.on R.CTL_LOOP_CFG_GRP_EN l then (List.range 64).filter fun k => d.on R.CTL_LOOP_CFG_EN k && d.sameGroup l k else [l]

/-- CTL_STATUS, SWAP_PENDING of a loop, and VALID of its group follow. -/
def Dev.ctlView (d : Dev) (l : Nat) : Dev :=
  let n := fun (m : Nat) => ((List.range 64).filter fun k => d.loopMode k == m).length
  let d := (d.set R.CTL_STATUS_AUTO (n 2)).set R.CTL_STATUS_MANUAL (n 1)
  let d := d.put R.CTL_LOOP_STAT_SWAP_PENDING (d.get R.CTL_LOOP_STAT_NEXT_BANK l != d.get R.CTL_LOOP_STAT_ACTIVE_BANK l) l
  (List.range 32).foldl (fun (d : Dev) (g : Nat) =>
    d.put R.CTL_GRP_STAT_VALID ((List.range 64).any fun k => d.on R.CTL_LOOP_CFG_EN k && d.on R.CTL_LOOP_CFG_GRP_EN k && d.get R.CTL_LOOP_CFG_GROUP k == g) g) d

/-- A mode change, with its event: causes host, PV_BAD and residue are choices 1, 2, 3 of the event. -/
def Dev.modeSet (d : Dev) (l m cause : Nat) : Dev :=
  let old := d.loopMode l
  if old = m then d
  else ((d.set R.CTL_LOOP_STAT_MODE m l).record 0x0D01 (u8 l ++ u8 old ++ u8 m ++ u8 (Config.argCode 0x0D01 cause))).ctlView l

/-! ### Process values (R487, R488) -/

/-- The value a loop's source gives: of a SAR input the mean of the last min(256, 10 × PERIOD) samples before the tick. -/
def Dev.source (d : Dev) (l : Nat) (x : CtlIn) : Frac :=
  let s := d.get R.CTL_LOOP_IO_IN_SEL l
  let one := fun (n : Int) => ({ n := n } : Frac)
  match d.get R.CTL_LOOP_IO_IN_KIND l with
  | 0 =>
    let w := ((((x.ain.find? fun p => p.1 == s).map fun p => p.2).getD []).take (min 256 (10 * d.get R.CTL_LOOP_CFG_PERIOD l))).map fun v => v % 65536
    { n := Int.ofNat w.sum, d := max 1 w.length }
  | 1 => one <| if s = 0 then Int.ofNat (d.get R.MTR_FREQ_FREQ) else if s ≤ 13 then Int.ofNat (tabGet d.mtr.irms (s - 1)) else tabGet d.mtr.pow (s - 14)
  | _ => one (Int.ofNat (d.get R.MTR_PI_RATE_RATE s))

/-- The process value, a fraction of span. -/
def Dev.pvOf (d : Dev) (l : Nat) (x : CtlIn) : Frac :=
  let lo := d.geti R.CTL_LOOP_IN_LO_IN_LO l
  let span := d.geti R.CTL_LOOP_IN_HI_IN_HI l - lo
  let v := (d.source l x).sub { n := lo }
  { n := if span < 0 then -v.n else v.n, d := v.d * span.natAbs }

/-- PV is bad (R488). -/
def Dev.pvBad (d : Dev) (l : Nat) (pv : Frac) : Bool :=
  pv.lt { n := -1, d := 20 } || ({ n := 21, d := 20 } : Frac).lt pv ||
    (d.get R.CTL_LOOP_IO_IN_KIND l == 2 && d.on R.MTR_PI_STAT_WIRE (d.get R.CTL_LOOP_IO_IN_SEL l)) ||
    (d.get R.CTL_LOOP_IO_IN_KIND l == 1 && d.get R.CTL_LOOP_IO_IN_SEL l == 0 && d.bit R.MTR_STATUS_ZX_LOST d.zxRef)

/-- MAN_OUT := the last output (R503, R510). -/
def Dev.manLast (d : Dev) (l : Nat) : Dev := d.set R.CTL_LOOP_OUT_MAN_OUT (d.get R.CTL_LOOP_OUT_OUT l) l

/-- The PV registers of a loop at a tick, and what a change of PV_BAD brings (R488, R503). -/
def Dev.pvTake (d : Dev) (l : Nat) (x : CtlIn) : Dev :=
  let pv := d.pvOf l x
  let bad := d.pvBad l pv
  let was := d.on R.CTL_LOOP_STAT_PV_BAD l
  let d := (d.set R.CTL_LOOP_PV_PV (to16 pv) l).put R.CTL_LOOP_STAT_PV_BAD bad l
  if bad = was then d
  else
    let d := d.record 0x0D04 (u8 l ++ u8 (Config.argCode 0x0D04 (b2n bad)))
    if d.loopMode l != 2 then d
    else if !bad then (d.manLast l).loopSet l { d.loop l with resume := true }
    else if d.on R.CTL_LOOP_CFG_FAIL_ACT l then
      (d.set R.CTL_LOOP_OUT_MAN_OUT (d.get R.CTL_LOOP_SAFE_SAFE_OUT l) l).modeSet l 1 2
    else d

/-! ### Axis outputs (R493) -/

/-- Why an axis is blocked for a loop: 0 not, 1 locked, 2 not ready, 3 held by a waybill. -/
def Dev.axBlock (d : Dev) (l : Nat) : Nat :=
  let a := d.get R.CTL_LOOP_IO_OUT_SEL l
  if d.get R.CTL_LOOP_IO_OUT_KIND l != 3 then 0
  else if d.axLocked a then 1
  else if !d.axReady a then 2
  else if d.get R.AXS_AX_STAT_OWNER a = 2 then 3 else 0

/-- AX_BLOCK follows, with an event at each change. -/
def Dev.blockTake (d : Dev) (l : Nat) : Dev :=
  let c := d.axBlock l
  if d.on R.CTL_LOOP_STAT_AX_BLOCK l == (c != 0) then d
  else (d.put R.CTL_LOOP_STAT_AX_BLOCK (c != 0) l).record 0x0D06 (u8 l ++ u8 (d.get R.CTL_LOOP_IO_OUT_SEL l) ++ u8 (Config.argCode 0x0D06 c))

/-- The fraction of span at which a loop's axis stands. -/
def Dev.axFrac (d : Dev) (l : Nat) : Frac :=
  let lo := d.geti R.CTL_LOOP_AX_LO_AX_LO l
  let span := d.geti R.CTL_LOOP_AX_HI_AX_HI l - lo
  let p := d.axPos (d.get R.CTL_LOOP_IO_OUT_SEL l)
  (bfOne 18 { n := if span < 0 then lo - p else p - lo, d := span.natAbs }).val

/-- The limits of step 7: the bank's, or the axis's position while it is blocked. -/
def Dev.loopLims (d : Dev) (l : Nat) : Frac × Frac :=
  if d.on R.CTL_LOOP_STAT_AX_BLOCK l then (d.axFrac l, d.axFrac l) else (frac16 (d.bankOf l).lo, frac16 (d.bankOf l).hi)

/-! ### The control law (R491, R494, R496, R500) -/

/-- Interpolation between table entries. -/
def gainIn (x : Frac) : List (Nat × Nat) → Frac
  | (e0, g0) :: (e1, g1) :: t =>
    if x.lt (frac16 e1) then (bf24 g0).add (((bf24 g1).sub (bf24 g0)).mul ((x.sub (frac16 e0)).div { n := (e1 : Int) - e0, d := 65536 }))
    else gainIn x ((e1, g1) :: t)
  | [(_, g)] => bf24 g
  | [] => { n := 1 }

/-- G of |e| (R496). A table never written has no entries, and gives a value the spec does not state. -/
def Dev.gain (d : Dev) (table : Nat) (x : Frac) : Frac :=
  if 8 ≤ table then { n := 1 }
  else match tabGet d.ctl.tables table with
    | [] => { n := dec2 18 (enc2 18 (Config.bfOver x.n x.d)), d := 2 ^ 17 }
    | (e, g) :: t => if (frac16 e).lt x then gainIn x ((e, g) :: t) else bf24 g

/-- What an evaluation of a loop gives: PV as rounded, P, D, I, the output, and how it was clamped (1 high, 2 low). -/
structure LoopOut where
  pv : BF := {}
  p : BF := {}
  dt : BF := {}
  i : BF := {}
  u : BF := {}
  sat : Nat := 0
  deriving DecidableEq, Repr

/-- Stages 1 to 4: PV, P, D and the integral's increment. -/
def Dev.terms (d : Dev) (l : Nat) (pv pvPrev : Frac) (dPrev : Frac) : List BF :=
  let b := d.bankOf l
  let s1 := stage 18 [pv, pvPrev, frac16 (d.get R.CTL_LOOP_PV_SP l)]
  let g := fun (l : List BF) (k : Nat) => (l.getD k {}).val
  let sg := fun (f : Frac) => if d.on R.CTL_LOOP_CFG_DIR l then f.neg else f
  let err := sg ((g s1 2).sub (g s1 0))
  let s2 := stage 18 [err, err.abs]
  let G := d.gain b.table (g s2 1)
  let s3 := stage 18 [G, (bf24 b.kp).mul G]
  let K := g s3 1
  let ts : Frac := { n := d.get R.CTL_LOOP_CFG_PERIOD l, d := 1000 }
  let td := bf24 b.td
  let ti := bf24 b.ti
  let a := td.div (td.add (ts.mul { n := b.n }))
  let D : Frac := if td.n = 0 then { n := 0 } else (a.mul dPrev).sub (sg (((K.mul { n := b.n }).mul a).mul ((g s1 0).sub (g s1 1))))
  let inc : Frac := if ti.n = 0 then { n := 0 } else ((K.mul ts).div ti).mul (g s2 0)
  s1.take 1 ++ stage 18 [K.mul (g s2 0), D, inc]

/-- One evaluation of R491. -/
def Dev.evalLoop (d : Dev) (l : Nat) (pv : Frac) : LoopOut :=
  let x := d.loop l
  let t := d.terms l pv x.pvPrev.val x.dt.val
  let g := fun (k : Nat) => t.getD k {}
  let i := bfOne 36 (x.i.wide.add (g 3).val)
  let raw := ((g 1).val.add (bfOne 18 i.wide).val).add (g 2).val
  let lim := d.loopLims l
  let u := raw.clamp lim.1 lim.2
  let s6 := stage 18 [raw, u, lim.1, lim.2]
  let un := s6.getD 1 {}
  let sat := if u.lt raw then 1 else if raw.lt u then 2 else 0
  { pv := g 0, p := g 1, dt := g 2, i := if sat = 0 then i else bfOne 36 ((un.val.sub (g 1).val).sub (g 2).val), u := un, sat := sat }

/-- A close (R500) from an output in force. -/
def Dev.closeLoop (d : Dev) (l : Nat) (pv man : Frac) : LoopOut :=
  let t := d.terms l pv pv { n := 0 }
  let g := fun (k : Nat) => t.getD k {}
  let lim := d.loopLims l
  let u := (stage 18 [man.clamp lim.1 lim.2, lim.1, lim.2]).headD {}
  { pv := g 0, p := g 1, dt := {}, i := bfOne 36 (u.val.sub (g 1).val), u := u }

/-! ### Outputs (R492) -/

/-- An output is applied as loop `l` names it. -/
def Dev.applyOut (d : Dev) (l : Nat) (u : BF) : Dev :=
  let k := d.get R.CTL_LOOP_IO_OUT_SEL l
  match d.get R.CTL_LOOP_IO_OUT_KIND l with
  | 1 => { d with ctl := { d.ctl with dac := tabPut d.ctl.dac k (max 0 (min 65535 (roundEven (u.val.n * 65535) u.val.d))).toNat } }
  | 2 => { d with ctl := { d.ctl with pwm := tabPut d.ctl.pwm k u } }
  | 3 =>
    let lo := d.geti R.CTL_LOOP_AX_LO_AX_LO l
    let f := u.val.mul { n := d.geti R.CTL_LOOP_AX_HI_AX_HI l - lo }
    let tgt := dec2 32 (enc2 32 (lo + roundEven f.n f.d))
    let far := match tabFind d.ctl.sent k with | some s => s != tgt && decide (d.get R.CTL_LOOP_AX_DB_AX_DB l ≤ (tgt - s).natAbs) | none => true
    if d.on R.CTL_LOOP_STAT_AX_BLOCK l || !far || !d.loopMay k then d
    else { d with ctl := { d.ctl with sent := tabPut d.ctl.sent k tgt } }.loopMove k tgt
  | _ => d

/-- Code on AOUT[k]: 0 at L0 (R501). -/
def Dev.aout (d : Dev) (k : Nat) : Nat := if d.level = 0 then 0 else (tabFind d.ctl.dac k).getD 0

/-- Duty on PWM[k]: none at L0 (R501). -/
def Dev.pwmDuty (d : Dev) (k : Nat) : Frac := if d.level = 0 then { n := 0 } else (tabGet d.ctl.pwm k).val

/-- The generator on PWM[k] (R492, R513): its frequency in Hz, the level of its pin while inactive, and its duty. At L0 the pin rests
at its inactive level (R501). -/
def Dev.pwmOut (d : Dev) (k : Nat) : Nat × Bool × Frac := (d.get R.CTL_PWM_CFG_FREQ k, d.on R.CTL_PWM_CFG_POL k, d.pwmDuty k)

/-- The output a loop offers now. -/
def Dev.manFrac (d : Dev) (l : Nat) : Frac := frac16 (d.get R.CTL_LOOP_OUT_MAN_OUT l)

/-- The output in use of every loop of a unit. -/
def Dev.outShow (d : Dev) (ls : List Nat) (u : BF) : Dev :=
  ls.foldl (fun (d : Dev) (l : Nat) => (d.loopSet l { d.loop l with u := u }).set R.CTL_LOOP_OUT_OUT (to16 u.val) l) d

/-! ### A due tick (R489, R491, R500, R502, R503) -/

/-- The loops run: the device holds the reins, the engine is enabled, not held and not lost. -/
def Dev.ctlRuns (d : Dev) : Bool := d.reins && d.on R.CTL_CTRL_EN && !d.on R.CTL_STATUS_HELD && !d.ctl.lost && !d.pair.frozen && !d.pair.hiZ

/-- The first tick, not yet run, at which a loop is due. -/
def Dev.loopDue (d : Dev) (l : Nat) : Nat :=
  let p := max 1 (d.get R.CTL_LOOP_CFG_PERIOD l)
  let t := max (ceilDiv d.clk.mono ms) (d.loop l).last
  t + (d.get R.CTL_LOOP_IO_PHASE l % p + p - t % p) % p

/-- The loop closes at this tick. -/
def Dev.closing (d : Dev) (l : Nat) : Bool :=
  !d.on R.CTL_LOOP_STAT_PV_BAD l && ((d.loopMode l == 1 && d.on R.CTL_LOOP_STAT_CLOSE_PENDING l) || (d.loopMode l == 2 && (d.loop l).resume))

/-- Step 1 of a close that a request asked for: the banks swap; the loop is in AUTO (R500, R505). -/
def Dev.closeBegin (d : Dev) (l : Nat) : Dev :=
  if !d.closing l || d.loopMode l = 2 then d
  else
    let nb := d.get R.CTL_LOOP_STAT_NEXT_BANK l
    let d := if nb = d.get R.CTL_LOOP_STAT_ACTIVE_BANK l then d else (d.set R.CTL_LOOP_STAT_ACTIVE_BANK nb l).record 0x0D02 (u8 l ++ u8 nb)
    ((d.put R.CTL_LOOP_STAT_CLOSE_PENDING false l).loopSet l { d.loop l with resume := true, u := (stage 18 [d.manFrac l]).headD {} }).modeSet l 2 1

/-- A failed residue check of a loop (R495): the third in a row ends in MANUAL. -/
def Dev.residueFail (d : Dev) (l st : Nat) : Dev :=
  let d := (d.inc R.CTL_LOOP_STAT_RESIDUE l).record 0x0D05 (u8 l ++ u8 st)
  let n := (d.loop l).residue + 1
  if 3 ≤ n then ((d.set R.CTL_LOOP_OUT_MAN_OUT (d.get R.CTL_LOOP_OUT_OUT l) l).loopSet l { d.loop l with residue := 0, resume := false }).modeSet l 1 3
  else d.loopSet l { d.loop l with residue := n }

/-- What a member offers (R502), with its evaluation where it has one. -/
def Dev.offer (d : Dev) (l : Nat) (x : CtlIn) : Option (Frac × Option LoopOut) :=
  if d.loopMode l = 1 then some (d.manFrac l, none)
  else if d.loopMode l != 2 || d.on R.CTL_LOOP_STAT_PV_BAD l then none
  else
    let o := if (d.loop l).resume then d.closeLoop l (d.pvOf l x) (d.loop l).u.val else d.evalLoop l (d.pvOf l x)
    some (o.u.val, some o)

/-- An evaluation is taken over into the loop; a member that did not win tracks the group's output. -/
def Dev.loopTake (d : Dev) (l : Nat) (o : LoopOut) (track : Option Frac) : Dev :=
  let lim := d.loopLims l
  let i := match track with
    | some u => bfOne 36 (((u.clamp lim.1 lim.2).sub o.p.val).sub o.dt.val)
    | none => o.i
  let d := d.loopSet l { d.loop l with i := i, dt := o.dt, pvPrev := o.pv, resume := false, residue := 0 }
  let d := (d.put R.CTL_LOOP_STAT_SAT_HI (o.sat == 1) l).put R.CTL_LOOP_STAT_SAT_LO (o.sat == 2) l
  d.put R.CTL_LOOP_STAT_TRACKING track.isSome l

/-- The least of the values offered, the lowest-numbered loop at equal ones (R502). -/
def leastOf : List (Nat × Frac) → Option (Nat × Frac)
  | [] => none
  | p :: t => match leastOf t with | some q => if q.2.lt p.2 then some q else some p | none => some p

/-- WINNER of a group and of its members; a change of winner is an event. -/
def Dev.winnerSet (d : Dev) (ls : List Nat) (g w : Nat) (u : BF) : Dev :=
  let d := if d.get R.CTL_GRP_STAT_WINNER g = w then d else (d.set R.CTL_GRP_STAT_WINNER w g).record 0x0D03 (u8 g ++ u8 w)
  let d := ls.foldl (fun (d : Dev) (l : Nat) => d.put R.CTL_LOOP_STAT_WINNER (l == w) l) d
  d.set R.CTL_GRP_STAT_OUT (to16 u.val) g

/-- A unit, one loop or a group, at its due tick. -/
def Dev.unitRun (d : Dev) (l : Nat) (x : CtlIn) : Dev :=
  let ls := d.unit l
  let t := d.loopDue l
  let d := d.passToMono (t * ms)
  let d := ls.foldl (fun (d : Dev) (k : Nat) => ((d.loopSet k { d.loop k with last := t + 1 }).pvTake k x).blockTake k) d
  let d := ls.foldl (fun (d : Dev) (k : Nat) => d.closeBegin k) d
  let evals := fun (d : Dev) (k : Nat) => d.loopMode k == 2 && !d.on R.CTL_LOOP_STAT_PV_BAD k
  let failed := x.residue.filter fun p => ls.contains p.1 && evals d p.1
  let offers := (ls.filter fun k => !failed.any fun p => p.1 == k).filterMap fun k => (d.offer k x).map fun o => (k, o)
  if !failed.isEmpty then
    let d := offers.foldl (fun (d : Dev) (p : Nat × Frac × Option LoopOut) => match p.2.2 with | some o => d.loopTake p.1 o none | none => d) d
    failed.foldl (fun (d : Dev) (p : Nat × Nat) => d.residueFail p.1 p.2) d
  else
    let d := d.selfOk 4
    let s7 := stage 18 (offers.map fun p => p.2.1)
    match leastOf ((offers.map fun p => p.1).zip (s7.map BF.val)), s7 with
    | some (w, uv), b :: _ =>
      let u : BF := { m := uv.n / 2 ^ b.e, e := b.e }
      let grp := d.on R.CTL_LOOP_CFG_GRP_EN l
      let d := offers.foldl (fun (d : Dev) (p : Nat × Frac × Option LoopOut) =>
        match p.2.2 with
        | some o => d.loopTake p.1 o (if p.1 = w then none else some uv)
        | none => d.put R.CTL_LOOP_STAT_TRACKING false p.1) d
      let d := if grp then d.winnerSet ls (d.get R.CTL_LOOP_CFG_GROUP l) w u else d
      (d.outShow ls u).applyOut w u
    | _, _ => d

/-- LOOP_TICK (R489, R491). -/
def execLoopTick (l : Nat) (x : CtlIn) (s : State) : Res :=
  onRun .ctrl (fun d => if l < 64 && d.ctlRuns && d.on R.CTL_LOOP_CFG_EN l then (d.unitRun l x).settle else d) s

/-- A loop of the unit waits to close. -/
def Dev.closeWaits (d : Dev) (l : Nat) : Bool := d.on R.CTL_LOOP_STAT_CLOSE_PENDING l || (d.loopMode l == 2 && (d.loop l).resume)

/-- LOOP_CLOSE (R500): the due tick of a loop that waits to close. -/
def execLoopClose (l : Nat) (x : CtlIn) (s : State) : Res :=
  onRun .ctrl (fun d => if l < 64 && d.ctlRuns && d.on R.CTL_LOOP_CFG_EN l && d.closeWaits l then (d.unitRun l x).settle else d) s

/-! ### Descriptors (R497, R499, R504, R512) -/

/-- The checks every CTL descriptor shares. -/
def Dev.ctlGate (d : Dev) (q : Desc) (ok : Bool) : Option Dev :=
  if !ok then some (d.complete q .badDescriptor)
  else if !d.reins then some (d.complete q .notHoldingReins)
  else if !q.gate then some (d.complete q .refusedState)
  else none

/-- MAN_OUT of a loop outside a group becomes its output. -/
def Dev.manPut (d : Dev) (l : Nat) : Dev :=
  if d.on R.CTL_LOOP_CFG_GRP_EN l then d
  else
    let u := bfOne 18 (d.manFrac l)
    ((d.blockTake l).outShow [l] u).applyOut l u

/-- A MANUAL loop outside a group applies MAN_OUT as written. -/
def Dev.manApply (d : Dev) (l : Nat) : Dev := if d.loopMode l != 1 || !d.ctlRuns then d else d.manPut l

/-- CTL_MODE on a taken descriptor (R499). -/
def Dev.ctlMode (d : Dev) (q : Desc) : Dev :=
  let a := q.area
  let l := fld a 1 1
  let f := fld a 2 1
  let toMan := bitOf f 2
  let toAuto := bitOf f 3
  match d.ctlGate q (resvOk a [(0, 3), (4, 4)] && l < 64 && f < 16 && !(toMan && toAuto)) with
  | some d => d
  | none =>
    let m := d.loopMode l
    if (toAuto && (m == 0 || d.on R.CTL_LOOP_STAT_PV_BAD l)) || (bitOf f 1 && !toMan && m == 2) then d.complete q .refusedState
    else
      let d := if bitOf f 0 then d.set R.CTL_LOOP_PV_SP (fld a 4 2) l else d
      let d := if bitOf f 1 then d.set R.CTL_LOOP_OUT_MAN_OUT (fld a 6 2) l else if toMan && m = 2 then d.set R.CTL_LOOP_OUT_MAN_OUT (d.get R.CTL_LOOP_OUT_OUT l) l else d
      let d := if toMan then
          let d := (d.put R.CTL_LOOP_STAT_CLOSE_PENDING false l).loopSet l { d.loop l with resume := false }
          if m = 2 then d.modeSet l 1 1 else d
        else if toAuto && m = 1 then d.put R.CTL_LOOP_STAT_CLOSE_PENDING true l else d
      (if bitOf f 1 || (toMan && m = 2) then d.manApply l else d).complete q .done

/-- CTL_MODE (R499). -/
def execCtlMode (s : State) : Res := onDev (fun d => d.onDesc 0x0D 1 fun d q => d.ctlMode q) s

/-- CTL_BANK's fields are in range. -/
def bankOk (a : List Byte) : Bool :=
  let kp := fld a 4 4
  let ti := fld a 8 4
  let td := fld a 12 4
  resvOk a [(0, 19), (20, 4)] && fld a 1 1 < 64 && fld a 2 1 < 2 && fld a 3 1 < 2 && kp < 2 ^ 24 && ti < 2 ^ 24 && td < 2 ^ 24 &&
    decide (0 < dec2 18 kp) && decide (0 ≤ dec2 18 ti) && decide (0 ≤ dec2 18 td) && 1 ≤ fld a 16 2 && fld a 16 2 ≤ 100 &&
    (fld a 18 1 < 8 || fld a 18 1 == 0xFF) && fld a 20 2 ≤ fld a 22 2

/-- CTL_BANK on a taken descriptor (R504). -/
def Dev.ctlBank (d : Dev) (q : Desc) : Dev :=
  let a := q.area
  let l := fld a 1 1
  let b := fld a 2 1
  match d.ctlGate q (bankOk a) with
  | some d => d
  | none =>
    if b = d.get R.CTL_LOOP_STAT_ACTIVE_BANK l && d.loopMode l = 2 then d.complete q .refusedState
    else
      let x : Bank := { kp := fld a 4 4, ti := fld a 8 4, td := fld a 12 4, n := fld a 16 2, table := fld a 18 1, lo := fld a 20 2, hi := fld a 22 2 }
      let d := { d with ctl := { d.ctl with banks := tabPut d.ctl.banks (2 * l + b) x } }
      let d := if bitOf (fld a 3 1) 0 then d.set R.CTL_LOOP_STAT_NEXT_BANK b l else d
      ((d.ctlView l).trialWrite 4).complete q .done

/-- CTL_BANK (R504). -/
def execCtlBank (s : State) : Res := onDev (fun d => d.onDesc 0x0D 2 fun d q => d.ctlBank q) s

/-- Entries of a table rise strictly and hold nothing reserved. -/
def tableOk : List (Nat × Nat × Nat) → Bool
  | (e0, r0, g0) :: (e1, r1, g1) :: t => r0 == 0 && g0 < 2 ^ 24 && e0 < e1 && tableOk ((e1, r1, g1) :: t)
  | [(_, r, g)] => r == 0 && g < 2 ^ 24
  | [] => true

/-- CTL_TABLE on a taken descriptor (R497): one whose host read was under way when EN was cleared is ABORTED (R507). -/
def Dev.ctlTable (d : Dev) (q : Desc) (mem : Option (List Byte)) : Dev :=
  let a := q.area
  let k := fld a 1 1
  let n := fld a 2 1
  if !resvOk a [(0, 3), (8, 8)] || 8 ≤ k || n < 2 || 32 < n || fld a 8 8 % 16 != 0 then d.complete q .badDescriptor
  else if q.gate && !d.on R.CTL_CTRL_EN then (d.ctlGate q true).getD (d.complete q .aborted)
  else match mem with
    | none => (d.ctlGate q true).getD (d.complete q .aborted)
    | some b =>
      let es := (List.range n).map fun i => (fld b (8 * i) 2, fld b (8 * i + 2) 2, fld b (8 * i + 4) 4)
      match d.ctlGate q (tableOk es) with
      | some d => d
      | none =>
        if (List.range 64).any fun l => d.loopMode l == 2 && (d.bankOf l).table == k then d.complete q .refusedState
        else { d with ctl := { d.ctl with tables := tabPut d.ctl.tables k (es.map fun (e : Nat × Nat × Nat) => (e.1, e.2.2)) } }.trialWrite 4 |>.complete q .done

/-- CTL_TABLE (R497). -/
def execCtlTable (mem : Option (List Byte)) (s : State) : Res := onDev (fun d => d.onDesc 0x0D 3 fun d q => d.ctlTable q mem) s

/-! ### Enabling and disabling (R506-R508) -/

/-- IN_KIND and IN_SEL are listed (R487). -/
def inListed (kind sel : Nat) : Bool :=
  match kind with | 0 => sel < 16 | 1 => sel ≤ 24 | 2 => sel < 16 | _ => false

/-- Setting a loop's EN is refused (R506). -/
def Dev.loopRefused (d : Dev) (l : Nat) : Bool :=
  let g := fun (f : Fld) (k : Nat) => d.get f k
  let others := (List.range 64).filter fun k => k != l && d.on R.CTL_LOOP_CFG_EN k
  let mates := others.filter fun k => d.sameGroup l k
  let sameOut := fun (k : Nat) => g R.CTL_LOOP_IO_OUT_KIND k == g R.CTL_LOOP_IO_OUT_KIND l && g R.CTL_LOOP_IO_OUT_SEL k == g R.CTL_LOOP_IO_OUT_SEL l
  g R.CTL_LOOP_CFG_PERIOD l == 0 || 60000 < g R.CTL_LOOP_CFG_PERIOD l || g R.CTL_LOOP_CFG_PERIOD l ≤ g R.CTL_LOOP_IO_PHASE l ||
    !inListed (g R.CTL_LOOP_IO_IN_KIND l) (g R.CTL_LOOP_IO_IN_SEL l) || g R.CTL_LOOP_IN_LO_IN_LO l == g R.CTL_LOOP_IN_HI_IN_HI l ||
    (g R.CTL_LOOP_IO_OUT_KIND l != 0 && others.any fun k => !d.sameGroup l k && sameOut k) || 8 ≤ mates.length ||
    mates.any fun k => g R.CTL_LOOP_CFG_PERIOD k != g R.CTL_LOOP_CFG_PERIOD l || g R.CTL_LOOP_IO_PHASE k != g R.CTL_LOOP_IO_PHASE l || !sameOut k

/-- Setting EN of a loop that is off. -/
def Dev.loopOn (d : Dev) (l v : Nat) : Dev :=
  let d := d.writeAddr (R.CTL_LOOP_CFG_EN.addr l) v
  if d.loopRefused l then ((d.set R.CTL_LOOP_CFG_EN 0 l).raise R.CTL_LOOP_STAT_CFG_ERR l).ctlView l
  else (((d.set R.CTL_LOOP_OUT_MAN_OUT (d.get R.CTL_LOOP_OUT_OUT l) l).modeSet l 1 1).ctlView l).manApply l

/-- Clearing EN: the loop is OFF at once. -/
def Dev.loopOff (d : Dev) (l : Nat) : Dev :=
  let d := (d.set R.CTL_LOOP_CFG_EN 0 l).put R.CTL_LOOP_STAT_CLOSE_PENDING false l
  let d := d.loopSet l { d.loop l with i := {}, resume := false }
  ((d.put R.CTL_LOOP_STAT_WINNER false l).put R.CTL_LOOP_STAT_TRACKING false l).modeSet l 0 1 |>.ctlView l

/-- A write of CTL_LOOP_CFG (R506, R507). -/
def Dev.loopCfgWrite (d : Dev) (l v : Nat) : Dev :=
  if 64 ≤ l then d
  else match d.on R.CTL_LOOP_CFG_EN l, bitOf v 0 with
    | false, false => d.writeAddr (R.CTL_LOOP_CFG_EN.addr l) v
    | false, true => d.loopOn l v
    | true, false => d.loopOff l
    | true, true => d

/-- LOOP_ENABLE (R506). -/
def execLoopEnable (l : Nat) (v : Word32) (s : State) : Res :=
  onReg R.CTL_LOOP_CFG_EN (fun d => if bitOf v.toNat 0 && (d.reins || !d.on R.PAIR_STATUS_PAIRED) then (d.loopCfgWrite l v.toNat).settle else d) s

/-- LOOP_DISABLE (R507). -/
def execLoopDisable (l : Nat) (v : Word32) (s : State) : Res :=
  onReg R.CTL_LOOP_CFG_EN (fun d => if !bitOf v.toNat 0 && (d.reins || !d.on R.PAIR_STATUS_PAIRED) then (d.loopCfgWrite l v.toNat).settle else d) s

/-- AUTO loops close without a swap at their next due tick (R505). -/
def Dev.loopsResume (d : Dev) : Dev :=
  (List.range 64).foldl (fun (d : Dev) (l : Nat) => if d.loopMode l = 2 then d.loopSet l { d.loop l with resume := true } else d) d

/-- A write of CTL_CTRL (R507). -/
def Dev.ctlCtrlWrite (d : Dev) (v : Nat) : Dev :=
  let was := d.on R.CTL_CTRL_EN
  let d := d.writeAddr R.CTL_CTRL_EN.addr v
  if !was && bitOf v 0 then d.loopsResume else d

/-- CTL_DISABLE (R507). -/
def execCtlDisable (v : Word32) (s : State) : Res := onReg R.CTL_CTRL_EN (fun d => if bitOf v.toNat 0 then d else d.ctlCtrlWrite v.toNat) s

/-- CTL_ENABLE (R507). -/
def execCtlEnable (v : Word32) (s : State) : Res := onReg R.CTL_CTRL_EN (fun d => if bitOf v.toNat 0 then d.ctlCtrlWrite v.toNat else d) s

/-- The hold of an activation begins or ends (R508). -/
def Dev.loopsHold (d : Dev) (on : Bool) : Dev :=
  let d := d.put R.CTL_STATUS_HELD on
  if on then d else d.loopsResume

/-- Loops after a reset (R501): MANUAL with SAFE_OUT, applied once the CTL part has started, ACTIVE_BANK := NEXT_BANK; the
axes get no target before they are homed. Banks and tables are settings. -/
def Dev.ctlBoot (d : Dev) : Dev :=
  let d := { d with ctl := { banks := d.ctl.banks, tables := d.ctl.tables } }
  (List.range 64).foldl (fun (d : Dev) (l : Nat) =>
    if !d.on R.CTL_LOOP_CFG_EN l then d
    else
      let d := (d.set R.CTL_LOOP_STAT_ACTIVE_BANK (d.get R.CTL_LOOP_STAT_NEXT_BANK l) l).set R.CTL_LOOP_OUT_MAN_OUT (d.get R.CTL_LOOP_SAFE_SAFE_OUT l) l
      let d := (d.set R.CTL_LOOP_STAT_MODE 1 l).ctlView l
      if d.sys.down.contains 4 then d else d.manPut l) d

/-- A device that takes the reins closes its AUTO loops with the last output of the copy (R510). -/
def Dev.ctlTakeover (d : Dev) : Dev :=
  ((List.range 64).foldl (fun (d : Dev) (l : Nat) => if d.loopMode l = 2 then d.manLast l else d) d).loopsResume

end Sys2Proof.Machine
end

