-- ==== Sys2Proof/Machine/Key.lean ====
section
/-!
DEFINITION. Keys (R550-R578): slots and attributes, standard keys, import, derivation, generations and invalidation,
non-volatile updates and their fate at a restart. KEY_ATTEST stands with the firmware parts it reports.
-/

namespace Sys2Proof.Machine

/-! ### Derivation (R552, R559, R561) -/

/-- A 32-bit value, highest byte first. -/
def be32 (v : Nat) : List Byte := (u32 v).reverse

/-- The SP 800-108 derivation of R559: parent key, label, identity, parent generation, bits. -/
def kdf (k label : List Byte) (dev gen bitsL : Nat) : List Byte :=
  fit (bitsL / 8) (hmac k (be32 1 ++ label ++ u8 0 ++ u16 dev ++ u32 gen ++ be32 bitsL))

/-- Text as ASCII bytes. -/
def ascii (l : List Nat) : List Byte := l.flatMap u8

/-- The label "EVSIN-WRAP" (R552). -/
def labelWrap : List Byte := ascii [0x45, 0x56, 0x53, 0x49, 0x4E, 0x2D, 0x57, 0x52, 0x41, 0x50]
/-- The label "EVSIN-LC". -/
def labelLc : List Byte := ascii [0x45, 0x56, 0x53, 0x49, 0x4E, 0x2D, 0x4C, 0x43]
/-- The label "EVSIN-ATTEST". -/
def labelAttest : List Byte := ascii [0x45, 0x56, 0x53, 0x49, 0x4E, 0x2D, 0x41, 0x54, 0x54, 0x45, 0x53, 0x54]
/-- The label "EVSIN-CLEAR". -/
def labelClear : List Byte := ascii [0x45, 0x56, 0x53, 0x49, 0x4E, 0x2D, 0x43, 0x4C, 0x45, 0x41, 0x52]
/-- The label "EVSIN-JOIN" (R561). -/
def labelJoin : List Byte := ascii [0x45, 0x56, 0x53, 0x49, 0x4E, 0x2D, 0x4A, 0x4F, 0x49, 0x4E]

/-! ### Slots (R555, R556, R562) -/

/-- Attributes of a slot as it is filled. -/
structure KeyAttr where
  size : Nat
  usage : Nat
  mask : Nat
  depth : Nat := 0
  parent : Nat := 127
  gen : Nat := 0
  pgen : Nat := 0
  nv : Bool := false
  state : Nat := 1
  deriving DecidableEq, Repr

/-- Fill a working slot (R555); its high-water mark rises to the generation it holds (R558). -/
def Dev.fillSlot (d : Dev) (n : Nat) (a : KeyAttr) (k : List Byte) : Dev :=
  let d := (((d.set R.KEY_ATTR_STATE a.state n).set R.KEY_ATTR_SIZE a.size n).set R.KEY_ATTR_USAGE a.usage n).set R.KEY_ATTR_MASK a.mask n
  let d := (((d.set R.KEY_ATTR_DEPTH a.depth n).set R.KEY_ATTR_PARENT a.parent n).put R.KEY_ATTR_NV a.nv n).set R.KEY_GEN_GEN a.gen n
  let d := d.set R.KEY_PGEN_PGEN a.pgen n
  { d with key := { d.key with
    bytes := tabPut d.key.bytes n (fit (16 + 16 * a.size) k), hwm := tabPut d.key.hwm n (max (tabGet d.key.hwm n) a.gen) } }

/-- The four standard keys, from the root under the device ID in force (R552). -/
def Dev.stdKeys (d : Dev) (root : List Byte) : Dev :=
  let one := fun (d : Dev) (n : Nat) (label : List Byte) (mask : Nat) =>
    d.fillSlot n { size := 1, usage := 0, mask := mask, depth := 1, parent := 64 } (kdf root label d.id 0 256)
  ((one (one (one (one d 60 labelWrap 32) 61 labelLc 0) 62 labelAttest 8) 63 labelClear 4)).set R.KEY_STATUS_STD_OK 1

/-- A slot serves an engine: VALID, not a DERIVE key, the engine's bit in MASK (R556). -/
def Dev.serves (d : Dev) (n eng : Nat) : Bool :=
  n < 64 && d.get R.KEY_ATTR_STATE n == 1 && d.get R.KEY_ATTR_USAGE n != 1 && bitOf (d.get R.KEY_ATTR_MASK n) eng

/-- A non-volatile update of the slot runs: no other use of it starts (R567). -/
def Dev.keyBusy (d : Dev) (n : Nat) : Bool := match d.key.up with | some u => u.slot == n | none => false

/-- The key a slot gives an engine that takes keys of one size (R556). -/
def Dev.engineKey (d : Dev) (n eng size : Nat) : Option (List Byte) :=
  if d.serves n eng && d.get R.KEY_ATTR_SIZE n == size && !d.keyBusy n then tabFind d.key.bytes n else none

/-- The key a slot gives the radio (R556). -/
def Dev.radioKey (d : Dev) (n : Nat) : Option (List Byte) := d.engineKey n 0 0

/-- The slot whose key the radio builds cell frames under (R248): CUR_SLOT, or NEXT_SLOT where only that holds a valid
cell key. -/
def Dev.cellSlot (d : Dev) : Option Nat :=
  let c := d.get R.RAD_KEY_CFG_CUR_SLOT
  let n := d.get R.RAD_KEY_CFG_NEXT_SLOT
  if (d.radioKey c).isSome then some c else if (d.radioKey n).isSome then some n else none

/-- CUR_SLOT or NEXT_SLOT holds a valid cell key, in use or being updated (R248, R567). -/
def Dev.cellHeld (d : Dev) : Bool :=
  let holds := fun (n : Nat) => d.serves n 0 && d.get R.KEY_ATTR_SIZE n == 0 && (tabFind d.key.bytes n).isSome
  holds (d.get R.RAD_KEY_CFG_CUR_SLOT) || holds (d.get R.RAD_KEY_CFG_NEXT_SLOT)

/-- Whether a valid cell key stands (R248): with none, NO_KEY, an event, and with the reins whole-cell drag of source 4. -/
def Dev.keyCheck (d : Dev) : Dev :=
  if d.cellHeld then d.set R.RAD_STATUS_NO_KEY 0
  else
    let d := if d.on R.RAD_STATUS_NO_KEY then d else (d.set R.RAD_STATUS_NO_KEY 1).record 0x0704 (u8 (Config.argCode 0x0704 1))
    if d.reins then d.setSrc 4 true else d

/-- How an operation that names a slot ends when the slot does not serve the engine (R556, R565, R573). -/
def Dev.slotRefusal (d : Dev) (n : Nat) : Status :=
  match d.get R.KEY_ATTR_STATE n with
  | 2 => .keyStale
  | 3 => .eccUncorrectable
  | _ => .keyDenied

/-- The join key of a serial (R561): from the join root, where it can serve. -/
def Dev.joinKey (d : Dev) (serial : Nat) : Option (List Byte) :=
  let n := d.get R.KEY_JOIN_CFG_SLOT
  if d.get R.KEY_ATTR_STATE n = 1 && d.get R.KEY_ATTR_USAGE n = 1 && d.get R.KEY_ATTR_SIZE n = 0 && d.bit R.KEY_ATTR_MASK 0 n &&
      d.get R.KEY_ATTR_DEPTH n < 6 && !d.keyBusy n then
    (tabFind d.key.bytes n).map fun k => kdf k (labelJoin ++ u64 serial) 0xFFFF (d.get R.KEY_GEN_GEN n) 128
  else none

/-- A key operation is refused: an event (R574) and its completion. -/
def Dev.keyRefuse (d : Dev) (q : Desc) (slot eng : Nat) (st : Status) : Dev :=
  let d := if st = .keyDenied || st = .keyStale then d.record 0x0F04 (u8 slot ++ u8 eng ++ u8 st.code) else d
  d.complete q st

/-! ### Taking a descriptor (R554, R566) -/

/-- The engine's one port takes the oldest KEY descriptor, when its OP is this one and no non-volatile update runs
(R566, R567). In BLANK without a root only KEY_COMMISSION goes on (R554). -/
def Dev.keyTake (d : Dev) (op : Nat) : Option (Desc × Dev) :=
  if d.key.up.isSome then none
  else match d.ring.handed.find? (fun q => q.block == 0x0F) with
    | some q => if q.op = op then d.take 0x0F op else none
    | none => none

/-- BLANK with no root burned (R554). -/
def Dev.keyBlank (d : Dev) : Bool := d.boot.lc == .blank && d.boot.root.isNone

/-! ### Commissioning (R557) -/

/-- KEY_COMMISSION on a taken descriptor: the root to burn, if any, and the state after (R557). -/
def Dev.keyCommission (d : Dev) (q : Desc) (mem : Option (List Byte)) : Option (List Byte) × Dev :=
  let a := q.area
  if !resvOk a [(0, 1), (8, 8)] || fld a 8 8 % 16 != 0 then (none, d.complete q .badDescriptor)
  else if !d.keyBlank then (none, d.complete q .refusedState)
  else match mem with
    | none => (none, d.complete q .aborted)
    | some m =>
      let r := fit 32 m
      if r.all (· == 0) || r.all (· == 255) then (none, d.complete q .badDescriptor)
      else
        let d := { d with boot := { d.boot with root := some r } }
        (some r, (((d.set R.KEY_STATUS_ROOT_SET 1).stdKeys r).record 0x0F01).complete q .done)

/-- KEY_COMMISSION (R557): the root is burned into the fuses. -/
def execKeyCommission (mem : Option (List Byte)) (s : State) : Res :=
  match s.dev.keyTake 1 with
  | none => .next s
  | some (q, d) =>
    let x := d.keyCommission q mem
    .next { s with dev := x.2, fuse := { s.fuse with root := s.fuse.root.or x.1 } }

/-! ### Import (R558, R567) -/

/-- Start a non-volatile update (R567 step 1). -/
def Dev.nvStart (d : Dev) (u : NvUp) : Dev := { d.set R.KEY_STATUS_NV_BUSY 1 with key := { d.key with up := some u } }

/-- The blob of R558 is well formed. -/
def blobOk (b : List Byte) : Bool :=
  fld b 0 1 == 1 && fld b 1 1 < 2 && fld b 2 1 < 3 && fld b 3 1 < 64 && fld b 11 1 < 2 && zeroAt b 12 4 && zeroAt b 28 4 &&
    fld b 10 1 < (if fld b 11 1 == 1 then 16 else 60)

/-- KEY_IMPORT on a taken descriptor (R558). Without NVM a non-volatile import is refused (R40; the status is a DESIGN CHOICE, log entry 89). -/
def Dev.keyImport (d : Dev) (q : Desc) (mem : Option (List Byte)) : Dev :=
  let a := q.area
  let slot := fld a 1 1
  let w := fld a 2 1
  if !resvOk a [(0, 3), (8, 8)] || fld a 8 8 % 16 != 0 || 64 ≤ slot || 64 ≤ w then d.complete q .badDescriptor
  else if d.keyBlank then d.complete q .refusedState
  else if 60 ≤ slot then d.keyRefuse q slot 5 .keyDenied
  else match mem with
    | none => d.complete q .aborted
    | some b =>
      let b := fit 80 b
      if !blobOk b then d.complete q .badDescriptor
      else match d.engineKey w 5 1 with
        | none => d.keyRefuse q slot 5 (if d.get R.KEY_ATTR_STATE w = 1 then .keyDenied else d.slotRefusal w)
        | some wrap =>
          let size := fld b 1 1
          let mask := fld b 3 1
          let gen := fld b 4 4
          let nv := fld b 11 1 == 1
          let hwm := if nv then d.get R.KEY_NV_HWM_HWM slot else tabGet d.key.hwm slot
          match gcmOpen wrap ((b.drop 16).take 12) (b.take 16) ((b.drop 32).take 32) (b.drop 64) with
          | none => d.keyRefuse q slot 5 .keyDenied
          | some pt =>
            if fld b 8 2 != d.id || fld b 10 1 != slot || (fld b 2 1 == 2 && mask != 1) || gen < hwm then d.keyRefuse q slot 5 .keyDenied
            else if nv && !d.runs .nvm then d.complete q .refusedState
            else if nv then
              d.nvStart { slot := slot, op := 1, old := d.get R.KEY_GEN_GEN slot, t := d.now, desc := q, copy := { size := size, usage := fld b 2 1, mask := mask, gen := gen, key := fit (16 + 16 * size) pt } }
            else
              let d := d.fillSlot slot { size := size, usage := fld b 2 1, mask := mask, gen := gen } pt
              (d.record 0x0F02 (u8 slot ++ u32 gen ++ u8 0)).complete q .done

/-- KEY_IMPORT (R558). -/
def execKeyImport (mem : Option (List Byte)) (s : State) : Res :=
  onDev (fun d => match d.keyTake 2 with | some (q, d) => (d.keyImport q mem).keyCheck | none => d) s

/-! ### Derivation (R559, R560) -/

/-- KEY_DERIVE on a taken descriptor (R559, R560). -/
def Dev.keyDerive (d : Dev) (q : Desc) : Dev :=
  let a := q.area
  let t := fld a 1 1
  let p := fld a 2 1
  let n := fld a 7 1
  let mask := fld a 5 1
  if !resvOk a [(0, 8), (8, n)] || 64 ≤ t || 60 ≤ p || 2 ≤ fld a 3 1 || 3 ≤ fld a 4 1 || 64 ≤ mask || 2 ≤ fld a 6 1 || n = 0 || 32 < n then
    d.complete q .badDescriptor
  else
    let st := d.get R.KEY_ATTR_STATE p
    if d.keyBlank || st = 0 || st = 3 then d.complete q .refusedState
    else if st = 2 then d.keyRefuse q t 0xFF .keyStale
    else if d.get R.KEY_ATTR_USAGE p != 1 || Nat.land mask (d.get R.KEY_ATTR_MASK p) != mask || d.get R.KEY_ATTR_DEPTH p = 6 || t < 16 || 60 ≤ t then
      d.keyRefuse q t 0xFF .keyDenied
    else
      let g := d.get R.KEY_GEN_GEN p
      let dev := if fld a 6 1 = 1 then 0xFFFF else d.id
      let k := kdf (tabGet d.key.bytes p) ((a.drop 8).take n) dev g (128 + 128 * fld a 3 1)
      (d.fillSlot t { size := fld a 3 1, usage := fld a 4 1, mask := mask, depth := d.get R.KEY_ATTR_DEPTH p + 1, parent := p, gen := g, pgen := g } k).complete q .done

/-- KEY_DERIVE (R559). -/
def execKeyDerive (s : State) : Res :=
  onDev (fun d => match d.keyTake 3 with | some (q, d) => (d.keyDerive q).keyCheck | none => d) s

/-! ### Invalidation (R564) -/

/-- Slot `n` is derived from `s`, directly or through others, at most 6 steps down (R555, R564). -/
def Dev.descends (d : Dev) (s : Nat) : Nat → Nat → Bool
  | 0, _ => false
  | k + 1, n =>
    let p := d.get R.KEY_ATTR_PARENT n
    d.get R.KEY_ATTR_STATE n != 0 && p < 64 && (p == s || d.descends s k p)

/-- A slot's generation rises by 1 and it goes STALE; a slot in FAULT stays so. -/
def Dev.staleSlot (d : Dev) (n : Nat) : Dev :=
  let g := (d.get R.KEY_GEN_GEN n + 1) % 2 ^ 32
  let d := d.set R.KEY_GEN_GEN g n
  let d := { d with key := { d.key with hwm := tabPut d.key.hwm n (max (tabGet d.key.hwm n) g) } }
  if d.get R.KEY_ATTR_STATE n = 3 then d else d.set R.KEY_ATTR_STATE 2 n

/-- KEY_INVALIDATE on a taken descriptor (R564). A non-volatile slot's record follows under R567; without NVM it cannot, and the descriptor completes ABORTED
(DESIGN CHOICE, log entry 89). -/
def Dev.keyInvalidate (d : Dev) (q : Desc) : Dev :=
  let a := q.area
  let n := fld a 1 1
  if !resvOk a [(0, 2)] || 64 ≤ n then d.complete q .badDescriptor
  else if d.keyBlank then d.complete q .refusedState
  else if 60 ≤ n then d.keyRefuse q n 0xFF .keyDenied
  else if d.get R.KEY_ATTR_STATE n = 0 then d.complete q .refusedState
  else if d.get R.KEY_ATTR_STATE n = 3 then d.complete q .eccUncorrectable
  else
    let old := d.get R.KEY_GEN_GEN n
    let l := (List.range 60).filter fun k => k != n && d.descends n 6 k
    let d := (n :: l).foldl (fun d k => d.staleSlot k) d
    let d := d.record 0x0F03 (u8 n ++ u32 (d.get R.KEY_GEN_GEN n) ++ u8 l.length)
    if d.on R.KEY_ATTR_NV n && !d.runs .nvm then d.complete q .aborted
    else if d.on R.KEY_ATTR_NV n then
      let sl := tabGet d.key.nv n
      let c := if sl.valid = 0 then sl.c0 else sl.c1
      d.nvStart { slot := n, op := 2, old := old, t := d.now, desc := q, copy := { c with gen := d.get R.KEY_GEN_GEN n, stale := true, bad := false } }
    else d.complete q .done

/-- KEY_INVALIDATE (R564). -/
def execKeyInvalidate (s : State) : Res :=
  onDev (fun d => match d.keyTake 4 with | some (q, d) => (d.keyInvalidate q).keyCheck | none => d) s

/-! ### The non-volatile store (R553, R567, R569) -/

/-- The working mirror of a non-volatile copy. -/
def Dev.mirror (d : Dev) (n : Nat) (c : NvCopy) : Dev :=
  d.fillSlot n { size := c.size, usage := c.usage, mask := c.mask, gen := c.gen, nv := true, state := if c.stale then 2 else 1 } c.key

/-- Steps 2 to 4 of R567: the other copy written, the commit word, the mirror, and the completion. -/
def Dev.nvCommit (d : Dev) : Dev :=
  match d.key.up with
  | none => d
  | some u =>
    let sl := tabGet d.key.nv u.slot
    let sl := if sl.valid = 0 then { sl with c1 := u.copy, valid := 1, count := sl.count + 1 } else { sl with c0 := u.copy, valid := 0, count := sl.count + 1 }
    let d := { d with key := { d.key with nv := tabPut d.key.nv u.slot sl, up := none } }.set R.KEY_STATUS_NV_BUSY 0
    let d := (d.mirror u.slot u.copy).set R.KEY_NV_HWM_HWM (max (d.get R.KEY_NV_HWM_HWM u.slot) u.copy.gen) u.slot
    let d := if u.op = 1 then d.record 0x0F02 (u8 u.slot ++ u32 u.copy.gen ++ u8 1) else d
    d.complete u.desc .done

/-- NV_KEY_COMMIT (R567). -/
def execNvKeyCommit (s : State) : Res := onRun .nvm (fun d => d.nvCommit.keyCheck) s

/-- The KEYJ line of R568; the step of an update in flight is open between 1 and 2. -/
def Dev.keyjLine (d : Dev) : List Byte × Dev :=
  match d.key.up with
  | none => (zeros 32, d)
  | some u =>
    let sl := tabGet d.key.nv u.slot
    let (x, d) := d.fresh
    (u8 u.op ++ u8 u.slot ++ u8 (1 - sl.valid) ++ u8 (1 + x % 2) ++ u32 u.old ++ u32 u.copy.gen ++ u32 (sl.count + 1) ++
      (u.desc.bytes.drop 8).take 8 ++ u64 u.t, d)

/-- One NV slot at boot (R553). -/
def Dev.nvLoad (d : Dev) (n : Nat) (sl : NvSlot) : Dev :=
  let c := if sl.valid = 0 then sl.c0 else sl.c1
  if sl.count = 0 then d
  else if c.bad then
    ((d.set R.KEY_ATTR_STATE 3 n).setBit R.KEY_NV_STAT_FAULT n true).record 0x0F06 (u8 n ++ u8 (Config.argCode 0x0F06 1))
  else d.mirror n c

/-- The outcome reported after a save (R569): 0 none, 1 NEW, 2 OLD, 3 UNKNOWN. -/
def Dev.keyjOutcome (d : Dev) (line : Option (List Byte)) : Nat :=
  match line with
  | none => 3
  | some b =>
    if fld b 0 1 = 0 then 0
    else if (tabGet d.key.nv (fld b 1 1)).count = fld b 12 4 then 1 else 2

/-- Keys at boot (R552-R554, R569): standard keys, the mirrors, and after a save the report. -/
def Dev.bootKeys (d : Dev) (afterSave : Bool) (line : Option (List Byte)) : Dev :=
  let d := { d with key := { d.key with bytes := [], hwm := [], up := none } }
  let d := match d.boot.root with
    | some r => if d.boot.lc == Lc.scrapped then d else d.stdKeys r
    | none => d
  let d := d.key.nv.foldl (fun (d : Dev) (p : Nat × NvSlot) => d.nvLoad p.1 p.2) d
  if afterSave then
    let o := d.keyjOutcome line
    let d := (d.set R.KEY_RESTART_OUTCOME o).set R.KEY_RESTART_SLOT (if o = 1 || o = 2 then fld (line.getD []) 1 1 else 0)
    d.record 0x0F05 (u8 o)
  else d

/-- The wipe of the non-volatile keys on entering RETURN or SCRAPPED (R554). -/
def Dev.wipeKeys (d : Dev) : Dev :=
  let d := (List.range 16).foldl (fun d i => d.set R.KEY_NV_HWM_HWM 0 i) d
  { d with key := { d.key with nv := [], up := none } }

/-- KEY_SLOT_ECC (R573). -/
def execKeySlotEcc (n : Nat) (s : State) : Res :=
  onRun .sup (fun d => if n < 64 then ((d.set R.KEY_ATTR_STATE 3 n).record 0x0F06 (u8 n ++ u8 (Config.argCode 0x0F06 0))).keyCheck else d) s

end Sys2Proof.Machine
end

