-- ==== Sys2Proof/Machine/Frame.lean ====
section
/-!
DEFINITION. Radio frames (R232-R248): headers, frame counters, the keys that protect them, what may be transmitted, and the
checks a receiver makes.
-/

namespace Sys2Proof.Machine

/-! ### Sending -/

/-- The device's cell (R275). -/
def Dev.cellNo (d : Dev) : Nat := d.get R.RAD_CELL_CFG_CELL

/-- FCNT of a device-originated frame whose first slot is `n` (R243). -/
def Dev.fcntOf (d : Dev) (n : Nat) : Nat := 4000 * (d.gpsSec % 604800) + 400 * (d.sfn % 10) + n

/-- The radio may transmit at all: its domain runs, enabled, or in the four drag slots after a disable (R271); no duplicate ID (R18); not
inhibited (R30); a life-cycle state that transmits (R64); MAC running (R56). -/
def Dev.radTx (d : Dev) : Bool := 
  d.runs .rad && (d.boot.lc == .provisioned || d.boot.lc == .field) && !d.sys.down.contains 3 && (d.on R.RAD_CTRL_EN || d.rad.stopAir != 0) && !d.on R.RAD_STATUS_DUP_ID &&
  !d.rad.inhibit

/-- The device transmits on its cell: reins, L1 or higher, a valid cell key (R20, R58, R248). -/
def Dev.cellTx (d : Dev) : Bool := d.reins && 1 ≤ d.level && d.radTx && d.cellSlot.isSome

/-- The 8-byte header (R238). -/
def frameHdr (cell typ : Nat) (site : Bool) (gen src dst fcnt : Nat) : List Byte :=
  u16 (cell % 512 + 512 * (typ % 16) + 8192 * b2n site + 16384 * (gen % 2)) ++ u8 src ++ u8 dst ++ u32 fcnt

/-- Bytes in the order of their bits on the air, least significant first (R4). -/
def airBits (b : List Byte) : List Bool := b.flatMap fun x => (List.range 8).map fun k => bitOf x.toNat k

/-- The bits of a frame as the modem sends them, behind its preamble (R4, R232). -/
def AirFrame.onAir (f : AirFrame) : List Bool := airBits f.frame

/-- A frame sealed (R238, R241): header, `ex` payload bytes as they are, the rest encrypted with its MIC, CRC. -/
def Dev.seal (d : Dev) (hdr : List Byte) (key : List Byte) (ex : Nat) (payload : List Byte) : List Byte :=
  let aad := hdr ++ payload.take ex
  let body := aad ++ fit (payload.length - ex + 8) (ccmSeal key (hdr.take 3 ++ hdr.drop 4 ++ u48 d.sfn) aad (payload.drop ex))
  body ++ u16 (crc16 body)

/-- A frame goes on the air in slot `n` (R234, R235, R238, R241): under the bytes `kb` of a key of slot `key`, `ex` payload bytes unencrypted; its first chip goes out
20 µs after the slot start, behind it 32 µs of preamble and 4 µs a byte. -/
def Dev.airUnder (d : Dev) (kb : List Byte) (ex n ch code typ src dst key : Nat) (site : Bool) (payload : List Byte) : Dev :=
  let hdr := frameHdr d.cellNo typ site (d.get R.KEY_GEN_GEN key) src dst (d.fcntOf n)
  let f := d.seal hdr kb ex payload
  d.emit (.air { slot := n, ch := ch, code := code, typ := typ, key := key, fcnt := d.fcntOf n, payload := payload
                 header := hdr, frame := f, pwr := d.get R.RAD_TX_CFG_PWR, on0 := d.slotStart n + 15000
                 on1 := d.slotStart n + 52000 + 4000 * f.length, trsw := !d.on R.RAD_TX_CFG_TRSW_POL, paEn := d.on R.RAD_TX_CFG_PA_EN_MODE })

/-- A frame goes on the air in slot `n`, under the key of a slot, all its payload encrypted. -/
def Dev.air (d : Dev) (n ch code typ src dst key : Nat) (site : Bool) (payload : List Byte) : Dev :=
  d.airUnder ((d.radioKey key).getD []) 0 n ch code typ src dst key site payload

/-- A frame of the cell, under the cell frame key (R240). -/
def Dev.airCell (d : Dev) (n typ src dst : Nat) (payload : List Byte) : Dev :=
  match d.cellSlot with
  | some k => d.air n (d.get R.RAD_CELL_CFG_CELL_CH) (d.get R.RAD_CELL_CFG_CODE) typ src dst k false payload
  | none => d

/-- The slot of the site frame key, while it serves (R240). -/
def Dev.siteSlot (d : Dev) : Option Nat :=
  let n := d.get R.RAD_KEY_CFG_SITE_SLOT
  if (d.radioKey n).isSome then some n else none

/-! ### Receiving (R245) -/

/-- CTL fields of a frame, and its addresses and counter. -/
def fCell (f : List Byte) : Nat := fld f 0 2 % 512
/-- TYPE. -/
def fType (f : List Byte) : Nat := bits (fld f 0 2) 9 4
/-- SITEKEY. -/
def fSite (f : List Byte) : Bool := bitOf (fld f 0 2) 13
/-- GEN. -/
def fGen (f : List Byte) : Nat := bits (fld f 0 2) 14 1
/-- SRC. -/
def fSrc (f : List Byte) : Nat := fld f 2 1
/-- DST. -/
def fDst (f : List Byte) : Nat := fld f 3 1
/-- FCNT. -/
def fCnt (f : List Byte) : Nat := fld f 4 4

/-- Source and destination are no reserved addresses (R239). -/
def addrOk (f : List Byte) : Bool :=
  let dev := fun (a : Nat) => a < 240 || a == 0xF0 || a == 0xF1 || a == 0xFE
  dev (fSrc f) && (dev (fDst f) || fDst f == 0xFF)

/-- Length and CRC of a frame hold (R232, R238). -/
def crcOk (f : List Byte) (len : Nat) : Bool := f.length == len && crc16 (f.take (len - 2)) == fld f (len - 2) 2

/-- The payload of a frame whose MIC verifies under a key; `ex` payload bytes are associated data (R241, R242). -/
def Dev.unseal (d : Dev) (f : List Byte) (ex : Nat) (k : List Byte) : Option (List Byte) :=
  let body := (f.drop 8).take (f.length - 10)
  (ccmOpen k (f.take 3 ++ (f.drop 4).take 4 ++ u48 d.sfn) (f.take (8 + ex)) (body.drop ex)).map fun p => fit (f.length - 18) (body.take ex ++ p)

/-- The cell frame key a frame's GEN selects: that in use, or the old one for 10 superframes after a switch (R245, R247). -/
def Dev.cellRxKey (d : Dev) (gen : Nat) : Option (List Byte) :=
  let old := match d.rad.oldTo with | some t => if d.sfn < t then [d.get R.RAD_KEY_CFG_NEXT_SLOT] else [] | none => []
  ((d.cellSlot.toList ++ old).find? fun k => d.get R.KEY_GEN_GEN k % 2 == gen).bind fun k => d.radioKey k

/-- The site frame key a frame's GEN selects. -/
def Dev.siteRxKey (d : Dev) (gen : Nat) : Option (List Byte) := (d.siteSlot.filter fun k => d.get R.KEY_GEN_GEN k % 2 == gen).bind fun k => d.radioKey k

/-- The checks of R245 in turn, while MAC runs: CRC; whether the header is one this receiver takes; MIC; counter above the high-water
entry. A failure of the CRC, the MIC or the counter is counted. -/
def Dev.receive (d : Dev) (f : List Byte) (len ex : Nat) (want : Bool) (k : Option (List Byte)) (hw : Option Nat) : Option (List Byte) × Dev :=
  if d.sys.down.contains 3 then (none, d)
  else if !crcOk f len then (none, d.inc R.RAD_ERR_CRC_ERR)
  else if !want || !addrOk f || bitOf (fld f 0 2) 15 then (none, d)
  else match k.bind (d.unseal f ex) with
    | none => (none, d.inc R.RAD_ERR_MIC_FAIL)
    | some p =>
      match hw with
      | some h => if fCnt f ≤ h then (none, d.inc R.RAD_ERR_REPLAY) else (some p, d)
      | none => (some p, d)

/-- A frame under the site key from the 0xF0 source of a cell; an accepted one sets that cell's entry. -/
def Dev.receiveSite (d : Dev) (f : List Byte) (want : Bool) : Option (List Byte) × Dev :=
  match d.receive f 49 0 (want && fSite f && fSrc f == 0xF0) (d.siteRxKey (fGen f)) (tabFind d.rad.hwSite (fCell f)) with
  | (some p, d) => (some p, { d with rad := { d.rad with hwSite := tabPut d.rad.hwSite (fCell f) (fCnt f) } })
  | r => r

/-- A frame of machine `m` under the cell frame key; an accepted one sets the machine's entry. -/
def Dev.receiveMach (d : Dev) (f : List Byte) (m : Nat) (want : Bool) : Option (List Byte) × Dev :=
  match d.receive f 49 0 (want && !fSite f && fCell f == d.cellNo && fSrc f == m && m < 240) (d.cellRxKey (fGen f)) (tabFind d.rad.hwM m) with
  | (some p, d) => (some p, { d with rad := { d.rad with hwM := tabPut d.rad.hwM m (fCnt f) } })
  | r => r

/-- Machine frames are discarded in the superframe of a takeover (R246). -/
def Dev.discards (d : Dev) : Bool := d.rad.discard == d.sfn + 1

end Sys2Proof.Machine
end

