-- ==== Sys2Proof/Machine/Chan.lean ====
section
/-!
DEFINITION. What the sky front and the tracking channels share: the signal tables of R78, R92 and R118, the search queue
of R95, the channel states of R130 and the allotting of channels (R120, R121).
-/

namespace Sys2Proof.Machine

/-! ### Signals (R78, R79, R92, R118) -/

/-- The band of a signal code: 0 A, 1 B, 2 C (R118). -/
def sigBand (g : Nat) : Nat :=
  if g ∈ [2, 5, 9, 13] then 1 else if g ∈ [3, 7, 8, 12, 16, 17] then 2 else 0

/-- The system of a satellite identifier and its number within it (R79). -/
def satSys (sat : Nat) : Nat := sat / 4096
/-- SAT[11:0] (R79). -/
def satPrn (sat : Nat) : Nat := sat % 4096

/-- A signal's carrier in Hz (R78); for GLONASS it depends on the frequency channel. -/
def carrierHz (g sat : Nat) : Nat :=
  match g with
  | 2 => 1227600000
  | 3 | 7 | 12 | 16 | 17 => 1176450000
  | 4 => 1602000000 + satPrn sat * 562500 - 7 * 562500
  | 5 => 1246000000 + satPrn sat * 437500 - 7 * 437500
  | 8 => 1207140000
  | 9 => 1278750000
  | 10 => 1561098000
  | 13 => 1268520000
  | _ => 1575420000

/-- A band's local oscillator in Hz (R77). -/
def loHz (b : Nat) : Nat := match b with | 0 => 1584000000 | 1 => 1254000000 | _ => 1191795000

/-- Chip rate in Hz (R78). -/
def chipHz (g : Nat) : Nat :=
  if g ∈ [3, 7, 8, 12, 13, 16] then 10230000 else if g = 9 then 5115000 else if g = 10 then 2046000
  else if g ∈ [4, 5] then 511000 else 1023000

/-- The grain of a signal in ms (R118, R128). -/
def grainMs (g : Nat) : Nat := if g ∈ [1, 11, 15] then 10 else if g = 6 then 4 else if g = 2 then 20 else 1

/-- The longest T_int in TRACK in ms (R118). -/
def longestTint (g sat : Nat) : Nat :=
  if g ∈ [1, 4, 5, 11, 15] then 10 else if g ∈ [10, 13] && Config.isGeo sat then 2 else 20

/-- The code period in ms (R118). -/
def codeMs (g : Nat) : Nat := if g ∈ [1, 11, 15] then 10 else if g = 6 then 4 else if g = 2 then 1500 else 1

/-- The synchronization a signal needs before TRACK (R118). -/
def syncOf (g sat : Nat) : SyncKind :=
  if g ∈ [0, 14] then .dataBit else if g ∈ [1, 11, 15] then .codePeriod else if g = 2 then .codeFromL1
  else if g ∈ [3, 16] then .secondary20 else if g ∈ [4, 5] then .meander else if g = 6 then .secondary25
  else if g ∈ [10, 13] then (if Config.isGeo sat then .dataBit2 else .secondary20) else if g = 17 then .dataSymbol else .secondary100

/-- The period in ms a channel has synchronized (R118, R137). -/
def syncMs (g : Nat) : SyncKind → Nat
  | .dataBit | .secondary20 | .dataSymbol => 20
  | .dataBit2 => 2
  | .codeFromL1 => 1500
  | .secondary25 | .secondary100 => 100
  | .meander => 10
  | .codePeriod | .none => codeMs g

/-- Default SPACING of a signal in 1/64 chip (R118). -/
def defSpacing (g : Nat) : Nat := if g ∈ [3, 7, 8, 12, 13, 16] then 16 else if g ∈ [1, 6, 9, 11, 15] then 8 else 6

/-- Default tap set of a signal (R118). -/
def defTapSet (g : Nat) : Nat := if g ∈ [1, 6, 11, 15] then 1 else 0

/-- A Costas signal (R118). -/
def costas (g : Nat) : Bool := g ∈ [0, 4, 5, 10, 13, 14, 17]

/-- A BOC(1,1) replica (R118). -/
def bocReplica (g : Nat) : Bool := g ∈ [1, 6, 11, 15]

/-- The search class of a signal (R92), where it has one. -/
def sigClass (g : Nat) : Option Nat :=
  if g ∈ [0, 14, 17] then some 0 else if g = 10 then some 1 else if g = 4 then some 2 else if g = 6 then some 3
  else if g ∈ [1, 11, 15] then some 4 else if g ∈ [3, 7, 8, 12, 16] then some 5 else none

/-- The signal a search of a class finds on a satellite (R78, R92); class W on Galileo finds E5a, which is the one a search may look for
directly (R78: E5b is started by handover alone; DEDUCED, log entry 83). -/
def classSig (cls sat : Nat) : Nat :=
  match cls, satSys sat with
  | 0, 4 => 14 | 0, 5 => 17 | 0, _ => 0
  | 1, _ => 10
  | 2, _ => 4
  | 3, _ => 6
  | 4, 3 => 11 | 4, 4 => 15 | 4, _ => 1
  | _, 2 => 7 | _, 3 => 12 | _, 4 => 16 | _, _ => 3

/-- CLASS and BAND match (R92). -/
def classBand (cls band : Nat) : Bool :=
  match cls with
  | 0 => band = 0 || band = 2
  | 5 => band = 2
  | _ => cls ≤ 4 && band = 0

/-- Samples per ms of a class's search rate times 10 (R92). -/
def searchRate10 (cls : Nat) : Nat := match cls with | 0 => 20480 | 1 => 40960 | 2 => 81920 | 3 => 40960 | 4 => 65536 | _ => 327680

/-- The capture of a search fits the 4 MiB area: one byte a sample (R92, R103). -/
def captureFits (cls tcoh k : Nat) : Bool := tcoh * k * searchRate10 cls ≤ 10 * 4194304

/-- The handover signals a source signal starts (R78). -/
def handoverOf (g : Nat) : List Nat :=
  match g with
  | 0 => [1, 2, 3] | 6 => [7, 8, 9] | 10 => [11, 13] | 11 => [12] | 4 => [5] | 14 => [15, 16] | _ => []

/-- The source of a handover signal (R78). -/
def sourceOf (g : Nat) : Option Nat :=
  match g with
  | 1 | 2 | 3 => some 0 | 7 | 8 | 9 => some 6 | 11 | 13 => some 10 | 12 => some 11 | 5 => some 4 | 15 | 16 => some 14 | _ => none

/-- A direct signal (R78): the search engines take it; L5, E5a and B2a only while band A is jammed. -/
def Dev.direct (d : Dev) (g : Nat) : Bool := g ∈ [0, 4, 6, 10, 14, 17] || (g ∈ [3, 7, 12, 16] && d.get R.SKY_JAM_STATE 0 == 2)

/-- Doppler bins of a search: 2 × ceil(H / bin) + 1 with bins of 500 / TCOH Hz and H = SPAN + f × REF_UNC (R93). -/
def nbinsOf (spanHz ppb fHz tcoh : Nat) : Nat := 2 * ceilDiv ((spanHz * 1000000000 + fHz * ppb) * tcoh) 500000000000 + 1

/-! ### The search queue (R95) -/

/-- QUEUE follows the queue. -/
def Dev.acqCount (d : Dev) : Dev := d.set R.ACQ_STATUS_QUEUE d.sky.queue.length

/-- Queue a search, while fewer than 256 are queued (R95) and acquisition is enabled (R104, R108; that a reacquisition too waits for ACQ_EN
is DEDUCED, log entry 83). -/
def Dev.enqueue (d : Dev) (x : Search) : Dev :=
  if 256 ≤ d.sky.queue.length || !d.on R.SKY_CTRL_ACQ_EN then d
  else { d with sky := { d.sky with queue := d.sky.queue ++ [{ x with no := d.sky.nextNo }], nextNo := d.sky.nextNo + 1 } }.acqCount

/-- A search with a class's defaults (R92, R114). -/
def Dev.classSearch (d : Dev) (kind : SearchKind) (cls band sat : Nat) : Search :=
  let t := d.get R.ACQ_CLASS_CFG_TCOH cls
  let g := classSig cls sat
  { kind := kind, cls := cls, band := band, sat := sat, sig := g, tcoh := t, k := d.get R.ACQ_CLASS_CFG_K cls,
    thr := d.get R.ACQ_CLASS_CFG_THR cls, track := true,
    nbins := nbinsOf (d.get R.ACQ_DOPP_CFG_SPAN) (d.get R.ACQ_DOPP_CFG_REF_UNC) (carrierHz g sat) t }

/-- Queue a reacquisition for a channel's signal (R100): ± 3 bins, K 4 reduced so that TCOH × K is at most 24 ms. -/
def Dev.reacquire (d : Dev) (ch sat sig : Nat) (dopp : Int) : Dev :=
  match sigClass sig with
  | none => d
  | some c =>
    let t := d.get R.ACQ_CLASS_CFG_TCOH c
    d.enqueue { d.classSearch .reacq c (sigBand sig) sat with
      sig := sig, k := min 4 (24 / t), nbins := 7, chan := some ch, doppC := dopp }

/-! ### Channel states (R130) -/

/-- STATE codes of TRK_CH_STAT (R158). -/
def stIdle : Nat := 0
/-- PULLIN. -/
def stPullin : Nat := 1
/-- FLL. -/
def stFll : Nat := 2
/-- PLL. -/
def stPll : Nat := 3
/-- TRACK. -/
def stTrack : Nat := 4
/-- LOST. -/
def stLost : Nat := 5
/-- SEARCH_WAIT. -/
def stWait : Nat := 6
/-- OUT_OF_SERVICE. -/
def stOos : Nat := 7

/-- A channel's extra state. -/
def Dev.chan (d : Dev) (ch : Nat) : Chan := tabGet d.trk.chan ch
/-- Change a channel's extra state. -/
def Dev.modChan (d : Dev) (ch : Nat) (f : Chan → Chan) : Dev := { d with trk := { d.trk with chan := tabMod d.trk.chan ch f } }

/-- Enter a state: the time is noted, and TRACKING and OOS follow. -/
def Dev.chState (d : Dev) (ch st : Nat) : Dev :=
  let old := d.get R.TRK_CH_STAT_STATE ch
  let d := (d.set R.TRK_CH_STAT_STATE st ch).modChan ch fun c => { c with since := d.clk.mono }
  let d := if ch < 180 then d.set R.TRK_STATUS_TRACKING (d.get R.TRK_STATUS_TRACKING + b2n (st == stTrack) - b2n (old == stTrack)) else d
  d.set R.TRK_STATUS_OOS (d.get R.TRK_STATUS_OOS + b2n (st == stOos) - b2n (old == stOos))

/-- The sky channels. -/
def skyChans : List Nat := List.range 180

/-- A satellite's signal is on some sky channel in a given state or beyond. -/
def Dev.tracked (d : Dev) (sat sig : Nat) : Bool :=
  skyChans.any fun ch => d.get R.TRK_CH_STAT_STATE ch == stTrack && d.get R.TRK_CH_SEL_SAT ch == sat && d.get R.TRK_CH_SEL_SIG ch == sig

/-- Signals of a satellite in TRACK. -/
def Dev.trackedOf (d : Dev) (sat : Nat) : Nat :=
  (skyChans.filter fun ch => d.get R.TRK_CH_STAT_STATE ch == stTrack && d.get R.TRK_CH_SEL_SAT ch == sat).length

/-- A satellite's signal occupies a channel. -/
def Dev.onChannel (d : Dev) (sat sig : Nat) : Bool :=
  skyChans.any fun ch =>
    let st := d.get R.TRK_CH_STAT_STATE ch
    (1 ≤ st && st ≤ 4) && d.get R.TRK_CH_SEL_SAT ch == sat && d.get R.TRK_CH_SEL_SIG ch == sig

/-- The tap set a channel's TAP_SET selects, as offsets in 1/64 chip (R118, R124). -/
def Dev.tapsOf (d : Dev) (ch : Nat) : List Int :=
  let k := d.get R.TRK_CH_CFG_TAP_SET ch
  let s := if k = 4 then defTapSet (d.get R.TRK_CH_SEL_SIG ch) else k
  [0, 1].flatMap fun w => [R.TRK_TAPSET_TAP0, R.TRK_TAPSET_TAP1, R.TRK_TAPSET_TAP2, R.TRK_TAPSET_TAP3].map fun (f : Fld) => d.geti f s w

/-- SPACING in force on a channel, in 1/64 chip (R118, R123). -/
def Dev.spacingOf (d : Dev) (ch : Nat) : Nat :=
  let k := d.get R.TRK_CH_CFG_SPACING ch
  if k = 0 then defSpacing (d.get R.TRK_CH_SEL_SIG ch) else k

/-- The offsets of the eleven correlators from prompt, in 1/128 chip: early at −SPACING/2, prompt, late at +SPACING/2, the comb taps in force
(R123, R124). -/
def Dev.corrOffsets (d : Dev) (ch : Nat) : List Int :=
  let h : Int := d.spacingOf ch
  [-h, 0, h] ++ (d.chan ch).taps.map (2 * ·)

/-! ### Code and carrier (R121, R137, R138) -/

/-- Length of the count of TX_CODE in s: the week, or the GLONASS day (R137). -/
def countSec (g : Nat) : Nat := if g ∈ [4, 5] then 86400 else 604800

/-- The code a signal runs through in `ns`, in 2^-30 chip, with the carrier's aid: its Doppler scaled by chip rate over carrier (R127). -/
def codeRun (g sat ns : Nat) (dopp : Int) : Int :=
  chipHz g * 2 ^ 30 * ns / 10 ^ 9 + dopp * chipHz g * 2 ^ 22 * ns / (carrierHz g sat * 10 ^ 9)

/-- A channel's code now, in 1/1024 chip: run on from its last integration, modulo the week or day, or while TOW_VALID is clear modulo the longest
period synchronized (R133, R137). -/
def Dev.txCode (d : Dev) (ch : Nat) : Int :=
  let c := d.chan ch
  let g := d.get R.TRK_CH_SEL_SIG ch
  let sat := d.get R.TRK_CH_SEL_SAT ch
  let per : Nat := if c.tow then countSec g * 1000 else if c.sync then syncMs g (syncOf g sat) else codeMs g
  ((c.code + codeRun g sat (d.clk.mono - c.at0) c.doppler) / 2 ^ 20) % (chipHz g * per * 1024 / 1000 : Nat)

/-- A channel's accumulated carrier now, in 1/256 cycle, growing with the range (R133, R138). -/
def Dev.carrierNow (d : Dev) (ch : Nat) : Int :=
  let c := d.chan ch
  (c.carrier - c.doppler * ((d.clk.mono - c.at0 : Nat) : Int) / 1000000) / 1000

/-- A transmit time in 1/1024 chip of one signal, in those of another of the same satellite. -/
def chipScale (g h : Nat) (x : Int) : Int := x * chipHz h / chipHz g

/-- The value congruent to `b` modulo `m` that lies nearest `a`. -/
def nearCong (a b : Int) (m : Nat) : Int := a - ((a - b + (m / 2 : Nat)) % m - (m / 2 : Nat))

/-- A channel's code measurement in 1/1024 chip (R126): the code less the comb's bias in CORRECT, unless the fit's residual is over its limit. -/
def Dev.txMeas (d : Dev) (ch : Nat) : Int :=
  d.txCode ch - (if d.get R.TRK_CH_CFG_COMB_MODE ch = 2 && !(d.chan ch).mpSuspect then (d.chan ch).mp else 0)

/-- A signal's time scale less GPS time, in whole seconds (R137): BDT is GPS time less 14 s, GLONASS time is UTC + 3 h. -/
def scaleOff (g : Nat) : Int := if g ∈ [10, 11, 12, 13] then -14 else if g ∈ [4, 5] then 10800 - (Config.leap : Int) else 0

/-- The time of an epoch in a signal's time scale, in 1/1024 chip from the start of its week or day (R137). -/
def rxCode (g yard : Nat) : Int :=
  let w : Nat := countSec g * second
  (((yard : Int) + scaleOff g * (second : Nat)) % (w : Int)) * (chipHz g * 1024 : Nat) / 1000000000

/-- A channel's pseudorange now in 1/1024 chip: receive time less transmit time, within half a week or day (R137). -/
def Dev.rangeChips (d : Dev) (ch : Nat) : Int :=
  let g := d.get R.TRK_CH_SEL_SIG ch
  nearCong 0 (rxCode g d.now - d.txMeas ch) (countSec g * chipHz g * 1024)

/-- A channel's pseudorange now in ps. -/
def Dev.rangePs (d : Dev) (ch : Nat) : Int := d.rangeChips ch * 1000000000000 / (chipHz (d.get R.TRK_CH_SEL_SIG ch) * 1024 : Nat)

/-- Give a channel a signal: it starts in PULLIN with a code in 1/1024 chip and a Doppler in 1/256 Hz (R121, R130). -/
def Dev.startPullin (d : Dev) (ch sat sig : Nat) (handover : Bool) (elev code dopp : Int) : Dev :=
  let d := (d.set R.TRK_CH_SEL_SAT sat ch).set R.TRK_CH_SEL_SIG sig ch
  let c : Chan := { handover := handover, elev := elev, at0 := d.clk.mono, code := code * 2 ^ 20, doppler := dopp, taps := d.tapsOf ch }
  let d := { d with trk := { d.trk with chan := tabPut d.trk.chan ch c } }
  (d.set R.TRK_CH_STAT_TINT (grainMs sig) ch).chState ch stPullin

/-- The channel that tracks a satellite's signal. -/
def Dev.channelOf (d : Dev) (sat sig : Nat) : Option Nat :=
  skyChans.find? fun ch => d.get R.TRK_CH_STAT_STATE ch == stTrack && d.get R.TRK_CH_SEL_SAT ch == sat && d.get R.TRK_CH_SEL_SIG ch == sig

/-- Start a handover signal: code phase from the source's transmit time, Doppler scaled by the ratio of the carriers (R121). -/
def Dev.startHandover (d : Dev) (ch sat sig : Nat) (elev : Int) : Dev :=
  match (sourceOf sig).bind fun g => d.channelOf sat g with
  | some k =>
    let g := d.get R.TRK_CH_SEL_SIG k
    d.startPullin ch sat sig true elev (chipScale g sig (d.txCode k)) ((d.chan k).doppler * carrierHz sig sat / carrierHz g sat)
  | none => d

/-- The lowest AUTO channel that is IDLE and not held for a reacquisition (R120). -/
def Dev.freeAuto (d : Dev) : Option Nat :=
  skyChans.find? fun ch => !d.on R.TRK_CH_CFG_OWNER ch && d.get R.TRK_CH_STAT_STATE ch == stIdle && (d.chan ch).holdTo.isNone

/-- The channel a direct signal displaces: the AUTO handover signal with the lowest C/N0 among satellites that have at
least three signals tracked (R120, rule 1). -/
def Dev.displaced (d : Dev) : Option Nat :=
  let l := skyChans.filter fun ch =>
    !d.on R.TRK_CH_CFG_OWNER ch && (d.chan ch).handover && d.get R.TRK_CH_STAT_STATE ch == stTrack && 3 ≤ d.trackedOf (d.get R.TRK_CH_SEL_SAT ch)
  l.foldl (fun best ch => match best with
    | none => some ch
    | some b => if d.get R.TRK_CH_STAT_CN0 ch < d.get R.TRK_CH_STAT_CN0 b then some ch else some b) none

/-- The device allots a channel to a satellite: enabled, allotting, above the elevation mask (R120, R150). -/
def Dev.mayAllot (d : Dev) (elev : Int) : Bool :=
  d.on R.TRK_CTRL_EN && d.on R.TRK_CTRL_AUTO_ALLOC && (d.get R.TRK_CTRL_ELEV_MASK : Int) ≤ elev

/-- A signal asks for a channel (R120): the channel it is given, if any. -/
def Dev.allotFor (d : Dev) (c : Cand) : Option Nat :=
  if !d.mayAllot c.elev then none
  else match d.freeAuto with
    | some ch => some ch
    | none => if !c.handover && d.trackedOf c.sat == 0 then d.displaced else none

/-- A signal waits for a channel (R99, R120). -/
def Dev.waitChan (d : Dev) (c : Cand) : Dev := { d with sky := { d.sky with cands := d.sky.cands ++ [c] } }

/-- A candidate or handover signal starts on a channel it was given; the handover signal it displaces there waits for another (R120, rules 1
and 2; that it waits is DEDUCED, log entry 36). -/
def Dev.startOn (d : Dev) (ch : Nat) (c : Cand) : Dev :=
  let d := if d.get R.TRK_CH_STAT_STATE ch == stTrack then
      d.waitChan { sat := d.get R.TRK_CH_SEL_SAT ch, sig := d.get R.TRK_CH_SEL_SIG ch, t := d.clk.mono, handover := true, elev := (d.chan ch).elev }
    else d
  if c.handover then d.startHandover ch c.sat c.sig c.elev else d.startPullin ch c.sat c.sig false c.elev c.codePh (16 * c.dopp)

/-- Give a waiting signal the free channel: candidates first, in their order, then handover signals by elevation, highest first (R99, R120). A
handover signal whose source has gone waits no more. -/
def Dev.allotWaiting (d : Dev) : Dev :=
  let d := { d with sky := { d.sky with cands := d.sky.cands.filter fun c => !c.handover || (match sourceOf c.sig with | some g => d.tracked c.sat g | none => false) } }
  let l := d.sky.cands.filter fun c => d.mayAllot c.elev
  let best := match l.find? fun c => !c.handover with
    | some c => some c
    | none => l.foldl (fun b c => match b with
        | none => some c
        | some x => if x.elev < c.elev then some c else some x) none
  match d.freeAuto, best with
  | some ch, some c => { d with sky := { d.sky with cands := d.sky.cands.erase c } }.startOn ch c
  | _, _ => d

/-- Start the handover signals of a source that has reached TRACK (R121). -/
def Dev.startHandovers (d : Dev) (sat sig : Nat) (elev : Int) : Dev :=
  if !d.on R.TRK_CTRL_HANDOVER then d
  else (handoverOf sig).foldl (fun d g =>
    if d.onChannel sat g || !bitOf (d.get R.SKY_STATUS_RF_LOCK) (sigBand g) then d
    else
      let c : Cand := { sat := sat, sig := g, t := d.clk.mono, handover := true, elev := elev }
      match d.allotFor c with
      | some ch => d.startOn ch c
      | none => if d.mayAllot c.elev then d.waitChan c else d) d

/-- Free a channel: IDLE, and a waiting signal may take it. -/
def Dev.freeChan (d : Dev) (ch : Nat) : Dev := (d.chState ch stIdle).allotWaiting

/-- A handover signal is retried 10 s later (R121), on the channel the host started it on where it did (DEDUCED, log entry 36). -/
def Dev.retryLater (d : Dev) (ch : Nat) : Dev :=
  let c : Cand := { sat := d.get R.TRK_CH_SEL_SAT ch, sig := d.get R.TRK_CH_SEL_SIG ch, t := d.clk.mono, handover := true, elev := (d.chan ch).elev,
                    chan := if d.on R.TRK_CH_CFG_OWNER ch then some ch else none }
  { d with trk := { d.trk with retry := d.trk.retry ++ [c] } }

/-- A channel loses its signal (R130, R131): LOST, the loss reported to the acquisition queue and the channel held for
the reacquisition; a handover signal with no search class waits for its next retry (R121). R100 queues the reacquisition of a signal "confirmed within the last
30 s": a channel in FLL, PLL or TRACK holds a confirmed signal up to its loss (DEDUCED, log entry 83). -/
def Dev.chanLost (d : Dev) (ch : Nat) : Dev :=
  let sat := d.get R.TRK_CH_SEL_SAT ch
  let sig := d.get R.TRK_CH_SEL_SIG ch
  let c := d.chan ch
  let d := (d.chState ch stLost).modChan ch fun x => { x with lossAt := none, locked := false }
  match sigClass sig with
  | some _ => (d.reacquire ch sat sig (c.doppler / 16)).modChan ch fun x => { x with holdTo := some (d.clk.mono + 1000 * ms) }
  | none => d.retryLater ch

/-- Every channel of a band loses its signal at once, with no reacquisition (R132); a host-owned one returns to IDLE. -/
def Dev.bandLost (d : Dev) (b : Nat) : Dev :=
  skyChans.foldl (fun d ch =>
    let st := d.get R.TRK_CH_STAT_STATE ch
    if 1 ≤ st && st ≤ 6 && sigBand (d.get R.TRK_CH_SEL_SIG ch) == b then
      if d.on R.TRK_CH_CFG_OWNER ch then d.chState ch stIdle
      else if st ≤ 5 then (d.chState ch stLost).modChan ch fun x => { x with holdTo := none, lossAt := none, locked := false }
      else d
    else d) d

end Sys2Proof.Machine
end

