-- ==== Sys2Proof/Machine/Trk.lean ====
section
/-!
DEFINITION. Tracking channels (R115-R150): host starts and stops, integrations, timeouts, loss and reacquisition,
datapath faults and spares, and the measurement epoch's block.
-/

namespace Sys2Proof.Machine

/-! ### Host-owned channels (R117, R122) -/

/-- TRK_CH_CMD.START of a host-owned channel in IDLE. -/
def Dev.chStart (d : Dev) (ch v : Nat) : Dev :=
  if 180 ≤ ch then d
  else
    let d := d.writeAddr (R.TRK_CH_CMD_START.addr ch) v
    if !bitOf v 0 || !d.on R.TRK_CH_CFG_OWNER ch || d.get R.TRK_CH_STAT_STATE ch != stIdle || !d.on R.TRK_CTRL_EN then d
    else
      let sat := d.get R.TRK_CH_SEL_SAT ch
      let sig := d.get R.TRK_CH_SEL_SIG ch
      if d.direct sig then
        match sigClass sig with
        | some c =>
          let q := { d.classSearch .host c (sigBand sig) sat with sig := sig, chan := some ch }
          if 256 ≤ d.sky.queue.length || !d.on R.SKY_CTRL_ACQ_EN then d.raise R.TRK_CH_CMD_FAIL ch
          else (d.enqueue q).chState ch stWait
        | none => d.raise R.TRK_CH_CMD_FAIL ch
      else
        match sourceOf sig with
        | some g => if d.tracked sat g then d.startHandover ch sat sig 0 else d.raise R.TRK_CH_CMD_FAIL ch
        | none => d.raise R.TRK_CH_CMD_FAIL ch

/-- TRK_CH_START (R122). -/
def execTrkChStart (ch : Nat) (v : Word32) (s : State) : Res := onReg R.TRK_CH_CMD_START (fun d => d.chStart ch v.toNat) s

/-- TRK_CH_CMD.STOP: the channel returns to IDLE (R122); its queued searches lose it as their target. -/
def Dev.chStop (d : Dev) (ch v : Nat) : Dev :=
  if 180 ≤ ch then d
  else
    let d := d.writeAddr (R.TRK_CH_CMD_STOP.addr ch) v
    let st := d.get R.TRK_CH_STAT_STATE ch
    if !bitOf v 1 || st == stOos || st == stIdle then d
    else
      let d := { d with sky := { d.sky with queue := d.sky.queue.filter fun x => x.chan != some ch } }.acqCount
      (d.modChan ch fun _ => {}).freeChan ch

/-- TRK_CH_STOP (R122). -/
def execTrkChStop (ch : Nat) (v : Word32) (s : State) : Res := onReg R.TRK_CH_CMD_STOP (fun d => d.chStop ch v.toNat) s

/-! ### Integrations (R125, R128-R130) -/

/-- The T_int applied in TRACK (R128): the largest value up to TINT that is a multiple of the grain, divides the longest
T_int and keeps PLL_BW × T_int at most 0.2; one grain where there is none. -/
def tintApplied (grain longest tint pllBw : Nat) : Nat :=
  let top := if tint = 0 then longest else tint
  (((List.range (top + 1)).filter fun v => v != 0 && v % grain == 0 && longest % v == 0 && pllBw * v ≤ 800).getLast?).getD grain

/-- The T_int a channel applies (R128): profile 0's one grain before TRACK, in TRACK what its LOOP_PROF allows. -/
def Dev.tintOf (d : Dev) (ch : Nat) : Nat :=
  let g := d.get R.TRK_CH_SEL_SIG ch
  let p := d.get R.TRK_CH_CFG_LOOP_PROF ch
  if d.get R.TRK_CH_STAT_STATE ch = stTrack then
    tintApplied (grainMs g) (longestTint g (d.get R.TRK_CH_SEL_SAT ch)) (d.get R.TRK_LOOP_TINT p) (d.get R.TRK_LOOP_PLL_BW p)
  else grainMs g

/-! ### Discriminators (R127, R129) -/

/-- |z|² of I and Q. -/
def power (z : Int × Int) : Int := z.1 * z.1 + z.2 * z.2

/-- The code discriminator, (|E|² − |L|²) / (|E|² + |L|²) scaled by the spacing, in 1/1024 chip (R127; that the scale is a factor SPACING is DEDUCED,
log entry 84). -/
def dllDisc (e l : Int × Int) (spacing : Nat) : Int := (power e - power l) * (16 * spacing : Nat) / (power e + power l)

/-- The code error is below 0.25 chip (R130). -/
def codeClose (e l : Int × Int) (spacing : Nat) : Bool :=
  0 < power e + power l && (power e - power l).natAbs * spacing * 4 < (power e + power l).natAbs * 64

/-- Cross and dot product of two successive prompts (R127). -/
def crossDot (a b : Int × Int) : Int × Int := (a.1 * b.2 - a.2 * b.1, a.1 * b.1 + a.2 * b.2)

/-- The frequency discriminator, atan2(cross, dot) / 2π T_int, in 1/256 Hz (R127). -/
def fllDisc (a b : Int × Int) (tint : Nat) : Int := angleOf (crossDot a b).1 (crossDot a b).2 * 256000 / (360000000 * tint : Nat)

/-- The phase discriminator in 2^-16 cycle (R127): atan(Q/I) for a Costas signal, atan2(Q, I) for a pilot. -/
def pllDisc (cost : Bool) (z : Int × Int) : Int :=
  (if cost && decide (z.1 < 0) then angleOf (-z.2) (-z.1) else angleOf z.2 z.1) * 65536 / 360000000

/-- The integrations of the last `n` ms, newest first. -/
def lastMs : List (Int × Int × Nat) → Nat → List (Int × Int × Nat)
  | [], _ => []
  | x :: l, n => if n = 0 then [] else x :: lastMs l (n - x.2.2)

/-- PLI over the last `n` ms is at least a threshold in 1/256 (R129): the mean of I² − Q² over that of I² + Q². -/
def pliOk (h : List (Int × Int × Nat)) (n thr : Nat) : Bool :=
  let l := lastMs h n
  let s := (l.map fun x => power (x.1, x.2.1)).sum
  decide (0 < s) && decide ((thr : Int) * s ≤ 256 * (l.map fun x => x.1 * x.1 - x.2.1 * x.2.1).sum)

/-- tan of the turn that 2 Hz makes in one grain, in parts of 10^6 (R130): grains of 1, 4, 10 and 20 ms. -/
def tan2Hz (grain : Nat) : Nat := match grain with | 1 => 12567 | 4 => 50309 | 10 => 126329 | _ => 256756

/-- The frequency error is below 2 Hz over the last 20 ms (R130): of the products of successive prompts, summed. -/
def freqClose (h : List (Int × Int × Nat)) (grain : Nat) : Bool :=
  let l := lastMs h (20 + grain)
  let x : List (Int × Int) := (l.zip (l.drop 1)).map fun p => crossDot (p.2.1, p.2.2.1) (p.1.1, p.1.2.1)
  let dot : Int := (x.map fun z => z.2).sum
  let cross : Int := (x.map fun z => z.1).sum
  20 + grain ≤ (l.map fun z => z.2.2).sum && decide (0 < dot) && decide ((cross.natAbs : Int) * 1000000 < dot * tan2Hz grain)

/-! ### Carrier lock and side peaks (R125, R135, R136, R138) -/

/-- The carrier count at its start: the code measurement in whole cycles, in 1/256,000 cycle (R138). -/
def Dev.carrierStart (d : Dev) (ch : Nat) : Int :=
  let g := d.get R.TRK_CH_SEL_SIG ch
  let f := carrierHz g (d.get R.TRK_CH_SEL_SAT ch)
  let m : Int := (chipHz g * 1024 : Nat)
  (2 * (d.rangeChips ch * f) + m) / (2 * m) * 256000

/-- The carrier locks, or loses its lock (R135, R136): SLIP, and LOCK_MS begins anew; a lock sets CARRIER to the code measurement (R138), and leaves
the polarity of a Costas signal unresolved. -/
def Dev.carrierLock (d : Dev) (ch : Nat) (lock : Bool) : Dev :=
  if (d.chan ch).locked == lock then d
  else
    let x := d.carrierStart ch
    d.modChan ch fun c => { c with
      locked := lock, lockAt := some d.clk.mono, slip := true, carrier := if lock then x else c.carrier,
      half := if lock then costas (d.get R.TRK_CH_SEL_SIG ch) else c.half }

/-- The polarity of the data is resolved: CARRIER is corrected by the half cycle, HALF_CYCLE clears, no SLIP (R138). -/
def Dev.resolveHalf (d : Dev) (ch : Nat) (p : Option Bool) : Dev :=
  match p with
  | some inv => if (d.chan ch).half then d.modChan ch fun c => { c with half := false, carrier := c.carrier + (if inv then 128000 else 0) } else d
  | none => d

/-- Which side-peak monitor, tap 0 or tap 7, is stronger than the prompt: -1, 1, or 0 for none (R125). -/
def sideOf (m : Integ) : Int :=
  if power m.p < power (m.comb.getD 0 (0, 0)) then -1 else if power m.p < power (m.comb.getD 7 (0, 0)) then 1 else 0

/-- The side-peak monitors of a BOC replica (R125): after ten integrations in a row the replica moves by half a chip toward the monitor, an earlier
replica showing a later transmit time. -/
def Dev.sidePeak (d : Dev) (ch : Nat) (side : Int) : Dev :=
  if !bocReplica (d.get R.TRK_CH_SEL_SIG ch) || d.get R.TRK_CH_CFG_COMB_MODE ch == 0 then d
  else
    let c := d.chan ch
    let n := if side != 0 && side == c.side then c.sideN + 1 else if side != 0 then 1 else 0
    if 10 ≤ n then
      let d := d.modChan ch fun c => { c with side := 0, sideN := 0, slip := true, lockAt := some d.clk.mono, code := c.code - side * 2 ^ 29 }
      d.record 0x0403 (u8 ch ++ u8 (Config.argCode 0x0403 (if side < 0 then 0 else 1)))
    else d.modChan ch fun c => { c with side := side, sideN := n }

/-! ### Integrations (R125-R130) -/

/-- The time of week of another signal of the same satellite (R137), as this signal's code in 1/1024 chip: the value nearest it that agrees with what this
channel has synchronized. -/
def Dev.towFrom (d : Dev) (ch : Nat) : Option Int :=
  let g := d.get R.TRK_CH_SEL_SIG ch
  let sat := d.get R.TRK_CH_SEL_SAT ch
  (skyChans.find? fun k =>
    let st := d.get R.TRK_CH_STAT_STATE k
    k != ch && 2 ≤ st && st ≤ 4 && d.get R.TRK_CH_SEL_SAT k == sat && (d.chan k).tow).map fun k =>
      nearCong (chipScale (d.get R.TRK_CH_SEL_SIG k) g (d.txCode k)) (d.txCode ch) (chipHz g * 1024 * (if (d.chan ch).sync then syncMs g (syncOf g sat) else codeMs g) / 1000)

/-- Code and carrier at the end of an integration, and the loops' correction of them (R127, R129): the code loop always, the frequency loop before PLL and at
FLL_BW in TRACK, the phase loop in PLL and TRACK; profile 0's bandwidths before TRACK (R128). -/
def Dev.loopsRun (d : Dev) (ch : Nat) (m : Integ) (tint : Nat) : Dev :=
  let g := d.get R.TRK_CH_SEL_SIG ch
  let st := d.get R.TRK_CH_STAT_STATE ch
  let p := if st = stTrack then d.get R.TRK_CH_CFG_LOOP_PROF ch else 0
  let c := d.chan ch
  let fll := match c.hist with
    | x :: _ => some (fllDisc (x.1, x.2.1) m.p tint)
    | [] => none
  let act := if st = stTrack then d.get R.TRK_LOOP_FLL_BW p != 0 else st != stPll
  let x := Config.carrierLoop (d.get R.TRK_LOOP_PLL_BW p) (d.get R.TRK_LOOP_FLL_BW p) tint
    (if st = stPll || st = stTrack then some (pllDisc (costas g) m.p) else none) (if act then fll else none) (c.doppler, c.rate)
  let run := codeRun g (d.get R.TRK_CH_SEL_SAT ch) (d.clk.mono - c.at0) c.doppler
  d.modChan ch fun c => { c with
    code := c.code + run + Config.codeLoop (d.get R.TRK_LOOP_DLL_BW p) tint (dllDisc m.e m.l (d.spacingOf ch))
    carrier := c.carrier - c.doppler * ((d.clk.mono - c.at0 : Nat) : Int) / 1000000
    doppler := x.1, rate := x.2, at0 := d.clk.mono, hist := lastMs ((m.p.1, m.p.2, tint) :: c.hist) 100 }

/-- The correlators of an integration join the epoch's sums, unless the comb is off (R126). -/
def Dev.combAdd (d : Dev) (ch : Nat) (m : Integ) : Dev :=
  if d.get R.TRK_CH_CFG_COMB_MODE ch = 0 then d.modChan ch fun c => { c with comb := [] }
  else d.modChan ch fun c =>
    let z := [m.e, m.p, m.l] ++ (List.range 8).map fun k => m.comb.getD k (0, 0)
    { c with comb := if c.comb.length = 11 then (c.comb.zip z).map fun x => (x.1.1 + x.2.1, x.1.2 + x.2.2) else z }

/-- The state change an integration brings (R130). -/
def Dev.chAdvance (d : Dev) (ch : Nat) (m : Integ) : Dev :=
  let sig := d.get R.TRK_CH_SEL_SIG ch
  let sat := d.get R.TRK_CH_SEL_SAT ch
  let thr := d.get R.TRK_THR_PLI_THR
  let st := d.get R.TRK_CH_STAT_STATE ch
  let h := (d.chan ch).hist
  if st = stPullin then
    if d.get R.TRK_THR_CONF_CN0 * 25 ≤ d.get R.TRK_CH_STAT_CN0 ch && codeClose m.e m.l (d.spacingOf ch) then d.chState ch stFll else d
  else if st = stFll then (if freqClose h (grainMs sig) then d.chState ch stPll else d)
  else if st = stPll then
    let d := d.carrierLock ch (pliOk h 20 thr)
    if pliOk h 20 thr && m.sync == syncOf sig sat then
      let d := (d.modChan ch fun c => { c with sync := true }).chState ch stTrack
      (d.set R.TRK_CH_STAT_TINT (d.tintOf ch) ch).startHandovers sat sig m.elev
    else d
  else if st = stTrack then
    if !pliOk h 100 thr then
      ((d.carrierLock ch false).chState ch stFll).set R.TRK_CH_STAT_TINT (grainMs sig) ch |>.modChan ch fun c => { c with slip := true }
    else (d.carrierLock ch (pliOk h 20 thr)).set R.TRK_CH_STAT_TINT (d.tintOf ch) ch
  else d

/-- A signal is confirmed in a channel: FLL, PLL or TRACK (R130). -/
def Dev.chConfirmed (d : Dev) (sat sig : Nat) : Bool :=
  skyChans.any fun ch =>
    let st := d.get R.TRK_CH_STAT_STATE ch
    2 ≤ st && st ≤ 4 && d.get R.TRK_CH_SEL_SAT ch == sat && d.get R.TRK_CH_SEL_SIG ch == sig

/-- Full sky is reached once every signal that counts is confirmed in a channel (R97). -/
def Dev.fullSky (d : Dev) (reach : Option (List (Nat × Nat))) : Dev :=
  match reach with
  | some l =>
    if l.isEmpty || d.on R.ACQ_STATUS_SKY_DONE || !(l.all fun x => d.chConfirmed x.1 x.2) then d
    else
      let d := (d.set R.ACQ_STATUS_SKY_DONE 1).record 0x0306 (u8 (Config.argCode 0x0306 3))
      { d with sky := { d.sky with repeatAt := d.clk.mono } }
  | none => d

/-- The end of the integration that runs: T_int after the last one's, on a grain boundary of the signal (R129). -/
def Dev.integTo (d : Dev) (ch : Nat) : Dev := d.passToMono ((d.chan ch).at0 + d.get R.TRK_CH_STAT_TINT ch * ms)

/-- An integration ends (R127, R129): loops, C/N0 over the last 100 ms or in PULLIN the last 10 ms, time of week and polarity, side peaks, the loss
timer, and the state. While the TRK part pauses the loops are held (R149). -/
def Dev.integrationEnd (d : Dev) (ch : Nat) (m : Integ) : Dev :=
  let st := d.get R.TRK_CH_STAT_STATE ch
  if 180 ≤ ch || !(1 ≤ st && st ≤ 4) || d.paused 2 then d
  else
    let tint := d.get R.TRK_CH_STAT_TINT ch
    let d := (((d.integTo ch).loopsRun ch m tint).combAdd ch m).sat R.TRK_CH_STAT_CN0
      (Config.cn0 (lastMs ((m.p.1, m.p.2, tint) :: (d.chan ch).hist) (if st = stPullin then 10 else 100))) ch
    let low := d.get R.TRK_CH_STAT_CN0 ch < d.get R.TRK_THR_LOSS_CN0 * 25 && st != stPullin
    let d := d.modChan ch fun c => { c with elev := m.elev, lossAt := if low then some (c.lossAt.getD d.clk.mono) else none }
    let w := match m.tow with
      | some x => some (x : Int)
      | none => if (d.chan ch).tow then none else d.towFrom ch
    let d := match w with
      | some x => d.modChan ch fun c => { c with tow := true, code := x * 2 ^ 20 }
      | none => d
    (((d.resolveHalf ch m.polarity).sidePeak ch (sideOf m)).chAdvance ch m).fullSky m.reach

/-- INTEGRATION_END (R129). -/
def execIntegrationEnd (ch : Nat) (m : Integ) (s : State) : Res := onRun .corr (fun d => d.integrationEnd ch m) s

/-! ### Timeouts and loss (R121, R130, R131) -/

/-- PULLIN_TIMEOUT (R130): not confirmed within 200 ms; a handover signal is retried 10 s later (R121). -/
def Dev.pullinTimeout (d : Dev) (ch : Nat) : Dev :=
  if d.get R.TRK_CH_STAT_STATE ch != stPullin || 180 ≤ ch then d
  else
    let c := d.chan ch
    let d := d.passToMono (c.since + 200 * ms)
    let d := if c.handover then d.retryLater ch else d
    (d.modChan ch fun _ => {}).freeChan ch

/-- PULLIN_TIMEOUT (R130). -/
def execPullinTimeout (ch : Nat) (s : State) : Res := onRun .corr (fun d => d.pullinTimeout ch) s

/-- FLL_TIMEOUT (R130): still in FLL after 500 ms. -/
def execFllTimeout (ch : Nat) (s : State) : Res :=
  onRun .corr (fun d =>
    if d.get R.TRK_CH_STAT_STATE ch == stFll && ch < 180 then (d.passToMono ((d.chan ch).since + 500 * ms)).chanLost ch else d) s

/-- CHANNEL_LOSS (R130): C/N0 below LOSS_CN0 for LOSS_T in FLL, PLL or TRACK. -/
def execChannelLoss (ch : Nat) (s : State) : Res :=
  onRun .corr (fun d => match (d.chan ch).lossAt with
    | some t =>
      let st := d.get R.TRK_CH_STAT_STATE ch
      if 2 ≤ st && st ≤ 4 && ch < 180 then (d.passToMono (t + d.get R.TRK_THR_LOSS_T * 10 * ms)).chanLost ch else d
    | none => d) s

/-- REACQ_HOLD_EXPIRY (R131): the hold ends, and the channel is free for allotment. -/
def execReacqHoldExpiry (ch : Nat) (s : State) : Res :=
  onRun .corr (fun d => match (d.chan ch).holdTo with
    | some t =>
      let d := (d.passToMono t).modChan ch fun c => { c with holdTo := none }
      if d.get R.TRK_CH_STAT_STATE ch == stLost then d.freeChan ch
      else if d.get R.TRK_CH_STAT_STATE ch == stIdle then d.allotWaiting
      else d
    | none => d) s

/-- HANDOVER_RETRY (R121): ten seconds later, while the source stays in TRACK; on the host's own channel where it is one. -/
def Dev.handoverRetry (d : Dev) (sat sig : Nat) : Dev :=
  match d.trk.retry.find? fun c => c.sat == sat && c.sig == sig with
  | none => d
  | some c =>
    let d := d.passToMono (c.t + 10 * second)
    let d := { d with trk := { d.trk with retry := d.trk.retry.erase c } }
    let src := match sourceOf sig with | some g => d.tracked sat g | none => false
    if !src || d.onChannel sat sig || !d.on R.TRK_CTRL_HANDOVER || !d.on R.TRK_CTRL_EN then d
    else match c.chan with
      | some ch =>
        if d.on R.TRK_CH_CFG_OWNER ch && d.get R.TRK_CH_STAT_STATE ch == stIdle && d.get R.TRK_CH_SEL_SAT ch == sat && d.get R.TRK_CH_SEL_SIG ch == sig then
          d.startHandover ch sat sig c.elev
        else d
      | none => match d.allotFor c with
        | some ch => d.startOn ch c
        | none => d.waitChan { c with t := d.clk.mono }

/-- HANDOVER_RETRY (R121). -/
def execHandoverRetry (sat sig : Nat) (s : State) : Res := onRun .corr (fun d => d.handoverRetry sat sig) s

/-! ### Faults and the spare (R143-R146) -/

/-- The spare of a cluster runs its rotation check (R146): it is free and good, and the channels run. -/
def Dev.scrubs (d : Dev) (cl : Nat) : Bool := !d.on R.TRK_SPARE_IN_USE cl && !d.trk.badSpare.contains cl && (d.on R.TRK_CTRL_EN || cl = 15)

/-- The channel a cluster's spare duplicates in this epoch (R146). -/
def Dev.scrubbed (d : Dev) (cl : Nat) : Option Nat := if d.on R.TRK_SPARE_SCRUB cl then some (12 * cl + tabGet d.trk.rot cl) else none

/-- A spare fails (R146, R147): it takes over no channel; a channel that runs on it meets a second fault. -/
def Dev.spareFails (d : Dev) (cl cause : Nat) : Dev :=
  let d := { d with trk := { d.trk with badSpare := if d.trk.badSpare.contains cl then d.trk.badSpare else d.trk.badSpare ++ [cl] } }
  let d := ((d.set R.TRK_SPARE_SCRUB 0 cl).inc R.TRK_SPARE_FAULTS cl).record 0x0401 (u8 cl ++ u8 12 ++ u8 (Config.argCode 0x0401 cause) ++ u8 0)
  let ch := 12 * cl + d.get R.TRK_SPARE_REPL cl
  if d.on R.TRK_SPARE_IN_USE cl then { d with trk := { d.trk with faults := tabPut d.trk.faults ch cause } } else d

/-- DATAPATH_DUMP (R143): a dump is checked; one that fails is discarded and its fault waits for the dump boundary. A mismatch of the rotation check
(cause 3) can come only from the channel that is checked (R146). Datapaths from 192 on are the spares. -/
def Dev.datapathDump (d : Dev) (ch : Nat) (fault : Option Nat) : Dev :=
  match fault with
  | none => d
  | some cause =>
    if 208 ≤ ch then d
    else if 192 ≤ ch then d.spareFails (ch - 192) cause
    else if d.get R.TRK_CH_STAT_STATE ch == stOos || (cause = 3 && d.scrubbed (ch / 12) != some ch) then d
    else { d with trk := { d.trk with faults := tabPut d.trk.faults ch cause } }

/-- DATAPATH_DUMP (R143). -/
def execDatapathDump (ch : Nat) (fault : Option Nat) (s : State) : Res := onRun .corr (fun d => d.datapathDump ch fault) s

/-- The spare of the cluster takes the channel over, or the channel goes out of service and its signal moves to another channel, or waits for one
as R120 gives (R144, R145). -/
def Dev.spareTakeover (d : Dev) (ch : Nat) : Dev :=
  match tabFind d.trk.faults ch with
  | none => d
  | some cause =>
    let cl := ch / 12
    let d := { d with trk := { d.trk with faults := tabDel d.trk.faults ch } }.inc R.TRK_SPARE_FAULTS cl
    let arg := fun (swap : Nat) => u8 cl ++ u8 (ch % 12) ++ u8 (Config.argCode 0x0401 cause) ++ u8 swap
    if !d.on R.TRK_SPARE_IN_USE cl && !d.trk.badSpare.contains cl then
      let d := ((d.set R.TRK_SPARE_IN_USE 1 cl).set R.TRK_SPARE_REPL (ch % 12) cl).set R.TRK_SPARE_SCRUB 0 cl
      let d := (d.set R.TRK_CH_STAT_ON_SPARE 1 ch).inc R.TRK_STATUS_SPARES_USED
      (d.modChan ch fun c => { c with discont := true }).record 0x0401 (arg 1)
    else
      let sat := d.get R.TRK_CH_SEL_SAT ch
      let sig := d.get R.TRK_CH_SEL_SIG ch
      let st := d.get R.TRK_CH_STAT_STATE ch
      let c := d.chan ch
      let code := d.txCode ch
      let d := ((d.chState ch stOos).record 0x0401 (arg 0)).record 0x0402 (u8 ch)
      if ch < 180 && !d.on R.TRK_CH_CFG_OWNER ch && 1 ≤ st && st ≤ 4 then
        let x : Cand := { sat := sat, sig := sig, t := d.clk.mono, handover := c.handover, elev := c.elev, codePh := code.toNat, dopp := c.doppler / 16 }
        match d.allotFor x with
        | some k => d.startOn k x
        | none => if d.mayAllot x.elev then d.waitChan x else d
      else d

/-! ### Disabling (R150) -/

/-- TRK_CTRL.EN is cleared: every sky channel stops, with what waits for one, and the rotation check of their clusters (R150). -/
def Dev.trkDisable (d : Dev) : Dev :=
  let d := { d with
    sky := { d.sky with cands := [], queue := d.sky.queue.filter fun x => x.chan.isNone }
    trk := { d.trk with retry := [], noBlock := true } }.acqCount
  let d := skyChans.foldl (fun d ch =>
    let d := d.modChan ch fun _ => {}
    if d.get R.TRK_CH_STAT_STATE ch != stIdle && d.get R.TRK_CH_STAT_STATE ch != stOos then d.chState ch stIdle else d) d
  (List.range 15).foldl (fun d c => d.set R.TRK_SPARE_SCRUB 0 c) d

/-- A write of TRK_CTRL; setting EN again starts the rotation check where the spare is free. -/
def Dev.trkCtrlWrite (d : Dev) (v : Nat) : Dev :=
  let was := d.on R.TRK_CTRL_EN
  let d := d.writeAddr R.TRK_CTRL_EN.addr v
  if was && !d.on R.TRK_CTRL_EN then d.trkDisable
  else if !was && d.on R.TRK_CTRL_EN then (List.range 15).foldl (fun d c => d.put R.TRK_SPARE_SCRUB (d.scrubs c) c) d
  else d

/-- TRK_DISABLE (R150): a write of TRK_CTRL that clears EN. -/
def execTrkDisable (v : Word32) (s : State) : Res := onReg R.TRK_CTRL_EN (fun d => if bitOf v.toNat 0 then d else d.trkCtrlWrite v.toNat) s

/-! ### The measurement epoch (R133-R138) -/

/-- A tap set, or a channel's choice of one, changed since the last epoch takes effect (R124): in CORRECT the record is flagged DISCONT. -/
def Dev.tapsEpoch (d : Dev) (ch : Nat) : Dev :=
  let l := d.tapsOf ch
  d.modChan ch fun c => if c.taps == l then c else { c with taps := l, discont := c.discont || d.get R.TRK_CH_CFG_COMB_MODE ch == 2 }

/-- The eleven sums turned into the phase of the prompt (R126). -/
def turned (z : List (Int × Int)) : List (Int × Int) :=
  let p := z.getD 1 (0, 0)
  z.map fun x => (x.1 * p.1 + x.2 * p.2, x.2 * p.1 - x.1 * p.2)

/-- The comb's fit at an epoch (R126): bias and residual from the sums since the last epoch; no comb in OFF. -/
def Dev.combEpoch (d : Dev) (ch : Nat) : Dev :=
  let off := d.corrOffsets ch
  d.modChan ch fun c =>
    if d.get R.TRK_CH_CFG_COMB_MODE ch = 0 || c.comb.length != 11 then { c with comb := [], mp := 0, mpSuspect := false }
    else
      let x := Config.combFit (d.get R.TRK_CH_SEL_SIG ch) off (turned c.comb)
      { c with comb := [], mp := x.1, mpSuspect := x.2 }

/-- CARR_VALID: PLI at least PLI_THR in PLL or TRACK (R136). -/
def Dev.carrValid (d : Dev) (ch : Nat) : Bool :=
  let st := d.get R.TRK_CH_STAT_STATE ch
  (st == stPll || st == stTrack) && pliOk (d.chan ch).hist 20 (d.get R.TRK_THR_PLI_THR)

/-- FLAGS of a measurement record (R136). -/
def Dev.recFlags (d : Dev) (ch : Nat) : Nat :=
  let c := d.chan ch
  let st := d.get R.TRK_CH_STAT_STATE ch
  let sig := d.get R.TRK_CH_SEL_SIG ch
  b2n (stFll ≤ st) + 2 * b2n c.tow + 4 * b2n (d.carrValid ch)
    + 8 * b2n (costas sig && c.half) + 16 * b2n c.slip + 32 * b2n (c.discont || d.trk.allDiscont.isSome)
    + 64 * b2n c.mpSuspect + 128 * b2n (d.on R.TRK_CH_STAT_ON_SPARE ch) + 256 * b2n (d.get R.SKY_JAM_STATE (sigBand sig) == 2)

/-- TX_CODE of a record (R126, R137). -/
def Dev.txField (d : Dev) (ch : Nat) : Nat := (d.txMeas ch % 2 ^ 56).toNat

/-- LOCK_MS (R135): since the carrier last locked or slipped. -/
def Dev.lockMs (d : Dev) (ch : Nat) : Nat := match (d.chan ch).lockAt with | some t => min ((d.clk.mono - t) / ms) 0xFFFFFFFF | none => 0

/-- A measurement record (R135). -/
def Dev.measRec (d : Dev) (ch : Nat) : List Byte :=
  let c := d.chan ch
  u16 (d.get R.TRK_CH_SEL_SAT ch) ++ u8 (d.get R.TRK_CH_SEL_SIG ch) ++ u8 ch ++ u16 (d.recFlags ch) ++
    u16 (d.get R.TRK_CH_STAT_CN0 ch) ++ u64 (d.txField ch) ++ toLe 6 (enc2 48 (d.carrierNow ch)) ++ s32 c.doppler ++
    s16 c.mp ++ u32 (d.lockMs ch)

/-- The sky channels with a record in the epoch's block: PULLIN, FLL, PLL or TRACK (R134). -/
def Dev.measChans (d : Dev) : List Nat :=
  skyChans.filter fun ch => 1 ≤ d.get R.TRK_CH_STAT_STATE ch && d.get R.TRK_CH_STAT_STATE ch ≤ 4

/-- The epoch block (R134). -/
def Dev.epochBlock (d : Dev) : List Byte :=
  let l := d.measChans
  u64 d.now ++ u16 l.length ++
    u16 (b2n d.holdover + 2 * b2n d.trk.allDiscont.isSome + 256 * d.get R.TRK_ISB_STAT_VALID) ++
    ((List.range 5).flatMap fun s => u32 (d.get R.TRK_ISB_ISB (s + 1))) ++ l.flatMap fun ch => d.measRec ch

/-- The spares move on to the next channel of their clusters, where they check (R146). -/
def Dev.rotate (d : Dev) : Dev :=
  { d with trk := { d.trk with rot := (List.range 16).foldl (fun (t : Tab Nat) (cl : Nat) => if d.on R.TRK_SPARE_SCRUB cl then tabPut t cl ((tabGet t cl + 1) % 12) else t) d.trk.rot } }

/-- MEASUREMENT_EPOCH (R133): the combs' fits, tap changes, and the block to the ring; no block while TRK_CTRL.EN is clear, nor of the epoch in which it was cleared
(R150; that no block at all goes out while EN stays clear is DEDUCED from there being no channel to report, log entry 83). -/
def Dev.trkEpoch (d : Dev) : Dev :=
  let d := d.measChans.foldl (fun (d : Dev) (ch : Nat) => (d.combEpoch ch).tapsEpoch ch) d
  let d := if d.on R.TRK_CTRL_EN && d.on R.TRK_MEAS_CFG_EN && !d.trk.noBlock then
      d.item (d.get R.TRK_MEAS_CFG_RING) 0x0401 d.now d.epochBlock
    else d
  match d.trk.allDiscont with
  | some cause => d.record 0x0405 (u8 (Config.argCode 0x0405 cause))
  | none => d.selfOk 2

/-- After an epoch its flags are spent, lost channels become IDLE and free for what waits (R130, R131), and the rotation check moves on (R146). -/
def Dev.trkAfter (d : Dev) : Dev :=
  let d := { d with trk := { d.trk with
    allDiscont := none, noBlock := false,
    chan := tabMapV d.trk.chan fun _ c => { c with slip := false, discont := false } } }.rotate
  skyChans.foldl (fun d ch =>
    if d.get R.TRK_CH_STAT_STATE ch == stLost && (d.chan ch).since < d.clk.mono then d.freeChan ch else d) d

/-- CORR stops with WATCH (R44): every channel of the sky goes IDLE, and none is held. -/
def Dev.corrStop (d : Dev) : Dev :=
  let d := { d with sky := { d.sky with cands := [] }, trk := { d.trk with retry := [] } }
  skyChans.foldl (fun d ch =>
    let d := d.modChan ch fun _ => {}
    if d.get R.TRK_CH_STAT_STATE ch != stIdle && d.get R.TRK_CH_STAT_STATE ch != stOos then d.chState ch stIdle else d) d

end Sys2Proof.Machine
end

