-- ==== Sys2Proof/Machine/TimeBase.lean ====
section
/-!
DEFINITION. Reference corrections and yard time (R159-R197): the base position, the inter-system offsets, the yard
correction block, RTCM output, the time sources, holdover, slews and steps, PPS_OUT.
-/

namespace Sys2Proof.Machine

/-! ### Time sources (R181-R184) -/

/-- Satellites in TRACK of the systems `used`, each counted once; with `tow`, only those with TOW_VALID. -/
def Dev.satsInTrack (d : Dev) (tow : Bool) (used : Nat → Bool) : Nat :=
  ((skyChans.filter fun ch => d.get R.TRK_CH_STAT_STATE ch == stTrack && (!tow || (d.chan ch).tow) && used (satSys (d.get R.TRK_CH_SEL_SAT ch))).map
    fun ch => d.get R.TRK_CH_SEL_SAT ch).eraseDups.length

/-- The time solution uses a system (R140): GPS, one whose offset is valid, or one that broadcasts its offset. -/
def Dev.sysUsed (d : Dev) (e : EpochIn) (s : Nat) : Bool := s == 0 || d.bit R.TRK_ISB_STAT_VALID (s - 1) || e.bcast.any fun x => x.1 == s

/-- The base position is FIXED or VERIFIED. -/
def Dev.baseFixed (d : Dev) : Bool := d.get R.BASE_STATUS_STATE == 2 || d.get R.BASE_STATUS_STATE == 3

/-- GNSS is valid at an epoch (R181): the solution passes, with satellites enough of the systems it uses (that the count is of those is
DEDUCED, log entry 85). -/
def Dev.gnssValid (d : Dev) (e : EpochIn) : Bool :=
  let n := d.satsInTrack true (d.sysUsed e)
  e.timeOk && (5 ≤ n || (2 ≤ n && d.baseFixed))

/-- PPS_IN is valid: enabled, tagged, and its edges 1 s ± 1 µs apart up to now (R181). -/
def Dev.ppsValid (d : Dev) : Bool :=
  d.on R.TIME_CTRL_PPSIN_EN && d.tim.ppsOk && (match d.tim.ppsEdge with | some t => decide (d.clk.mono ≤ t + second + 1000) | none => false)

/-- The first valid source in the order of R181. -/
def Dev.pickSource (d : Dev) : Nat :=
  if d.tim.gnss then 1 else if d.ppsValid then 2 else if d.tim.beaconOk then 3 else if d.tim.hadSource then 4 else 5

/-- U(t) of R183 in ns, rounded to nearest: F in 0.01 ppb, D in 0.01 ppb per day, time in holdover in ns. -/
def holdoverUnc (u f dd t : Nat) : Nat :=
  u + (2 * f * t * (172800 * 10 ^ 9) + 2 * dd * t * t + 172800 * 10 ^ 20) / (2 * (172800 * 10 ^ 20))

/-- The uncertainty reported for the present source (R181, R183, R184). -/
def Dev.uncertainty (d : Dev) : Nat :=
  if d.tim.stepAt.isSome then d.tim.stepErr.natAbs
  else match d.get R.TIME_STATUS_SRC with
    | 1 => 5 + d.clk.slew.natAbs
    | 2 => d.get R.TIME_PPSIN_UNC_UNC + d.clk.slew.natAbs
    | 3 => d.tim.beaconUnc + 500
    | 4 => holdoverUnc d.tim.hoUnc (d.get R.TIME_HO_CFG_FREQ_UNC) (d.get R.TIME_HO_CFG_AGING) (d.clk.mono - d.tim.hoStart)
    | _ => 0xFFFFFFFF

/-- TIME_UNC and SYS_LEVEL.HOLDOVER follow the source and the slew (R181); holdover entered or left is an event. -/
def Dev.timeStatus (d : Dev) : Dev :=
  let src := d.get R.TIME_STATUS_SRC
  let ho := 4 ≤ src || 100 < d.clk.slew.natAbs
  let was := d.holdover
  let d := d.sat R.TIME_UNC_UNC d.uncertainty
  let d := (d.setHoldover ho).put R.TIME_STATUS_SLEWING (d.clk.slew != 0)
  if ho != was then d.record 0x0502 (u32 (d.get R.TIME_UNC_UNC)) else d

/-- The error of a source that has become valid, or is: slewed up to 50 µs, stepped beyond (R184). -/
def Dev.timeError (d : Dev) (e : Int) : Dev :=
  let d := d.sati R.TIME_ERR_ERR e
  if d.tim.stepAt.isSome then d
  else if 50000 < e.natAbs then
    let d := d.set R.TIME_STATUS_STEP_PENDING 1
    let t := (d.now + 2 * second + second - 1) / second * second
    { d with clk := { d.clk with slew := 0, slewAcc := 0 }, tim := { d.tim with stepErr := e, stepAt := some t } }
  else { d with clk := { d.clk with slew := e, slewAcc := if e = 0 then 0 else d.clk.slewAcc } }

/-- The error last measured against a source (R184). -/
def Dev.srcErr (d : Dev) (src : Nat) : Int := if src = 1 then d.tim.gnssErr else if src = 2 then d.tim.ppsErr else d.tim.beaconErr

/-- TIME_SOURCE_CHANGE (R181): yard time takes the first valid source, at the error measured against it; entering holdover freezes the steering at its mean
over the last DISC_TC (R183). -/
def Dev.timeSource (d : Dev) : Dev :=
  let old := d.get R.TIME_STATUS_SRC
  let new := d.pickSource
  if old = new then d.timeStatus
  else
    let u := d.get R.TIME_UNC_UNC
    let d := d.set R.TIME_STATUS_SRC new
    let d := if new = 4 then
        let l := d.tim.steers.take (10 * d.get R.TIME_CTRL_DISC_TC)
        let d := if l.isEmpty then d else d.sati R.TIME_FREQ_STEER (rdiv l.sum l.length)
        let d := { d with clk := { d.clk with slew := 0, slewAcc := 0 }, tim := { d.tim with hoStart := d.clk.mono, hoUnc := u, stepAt := none } }
        d.set R.TIME_STATUS_STEP_PENDING 0
      else if new < 4 then
        let d := { d with tim := { d.tim with hadSource := true, ppsLatched := d.tim.ppsLatched || new ≤ 2 } }
        d.timeError (d.srcErr new)
      else d
    let d := d.sat R.TIME_UNC_UNC d.uncertainty
    (d.record 0x0501 (u8 old ++ u8 new ++ u32 (d.get R.TIME_UNC_UNC))).timeStatus

/-- PPS_IN_EDGE (R181): the edge is time-stamped, the cable delay taken off, and checked against TIME_PPSIN_TOD, which is
used up. -/
def Dev.ppsInEdge (d : Dev) (t : Nat) : Dev :=
  let d := d.passTo t
  let apart := match d.tim.ppsEdge with
    | some p => decide (p + second ≤ d.clk.mono + 1000 ∧ d.clk.mono ≤ p + second + 1000)
    | none => false
  let tod := d.get R.TIME_PPSIN_TOD_GPS_S
  let at8 : Int := 8 * (d.now : Int) - d.geti R.TIME_PPSIN_DELAY_DELAY
  let secs : Int := (d.gpsSec / 2 ^ 32 * 2 ^ 32 + tod : Nat)
  let err := rdiv (at8 - 8 * secs * second) 8
  let d := { d with tim := { d.tim with ppsEdge := some d.clk.mono, ppsOk := apart && tod != 0, ppsErr := err } }
  let d := d.set R.TIME_PPSIN_TOD_GPS_S 0
  let d := if d.get R.TIME_STATUS_SRC = 2 && d.ppsValid then d.timeError err else d
  d.timeSource

/-- PPS_IN_EDGE (R181). -/
def execPpsInEdge (t : Nat) (s : State) : Res := onRun .time (fun d => d.ppsInEdge t) s

/-- TIME_NOW_LO_READ (R190): the read latches the whole yard time for TIME_NOW_HI. -/
def execTimeNowLoRead (s : State) : Res :=
  onReg R.TIME_NOW_LO_NS_LO (fun d => (d.set R.TIME_NOW_LO_NS_LO d.now).set R.TIME_NOW_HI_NS_HI (d.now / 2 ^ 32)) s

/-- Yard time steps by −e (R184): what was measured against the sources moves with it, and boundaries it comes upon again are ahead. -/
def Dev.stepYard (d : Dev) (e : Int) : Dev :=
  { d with
    clk := { yard := ((d.clk.yard : Int) - e).toNat, mono := d.clk.mono, tick := d.clk.tick }
    tim := { d.tim with
      stepAt := none, stepErr := 0, slewAt := some d.clk.mono
      gnssErr := d.tim.gnssErr - e, ppsErr := d.tim.ppsErr - e, beaconErr := d.tim.beaconErr - e } }

/-- PPS_OUT of this GPS second, ahead by TIME_PPSOUT_DELAY, WIDTH ms wide (R182, R186). -/
def Dev.ppsPulse (d : Dev) : Out := .ppsOut (8 * (d.now : Int) - d.geti R.TIME_PPSOUT_DELAY_DELAY) (d.get R.TIME_PPS_CFG_WIDTH)

/-- The GPS second's part of time (R184, R186): a pending step is carried out and its PPS_OUT edge suppressed; otherwise
PPS_OUT gives an edge under its MODE. -/
def Dev.timeSecond (d : Dev) : Dev :=
  let due : Bool := match d.tim.stepAt with | some t => decide (t ≤ d.now) | none => false
  if due then
    let e := d.tim.stepErr
    let d := ((d.stepYard e).set R.TIME_STATUS_STEP_PENDING 0).raise R.TIME_STATUS_STEPPED
    let d := { d with tim := { d.tim with hoLog := (d.now, d.holdover) :: d.tim.hoLog.filter fun p => p.1 ≤ d.now } }
    (d.record 0x0503 (s32 (clamp2 32 e))).timeStatus
  else
    let go := match d.get R.TIME_PPS_CFG_MODE with
      | 0 => false
      | 1 => d.tim.ppsLatched
      | _ => 1 ≤ d.level
    if go then d.emit d.ppsPulse else d

/-! ### Base position (R159-R164) -/

/-- A 64-bit coordinate from its two words. -/
def Dev.coord (d : Dev) (lo hi : Fld) : Int := dec2 64 (d.get lo + 2 ^ 32 * d.get hi)

/-- The position in BASE_X, BASE_Y and BASE_Z. -/
def Dev.baseRegs (d : Dev) : Vec3 :=
  { x := d.coord R.BASE_X_LO_POS_LO R.BASE_X_HI_POS_HI, y := d.coord R.BASE_Y_LO_POS_LO R.BASE_Y_HI_POS_HI,
    z := d.coord R.BASE_Z_LO_POS_LO R.BASE_Z_HI_POS_HI }

/-- Write a position into BASE_X, BASE_Y and BASE_Z. -/
def Dev.putBase (d : Dev) (v : Vec3) : Dev :=
  let w := fun (d : Dev) (lo hi : Fld) (z : Int) => (d.set lo (enc2 64 z)).set hi (enc2 64 z / 2 ^ 32)
  w (w (w d R.BASE_X_LO_POS_LO R.BASE_X_HI_POS_HI v.x) R.BASE_Y_LO_POS_LO R.BASE_Y_HI_POS_HI v.y) R.BASE_Z_LO_POS_LO R.BASE_Z_HI_POS_HI v.z

/-- The base state changes: an event (R163). -/
def Dev.baseState (d : Dev) (st why : Nat) : Dev :=
  let old := d.get R.BASE_STATUS_STATE
  let d := (d.set R.BASE_STATUS_STATE st).set R.BASE_STATUS_WHY why
  let d := { d with tim := { d.tim with verSum := {}, verN := 0, disp := [] } }
  if old = st then d else d.record 0x0505 (u8 old ++ u8 st ++ u8 why)

/-- A survey-in starts from the beginning (R159, R160). -/
def Dev.surveyStart (d : Dev) : Dev :=
  let d := { d with tim := { d.tim with base := none, sumPos := {}, nPos := 0, groupSum := {}, groupN := 0, groups := 0, groupsSum := {}, groupsSq := 0 } }
  ((d.set R.BASE_STATUS_SURVEY_S 0).baseState 1 0).record 0x0504

/-- One RTCM message framed: preamble, 10-bit length, CRC-24Q (R169). -/
def crc24Bit (r : Nat) : Nat := if 0x800000 ≤ r then Nat.xor (2 * r % 0x1000000) 0x864CFB else 2 * r
/-- Eight register steps of CRC-24Q. -/
def crc24Byte (r : Nat) (b : Byte) : Nat :=
  crc24Bit (crc24Bit (crc24Bit (crc24Bit (crc24Bit (crc24Bit (crc24Bit (crc24Bit (Nat.xor r (65536 * b.toNat)))))))))
/-- The transport frame of R169. -/
def rtcmFrame (body : List Byte) : List Byte :=
  let h := u8 0xD3 ++ u8 (body.length / 256 % 4) ++ u8 body.length ++ body
  let c := h.foldl crc24Byte 0
  h ++ u8 (c / 65536) ++ u8 (c / 256) ++ u8 c

/-- Characters per second of CORR_UART_TX: ten bits each (R173, R196). -/
def Dev.uartRate (d : Dev) : Nat :=
  ([9600, 19200, 38400, 115200, 230400, 460800, 921600].getD (d.get R.RTCM_UART_CFG_BAUD) 115200) / 10

/-- Messages of one epoch go out: each to the ring as an item, all of them to the UART if its 4 KiB buffer takes them (R173). -/
def Dev.rtcmOut (d : Dev) (msgs : List (List Byte)) : Dev :=
  let d := if d.on R.RTCM_CFG_RING_EN then msgs.foldl (fun d m => d.item (d.get R.RTCM_CFG_RING) 0x0501 d.now m) d else d
  if d.on R.RTCM_CFG_UART_EN && !msgs.isEmpty then
    let sent := (d.clk.mono - d.tim.uartAt) * d.uartRate / second
    let fill := d.tim.uartFill - sent
    let n := (msgs.map List.length).sum
    if 4096 < fill + n then
      { d with tim := { d.tim with uartFill := fill, uartAt := d.clk.mono } }.inc R.CORR_STATUS_UART_DROPPED
    else { d with tim := { d.tim with uartFill := fill + n, uartAt := d.clk.mono } }.emit (.uart msgs.flatten)
  else d

/-- RTCM messages other than MSMs go out: at L3 (R172). -/
def Dev.rtcmFull (d : Dev) : Bool := d.on R.RTCM_CFG_RTCM_EN && d.level == 3

/-- The station position message: 1005, or 1006 with the ARP height in force (R164, R169). -/
def Dev.stationMsg (d : Dev) : List Byte :=
  let v := d.tim.base.getD {}
  let m := if d.on R.RTCM_CFG_STA_MSG then 1006 else 1005
  rtcmFrame (Config.rtcmBody m (d.get R.RTCM_CFG_STATION_ID) (s64 v.x ++ s64 v.y ++ s64 v.z ++
    (if m = 1006 then u16 d.tim.arpH else [])))

/-- The base position changes: kept in MRAM when fixed, and the station message goes out at once (R159, R169, R176). -/
def Dev.basePos (d : Dev) (v : Option Vec3) : Dev :=
  let d := { d with tim := { d.tim with base := v, changedAt := some d.clk.mono, stored := if v.isSome then v else d.tim.stored } }
  if v.isSome && d.rtcmFull then d.rtcmOut [d.stationMsg] else d

/-- Apply MODE (R159), with the position fixed from `v`; the ARP height written takes effect with it (R164). -/
def Dev.baseMode (d : Dev) (v : Option Vec3) : Dev :=
  match d.get R.BASE_CTRL_MODE with
  | 0 => (d.basePos none).baseState 0 0
  | 2 => d.surveyStart
  | _ => match v with
    | some v => (d.basePos (some v)).baseState 2 0
    | none => (d.basePos none).baseState 0 0

/-- GO (R159, R164): the position written, or that last fixed, and the ARP height take effect. -/
def Dev.baseGo (d : Dev) : Dev :=
  let d := { d with tim := { d.tim with arpH := d.get R.BASE_ARP_H_HEIGHT } }
  d.baseMode (if d.get R.BASE_CTRL_MODE = 1 then some d.baseRegs else d.tim.stored)

/-- A reset reapplies MODE with what the last GO or survey-in fixed (R159): what was written since takes effect only at the next GO (R164). -/
def Dev.baseApply (d : Dev) : Dev := d.baseMode d.tim.stored

/-- BASE_GO (R159): a write of BASE_CTRL with GO set. -/
def execBaseGo (v : Word32) (s : State) : Res :=
  onReg R.BASE_CTRL_GO (fun d =>
    let d := d.writeAddr R.BASE_CTRL_GO.addr v.toNat
    if bitOf v.toNat 4 then d.baseGo else d) s

/-- Sum of two vectors. -/
def Vec3.add (a b : Vec3) : Vec3 := ⟨a.x + b.x, a.y + b.y, a.z + b.z⟩
/-- A vector times a number. -/
def Vec3.smul (k : Int) (a : Vec3) : Vec3 := ⟨k * a.x, k * a.y, k * a.z⟩
/-- Square of the length. -/
def Vec3.sq (a : Vec3) : Int := a.x * a.x + a.y * a.y + a.z * a.z

/-- The standard deviation of the mean is at most ACC_LIMIT, each 10 s of epochs one sample (R160). -/
def surveyAccurate (groups : Nat) (sum : Vec3) (sq : Int) (limit : Nat) : Bool :=
  2 ≤ groups && decide (groups * sq - sum.sq ≤ ((limit * 10000 : Nat) : Int) ^ 2 * groups ^ 2 * (groups - 1))

/-- One qualifying epoch of a survey-in, and its completion (R160). -/
def Dev.surveyEpoch (d : Dev) (p : Vec3) : Dev :=
  let t := d.tim
  let gs := t.groupSum.add p
  let gn := t.groupN + 1
  let t := { t with sumPos := t.sumPos.add p, nPos := t.nPos + 1, groupSum := gs, groupN := gn }
  let t := if gn = 100 then
      { t with groupSum := {}, groupN := 0, groups := t.groups + 1, groupsSum := t.groupsSum.add gs, groupsSq := t.groupsSq + gs.sq }
    else t
  let d := { d with tim := t }.sat R.BASE_STATUS_SURVEY_S (t.nPos / 10)
  if 10 * d.get R.BASE_SURVEY_CFG_MIN_DUR ≤ t.nPos && surveyAccurate t.groups t.groupsSum t.groupsSq (d.get R.BASE_SURVEY_CFG_ACC_LIMIT) then
    let m : Vec3 := ⟨rdiv t.sumPos.x t.nPos, rdiv t.sumPos.y t.nPos, rdiv t.sumPos.z t.nPos⟩
    let d := ((d.putBase m).set R.BASE_CTRL_MODE 3).basePos (some m)
    (d.baseState 3 0).record 0x0504 (s64 m.x ++ s64 m.y)
  else d

/-- From FAILED the device starts a survey-in when AUTO_RESURVEY is set (R163). -/
def Dev.baseFailed (d : Dev) (why : Nat) : Dev :=
  let d := d.baseState 4 why
  if d.on R.BASE_CTRL_AUTO_RESURVEY then d.surveyStart else d

/-- One epoch of verification (R161). -/
def Dev.verifyEpoch (d : Dev) (p : Vec3) : Dev :=
  let sum := d.tim.verSum.add p
  let n := d.tim.verN + 1
  if n < 10 * d.get R.BASE_VER_CFG_VER_T then { d with tim := { d.tim with verSum := sum, verN := n } }
  else
    let dist := sum.add (Vec3.smul (-(n : Int)) (d.tim.base.getD {}))
    if dist.sq ≤ ((n * d.get R.BASE_VER_CFG_VER_TOL * 1000 : Nat) : Int) ^ 2 then d.baseState 3 0 else d.baseFailed 1

/-- One epoch of the watch for a moved antenna: the displacement over a sliding 10 s (R162). -/
def Dev.movedEpoch (d : Dev) (v : Vec3) : Dev :=
  let l := (v :: d.tim.disp).take 100
  let d := { d with tim := { d.tim with disp := l } }
  if ((d.get R.BASE_VER_CFG_MOVE_TOL * 10 : Nat) : Int) ^ 2 < (l.foldl Vec3.add {}).sq then d.baseFailed 2 else d

/-- The base position's part of an epoch (R160-R162). -/
def Dev.baseEpoch (d : Dev) (pos disp : Vec3) : Dev :=
  let live := d.get R.TIME_STATUS_SRC = 1 && !d.holdover
  let enough := d.get R.BASE_VER_CFG_MIN_SAT ≤ d.satsInTrack false fun _ => true
  match d.get R.BASE_STATUS_STATE with
  | 1 => if live && enough then d.surveyEpoch pos else d
  | 2 => if live && enough then d.verifyEpoch pos else d
  | 3 => d.movedEpoch disp
  | _ => d

/-- BASE_SKY_LOST_TIMEOUT (R162): the sky lost for 60 s returns a verified position to FIXED. -/
def execBaseSkyLostTimeout (s : State) : Res :=
  onRun .time (fun d => match d.tim.skyLostAt with
    | some t =>
      let d := d.passToMono (t + 60 * second)
      if d.get R.BASE_STATUS_STATE = 3 then d.baseState 2 0 else d
    | none => d) s

/-! ### Inter-system offsets (R139-R142) -/

/-- The speed of light in 0.1 mm/s. -/
def lightC : Nat := 2997924580000

/-- The length of a vector. -/
def Vec3.len (a : Vec3) : Nat := isqrt a.sq.toNat

/-- A position as a vector. -/
def vec3 (p : Int × Int × Int) : Vec3 := ⟨p.1, p.2.1, p.2.2⟩

/-- sin² of an elevation of 0 to 90 degrees, in 2^-16. -/
def sin2Tab : List Nat :=
  [0, 20, 80, 180, 319, 498, 716, 973, 1269, 1604, 1976, 2386, 2833] ++
  [3316, 3836, 4390, 4979, 5602, 6258, 6946, 7666, 8417, 9197, 10005, 10842, 11705] ++
  [12594, 13507, 14444, 15404, 16384, 17384, 18403, 19440, 20493, 21561, 22642, 23736, 24841] ++
  [25955, 27078, 28208, 29343, 30482, 31624, 32768, 33912, 35054, 36193, 37328, 38458, 39581] ++
  [40695, 41800, 42894, 43975, 45043, 46096, 47133, 48152, 49152, 50132, 51092, 52029, 52942] ++
  [53831, 54694, 55531, 56339, 57119, 57870, 58590, 59278, 59934, 60557, 61146, 61700, 62220] ++
  [62703, 63150, 63560, 63932, 64267, 64563, 64820, 65038, 65217, 65356, 65456, 65516, 65536]

/-- The weight of an elevation in degrees (R140). -/
def sin2 (e : Int) : Int := sin2Tab.getD e.toNat 0

/-- The first signal of each system in the order of R118, on which its offset is measured (R139). -/
def firstSig (s : Nat) : Nat := [0, 4, 6, 10, 14, 17].getD s 0

/-- What an epoch says of a satellite. -/
def geoOf (e : EpochIn) (sat : Nat) : Option SatGeo := e.geo.find? fun g => g.sat == sat

/-- The residual of a channel in ps: pseudorange − geometric range − satellite clock term − GPS clock term (R140). The cable delay is in
the pseudorange and the clock alike. -/
def Dev.residual (d : Dev) (e : EpochIn) (ch : Nat) (g : SatGeo) : Int :=
  let rho := ((vec3 g.pos).add (Vec3.smul (-1) (d.tim.base.getD {}))).len
  d.rangePs ch - (rho * 10 ^ 12 / lightC : Nat) + g.clk - e.clk

/-- The residuals of a signal's channels in TRACK at MIN_EL or above, with their elevations (R140). -/
def Dev.residuals (d : Dev) (e : EpochIn) (sig : Nat) (p : Nat → Bool) : List (Int × Int) :=
  skyChans.filterMap fun ch =>
    if d.get R.TRK_CH_STAT_STATE ch == stTrack && d.get R.TRK_CH_SEL_SIG ch == sig && p (d.get R.TRK_CH_SEL_SAT ch) then
      match geoOf e (d.get R.TRK_CH_SEL_SAT ch) with
      | some g => if (d.get R.TRK_ISB_CFG_MIN_EL : Int) ≤ g.elev then some (g.elev, d.residual e ch g) else none
      | none => none
    else none

/-- Insert by rank, before the first of a lower rank. -/
def insertBy {α : Type} (lt : α → α → Bool) (a : α) : List α → List α
  | [] => [a]
  | b :: t => if lt a b then a :: b :: t else b :: insertBy lt a t

/-- A list in order. -/
def sortBy {α : Type} (lt : α → α → Bool) (l : List α) : List α := l.foldr (insertBy lt) []

/-- Twice the median of a list. -/
def median2 (l : List Int) : Int :=
  let s := sortBy (fun a b => decide (a < b)) l
  s.getD ((l.length - 1) / 2) 0 + s.getD (l.length / 2) 0

/-- The residuals in ps that lie within 30 m of their median (R140). -/
def near30 (l : List (Int × Int)) : List (Int × Int) :=
  let m := median2 (l.map fun x => x.2)
  l.filter fun x => (2 * x.2 - m).natAbs * 299792458 ≤ 60 * 10 ^ 12

/-- The mean weighted by sin² of elevation (R140), where there is any weight, in 2^-32 of 0.01 ns from ps. -/
def wmean (l : List (Int × Int)) : Option Int :=
  let w := (l.map fun x => sin2 x.1).sum
  if w = 0 then none else some (rdiv ((l.map fun x => sin2 x.1 * x.2).sum * 2 ^ 32) (10 * w.toNat))

/-- The base position is fixed, so that residuals are formed (R140). -/
def Dev.baseKnown (d : Dev) : Bool := d.baseFixed && d.tim.base.isSome

/-- One system's offset at an epoch (R140, R142): solved with the position while the base is not fixed, filtered from the residuals once it is. The
filter keeps 2^32 parts of the register's LSB (log entry 5). -/
def Dev.isbEpoch (d : Dev) (e : EpochIn) (s : Nat) : Dev :=
  let tau := d.get R.TRK_ISB_CFG_TAU
  let l := if d.baseKnown then d.residuals e (firstSig s) fun sat => satSys sat == s else []
  let mean := wmean (near30 l)
  let n := if d.baseKnown then l.length else d.satsInTrack false fun x => x == s
  let old := tabGet d.trk.isb s
  let diff : Int := match mean with | some m => m - old | none => 0
  let few := if n < 2 then tabGet d.trk.isbFew s + 1 else 0
  let run := if mean.isSome && 2 ≤ n then tabGet d.trk.isbRun s + 1 else tabGet d.trk.isbRun s
  let steps := if decide ((d.get R.TRK_ISB_CFG_STEP_THR * 1000 * 2 ^ 32 : Nat) < diff.natAbs) then tabGet d.trk.isbStep s + 1 else 0
  let jump := decide (10 ≤ steps)
  let val : Int :=
    if jump then old + diff
    else if mean.isSome then old + diff / ((10 * tau : Nat) : Int)
    else match e.solved.find? fun x => x.1 == s with
      | some x => if !d.baseKnown && 2 ≤ n then x.2 * 2 ^ 32 else old
      | none => old
  let d := { d with trk := { d.trk with
    isb := tabPut d.trk.isb s val, isbFew := tabPut d.trk.isbFew s few,
    isbRun := tabPut d.trk.isbRun s (if 600 ≤ few then 0 else run), isbStep := tabPut d.trk.isbStep s (if jump then 0 else steps) } }
  let oldReg := d.geti R.TRK_ISB_ISB s
  let d := d.sati R.TRK_ISB_ISB (rdiv val (2 ^ 32)) s
  let ok := !(600 ≤ few) && (10 * tau ≤ run || d.bit R.TRK_ISB_STAT_VALID (s - 1))
  let d := d.setBit R.TRK_ISB_STAT_VALID (s - 1) ok
  if jump then
    (d.raise R.TRK_ISB_STAT_STEP 0 (2 ^ (s - 1))).record 0x0404 (u8 s ++ s32 oldReg ++ s32 (d.geti R.TRK_ISB_ISB s))
  else d

/-- The residual of a GLONASS channel relative to ISB[1], with ten times the time constant and none dropped (R141). -/
def Dev.ifbEpoch (d : Dev) (e : EpochIn) (k : Nat) : Dev :=
  match wmean (if d.baseKnown then d.residuals e (firstSig 1) fun sat => satSys sat == 1 && satPrn sat == k else []) with
  | some m =>
    let old := tabGet d.trk.ifb k
    let val := old + (m - tabGet d.trk.isb 1 - old) / ((100 * d.get R.TRK_ISB_CFG_TAU : Nat) : Int)
    { d with trk := { d.trk with ifb := tabPut d.trk.ifb k val } }.sati R.TRK_GLO_IFB_IFB (rdiv val (2 ^ 32)) k
  | none => d

/-- ISB[s] as the device uses it, in 0.01 ns (R140): the register once it is valid, else what the system broadcasts, else the register. -/
def Dev.isbUsed (d : Dev) (e : EpochIn) (s : Nat) : Int :=
  if s = 0 then 0
  else if d.bit R.TRK_ISB_STAT_VALID (s - 1) then d.geti R.TRK_ISB_ISB s
  else match e.bcast.find? fun x => x.1 == s with
    | some x => x.2
    | none => d.geti R.TRK_ISB_ISB s

/-! ### The yard correction block (R165-R178) -/

/-- A channel's signal is included (R165); `carrier` asks for the carrier's conditions but for the level. -/
def Dev.included (d : Dev) (ch : Nat) (carrier : Bool) : Bool :=
  let f := d.recFlags ch
  let st := d.get R.TRK_CH_STAT_STATE ch
  1 ≤ st && st ≤ 4 && bitOf f 0 && bitOf f 1 && !bitOf f 8 && (d.get R.CORR_CFG_EL_MASK : Int) ≤ (d.chan ch).elev && (!carrier || bitOf f 2)

/-- TIME_ANT_DELAY in ps (R191). -/
def Dev.antPs (d : Dev) : Int := 125 * d.geti R.TIME_ANT_DELAY_DELAY

/-- A channel's pseudorange for both outputs, in 0.1 mm (R167): TX_CODE, less the residual of a GLONASS channel and the cable delay. -/
def Dev.outCode (d : Dev) (ch : Nat) : Int :=
  let sat := d.get R.TRK_CH_SEL_SAT ch
  let ifb : Int := if satSys sat = 1 then 10 * d.geti R.TRK_GLO_IFB_IFB (satPrn sat) else 0
  d.rangeChips ch * lightC / (chipHz (d.get R.TRK_CH_SEL_SIG ch) * 1024 : Nat) - rdiv ((ifb + d.antPs) * lightC) (10 ^ 12)

/-- A channel's carrier for both outputs, in 0.1 mm: λΦ less the cable delay (R167). -/
def Dev.outCarr (d : Dev) (ch : Nat) : Int :=
  let g := d.get R.TRK_CH_SEL_SIG ch
  rdiv (d.carrierNow ch * lightC) (256 * carrierHz g (d.get R.TRK_CH_SEL_SAT ch)) - rdiv (d.antPs * lightC) (10 ^ 12)

/-- What the corrections engine computes for a signal (R174): channel, satellite, signal, elevation, issue, CODE_CORR and λΦ − ρ − c(dt_rx + ISB − dt_sat), both in
0.1 mm. -/
structure CorrVal where
  ch : Nat
  sat : Nat
  sig : Nat
  elev : Int
  iod : Nat
  code : Int
  carr : Int
  deriving DecidableEq, Repr, Inhabited

/-- The corrections of a channel's signal (R174), from the base position and the broadcast ephemeris. -/
def Dev.corrVal (d : Dev) (e : EpochIn) (ch : Nat) : Option CorrVal :=
  let sat := d.get R.TRK_CH_SEL_SAT ch
  match d.tim.base, geoOf e sat with
  | some b, some g =>
    let rho := ((vec3 g.pos).add (Vec3.smul (-1) b)).len
    let clk := e.clk - d.antPs + 10 * d.isbUsed e (satSys sat) - g.clk
    let x : Int := rho + rdiv (clk * lightC) (10 ^ 12)
    some { ch := ch, sat := sat, sig := d.get R.TRK_CH_SEL_SIG ch, elev := (d.chan ch).elev, iod := g.iod, code := d.outCode ch - x, carr := d.outCarr ch - x }
  | _, _ => none

/-- Lock time class of R176 from the seconds since the restart. -/
def lockClass (s : Nat) : Nat :=
  if s < 1 then 0 else if s < 4 then 1 else if s < 16 then 2 else if s < 64 then 3 else if s < 256 then 4
  else if s < 1024 then 5 else if s < 4096 then 6 else 7

/-- Carrier correction in 0.5 mm after `n` whole cycles are taken off, from 0.1 mm (R174). -/
def carrCorr (g sat : Nat) (carr n : Int) : Int :=
  let f := carrierHz g sat
  rdiv (carr * f - n * lightC) (5 * f)

/-- The whole number of cycles that brings the carrier within half a cycle of the code (R174). -/
def cyclesFor (g sat : Nat) (code carr : Int) : Int := rdiv ((carr - code) * carrierHz g sat) lightC

/-- A channel's lock in both outputs: kept, or restarted for a slip, a discontinuity, a band that leaves JAMMED, a change of signal (R165, R166); the cycles of
the block are chosen then, and again, its lock time restarting, when the carrier correction would leave its field (R174). -/
def Dev.corrLock (d : Dev) (ch : Nat) (v : Option CorrVal) : CorrLock :=
  let sat := d.get R.TRK_CH_SEL_SAT ch
  let sig := d.get R.TRK_CH_SEL_SIG ch
  let f := d.recFlags ch
  let n0 := v.map fun x => cyclesFor sig sat x.code x.carr
  let fresh : CorrLock := { sat := sat, sig := sig, n := n0, at0 := d.clk.mono, rt := d.clk.mono }
  match tabFind d.tim.locks ch with
  | none => fresh
  | some l =>
    if l.sat != sat || l.sig != sig || bitOf f 4 || bitOf f 5 || bitOf d.tim.restart (sigBand sig) then fresh
    else match v, l.n with
      | some x, some n =>
        let c := carrCorr sig sat x.carr n
        if c < -(2 ^ 23) || 2 ^ 23 ≤ c then { l with n := n0, at0 := d.clk.mono } else l
      | _, none => { l with n := n0 }
      | none, some _ => l

/-- A signal entry of R176. -/
def Dev.sigEntry (d : Dev) (o : CorrVal) : List Byte :=
  let f := d.recFlags o.ch
  let l := tabGet d.tim.locks o.ch
  let carrier := bitOf f 2 && 3 ≤ d.level
  let lock := if carrier && !bitOf f 5 then lockClass ((d.clk.mono - l.at0) / second) else 0
  let cn0 := (d.get R.TRK_CH_STAT_CN0 o.ch + 50) / 100
  u64 (o.sig + 2 ^ 5 * lock + 2 ^ 8 * enc2 20 (clamp2 20 (rdiv o.code 200)) +
    2 ^ 28 * (if carrier then enc2 24 (clamp2 24 (carrCorr o.sig o.sat o.carr (l.n.getD 0))) else 0) +
    2 ^ 52 * min 63 (cn0 - 20) + 2 ^ 58 * b2n (bitOf f 3) + 2 ^ 59 * b2n (bitOf f 6))

/-- One satellite's group: its entry and at most `k` signal entries in SIG order (R176, R178). -/
def Dev.satGroup (d : Dev) (k : Nat) (l : List CorrVal) : List Byte :=
  let l := (sortBy (fun a b => decide (a.sig < b.sig)) l).take k
  match l.head? with
  | some o => u16 o.sat ++ u8 o.iod ++ u8 l.length ++ l.flatMap fun o => d.sigEntry o
  | none => []

/-- Groups up to the first that would not fit: the groups, how many, and whether any was left out (R178). -/
def fitGroups (room : Nat) : List (List Byte) → List Byte × Nat × Bool
  | [] => ([], 0, false)
  | g :: t =>
    if room < g.length then ([], 0, true)
    else let r := fitGroups (room - g.length) t; (g ++ r.1, r.2.1 + 1, r.2.2)

/-- The satellites' groups, highest first (R178): all signals where they fit, else at most MAX_SIG of each satellite up to the first group that would not
fit; how many groups, and whether signals were left out for space (R176). -/
def Dev.corrGroups (d : Dev) (room : Nat) (l : List CorrVal) : List Byte × Nat × Bool :=
  let order := sortBy (fun (a b : CorrVal) => decide (b.elev < a.elev)) l
  let sats := (order.map fun o => o.sat).eraseDups
  let groups := fun k => sats.map fun s => d.satGroup k (l.filter fun o => o.sat == s)
  let all := fitGroups room (groups 7)
  if !all.2.2 then all
  else
    let g := fitGroups room (groups (d.get R.CORR_CFG_MAX_SIG))
    (g.1, g.2.1, true)

/-- The yard correction block of the epoch (R176-R178). -/
def Dev.corrBlock (d : Dev) (l : List CorrVal) : List Byte × Nat × Bool :=
  let isNew : Bool := match d.tim.changedAt with | some t => decide (d.clk.mono < t + 10 * second) | none => false
  let incl := d.sfn % 10 == 0 || isNew
  let base := if incl then (let v := d.tim.base.getD {}; s64 v.x ++ s64 v.y ++ s64 v.z) else []
  let g := d.corrGroups (1080 - 12 - base.length) l
  let flags := b2n incl + 2 * b2n d.holdover + 4 * b2n (d.level == 2) + 8 * b2n g.2.2 + 16 * b2n isNew
  let tow := d.now / ms % 604800000
  (u8 1 ++ u8 flags ++ u16 d.id ++ u32 tow ++ u8 g.2.1 ++ u8 d.tim.seq ++ u16 (12 + base.length + g.1.length) ++ base ++ g.1, g.2.1, g.2.2)

/-- The locks of the epoch (R165, R166, R174), after the bands that have left JAMMED. -/
def Dev.corrLocks (d : Dev) (e : EpochIn) : Dev :=
  let jam := (List.range 3).foldl (fun a b => a + b2n (d.get R.SKY_JAM_STATE b == 2) * 2 ^ b) 0
  let left := (List.range 3).foldl (fun a b => a + b2n (bitOf d.tim.jammed b && !bitOf jam b) * 2 ^ b) 0
  let d := { d with tim := { d.tim with jammed := jam, restart := left } }
  d.measChans.foldl (fun (d : Dev) (ch : Nat) => { d with tim := { d.tim with locks := tabPut d.tim.locks ch (d.corrLock ch (d.corrVal e ch)) } }) d

/-- The corrections engine's part of an epoch (R165-R168, R174-R179): locks, whether corrections are being produced, and
the block for the superframe. -/
def Dev.corrEpoch (d : Dev) (e : EpochIn) : Dev :=
  let d := d.corrLocks e
  let vals := d.measChans.filterMap fun ch => d.corrVal e ch
  let sats := ((vals.filter fun o => d.included o.ch true).map fun o => o.sat).eraseDups
  let l := (decide (d.get R.CORR_CFG_MIN_SAT ≤ sats.length) :: d.tim.formed).take 10
  let prod := l.any fun b => b
  let was := d.on R.CORR_STATUS_PRODUCING
  let d := { d with tim := { d.tim with formed := l } }.put R.CORR_STATUS_PRODUCING prod
  let d := if prod != was then d.record 0x0506 (u8 (Config.argCode 0x0506 (b2n prod))) else d
  if d.on R.CORR_CFG_YC_EN && 2 ≤ d.level then
    let (b, n, tr) := d.corrBlock (vals.filter fun o => d.included o.ch false)
    let d := (d.set R.CORR_STATUS_NSAT n)
    let d := if tr then d.inc R.CORR_STATUS_TRUNCS else d
    { d with tim := { d.tim with block := b, blockSf := d.sfn, seq := (d.tim.seq + 1) % 256 } }
  else { d with tim := { d.tim with block := [] } }

/-! ### The epoch -/

/-- The time source at an epoch (R181-R184): whether GNSS is valid, its error with the cable delay taken off, the steering while it is the
source, and the steering of the last epochs. -/
def Dev.gnssEpoch (d : Dev) (e : EpochIn) : Dev :=
  let g := d.gnssValid e
  let err := rdiv (e.clk - d.antPs) 1000
  let d := { d with tim := { d.tim with
    gnss := g, gnssErr := err, slewAt := if d.clk.slew != 0 then some d.clk.mono else d.tim.slewAt
    skyLostAt := if g then none else some (d.tim.skyLostAt.getD d.clk.mono) } }
  let d := if g && d.get R.TIME_STATUS_SRC = 1 then
      (d.sati R.TIME_ERR_ERR err).sati R.TIME_FREQ_STEER (Config.steer (d.geti R.TIME_FREQ_STEER) err (d.get R.TIME_CTRL_DISC_TC))
    else d
  { d with tim := { d.tim with steers := (d.geti R.TIME_FREQ_STEER :: d.tim.steers).take 2550 } }.timeSource

/-- Time and corrections at a measurement epoch: the source, steering and slew (R181-R184), the offsets, the base
position and the block. -/
def Dev.timeEpoch (d : Dev) (e : EpochIn) : Dev :=
  let d := d.gnssEpoch e
  let d := [1, 2, 3, 4, 5].foldl (fun (d : Dev) (s : Nat) => d.isbEpoch e s) d
  let d := (List.range 14).foldl (fun (d : Dev) (k : Nat) => d.ifbEpoch e k) d
  let d := d.baseEpoch (vec3 e.pos) (vec3 e.disp)
  d.corrEpoch e

/-! ### RTCM output (R169-R173) -/

/-- The MSM period in ns (R196). -/
def Dev.msmPeriod (d : Dev) : Nat := match d.get R.RTCM_CFG_MSM_RATE with | 0 => second | 1 => 500 * ms | 2 => 200 * ms | _ => 100 * ms

/-- MSM numbers of R169 by system bit: GPS, GLONASS, Galileo, BeiDou. -/
def msmNumber (type7 : Bool) (k : Nat) : Nat := [1074, 1084, 1094, 1124].getD k 1074 + (if type7 then 3 else 0)

/-- The satellite system of an MSM system bit. -/
def msmSys (k : Nat) : Nat := [0, 1, 2, 3].getD k 0

/-- The RINEX observation code of a signal (R170), as ASCII. -/
def rinexCode (g : Nat) : List Byte :=
  let x : Nat × Char := [(1, 'C'), (1, 'L'), (2, 'L'), (5, 'Q'), (1, 'C'), (2, 'C'), (1, 'C'), (5, 'Q'), (7, 'Q'), (6, 'C'), (2, 'I'), (1, 'P'), (5, 'P'), (6, 'I')].getD g (0, '-')
  u8 (48 + x.1) ++ u8 x.2.toNat

/-- The lock time of a signal's RTCM output in ms (R165, R166). -/
def Dev.rtcmLock (d : Dev) (ch : Nat) : Nat :=
  let f := d.recFlags ch
  match tabFind d.tim.locks ch with
  | some l => if bitOf f 4 || bitOf f 5 || l.sat != d.get R.TRK_CH_SEL_SAT ch || l.sig != d.get R.TRK_CH_SEL_SIG ch then 0 else (d.clk.mono - l.rt) / ms
  | none => 0

/-- What an MSM says of a signal (R165, R167, R170): satellite, code, pseudorange in 0.1 mm; whether carrier is included, which it is with CARR_VALID at L3, with
the phase in 1/256 cycle less the cable delay; Doppler, lock time, half-cycle ambiguity, C/N0. -/
def Dev.msmRec (d : Dev) (ch : Nat) : List Byte :=
  let g := d.get R.TRK_CH_SEL_SIG ch
  let sat := d.get R.TRK_CH_SEL_SAT ch
  let f := d.recFlags ch
  let carrier := bitOf f 2 && 3 ≤ d.level
  let phase := d.carrierNow ch - rdiv (256 * d.antPs * carrierHz g sat) (10 ^ 12)
  u16 sat ++ rinexCode g ++ s64 (d.outCode ch) ++ u8 (b2n carrier) ++ s64 (if carrier then phase else 0) ++ s32 (d.chan ch).doppler ++
    u32 (if carrier then d.rtcmLock ch else 0) ++ u8 (b2n (bitOf f 3)) ++ u16 (d.get R.TRK_CH_STAT_CN0 ch)

/-- TIME_REF_IN is valid (R47, R187). -/
def Dev.refValid (d : Dev) : Bool := d.sys.refOk && !d.sys.field

/-- The epoch time of a system's MSM in ms of its week, or of its day with the day of the week for GLONASS (R170). -/
def Dev.msmTime (d : Dev) (g : Nat) : Nat := ((((d.now : Int) + scaleOff g * (second : Nat)) % (604800 * second : Nat)) / (ms : Nat)).toNat

/-- The content of an MSM (R170, R171): station, epoch time, multiple-message bit, clock steering 1, external clock, smoothing 0 and interval 0, signals. -/
def Dev.msmBody (d : Dev) (num g : Nat) (more : Bool) (chs : List Nat) : List Byte :=
  Config.rtcmBody num (d.get R.RTCM_CFG_STATION_ID)
    (u32 (d.msmTime g) ++ u8 (b2n more) ++ u8 1 ++ u8 (b2n d.refValid) ++ u8 0 ++ u8 0 ++ chs.flatMap fun ch => d.msmRec ch)

/-- Split the channels of one system into messages of at most 1,023 bytes, by satellite (R170). -/
def Dev.msmSplit (d : Dev) (num g : Nat) : List (List Nat) → List Nat → List (List Nat)
  | [], cur => if cur.isEmpty then [] else [cur]
  | x :: rest, cur =>
    if !cur.isEmpty && 1023 < max (d.msmBody num g true (cur ++ x)).length (d.msmBody num g false (cur ++ x)).length then cur :: d.msmSplit num g rest x
    else d.msmSplit num g rest (cur ++ x)

/-- The MSM messages of an epoch, as number, first signal of the system and channels, in sending order (R170). -/
def Dev.msmList (d : Dev) : List (Nat × Nat × List Nat) :=
  (List.range 4).flatMap fun k =>
    if !d.bit R.RTCM_CFG_SYS_MASK k then []
    else
      let chs := skyChans.filter fun ch => d.included ch false && satSys (d.get R.TRK_CH_SEL_SAT ch) == msmSys k
      let sats := (chs.map fun ch => d.get R.TRK_CH_SEL_SAT ch).eraseDups
      let num := msmNumber (d.on R.RTCM_CFG_MSM_TYPE) k
      let g := firstSig (msmSys k)
      (d.msmSplit num g (sats.map fun s => chs.filter fun ch => d.get R.TRK_CH_SEL_SAT ch == s) []).map fun l => (num, g, l)

/-- RTCM output is allowed: at L3, or MSMs at L2 with EARLY (R172). -/
def Dev.rtcmAllowed (d : Dev) (msm : Bool) : Bool :=
  d.rtcmFull || (msm && d.on R.RTCM_CFG_RTCM_EN && d.level == 2 && d.on R.RTCM_CFG_EARLY)

/-- RTCM_MSM_OUTPUT (R170): at a whole multiple of the MSM period; every message but the last carries the
multiple-message bit. -/
def Dev.rtcmMsm (d : Dev) : Dev :=
  let p := d.msmPeriod
  let d := d.passTo ((d.now + p - 1) / p * p)
  if !d.rtcmAllowed true then d
  else
    let l := d.msmList
    let n := l.length
    d.rtcmOut ((l.zipIdx).map fun x => rtcmFrame (d.msmBody x.1.1 x.1.2.1 (x.2 + 1 < n) x.1.2.2))

/-- RTCM_MSM_OUTPUT (R170). -/
def execRtcmMsmOutput (s : State) : Res := onRun .time Dev.rtcmMsm s

/-- A descriptor string of CORR_ANT_STR: up to its first 0x00, at most 31 characters, and whether it has none in its first 31 bytes (R197). -/
def antString (b : List Byte) : List Byte × Bool :=
  let s := b.takeWhile (· != 0)
  (s.take 31, 31 ≤ s.length)

/-- The 64 bytes of CORR_ANT_STR. -/
def Dev.antBytes (d : Dev) : List Byte := (List.range 16).flatMap fun n => u32 (d.get R.CORR_ANT_STR_CHARS n)

/-- A text in ASCII. -/
def asciiText (t : String) : List Byte := t.toList.flatMap fun c => u8 c.toNat

/-- A text behind its length. -/
def counted (b : List Byte) : List Byte := u8 b.length ++ b

/-- Decimal digits, most significant first, with fuel. -/
def digits : Nat → Nat → List Byte
  | 0, _ => []
  | k + 1, n => (if n < 10 then [] else digits k (n / 10)) ++ u8 (48 + n % 10)

/-- Message 1033 (R171): antenna descriptor, setup ID 0, antenna serial, receiver type, SUP version as text, device serial number. The digits of both are
decimal (DESIGN CHOICE, log entry 85). -/
def Dev.msg1033 (d : Dev) : List Byte :=
  let a := (antString (d.antBytes.take 32)).1
  let b := (antString (d.antBytes.drop 32)).1
  let ver := d.get R.IMG_VER_VERSION 0 (d.get R.IMG_PART_STAT_RUN_SLOT 0)
  let ser := d.get R.ID_SERIAL_LO_SERIAL + 2 ^ 32 * d.get R.ID_SERIAL_HI_SERIAL
  rtcmFrame (Config.rtcmBody 1033 (d.get R.RTCM_CFG_STATION_ID)
    (counted a ++ u8 0 ++ counted b ++ counted (asciiText "EVSIN PZ7192") ++ counted (digits 10 ver) ++ counted (digits 20 ser)))

/-- Message 1230 (R171): code-phase bias indicator 1, signal mask 0. -/
def Dev.msg1230 (d : Dev) : List Byte := rtcmFrame (Config.rtcmBody 1230 (d.get R.RTCM_CFG_STATION_ID) (u8 1 ++ u8 0))

/-- RTCM_PERIODIC_OUTPUT (R169): every 10 s, at L3, the station position, 1033, and 1230 while GLONASS is in SYS_MASK. -/
def Dev.rtcmPeriodic (d : Dev) : Dev :=
  let d := d.passToMono (d.tim.periodicAt + 10 * second)
  let d := { d with tim := { d.tim with periodicAt := d.clk.mono } }
  let cut := (antString (d.antBytes.take 32)).2 || (antString (d.antBytes.drop 32)).2
  if !d.rtcmAllowed false then d
  else
    let d := d.put R.CORR_STATUS_STR_TRUNC cut
    d.rtcmOut ((if d.tim.base.isSome then [d.stationMsg] else []) ++ [d.msg1033] ++ (if d.bit R.RTCM_CFG_SYS_MASK 1 then [d.msg1230] else []))

/-- RTCM_PERIODIC_OUTPUT (R169). -/
def execRtcmPeriodicOutput (s : State) : Res := onRun .time Dev.rtcmPeriodic s

/-- RTCM_DISABLE (R180): a write of RTCM_CFG that clears RTCM_EN; no message goes out after it. -/
def execRtcmDisable (v : Word32) (s : State) : Res :=
  onReg R.RTCM_CFG_RTCM_EN (fun d => if bitOf v.toNat 20 then d else d.writeAddr R.RTCM_CFG_RTCM_EN.addr v.toNat) s

/-- YC_DISABLE (R180): a write of CORR_CFG that clears YC_EN; no block is built from the next superframe. -/
def execYcDisable (v : Word32) (s : State) : Res :=
  onReg R.CORR_CFG_YC_EN (fun d => if bitOf v.toNat 0 then d else d.writeAddr R.CORR_CFG_YC_EN.addr v.toNat) s

end Sys2Proof.Machine
end

