-- ==== Sys2Proof/Machine/Yrd.lean ====
section
/-!
DEFINITION. Yard ranging (R198-R231): the exchanges an anchor measures, its reports, calibration, gathering and fixes, and
the allotment of AUTO positions. Lengths are in nm and phases in 2^-32 cycle (log entry 60).
-/

namespace Sys2Proof.Machine

/-! ### Geometry and units -/

/-- Difference of two positions. -/
def Vec3.sub (a b : Vec3) : Vec3 := ⟨a.x - b.x, a.y - b.y, a.z - b.z⟩

/-- Distance in nm of positions in 0.1 mm. -/
def distNm (a b : Vec3) : Int := let v := a.sub b; (isqrt ((v.x * v.x + v.y * v.y + v.z * v.z).toNat * 10 ^ 10) : Nat)

/-- Range in nm of `n` time-of-arrival differences summed, in 1/1024 chip (R202). -/
def toaNm (sum : Int) (n : Nat) : Int := rdiv (299792458 * 625 * sum) (10240 * n)

/-- A length in 2^-32 of the synthetic wavelength of `mhz` MHz (R206). -/
def cycOf (mhz : Nat) (nm : Int) : Int := rdiv (nm * (mhz * 2 ^ 32 : Nat)) 299792458000

/-- A phase in 2^-32 cycle as a length in nm. -/
def nmOf (mhz : Nat) (c : Int) : Int := rdiv (c * 299792458000) (mhz * 2 ^ 32)

/-- frac: modulo 1 cycle. -/
def frac32 (c : Int) : Int := c % 2 ^ 32

/-- Distance of two phases round the circle. -/
def circDist (a b : Int) : Nat := (((a - b + 2 ^ 31) % 2 ^ 32) - 2 ^ 31).natAbs

/-! ### Reports (R203) -/

/-- FLAGS of a report. -/
def repFlags (b : List Byte) : Nat := fld b 6 1
/-- Channel `f` was received. -/
def repHas (b : List Byte) (f : Nat) : Bool := bitOf (repFlags b) f
/-- All three channels were received. -/
def repAll (b : List Byte) : Bool := repFlags b % 8 == 7
/-- SLEWING. -/
def repSlew (b : List Byte) : Bool := bitOf (repFlags b) 4
/-- TOA of a channel. -/
def repToa (b : List Byte) (f : Nat) : Int := (fld b (20 + 4 * f) 4 : Nat)
/-- PHASE of a channel. -/
def repPh (b : List Byte) (f : Nat) : Int := (fld b (32 + 2 * f) 2 : Nat)
/-- The counter of the exchange's first slot, as the report's FCNT implies it (R204). -/
def repBase (b : List Byte) : Nat := fld b 16 4 + 3 - (if repHas b 0 then 0 else if repHas b 1 then 1 else 2)

/-- ψ of two reports at 60 MHz (channels 2 and 0) or 30 MHz (1 and 0), in 2^-32 cycle, without geometry and offsets. -/
def psi (f : Nat) (a r : List Byte) : Int := ((repPh a f - repPh r f) - (repPh a 0 - repPh r 0)) * 2 ^ 16

/-! ### The device as an anchor -/

/-- The yard cluster is in service (R145, R224). -/
def Dev.yardOk (d : Dev) : Bool := (List.range 12).all fun k => d.get R.TRK_CH_STAT_STATE (180 + k) != stOos

/-- The device's time slews, or has slewed or stepped within the last 3 s (R203, R208). -/
def Dev.slewing (d : Dev) : Bool :=
  d.clk.slew != 0 || d.tim.stepAt.isSome || (match d.tim.slewAt with | some t => decide (d.clk.mono < t + 3 * second) | none => false)

/-- The anchor table entry in force of a device. -/
def Dev.anchIdx (d : Dev) (dev : Nat) : Option Nat := (d.yrd.anch.find? fun p => p.2.dev == dev).map fun p => p.1

/-- Where an anchor's antenna stands. -/
def Dev.anchPos (d : Dev) (a : Nat) : Vec3 := (tabGet d.yrd.anch a).pos

/-- Entry `a` is the device itself. -/
def Dev.anchSelf (d : Dev) (a : Nat) : Bool := match tabFind d.yrd.anch a with | some x => x.dev == d.id | none => false

/-- Kind, cell and ID of a plan position in force (R217). -/
def Dev.planOf (d : Dev) (p : Nat) : Nat × Nat × Nat := let w := tabGet d.yrd.plan p; (w % 4, bits w 4 9, bits w 16 10)

/-- The offsets of a yard channel's early, prompt and late correlators from prompt, in 1/128 chip of its 16 Mchip/s code (R117, R201). -/
def Dev.yardOffsets (d : Dev) : List Int :=
  let h : Int := d.get R.YRD_CFG2_SPACING
  [-h, 0, h]

/-- Yard channels produce measurements, or do not (R201): channel 191 of the uplinks and sync frames the radio listens to, the others while ranging is enabled. -/
def Dev.yardView (d : Dev) : Dev :=
  let rx := d.runs .rad && d.runs .corr && d.on R.RAD_CTRL_EN
  (List.range 12).foldl (fun (d : Dev) (k : Nat) =>
    let ch := 180 + k
    if d.get R.TRK_CH_STAT_STATE ch == stOos then d
    else d.set R.TRK_CH_STAT_STATE (if (if k = 11 then rx else d.runs .corr && d.on R.YRD_CTRL_EN) then stTrack else stIdle) ch) d

/-! ### Calibration (R205-R208) -/

/-- The samples that count: the last AVG. -/
def Dev.calLast (d : Dev) (a : Nat) : List (Int × Int × Int) := (tabGet d.yrd.cal a).samples.take (d.get R.YRD_CAL_CFG_AVG)

/-- D, C60 and C30 of an anchor: the mean and the circular means; 0 for the device itself. -/
def Dev.calMean (d : Dev) (a : Nat) : Int × Int × Int :=
  let l := d.calLast a
  if d.anchSelf a || l.isEmpty then (0, 0, 0)
  else (rdiv (l.map fun x => x.1).sum l.length, circMean (l.map fun x => x.2.1), circMean (l.map fun x => x.2.2))

/-- The largest deviation of the C60 samples from their mean, in 2^-32 cycle. -/
def Dev.calDev (d : Dev) (a : Nat) : Nat := (d.calLast a).foldl (fun n x => max n (circDist x.2.1 (d.calMean a).2.1)) 0

/-- The spread is within RES_TOL. -/
def Dev.calTight (d : Dev) (a : Nat) : Bool := d.calDev a * 299792458000 ≤ d.get R.YRD_CAL_CFG_RES_TOL * 10 ^ 6 * 60 * 2 ^ 32

/-- A time is no older than MAX_AGE. -/
def Dev.calFresh (d : Dev) (t : Option Nat) : Bool :=
  match t with | some t => decide (d.clk.mono ≤ t + d.get R.YRD_CAL_CFG_MAX_AGE * second) | none => false

/-- An anchor is calibrated (R207). -/
def Dev.calOk (d : Dev) (a : Nat) : Bool :=
  d.on R.YRD_CTRL_EN &&
    (if d.anchSelf a then d.yardOk && !d.slewing && d.calFresh d.yrd.selfAt
     else d.get R.YRD_CAL_CFG_AVG ≤ (tabGet d.yrd.cal a).samples.length && d.calFresh (tabGet d.yrd.cal a).at0 && d.calTight a)

/-- One anchor's registers; an anchor that was calibrated and is no longer writes event 0x0602 with its cause. -/
def Dev.calView (d : Dev) (a : Nat) : Dev :=
  let was := d.on R.YRD_ANCH_CAL_CAL a
  let ok := (tabFind d.yrd.anch a).isSome && d.calOk a
  let self := d.anchSelf a
  let at0 := if self then d.yrd.selfAt else (tabGet d.yrd.cal a).at0
  let age := match at0 with | some t => (d.clk.mono - t) / second | none => 255
  let res := if self then 0 else if (d.calLast a).isEmpty then 255 else ceilDiv (d.calDev a * 299792458000) (10 ^ 6 * 60 * 2 ^ 32)
  let d' := ((d.put R.YRD_ANCH_CAL_CAL ok a).sat R.YRD_ANCH_CAL_AGE age a).sat R.YRD_ANCH_CAL_RES res a
  let cause := if at0.isNone || (self && d.slewing) then 2 else if !d.calFresh at0 then 0 else 1
  if was && !ok && d.on R.YRD_CTRL_EN && (tabFind d.yrd.anch a).isSome then
    d'.record 0x0602 (u16 (tabGet d.yrd.anch a).dev ++ u8 (Config.argCode 0x0602 cause))
  else d'

/-- Every anchor's registers, and whether yard ranging is calibrated (R207). -/
def Dev.yrdView (d : Dev) : Dev :=
  let was := d.on R.YRD_STATUS_CALIBRATED
  let d := (List.range 16).foldl (fun (d : Dev) (a : Nat) => d.calView a) d
  let cal := (List.range 16).filter fun a => d.on R.YRD_ANCH_CAL_CAL a
  let self := cal.any fun a => d.anchSelf a
  let ok := self && d.get R.YRD_CFG_MIN_ANCH ≤ cal.length
  let d := (d.set R.YRD_STATUS_N_CAL cal.length).put R.YRD_STATUS_CALIBRATED ok
  if ok != was then d.record 0x0601 (u8 cal.length) else d

/-- The calibration of an anchor starts again. -/
def Dev.calReset (d : Dev) (a : Nat) : Dev := { d with yrd := { d.yrd with cal := tabDel d.yrd.cal a } }

/-- The sample of R206 from two reports, for an anchor and a transmitter's position. -/
def calSample (p pa ps : Vec3) (a s : List Byte) : Int × Int × Int :=
  let g := distNm p pa - distNm p ps
  let sum := (repToa a 0 - repToa s 0) + (repToa a 1 - repToa s 1) + (repToa a 2 - repToa s 2)
  (toaNm sum 3 - g, frac32 (psi 2 a s - cycOf 60 g), frac32 (psi 1 a s - cycOf 30 g))

/-- A CAL exchange gives a sample for anchor `a` where it and the device received all three channels, neither slewing, and
their counters are verified (R204, R206, R208). -/
def Dev.calTry (d : Dev) (g : YGather) (a : Nat) : Dev :=
  match d.anchIdx d.id, d.anchIdx g.dev with
  | some s, some p =>
    match tabFind g.reports s, tabFind g.reports a with
    | some rs, some ra =>
      if a = s || a = p || s = p || !repAll rs || !repAll ra || repSlew rs || repSlew ra || !g.base.contains (repBase rs) || !g.base.contains (repBase ra) then d
      else
        let x := calSample (d.anchPos p) (d.anchPos a) (d.anchPos s) ra rs
        let c := tabGet d.yrd.cal a
        { d with yrd := { d.yrd with
            cal := tabPut d.yrd.cal a { samples := (x :: c.samples).take 15, at0 := some d.clk.mono }, selfAt := some d.clk.mono } }
    | _, _ => d
  | _, _ => d

/-- CAL_AGE_EXPIRY (R207): the newest sample of an anchor grows older than MAX_AGE. -/
def Dev.calExpire (d : Dev) (a : Nat) : Dev :=
  let t := if d.anchSelf a then d.yrd.selfAt else (tabGet d.yrd.cal a).at0
  match t with
  | some t => (d.passToMono (t + d.get R.YRD_CAL_CFG_MAX_AGE * second + 1)).yrdView
  | none => d

/-- CAL_AGE_EXPIRY (R207). -/
def execCalAgeExpiry (a : Nat) (s : State) : Res := onRun .sup (fun d => d.calExpire a) s

/-! ### Exchanges (R198-R204) -/

/-- SPARE_TAKEOVER (R144, R145): a swap or a channel lost; where it is a yard channel, calibration follows at once (R224). -/
def execSpareTakeover (ch : Nat) (s : State) : Res := onRun .corr (fun d => if ch < 192 then (d.spareTakeover ch).yrdView else d) s

/-- The last instant at which reports of an exchange are gathered (R210). -/
def Dev.gatherTo (d : Dev) (t : Nat) : Nat := t + 3 * slotLen + d.get R.YRD_CFG_WAIT * ms

/-- Change the gathering of an exchange, beginning it where there is none. -/
def Dev.gatherMod (d : Dev) (g0 : YGather) (f : YGather → YGather) : Dev :=
  let l := d.yrd.gathers.filter fun g => d.now ≤ g.tSlot + second
  let l := if l.any fun g => g.tSlot == g0.tSlot then l else l ++ [g0]
  { d with yrd := { d.yrd with gathers := l.map fun g => if g.tSlot == g0.tSlot then f g else g } }

/-- The gathering of the exchange that started at `t`. -/
def Dev.gatherOf (d : Dev) (t : Nat) : Option YGather := d.yrd.gathers.find? fun g => g.tSlot == t

/-- A report joins its exchange, once; its anchor's samples are discarded while it slews (R208). -/
def Dev.gatherReport (d : Dev) (g0 : YGather) (a : Nat) (b : List Byte) : Dev :=
  let d := if repSlew b && !d.anchSelf a then d.calReset a else d
  if (match d.gatherOf g0.tSlot with | some g => (tabFind g.reports a).isSome | none => false) then d.yrdView
  else
    let d := d.gatherMod g0 fun g => { g with reports := tabPut g.reports a b }
    match d.gatherOf g0.tSlot with
    | some g =>
      let d := if !g.cal then d
        else if d.anchSelf a then g.reports.foldl (fun (d : Dev) (p : Nat × List Byte) => d.calTry g p.1) d
        else d.calTry g a
      d.yrdView
    | none => d

/-- The anchor report of an exchange (R203). -/
def Dev.anchReport (d : Dev) (t p cell kind : Nat) (l : List YMeas) (discont ok : Bool) : List Byte :=
  let got := l.filter fun x => x.got
  let first := got.headD {}
  let m := fun (f : Nat) => (got.find? fun x => x.f == f).getD {}
  let flags := (got.map fun x => 2 ^ x.f).sum + 8 * b2n discont + 16 * b2n d.slewing + 32 * b2n ok
  u16 d.id ++ u16 cell ++ u8 (if kind = 3 then 0xFF else first.src) ++ u8 (p + 128 * b2n (kind == 3)) ++ u8 flags ++ u8 0 ++ u64 t ++ u32 first.fcnt ++
    u32 (m 0).toa ++ u32 (m 1).toa ++ u32 (m 2).toa ++ u16 (m 0).phase ++ u16 (m 1).phase ++ u16 (m 2).phase ++
    u8 (m 0).snr ++ u8 (m 1).snr ++ u8 (m 2).snr ++ zeros 7

/-- The device verifies a frame of an exchange (R204): as the serving device a machine's, of a CAL position the device's
own site frame. -/
def Dev.rangeVerify (d : Dev) (kind p f : Nat) (serving : Bool) (frame : List Byte) : Bool × Dev :=
  let want := fType frame == 5
  let body := fun (x : Option (List Byte)) => match x with | some b => fld b 0 1 == p && fld b 1 1 == f | none => false
  if kind = 3 then
    let r := d.receiveSite frame (want && fDst frame == 0xFF)
    (body r.1, r.2)
  else if serving && !d.discards then
    let r := d.receiveMach frame (fSrc frame) (want && fDst frame == 0xF0)
    (body r.1, r.2)
  else (false, d)

/-- The third slot of an exchange is over: the report, and the gathering where the exchange is for the device. -/
def Dev.exchangeEnd (d : Dev) (e t p kind cell id : Nat) (own : Bool) : Dev :=
  let l := d.yrd.rx
  let oks := l.filter fun x => x.ok
  let discont := (d.chan (180 + e)).discont
  let d := (d.modChan (180 + e) fun c => { c with discont := false })
  let d := { d with yrd := { d.yrd with rx := [] } }
  let b := d.anchReport t p cell kind l discont (!oks.isEmpty && own)
  let formed := l.any fun x => x.got
  let d := if formed && d.on R.YRD_CFG2_REPORT_EN && (own || d.on R.YRD_CTRL_ANCHOR_EN) then d.item (d.get R.YRD_CFG_REPORT_RING) 0x0601 t b else d
  if kind = 3 || (own && d.reins && kind != 0) then
    let g0 : YGather := { tSlot := t, pos := p, cal := kind == 3, dev := id }
    let d := d.gatherMod g0 fun g => { g with base := (oks.map fun x => x.fcnt + 3 - x.f).eraseDups, machine := (oks.headD {}).src }
    match d.anchIdx d.id with
    | some a => if formed then d.gatherReport g0 a b else d
    | none => d
  else d

/-- RANGING_SLOT_RX (R200-R204): what is heard in a ranging slot of the present superframe, by its end. -/
def Dev.rangeRx (d : Dev) (slot : Nat) (rx : Option RangeRx) : Dev :=
  if slot < 347 || 379 < slot || d.slotStart (slot + 1) < d.now then d
  else
    let e := (slot - 347) / 3
    let f := (slot - 347) % 3
    let t := d.slotStart (347 + 3 * e)
    let p := 11 * (d.sfn % 10) + e
    let (kind, cell, id) := d.planOf p
    let own := cell == d.cellNo
    let d := d.passTo (d.slotStart (slot + 1))
    if !d.on R.YRD_CTRL_EN || (kind == 3 && id == d.id) || !(own || kind == 3 || d.on R.YRD_CTRL_ANCHOR_EN) then d
    else
      let d := if d.yrd.rxAt = t then d else { d with yrd := { d.yrd with rx := [], rxAt := t } }
      let d := match rx with
        | none => d
        | some x =>
          if !(851968 ≤ x.toa + 196608 && x.toa ≤ 851968 + 196608 && d.get R.YRD_CFG2_SNR_MIN ≤ x.snr) then d
          else
            let (ok, d) := d.rangeVerify kind p f (own && d.reins) x.frame
            let m : YMeas := { f := f, toa := x.toa, phase := x.phase, snr := x.snr, fcnt := fCnt x.frame, src := fSrc x.frame, ok := ok, got := d.yardOk }
            { d with yrd := { d.yrd with rx := d.yrd.rx ++ [m] } }
      if f = 2 then d.exchangeEnd e t p kind cell id own else d

/-- RANGING_SLOT_RX (R202). -/
def execRangingSlotRx (slot : Nat) (rx : Option RangeRx) (s : State) : Res := onRun .rad (fun d => d.rangeRx slot rx) s

/-- The three frames of a CAL position that names the device (R205, R223, R224, R257). -/
def Dev.calTx (d : Dev) (e : Nat) : Dev :=
  let p := 11 * (d.sfn % 10) + e
  let (kind, _, id) := d.planOf p
  if 10 < e || d.slotStart (347 + 3 * e) < d.now || kind != 3 || id != d.id || !d.radTx || d.level = 0 ||
      !(d.on R.YRD_CTRL_EN || d.yrd.calTo == d.sfn + 1) then d
  else match d.siteSlot with
    | none => d
    | some k =>
      let one := fun (d : Dev) (f : Nat) =>
        (d.passTo (d.slotStart (347 + 3 * e + f))).air (347 + 3 * e + f) f (d.get R.RAD_CELL_CFG_SITE_CODE) 5 0xF0 0xFF k true (u8 p ++ u8 f ++ zeros 29)
      one (one (one d 0) 1) 2

/-- CAL_FRAME_TX (R205). -/
def execCalFrameTx (e : Nat) (s : State) : Res := onRun .rad (fun d => d.calTx e) s

/-! ### Reports from neighbouring anchors (R221, R222) -/

/-- One report posted by the host: whether it was taken, or ignored, and the state after. -/
def Dev.reportIn (d : Dev) (b : List Byte) : Bool × Dev :=
  let cell := fld b 2 2 % 512
  let p := fld b 5 1 % 128
  let cal := bitOf (fld b 5 1) 7
  let t := fld b 8 8
  let resv := fld b 0 2 < 1024 && fld b 2 2 < 512 && fld b 6 1 < 64 && zeroAt b 7 1 && zeroAt b 41 7
  if !cal && (cell != d.cellNo || !d.reins) then (true, d)
  else if !resv then (false, d)
  else match d.anchIdx (fld b 0 2) with
    | none => (false, d)
    | some a =>
      let real := p < 110 && t % superframe == (347 + 3 * (p % 11)) * slotLen && t / superframe % 10 == p / 11
      let late := match d.gatherOf t with | some g => g.ended | none => false
      if !real || late || d.gatherTo t < d.now then (false, d.inc R.YRD_STATUS_LATE)
      else (true, d.gatherReport { tSlot := t, pos := p, cal := cal, dev := (d.planOf p).2.2 } a b)

/-- YRD_REPORTS on a taken descriptor (R222). -/
def Dev.yrdReports (d : Dev) (q : Desc) (mem : Option (List Byte)) : Dev :=
  let a := q.area
  let n := fld a 1 1
  if !resvOk a [(0, 2), (8, 8)] || n = 0 || 64 < n || fld a 8 8 % 16 != 0 then d.complete q .badDescriptor
  else if !q.gate then d.complete q .refusedState
  else match mem with
    | none => d.complete q .aborted
    | some b =>
      let r := (List.range n).foldl (fun (x : Bool × Dev) (i : Nat) => let y := x.2.reportIn (fit 48 (b.drop (48 * i))); (x.1 && y.1, y.2)) (true, d)
      r.2.complete q (if r.1 then .done else .donePartial)

/-- YRD_REPORTS (R221). -/
def execYrdReports (mem : Option (List Byte)) (s : State) : Res :=
  onDev (fun d => match d.take 6 1 with | some (q, d) => d.yrdReports q mem | none => d) s

/-! ### From reports to a fix (R210-R215) -/

/-- A range difference (R211): nm, and whether it is synthetic; `none` with no channel in common. -/
def Dev.rangeDiff (d : Dev) (a r : Nat) (ra rr : List Byte) : Option (Int × Bool) :=
  let fs := (List.range 3).filter fun f => repHas ra f && repHas rr f
  let ca := d.calMean a
  let cr := d.calMean r
  if fs.isEmpty then none
  else
    let code := toaNm (fs.map fun f => repToa ra f - repToa rr f).sum fs.length - (ca.1 - cr.1)
    let p60 := frac32 (psi 2 ra rr - (ca.2.1 - cr.2.1))
    let p30 := frac32 (psi 1 ra rr - (ca.2.2 - cr.2.2))
    let x := cycOf 60 code - p60
    let n := rdiv x (2 ^ 32)
    let dl := nmOf 60 (n * 2 ^ 32 + p60)
    if fs.length == 3 && decide (4 * (x - n * 2 ^ 32).natAbs ≤ 2 ^ 32) && decide (10 * circDist (frac32 (cycOf 30 dl)) p30 ≤ 2 ^ 32) then some (dl, true)
    else some (code, false)

/-- A report is usable for a fix (R204, R208, R210). -/
def Dev.repUsable (d : Dev) (g : YGather) (x : Nat × List Byte) : Bool :=
  g.base.contains (repBase x.2) && !repSlew x.2 && (d.anchSelf x.1 || d.calOk x.1)

/-- The height hint of R212 for a machine, mm. -/
def Dev.hintOf (d : Dev) (m : Nat) : Int :=
  match tabFind d.yrd.hint m with
  | some (u, t) => if d.clk.mono < t + 10 * second then u else d.geti R.YRD_HGT_HGT
  | none => d.geti R.YRD_HGT_HGT

/-- A fixed-point vector of length 2^40 in the direction of (x, y). -/
def unitOf (x y : Int) : Int × Int :=
  let n : Int := isqrt ((x * x + y * y).toNat * 2 ^ 80)
  (x * 2 ^ 80 / n, y * 2 ^ 80 / n)

/-- East, north and up at a base position in 0.1 mm, in 2^-80: longitude, and latitude by Bowring's formula on the ellipsoid of the broadcast
ephemerides' frame, a = 6,378,137 m, b = 6,356,752.3142 m (R159, R215; WGS 84 is PRESUMED, log entry 86). -/
def enuAxes (b : Vec3) : List (Int × Int × Int) :=
  let (cl, sl) := unitOf b.x b.y
  let p : Int := isqrt (b.x * b.x + b.y * b.y).toNat
  let (ct, st) := unitOf (p * 63567523142) (b.z * 63781370000)
  let (cp, sp) := unitOf (p - 669437999014 * 63781370000 * (ct * ct * ct) / (10 ^ 14 * 2 ^ 120)) (b.z + 673949674228 * 63567523142 * (st * st * st) / (10 ^ 14 * 2 ^ 120))
  let one : Int := 2 ^ 40
  [(-sl * one, cl * one, 0), (-sp * cl, -sp * sl, cp * one), (cp * cl, cp * sl, sp * one)]

/-- A position in nm east, north and up of the base, from ECEF in 0.1 mm (R215). -/
def toEnu (b v : Vec3) : Vec3 :=
  let x := v.sub b
  let dot := fun (a : Int × Int × Int) => (a.1 * x.x + a.2.1 * x.y + a.2.2 * x.z) * 100000 / 2 ^ 80
  match enuAxes b with
  | [e, n, u] => ⟨dot e, dot n, dot u⟩
  | _ => {}

/-- A range difference to solve: the anchor in nm east, north and up, the difference to the reference in nm, its weight (R212). -/
structure YEq where
  pos : Vec3
  diff : Int
  w : Int
  deriving DecidableEq, Repr, Inhabited

/-- The direction from an anchor to a point, in 2^-30. -/
def dirTo (a x : Vec3) : Vec3 :=
  let v := x.sub a
  let n : Int := isqrt (v.x * v.x + v.y * v.y + v.z * v.z).toNat
  ⟨v.x * 2 ^ 30 / n, v.y * 2 ^ 30 / n, v.z * 2 ^ 30 / n⟩

/-- Distance of two points in nm. -/
def distOf (a x : Vec3) : Int := let v := x.sub a; (isqrt (v.x * v.x + v.y * v.y + v.z * v.z).toNat : Nat)

/-- The residual of a difference at a point, nm. -/
def YEq.resid (q : YEq) (r x : Vec3) : Int := q.diff - (distOf q.pos x - distOf r x)

/-- The gradient of a difference at a point, in 2^-30. -/
def YEq.grad (q : YEq) (r x : Vec3) : Vec3 := (dirTo q.pos x).sub (dirTo r x)

/-- A symmetric matrix, the sum of weighted products of gradients: ee, en, eu, nn, nu, uu. -/
def normal (l : List (Int × Vec3)) : Int × Int × Int × Int × Int × Int :=
  let s := fun (f : Vec3 → Int) => (l.map fun g => g.1 * f g.2).sum
  (s fun g => g.x * g.x, s fun g => g.x * g.y, s fun g => g.x * g.z, s fun g => g.y * g.y, s fun g => g.y * g.z, s fun g => g.z * g.z)

/-- Determinant and the cofactors ee, en, eu, nn, nu, uu of a symmetric matrix; with the height held, of its horizontal part. -/
def cofactors (d3 : Bool) (m : Int × Int × Int × Int × Int × Int) : Int × Int × Int × Int × Int × Int × Int :=
  let (ee, en, eu, nn, nu, uu) := m
  if d3 then
    let c0 := nn * uu - nu * nu
    let c1 := eu * nu - en * uu
    let c2 := en * nu - eu * nn
    (ee * c0 + en * c1 + eu * c2, c0, c1, c2, ee * uu - eu * eu, en * eu - ee * nu, ee * nn - en * en)
  else (ee * nn - en * en, nn, -en, 0, ee, 0, 0)

/-- One step of the least squares solution from a point (R212). -/
def yardStep (d3 : Bool) (l : List YEq) (r x : Vec3) : Vec3 :=
  let rows := l.map fun q => (q.w, q.grad r x, q.resid r x)
  let (det, c0, c1, c2, c3, c4, c5) := cofactors d3 (normal (rows.map fun q => (q.1, q.2.1)))
  let b := fun (f : Vec3 → Int) => (rows.map fun q => q.1 * f q.2.1 * q.2.2).sum
  let (be, bn, bu) := (b fun g => g.x, b fun g => g.y, if d3 then b fun g => g.z else 0)
  if det = 0 then x
  else ⟨x.x + (c0 * be + c1 * bn + c2 * bu) * 2 ^ 30 / det, x.y + (c1 * be + c3 * bn + c4 * bu) * 2 ^ 30 / det, x.z + (c2 * be + c4 * bn + c5 * bu) * 2 ^ 30 / det⟩

/-- Some steps of the solution. -/
def yardSteps (d3 : Bool) (l : List YEq) (r : Vec3) : Nat → Vec3 → Vec3
  | 0, x => x
  | k + 1, x => yardSteps d3 l r k (yardStep d3 l r x)

/-- A solution (R212): in 3D or not, position in nm, HDOP in 0.1, whether VDOP is at most 3.0, residuals in nm. -/
structure YSol where
  d3 : Bool := false
  x : Vec3 := {}
  hdop : Nat := 0
  vdopOk : Bool := false
  res : List Int := []
  deriving DecidableEq, Repr, Inhabited

/-- The weighted least squares solution of range differences to a reference (R212), by twenty Gauss-Newton steps from the middle of the anchors at the height
hint; HDOP and VDOP from the unweighted gradients (the start and the DOPs' formula are a DESIGN CHOICE, log entry 86). -/
def yardSolve (d3 : Bool) (r : Vec3) (l : List YEq) (h : Int) : YSol :=
  let sum := l.foldl (fun (a : Vec3) (q : YEq) => a.add q.pos) r
  let n : Int := l.length + 1
  let x := yardSteps d3 l r 20 ⟨sum.x / n, sum.y / n, h⟩
  let (det, c0, _, _, c3, _, c5) := cofactors d3 (normal (l.map fun q => (1, q.grad r x)))
  { d3 := d3, x := x, res := l.map fun q => q.resid r x
    hdop := if det ≤ 0 then 255 else isqrt (100 * (c0 + c3) * 2 ^ 60 / det).toNat
    vdopOk := decide (0 < det) && decide (c5 * 2 ^ 60 ≤ 9 * det) }

/-- The solution over a reference and other anchors: in 3D where four reported and VDOP allows, else with the height held at the hint (R212). -/
def Dev.solve (d : Dev) (m r : Nat) (l : List (Nat × Int × Bool)) : YSol :=
  let b := d.tim.base.getD {}
  let ref := toEnu b (d.anchPos r)
  let eqs := l.map fun x => ({ pos := toEnu b (d.anchPos x.1), diff := x.2.1, w := if x.2.2 then 100 else 1 } : YEq)
  let h := d.hintOf m * 1000000
  let s3 := yardSolve true ref eqs h
  if 3 ≤ l.length && s3.vdopOk then s3 else yardSolve false ref eqs h

/-- The rms residual exceeds 5 cm (R212). -/
def YSol.rmsOver (s : YSol) : Bool := decide ((s.res.length : Int) * 50000000 ^ 2 < (s.res.map fun v => v * v).sum)

/-- The place of the largest residual. -/
def YSol.worst (s : YSol) : Nat := s.res.findIdx fun v => v.natAbs == (s.res.map Int.natAbs).foldl max 0

/-- Equations beyond the unknowns. -/
def overdet (d3 : Bool) (n : Nat) : Bool := (if d3 then 3 else 2) < n

/-- The fix of an exchange goes to its ring and waits for its slot (R212-R214). -/
def Dev.fixMake (d : Dev) (g : YGather) (r : Nat) (l : List (Nat × Int × Bool)) : Dev :=
  let m := g.machine
  let s1 := d.solve m r l
  let drop := overdet s1.d3 l.length && s1.rmsOver
  let l := if drop then l.eraseIdx s1.worst else l
  let s := if drop then d.solve m r l else s1
  let flags := b2n s.d3 + 2 * b2n (l.any fun x => !x.2.2) + 4 * b2n (!overdet s.d3 l.length) + 8 * b2n drop
  let t := g.tSlot + slotLen + 52000
  let mm := fun (z : Int) => rdiv z 1000000
  let u := if s.d3 then mm s.x.z else d.hintOf m
  let pos := s32 (clamp2 32 (mm s.x.x)) ++ s32 (clamp2 32 (mm s.x.y)) ++ s32 (clamp2 32 u)
  let sig := u16 (min (Config.yardSigma s.hdop (l.all fun x => x.2.2) s.res) 65535)
  let d := if s.d3 then { d with yrd := { d.yrd with hint := tabPut d.yrd.hint m (u, d.clk.mono) } } else d
  let d := if d.on R.YRD_CFG2_FIX_EN then
      d.item (d.get R.YRD_CFG_FIX_RING) 0x0602 t (u16 d.cellNo ++ u8 m ++ u8 flags ++ u8 (l.length + 1) ++ u8 (min s.hdop 255) ++ sig ++ u64 t ++ pos ++ zeros 4)
    else d
  { d with yrd := { d.yrd with fixes := d.yrd.fixes ++ [{ ready := d.now + 500000, m := m, body := fit 30 (u64 t ++ pos ++ sig ++ u8 flags ++ u8 (l.length + 1)) }] } }

/-- An exchange is discarded under R204. -/
def Dev.discardExch (d : Dev) (p cause : Nat) : Dev := (d.inc R.YRD_STATUS_DISCARDED).record 0x0603 (u8 p ++ u8 (Config.argCode 0x0603 cause))

/-- The fix of a gathered exchange of the cell, if it makes one (R204, R210-R212, R215). -/
def Dev.fixOf (d : Dev) (g : YGather) : Dev :=
  if g.cal || g.reports.isEmpty || !d.on R.YRD_CTRL_EN then d
  else if g.base.isEmpty then d.discardExch g.pos 0
  else if 1 < g.base.length || (g.reports.all fun x => !g.base.contains (repBase x.2)) then d.discardExch g.pos 1
  else
    let l := g.reports.filter fun x => d.repUsable g x
    let ref := match l.find? fun x => d.anchSelf x.1 with | some x => some x | none => l.head?
    match ref with
    | none => d
    | some r =>
      let ds := (l.filter fun x => x.1 != r.1).filterMap fun x => (d.rangeDiff x.1 r.1 x.2 r.2).map fun y => (x.1, y)
      if ds.length + 1 < d.get R.YRD_CFG_MIN_ANCH || d.tim.base.isNone then d else d.fixMake g r.1 ds

/-- FIX_GATHER_END (R210): every valid entry has reported, or WAIT has passed. -/
def Dev.gatherEnd (d : Dev) (p : Nat) : Dev :=
  match d.yrd.gathers.find? (fun g => g.pos == p && !g.ended) with
  | none => d
  | some g =>
    let all := d.yrd.anch.all fun x => (tabFind g.reports x.1).isSome
    let d := if all then d else d.passTo (d.gatherTo g.tSlot)
    (d.gatherMod g fun g => { g with ended := true }).fixOf g

/-- FIX_GATHER_END (R210). -/
def execFixGatherEnd (p : Nat) (s : State) : Res := onRun .sup (fun d => d.gatherEnd p) s

/-! ### AUTO positions (R218) -/

/-- The AUTO positions of the cell in the plan in force. -/
def Dev.autoPos (d : Dev) : List Nat := (List.range 110).filter fun p => let w := d.planOf p; w.1 == 2 && w.2.1 == d.cellNo

/-- WAITING and ALLOTTED. -/
def Dev.autoView (d : Dev) : Dev :=
  let d := d.sat R.YRD_AUTO_WAITING (d.yrd.auto.filter fun x => x.2.waits).length
  d.sat R.YRD_AUTO_ALLOTTED (d.yrd.auto.map fun x => x.2.pos.length).sum

/-- A machine's positions change, and it is to be told. -/
def Dev.autoSet (d : Dev) (m : Nat) (x : YAuto) : Dev :=
  let q := if d.yrd.allotQ.contains m then d.yrd.allotQ else d.yrd.allotQ ++ [m]
  { d with yrd := { d.yrd with auto := tabPut d.yrd.auto m x, allotQ := q } }

/-- A machine's uplink carries its ranging request flag, or not. -/
def Dev.autoUplink (d : Dev) (m : Nat) (want : Bool) : Dev :=
  match tabFind d.yrd.auto m with
  | some x =>
    { d with yrd := { d.yrd with auto := tabPut d.yrd.auto m { x with want := want, cleared := if want then none else some (x.cleared.getD d.now) } } }
  | none => if want then { d with yrd := { d.yrd with auto := tabPut d.yrd.auto m { want := true } } } else d

/-- One round of allotment: each machine in turn that holds `k` positions is given one more, while one is free. -/
def Dev.autoRound (d : Dev) (k : Nat) : Dev :=
  let ask := (d.yrd.auto.filter fun x => x.2.want && x.2.pos.length == k).map fun x => x.1
  let order := ask.filter (fun m => (d.authOf m).isSome) ++ ask.filter fun m => (d.authOf m).isNone
  order.foldl (fun (d : Dev) (m : Nat) =>
    let taken := d.yrd.auto.flatMap fun x => x.2.pos
    match d.autoPos.find? fun p => !taken.contains p with
    | some p => let x := tabGet d.yrd.auto m; d.autoSet m { x with pos := x.pos ++ [p], waits := false }
    | none => d) d

/-- The AUTO positions at a superframe start (R218): machines that left lose theirs, each machine asking gets one before any
gets a second, up to the eight a frame can name. -/
def Dev.autoAllot (d : Dev) : Dev :=
  let gone := d.yrd.auto.filter fun x => !d.joined x.1
  let d := gone.foldl (fun (d : Dev) (x : Nat × YAuto) => { d with yrd := { d.yrd with auto := tabDel d.yrd.auto x.1 } }) d
  let d := if d.on R.YRD_CTRL_AUTO_EN && d.reins then (List.range 8).foldl (fun (d : Dev) (k : Nat) => d.autoRound k) d else d
  let full := d.on R.YRD_CTRL_AUTO_EN && d.reins
  let d := d.yrd.auto.foldl (fun (d : Dev) (x : Nat × YAuto) =>
    let waits := full && x.2.want && x.2.pos.isEmpty
    let d := if waits && !x.2.waits then d.record 0x0605 (u8 x.1) else d
    { d with yrd := { d.yrd with auto := tabPut d.yrd.auto x.1 { x.2 with waits := waits } } }) d
  d.autoView

/-- YRD_AUTO_RELEASE (R218): a machine that has cleared its request for RELEASE_S seconds loses its positions. -/
def Dev.autoRelease (d : Dev) (m : Nat) : Dev :=
  match tabFind d.yrd.auto m with
  | some x =>
    match x.cleared with
    | some t =>
      let d := d.passTo (t + d.get R.YRD_AUTO_RELEASE_S * second)
      let d := if x.pos.isEmpty then d else d.autoSet m {}
      { d with yrd := { d.yrd with auto := tabDel d.yrd.auto m } }.autoView
    | none => d
  | none => d

/-- YRD_AUTO_RELEASE (R218). -/
def execYrdAutoRelease (m : Nat) (s : State) : Res := onRun .sup (fun d => d.autoRelease m) s

/-- The RANGE_ALLOT payload of a machine (R253), sent now: it applies from the next GPS second. -/
def Dev.allotPayload (d : Dev) (m : Nat) : List Byte :=
  let p := (tabGet d.yrd.auto m).pos.take 8
  fit 31 (u8 5 ++ u8 p.length ++ u32 (d.gpsSec + 1) ++ fit 8 (p.flatMap u8 ++ List.replicate 8 255))

/-! ### Plan, anchor table, control (R217, R223, R227-R231) -/

/-- The plan registers as words. -/
def Dev.planRegs (d : Dev) : Tab Nat :=
  (List.range 110).filterMap fun p =>
    let w := d.get R.YRD_PLAN_KIND p + 2 ^ 4 * d.get R.YRD_PLAN_CELL p + 2 ^ 16 * d.get R.YRD_PLAN_ID p
    if w = 0 then none else some (p, w)

/-- An anchor table entry takes effect, and its calibration starts again. -/
def Dev.anchApply (d : Dev) (a : Nat) : Dev :=
  let w := fun (k : Nat) => d.get R.YRD_ANCH_POS_POS a k
  let v : Vec3 := { x := dec2 64 (w 0 + 2 ^ 32 * w 1), y := dec2 64 (w 2 + 2 ^ 32 * w 3), z := dec2 64 (w 4 + 2 ^ 32 * w 5) }
  let t := if d.on R.YRD_ANCH_ID_VALID a then tabPut d.yrd.anch a { dev := d.get R.YRD_ANCH_ID_DEV a, pos := v } else tabDel d.yrd.anch a
  ({ d with yrd := { d.yrd with anch := t } }.calReset a).set R.YRD_ANCH_CAL_CAL 0 a

/-- A write in the plan waits for the next GPS second. -/
def Dev.planWrite (d : Dev) (addr v : Nat) : Dev := { d.writeAddr addr v with yrd := { (d.writeAddr addr v).yrd with planNew := true } }

/-- A write in the anchor table: at once, or at the next GPS second while EN is set (R230). -/
def Dev.anchWrite (d : Dev) (a addr v : Nat) : Dev :=
  let d := d.writeAddr addr v
  if d.on R.YRD_CTRL_EN then (if d.yrd.anchNew.contains a then d else { d with yrd := { d.yrd with anchNew := d.yrd.anchNew ++ [a] } })
  else d.anchApply a

/-- The GPS second's part of yard ranging: plan and anchor entries written take effect, and the ages move on. -/
def Dev.yrdSecond (d : Dev) : Dev :=
  let d := if d.yrd.planNew then { d with yrd := { d.yrd with plan := d.planRegs, planNew := false } }.record 0x0604 (u32 d.gpsSec) else d
  let l := d.yrd.anchNew
  let d := l.foldl (fun (d : Dev) (a : Nat) => d.anchApply a) { d with yrd := { d.yrd with anchNew := [] } }
  d.yrdView

/-- Yard ranging at boot: plan and anchor table are settings (R225). -/
def Dev.yrdBoot (d : Dev) : Dev :=
  let d := { d with yrd := { plan := d.planRegs } }
  (List.range 16).foldl (fun (d : Dev) (a : Nat) => d.anchApply a) d

/-- A write of YRD_CTRL; clearing EN ends ranging (R223). -/
def Dev.yrdCtrlWrite (d : Dev) (v : Nat) : Dev :=
  let was := d.on R.YRD_CTRL_EN
  let d := d.writeAddr R.YRD_CTRL_EN.addr v
  if was && !d.on R.YRD_CTRL_EN then
    let d := { d with yrd := { d.yrd with rx := [], gathers := [], cal := [], selfAt := none, calTo := d.sfn + 1 } }
    (d.giveUp fun q => q.block == 6).yrdView.yardView
  else d.yardView

/-- YRD_DISABLE (R223): a write of YRD_CTRL that clears EN. -/
def execYrdDisable (v : Word32) (s : State) : Res := onReg R.YRD_CTRL_EN (fun d => if bitOf v.toNat 0 then d else d.yrdCtrlWrite v.toNat) s

end Sys2Proof.Machine
end

