-- ==== Sys2Proof/Machine/Rad.lean ====
section
/-!
DEFINITION. The superframe and the site radio (R232-R280): beacons, drag frames, corrections, downlink, uplinks, joins, the
key switch, and the election of the site's time master.
-/

namespace Sys2Proof.Machine

/-! ### Roles (R264-R268, R274) -/

/-- The device is master no longer: the master it follows is the last it heard, if it heard one since reset (R276). -/
def Dev.unmaster (d : Dev) : Dev :=
  let h := d.rad.heardMaster
  let d := { d with rad := { d.rad with miss := 0, inelAt := none } }.put R.RAD_SITE_STAT_MASTER_VALID h
  (d.set R.RAD_SITE_STAT_MASTER_ID (if h then d.rad.lastMaster.1 else 0)).set R.RAD_SITE_STAT_MASTER_CELL (if h then d.rad.lastMaster.2 else 0)

/-- ROLE follows reins, duplicate ID and mastership (R274): silent without the reins but for a standby (R633). -/
def Dev.radRole (d : Dev) : Dev :=
  let r := d.get R.RAD_STATUS_ROLE
  let n := if d.on R.RAD_STATUS_DUP_ID then 0
    else if !d.reins then (if d.get R.PAIR_STATUS_ROLE == 2 then 3 else 0)
    else if r = 2 then 2 else 1
  let d := d.set R.RAD_STATUS_ROLE n
  if r = 2 && n != 2 then d.unmaster else d

/-- The device is the time master. -/
def Dev.master (d : Dev) : Bool := d.get R.RAD_STATUS_ROLE == 2

/-- The device is eligible as master (R267). -/
def Dev.eligible (d : Dev) : Bool :=
  d.get R.RAD_SITE_CFG_PRIO != 0 && d.reins && (d.get R.TIME_STATUS_SRC == 1 || d.get R.TIME_STATUS_SRC == 2) && 2 ≤ d.level

/-- Rank (R267): higher PRIO first, then lower device ID. -/
def outranks (p1 id1 p2 id2 : Nat) : Bool := p2 < p1 || (p1 == p2 && id1 < id2)

/-- Eligible devices heard in the last 60 s. -/
def Dev.heardPrune (d : Dev) : Dev :=
  let l := d.rad.heard.filter fun x => d.clk.mono ≤ x.2.2 + 60 * second
  { d with rad := { d.rad with heard := l } }.sat R.RAD_SITE_STAT_HEARD l.length

/-- A device becomes the master the site follows here; event 0x0702. Causes: 0 claim, 1 yield, 2 partner. A master follows no beacons (R181). -/
def Dev.setMaster (d : Dev) (id cell cause : Nat) : Dev :=
  let old := if d.on R.RAD_SITE_STAT_MASTER_VALID then d.get R.RAD_SITE_STAT_MASTER_ID else 0xFFFF
  let d := ((d.set R.RAD_SITE_STAT_MASTER_ID id).set R.RAD_SITE_STAT_MASTER_CELL cell).set R.RAD_SITE_STAT_MASTER_VALID 1
  let own := id == d.id
  let d := { d with rad := { d.rad with miss := 0 }, tim := { d.tim with beaconOk := d.tim.beaconOk && !own } }.set R.RAD_STATUS_MISSED 0
  let d := (d.set R.RAD_STATUS_ROLE (if own then 2 else 1)).radRole.record 0x0702 (u16 old ++ u16 id ++ u8 (Config.argCode 0x0702 cause))
  if own then d.timeSource else d

/-- The error that R184 still has to remove, ns. -/
def Dev.errLeft (d : Dev) : Nat := if d.tim.stepAt.isSome then d.tim.stepErr.natAbs else d.clk.slew.natAbs

/-- The hold of R265 is lifted once the remaining error is within REALIGN. -/
def Dev.holdLift (d : Dev) : Dev :=
  if d.on R.RAD_STATUS_HOLD_EOA && d.errLeft ≤ d.get R.RAD_SITE_CFG_REALIGN * 100 then
    (((d.set R.RAD_STATUS_HOLD_EOA 0).set R.RAD_STATUS_FREE 0).record 0x0701 (u8 (Config.argCode 0x0701 1))).brkViewAll
  else d

/-! ### The step a beacon announces (R250) -/

/-- A step is due at the next second boundary. -/
def Dev.stepNext (d : Dev) : Bool := match d.tim.stepAt with | some t => d.now < t && t ≤ d.now + second | none => false

/-- STEP_NS. -/
def Dev.stepNs (d : Dev) : Int := if d.stepNext then clamp2 32 (-d.tim.stepErr) else 0

/-- A bitmap of machines (R249). -/
def machBits (l : List Nat) : List Byte := (List.range 30).map fun k => BitVec.ofNat 8 ((List.range 8).map fun b => if l.contains (8 * k + b) then 2 ^ b else 0).sum

/-! ### Downlink (R237, R252-R254) -/

/-- Slots the correction block takes in this superframe (R175). -/
def Dev.corrPieces (d : Dev) : Nat :=
  if d.tim.block.isEmpty || d.tim.blockSf != d.sfn || d.level < 2 then 0 else min 36 (ceilDiv d.tim.block.length 30)

/-- The key a key frame carries leaves its slot (R563). -/
def Dev.sendKey (d : Dev) (n : Nat) : Option (List Byte) := if d.get R.KEY_ATTR_USAGE n = 2 then d.radioKey n else none

/-- A key frame can be sent: the key it carries is LEAF_SEND, and a join key can be derived (R561, R563). -/
def Dev.keyFrOk (d : Dev) (k : KeyFr) : Bool :=
  (d.sendKey (if k.join then d.get R.RAD_KEY_CFG_CUR_SLOT else d.get R.RAD_KEY_CFG_NEXT_SLOT)).isSome && (!k.join || (d.joinKey k.serial).isSome)

/-- Key frames that cannot be sent are refused KEY_DENIED (R563). -/
def Dev.keyFrDeny (d : Dev) : Dev :=
  let bad := d.rad.keyQ.filter fun k => k.sf ≤ d.sfn && !d.keyFrOk k
  let d := { d with rad := { d.rad with keyQ := d.rad.keyQ.filter fun k => !(k.sf ≤ d.sfn && !d.keyFrOk k) } }
  bad.foldl (fun (d : Dev) (k : KeyFr) => d.record 0x0F04 (u8 (if k.join then d.get R.RAD_KEY_CFG_CUR_SLOT else d.get R.RAD_KEY_CFG_NEXT_SLOT) ++ u8 0 ++ u8 6)) d

/-- A join response or a key change goes out in slot `n`. -/
def Dev.keyFrSend (d : Dev) (k : KeyFr) (n : Nat) : Dev :=
  let cur := d.get R.RAD_KEY_CFG_CUR_SLOT
  let nxt := d.get R.RAD_KEY_CFG_NEXT_SLOT
  if k.join then
    d.airUnder ((d.joinKey k.serial).getD []) 8 n (d.get R.RAD_CELL_CFG_CELL_CH) (d.get R.RAD_CELL_CFG_CODE) 3 0xF0 0xFE (d.get R.KEY_JOIN_CFG_SLOT) false
      (fit 31 (u64 k.serial ++ u8 4 ++ u8 k.m ++ u32 (d.get R.KEY_GEN_GEN cur) ++ (d.sendKey cur).getD []))
  else
    d.airCell n 3 0xF0 k.m (fit 31 (u8 7 ++ u32 (d.get R.KEY_GEN_GEN nxt) ++ (d.sendKey nxt).getD [] ++
      u48 (d.get R.RAD_KEY_SWITCH_LO_SFN_LO + 2 ^ 32 * d.get R.RAD_KEY_SWITCH_HI_SFN_HI)))

/-- The body of fragment `f` of a piece (R585). -/
def pieceBody (x : Send) (p : Nat × List Byte) : List Byte := fit 31 (u8 6 ++ u16 x.xfer ++ u16 p.1 ++ u8 x.frag ++ ((fit 1024 p.2).drop (25 * x.frag)).take 25)

/-- The next fragment of an IMG_SEND goes out; its last completes the descriptor (R586). -/
def Dev.pieceSend (d : Dev) (n key : Nat) : Option Dev :=
  let sent := if d.rad.pieceSf = d.sfn + 1 then d.rad.pieceN else 0
  match d.rad.sends with
  | [] => none
  | x :: rest =>
    match x.pieces with
    | [] => none
    | p :: ps =>
      if d.get R.IMG_CFG_TX_MAX ≤ sent then none
      else
        let d := d.air n (d.get R.RAD_CELL_CFG_CELL_CH) (d.get R.RAD_CELL_CFG_CODE) 3 0xF0 0xF0 key true (pieceBody x p)
        let x' : Send := if x.frag = 40 then { x with pieces := ps, frag := 0 } else { x with frag := x.frag + 1 }
        let gone := x'.pieces.isEmpty
        let d := { d with rad := { d.rad with sends := if gone then rest else x' :: rest, pieceSf := d.sfn + 1, pieceN := sent + 1 } }
        some (if gone then d.complete x.desc .done else d)

/-- What a free downlink slot carries, in the order of R237: the machine addressed, and the state once it is sent. -/
def Dev.dlOne (d : Dev) (n : Nat) : Option (Nat × Dev) :=
  let start := d.slotStart n
  match d.brk.order.find? (fun m => d.authDue m (104 - n) start) with
  | some m => let (p, d) := d.authSend m (104 - n) start; some (m, d.airCell n 3 0xF0 m p)
  | none =>
  match d.rad.keyQ.find? (fun k => k.sf ≤ d.sfn && d.keyFrOk k) with
  | some k =>
    let q := d.rad.keyQ.erase k
    some (k.m, { d.keyFrSend k n with rad := { (d.keyFrSend k n).rad with keyQ := q } })
  | none =>
  match d.yrd.fixes.find? (fun x => 41 ≤ n && x.ready ≤ d.slotStart 41 && x.ready + 150000 ≤ start) with
  | some x =>
    let d := { d with yrd := { d.yrd with fixes := d.yrd.fixes.erase x } }
    some (x.m, d.airCell n 3 0xF0 x.m (u8 3 ++ x.body))
  | none =>
  match d.orderNext with
  | some (m, p, d) => some (m, d.airCell n 3 0xF0 m p)
  | none =>
  match d.yrd.allotQ with
  | m :: rest =>
    let p := d.allotPayload m
    let d := { d with yrd := { d.yrd with allotQ := rest } }
    some (m, d.airCell n 3 0xF0 m p)
  | [] => (d.siteSlot.bind fun k => d.pieceSend n k).map fun d => (0xF0, d)

/-- The first slot from `n` on, of `k`, that has something to carry; it is sent there. -/
def Dev.dlScan (d : Dev) : Nat → Nat → Option (Nat × Nat × Dev)
  | 0, _ => none
  | k + 1, n =>
    match (d.passTo (d.slotStart n)).dlOne n with
    | some (m, d) => some (n, m, d)
    | none => d.dlScan k (n + 1)

/-- The first downlink slot still open in this superframe (R235, R237). -/
def Dev.dlFrom (d : Dev) : Nat :=
  let late := (d.now % superframe + slotLen - 1) / slotLen
  max (max (5 + d.corrPieces) late) (if d.rad.dlSf = d.sfn + 1 then d.rad.dlNext else 0)

/-- DOWNLINK_TX (R237). -/
def Dev.downlinkTx (d : Dev) : Dev :=
  if !d.cellTx || !d.on R.RAD_CTRL_EN || d.img.macSf = d.sfn + 1 then d
  else
    let d := d.keyFrDeny
    let n0 := d.dlFrom
    match d.dlScan (104 - n0) n0 with
    | some (n, _, d) => { d with rad := { d.rad with dlSf := d.sfn + 1, dlNext := n + 1 } }.settle
    | none => d

/-- DOWNLINK_TX (R237). -/
def execDownlinkTx (s : State) : Res := onRun .rad Dev.downlinkTx s

/-- The machines whom the frames that wait address in this superframe, slot by slot (DL_PEND, R249). -/
def Dev.dlPlan (d : Dev) : Nat → Nat → List Nat
  | 0, _ => []
  | k + 1, n =>
    match d.dlScan (104 - n) n with
    | some (n, m, d) => m :: d.dlPlan k (n + 1)
    | none => []

/-- CORR_FRAME_TX (R175): the next piece of the block in its slot. -/
def Dev.corrTx (d : Dev) : Dev :=
  let k := if d.rad.corrSf = d.sfn + 1 then d.rad.corrNext else 0
  let n := d.corrPieces
  if !d.cellTx || !d.on R.RAD_CTRL_EN || d.img.macSf = d.sfn + 1 || n ≤ k || d.slotStart (5 + k) + slotLen ≤ d.now then d
  else
    let d := d.passTo (d.slotStart (5 + k))
    let d := d.airCell (5 + k) 2 0xF0 0xFF (fit 31 (u8 (k + 128 * b2n (k + 1 == n)) ++ (d.tim.block.drop (30 * k)).take 30))
    { d with rad := { d.rad with corrSf := d.sfn + 1, corrNext := k + 1 } }

/-- CORR_FRAME_TX (R175). -/
def execCorrFrameTx (s : State) : Res := onRun .rad Dev.corrTx s

/-! ### The cell beacon (R249) -/

/-- The timing corrections of the next beacon: the 16 largest offsets (R261). -/
def tcorrList (l : List (Nat × Int)) : List (Nat × Int) := (sortNat (fun (x : Nat × Int) => 0x10000 - x.2.natAbs) l).take 16

/-- The beacon payload of the superframe that starts now. -/
def Dev.beaconPayload (d : Dev) : List Byte :=
  let live := d.rad.ackSf == d.sfn
  let of := fun (l : List Nat) => machBits (if live then l else [])
  let tc := tcorrList (if live then d.rad.tcorr else [])
  let entry := fun (x : Nat × Int) => u8 x.1 ++ u8 0 ++ s16 (-x.2)
  let gen := match d.cellSlot with | some k => d.get R.KEY_GEN_GEN k | none => 0
  let n0 := 5 + d.corrPieces
  let dl := if !d.on R.RAD_CTRL_EN || d.img.macSf == d.sfn + 1 then [] else d.dlPlan 99 n0
  fit 219 (u8 1 ++ u8 (b2n d.holdover + 2 * b2n d.stepNext + 4 * b2n d.cellDrag + 8 * b2n d.globalHold) ++ u8 d.level ++ u8 tc.length ++
    u64 (d.slotStart 0) ++ u32 (d.get R.TIME_UNC_UNC) ++ s32 d.stepNs ++ u16 d.id ++ u16 (d.get R.RAD_SITE_STAT_MASTER_ID) ++ u32 gen ++
    of d.rad.ulAck ++ of d.rad.rep ++ of d.rad.resync ++ fit 64 (tc.flatMap entry) ++ machBits dl)

/-- CELL_BEACON_TX (R249): at the start of a superframe, once; a beacon with a REPEAT bit is counted (R399). -/
def Dev.beaconTx (d : Dev) : Dev :=
  if !d.cellTx || d.slot != 0 || d.rad.bcnSf = d.sfn + 1 || d.now < d.pair.bcnFrom then d
  else
    let d := d.airCell 0 0 0xF0 0xFF d.beaconPayload
    let d := if d.rad.ackSf == d.sfn && !d.rad.rep.isEmpty then d.inc R.WB_COUNTS_REPEATS else d
    { d with rad := { d.rad with bcnSf := d.sfn + 1, ulAck := [], rep := [], resync := [], tcorr := [] } }.selfOk 3

/-- CELL_BEACON_TX (R249). -/
def execCellBeaconTx (s : State) : Res := onRun .rad Dev.beaconTx s

/-! ### Drag frames (R33-R36, R251, R345) -/

/-- The drag slots of a superframe. -/
def dragSlots : List Nat := [4, 104, 204, 304]

/-- The next drag slot of the superframe whose instant, `ofs` ns after its start, is not past and not yet used. -/
def Dev.dragNext (d : Dev) (ofs : Nat) : Option Nat :=
  dragSlots.find? fun n => d.now ≤ d.slotStart n + ofs && d.rad.dragAt < 400 * d.sfn + n + 1

/-- The whole-cell drag frame. -/
def Dev.airCellDrag (d : Dev) (n : Nat) : Dev := d.airCell n 1 0xF1 0xFF (u8 1 ++ List.replicate 30 0xFF)

/-- BRK_LAT after a drag input's frame, `rest` ns before its end (R346). -/
def Dev.dragLat (d : Dev) (rest : Nat) : Dev :=
  match d.brk.inputAt with
  | some t =>
    let us := ceilDiv (d.clk.mono + rest - t) 1000
    let d := (d.sat R.BRK_LAT_LAST_US us).sat R.BRK_LAT_MAX_US (max us (d.get R.BRK_LAT_MAX_US))
    { d with brk := { d.brk with inputAt := none } }
  | none => d

/-- A standby is faulted (R33): a fault of its own, which TIME_FAULT is too (R617). -/
def Dev.standbyFault (d : Dev) : Bool := d.rad.faulted || d.pair.ownFault || d.on R.PAIR_STATUS_TIME_FAULT

/-- STANDBY_DRAG_DECISION (R33): at the start of the slot; after a disable, the four whole-cell frames of R271. -/
def Dev.standbyDrag (d : Dev) : Dev :=
  if d.get R.PAIR_STATUS_ROLE != 2 || d.standbyFault then d
  else match d.dragNext 0 with
    | none => d
    | some n =>
      let d := d.passTo (d.slotStart n)
      let d := { d with rad := { d.rad with dragAt := 400 * d.sfn + n + 1 } }
      if d.radTx && d.cellSlot.isSome && (d.on R.BRK_IN_A || d.on R.BRK_IN_B || d.rad.copyDrag || d.rad.stopAir != 0) then
        let d := (d.airCellDrag n).dragLat 248000
        { d with rad := { d.rad with stopAir := d.rad.stopAir - 1 } }
      else d

/-- STANDBY_DRAG_DECISION (R33). -/
def execStandbyDragDecision (s : State) : Res := onRun .rad Dev.standbyDrag s

/-- DRAG_DECISION (R34, R345): 15 µs into the slot. After a disable, the four whole-cell frames of R271. -/
def Dev.dragDecision (d : Dev) : Dev :=
  if !d.reins then d
  else match d.dragNext 15000 with
    | none => d
    | some n =>
      let d := d.passTo (d.slotStart n + 15000)
      let d := { d with rad := { d.rad with dragAt := 400 * d.sfn + n + 1 } }
      if !d.cellTx then d
      else if d.wholeCell || d.on R.BRK_IN_A || d.on R.BRK_IN_B then
        let d := (d.airCellDrag n).dragLat 233000
        { d with rad := { d.rad with stopAir := d.rad.stopAir - 1 } }
      else
        let stops := (List.range 8).flatMap fun w => u32 (d.get R.BRK_STOP_STOP w)
        if (stops.take 30).all (· == 0) then d else d.airCell n 1 0xF0 0xFF (u8 0 ++ stops.take 30)

/-- DRAG_DECISION (R345). -/
def execDragDecision (s : State) : Res := onRun .rad Dev.dragDecision s

/-! ### Uplinks (R236, R255, R256, R261, R263) -/

/-- The machine of an uplink slot. -/
def slotMach (n : Nat) : Option Nat :=
  if 105 ≤ n && n ≤ 203 then some (n - 105)
  else if 205 ≤ n && n ≤ 303 then some (n - 106)
  else if 305 ≤ n && n ≤ 346 then some (n - 107)
  else none

/-- The slot of a machine's uplink. -/
def machSlot (m : Nat) : Nat := if m < 99 then 105 + m else if m < 198 then 106 + m else 107 + m

/-- The lists for the next beacon, emptied at the first uplink of a superframe. -/
def Dev.ackOpen (d : Dev) : Dev :=
  if d.rad.ackSf = d.sfn + 1 then d
  else { d with rad := { d.rad with ackSf := d.sfn + 1, ulAck := [], rep := [], resync := [], tcorr := [] } }

/-- The event of a taken uplink (R256). -/
def Dev.uplinkEvent (d : Dev) (m t : Nat) (p : List Byte) : Dev :=
  let code := fld p 24 2
  if code = 0 then d
  else if d.fifoRoom then d.fifoPut { m := m, code := code, arg := fld p 26 4, t := t }
  else { d with rad := { d.rad with rep := d.rad.rep ++ [m] } }

/-- A taken uplink: acknowledgement, sleep, ranging request, then the authority's acknowledgement, occupation, supervision,
release, and its event. -/
def Dev.uplinkTake (d : Dev) (m slot : Nat) (ofs : Int) (p : List Byte) : Dev :=
  let t := d.slotStart slot
  let fl := fld p 0 1
  let u : Upl := { t := t, sf := d.sfn, seg := fld p 16 2, ofs := fld p 18 2, speed := fld p 12 2, age := fld p 20 2, sigma := fld p 30 1, authSeq := fld p 22 2 }
  let sl := if bitOf fl 3 then tabPut d.rad.sleep m (d.slotStart 0 + fld p 1 1 * second) else tabDel d.rad.sleep m
  let tc := if d.get R.RAD_TIMING_TCORR_THR * 16 < ofs.natAbs then d.rad.tcorr ++ [(m, ofs)] else d.rad.tcorr
  let d := { d with rad := { d.rad with ulAck := d.rad.ulAck ++ [m], tcorr := tc, sleep := sl }, rsv := { d.rsv with upl := tabPut d.rsv.upl m u } }
  let d := (d.set R.RAD_UL_STAT_MISSED 0 m).autoUplink m (bitOf fl 0)
  let d := d.authAck m u
  let d := if u.seg < 2048 && d.holder u.seg == m then d else d.intrusion m u.seg u.speed
  let d := (d.occupy m u.seg).supervise m u
  let d := ((d.release m u).shortUplink m u).joinView m
  (d.uplinkEvent m t p).settle

/-- UPLINK_RX (R245, R255, R261): a frame heard in an uplink slot, its arrival offset in 62.5 ns and its SNR. -/
def Dev.uplinkRx (d : Dev) (slot : Nat) (ofs : Int) (snr : Nat) (f : List Byte) : Dev :=
  match slotMach slot with
  | none => d
  | some m =>
    if d.slotStart (slot + 1) < d.now || !d.reins || d.level = 0 then d
    else
      let d := d.passTo (d.slotStart (slot + 1))
      if d.discards then d
      else match d.receiveMach f m (fType f == 4 && fDst f == 0xF0) with
        | (none, d) => d
        | (some p, d) =>
          let d := ((d.sati R.RAD_UL_STAT_OFS ofs m).sat R.RAD_UL_STAT_SNR snr m).ackOpen
          if d.get R.RAD_TIMING_WIN * 16 < ofs.natAbs then
            { d.inc R.RAD_ERR_WINDOW with rad := { d.rad with resync := d.rad.resync ++ [m] } }.record 0x0705 (u8 m ++ s32 ofs)
          else d.uplinkTake m slot ofs p

/-- UPLINK_RX (R255). -/
def execUplinkRx (slot : Nat) (ofs : Int) (snr : Nat) (f : List Byte) (s : State) : Res := onRun .rad (fun d => d.uplinkRx slot ofs snr f) s

/-- MISSED of one machine at the end of slot 346 (R263, R279): an uplink was expected and none was taken. -/
def Dev.ulMissed (d : Dev) (m : Nat) (u : Upl) : Dev :=
  let asleep := match tabFind d.rad.sleep m with | some t => decide (d.slotStart 0 < t) | none => false
  if u.sf = d.sfn || asleep || !d.admitted m then d else d.inc R.RAD_UL_STAT_MISSED m

/-- MISS_COUNT (R279, R337): at the end of slot 346. -/
def execMissCount (s : State) : Res :=
  onRun .safe (fun d => if !d.timed then d else
    let d := d.missCount d.discards
    (if d.discards then d else d.rsv.upl.foldl (fun (d : Dev) (x : Nat × Upl) => d.ulMissed x.1 x.2) d).settle) s

/-! ### Joining (R258, R260) -/

/-- The machine number a serial is admitted as, that WANT allows. -/
def Dev.admitFor (d : Dev) (serial want : Nat) : Option Nat :=
  (List.range 240).find? fun m => d.admitted m && d.serialOf m == serial && (want == m || want == 0xFF)

/-- A join is accepted: the machine's entry cleared, its authority void (R325), its waybill lost (R386), and the response
queued for the next superframe. -/
def Dev.joinTake (d : Dev) (serial m fcnt : Nat) : Dev :=
  let d := { d with rad := { d.rad with
    hwM := tabDel d.rad.hwM m, hwSer := tabPut d.rad.hwSer serial fcnt, sleep := tabDel d.rad.sleep m,
    keyQ := d.rad.keyQ ++ [({ join := true, serial := serial, m := m, sf := d.sfn + 1 } : KeyFr)] } }
  let d := (d.voidAuth m).brkView m
  ({ d with wb := { d.wb with port := d.wb.port ++ [WbIn.lost m 1] } }.record 0x0706 (u64 serial ++ u8 m)).settle

/-- JOIN_RX (R260): a JOIN frame heard in a slot of 380-395. -/
def Dev.joinRx (d : Dev) (slot : Nat) (f : List Byte) : Dev :=
  if slot < 380 || 395 < slot || d.slotStart (slot + 1) < d.now || !d.reins || d.level = 0 then d
  else
    let d := d.passTo (d.slotStart (slot + 1))
    let serial := fld f 8 8
    let known := (List.range 240).any fun m => d.admitted m && d.serialOf m == serial
    if d.discards then d
    else
      match d.receive f 49 8 (known && fType f == 6 && fCell f == d.cellNo && fSrc f == 0xFE && fDst f == 0xF0 && !fSite f)
          (d.joinKey serial) (tabFind d.rad.hwSer serial) with
      | (none, d) => d
      | (some p, d) =>
        match d.admitFor serial (fld p 9 1) with
        | some m => d.joinTake serial m (fCnt f)
        | none => { d with rad := { d.rad with hwSer := tabPut d.rad.hwSer serial (fCnt f) } }

/-- JOIN_RX (R260). -/
def execJoinRx (slot : Nat) (f : List Byte) (s : State) : Res := onRun .rad (fun d => d.joinRx slot f) s

/-! ### Site beacons (R259, R264-R268) -/

/-- The slot of the device's own site beacon in this superframe, if it has one; a master listens in every superframe whose
SFN + ID is a multiple of 8 (R264, R268). -/
def Dev.siteSlotNo (d : Dev) : Option Nat :=
  if d.master then (if (d.sfn + d.id) % 8 = 0 then none else some 396)
  else if d.sfn % 342 = d.id / 3 then some (397 + d.id % 3) else none

/-- The site beacon payload for a slot. -/
def Dev.sitePayload (d : Dev) (n : Nat) : List Byte :=
  fit 31 (u16 (d.id + 1024 * b2n d.master + 2048 * b2n d.eligible + 4096 * d.get R.RAD_SITE_CFG_PRIO) ++ u16 (d.get R.RAD_SITE_STAT_MASTER_ID) ++
    u8 (d.get R.TIME_STATUS_SRC + 8 * d.level + 32 * b2n d.holdover + 64 * b2n d.stepNext + 128 * d.get R.RAD_STATUS_FREE) ++ u8 0 ++
    u32 (d.get R.TIME_UNC_UNC) ++ u64 (d.slotStart n + 52000) ++ s32 d.stepNs ++ List.replicate 8 0xFF)

/-- SITE_BEACON_TX (R264): with the reins; a master sends it even with the radio disabled (R271). -/
def Dev.siteTx (d : Dev) : Dev :=
  match d.siteSlotNo, d.siteSlot with
  | some n, some k =>
    if !d.reins || d.level = 0 || d.on R.RAD_STATUS_DUP_ID || d.rad.inhibit || !(d.radTx || d.master) || d.rad.siteSf = d.sfn + 1 ||
        d.slotStart (n + 1) ≤ d.now then d
    else
      let d := (d.passTo (d.slotStart n)).air n (d.get R.RAD_CELL_CFG_SITE_CH) (d.get R.RAD_CELL_CFG_SITE_CODE) 7 0xF0 0xFF k true (d.sitePayload n)
      { d with rad := { d.rad with siteSf := d.sfn + 1 } }
  | _, _ => d

/-- SITE_BEACON_TX (R264). -/
def execSiteBeaconTx (s : State) : Res := onRun .rad Dev.siteTx s

/-- The geometric delay of a master in the anchor table, ns (R264). -/
def Dev.geoDelay (d : Dev) (dev : Nat) : Int :=
  match d.anchIdx d.id, d.anchIdx dev with
  | some s, some m => rdiv (distNm (d.anchPos m) (d.anchPos s)) 299792458
  | _, _ => 0

/-- The beacon of the master followed, in slot 396: on time, it is a time source (R181, R264). -/
def Dev.masterBeacon (d : Dev) (dev : Nat) (ofs : Int) (p : List Byte) : Dev :=
  let off := ofs - d.geoDelay dev
  if 5000 < off.natAbs && d.get R.TIME_STATUS_SRC < 4 then d
  else
    let e : Int := (d.slotStart 396 + 52000 : Nat) + off - (fld p 10 8 : Nat)
    let d := { d with rad := { d.rad with seenSf := d.sfn + 1, miss := 0 }, tim := { d.tim with beaconOk := true, beaconUnc := fld p 6 4, beaconErr := e } }
    let d := d.set R.RAD_STATUS_MISSED 0
    let d := if d.get R.TIME_STATUS_SRC = 3 then d.timeError e else d
    d.timeSource.holdLift

/-- A site beacon with MASTER set (R266, R268). -/
def Dev.masterHeard (d : Dev) (dev cell prio slot : Nat) (ofs : Int) (p : List Byte) : Dev :=
  let d := { d with rad := { d.rad with heardMaster := true, lastMaster := (dev, cell) } }
  let go := fun (d : Dev) => if slot = 396 then d.masterBeacon dev ofs p else d
  if d.master then
    if outranks prio dev (d.get R.RAD_SITE_CFG_PRIO) d.id then go (d.setMaster dev cell 1) else d
  else if !d.on R.RAD_SITE_STAT_MASTER_VALID then go (d.setMaster dev cell 0)
  else if d.get R.RAD_SITE_STAT_MASTER_ID = dev then go d
  else if d.get R.RAD_SITE_STAT_MASTER_CELL = cell then go (d.setMaster dev cell 2)
  else if 1 ≤ d.rad.miss then go (d.setMaster dev cell 0)
  else d

/-- The device hears its own ID (R18, R269): it stops transmitting. -/
def Dev.dupId (d : Dev) : Dev :=
  if d.on R.RAD_STATUS_DUP_ID then d else ((d.set R.RAD_STATUS_DUP_ID 1).radRole).record 0x0703 (u16 d.id)

/-- A site beacon is addressed to devices: 0xFF, or 0xF0 (R239; the rule names neither for it, DEDUCED, log entry 87). -/
def siteDst (f : List Byte) : Bool := fDst f == 0xFF || fDst f == 0xF0

/-- SITE_BEACON_RX (R264): a frame heard in a site slot, its arrival offset in ns. -/
def Dev.siteRx (d : Dev) (slot : Nat) (ofs : Int) (f : List Byte) : Dev :=
  if slot < 396 || 399 < slot || d.slotStart (slot + 1) < d.now then d
  else
    let d := d.passTo (d.slotStart (slot + 1) - 1)
    match d.receiveSite f (fType f == 7 && siteDst f) with
    | (none, d) => d
    | (some p, d) =>
      let w := fld p 0 2
      let dev := w % 1024
      let prio := bits w 12 4
      if dev = d.id then d.dupId
      else
        let h := if bitOf w 11 then tabPut d.rad.heard dev (prio, d.clk.mono) else tabDel d.rad.heard dev
        let d := { d with rad := { d.rad with heard := h } }.heardPrune
        if bitOf w 10 then d.masterHeard dev (fCell f) prio slot ofs p else d

/-- SITE_BEACON_RX (R264). -/
def execSiteBeaconRx (slot : Nat) (ofs : Int) (f : List Byte) (s : State) : Res := onRun .rad (fun d => d.siteRx slot ofs f) s

/-- MASTER_BEACON_MISS (R265): slot 396 has passed without the master's beacon. -/
def Dev.masterMiss (d : Dev) : Dev :=
  let d := d.passTo (d.slotStart 397)
  if d.master || !d.on R.RAD_SITE_STAT_MASTER_VALID || d.rad.seenSf = d.sfn + 1 || d.rad.missSf = d.sfn + 1 then d
  else
    let n := d.rad.miss + 1
    let d := { d with rad := { d.rad with miss := n, missSf := d.sfn + 1 } }.sat R.RAD_STATUS_MISSED n
    if n != 3 then d
    else
      let own := d.get R.TIME_STATUS_SRC == 3
      let d := { d with tim := { d.tim with beaconOk := false } }
      let d := if own then ((((d.set R.RAD_STATUS_HOLD_EOA 1).set R.RAD_STATUS_FREE 1).record 0x0701 (u8 (Config.argCode 0x0701 0)))).brkViewAll else d
      d.timeSource

/-- MASTER_BEACON_MISS (R265). -/
def execMasterBeaconMiss (s : State) : Res := onRun .rad Dev.masterMiss s

/-- The start-up listening of R54 is over. -/
def Dev.listened (d : Dev) : Bool := match d.rad.listenTo with | some t => decide (t ≤ d.clk.mono) | none => false

/-- MASTER_CLAIM (R268). -/
def Dev.masterClaim (d : Dev) : Dev :=
  let d := d.heardPrune
  let lost := d.on R.RAD_SITE_STAT_MASTER_VALID && d.get R.RAD_SITE_CFG_ELECT_T ≤ d.rad.miss
  let never := !d.on R.RAD_SITE_STAT_MASTER_VALID && d.listened
  let top := d.rad.heard.all fun x => (lost && x.1 == d.get R.RAD_SITE_STAT_MASTER_ID) || outranks (d.get R.RAD_SITE_CFG_PRIO) d.id x.2.1 x.1
  if d.get R.RAD_STATUS_ROLE = 1 && d.eligible && (lost || never) && top then (d.setMaster d.id d.cellNo 0).holdLift else d

/-- MASTER_CLAIM (R268). -/
def execMasterClaim (s : State) : Res := onRun .rad Dev.masterClaim s

/-- MASTER_RESIGN (R268): a master that has been ineligible for 60 s. -/
def Dev.masterResign (d : Dev) : Dev :=
  match d.rad.inelAt with
  | some t =>
    if !d.master then d
    else
      let d := d.passToMono (t + 60 * second)
      (d.set R.RAD_STATUS_ROLE 1).unmaster.record 0x0702 (u16 d.id ++ u16 0xFFFF ++ u8 (Config.argCode 0x0702 1))
  | none => d

/-- MASTER_RESIGN (R268). -/
def execMasterResign (s : State) : Res := onRun .rad Dev.masterResign s

/-- SITE_HWM_CLEAR (R245): at the next start of a GPS week. -/
def execSiteHwmClear (s : State) : Res :=
  onRun .rad (fun d =>
    let d := d.passTo ((d.now + 604800 * second - 1) / (604800 * second) * (604800 * second))
    { d with rad := { d.rad with hwSite := [] } }) s

/-! ### Keys (R247) -/

/-- OLD_KEY_EXPIRY (R247). -/
def execOldKeyExpiry (s : State) : Res :=
  onRun .rad (fun d => match d.rad.oldTo with
    | some t => { d.passTo (t * superframe) with rad := { d.rad with oldTo := none } }
    | none => d) s

/-- The switch superframe. -/
def Dev.switchSfn (d : Dev) : Nat := d.get R.RAD_KEY_SWITCH_LO_SFN_LO + 2 ^ 32 * d.get R.RAD_KEY_SWITCH_HI_SFN_HI

/-- The key switch at its superframe start. -/
def Dev.keySwitch (d : Dev) : Dev :=
  if d.on R.RAD_KEY_CFG_SWITCH_ARMED && d.sfn % 2 ^ 48 == d.switchSfn then
    let c := d.get R.RAD_KEY_CFG_CUR_SLOT
    let d := ((d.set R.RAD_KEY_CFG_CUR_SLOT (d.get R.RAD_KEY_CFG_NEXT_SLOT)).set R.RAD_KEY_CFG_NEXT_SLOT c).set R.RAD_KEY_CFG_SWITCH_ARMED 0
    ({ d with rad := { d.rad with oldTo := some (d.sfn + 10) } }.record 0x0704 (u8 (Config.argCode 0x0704 0))).keyCheck
  else d

/-- A write of RAD_KEY_CFG: arming a switch sends every admitted machine a REKEY (R247). -/
def Dev.keyCfgWrite (d : Dev) (v : Nat) : Dev :=
  let was := d.on R.RAD_KEY_CFG_SWITCH_ARMED
  let d := d.writeAddr R.RAD_KEY_CFG_CUR_SLOT.addr v
  let d := if !was && d.on R.RAD_KEY_CFG_SWITCH_ARMED && d.reins then
      { d with rad := { d.rad with keyQ := d.rad.keyQ ++ ((List.range 240).filter fun m => d.admitted m).map fun (m : Nat) => ({ m := m, sf := d.sfn } : KeyFr) } }
    else d
  d.keyCheck

/-! ### Superframes, control, boot (R54, R271, R272) -/

/-- The superframe start's part of the radio: the key switch, eligibility, the list of devices, AUTO positions. -/
def Dev.radSuperframe (d : Dev) : Dev :=
  let d := d.keySwitch.heardPrune
  let t := if !d.master || d.eligible then none else some (d.rad.inelAt.getD d.clk.mono)
  ({ d with rad := { d.rad with inelAt := t } }.radRole.autoAllot).yardView

/-- Downlink frames that wait for a slot are dropped, and the descriptors that caused them complete ABORTED (R271). -/
def Dev.dropDownlink (d : Dev) : Dev :=
  let sends := d.rad.sends.map fun x => x.desc
  let shorts := (d.rsv.short.filter fun x => x.2.seq.isNone).map fun x => x.2.desc
  let d := { d with
    rad := { d.rad with keyQ := [], sends := [] }
    yrd := { d.yrd with fixes := [], allotQ := [] }
    wb := { d.wb with cancels := [], store := tabMapV d.wb.store fun _ w => { w with queued := false } }
    rsv := { d.rsv with short := d.rsv.short.filter fun x => x.2.seq.isSome }
    brk := { d.brk with m := tabMapV d.brk.m fun _ b => { b with call := none } } }
  (d.completeAll (sends ++ shorts) .aborted).brkViewAll

/-- A write of RAD_CTRL (R271). -/
def Dev.radCtrlWrite (d : Dev) (v : Nat) : Dev :=
  let was := d.on R.RAD_CTRL_EN
  let d := d.writeAddr R.RAD_CTRL_EN.addr v
  if was && !d.on R.RAD_CTRL_EN then
    { d.setSrc 4 true with rad := { d.rad with stopAir := 4 } }.dropDownlink
  else if !was && d.on R.RAD_CTRL_EN then { d with rad := { d.rad with stopAir := 0 } }
  else d

/-- RAD_DISABLE (R271): a write of RAD_CTRL that clears EN. -/
def execRadDisable (v : Word32) (s : State) : Res := onReg R.RAD_CTRL_EN (fun d => if bitOf v.toNat 0 then d else d.radCtrlWrite v.toNat) s

/-- The radio at boot (R54, R245): its listening ends ten superframes after RAD starts. -/
def Dev.radBoot (d : Dev) : Dev :=
  ({ d with rad := { listenTo := some (d.clk.mono + 10 * superframe) } }.radRole).keyCheck

/-- The device takes the reins (R246, R248, R266, R621). -/
def Dev.radTakeover (d : Dev) : Dev :=
  let was := d.on R.RAD_SITE_STAT_MASTER_VALID && d.get R.RAD_SITE_STAT_MASTER_ID = d.get R.PAIR_STATUS_PARTNER_ID && d.get R.RAD_SITE_STAT_MASTER_CELL = d.cellNo
  let d := { d with rad := { d.rad with discard := d.sfn + 1, ulAck := [], rep := [], resync := [], tcorr := [] } }
  let d := if was then d.setMaster d.id d.cellNo 2 else d.radRole
  let d := if d.on R.RAD_CTRL_EN then d else d.setSrc 4 true
  d.keyCheck

/-! ### Cell beacons of the partner (R18, R620) -/

/-- CELL_BEACON_RX (R620): an authenticated cell beacon of the device's own cell, where it did not itself send one in these slots; another device's with this
device's ID is a duplicate (R18). -/
def Dev.cellBeaconRx (d : Dev) (f : List Byte) : Dev :=
  if d.rad.bcnSf = d.sfn + 1 then d
  else
    let d := d.passTo (d.slotStart 4)
    match d.receive f 237 0 (fType f == 0 && fCell f == d.cellNo && fSrc f == 0xF0 && fDst f == 0xFF && !fSite f) (d.cellRxKey (fGen f)) none with
    | (none, d) => d
    | (some p, d) =>
      if fld p 20 2 % 1024 = d.id then d.dupId
      else if d.reins then d
      else { d with rad := { d.rad with cellBcn := d.sfn + 1 } }.selfOk 3

/-- CELL_BEACON_RX (R620). -/
def execCellBeaconRx (f : List Byte) (s : State) : Res := onRun .rad (fun d => d.cellBeaconRx f) s

end Sys2Proof.Machine
end

