-- ==== Sys2Proof/Machine/Sky.lean ====
section
/-!
DEFINITION. The sky front and signal acquisition (R77-R114): antenna bias, gain control, spectrum monitor and notches,
jamming indicator, start types, searches, and the faults of bands and FFT engines.
-/

namespace Sys2Proof.Machine

/-! ### Antenna bias (R80) -/

/-- A change of the bias state: reported, and BIAS_FAULT set (R80). -/
def Dev.biasState (d : Dev) (st : Nat) : Dev :=
  if d.get R.SKY_BIAS_STAT_STATE = st then d
  else (d.set R.SKY_BIAS_STAT_STATE st).raise R.SKY_STATUS_BIAS_FAULT

/-- The bias current is measured once per millisecond. Short, open, a retry and the end of an open write event 0x0303; switching the bias on or off by VSEL changes
STATE without an event, since R80 and R107 name one for the changes the device itself finds (DEDUCED, log entry 32). -/
def Dev.biasSample (d : Dev) (ma : Nat) : Dev :=
  if d.get R.SKY_BIAS_CFG_VSEL = 0 then
    { (d.set R.SKY_BIAS_STAT_CURRENT 0).biasState 0 with sky := { d.sky with biasLim := 0, biasLow := 0 } }
  else if d.get R.SKY_BIAS_STAT_STATE = 3 then d.set R.SKY_BIAS_STAT_CURRENT 0
  else
    let d := d.sat R.SKY_BIAS_STAT_CURRENT ma
    let d := { d with sky := { d.sky with
      biasLim := if (d.get R.SKY_BIAS_CFG_ILIM + 1) * 10 ≤ ma then d.sky.biasLim + 1 else 0,
      biasLow := if ma < d.get R.SKY_BIAS_CFG_OPEN_MA then d.sky.biasLow + 1 else 0 } }
    let st := d.get R.SKY_BIAS_STAT_STATE
    if st = 0 then d.biasState 1
    else if st = 2 && d.get R.SKY_BIAS_CFG_OPEN_MA ≤ ma then (d.biasState 1).record 0x0303 (u8 1 ++ u8 ma)
    else d

/-- BIAS_SAMPLE (R80). -/
def execBiasSample (ma : Nat) (s : State) : Res := onRun .sky (fun d => d.biasSample ma) s

/-- BIAS_SHORT (R80): at the limit for 10 ms, the bias is switched off. -/
def execBiasShort (s : State) : Res :=
  onRun .sky (fun d =>
    if 10 ≤ d.sky.biasLim then
      let d := (d.biasState 3).record 0x0303 (u8 3 ++ u8 (d.get R.SKY_BIAS_STAT_CURRENT))
      { d with sky := { d.sky with biasLim := 0, biasLow := 0, shortAt := d.clk.mono } }
    else d) s

/-- BIAS_RETRY (R80): one second after the switch-off the bias is driven again. -/
def execBiasRetry (s : State) : Res :=
  onRun .sky (fun d =>
    if d.get R.SKY_BIAS_STAT_STATE = 3 then
      let d := d.passToMono (d.sky.shortAt + second)
      (d.biasState 1).record 0x0303 (u8 1 ++ u8 (d.get R.SKY_BIAS_STAT_CURRENT))
    else d) s

/-- BIAS_OPEN (R80): below OPEN_MA for 1 s. -/
def execBiasOpen (s : State) : Res :=
  onRun .sky (fun d =>
    if 1000 ≤ d.sky.biasLow && d.get R.SKY_BIAS_STAT_STATE != 2 then
      (d.biasState 2).record 0x0303 (u8 2 ++ u8 (d.get R.SKY_BIAS_STAT_CURRENT))
    else d) s

/-! ### Gain control and RF lock (R81, R82) -/

/-- Ratios of `k` quarter dB, 10^(k/80), in parts of 10^6. -/
def quarterDb (k : Nat) : Nat := match k with | 0 => 1000000 | 1 => 1029201 | 2 => 1059254 | 3 => 1090184 | _ => 1122018

/-- The rms amplitude over TARGET in whole quarter dB, 4 standing for 1 dB and more (R81); negative where it lies under. The amplitude is in 1/256 LSB. -/
def agcError (rms target : Nat) : Int :=
  let t := 256 * target
  if t * 1000000 ≤ rms * 1000000 then ([1, 2, 3, 4].filter fun k => t * quarterDb k ≤ rms * 1000000).length
  else -(([1, 2, 3, 4].filter fun k => rms * quarterDb k ≤ t * 1000000).length : Int)

/-- The rms amplitude lies within ±1 dB of TARGET (R81). -/
def agcNear (rms target : Nat) : Bool := rms * 1000000 ≤ 256 * target * quarterDb 4 && 256 * target * 1000000 ≤ rms * quarterDb 4

/-- The gain after one AGC step, `e` being the rms amplitude over TARGET in 0.25 dB: down by at most 1 dB, up by at most
0.25 dB, within 0 to 63.75 dB (R81; that a step takes off the whole excess up to 1 dB is DEDUCED, log entry 33). -/
def agcNext (gain : Nat) (e : Int) : Nat :=
  if 0 < e then gain - min 4 e.toNat else if e < 0 then min 255 (gain + 1) else gain

/-- A band gets RF lock: synthesizer locked and AGC settled (R82); its own searches aborted for its loss are queued again
(R105), and waiting handover signals start from their sources (R132). -/
def Dev.rfLock (d : Dev) (b : Nat) : Dev :=
  if d.bit R.SKY_CTRL_BAND_EN b && d.bit R.SKY_STATUS_PLL_LOCK b && d.on R.SKY_AGC_STAT_SETTLED b && !d.bit R.SKY_STATUS_RF_LOCK b then
    let d := d.setBit R.SKY_STATUS_RF_LOCK b true
    let again := d.sky.requeue.filter fun x => x.band == b
    let d := { d with sky := { d.sky with requeue := d.sky.requeue.filter fun x => x.band != b } }
    let d := again.foldl (fun d x => d.enqueue { x with captured := false, bins := 0 }) d
    skyChans.foldl (fun d ch =>
      if d.get R.TRK_CH_STAT_STATE ch == stTrack then
        d.startHandovers (d.get R.TRK_CH_SEL_SAT ch) (d.get R.TRK_CH_SEL_SIG ch) (d.chan ch).elev
      else d) d
  else d

/-- Searches taken out of the queue; a host's completes with a status, and a channel that waited goes back to IDLE. -/
def Dev.dropSearches (d : Dev) (p : Search → Bool) (st : Status) : Dev :=
  let out := d.sky.queue.filter p
  let d := { d with sky := { d.sky with queue := d.sky.queue.filter fun x => !p x } }.acqCount
  out.foldl (fun d x =>
    let d := match x.desc with | some q => d.complete q st | none => d
    match x.chan with
    | some ch =>
      if d.get R.TRK_CH_STAT_STATE ch == stWait then (d.chState ch stIdle).raise R.TRK_CH_CMD_FAIL ch else d
    | none => d) d

/-- A band is without RF lock (R82, R104, R105, R132): its searches complete ABORTED, the device's own wait for the lock to return, and its channels lose their
signal. -/
def Dev.rfLost (d : Dev) (b : Nat) : Dev :=
  let own := d.sky.queue.filter fun x => x.band == b && x.kind == .auto
  let d := { d with sky := { d.sky with requeue := d.sky.requeue ++ own } }.setBit R.SKY_STATUS_RF_LOCK b false
  (d.dropSearches (fun x => x.band == b) .aborted).bandLost b

/-- A chain stops: its synthesizer is off, its AGC unsettled, its RF lock gone (R44, R82, R104). -/
def Dev.chainOff (d : Dev) (b : Nat) : Dev :=
  let d := ((d.rfLost b).setBit R.SKY_STATUS_PLL_LOCK b false).set R.SKY_AGC_STAT_SETTLED 0 b
  { d with sky := { d.sky with settle := tabDel d.sky.settle b, retryAt := tabDel d.sky.retryAt b } }

/-- One millisecond of a band's AGC, from the rms amplitude of its ADC in 1/256 LSB (R81, R82). -/
def Dev.agcBand (d : Dev) (b : Nat) (rms : Nat) : Dev :=
  if !d.bit R.SKY_CTRL_BAND_EN b then d
  else
    let t := d.get R.SKY_AGC_CFG_TARGET b
    let g := match d.get R.SKY_AGC_CFG_MODE b with
      | 0 => agcNext (d.get R.SKY_AGC_STAT_GAIN b) (agcError rms t)
      | 1 => d.get R.SKY_AGC_STAT_GAIN b
      | _ => d.get R.SKY_AGC_CFG_MAN_GAIN b
    let n := if agcNear rms t then tabGet d.sky.settle b + 1 else 0
    let d := ((d.set R.SKY_AGC_STAT_GAIN g b).put R.SKY_AGC_STAT_SETTLED (10 ≤ n) b)
    let clear := d.get R.SKY_JAM_STATE b == 0 && !((List.range 6).any fun k =>
      d.get R.SKY_NOTCH_CFG_MODE b k == 2 && (tabGet d.sky.notch (6 * b + k)).placed)
    let d := { d with sky := { d.sky with
      settle := tabPut d.sky.settle b n,
      learnSum := tabPut d.sky.learnSum b (if clear then tabGet d.sky.learnSum b + g else 0),
      learnN := tabPut d.sky.learnN b (if clear then tabGet d.sky.learnN b + 1 else 0) } }
    if 10 ≤ n then d.rfLock b else if d.bit R.SKY_STATUS_RF_LOCK b then d.rfLost b else d

/-- AGC_STEP (R81): one millisecond of every band. -/
def execAgcStep (ra rb rc : Nat) (s : State) : Res :=
  onRun .sky (fun d => ((d.agcBand 0 ra).agcBand 1 rb).agcBand 2 rc) s

/-- BASE_GAIN_LEARN (R89): the average gain over 60 s of clear operation without auto notches. -/
def execBaseGainLearn (b : Nat) (s : State) : Res :=
  onRun .sky (fun d =>
    let n := tabGet d.sky.learnN b
    if 60000 ≤ n then
      let avg := (2 * tabGet d.sky.learnSum b + n) / (2 * n)
      let d := (d.set R.SKY_AGC_STAT_BASE avg b).set R.SKY_AGC_STAT_BASE_VALID 1 b
      { d with sky := { d.sky with learnSum := tabPut d.sky.learnSum b 0, learnN := tabPut d.sky.learnN b 0 } }
    else d) s

/-! ### Starts (R96-R98) -/

/-- The searches of a cold start: every identifier of every direct class except P and W (R96). -/
def coldList : List (Nat × Nat × Nat) :=
  (List.range 32).map (fun k => (0, 0, k + 1)) ++ (List.range 10).map (fun k => (0, 0, 4 * 4096 + 193 + k)) ++
  (List.range 36).map (fun k => (3, 0, 2 * 4096 + 1 + k)) ++ (List.range 63).map (fun k => (1, 0, 3 * 4096 + 1 + k)) ++
  (List.range 14).map (fun k => (2, 0, 4096 + k)) ++ (List.range 14).map (fun k => (0, 2, 5 * 4096 + 1 + k))

/-- The class and band of a satellite's direct signal (R78, R92). -/
def directClass (sat : Nat) : Nat × Nat :=
  match satSys sat with | 1 => (2, 0) | 2 => (3, 0) | 3 => (1, 0) | 5 => (0, 2) | _ => (0, 0)

/-- The start type chosen: 0 hot, 1 warm, 2 cold (R96): what is known of ephemerides, almanac and position, with time known within 10 ms, or 2 s; START_TYPE can
only force a colder one. -/
def Dev.startType (d : Dev) (i : StartInfo) : Nat :=
  let unc := d.get R.TIME_UNC_UNC
  let hot := i.hotOk && unc ≤ 10 * ms
  let warm := i.warmOk && unc ≤ 2 * second
  match d.get R.ACQ_CTRL_START_TYPE with
  | 1 => 2
  | 2 => if hot || warm then 1 else 2
  | _ => if hot then 0 else if warm then 1 else 2

/-- Start searching the sky (R96). -/
def Dev.skyStart (d : Dev) (i : StartInfo) : Dev :=
  let t := d.startType i
  let d := { d with sky := { d.sky with started := true, repeatAt := d.clk.mono, known := i } }
  let d := d.record 0x0306 (u8 (Config.argCode 0x0306 t))
  if !d.on R.SKY_CTRL_AUTO_SKY || !d.on R.SKY_CTRL_ACQ_EN then d
  else if t = 2 then
    coldList.foldl (fun d x => if d.bit R.SKY_STATUS_RF_LOCK x.2.1 then d.enqueue { d.classSearch .auto x.1 x.2.1 x.2.2 with pass := 1 } else d) d
  else
    i.predicted.foldl (fun d x =>
      let (c, b) := directClass x.1
      let q := d.classSearch .auto c b x.1
      d.enqueue { q with doppC := x.2, nbins := if t = 0 then 7 else q.nbins }) d

/-- RF_LOCK_ACQUIRED (R96): all enabled bands have RF lock. -/
def execRfLockAcquired (info : StartInfo) (s : State) : Res :=
  onRun .sky (fun d =>
    if Nat.land (d.get R.SKY_CTRL_BAND_EN) (d.get R.SKY_STATUS_RF_LOCK) = d.get R.SKY_CTRL_BAND_EN && !d.sky.started then d.skyStart info else d) s

/-- A write of ACQ_CTRL; RESTART discards the device's own searches and candidates, and the start begins again (R96, R113). -/
def Dev.acqCtrlWrite (d : Dev) (v : Nat) (info : StartInfo) : Dev :=
  let d := d.writeAddr R.ACQ_CTRL_RESTART.addr v
  if bitOf v 4 then
    let d := d.dropSearches (fun x => x.kind == .auto) .aborted
    let d := { d with sky := { d.sky with cands := d.sky.cands.filter fun c => c.handover, requeue := [] } }
    (d.set R.ACQ_STATUS_SKY_DONE 0).skyStart info
  else d

/-- ACQ_RESTART (R96). -/
def execAcqRestart (v : Word32) (info : StartInfo) (s : State) : Res := onReg R.ACQ_CTRL_RESTART (fun d => d.acqCtrlWrite v.toNat info) s

/-- Satellites that carry L5, E5a or B2a and are not tracked on band C are searched there, while band A is JAMMED (R91), but for those a search is queued
for already. -/
def Dev.jamSearch (d : Dev) : Dev :=
  if d.get R.SKY_JAM_STATE 0 != 2 || !d.on R.SKY_CTRL_AUTO_SKY || !d.bit R.SKY_STATUS_RF_LOCK 2 then d
  else (coldList.filter fun x => x.1 != 2 && x.2.1 == 0).foldl (fun d x =>
    let onC := skyChans.any fun ch =>
      let st := d.get R.TRK_CH_STAT_STATE ch
      1 ≤ st && st ≤ 4 && d.get R.TRK_CH_SEL_SAT ch == x.2.2 && sigBand (d.get R.TRK_CH_SEL_SIG ch) == 2
    if Config.carriesL5 x.2.2 && !onC && !(d.sky.queue.any fun y => y.band == 2 && y.sat == x.2.2) then d.enqueue (d.classSearch .auto 5 2 x.2.2) else d) d

/-- AUTO_SKY_REPEAT (R98): ten seconds after the last, pass 2 for the identifiers no channel holds. -/
def execAutoSkyRepeat (s : State) : Res :=
  onRun .sky (fun d =>
    if d.on R.SKY_CTRL_AUTO_SKY && d.on R.SKY_CTRL_ACQ_EN && d.on R.ACQ_STATUS_SKY_DONE then
      let d := d.passToMono (d.sky.repeatAt + 10 * second)
      let d := { d with sky := { d.sky with repeatAt := d.clk.mono } }
      coldList.foldl (fun d x =>
        if d.onChannel x.2.2 (classSig x.1 x.2.2) || !d.bit R.SKY_STATUS_RF_LOCK x.2.1 then d
        else
          let q := d.classSearch .auto x.1 x.2.1 x.2.2
          d.enqueue { q with pass := 2, k := q.k * d.get R.ACQ_CLASS_CFG_P2_MULT x.1 }) d
    else d) s

/-! ### Spectrum, jamming, notches (R84-R91) -/

/-- JAM_IND = min(255, round(8 D + 4 P)), D in 0.25 dB and P from the peak in 0.5 dB (R88). -/
def jamInd (baseValid : Bool) (base gain peakDb : Nat) : Nat :=
  min 255 (2 * (if baseValid then base - gain else 0) + 2 * (peakDb - 20))

/-- The highest STATE of the three bands. -/
def Dev.jamMax (d : Dev) : Dev :=
  d.set R.SKY_STATUS_JAM_MAX (max (d.get R.SKY_JAM_STATE 0) (max (d.get R.SKY_JAM_STATE 1) (d.get R.SKY_JAM_STATE 2)))

/-- STATE changes: an event and the SKY interrupt (R90). -/
def Dev.jamState (d : Dev) (b st : Nat) : Dev :=
  let old := d.get R.SKY_JAM_STATE b
  let d := ((d.set R.SKY_JAM_STATE st b).jamMax.record 0x0301 (u8 b ++ u8 old ++ u8 st ++ u8 (d.get R.SKY_JAM_JAM_IND b))).devIrq 3
  { d with sky := { d.sky with jamLow := tabPut d.sky.jamLow b 0 } }

/-- A notch covers a frequency: within half its width (R84, R85). -/
def Dev.notchCovers (d : Dev) (b n freq : Nat) : Bool :=
  let dist := (dec2 24 freq - dec2 24 (d.get R.SKY_NOTCH_FREQ_FREQ b n)).natAbs
  dist * 2 * 81840000 ≤ 25000 * 2 ^ d.get R.SKY_NOTCH_CFG_BW b n * 2 ^ 24

/-- A notch change waits for the next tick (R86). -/
def Dev.notchPend (d : Dev) (b n : Nat) : Dev :=
  { d with sky := { d.sky with pending := d.sky.pending.filter (· != 6 * b + n) ++ [6 * b + n] } }

/-- A notch of the band acts now: FIXED, or AUTO and placed. -/
def Dev.notchActs (d : Dev) (b n : Nat) : Bool :=
  d.get R.SKY_NOTCH_CFG_MODE b n == 1 || (d.get R.SKY_NOTCH_CFG_MODE b n == 2 && (tabGet d.sky.notch (6 * b + n)).placed)

/-- Put an auto notch on a bin (R85). -/
def Dev.notchPlace (d : Dev) (b n : Nat) (h : HotBin) : Dev :=
  let d := { d with sky := { d.sky with notch := tabMod d.sky.notch (6 * b + n) fun x =>
    { x with placed := true, bin := h.bin, level := h.level, quiet := 0 } } }
  ((d.set R.SKY_NOTCH_FREQ_FREQ h.freq b n).notchPend b n).record 0x0302 (u8 b ++ u8 n ++ u24 h.freq)

/-- A bin that has exceeded NOTCH_THR in three spectra gets a free auto notch, or the weakest one when 6 dB stronger (R85). -/
def Dev.notchFor (d : Dev) (b : Nat) (h : HotBin) : Dev :=
  let autos := (List.range 6).filter fun n => d.get R.SKY_NOTCH_CFG_MODE b n == 2
  match autos.find? fun n => !(tabGet d.sky.notch (6 * b + n)).placed with
  | some n => d.notchPlace b n h
  | none =>
    let weakest := autos.foldl (fun w n => match w with
      | none => some n
      | some m => if (tabGet d.sky.notch (6 * b + n)).level < (tabGet d.sky.notch (6 * b + m)).level then some n else some m) none
    match weakest with
    | some n => if (tabGet d.sky.notch (6 * b + n)).level + 12 ≤ h.level then d.notchPlace b n h else d
    | none => d

/-- One hot bin of a spectrum: counted while no notch covers it, and a notch at the third (R85). -/
def Dev.hotBin (d : Dev) (b : Nat) (h : HotBin) : Dev :=
  if (List.range 6).any fun n => d.notchActs b n && d.notchCovers b n h.freq then d
  else
    let key := 1024 * b + h.bin
    let n := tabGet d.sky.persist key + 1
    let d := { d with sky := { d.sky with persist := tabPut d.sky.persist key n } }
    if 3 ≤ n then d.notchFor b h else d

/-- One band's spectrum (R83, R85, R88, R90), and while band A is JAMMED the searches of R91; the share blanked is 0 while blanking is off. -/
def Dev.spectrumBand (d : Dev) (b : Nat) (x : BandSpec) : Dev :=
  if !d.bit R.SKY_CTRL_BAND_EN b then d
  else
    let d := ((d.set R.SKY_JAM_PEAK_BIN x.peakBin b).sat R.SKY_JAM_PEAK_DB x.peakDb b).sat R.SKY_AGC_STAT_BLANK_RATE (if d.get R.SKY_AGC_CFG_BLANK_THR b = 0 then 0 else x.blank) b
    let ind := jamInd (d.on R.SKY_AGC_STAT_BASE_VALID b) (d.get R.SKY_AGC_STAT_BASE b) (d.get R.SKY_AGC_STAT_GAIN b) (d.get R.SKY_JAM_PEAK_DB b)
    let d := d.set R.SKY_JAM_JAM_IND ind b
    let st := d.get R.SKY_JAM_STATE b
    let up := if d.get R.SKY_JAM_CFG_JAM_THR ≤ ind then 2 else if d.get R.SKY_JAM_CFG_WARN_THR ≤ ind then 1 else 0
    let step := if st = 2 then d.get R.SKY_JAM_CFG_JAM_THR else d.get R.SKY_JAM_CFG_WARN_THR
    let low := if st != 0 && ind + d.get R.SKY_JAM_CFG_HYST < step then tabGet d.sky.jamLow b + 1 else 0
    let d := { d with sky := { d.sky with jamLow := tabPut d.sky.jamLow b low } }
    let d := if st < up then d.jamState b up else d
    let thr := 2 * d.get R.SKY_JAM_CFG_NOTCH_THR
    let hot := x.hot.filter fun h => thr ≤ h.level
    let d := { d with sky := { d.sky with
      persist := d.sky.persist.filter fun p => p.1 / 1024 != b || hot.any fun h => h.bin == p.1 % 1024,
      notch := tabMapV d.sky.notch fun k y =>
        if k / 6 = b && y.placed then
          let l := x.notched.getD (k % 6) 0
          { y with level := l, quiet := if l + 6 < thr then y.quiet + 1 else 0 }
        else y } }
    let d := hot.foldl (fun d h => d.hotBin b h) d
    if b = 0 then d.jamSearch else d

/-- SPECTRUM_UPDATE (R88). -/
def execSpectrumUpdate (a b c : BandSpec) (s : State) : Res :=
  onRun .sky (fun d => ((d.spectrumBand 0 a).spectrumBand 1 b).spectrumBand 2 c) s

/-- JAM_STATE_FALL (R90): one step down after 100 computations below the step's threshold less HYST. -/
def execJamStateFall (b : Nat) (s : State) : Res :=
  onRun .sky (fun d =>
    if 100 ≤ tabGet d.sky.jamLow b && d.get R.SKY_JAM_STATE b != 0 then d.jamState b (d.get R.SKY_JAM_STATE b - 1) else d) s

/-- AUTO_NOTCH_RELEASE (R85): after 100 spectra below NOTCH_THR - 3 dB. -/
def execAutoNotchRelease (b n : Nat) (s : State) : Res :=
  onRun .sky (fun d =>
    let y := tabGet d.sky.notch (6 * b + n)
    if y.placed && 100 ≤ y.quiet && n < 6 then
      let d := { d with sky := { d.sky with notch := tabPut d.sky.notch (6 * b + n) { y with placed := false, quiet := 0 } } }
      (d.notchPend b n).record 0x0302 (u8 b ++ u8 n ++ u24 (d.get R.SKY_NOTCH_FREQ_FREQ b n))
    else d) s

/-- A notch centre lies in the main lobe of a channel's signal: its carrier ± one chip rate (R86). -/
def Dev.inLobe (d : Dev) (b ch freq : Nat) : Bool :=
  let g := d.get R.TRK_CH_SEL_SIG ch
  let sat := d.get R.TRK_CH_SEL_SAT ch
  let off : Int := (carrierHz g sat : Int) - loHz b
  sigBand g == b && ((dec2 24 freq * 81840000 - off * 2 ^ 24).natAbs ≤ chipHz g * 2 ^ 24)

/-- One notch change at a tick, with the channels it flags discontinuous (R86): those in whose main lobe a centre is placed or from whose lobe one is taken; a
change of width alone moves no centre. -/
def Dev.notchTick (d : Dev) (k : Nat) : Dev :=
  let b := k / 6
  let n := k % 6
  let y := tabGet d.sky.notch k
  let isOn := d.notchActs b n
  let f := d.get R.SKY_NOTCH_FREQ_FREQ b n
  let d := (d.put R.SKY_NOTCH_CFG_ACTIVE isOn b n)
  let d := { d with sky := { d.sky with notch := tabPut d.sky.notch k { y with isOn := isOn, freqNow := f } } }
  skyChans.foldl (fun d ch =>
    let st := d.get R.TRK_CH_STAT_STATE ch
    let same := y.isOn && isOn && f == y.freqNow
    if 1 ≤ st && st ≤ 4 && !same && ((isOn && d.inLobe b ch f) || (y.isOn && d.inLobe b ch y.freqNow)) then
      d.modChan ch fun c => { c with discont := true }
    else d) d

/-- NOTCH_APPLY (R86): every waiting notch change takes effect at the next 1 ms tick. -/
def execNotchApply (s : State) : Res :=
  onRun .sky (fun d =>
    if d.sky.pending.isEmpty then d
    else
      let d := d.passTo ((d.clk.yard + ms - 1) / ms * ms)
      let l := d.sky.pending
      l.foldl (fun d k => d.notchTick k) { d with sky := { d.sky with pending := [] } }) s

/-! ### Searches (R92-R103) -/

/-- A SKY_SEARCH descriptor is well formed (R103); a RESULT_ADDR that is not 16-byte aligned, which R101 requires and R103 gives no status, counts as malformed
(DEDUCED, log entry 83). -/
def searchOk (a : List Byte) (tcoh k : Nat) : Bool :=
  let c := fld a 1 1
  c ≤ 5 && classBand c (fld a 2 1) && tcohAllowed c tcoh && captureFits c tcoh k && fld a 7 1 < 4 &&
    resvOk a [(0, 15), (16, 8)] && fld a 16 8 % 16 == 0

/-- SKY_SEARCH: the descriptor's search joins the queue (R101), while that has room (R418). Acquisition disabled, or a band without RF lock, at the fetch gives
REFUSED_STATE, since then ABORTED (R103); a band that is not enabled, which the table does not name, has no RF lock and gives REFUSED_STATE too (DEDUCED, log entry
83). -/
def Dev.skySearch (d : Dev) : Dev :=
  if 256 ≤ d.sky.queue.length then d
  else match d.take 0x03 1 with
  | none => d
  | some (q, d) =>
    let a := q.area
    let c := fld a 1 1
    let b := fld a 2 1
    let tcoh := if fld a 3 1 = 0 then d.get R.ACQ_CLASS_CFG_TCOH c else fld a 3 1
    let k := if fld a 6 1 = 0 then d.get R.ACQ_CLASS_CFG_K c else fld a 6 1
    let sat := fld a 4 2
    let f := carrierHz (classSig c sat) sat
    if !searchOk a tcoh k then d.complete q .badDescriptor
    else if !q.gate then d.complete q .refusedState
    else if !d.on R.SKY_CTRL_ACQ_EN || !d.bit R.SKY_STATUS_RF_LOCK b then d.complete q .aborted
    else
      d.enqueue
        { kind := if bitOf (fld a 7 1) 1 then .hostPrio else .host, cls := c, band := b, sat := sat, sig := classSig c sat,
          tcoh := tcoh, k := k, thr := if fld a 14 1 = 0 then d.get R.ACQ_CLASS_CFG_THR c else fld a 14 1,
          track := bitOf (fld a 7 1) 0, doppC := sfld a 8 4,
          nbins := if fld a 12 2 = 0 then nbinsOf (d.get R.ACQ_DOPP_CFG_SPAN) (d.get R.ACQ_DOPP_CFG_REF_UNC) f tcoh
            else nbinsOf (fld a 12 2) 0 f tcoh,
          desc := some q }

/-- SKY_SEARCH (R101). -/
def execSkySearch (s : State) : Res := onDev Dev.skySearch s

/-- ACQ_CAPTURE_DONE (R94): the capture serves every queued search of its class and band. -/
def execAcqCaptureDone (cls band : Nat) (s : State) : Res :=
  onRun .acq (fun d => { d with sky := { d.sky with queue := d.sky.queue.map fun x =>
    if x.cls = cls && x.band = band then { x with captured := true } else x } }) s

/-- The next job in priority order, in arrival order within a priority (R95). A job whose bins the other engine also takes is not passed over: the spec does not say
that a job belongs to one engine (DESIGN CHOICE, log entry 83). -/
def nextJob (l : List Search) : Option Search :=
  l.foldl (fun b x =>
    if x.captured && x.bins < x.nbins then
      match b with
      | none => some x
      | some y => if x.kind.prio < y.kind.prio then some x else some y
    else b) none

/-- An engine finishes a Doppler bin and takes the next job (R95). -/
def Dev.binDone (d : Dev) (e : Nat) : Dev :=
  if !d.bit R.ACQ_STATUS_ENGINE_OK e then d
  else
    let queue := match tabFind d.sky.engine e with
      | some no => d.sky.queue.map fun x => if x.no = no then { x with bins := min x.nbins (x.bins + 1) } else x
      | none => d.sky.queue
    let eng := match nextJob queue with
      | some x => tabPut d.sky.engine e x.no
      | none => tabDel d.sky.engine e
    { d with sky := { d.sky with queue := queue, engine := eng } }

/-- ACQ_BIN_DONE (R95). -/
def execAcqBinDone (engine : Nat) (s : State) : Res := onRun .acq (fun d => if engine < 2 then d.binDone engine else d) s

/-- The result of a host's search (R102). -/
def searchResult (found : Bool) (h : Hit) (ch bins : Nat) : List Byte :=
  if found then u8 1 ++ u8 h.pnr ++ u16 h.cn0 ++ u32 h.codePh ++ s32 h.dopp ++ u16 ch ++ u16 bins
  else u8 0 ++ u8 h.pnr ++ u16 h.cn0 ++ u32 h.codePh ++ s32 h.dopp ++ u16 0xFFFF ++ u16 bins

/-- The channel a found candidate takes, while the sky channels are enabled (R150): the one the search was for while it still waits for it, or one that R120
allots. -/
def Dev.candChannel (d : Dev) (x : Search) (h : Hit) : Option Nat :=
  match x.chan with
  | some ch =>
    let st := d.get R.TRK_CH_STAT_STATE ch
    if d.on R.TRK_CTRL_EN && (st == stWait || ((st == stLost || st == stIdle) && (d.chan ch).holdTo.isSome)) then some ch else none
  | none => d.allotFor { sat := x.sat, sig := x.sig, t := d.clk.mono, elev := h.elev }

/-- A candidate goes to its channel, or is held (R99); one below ELEV_MASK is not held. -/
def Dev.handCandidate (d : Dev) (x : Search) (h : Hit) : Dev :=
  let c : Cand := { sat := x.sat, sig := x.sig, t := d.clk.mono, elev := h.elev, codePh := h.codePh, dopp := h.dopp }
  match d.candChannel x h with
  | some ch => if x.chan.isSome then d.startPullin ch x.sat x.sig (d.chan ch).handover h.elev h.codePh (16 * h.dopp) else d.startOn ch c
  | none => if x.chan.isSome || !d.mayAllot h.elev then d else d.waitChan c

/-- A search ends (R98, R99, R102, R103). -/
def Dev.searchDone (d : Dev) (i : Nat) (hit : Option Hit) : Dev :=
  match d.sky.queue[i]? with
  | none => d
  | some x =>
    let d := { d with sky := { d.sky with queue := d.sky.queue.eraseIdx i } }.acqCount
    let h : Hit := hit.getD ⟨0, 0, 0, 0, 0⟩
    let found := hit.isSome && x.thr ≤ h.pnr
    let hand := found && x.track
    let ch := if hand then d.candChannel x h else none
    let d := if hand then d.handCandidate x h else d
    let d := match x.chan with
      | some c => if !found && d.get R.TRK_CH_STAT_STATE c == stWait then (d.chState c stIdle).raise R.TRK_CH_CMD_FAIL c else d
      | none => d
    let d := if !found && x.pass = 1 && d.on R.ACQ_CTRL_PASS2_EN then
        d.enqueue { x with pass := 2, k := x.k * d.get R.ACQ_CLASS_CFG_P2_MULT x.cls, bins := 0 }
      else d
    match x.desc with
    | none => d
    | some q =>
      let d := d.toHost (fld q.area 16 8) (searchResult found h (ch.getD 0xFFFF) x.nbins)
      d.complete q (if hand && ch.isNone then .donePartial else .done)

/-- SEARCH_DONE (R103): search `i` of the queue ends with what it found. -/
def execSearchDone (i : Nat) (hit : Option Hit) (s : State) : Res := onRun .acq (fun d => d.searchDone i hit) s

/-- CANDIDATE_DROP (R99): the oldest candidate has been held 1 s. -/
def execCandidateDrop (s : State) : Res :=
  onRun .corr (fun d => match d.sky.cands.find? fun c => !c.handover with
    | some c =>
      let d := d.passToMono (c.t + second)
      { d with sky := { d.sky with cands := d.sky.cands.erase c } }.inc R.ACQ_STATUS_DROPPED
    | none => d) s

/-! ### Disabling and faults (R104-R106) -/

/-- ACQ_EN is cleared: every queued and running search completes ABORTED, and none waits to be queued again (R104). -/
def Dev.acqDisable (d : Dev) : Dev :=
  let d := d.dropSearches (fun _ => true) .aborted
  { d with sky := { d.sky with engine := [], requeue := [] } }

/-- Bands whose enable a write clears: their searches complete ABORTED, the chain powers down, their channels lose their
signal (R104, R132). -/
def Dev.bandOff (d : Dev) (b : Nat) : Dev := d.chainOff b

/-- The SKY domain stops (R44): every chain is off, and the start is to be made anew. -/
def Dev.skyStop (d : Dev) : Dev :=
  let d := ((d.chainOff 0).chainOff 1).chainOff 2
  { d with sky := { d.sky with started := false, requeue := [] } }

/-- A write of SKY_CTRL: plain fields, then the effects of bits cleared; a band newly enabled starts its synthesizer. -/
def Dev.skyCtrlWrite (d : Dev) (v : Nat) : Dev :=
  let old := d.get R.SKY_CTRL_BAND_EN
  let wasAcq := d.on R.SKY_CTRL_ACQ_EN
  let d := d.writeAddr R.SKY_CTRL_BAND_EN.addr v
  let d := (List.range 3).foldl (fun d b =>
    if bitOf old b && !d.bit R.SKY_CTRL_BAND_EN b then d.bandOff b
    else if !bitOf old b && d.bit R.SKY_CTRL_BAND_EN b then d.setBit R.SKY_STATUS_PLL_LOCK b true
    else d) d
  if wasAcq && !d.on R.SKY_CTRL_ACQ_EN then d.acqDisable else d

/-- ACQ_DISABLE (R104): a write of SKY_CTRL that clears ACQ_EN. -/
def execAcqDisable (v : Word32) (s : State) : Res := onReg R.SKY_CTRL_ACQ_EN (fun d => if bitOf v.toNat 4 then d else d.skyCtrlWrite v.toNat) s

/-- BAND_DISABLE (R104): a write of SKY_CTRL that clears a bit of BAND_EN. -/
def execBandDisable (v : Word32) (s : State) : Res :=
  onReg R.SKY_CTRL_BAND_EN (fun d => if Nat.land (d.get R.SKY_CTRL_BAND_EN) v.toNat = d.get R.SKY_CTRL_BAND_EN then d else d.skyCtrlWrite v.toNat) s

/-- BAND_FAULT (R105). The synthesizer is retried whatever the cause, so PLL_LOCK reads 0 until a retry locks, for a stuck ADC too (DEDUCED, log entry 83). -/
def Dev.bandFault (d : Dev) (b cause : Nat) : Dev :=
  let d := ((d.rfLost b).setBit R.SKY_STATUS_PLL_LOCK b false).raise R.SKY_STATUS_BAND_FAULT 0 (2 ^ b)
  let d := d.record 0x0304 (u8 b ++ u8 (Config.argCode 0x0304 cause))
  { d with sky := { d.sky with retryAt := tabPut d.sky.retryAt b d.clk.mono } }

/-- BAND_FAULT (R105): the synthesizer lost lock or the ADC is stuck. -/
def execBandFault (b cause : Nat) (s : State) : Res := onRun .sky (fun d => if b < 3 then d.bandFault b cause else d) s

/-- BAND_RETRY (R105): 100 ms after the last attempt; `locked` tells whether the synthesizer locks. -/
def execBandRetry (b : Nat) (locked : Bool) (s : State) : Res :=
  onRun .sky (fun d => match tabFind d.sky.retryAt b with
    | none => d
    | some t =>
      let d := d.passToMono (t + 100 * ms)
      if locked then
        let d := { d with sky := { d.sky with retryAt := tabDel d.sky.retryAt b } }
        ((d.setBit R.SKY_STATUS_PLL_LOCK b true).record 0x0304 (u8 b ++ u8 (Config.argCode 0x0304 0))).rfLock b
      else { d with sky := { d.sky with retryAt := tabPut d.sky.retryAt b d.clk.mono } }) s

/-- FFT_ENGINE_FAULT (R106): the queue runs on the other engine. -/
def execFftEngineFault (e : Nat) (s : State) : Res :=
  onRun .acq (fun d =>
    if e < 2 then
      let d := (d.setBit R.ACQ_STATUS_ENGINE_OK e false).record 0x0305 (u8 e)
      { d with sky := { d.sky with engine := tabDel d.sky.engine e } }
    else d) s

end Sys2Proof.Machine
end

