-- ==== Sys2Proof/Machine/Purge.lean ====
section
/-!
DEFINITION. Descriptors that wait in a block, or are being carried out there, when their ring is flushed or disabled or
the link is lost (R103, R319, R430, R435, R436).
-/

namespace Sys2Proof.Machine

/-- A descriptor is there and satisfies a test. -/
def descIs (p : Desc → Bool) : Option Desc → Bool
  | some y => p y
  | none => false

/-- A descriptor is being carried out: a move, a homing, a calibration, a key update, an erase, an install, an activation
in its pause, a switchover under way, or a completion that waits for a drawbar copy. It ends with its own status (R430). -/
def Dev.carriedOut (d : Dev) (q : Desc) : Bool :=
  d.axs.ax.any (fun p => descIs (fun y => y.no == q.no) p.2.desc || descIs (fun y => y.no == q.no) p.2.nextDesc) ||
  d.axs.grp.any (fun p => descIs (fun y => y.no == q.no) p.2.desc) ||
  descIs (fun y => y.no == q.no) (d.mtr.cal.map fun c => c.desc) ||
  descIs (fun y => y.no == q.no) (d.key.up.map fun u => u.desc) ||
  descIs (fun y => y.no == q.no) d.img.erasing ||
  descIs (fun y => y.no == q.no) (d.img.install.map fun i => i.desc) ||
  descIs (fun y => y.no == q.no) ((d.img.act.filter fun a => a.started.isSome).bind fun a => a.desc) ||
  descIs (fun y => y.no == q.no) ((d.pair.sw.filter fun x => x.2.isSome).bind fun x => x.1) ||
  d.wb.heldRecs.any (fun r => r.2.1.no == q.no) ||
  d.ring.deferred.any (fun x => x.1.no == q.no)

/-- Take the descriptors that satisfy `p` out of the queues of their blocks: route requests, a map commit and SHORTENs that
wait, searches, flushes and saves asked for, IMG_SENDs, a group move, an activation and a switchover that have not begun. -/
def Dev.purge (d : Dev) (p : Desc → Bool) : Dev :=
  let rs := (d.rsv.queue ++ d.rsv.parked).filter fun r => descIs p r.desc
  let c : Bool := descIs p (d.rsv.commit.map fun x => x.1)
  let d := { d with
    rsv := { d.rsv with
      queue := d.rsv.queue.filter (fun r => !descIs p r.desc)
      parked := d.rsv.parked.filter (fun r => !descIs p r.desc)
      commit := if c then none else d.rsv.commit
      short := d.rsv.short.filter (fun x => !p x.2.desc) }
    evt := { d.evt with flushDescs := d.evt.flushDescs.filter (fun q => !p q) }
    mtr := { d.mtr with saveDescs := d.mtr.saveDescs.filter (fun q => !p q) }
    rad := { d.rad with sends := d.rad.sends.filter (fun x => !p x.desc) }
    axs := { d.axs with grp := tabMapV d.axs.grp fun _ g => { g with wait := g.wait.filter fun w => !p w.1 } }
    img := { d.img with act := d.img.act.filter fun a => a.started.isSome || !descIs p a.desc }
    pair := { d.pair with sw := d.pair.sw.filter fun x => x.2.isSome || !descIs p x.1 } }
  let d := if c then d.set R.RSV_STATUS_COMMIT_BUSY 0 else d
  let d := (rs.foldl (fun (d : Dev) (r : Req) => d.reqEnd r .aborted 0 {}) d).rsvCounts
  d.dropSearches (fun x => descIs p x.desc) .aborted

end Sys2Proof.Machine
end

