-- ==== Sys2Proof/Machine/Ring.lean ====
section
/-!
DEFINITION. The host rings (R405-R445): doorbells, fetching and handing on descriptors, enabling, disabling and FLUSH,
staging errors, and the loss and return of the link.
-/

namespace Sys2Proof.Machine

/-! ### Doorbells (R416) -/

/-- Why a doorbell is ignored: the number of the first case of R416 that holds, 0 when it is taken. -/
def Dev.dbCause (d : Dev) (r v : Nat) : Nat :=
  let submit := d.get R.RING_CFG_KIND r == 0
  let old := if submit then d.get R.RING_PROD_P r else d.get R.RING_CONS_C r
  if 32 ≤ r || !d.on R.RING_CTRL_EN r then 1
  else if 2 ^ 31 ≤ (v + 2 ^ 32 - old) % 2 ^ 32 then 2
  else if submit && d.ringSize r < (v + 2 ^ 32 - d.get R.RING_CONS_C r) % 2 ^ 32 then 3
  else if !submit && d.ringFill r < (v + 2 ^ 32 - old) % 2 ^ 32 then 4
  else 0

/-- After a doorbell of a COMPLETE or ITEM ring, the vector may be raised again, at once where a condition holds for
entries not taken (R433). -/
def Dev.rearmIrq (d : Dev) (r : Nat) : Dev :=
  let q := tabGet d.ring.irq r
  let n := min q.count (d.ringFill r)
  let q' : IrqSt := if n = 0 then {} else { q with count := n, waitDb := false }
  { d with ring := { d.ring with irq := tabPut d.ring.irq r q' } }.ringIrq r

/-- Some entry of an item lies at or after the consumer count. -/
def itemUntaken (c : Nat) (x : ItemRef) : Bool :=
  0 < (x.at0 + x.n + 2 ^ 32 - c) % 2 ^ 32 && (x.at0 + x.n + 2 ^ 32 - c) % 2 ^ 32 < 2 ^ 31

/-- Items the host has taken whole are forgotten. -/
def Dev.pruneItems (d : Dev) (r : Nat) : Dev :=
  let l := (tabGet d.ring.items r).filter (itemUntaken (d.get R.RING_CONS_C r))
  { d with ring := { d.ring with items := tabPut d.ring.items r l } }

/-- Completion entries of a COMPLETE ring that can still be reserved (R417). -/
def Dev.complRoom (d : Dev) (c : Nat) : Nat :=
  d.ringSize c - (d.ringFill c + (d.ring.live.filter fun x => x.compl == c).length)

/-- FULL of the SUBMIT rings that name a COMPLETE ring: no entry of it is left to reserve (R417, R444). -/
def Dev.submitFull (d : Dev) (c : Nat) : Dev :=
  (List.range 32).foldl (fun (d : Dev) (r : Nat) =>
    if d.on R.RING_CTRL_EN r && d.get R.RING_CFG_KIND r == 0 && d.get R.RING_CFG_COMPL r == c then d.put R.RING_STATUS_FULL (d.complRoom c == 0) r
    else d) d

/-- A doorbell write takes effect, or is ignored with DB_BAD and event 0x0B01 (R416). -/
def Dev.doorbell (d : Dev) (r v : Nat) : Dev :=
  let c := d.dbCause r v
  if c != 0 then ((if r < 32 then d.raise R.RING_ERR_DB_BAD r else d).record 0x0B01 (u8 r ++ u32 v ++ u8 c))
  else if d.get R.RING_CFG_KIND r == 0 then d.set R.RING_PROD_P v r
  else ((((d.set R.RING_CONS_C v r).put R.RING_STATUS_FULL false r).submitFull r).pruneItems r).rearmIrq r

/-- A doorbell write, kept while the rings are held (R439). -/
def Dev.doorbellWrite (d : Dev) (r v : Nat) : Dev :=
  if d.ringsHeld then { d with ring := { d.ring with heldDb := d.ring.heldDb ++ [(r, v)] } } else d.doorbell r v

/-- RING_DOORBELL (R416). -/
def execRingDoorbell (r : Nat) (v : Word32) (s : State) : Res := onRun .pcie (fun d => d.doorbellWrite r v.toNat) s

/-! ### Fetching (R417) -/

/-- The function a descriptor names is enabled (R435). -/
def Dev.gateOf (d : Dev) (q : Desc) : Bool :=
  match q.block, q.op with
  | 0x03, _ => d.on R.SKY_CTRL_ACQ_EN && d.bit R.SKY_STATUS_RF_LOCK (fld q.area 2 1)
  | 0x06, _ => d.on R.YRD_CTRL_EN
  | 0x08, 1 => d.on R.RSV_CTRL_EN
  | 0x0A, _ => d.on R.WB_CTRL_EN
  | 0x0C, 3 | 0x0C, 4 => d.on R.MTR_CTRL_EN
  | 0x0D, _ => d.on R.CTL_CTRL_EN
  | 0x0E, _ => d.on R.AXS_CTRL_EN
  | _, _ => true

/-- The ring fetches: an enabled SUBMIT ring that is not halted, the link up, the rings not held. -/
def Dev.fetching (d : Dev) (r : Nat) : Bool :=
  r < 32 && d.on R.RING_CTRL_EN r && d.get R.RING_CFG_KIND r == 0 && d.get R.RING_STATUS_STATE r == 1 && d.linkUp && !d.ringsHeld

/-- How many descriptors a burst of the ring can read now (R417). -/
def Dev.burst (d : Dev) (r : Nat) : Nat :=
  if d.fetching r then min (min (8 - (tabGet d.ring.staged r).length) (d.ringFill r)) (d.complRoom (d.get R.RING_CFG_COMPL r)) else 0

/-- The ring whose turn it is (R419): of those that have a burst to read, a ring with PRIO before one without; among rings of one
priority the next after the last one served. -/
def Dev.fetchTurn (d : Dev) : Option Nat :=
  let ready := (List.range 32).filter fun r => d.burst r != 0
  let at_ := fun (p : Nat) => (sortNat (fun r => (r + 31 - (tabFind d.ring.served p).getD 31) % 32) (ready.filter fun r => d.get R.RING_CFG_PRIO r == p)).head?
  match at_ 1 with
  | some r => some r
  | none => at_ 0

/-- One descriptor enters staging, its completion entry reserved. -/
def Dev.stage (d : Dev) (r : Nat) (b : List Byte) : Dev :=
  let c := d.get R.RING_CONS_C r
  let q : Desc := { ring := r, idx := c % d.ringSize r, no := d.ring.nextNo, compl := d.get R.RING_CFG_COMPL r, bytes := fit 64 b }
  let q := { q with gate := d.gateOf q }
  let l := tabGet d.ring.staged r ++ [q]
  let d := { d with ring := { d.ring with staged := tabPut d.ring.staged r l, live := d.ring.live ++ [q], nextNo := d.ring.nextNo + 1 } }
  ((d.set R.RING_CONS_C (c + 1) r).set R.RING_STATUS_STAGED l.length r).sat R.RING_STATUS_RESERVED
    ((d.ring.live.filter fun x => x.compl == q.compl).length) q.compl

/-- Up to 8 descriptors are fetched in one burst, as far as the COMPLETE ring has entries to reserve (R417), when it is the ring's
turn (R419). -/
def Dev.fetch (d : Dev) (r : Nat) (descs : List (List Byte)) : Dev :=
  if d.fetchTurn != some r then d
  else
    let d := (descs.take (d.burst r)).foldl (fun d b => d.stage r b) d
    let d := { d with ring := { d.ring with served := tabPut d.ring.served (d.get R.RING_CFG_PRIO r) r } }
    d.submitFull (d.get R.RING_CFG_COMPL r)

/-- DESCRIPTOR_FETCH (R417). -/
def execDescriptorFetch (r : Nat) (descs : List (List Byte)) (s : State) : Res := onRun .sup (fun d => d.fetch r descs) s

/-! ### Handing on (R413, R418) -/

/-- The OPs each block defines. -/
def opDefined (block op : Nat) : Bool :=
  match block with
  | 0x03 => op == 1
  | 0x06 => op == 1
  | 0x08 => 1 ≤ op && op ≤ 7
  | 0x09 => 1 ≤ op && op ≤ 3
  | 0x0A => 1 ≤ op && op ≤ 5
  | 0x0C => 1 ≤ op && op ≤ 6
  | 0x0D => 1 ≤ op && op ≤ 3
  | 0x0E => 1 ≤ op && op ≤ 7
  | 0x0F => 1 ≤ op && op ≤ 5
  | 0x10 => 1 ≤ op && op ≤ 8
  | 0x11 => op == 1
  | 0x12 => 1 ≤ op && op ≤ 3
  | _ => false

/-- The header of a descriptor is well formed (R413). -/
def headerOk (q : Desc) : Bool :=
  blockListed q.block && q.flags < 4 && fld q.bytes 2 1 == 1 && zeroAt q.bytes 3 5 && opDefined q.block q.op

/-- The block a descriptor names cannot take it now (R418, R373). -/
def Dev.blockFull (d : Dev) (q : Desc) : Bool :=
  match q.block, q.op with
  | 0x03, 1 => 256 ≤ d.get R.ACQ_STATUS_QUEUE + (d.ring.handed.filter fun x => x.block == 3).length
  | 0x08, _ => 64 ≤ d.get R.RSV_STATUS_QUEUE + (d.ring.handed.filter fun x => x.block == 8 && x.op == 1).length
  | 0x0A, 1 => d.on R.WB_STATUS_STORE_FULL
  | _, _ => false

/-- The next staged descriptor is handed to its block, or completes BAD_DESCRIPTOR for its header (R413, R418). A FENCE
waits until every earlier descriptor of the ring has completed. -/
def Dev.dispatch (d : Dev) (r : Nat) : Dev :=
  match tabGet d.ring.staged r with
  | [] => d
  | q :: rest =>
    let waits := bitOf q.flags 1 && d.ring.live.any fun x => x.ring == r && x.no < q.no
    let ok := headerOk q
    if d.ringsHeld || waits || (ok && d.blockFull q) then d
    else
      let d := { d with ring := { d.ring with staged := tabPut d.ring.staged r rest } }.set R.RING_STATUS_STAGED rest.length r
      if ok then { d with ring := { d.ring with handed := d.ring.handed ++ [q] } }
      else d.writeCompl q 0x0B00 Status.badDescriptor.code d.now

/-- DESCRIPTOR_DISPATCH (R418). -/
def execDescriptorDispatch (r : Nat) (s : State) : Res := onRun .sup (fun d => d.dispatch r) s

/-! ### GAP items and the interrupt timer -/

/-- GAP_ITEM_WRITE (R423): at the next 1 ms tick, a GAP that fits alone is written. -/
def execGapItemWrite (src : Nat) (s : State) : Res :=
  onRun .sup (fun d => match tabFind d.ring.gaps src with
    | some g => if d.itemFits g.ring 1 then (d.passToMono (ceilDiv d.clk.mono ms * ms)).putGap src g else d
    | none => d) s

/-- RING_IRQ_TIMER (R433): TIMER µs after the first entry since the last interrupt. -/
def execRingIrqTimer (r : Nat) (s : State) : Res :=
  onRun .sup (fun d => match (tabGet d.ring.irq r).first with
    | some t => (d.passToMono (t + d.get R.RING_IRQ_CFG_TIMER r * 1000)).ringIrq r
    | none => d) s

/-! ### Enabling, disabling, FLUSH (R412, R430, R435) -/

/-- Setting EN is refused (R412). -/
def Dev.enableRefused (d : Dev) (r : Nat) : Bool :=
  let c := d.get R.RING_CFG_COMPL r
  d.get R.RING_CFG_KIND r == 0 && !(d.on R.RING_CTRL_EN c && d.get R.RING_CFG_KIND c == 1)

/-- Setting RING_CTRL.EN: refused, or both counts 0 and the ring running (R410, R412). -/
def Dev.ringEnable (d : Dev) (r v : Nat) : Dev :=
  if 32 ≤ r || !bitOf v 0 || d.on R.RING_CTRL_EN r then d
  else if d.enableRefused r then d.raise R.RING_ERR_REFUSED r
  else
    let d := ((((d.set R.RING_CTRL_EN 1 r).set R.RING_PROD_P 0 r).set R.RING_CONS_C 0 r).set R.RING_STATUS_STATE 1 r).set R.RING_DROP_ITEMS 0 r
    let d := { d with ring := { d.ring with irq := tabDel d.ring.irq r, items := tabDel d.ring.items r } }
    d.put R.RING_STATUS_FULL (d.get R.RING_CFG_KIND r == 0 && d.complRoom (d.get R.RING_CFG_COMPL r) == 0) r

/-- RING_ENABLE (R412). -/
def execRingEnable (r : Nat) (v : Word32) (s : State) : Res := onReg (R.RING_CTRL_EN) (fun d => d.ringEnable r v.toNat) s

/-- Every fetched descriptor that satisfies `p` and is not yet carried out completes ABORTED, queued or parked ones
included (R430, R435). -/
def Dev.abortWhere (d : Dev) (p : Desc → Bool) : Dev :=
  let qs := d.ring.live.filter fun q => p q && !d.carriedOut q
  let hit := fun (q : Desc) => qs.any fun x => x.no == q.no
  let d := d.purge hit
  let d := { d with ring := { d.ring with
    staged := tabMapV d.ring.staged fun _ l => l.filter fun q => !hit q,
    handed := d.ring.handed.filter fun q => !hit q } }
  d.completeAll qs .aborted

/-- STAGED after descriptors left staging. -/
def Dev.stagedCount (d : Dev) (r : Nat) : Dev := d.set R.RING_STATUS_STAGED (tabGet d.ring.staged r).length r

/-- Clearing RING_CTRL.EN drains the ring as its kind requires (R435). -/
def Dev.ringDisable (d : Dev) (r : Nat) : Dev :=
  if !d.on R.RING_CTRL_EN r then d
  else match d.get R.RING_CFG_KIND r with
    | 0 =>
      let d := ((d.set R.RING_CTRL_EN 0 r).set R.RING_STATUS_STATE 2 r).abortWhere fun q => q.ring == r
      let d := d.stagedCount r
      if d.ring.live.any fun q => q.ring == r then d else d.set R.RING_STATUS_STATE 0 r
    | 1 =>
      let named := (List.range 32).any fun k => d.on R.RING_CTRL_EN k && d.get R.RING_CFG_KIND k == 0 && d.get R.RING_CFG_COMPL k == r
      if named || (d.ring.live.any fun q => q.compl == r) then d.raise R.RING_ERR_REFUSED r
      else (d.set R.RING_CTRL_EN 0 r).set R.RING_STATUS_STATE 0 r
    | _ => (d.set R.RING_CTRL_EN 0 r).set R.RING_STATUS_STATE 0 r

/-- RING_DISABLE (R435): a write of RING_CTRL with EN clear. -/
def execRingDisable (r : Nat) (v : Word32) (s : State) : Res :=
  onReg (R.RING_CTRL_EN) (fun d => if r < 32 && !bitOf v.toNat 0 then d.ringDisable r else d) s

/-- Items of an ITEM ring are discarded and counted under their sources, as a GAP reports them (R423, R430). -/
def Dev.flushItems (d : Dev) (r : Nat) : Dev :=
  let l := (tabGet (d.pruneItems r).ring.items r).filter fun x => x.items != 0
  let d := { d with ring := { d.ring with items := tabDel d.ring.items r } }
  let gaps := l.reverse.foldl (fun gs x => tabPut gs x.src
    (match tabFind gs x.src with
     | some g => { g with seq := x.seq, tFirst := x.t, count := g.count + x.items }
     | none => { ring := r, seq := x.seq, tFirst := x.t, count := x.items, tLast := x.t })) d.ring.gaps
  let n := (l.map fun x => x.items).sum
  { d with ring := { d.ring with gaps := gaps } }.sat R.RING_DROP_ITEMS (d.get R.RING_DROP_ITEMS r + n) r

/-- RING_CTRL.FLUSH (R430), after the doorbell writes that came before it. -/
def Dev.ringFlush (d : Dev) (r : Nat) : Dev :=
  let b := d.ring.heldDb.filter fun x => x.1 == r
  let d := b.foldl (fun (d : Dev) (x : Nat × Nat) => d.doorbell x.1 x.2) { d with ring := { d.ring with heldDb := d.ring.heldDb.filter fun x => x.1 != r } }
  let fill := d.ringFill r
  match d.get R.RING_CFG_KIND r with
  | 0 =>
    let d := ((d.set R.RING_FLUSHED_ENTRIES fill r).set R.RING_CONS_C (d.get R.RING_PROD_P r) r).abortWhere fun q => q.ring == r
    (d.stagedCount r).record 0x0B06 (u8 r ++ u32 fill)
  | 1 =>
    if d.ring.live.any fun q => q.compl == r then d.raise R.RING_ERR_REFUSED r
    else
      let d := (d.set R.RING_FLUSHED_ENTRIES fill r).set R.RING_CONS_C (d.get R.RING_PROD_P r) r
      (((d.put R.RING_STATUS_FULL false r).submitFull r).record 0x0B06 (u8 r ++ u32 fill))
  | _ =>
    let d := d.flushItems r
    let d := (d.set R.RING_FLUSHED_ENTRIES fill r).set R.RING_CONS_C (d.get R.RING_PROD_P r) r
    ((d.put R.RING_STATUS_FULL false r).record 0x0B06 (u8 r ++ u32 fill))

/-- RING_FLUSH (R430): FLUSH, then disable where the same write clears EN. -/
def execRingFlush (r : Nat) (v : Word32) (s : State) : Res :=
  onReg (R.RING_CTRL_EN) (fun d =>
    if r < 32 && bitOf v.toNat 1 then
      let d := d.ringFlush r
      if bitOf v.toNat 0 then d else d.ringDisable r
    else d) s

/-! ### Read failures and staging errors (R431, R432) -/

/-- DESCRIPTOR_READ_FAIL (R432): the ring halts. -/
def execDescriptorReadFail (r : Nat) (s : State) : Res :=
  onRun .sup (fun d =>
    if d.burst r != 0 then
      let a := d.get R.RING_BASE_HI_ADDR r * 2 ^ 32 + d.get R.RING_BASE_LO_ADDR r * 2 ^ 12 + 64 * (d.get R.RING_CONS_C r % d.ringSize r)
      ((d.set R.RING_STATUS_STATE 3 r).raise R.RING_ERR_DMA r).record 0x0B02 (u8 r ++ u64 a)
    else d) s

/-- An uncorrectable staging word is counted and reported (R431). -/
def Dev.eccUnc (d : Dev) (r kind : Nat) : Dev :=
  ((d.inc R.RING_ECC_UNCORR r).raise R.RING_ERR_ECC_UNC r).record 0x0B03 (u8 r ++ u8 (Config.argCode 0x0B03 kind))

/-- RING_STAGING_ECC (R431). -/
def Dev.stagingEcc (d : Dev) (r : Nat) (w : StagWord) : Dev :=
  match w with
  | .corrected => d.inc R.RING_ECC_CORRECTED r
  | .desc n =>
    match (tabGet d.ring.staged r)[n]? with
    | none => d
    | some q =>
      let d := d.eccUnc r 0
      let d := { d with ring := { d.ring with staged := tabMod d.ring.staged r fun l => l.filter fun x => x.no != q.no } }
      (d.stagedCount r).complete q .eccUncorrectable
  | .compl no =>
    match d.ring.live.find? fun q => q.no == no with
    | none => d
    | some q => ((d.eccUnc r 1).complete q .eccUncorrectable).purge fun x => x.no == no
  | .telemetry src =>
    let d := d.eccUnc r 2
    let (seq, d) := d.nextSeq src
    d.dropItem r src seq d.now
  | .backPressured src =>
    let d := d.eccUnc r 3
    if d.itemFits r 1 then
      let (seq, d) := d.nextSeq src
      d.putItem r src seq 2 d.now (gapBody { ring := r, seq := seq, tFirst := d.now, count := 1, tLast := d.now })
    else d

/-- RING_STAGING_ECC (R431). -/
def execRingStagingEcc (r : Nat) (word : StagWord) (s : State) : Res := onRun .sup (fun d => d.stagingEcc r word) s

/-! ### The link (R436, R437) -/

/-- Every ring is disabled without draining (R436). -/
def Dev.ringsOff (d : Dev) : Dev :=
  (List.range 32).foldl (fun d r => if d.on R.RING_CTRL_EN r then (d.set R.RING_CTRL_EN 0 r).set R.RING_STATUS_STATE 0 r else d) d

/-- The link is lost (R436). -/
def Dev.linkLost (d : Dev) : Dev :=
  let j := d.get R.RING_JOURNAL_JOURNAL
  let d := ((d.set R.RING_GLB_STATUS_LINK_UP 0).set R.RING_GLB_STATUS_SPEED 0).set R.RING_GLB_STATUS_WIDTH 0
  let d := ((d.ringsOff.set R.RING_LINK_DROP_CPL 0).set R.RING_LINK_DROP_ITEMS 0).set R.RING_LINK_LOST_JOURNAL j
  let d := d.abortWhere fun _ => true
  let d := (List.range 32).foldl (fun (d : Dev) (r : Nat) => d.set R.RING_STATUS_STAGED 0 r) d
  let d := { d with ring := { d.ring with staged := [], lostAt := some d.clk.mono, dropping := false } }
  d.record 0x0B04 (u32 j ++ u16 (d.get R.RING_LINK_DROP_CPL))

/-- LINK_LOSS (R436). -/
def execLinkLoss (cause : LinkCause) (s : State) : Res :=
  onDev (fun d =>
    if d.linkUp then
      match cause with
      | .busMasterCleared =>
        let up := (d.get R.RING_GLB_STATUS_SPEED, d.get R.RING_GLB_STATUS_WIDTH)
        let d := d.linkLost
        let d := ((d.set R.RING_GLB_STATUS_LINK_UP 1).set R.RING_GLB_STATUS_SPEED up.1).set R.RING_GLB_STATUS_WIDTH up.2
        { d with ring := { d.ring with busMaster := false } }
      | _ => d.linkLost
    else d) s

/-- LINK_LOSS_DROP_TIMEOUT (R436): after 1 s, back-pressured items are dropped and counted. -/
def execLinkLossDropTimeout (s : State) : Res :=
  onDev (fun d => match d.ring.lostAt with
    | some t => let d := d.passToMono (t + second); { d with ring := { d.ring with dropping := true } }
    | none => d) s

/-- The RING window's registers return to their reset values, but for kept ones and RING_JOURNAL (R437); block causes
still pending keep their bits of RING_DEV_IRQ. -/
def Dev.pcieReset (d : Dev) : Dev :=
  let d := if d.linkUp then d.linkLost else d
  let d := { d with
    regs := { d.regs with vol := d.regs.vol.filter fun p => p.1 / 32 / 0x10000 != 0x0B || p.1 == R.RING_JOURNAL_JOURNAL.key 0 0 }
    ring := { d.ring with irq := [], items := [], msix := [], heldDb := [] } }
  (List.range 20).foldl (fun d b => if d.causePending (b + 1) then d.setBit R.RING_DEV_IRQ_BLOCK b true else d) d

/-- PCIE_RESET (R437): PE_PERST_N or Function Level Reset. -/
def execPcieReset (s : State) : Res := onDev (fun d => if d.powered then d.pcieReset else d) s

/-- LINK_UP (R437, R438): SPEED 1-3, WIDTH 1-2; PE_WAKE_N is asserted no more. -/
def execLinkUp (speed width : Nat) (s : State) : Res :=
  onRun .pcie (fun d =>
    let d := ((d.set R.RING_GLB_STATUS_LINK_UP 1).set R.RING_GLB_STATUS_SPEED speed).set R.RING_GLB_STATUS_WIDTH width
    let d := { d with ring := { d.ring with busMaster := true, lostAt := none, dropping := false, wake := false } }
    d.record 0x0B05 (u8 speed ++ u8 width)) s

/-! ### The pause of a SUP activation (R439) -/

/-- The rings pause. -/
def Dev.ringsPause (d : Dev) : Dev := (d.set R.RING_GLB_STATUS_PAUSED 1).record 0x0B07 (u8 (Config.argCode 0x0B07 0))

/-- Once the rings are held no more, completions decided meanwhile are written, and kept doorbells applied in order. -/
def Dev.ringsGo (d : Dev) : Dev :=
  if d.ringsHeld then d
  else
    let l := d.ring.deferred
    let b := d.ring.heldDb
    let d := { d with ring := { d.ring with deferred := [], heldDb := [] } }
    let d := l.foldl (fun d x => if d.isLive x.1 then d.writeCompl x.1 (descSrc x.1) x.2.1 x.2.2 else d) d
    b.foldl (fun d x => d.doorbell x.1 x.2) d

/-- The pause ends (R439). -/
def Dev.ringsResume (d : Dev) : Dev := ((d.set R.RING_GLB_STATUS_PAUSED 0).record 0x0B07 (u8 (Config.argCode 0x0B07 1))).ringsGo

end Sys2Proof.Machine
end

