-- ==== Sys2Proof/Machine/Img.lean ====
section
/-!
DEFINITION. Firmware parts and field update (R579-R608), and attestation (R570, R571). What resets the device stands with
the boot sequence.
-/

namespace Sys2Proof.Machine

/-! ### Slots and containers (R579-R582) -/

/-- The state of slot `s` of part `p` (R580, R608). -/
def Dev.slotState (d : Dev) (p s : Nat) : Nat := if s = 0 then d.get R.IMG_PART_STAT_STATE_A p else d.get R.IMG_PART_STAT_STATE_B p

/-- Set the state of a slot. -/
def Dev.slotSet (d : Dev) (p s v : Nat) : Dev := if s = 0 then d.set R.IMG_PART_STAT_STATE_A v p else d.set R.IMG_PART_STAT_STATE_B v p

/-- The container in a slot. -/
def Dev.image (d : Dev) (p s : Nat) : List Byte := (tabFind d.img.flash (2 * p + s)).getD []

/-- A part runs an image: RUNNING or TRIAL in its running slot. -/
def Dev.partRuns (d : Dev) (p : Nat) : Bool :=
  let st := d.slotState p (d.get R.IMG_PART_STAT_RUN_SLOT p)
  st == 2 || st == 3

/-- The header of the image a part runs. -/
def Dev.runHdr (d : Dev) (p : Nat) : Option (List Byte) :=
  if d.partRuns p then some ((d.image p (d.get R.IMG_PART_STAT_RUN_SLOT p)).take 128) else none

/-- LEN of a container. -/
def imgLen (b : List Byte) : Nat := fld b 44 4
/-- SEC_EPOCH. -/
def imgEpoch (b : List Byte) : Nat := fld b 12 4
/-- IF_EPOCH. -/
def imgIf (b : List Byte) : Nat := fld b 16 2
/-- SET_FMT. -/
def imgFmt (b : List Byte) : Nat := fld b 18 2
/-- READS_FMT. -/
def imgReads (b : List Byte) : Nat := fld b 20 2
/-- An ACCEPT entry admits an interface epoch. -/
def accepts (acc : List Byte) (q e : Nat) : Bool := fld acc (4 * q) 2 ≤ e && e ≤ fld acc (4 * q + 2) 2
/-- ACCEPT. -/
def imgAccept (b : List Byte) : List Byte := (b.drop 24).take 20

/-- Step 1 of R589 but for the piece count. -/
def hdrOk (b : List Byte) (p : Nat) : Bool :=
  fld b 0 4 == 0x71920C01 && fld b 4 1 == 1 && fld b 5 1 == p && zeroAt b 6 2 && zeroAt b 22 2 && zeroAt b 84 12 && zeroAt b 108 4 &&
    1 ≤ imgLen b && imgLen b ≤ 4194176 && imgEpoch b < 64

/-- Pieces of a container. -/
def imgPieces (b : List Byte) : Nat := ceilDiv (128 + imgLen b) 1024

/-- How the checks of R589 end: a failed check (1 header, 2 tag, 3 digest), a refusal, or the container. -/
inductive ImgVerdict where
  | bad (cause : Nat)
  | refuse (st : Status)
  | good (image : List Byte)
  deriving DecidableEq, Repr

/-- Steps 1 to 4 of R589 on a container for part `p`; `n` is the piece count of the transfer, if it came in one. -/
def Dev.verify (d : Dev) (b : List Byte) (p : Nat) (n : Option Nat) : ImgVerdict :=
  let k := d.get R.IMG_CFG_KEY_SLOT
  let c := fit (128 + imgLen b) b
  if b.length < 128 || !hdrOk b p || (n.getD (imgPieces b)) != imgPieces b then .bad 1
  else if d.get R.KEY_ATTR_STATE k != 1 then .refuse (d.slotRefusal k)
  else if !d.on R.KEY_ATTR_NV k then .refuse .keyDenied
  else match d.engineKey k 1 1 with
    | none => .refuse .keyDenied
    | some key =>
      if fld b 48 4 != d.get R.KEY_GEN_GEN k then .refuse .keyStale
      else match gcmOpen key ((b.drop 96).take 12) (b.take 96) (c.drop 128) ((b.drop 112).take 16) with
        | none => .bad 2
        | some pt =>
          if sha256 pt != (b.drop 52).take 32 then .bad 3
          else if imgEpoch b < d.get R.IMG_EPOCH_SEC_EPOCH p then .refuse .versionDenied
          else .good c

/-! ### Transfers (R583, R584, R588) -/

/-- An erased piece of the staging area. -/
def erased : List Byte := List.replicate 1024 0xFF

/-- Programming flash: erased bytes take the new ones, the same bytes stay; anything else is open (log entry 61). -/
def program (old new : List Byte) : List Byte :=
  if old == new || old == List.replicate old.length 0xFF then new else Config.reprogram old new

/-- A piece of the staging area. -/
def Dev.piece (d : Dev) (i : Nat) : List Byte := (tabFind d.img.stage i).getD erased

/-- Piece `i` has been received. -/
def Dev.hasPiece (d : Dev) (i : Nat) : Bool := d.bit R.IMG_BITMAP_PIECE (i % 32) (i / 32)

/-- Event 0x1001. -/
def Dev.xferEvent (d : Dev) : Dev := d.record 0x1001 (u16 (d.get R.IMG_XFER_XFER) ++ u8 (d.get R.IMG_XFER_PART))

/-- A piece is whole: its bit, the count, and with the last one COMPLETE (R588). -/
def Dev.pieceDone (d : Dev) (i : Nat) : Dev :=
  if d.hasPiece i then d
  else
    let d := (d.setBit R.IMG_BITMAP_PIECE (i % 32) true (i / 32)).inc R.IMG_XFER_CNT_RECEIVED
    if d.get R.IMG_XFER_CNT_RECEIVED = d.get R.IMG_XFER_CNT_PIECES then (d.set R.IMG_XFER_COMPLETE 1).xferEvent else d

/-- The bitmap and the fragments are cleared. -/
def Dev.clearBits (d : Dev) : Dev :=
  let d := (List.range 128).foldl (fun (d : Dev) (w : Nat) => d.set R.IMG_BITMAP_PIECE 0 w) d
  { (d.set R.IMG_XFER_CNT_RECEIVED 0).set R.IMG_XFER_COMPLETE 0 with img := { d.img with frags := [] } }

/-- IMG_OPEN on a taken descriptor (R583). Without NVM there is no slot and no staging area, and what needs one is refused (R40; the status is a
DESIGN CHOICE, log entry 89). -/
def Dev.imgOpen (d : Dev) (q : Desc) : Dev :=
  let a := q.area
  let p := fld a 1 1
  let x := fld a 2 2
  let n := fld a 4 2
  let src := fld a 6 1
  let air := src == 1
  if !resvOk a [(0, 7), (8, 4)] || 5 ≤ p || x = 0 || n = 0 || 4096 < n || 2 ≤ src ||
      (air && (512 ≤ fld a 8 2 || 4 ≤ fld a 10 1 || 4 ≤ fld a 11 1)) then d.complete q .badDescriptor
  else if !d.runs .nvm then d.complete q .refusedState
  else if d.on R.IMG_XFER_OPEN then
    d.complete q (if d.get R.IMG_XFER_XFER = x && d.get R.IMG_XFER_PART = p && d.get R.IMG_XFER_CNT_PIECES = n then .done else .refusedState)
  else
    let d := (((d.set R.IMG_XFER_OPEN 1).set R.IMG_XFER_SOURCE src).set R.IMG_XFER_PART p).set R.IMG_XFER_XFER x
    let d := (d.set R.IMG_XFER_CNT_PIECES n).clearBits
    let d := ((d.set R.IMG_RX_CFG_SRC_CELL (fld a 8 2)).set R.IMG_RX_CFG_SRC_CH (fld a 10 1)).set R.IMG_RX_CFG_SRC_CODE (fld a 11 1)
    { d with img := { d.img with stage := [], erasing := some q } }.xferEvent

/-- IMG_OPEN (R583). While the staging area is being erased, transfers wait. -/
def execImgOpen (s : State) : Res :=
  onDev (fun d => if d.img.erasing.isSome then d else match d.take 0x10 1 with | some (q, d) => d.imgOpen q | none => d) s

/-- IMG_ERASE_DONE (R583). -/
def execImgEraseDone (s : State) : Res :=
  onRun .nvm (fun d => match d.img.erasing with
    | some q => { d with img := { d.img with erasing := none } }.complete q .done
    | none => d) s

/-- IMG_CLOSE on a taken descriptor (R583). -/
def Dev.imgClose (d : Dev) (q : Desc) : Dev :=
  let a := q.area
  if !resvOk a [(0, 1), (2, 2)] || fld a 2 2 = 0 then d.complete q .badDescriptor
  else if !d.on R.IMG_XFER_OPEN || d.get R.IMG_XFER_XFER != fld a 2 2 then d.complete q .refusedState
  else
    let d := d.xferEvent.clearBits
    (((d.set R.IMG_XFER_OPEN 0).set R.IMG_XFER_CNT_PIECES 0)).complete q .done

/-- IMG_CLOSE (R583). -/
def execImgClose (s : State) : Res :=
  onDev (fun d => if d.img.erasing.isSome then d else match d.take 0x10 2 with | some (q, d) => d.imgClose q | none => d) s

/-- IMG_LOAD on a taken descriptor (R584). -/
def Dev.imgLoad (d : Dev) (q : Desc) (mem : Option (List Byte)) : Dev :=
  let a := q.area
  let x := fld a 2 2
  let first := fld a 4 2
  let n := fld a 6 2
  let own := d.on R.IMG_XFER_OPEN && d.get R.IMG_XFER_XFER == x
  if !resvOk a [(0, 1), (2, 6), (8, 8)] || x = 0 || fld a 8 8 % 16 != 0 || (if own then d.get R.IMG_XFER_CNT_PIECES else 4096) < first + n then
    d.complete q .badDescriptor
  else if !own || d.on R.IMG_XFER_SOURCE || !d.runs .nvm then d.complete q .refusedState
  else match mem with
    | none => d.complete q .aborted
    | some b =>
      let d := (List.range n).foldl (fun (d : Dev) (k : Nat) =>
        let p := program (d.piece (first + k)) (fit 1024 (b.drop (1024 * k)))
        { d with img := { d.img with stage := tabPut d.img.stage (first + k) p } }.pieceDone (first + k)) d
      d.complete q .done

/-- IMG_LOAD (R584). -/
def execImgLoad (mem : Option (List Byte)) (s : State) : Res :=
  onDev (fun d => if d.img.erasing.isSome then d else match d.take 0x10 3 with | some (q, d) => d.imgLoad q mem | none => d) s

/-! ### Sending and receiving pieces (R585-R587) -/

/-- IMG_SEND on a taken descriptor (R586): the pieces wait for downlink slots. -/
def Dev.imgSend (d : Dev) (q : Desc) (mem : Option (List Byte)) : Dev :=
  let a := q.area
  let x := fld a 2 2
  let first := fld a 4 2
  let n := fld a 6 2
  let fl := fld a 8 1
  let lst := bitOf fl 1
  let stage := bitOf fl 0 || lst
  let own := d.on R.IMG_XFER_OPEN && d.get R.IMG_XFER_XFER == x
  let most := if stage && own then d.get R.IMG_XFER_CNT_PIECES else 4096
  if !resvOk a [(0, 1), (2, 7), (16, 8)] || x = 0 || 4 ≤ fl || fld a 16 8 % 16 != 0 || (!lst && most < first + n) then d.complete q .badDescriptor
  else if !d.reins then d.complete q .notHoldingReins
  else if stage && (!own || !d.runs .nvm) then d.complete q .refusedState
  else
    let go := fun (d : Dev) (ps : List (Nat × List Byte)) =>
      if ps.isEmpty then d.complete q .done
      else { d with rad := { d.rad with sends := d.rad.sends ++ [({ desc := q, xfer := x, pieces := ps } : Send)] } }
    if stage && !lst then go d ((List.range n).map fun k => (first + k, d.piece (first + k)))
    else match mem with
      | none => d.complete q .aborted
      | some b =>
        if lst then
          let l := (List.range n).map fun k => fld b (2 * k) 2
          if l.any fun i => most ≤ i then d.complete q .badDescriptor else go d (l.map fun i => (i, d.piece i))
        else go d ((List.range n).map fun k => (first + k, fit 1024 (b.drop (1024 * k))))

/-- IMG_SEND (R586). -/
def execImgSend (mem : Option (List Byte)) (s : State) : Res :=
  onDev (fun d => match d.take 0x10 4 with | some (q, d) => d.imgSend q mem | none => d) s

/-- A PIECE frame is rejected: counted, event 0x1002. -/
def Dev.pieceReject (d : Dev) (cell cause : Nat) : Dev :=
  (d.inc R.IMG_RX_STAT_REJECTED).record 0x1002 (u16 cell ++ u8 (Config.argCode 0x1002 cause))

/-- Fragment `g` of piece `i` is programmed at its offset (R587). -/
def Dev.fragPut (d : Dev) (i g : Nat) (data : List Byte) : Dev :=
  let old := d.piece i
  let n := if g = 40 then 24 else 25
  let new := old.take (25 * g) ++ program ((old.drop (25 * g)).take n) (data.take n) ++ old.drop (25 * g + n)
  let fr := tabGet d.img.frags i
  let fr := if fr.contains g then fr else g :: fr
  let whole := fr.length == 41
  let d := { d with img := { d.img with
    stage := tabPut d.img.stage i new, frags := if whole || d.hasPiece i then tabDel d.img.frags i else tabPut d.img.frags i fr } }
  if whole then d.pieceDone i else d

/-- An accepted transmission of the own radio in this slot. -/
def Dev.sentIn (d : Dev) (slot : Nat) : Bool :=
  d.out.any fun o => match o with | .air f => f.slot == slot && f.fcnt == d.fcntOf slot | _ => false

/-- PIECE_FRAME_RX (R587): a frame heard in a slot on a channel and code set. -/
def Dev.pieceRx (d : Dev) (slot ch code : Nat) (f : List Byte) : Dev :=
  if slot < 5 || 103 < slot || d.slotStart (slot + 1) < d.now || !d.on R.IMG_CTRL_RX_EN || !d.on R.IMG_XFER_OPEN ||
      !d.on R.IMG_XFER_SOURCE || d.img.erasing.isSome || ch != d.get R.IMG_RX_CFG_SRC_CH || code != d.get R.IMG_RX_CFG_SRC_CODE ||
      d.sentIn slot || fType f != 3 || !fSite f || fSrc f != 0xF0 || fDst f != 0xF0 || fCell f != d.get R.IMG_RX_CFG_SRC_CELL then d
  else
    let d := d.passTo (d.slotStart (slot + 1))
    let cell := fCell f
    match d.receive f 49 0 true (d.siteRxKey (fGen f)) (tabFind d.rad.hwSite cell) with
    | (none, d) => d.pieceReject cell 0
    | (some p, d) =>
      let i := fld p 3 2
      if fld p 0 1 != 6 || fld p 1 2 != d.get R.IMG_XFER_XFER || d.get R.IMG_XFER_CNT_PIECES ≤ i || 40 < fld p 5 1 then d.pieceReject cell 1
      else
        let d := { d with rad := { d.rad with hwSite := tabPut d.rad.hwSite cell (fCnt f) } }.inc R.IMG_RX_STAT_FRAMES
        d.fragPut i (fld p 5 1) ((p.drop 6).take 25)

/-- PIECE_FRAME_RX (R587). -/
def execPieceFrameRx (slot ch code : Nat) (f : List Byte) (s : State) : Res := onRun .rad (fun d => d.pieceRx slot ch code f) s

/-! ### Install (R589) -/

/-- The container in the staging area. -/
def Dev.staged (d : Dev) : List Byte := (List.range (d.get R.IMG_XFER_CNT_PIECES)).flatMap fun i => fit 1024 (d.piece i)

/-- The slot of a part that an install fills: the one not RUNNING. -/
def Dev.freeSlot (d : Dev) (p : Nat) : Nat := if d.slotState p 0 = 2 then 1 else 0

/-- Event 0x1003. -/
def Dev.installEvent (d : Dev) (p cause : Nat) : Dev := d.record 0x1003 (u8 p ++ u8 (Config.argCode 0x1003 cause))

/-- IMG_INSTALL on a taken descriptor (R589): steps 1 to 5; the copy follows. -/
def Dev.imgInstall (d : Dev) (q : Desc) : Dev :=
  let a := q.area
  let p := fld a 1 1
  if !resvOk a [(0, 2)] || 5 ≤ p then d.complete q .badDescriptor
  else if !d.runs .nvm || !d.on R.IMG_XFER_OPEN || !d.on R.IMG_XFER_COMPLETE || d.get R.IMG_XFER_PART != p || d.get R.IMG_STATUS_TRIAL_PART = p ||
      (match d.img.act with | some x => x.part == p | none => false) then d.complete q .refusedState
  else match d.verify d.staged p (some (d.get R.IMG_XFER_CNT_PIECES)) with
    | .bad c => (d.installEvent p c).complete q .aborted
    | .refuse st => if st = .versionDenied then d.complete q st else d.keyRefuse q (d.get R.IMG_CFG_KEY_SLOT) 1 st
    | .good b =>
      let sl := d.freeSlot p
      let d := (d.slotSet p sl 0).set R.IMG_VER_VERSION 0 p sl
      { d with img := { d.img with flash := tabDel d.img.flash (2 * p + sl), stores := tabDel d.img.stores (2 * p + sl), install := some { desc := q, part := p, slot := sl, image := b } } }

/-- IMG_INSTALL (R589). One install runs at a time, and none starts while the image key is being updated (R567). -/
def execImgInstall (s : State) : Res :=
  onDev (fun d => if d.img.install.isSome || d.keyBusy (d.get R.IMG_CFG_KEY_SLOT) then d else match d.take 0x10 5 with | some (q, d) => d.imgInstall q | none => d) s

/-- The container stands in a slot, which takes a state. -/
def Dev.slotFill (d : Dev) (p s st : Nat) (b : List Byte) : Dev :=
  let d := { d with img := { d.img with flash := tabPut d.img.flash (2 * p + s) b } }
  (d.slotSet p s st).set R.IMG_VER_VERSION (fld b 8 4) p s

/-- IMG_INSTALL_DONE (R589): step 6. -/
def execImgInstallDone (s : State) : Res :=
  onRun .nvm (fun d => match d.img.install with
    | some x =>
      let d := { d with img := { d.img with install := none } }
      ((d.slotFill x.part x.slot 1 x.image).installEvent x.part 0).complete x.desc .done
    | none => d) s

/-! ### Compatibility (R591) -/

/-- The headers of the set that runs once part `p` runs slot `s`. -/
def Dev.partSet (d : Dev) (p s : Nat) : List (Nat × List Byte) :=
  (List.range 5).filterMap fun k => if k = p then some (k, (d.image p s).take 128) else (d.runHdr k).map fun h => (k, h)

/-- A set of parts is compatible. -/
def compatible (l : List (Nat × List Byte)) : Bool :=
  l.all fun p => l.all fun q => p.1 == q.1 || accepts (imgAccept p.2) q.1 (imgIf q.2)

/-! ### Settings stores (R596-R598) -/

/-- The store of a part that runs. -/
def Dev.storeOf (d : Dev) (p : Nat) : PartStore :=
  { regs := d.regs.sel (.part p)
    map := if p = 1 then d.rsv.map else []
    templates := if p = 0 then d.wb.templates else []
    banks := if p = 4 then d.ctl.banks else []
    tables := if p = 4 then d.ctl.tables else [] }

/-- Put a store in force. -/
def Dev.storePut (d : Dev) (p : Nat) (x : PartStore) : Dev :=
  let d := { d with regs := d.regs.upd (.part p) x.regs }
  match p with
  | 0 => { d with wb := { d.wb with templates := x.templates }, yrd := { d.yrd with planNew := true, anchNew := List.range 16 } }
  | 1 => { d with rsv := { d.rsv with map := x.map, mapBad := false } }
  | 4 => { d with ctl := { d.ctl with banks := x.banks, tables := x.tables } }
  | _ => d

/-- A loop's enable and its configuration as R506 has it. -/
def Dev.loopCfg (d : Dev) (l : Nat) : List Nat :=
  [R.CTL_LOOP_CFG_EN, R.CTL_LOOP_IO_IN_KIND, R.CTL_LOOP_IN_LO_IN_LO, R.CTL_LOOP_IN_HI_IN_HI, R.CTL_LOOP_AX_LO_AX_LO, R.CTL_LOOP_AX_HI_AX_HI,
    R.CTL_LOOP_AX_DB_AX_DB].map fun (f : Fld) => d.word (f.addr l)

/-- A loop under a new store (R598): one whose enable or configuration changed starts as R507 gives. -/
def Dev.loopSwap (old d : Dev) (l : Nat) : Dev :=
  if old.loopCfg l == d.loopCfg l then d
  else
    let w := d.word (R.CTL_LOOP_CFG_EN.addr l)
    if d.on R.CTL_LOOP_CFG_EN l then (d.set R.CTL_LOOP_CFG_EN 0 l).loopOn l w
    else if old.on R.CTL_LOOP_CFG_EN l then (d.set R.CTL_LOOP_CFG_EN 1 l).loopOff l
    else d

/-- A part's store is replaced, and what runs under it follows. -/
def Dev.storeSwap (d : Dev) (p : Nat) (x : PartStore) : Dev :=
  if x == d.storeOf p then d
  else if p = 0 then
    let w := (d.storePut 0 x).word R.MTR_CTRL_EN.addr
    (d.mtrCtrlWrite w).storePut 0 x
  else if p = 4 then
    let e := (List.range 64).foldl (fun (e : Dev) (l : Nat) => Dev.loopSwap d e l) (d.storePut 4 x)
    ((List.range 16).foldl (fun (e : Dev) (a : Nat) => (e.axPins a).confEval a 1) e).grpView
  else d.storePut p x

/-- The outcome of the conversion (R597): 1 SAME, 2 CONVERTED, 3 DEFAULTS. -/
def Dev.convOf (d : Dev) (p s : Nat) (convOk : Bool) : Nat :=
  match d.runHdr p with
  | none => 3
  | some h =>
    let n := d.image p s
    if imgFmt h = imgFmt n then 1 else if imgReads n ≤ imgFmt h && imgFmt h ≤ imgFmt n && convOk then 2 else 3

/-! ### The switch (R593, R598, R600) -/

/-- Event 0x1006. -/
def Dev.fallEvent (d : Dev) (p cause : Nat) : Dev :=
  d.record 0x1006 (u8 p ++ u8 (Config.argCode 0x1006 cause) ++ u16 (min d.img.writes 0xFFFF) ++ u64 d.img.writeLast)

/-- A part begins to run slot `s`. -/
def Dev.runSlot (d : Dev) (p s : Nat) : Dev :=
  (d.set R.IMG_PART_STAT_RUN_SLOT s p).set R.IMG_EPOCH_IF_EPOCH (imgIf (d.image p s)) p

/-- The trial is over: the confirmed image of a part runs again with its own store, and the settings lost are recorded. -/
def Dev.fallBack (d : Dev) (p cause : Nat) : Dev :=
  let t := d.get R.IMG_PART_STAT_RUN_SLOT p
  let s := 1 - t
  let d := (d.slotSet p t 1).slotSet p s (if d.slotState p s = 4 then 2 else d.slotState p s)
  let d := (((d.runSlot p s).set R.IMG_STATUS_TRIAL_PART 7).set R.IMG_STATUS_CONFIRM_LEFT 0).set R.IMG_PART_STAT_SELF_OK 0 p
  let d := (d.sat R.IMG_PART_STAT_LOST d.img.writes p).fallEvent p cause
  let now := d.storeOf p
  let d := d.storeSwap p (tabGet d.img.stores (2 * p + s))
  { d with img := { d.img with stores := tabPut (tabDel d.img.stores (2 * p + s)) (2 * p + t) now, trialAt := none, writes := 0, writeLast := 0 } }

/-- The slot of an activation becomes TRIAL, with the store its image built. -/
def Dev.startTrial (d : Dev) (p s conv : Nat) : Dev :=
  let r := d.get R.IMG_PART_STAT_RUN_SLOT p
  let k := d.storeOf p
  let d := (if d.slotState p r = 2 then d.slotSet p r 4 else d).slotSet p s 3
  let d := (((d.runSlot p s).set R.IMG_STATUS_TRIAL_PART p).set R.IMG_PART_STAT_CONV conv p).set R.IMG_PART_STAT_SELF_OK 0 p
  let d := d.record 0x1004 (u8 p ++ u8 s ++ u32 (d.get R.IMG_VER_VERSION p s))
  let d := { d with img := { d.img with stores := tabPut (tabDel d.img.stores (2 * p + s)) (2 * p + r) k, trialAt := none, writes := 0, writeLast := 0 } }
  if conv = 3 then (d.storeSwap p {}).record 0x1007 (u8 p ++ u8 conv) else d

/-- The switch at the part's boundary; its pause begins. -/
def Dev.switchPart (d : Dev) (a : ImgAct) : Dev :=
  let d := { d with img := { d.img with act := some { a with started := some d.clk.mono } } }.set R.IMG_STATUS_ACTIVATING 1
  let d := if a.part = 4 then d.loopsHold true else d
  let d := if a.falls then d.fallBack a.part a.cause else d.startTrial a.part a.slot a.conv
  match a.part with
  | 0 => d.ringsPause
  | 2 => { d with trk := { d.trk with allDiscont := some 2 } }
  | 3 => { d with img := { d.img with macSf := d.sfn + 1 } }
  | _ => d

/-- An activation or fallback is decided: it runs at once, or at the part's next boundary. -/
def Dev.beginAct (d : Dev) (a : ImgAct) : Dev :=
  if a.part = 2 || a.part = 3 then { d with img := { d.img with act := some a } } else d.switchPart a

/-- A boundary of a part: a switch that waits for it takes place. -/
def Dev.partBoundary (d : Dev) (p : Nat) : Dev :=
  match d.img.act with
  | some a => if a.part = p && a.started.isNone then d.switchPart a else d
  | none => d

/-- The refusal of R594. -/
def Dev.safeRefused (d : Dev) (p : Nat) : Bool :=
  p == 1 && (if d.on R.PAIR_STATUS_PAIRED then d.reins else !d.wholeCell)

/-- IMG_ACTIVATE on a taken descriptor (R593-R595); `convOk` says whether a conversion finds no content error. -/
def Dev.imgActivate (d : Dev) (q : Desc) (convOk : Bool) : Dev :=
  let a := q.area
  let p := fld a 1 1
  if !resvOk a [(0, 3)] || 5 ≤ p || 2 ≤ fld a 2 1 then d.complete q .badDescriptor
  else
    let s := if d.slotState p 0 = 1 then 0 else 1
    let conv := d.convOf p s convOk
    if !d.runs .nvm || d.get R.IMG_STATUS_TRIAL_PART != 7 || d.img.act.isSome || d.slotState p s != 1 || d.safeRefused p || (bitOf (fld a 2 1) 0 && conv = 3) then
      d.complete q .refusedState
    else if !compatible (d.partSet p s) then d.complete q .versionDenied
    else d.beginAct { part := p, slot := s, conv := conv, desc := some q }

/-- IMG_ACTIVATE (R593). -/
def execImgActivate (convOk : Bool) (s : State) : Res :=
  onDev (fun d => match d.take 0x10 6 with | some (q, d) => d.imgActivate q convOk | none => d) s

/-- Length of a part's pause, ns (R593). -/
def pauseLen (p : Nat) : Nat :=
  match p with | 0 => 400 * ms | 1 => 200 * ms | 3 => superframe | 4 => 50 * ms | _ => 0

/-- The pause ends (R593): the block it covered has gone out, or its time is over. -/
def Dev.pauseEnd (d : Dev) : Dev :=
  match d.img.act with
  | none => d
  | some a =>
    match a.started with
    | none => d
    | some t =>
      if a.part = 2 && d.trk.allDiscont.isSome then d
      else
        let d := d.passToMono (t + pauseLen a.part)
        let trial := d.get R.IMG_STATUS_TRIAL_PART = a.part
        let d := { d with img := { d.img with act := none, trialAt := if trial then some d.clk.mono else none } }.set R.IMG_STATUS_ACTIVATING 0
        let d := if trial then d.set R.IMG_STATUS_CONFIRM_LEFT 120 else d
        let d := match a.part with
          | 0 => d.ringsResume.selfOk 0
          | 1 => (if d.on R.RSV_STATUS_COMPARE_OK then d.selfOk 1 else d).parkedPass
          | 4 => d.loopsHold false
          | _ => d
        match a.desc with | some q => d.complete q .done | none => d

/-- IMG_ACTIVATE_PAUSE_END (R593). -/
def execImgActivatePauseEnd (s : State) : Res := onRun .nvm Dev.pauseEnd s

/-! ### Confirmation and fallback (R590, R599, R600) -/

/-- Seconds left before the fallback. -/
def Dev.confirmLeft (d : Dev) : Dev :=
  match d.img.trialAt with
  | some t => d.set R.IMG_STATUS_CONFIRM_LEFT (ceilDiv (t + 120 * second - d.clk.mono) second)
  | none => d

/-- Slots of a part below its counter are OLD_EPOCH (R590). -/
def Dev.oldEpochs (d : Dev) (p : Nat) : Dev :=
  [0, 1].foldl (fun (d : Dev) (s : Nat) =>
    if d.slotState p s = 1 && imgEpoch (d.image p s) < d.get R.IMG_EPOCH_SEC_EPOCH p then d.slotSet p s 5 else d) d

/-- The confirm record is written (R599): TRIAL becomes RUNNING, FALLBACK becomes VALID, the counter rises. -/
def Dev.confirmPart (d : Dev) (p : Nat) : Dev :=
  let r := d.get R.IMG_PART_STAT_RUN_SLOT p
  let e := max (imgEpoch (d.image p r)) (d.get R.IMG_EPOCH_SEC_EPOCH p)
  let d := (if d.slotState p (1 - r) = 4 then d.slotSet p (1 - r) 1 else d).slotSet p r 2
  let d := ((d.set R.IMG_STATUS_TRIAL_PART 7).set R.IMG_STATUS_CONFIRM_LEFT 0).set R.IMG_EPOCH_SEC_EPOCH e p
  let d := { d with
    img := { d.img with trialAt := none, writes := 0, writeLast := 0 }
    boot := { d.boot with epochs := tabPut d.boot.epochs p e } }
  (d.oldEpochs p).record 0x1005 (u8 p ++ u8 e)

/-- IMG_CONFIRM on a taken descriptor (R599): the part confirmed, if any, and the state after. -/
def Dev.imgConfirm (d : Dev) (q : Desc) : Option Nat × Dev :=
  let a := q.area
  let p := fld a 1 1
  if !resvOk a [(0, 2)] || 5 ≤ p then (none, d.complete q .badDescriptor)
  else if !d.runs .nvm || d.get R.IMG_STATUS_TRIAL_PART != p || !d.on R.IMG_PART_STAT_SELF_OK p then (none, d.complete q .refusedState)
  else (some p, (d.confirmPart p).complete q .done)

/-- IMG_CONFIRM (R599): the counter in the fuses rises with it (R590). -/
def execImgConfirm (s : State) : Res :=
  if s.dev.img.act.isSome then .next s
  else match s.dev.take 0x10 8 with
    | none => .next s
    | some (q, d) =>
      match d.imgConfirm q with
      | (none, d) => .next { s with dev := d }
      | (some p, d) => .next { s with dev := d, fuse := { s.fuse with epochs := tabPut s.fuse.epochs p (max (tabGet s.fuse.epochs p) (d.get R.IMG_EPOCH_SEC_EPOCH p)) } }

/-- IMG_FALLBACK on a taken descriptor (R600). -/
def Dev.imgFallback (d : Dev) (q : Desc) : Dev :=
  let a := q.area
  let p := fld a 1 1
  if !resvOk a [(0, 2)] || 5 ≤ p then d.complete q .badDescriptor
  else if !d.runs .nvm || d.get R.IMG_STATUS_TRIAL_PART != p || d.safeRefused p then d.complete q .refusedState
  else
    let s := 1 - d.get R.IMG_PART_STAT_RUN_SLOT p
    if !compatible (d.partSet p s) then d.complete q .versionDenied
    else d.beginAct { part := p, slot := s, falls := true, cause := 1, desc := some q }

/-- IMG_FALLBACK (R600). -/
def execImgFallback (s : State) : Res :=
  onDev (fun d => if d.img.act.isSome then d else match d.take 0x10 7 with | some (q, d) => d.imgFallback q | none => d) s

/-- A part in TRIAL at a reset returns to its confirmed image (R580, R602). -/
def Dev.trialLost (d : Dev) (cause : Nat) : Dev :=
  let p := d.get R.IMG_STATUS_TRIAL_PART
  if p = 7 then d else d.fallBack p cause

/-! ### Recovery (R601) -/

/-- The boot code serves recovery: no SAFE image, or SUP with no bootable slot. -/
def Dev.recovering (d : Dev) : Bool := d.on R.SYS_BOOT_STATUS_NO_SAFE || !d.partRuns 0

/-- A write of IMG_REC_CMD with GO (R601). The container at the host address in IMG_REC_ADDR is what IMG_RECOVERY_DONE brings. -/
def Dev.recGo (d : Dev) (v : Nat) : Dev :=
  let d := d.writeAddr R.IMG_REC_CMD_PART.addr v
  if bitOf v 8 && d.recovering && d.img.recov.isNone then { d.set R.IMG_REC_CMD_GO 1 with img := { d.img with recov := some (d.get R.IMG_REC_CMD_PART) } } else d

/-- IMG_REC_GO (R601). -/
def execImgRecGo (v : Word32) (s : State) : Res := onReg R.IMG_REC_CMD_GO (fun d => if bitOf v.toNat 8 then d.recGo v.toNat else d) s

/-- The recovery container is checked: whether it was written to slot A, and the state after. -/
def Dev.recoveryDone (d : Dev) (mem : Option (List Byte)) : Bool × Dev :=
  match d.img.recov with
  | none => (false, d)
  | some p =>
    let d := { d.set R.IMG_REC_CMD_GO 0 with img := { d.img with recov := none } }
    match d.verify (mem.getD []) p none with
    | .good b =>
      let d := if d.slotState p 1 = 2 || d.slotState p 1 = 4 then d.slotSet p 1 1 else d
      let d := { ((d.slotFill p 0 2 b).storePut p {}).runSlot p 0 with img := { (d.slotFill p 0 2 b).img with stores := tabDel d.img.stores (2 * p) } }
      (true, d.record 0x1008 (u8 p ++ u8 (Config.argCode 0x1008 0)))
    | _ => (false, (d.raise R.IMG_REC_CMD_FAIL).record 0x1008 (u8 p ++ u8 (Config.argCode 0x1008 1)))

/-! ### Attestation (R570, R571) -/

/-- The state block of R570. -/
def Dev.attestBlock (d : Dev) : List Byte :=
  let part := fun (p : Nat) =>
    let s := d.get R.IMG_PART_STAT_RUN_SLOT p
    let h := (d.runHdr p).getD []
    fit 32 (h.drop 52) ++ u32 (fld h 8 4) ++ u32 (d.get R.IMG_EPOCH_SEC_EPOCH p) ++ u8 (if d.partRuns p then s else 0xFF) ++ zeros 7
  u8 d.boot.lc.code ++ u8 (b2n (d.on R.LC_STATE_DEBUG_OPEN) + 2 * b2n (d.on R.PAIR_STATUS_PAIRED)) ++ u16 d.id ++ u64 d.boot.serial ++
    u32 (d.get R.RING_BOOT_BOOT) ++ (List.range 5).flatMap part

/-- KEY_ATTEST on a taken descriptor (R571). -/
def Dev.keyAttest (d : Dev) (q : Desc) : Dev :=
  let a := q.area
  if !resvOk a [(0, 1), (8, 24)] || fld a 8 8 % 16 != 0 then d.complete q .badDescriptor
  else if d.keyBlank then d.complete q .refusedState
  else match d.engineKey 62 3 1 with
    | none => d.keyRefuse q 62 3 (d.slotRefusal 62)
    | some k =>
      let b := d.attestBlock
      (d.toHost (fld a 8 8) (b ++ fit 16 (hmac k ((a.drop 16).take 16 ++ b)))).complete q .done

/-- KEY_ATTEST (R571). -/
def execKeyAttest (s : State) : Res :=
  onDev (fun d => match d.keyTake 5 with | some (q, d) => d.keyAttest q | none => d) s

end Sys2Proof.Machine
end

