-- ==== Sys2Proof/Machine/Pair.lean ====
section
/-!
DEFINITION. Paired operation and takeover (R610-R635): the drawbar, the copy, the lease and the yoke, takeover, switchover,
the claim.
-/

namespace Sys2Proof.Machine

/-! ### Roles -/

/-- ROLE changes, with event 0x1101. -/
def Dev.roleSet (d : Dev) (r : Nat) : Dev :=
  let old := d.get R.PAIR_STATUS_ROLE
  if old = r then d else ((d.set R.PAIR_STATUS_ROLE r).record 0x1101 (u8 old ++ u8 r)).radRole

/-- The device is one of a pair (R610). -/
def Dev.paired (d : Dev) : Bool := d.on R.PAIR_STATUS_PAIRED

/-- How the outputs AOUT, PWM, PULSE_OUT and AX_G stand (R619, R621, R674). -/
inductive OutSt where
  | driven | held | hiZ
  deriving DecidableEq, Repr

/-- The outputs now: let go; frozen; waiting out the 1 ms after a takeover; driven with the reins; else high-impedance. -/
def Dev.outputs (d : Dev) : OutSt :=
  if d.pair.hiZ then .hiZ
  else if d.pair.frozen then .held
  else if !d.reins then .hiZ
  else match d.pair.driveAt with
    | some t => if d.clk.mono < t then .hiZ else .driven
    | none => .driven

/-- The outputs AX_G of an axis (R517, R543, R619): OFF, which is high-impedance, where the device does not drive them. -/
def Dev.axGates (d : Dev) (a : Nat) : List Gate :=
  match d.outputs with
  | .driven => d.axLegs a d.clk.mono
  | .held => d.pair.gates.getD a []
  | .hiZ => [.off, .off, .off, .off]

/-! ### Drawbar frames (R611-R613) -/

/-- The drawbar key (R612). -/
def Dev.dbKey (d : Dev) : Option (List Byte) :=
  let k := d.get R.PAIR_CFG_KEY_SLOT
  (d.engineKey k 4 0).or (d.engineKey k 4 1)

/-- The header of R611. -/
def Dev.dbHeader (d : Dev) (typ flags len copyNo : Nat) : List Byte :=
  u8 typ ++ u8 flags ++ u16 d.id ++ u16 d.cellNo ++ u16 len ++ u32 (d.get R.RING_BOOT_BOOT) ++ u48 d.pair.fcnt ++ zeros 2 ++ u32 copyNo ++ u64 d.now

/-- The IV of a frame (R612), from its header: DEV, BOOT and FCNT. -/
def dbIv (header : List Byte) : List Byte := (header.drop 2).take 2 ++ (header.drop 8).take 10

/-- A frame goes out sealed, while the link is up and the key serves (R612). -/
def Dev.dbSend (d : Dev) (typ flags copyNo : Nat) (body : List Byte) : Dev :=
  match d.dbKey with
  | none => d
  | some k =>
    if !d.paired || d.get R.PAIR_STATUS_LINK = 0 then d
    else
      let h := d.dbHeader typ flags body.length copyNo
      let d' := d.emit (.drawbar { typ := typ, header := h, body := body, frame := h ++ gcmSeal k (dbIv h) h body })
      { d' with pair := { d'.pair with fcnt := d.pair.fcnt + 1 } }

/-- What becomes of a received frame: discarded; not authentic; authenticated but of another cell; accepted, with its body. -/
inductive DbRx where
  | no
  | forged
  | alien
  | body (b : List Byte)
  deriving DecidableEq, Repr

/-- The checks of R612 on a frame of a given type. -/
def Dev.dbRecv (d : Dev) (f : List Byte) (typ : Nat) : DbRx × Dev :=
  if !d.paired || d.get R.PAIR_STATUS_LINK = 0 || f.length != 48 + fld f 6 2 || fld f 0 1 != typ then (.no, d)
  else match d.dbKey with
    | none => (.no, d)
    | some k =>
      let len := fld f 6 2
      match gcmOpen k (dbIv f) (f.take 32) ((f.drop 32).take len) (f.drop (32 + len)) with
      | none => (.forged, d.inc R.PAIR_ERR_AUTH_FAIL)
      | some b =>
        let boot := fld f 8 4
        let n := fld f 12 6
        if fld f 4 2 % 512 != d.cellNo then (.alien, d.inc R.PAIR_ERR_AUTH_FAIL)
        else if boot < d.pair.rxBoot || (boot = d.pair.rxBoot && n < d.pair.rxFcnt) then (.no, d.inc R.PAIR_ERR_REPLAY)
        else (.body (fit len b), { d with pair := { d.pair with rxBoot := boot, rxFcnt := n + 1 } })

/-- The same for the frames that only an accepted partner's count. -/
def Dev.dbTake (d : Dev) (f : List Byte) (typ : Nat) : Option (List Byte) × Dev :=
  if d.pair.refused then (none, d)
  else match d.dbRecv f typ with
    | (.body b, d) => (some b, d)
    | (_, d) => (none, d)

/-! ### Readiness (R31) -/

/-- The standby's copy is no older than one fleet cycle (R615). -/
def Dev.copyFresh (d : Dev) : Bool :=
  match d.pair.held with
  | some c => (d.now / fleetCycle - 1) * fleetCycle ≤ c.t
  | none => false

/-- A fault of the device's own (R31, R617). -/
def Dev.ownFault (d : Dev) : Bool := d.pair.ownFault || d.sys.pkg || d.on R.PAIR_STATUS_TIME_FAULT

/-- The conditions of R31 that fail, in their order. -/
def Dev.unready (d : Dev) : List Nat :=
  (if d.copyFresh then [] else [1]) ++ (if 2 ≤ d.level then [] else [2]) ++ (if d.on R.PAIR_STATUS_COMPAT then [] else [3]) ++
    (if d.ownFault || d.paused 1 || d.get R.PWR_STATUS_STATE != 0 then [4] else [])

/-- READY follows, with event 0x1104. -/
def Dev.readyEval (d : Dev) : Dev :=
  let r := d.get R.PAIR_STATUS_ROLE == 2 && d.unready.isEmpty
  if r == d.on R.PAIR_STATUS_READY then d
  else (d.put R.PAIR_STATUS_READY r).record 0x1104 (u8 (b2n r) ++ u8 (Config.argCode 0x1104 (d.unready.headD 0)))

/-- What waited for the standby goes on: it acknowledged, or there is no ready standby any more (R295, R307, R394). -/
def Dev.copyGate (d : Dev) : Dev := (d.wbRelease.brkViewAll).settle

/-- PARTNER_READY follows the partner's word. -/
def Dev.partnerSet (d : Dev) (r : Bool) : Dev :=
  if r == d.on R.PAIR_STATUS_PARTNER_READY then d else (d.put R.PAIR_STATUS_PARTNER_READY r).copyGate

/-! ### What a copy holds (R614, R616) -/

/-- A copied setting (R616). -/
def copiedSetting (f : Fld) : Bool :=
  [R.RSV_MAP_VER_VER, R.RSV_MACH_REAR, R.BRK_CFG_SPD_TOL, R.BRK_CFG_AGE_MAX, R.BRK_CFG_MISS_N, R.BRK_CFG_STILL_SPD, R.BRK_CFG2_BACK_TOL,
    R.BRK_CFG2_AUTH_ACK_T, R.BRK_IN_DISC_T, R.BRK_WD_CFG_ACTION, R.BRK_WD_CFG_PERIOD, R.BRK_MODEL_A_BRAKE, R.BRK_MODEL_A_ACC, R.BRK_MODEL_VALID,
    R.BRK_MODEL_T, R.BRK_MODEL_V_MAX, R.BRK_MODEL_FRONT, R.BRK_MODEL_MODEL_CRC, R.WB_POOL_MEMBER, R.WB_CFG_DONE_RING, R.WB_CFG_DISP_RING,
    R.WB_CFG_EVT_RING, R.WB_CFG_EVT_EN, R.WB_CFG2_ORDER_TRIES, R.RAD_ADMIT_LO_SERIAL_LO, R.RAD_ADMIT_HI_SERIAL_HI, R.RAD_ADMIT_VALID_VALID,
    R.RAD_TIMING_WIN, R.RAD_TIMING_TCORR_THR].contains f || f.store == .part 4

/-- A register of the cell's state that a copy carries (R246, R247, R296, R348, R394, R474, R510, R543). -/
def copiedState (f : Fld) : Bool :=
  let own := [R.RSV_STATUS_COMPARE_OK, R.RSV_STATUS_GRANT_HOLD, R.RSV_STATUS_COMMIT_BUSY, R.RSV_STATUS_QUEUE, R.RSV_STATUS_PARKED,
    R.RSV_COUNTS_GRANTS, R.RSV_COUNTS_REFUSALS, R.RSV_ENG_CAUSE, R.RSV_ENG_ECC_FIX, R.BRK_STATUS_DRAG_OUT, R.BRK_IN_A, R.BRK_IN_B, R.BRK_LAT_LAST_US,
    R.BRK_LAT_MAX_US, R.WB_FIFO_DEPTH, R.WB_STATUS_FIFO_FULL, R.WB_COUNTS_ENDED, R.WB_COUNTS_REPEATS, R.WB_COUNTS_EVT_DISCARD, R.WB_DELAY_LAG_MAX, R.WB_TICK_TICK,
    R.WB_PEEK_DATA_DATA, R.WB_RESTART_LINE, R.WB_RESTART_STAT_VALID, R.CTL_STATUS_HELD, R.CTL_EVAL_LAG_MAX, R.AXS_AX_STAT_LIM_LO,
    R.AXS_AX_STAT_LIM_HI, R.AXS_AX_STAT_HOME]
  [R.BRK_IN_DISC, R.RSV_BOUND_SEG, R.RSV_BOUND_STATE, R.RSV_BOUND_SEQ, R.MTR_SRC_CFG_BOUND, R.RAD_KEY_SWITCH_LO_SFN_LO, R.RAD_KEY_SWITCH_HI_SFN_HI,
    R.RAD_KEY_CFG_SWITCH_ARMED, R.AXS_AX_STAT_LIM_STOP, R.YRD_AUTO_WAITING, R.YRD_AUTO_ALLOTTED, R.WB_MACH_DISABLE].contains f ||
    ([0x8, 0x9, 0xA, 0xD, 0xE].contains f.block && f.acc == .ro && f.store == .vol && !own.contains f)

/-- The stores that hold copied registers. -/
def copyStores : List Store := [.vol, .mram, .part 0, .part 1, .part 3, .part 4]

/-- Keys of the fields that satisfy a test. -/
def keyIn (p : Fld → Bool) (k : Nat) : Bool := regMap.any fun f => p f && f.owns k

/-- The registers of the fields that satisfy a test. -/
def RegFile.pick (r : RegFile) (p : Fld → Bool) : RegFile :=
  copyStores.foldl (fun (x : RegFile) (s : Store) => x.upd s ((r.sel s).filter fun e => keyIn p e.1)) {}

/-- The registers of these fields replaced by those of a copy. -/
def RegFile.adopt (r c : RegFile) (p : Fld → Bool) : RegFile :=
  copyStores.foldl (fun (x : RegFile) (s : Store) =>
    let keep := (x.sel s).filter fun e => !keyIn p e.1
    x.upd s (((c.sel s).filter fun e => keyIn p e.1).foldl (fun (t : Tab Nat) (e : Nat × Nat) => tabPut t e.1 e.2) keep)) r

/-- The copy of the cell's state taken now (R614). -/
def Dev.takeCopy (d : Dev) : CellCopy :=
  { no := d.nextCopy % 2 ^ 32, t := d.now, mono := d.clk.mono, regs := d.regs.pick fun f => copiedSetting f || copiedState f
    rsv := d.rsv, brk := d.brk, wb := d.wb, ctl := d.ctl, axs := d.axs, src := d.mtr.src, acct := d.mtr.acct, poAcc := d.mtr.poAcc
    auto := d.yrd.auto, hwM := d.rad.hwM, hwSer := d.rad.hwSer }

/-- The frames of a body of records (R613): the first carries BASE_NO and T_C. -/
def Dev.copyFrames (d : Dev) (no full : Nat) : Nat → List Byte → Dev
  | 0, b => d.dbSend 3 (1 + full) no (b.take 4048)
  | k + 1, b => if b.length ≤ 4048 then d.dbSend 3 (1 + full) no b else (d.dbSend 3 full no (b.take 4048)).copyFrames no full k (b.drop 4048)

/-- A copy is taken and sent (R614): FULL when one is due, or when none has been acknowledged. -/
def Dev.sendCopy (d : Dev) : Dev :=
  if d.get R.PAIR_STATUS_LINK = 0 || d.pair.refused then d
  else
    let c := d.takeCopy
    let base := d.pair.sent.find? fun x => x.no == d.get R.PAIR_ACKED_COPY_NO
    let full := d.pair.full || base.isNone
    let b := if full then 0 else d.get R.PAIR_ACKED_COPY_NO
    let body := u32 b ++ zeros 4 ++ u64 c.t ++ Config.copyBytes (if full then {} else base.getD {}) c
    let d := (d.set R.PAIR_COPY_COPY_NO c.no).copyFrames c.no (2 * b2n full) 400 body
    { d with pair := { d.pair with full := false, sent := (d.pair.sent ++ [c]).drop (d.pair.sent.length - 63) } }

/-! ### Applying a copy (R615-R617) -/

/-- The answer to a copy (R613); its T_TX is kept. -/
def Dev.sendAck (d : Dev) (no st : Nat) : Dev :=
  let d' := d.dbSend 4 0 no (u64 d.pair.t2 ++ u8 st ++ u8 (b2n (d.on R.PAIR_STATUS_READY)) ++ zeros 6)
  { d' with pair := { d'.pair with t3 := some d.now } }

/-- The settings of a copy are written into the standby's own stores (R616). -/
def Dev.storeCopy (d : Dev) (c : CellCopy) : Dev :=
  let d := { d with
    regs := d.regs.adopt c.regs copiedSetting
    rsv := { d.rsv with map := c.rsv.map, mapBad := false }
    wb := { d.wb with templates := c.wb.templates }
    ctl := { d.ctl with banks := c.ctl.banks, tables := c.ctl.tables } }
  d.put R.RSV_STATUS_MAP_OK d.mapOk

/-- A copy shows whole-cell drag (R33). -/
def CellCopy.drag (c : CellCopy) : Bool := ((tabFind c.regs.vol (R.BRK_SRC_SRC.key 0 0)).getD 4) != 0

/-- A whole copy in time is applied whole, and answered (R615). -/
def Dev.applyCopy (d : Dev) (x : CopyRx) : Dev :=
  let d := { d with pair := { d.pair with rx := none } }
  let fits : Bool := x.full || (match d.pair.held with | some h => h.no == x.base | none => false)
  if !fits then d.sendAck x.no 1
  else
    let c := { Config.copyRecords (if x.full then {} else d.pair.held.getD {}) x.body with no := x.no, t := x.t }
    let own := match d.pair.own.find? (fun (o : Nat × Tab Int) => o.1 == x.t) with | some o => o.2 | none => d.mtr.src
    let d := (d.storeCopy c).set R.PAIR_COPY_COPY_NO x.no
    let d := { d with pair := { d.pair with held := some c, ownSrc := own }, rad := { d.rad with copyDrag := c.drag } }
    d.readyEval.sendAck x.no 0

/-- A COPY frame (R613, R615). -/
def Dev.copyFrame (d : Dev) (f : List Byte) : Dev :=
  let next := d.pair.rxFcnt
  match d.dbTake f 3 with
  | (none, d) => d
  | (some b, d) =>
    if d.reins || d.get R.PAIR_STATUS_ROLE = 3 then d
    else
      let no := fld f 20 4
      let d := match d.pair.rx with
        | some x => if x.no = no then d else (d.inc R.PAIR_ERR_COPY_DROP).sendAck x.no 2
        | none => d
      let miss := fld f 12 6 != next
      let x : CopyRx := match d.pair.rx with
        | some x => if x.no = no then { x with body := x.body ++ b, gap := x.gap || miss } else { no := no, base := fld b 0 4, t := fld b 8 8, full := bitOf (fld f 1 1) 1, body := b.drop 16, gap := miss }
        | none => { no := no, base := fld b 0 4, t := fld b 8 8, full := bitOf (fld f 1 1) 1, body := b.drop 16, gap := miss }
      let d := { d with pair := { d.pair with rx := some x } }
      if bitOf (fld f 1 1) 0 && !x.gap && d.now ≤ x.t + 5 * ms then d.applyCopy x else d

/-- COPY_RX (R615): the frames of a copy that arrive together. -/
def execCopyRx (frames : List (List Byte)) (s : State) : Res :=
  onRun .bar (fun d => frames.foldl (fun (d : Dev) (f : List Byte) => d.copyFrame f) d) s

/-- COPY_DEADLINE (R615). -/
def execCopyDeadline (s : State) : Res :=
  onRun .bar (fun d => match d.pair.rx with
    | some x =>
      let d := d.passTo (x.t + 5 * ms)
      ({ d with pair := { d.pair with rx := none } }.inc R.PAIR_ERR_COPY_DROP).sendAck x.no 2
    | none => d) s

/-- θ is measured (R617). -/
def Dev.thetaSet (d : Dev) (th : Int) : Dev :=
  let bad := decide (2000 < th.natAbs)
  let was := d.on R.PAIR_STATUS_TIME_FAULT
  let d := { (d.sati R.PAIR_TOFS_THETA th).put R.PAIR_STATUS_TIME_FAULT bad with pair := { d.pair with theta := true } }
  (if bad && !was then d.record 0x1107 (s32 (clamp2 32 th)) else d).readyEval

/-- The lease as PAIR_LEASE shows it. -/
def Dev.leaseView (d : Dev) : Dev :=
  let till := match d.get R.PAIR_STATUS_ROLE with
    | 1 => d.pair.lease
    | _ => d.pair.leaseAt.map fun t => t + 30010000
  match till with
  | some t => d.sat R.PAIR_LEASE_LEFT ((t - d.clk.mono) / 1000)
  | none => d.set R.PAIR_LEASE_LEFT 0

/-- LEASE_RX (R617, R620): θ from the pair of LEASE and ACK before, and the watch on the partner's lease starts again. -/
def Dev.leaseRx (d : Dev) (f : List Byte) : Dev :=
  match d.dbTake f 2 with
  | (none, d) => d
  | (some b, d) =>
    if d.reins || d.get R.PAIR_STATUS_ROLE = 3 then d
    else
      let p := d.pair
      let t4 := fld b 12 8
      let d := match p.t3 with
        | some t3 => if t4 = 0 then d else d.thetaSet (Int.tdiv (((p.t2 : Int) - p.t1) - ((t4 : Int) - t3)) 2)
        | none => d
      let d := { d with pair := { d.pair with
        t1 := fld f 24 8, t2 := d.now, t3 := none, leaseAt := some d.clk.mono, expired := false, lapsed := false, wasReady := d.on R.PAIR_STATUS_READY } }
      d.leaseView

/-- LEASE_RX (R617). -/
def execLeaseRx (f : List Byte) (s : State) : Res := onRun .bar (fun d => d.leaseRx f) s

/-- ACK_RX (R614, R617): acknowledged copies release what waited for them. -/
def Dev.ackRx (d : Dev) (f : List Byte) : Dev :=
  match d.dbTake f 4 with
  | (none, d) => d
  | (some b, d) =>
    if !d.reins then d
    else
      let no := fld f 20 4
      let st := fld b 8 1
      let d := { d with pair := { d.pair with t4 := d.now, full := d.pair.full || st == 1 } }
      let d := if st = 0 && d.get R.PAIR_ACKED_COPY_NO ≤ no && no ≤ d.get R.PAIR_COPY_COPY_NO then
          { d.set R.PAIR_ACKED_COPY_NO no with pair := { d.pair with sent := d.pair.sent.filter fun c => no ≤ c.no } }
        else d
      (d.put R.PAIR_STATUS_PARTNER_READY (bitOf (fld b 9 1) 0)).copyGate

/-- ACK_RX (R617). -/
def execAckRx (f : List Byte) (s : State) : Res := onRun .bar (fun d => d.ackRx f) s

/-! ### HELLO, and the partner (R613, R628) -/

/-- ACCEPT of the parts that run, 20 bytes each (R613). -/
def Dev.helloAccept (d : Dev) : List Byte := (List.range 5).flatMap fun p => match d.runHdr p with | some h => fit 20 (imgAccept h) | none => zeros 20

/-- HELLO goes out. -/
def Dev.sendHello (d : Dev) : Dev :=
  let body := u8 (d.get R.PAIR_STATUS_ROLE) ++ u8 d.level ++ u8 (d.get R.TIME_STATUS_SRC) ++
    u8 (b2n (d.on R.PAIR_STATUS_READY) + 2 * b2n d.ownFault) ++ d.helloAccept
  let sent := d.paired && d.get R.PAIR_STATUS_LINK != 0 && d.dbKey.isSome
  let d := d.dbSend 1 0 0 body
  if sent then { d with pair := { d.pair with helloSent := true, helloSf := d.sfn + 1 } } else d

/-- HELLO_TX (R613): once per superframe. -/
def execHelloTx (s : State) : Res := onRun .bar (fun d => if d.pair.helloSf = d.sfn + 1 then d else d.sendHello) s

/-- One part's entry of ACCEPT; all zero where the part does not run. -/
def accOf (acc : List Byte) (p : Nat) : List Byte := (acc.drop (20 * p)).take 20

/-- The parts of one device accept those of the other. -/
def acceptAll (a b : List Byte) : Bool :=
  (List.range 5).all fun p => (List.range 5).all fun q =>
    (accOf a p).all (· == 0) || (accOf b q).all (· == 0) || accepts (accOf a p) q (fld (accOf b q) (4 * q) 2)

/-- The ten parts of the two devices are compatible (R591). -/
def Dev.pairCompat (d : Dev) : Bool := acceptAll d.helloAccept d.pair.acc && acceptAll d.pair.acc d.helloAccept

/-- The drawbar is synchronized (R626). θ needs a LEASE and ACK pair, so between two devices without the reins it does not
count (log entry 63). -/
def Dev.synced (d : Dev) : Bool :=
  d.get R.PAIR_STATUS_LINK != 0 && d.pair.hello && d.pair.helloSent && !d.pair.refused && (d.pair.theta || d.pair.role != 1)

/-- What a paired device without reins waits for after its boot (R626). -/
def Dev.mayStart (d : Dev) : Bool :=
  d.paired && d.get R.PAIR_STATUS_ROLE == 0 && d.pair.started.isSome && d.pair.sw.isNone && d.synced &&
    1 ≤ d.get R.TIME_STATUS_SRC && d.get R.TIME_STATUS_SRC ≤ 3

/-- The device becomes the standby; a claimant yields (R626). -/
def Dev.standBy (d : Dev) (winner : Nat) : Dev :=
  let d := if d.pair.claimAt.isSome then (d.dbSend 8 0 0 []).record 0x1105 (u16 winner) else d
  ({ d with pair := { d.pair with claimAt := none } }.roleSet 2).readyEval

/-- The partner is refused (R628), event 0x1106. -/
def Dev.refusePartner (d : Dev) (cause : Nat) : Dev :=
  let d := if d.pair.refused then d else d.record 0x1106 (u8 (Config.argCode 0x1106 cause))
  { d with pair := { d.pair with refused := true, held := none, rx := none } }.partnerSet false

/-- HELLO_RX (R613, R628). One that does not authenticate refuses a partner not yet accepted; from an accepted one it only counts
(DEDUCED, log entry 63). -/
def Dev.helloRx (d : Dev) (f : List Byte) : Dev :=
  match d.dbRecv f 1 with
  | (.no, d) => d
  | (.forged, d) => if d.pair.hello then d else d.refusePartner 3
  | (.alien, d) => (d.set R.PAIR_STATUS_CELL_MISMATCH 1).refusePartner 0
  | (.body b, d) =>
    let dev := fld f 2 2 % 1024
    if dev = d.id then (d.set R.PAIR_STATUS_CELL_MISMATCH 1).refusePartner 0
    else
      let first := !d.pair.hello
      let d := { d with pair := { d.pair with hello := true, role := fld b 0 1, level := fld b 1 1, fault := bitOf (fld b 3 1) 1, acc := (b.drop 4).take 100 } }
      let d := ((d.set R.PAIR_STATUS_PARTNER_ID dev).set R.PAIR_STATUS_PARTNER_VALID 1).set R.PAIR_STATUS_CELL_MISMATCH 0
      if !d.pairCompat then (d.set R.PAIR_STATUS_COMPAT 0).refusePartner 1
      else
        let d := { d.set R.PAIR_STATUS_COMPAT 1 with pair := { d.pair with full := d.pair.full || first || d.pair.refused, refused := false } }
        let d := if d.reins then d.partnerSet (bitOf (fld b 3 1) 0) else d
        let d := if (d.mayStart || d.pair.claimAt.isSome) && d.pair.role = 1 then d.standBy dev else d
        d.readyEval

/-- HELLO_RX (R613). -/
def execHelloRx (f : List Byte) (s : State) : Res := onRun .bar (fun d => d.helloRx f) s

/-! ### Lanes (R610) -/

/-- LINK follows the lanes. -/
def Dev.linkView (d : Dev) : Dev := d.set R.PAIR_STATUS_LINK d.pair.lanes.length

/-- DRAWBAR_LANE_LOCK (R610): with the first lane the link comes up. -/
def execDrawbarLaneLock (lane : Nat) (s : State) : Res :=
  onRun .bar (fun d =>
    if 2 ≤ lane || !d.paired || d.pair.lanes.contains lane then d
    else
      let first := d.pair.lanes.isEmpty
      let d := { d with pair := { d.pair with lanes := lane :: d.pair.lanes } }.linkView
      if first then ({ d with pair := { d.pair with full := true } }.record 0x1103 (u8 (Config.argCode 0x1103 0))).sendHello else d) s

/-- DRAWBAR_LANE_FAULT (R610): with the last lane the link goes down (R630). -/
def execDrawbarLaneFault (lane : Nat) (s : State) : Res :=
  onRun .bar (fun d =>
    if !d.pair.lanes.contains lane then d
    else
      let d := { d with pair := { d.pair with lanes := d.pair.lanes.filter fun x => x != lane } }.linkView
      if d.pair.lanes.isEmpty then
        let d := d.record 0x1103 (u8 (Config.argCode 0x1103 1))
        ({ d with pair := { d.pair with hello := false, helloSent := false, rx := none } }.partnerSet false).readyEval
      else (d.raise R.PAIR_ERR_LANE_FAULT).record 0x1103 (u8 (Config.argCode 0x1103 2))) s

/-- PAIR_PRESENT_CHANGE (R610): it counts at the next reset. -/
def execPairPresentChange (asserted : Bool) (s : State) : Res :=
  onDev (fun d =>
    if asserted == d.pair.present then d
    else if !d.powered then { d with pair := { d.pair with present := asserted } }
    else ({ d with pair := { d.pair with present := asserted } }.raise R.PAIR_STATUS_PRESENT_CHG).record 0x1106 (u8 (Config.argCode 0x1106 2))) s

/-! ### Taking the reins (R618, R621) -/

/-- YOKE is driven, and the own lease begins. -/
def Dev.yokeOn (d : Dev) : Dev :=
  { d.set R.PAIR_STATUS_YOKE 1 with pair := { d.pair with
      drive := true, lease := some (d.clk.mono + 30 * ms), leaseAt := none, expired := false, lapsed := false, claimAt := none } }

/-- A waybill's tick times on this device's clock. -/
def Waybill.shift (w : Waybill) (k : Int) : Waybill :=
  let f := fun (t : Nat) => ((t : Int) + k).toNat
  { w with tAccept := f w.tAccept, tFire := w.tFire.map f, tDisp := w.tDisp.map f, tEnd := f w.tEnd, tState := f w.tState
           ops := w.ops.map fun o => { o with due := f o.due, req := if o.req = 2 then 3 else o.req } }

/-- The axes of a copy (R543): one that stood goes on standing; one that moved is left with its legs OFF. -/
def Axs.stand (x : Axs) : Axs :=
  { ax := tabMapV x.ax fun _ a =>
      if a.mot.isSome || a.homing.isSome || a.group.isSome then { prof := a.prof, homeSrc := a.homeSrc, homeNeg := a.homeNeg }
      else { a with desc := none, wb := none, next := none, nextDesc := none, edges := [], chopA := none, chopB := none }
    grp := [] }

/-- The axes that moved in a copy. -/
def Axs.moved (x : Axs) : List Nat := (x.ax.filter fun p => p.2.mot.isSome || p.2.homing.isSome || p.2.group.isSome).map fun p => p.1

/-- The accounts of a copy go on, with what this device measured since T_C (R474). -/
def Dev.adoptMeters (d : Dev) (c : CellCopy) : Dev :=
  let own := d.mtr.src
  let base := d.pair.ownSrc
  let d := { d with mtr := { d.mtr with src := c.src, acct := c.acct, poAcc := c.poAcc } }
  (List.range 26).foldl (fun (d : Dev) (s : Nat) =>
    let z := tabGet own s - tabGet base s
    let b := d.boundTo s
    let d := { d with mtr := { d.mtr with src := tabPut d.mtr.src s (tabGet d.mtr.src s + z) } }
    d.acctMod b fun a => { a with v := tabPut a.v s (tabGet a.v s + z), handoff := a.handoff || b < 256 }) d

/-- A warm takeover adopts the last applied copy under the rules of every block (R614, R621). -/
def Dev.adoptCopy (d : Dev) (c : CellCopy) : Dev :=
  let k : Int := ((d.clk.mono - (d.now - c.t)) / ms : Nat) - (c.mono / ms : Nat)
  let input := d.bit R.BRK_SRC_SRC 0
  let pins := d.axs.ax
  let d := { d with
    regs := d.regs.adopt c.regs (fun f => copiedSetting f || copiedState f)
    rsv := { c.rsv with queue := [], parked := [], commit := none, short := [], shadow := d.rsv.shadow, holdSf := d.sfn + 1 }
    brk := { d.brk with m := c.brk.m, order := c.brk.order, reissue := if d.level = 2 then 1 else 2, relCopy := none }
    wb := { c.wb with heldRecs := [], port := [], fifo := d.wb.fifo, fifoFull := d.wb.fifoFull, matched := none, store := tabMapV c.wb.store fun _ w => w.shift k }
    ctl := { c.ctl with dac := c.ctl.dac, lost := d.ctl.lost, loops := tabMapV c.ctl.loops fun _ l => { l with last := 0 } }
    axs := c.axs.stand
    yrd := { d.yrd with auto := c.auto }
    rad := { d.rad with hwM := c.hwM, hwSer := c.hwSer } }
  let d := (List.range 16).foldl (fun (d : Dev) (a : Nat) => d.axSet a { d.axis a with pins := (tabGet pins a).pins }) d
  let d := c.axs.moved.foldl (fun (d : Dev) (a : Nat) =>
    ((d.put R.AXS_AX_STAT_HOMED false a).setBit R.AXS_STATUS_HOMED a false).set R.AXS_AX_STAT_STATE 0 a |>.setBit R.AXS_STATUS_MOVING a false) d
  let d := if input then d.setSrc 0 true else d
  let d := if d.cellDrag then d.set R.BRK_STATUS_DRAG_OUT 1 else d
  let d := ((d.adoptMeters c).set R.RSV_STATUS_GRANT_HOLD 1).syncBound
  (d.wbTakeover.ctlTakeover.radTakeover).settle

/-- A cold takeover starts every block as after a reset (R621); frames are checked against the table of the last copy (R246). -/
def Dev.coldStart (d : Dev) : Dev :=
  let c : CellCopy := d.pair.held.getD { t := d.now }
  let t0 := c.t
  let d := d.interval 2 0x3FFFFFF t0 d.now
  let d := d.gapBound 0x3FFFFFF
  let input := d.bit R.BRK_SRC_SRC 0
  let keep := fun (f : Fld) => copiedState f
  let d := { d with
    regs := d.regs.adopt {} (fun (f : Fld) => keep f && f.store == Store.vol && f.block != 0xC)
    brk := { lowSince := d.brk.lowSince, diffAt := d.brk.diffAt }
    wb := { templates := d.wb.templates }
    axs := {}
    rad := { d.rad with hwM := c.hwM, hwSer := c.hwSer } }
  let d := if input then d.setSrc 0 true else d
  let d := (((d.set R.SYS_LEVEL_LEVEL (min 1 d.level)).set R.BRK_STATUS_DRAG_OUT 1).rsvBoot).ctlBoot
  let d := { d with rsv := { d.rsv with holdSf := d.sfn + 1 }, sys := { d.sys with hold := 0 } }.set R.RSV_STATUS_GRANT_HOLD 1
  (d.wbRestart none).radTakeover.settle

/-- The gap of R622 in 10 µs, up to the moment outputs are driven: from the T_EVENT the partner sent, else not known. -/
def Dev.gapOf (d : Dev) : Nat × Dev :=
  match d.pair.lapseT with
  | some t => ((d.now + ms - t) / 10000, d)
  | none => d.fresh

/-- The device takes the reins (R621): rows 1-3 of R620, 4 a switchover. -/
def Dev.takeover (d : Dev) (row : Nat) (warm : Bool) : Dev :=
  let warm := warm && d.pair.held.isSome
  let no := d.get R.PAIR_COPY_COPY_NO
  let held := d.pair.held
  let d := (d.yokeOn).roleSet 1
  let d := { d with pair := { d.pair with
    frozen := false, hiZ := false, driveAt := some (d.clk.mono + ms), bcnFrom := d.now + ms, full := true, sent := [] }, rad := { d.rad with inhibit := false } }
  let d := match warm, held with
    | true, some c => d.adoptCopy c
    | _, _ => d.coldStart
  let d := ((d.put R.PAIR_STATUS_READY false).put R.PAIR_STATUS_PARTNER_READY false)
  let d := d.dbSend 9 0 0 (u64 d.now ++ u8 0 ++ zeros 7)
  let (g, d) := d.gapOf
  let d := ((d.inc R.PAIR_TAKE_COUNT).set R.PAIR_TAKE_LAST_ROW row).put R.PAIR_TAKE_LAST_COLD (!warm)
  let d := (d.sat R.PAIR_GAP_LAST g).sat R.PAIR_GAP_MAX (max g (d.get R.PAIR_GAP_MAX))
  { d.record 0x1102 (u8 row ++ u8 (b2n (!warm)) ++ u32 no ++ u16 (min g 0xFFFF)) with pair := { d.pair with held := none, rx := none, lapseT := none } }

/-! ### Losing the reins (R619) -/

/-- Moves in progress complete ABORTED on the former device (R543). -/
def Dev.axesLeave (d : Dev) : Dev :=
  (List.range 16).foldl (fun (d : Dev) (a : Nat) =>
    let x := d.axis a
    if x.mot.isNone && x.homing.isNone && x.group.isNone then d
    else
      let d := d.axStand a
      let d := ((d.put R.AXS_AX_STAT_HOMED false a).setBit R.AXS_STATUS_HOMED a false).axSet a { d.axis a with coil := .off, next := none, nextDesc := none }
      (d.moveOver x.desc x.wb .aborted).moveOver x.nextDesc none .aborted) d

/-- The outputs freeze, transmission is inhibited, YOKE is let go (R619, R624). DRAG_OUT holds. -/
def Dev.letGo (d : Dev) : Dev :=
  { d.set R.PAIR_STATUS_YOKE 0 with pair := { d.pair with frozen := true, gates := d.allLegs, drive := false, lease := none }, rad := { d.rad with inhibit := true } }

/-- A LAPSED frame. -/
def Dev.sendLapsed (d : Dev) : Dev := d.dbSend 6 0 0 (u64 (d.pair.lapseT.getD 0) ++ u8 d.pair.lapseCause ++ zeros 7)

/-- The lease lapses, or the device hands over (R30 second row, R619): causes 1 and 2. -/
def Dev.lapse (d : Dev) (cause : Nat) : Dev :=
  let d := d.letGo
  let d := { d with pair := { d.pair with lapseT := some d.now, lapseCause := cause } }
  ((d.roleSet 3).axesLeave.put R.PAIR_STATUS_PARTNER_READY false).copyGate.sendLapsed

/-- LEASE_LAPSE (R619): at the end of the own lease. -/
def execLeaseLapse (s : State) : Res :=
  onRun .safe (fun d => match d.pair.lease with
    | some t => if d.paired && d.reins then (d.passToMono t).lapse 1 else d
    | none => d) s

/-- YOKE_SEEN_ASSERTED (R619): a lapsed device lets go of its outputs. -/
def execYokeSeenAsserted (s : State) : Res :=
  onRun .safe (fun d => if d.get R.PAIR_STATUS_ROLE = 3 then { d.set R.PAIR_STATUS_YOKE 1 with pair := { d.pair with hiZ := true } } else d) s

/-- YOKE_FAULT (R618). -/
def execYokeFault (s : State) : Res :=
  onRun .safe (fun d => if d.paired then (d.raise R.PAIR_STATUS_YOKE_FAULT).record 0x1103 (u8 (Config.argCode 0x1103 3)) else d) s

/-! ### The partner's lease (R620) -/

/-- LAPSED_RX (R620). -/
def execLapsedRx (f : List Byte) (s : State) : Res :=
  onRun .bar (fun d => match d.dbTake f 6 with
    | (none, d) => d
    | (some b, d) => if d.reins || d.get R.PAIR_STATUS_ROLE = 3 then d else { d with pair := { d.pair with lapseT := some (fld b 0 8), lapsed := d.pair.lapsed || d.pair.expired } }) s

/-- The first row of R620: the lease has expired and YOKE is released. -/
def Dev.partnerExpiry (d : Dev) (yoke : Bool) : Dev :=
  match d.pair.leaseAt with
  | none => d
  | some t =>
    if d.get R.PAIR_STATUS_ROLE != 2 then d
    else
      let d := (d.passToMono (t + 30010000)).put R.PAIR_STATUS_YOKE yoke
      let d := { d with pair := { d.pair with expired := true } }.leaseView
      if yoke then d else d.takeover 1 d.pair.wasReady

/-- PARTNER_LEASE_EXPIRY (R620): 30.01 ms after the last LEASE, told how YOKE stands. -/
def execPartnerLeaseExpiry (yoke : Bool) (s : State) : Res := onRun .safe (fun d => d.partnerExpiry yoke) s

/-- TAKEOVER_DELAYED (R620): the second row, 90 ms after the last LEASE. -/
def execTakeoverDelayed (s : State) : Res :=
  onRun .safe (fun d => match d.pair.leaseAt with
    | some t => if d.get R.PAIR_STATUS_ROLE = 2 && d.pair.expired && d.on R.PAIR_STATUS_YOKE && d.pair.lapsed then
        (d.passToMono (t + 90 * ms)).takeover 2 d.pair.wasReady else d
    | none => d) s

/-- TAKEOVER_BEACON_LOSS (R620): the third row, after three superframes without a beacon of the cell. -/
def execTakeoverBeaconLoss (s : State) : Res :=
  onRun .safe (fun d =>
    if d.get R.PAIR_STATUS_ROLE = 2 && d.pair.expired && d.on R.PAIR_STATUS_YOKE && !d.pair.lapsed then
      (d.passTo ((d.rad.cellBcn + 3) * superframe)).takeover 3 false
    else d) s

/-! ### Switching over (R624, R625) -/

/-- PAIR_SWITCH on a taken descriptor (R625, R632). -/
def Dev.pairSwitch (d : Dev) (q : Desc) : Dev :=
  if !resvOk q.area [(0, 1)] then d.complete q .badDescriptor
  else if !d.reins then d.complete q .notHoldingReins
  else if !d.partnerReady || d.get R.IMG_STATUS_TRIAL_PART != 7 || d.pair.sw.isSome then d.complete q .refusedState
  else { d with pair := { d.pair with sw := some (some q, none) } }

/-- PAIR_SWITCH (R625). -/
def execPairSwitch (s : State) : Res := onDev (fun d => match d.take 0x11 1 with | some (q, d) => d.pairSwitch q | none => d) s

/-- T_s: the first fleet cycle boundary that lies 10 ms before a superframe start (R624). -/
def Dev.switchAt (d : Dev) : Nat := (d.now + fleetCycle + superframe - 1) / superframe * superframe - fleetCycle

/-- The switch at T_s (R624): outputs frozen, YOKE released, the final copy and RELEASE sent. -/
def Dev.switchRun (d : Dev) : Dev :=
  match d.pair.sw with
  | some (q, none) =>
    if !d.reins then d
    else
      let d := d.passTo d.switchAt
      let d := d.letGo.sendCopy
      let d := d.dbSend 5 0 0 (u64 d.now ++ u8 0 ++ zeros 7)
      { d with pair := { d.pair with sw := some (q, some d.clk.mono) } }.roleSet 0
  | _ => d

/-- PAIR_SWITCH_RUN (R624). -/
def execPairSwitchRun (s : State) : Res := onRun .safe Dev.switchRun s

/-- PAIR_SWITCH_TIMEOUT (R624): 20 ms without TAKEN, YOKE still released. -/
def Dev.switchTimeout (d : Dev) (yoke : Bool) : Dev :=
  match d.pair.sw with
  | some (q, some t) =>
    let d := (d.passToMono (t + 20 * ms)).put R.PAIR_STATUS_YOKE yoke
    if yoke then d
    else
      let d := d.yokeOn.roleSet 1
      let d := { d with pair := { d.pair with sw := none, frozen := false }, rad := { d.rad with inhibit := false } }
      let d := d.record 0x1102 (u8 4 ++ u8 0 ++ u32 (d.get R.PAIR_COPY_COPY_NO) ++ u16 2000)
      match q with | some q => d.complete q .aborted | none => d
  | _ => d

/-- PAIR_SWITCH_TIMEOUT (R624), told how YOKE stands. -/
def execPairSwitchTimeout (yoke : Bool) (s : State) : Res := onRun .safe (fun d => d.switchTimeout yoke) s

/-- TAKEN_RX (R619, R624): a lapsed device lets go; one that switched becomes the standby. -/
def Dev.takenRx (d : Dev) (f : List Byte) : Dev :=
  match d.dbTake f 9 with
  | (none, d) => d
  | (some _, d) =>
    match d.pair.sw with
    | some (q, some _) =>
      let d := { d with pair := { d.pair with sw := none, frozen := false, hiZ := true }, rad := { d.rad with inhibit := false } }
      let d := (((d.set R.PAIR_STATUS_YOKE 1).roleSet 2).axesLeave.put R.PAIR_STATUS_PARTNER_READY false).copyGate
      let d := match q with | some q => d.complete q .done | none => d
      d.dragOutFollow
    | _ => if d.get R.PAIR_STATUS_ROLE = 3 then { d.set R.PAIR_STATUS_YOKE 1 with pair := { d.pair with hiZ := true } } else d

/-- TAKEN_RX (R619). -/
def execTakenRx (f : List Byte) (s : State) : Res := onRun .bar (fun d => d.takenRx f) s

/-- RELEASE_RX (R624): the standby takes the reins, warm. -/
def execReleaseRx (f : List Byte) (s : State) : Res :=
  onRun .bar (fun d => match d.dbTake f 5 with
    | (none, d) => d
    | (some b, d) => if d.get R.PAIR_STATUS_ROLE = 2 then ({ d with pair := { d.pair with lapseT := some (fld b 0 8) } }.put R.PAIR_STATUS_YOKE false).takeover 4 true else d) s

/-- SKY_REINS_PASS (R41): the partner has shown the higher level for 10 fleet cycles; the holder of the reins hands them over. -/
def execSkyReinsPass (s : State) : Res :=
  onRun .safe (fun d =>
    if d.reins && 10 ≤ d.pair.higher && d.partnerReady && d.get R.IMG_STATUS_TRIAL_PART = 7 && d.pair.sw.isNone then
      { d with pair := { d.pair with sw := some (none, none) } }
    else d) s

/-! ### Starting a pair (R626, R627) -/

/-- The claim is won: YOKE asserted (R626 step 3). -/
def Dev.claimWon (d : Dev) : Dev :=
  let claimed := d.pair.claimAt.isSome
  let d := (d.yokeOn).roleSet 1
  let d := { d with pair := { d.pair with hiZ := false, full := true } }
  let d := if claimed then d.record 0x1105 (u16 d.id) else d
  (((d.inc R.PAIR_TAKE_COUNT).set R.PAIR_TAKE_LAST_ROW 5).set R.PAIR_TAKE_LAST_COLD 0).keyCheck

/-- PAIR_CLAIM (R626 steps 1 and 2), told how YOKE stands: CLAIM goes out at a fleet cycle boundary. In WATCH and DEEP no reins are
taken (R50). -/
def execPairClaim (yoke : Bool) (s : State) : Res :=
  onRun .bar (fun d =>
    let d := if d.pair.drive then d else d.put R.PAIR_STATUS_YOKE yoke
    if !d.mayStart || d.pair.claimAt.isSome then d
    else if yoke || d.pair.role = 1 then d.standBy (d.get R.PAIR_STATUS_PARTNER_ID)
    else
      let d := (d.passTo ((d.now + fleetCycle - 1) / fleetCycle * fleetCycle)).dbSend 7 0 0 []
      { d with pair := { d.pair with claimAt := some d.clk.mono } }) s

/-- PAIR_YOKE_ASSERT (R626 step 3): one fleet cycle of listening and DEV × 10 µs have passed, told how YOKE stands. -/
def execPairYokeAssert (yoke : Bool) (s : State) : Res :=
  onRun .safe (fun d => match d.pair.claimAt with
    | some t =>
      let d := (d.passToMono (t + fleetCycle + d.id * 10000)).put R.PAIR_STATUS_YOKE yoke
      if yoke then d.standBy (d.get R.PAIR_STATUS_PARTNER_ID) else d.claimWon
    | none => d) s

/-- CLAIM_RX (R626): a lower device ID makes a claimant yield. -/
def execClaimRx (f : List Byte) (s : State) : Res :=
  onRun .bar (fun d => match d.dbTake f 7 with
    | (none, d) => d
    | (some _, d) => if d.pair.claimAt.isSome && fld f 2 2 % 1024 < d.id then d.standBy (fld f 2 2 % 1024) else d) s

/-- YIELD_RX (R626): the partner leaves the claim to this device, which goes on with it. -/
def execYieldRx (f : List Byte) (s : State) : Res := onRun .bar (fun d => (d.dbTake f 8).2) s

/-- PAIR_SOLO_CLAIM (R627), told how YOKE stands. -/
def execPairSoloClaim (yoke : Bool) (s : State) : Res :=
  onRun .safe (fun d => match d.pair.started with
    | some t =>
      let n := d.get R.PAIR_CFG_SOLO_T * second
      let src := d.get R.TIME_STATUS_SRC
      if n = 0 || !d.paired || d.get R.PAIR_STATUS_ROLE != 0 || d.synced || src = 0 || 3 < src then d
      else
        let d := d.passToMono (t + n)
        if d.rad.cellBcn != 0 && d.now ≤ (d.rad.cellBcn - 1) * superframe + n then d
        else
          let d := (d.pass (d.id * 10000)).put R.PAIR_STATUS_YOKE yoke
          if yoke then d else d.claimWon
    | none => d) s

/-! ### The fleet cycle boundary (R614, R618, R619) -/

/-- The pair's part of a fleet cycle boundary: measured sources kept, the lease renewed and a copy sent, or LAPSED. -/
def Dev.pairBoundary (d : Dev) : Dev :=
  if !d.paired then d
  else
    let d := { d with pair := { d.pair with
      own := (d.pair.own ++ [(d.now, d.mtr.src)]).drop (d.pair.own.length - 1), higher := if d.level < d.pair.level then d.pair.higher + 1 else 0 } }
    let d := match d.get R.PAIR_STATUS_ROLE with
      | 1 =>
        if d.sys.pkg || !d.runs .sup then d
        else
          let d := { d with pair := { d.pair with lease := some (d.clk.mono + 30 * ms) } }
          (d.dbSend 2 0 0 (u64 (d.now + 30 * ms) ++ u8 (d.get R.BRK_SRC_SRC) ++ zeros 3 ++ u64 d.pair.t4)).sendCopy
      | 3 => d.sendLapsed
      | _ => d
    d.leaseView.readyEval

end Sys2Proof.Machine
end

