-- ==== Sys2Proof/Machine/Power.lean ====
section
/-!
DEFINITION. Supplies, resets, boot and power states (R44-R57, R70-R75, R650-R652, R663-R667): the tailboard written at a
cut and taken at the restart, what a reset keeps, the boot sequence, WATCH and DEEP, the wake sources.
-/

namespace Sys2Proof.Machine

/-! ### The tailboard at a cut (R648-R651) -/

/-- The content of a line by its source and ordinal; an EVT line without an unflushed record is not written (R649). -/
def Dev.tailLine (d : Dev) (kj : List Byte) (src ord : Nat) : Option (List Byte) :=
  match src with
  | 1 => some (d.meterLine ord)
  | 2 => some (d.lotsLine ord)
  | 3 => some kj
  | 4 => (d.evt.buf.reverse[ord]?).map recBytes
  | 5 => some d.wayBLine
  | 6 => some ((List.range 8).flatMap fun w => u32 (d.get R.TLB_USER_DATA ord w))
  | _ => none

/-- The lines of the allotment in force, in line order. -/
def Dev.tailLines (d : Dev) (kj : List Byte) : List TlbLine :=
  (List.range 16).filterMap fun i =>
    let src := bits d.allot (4 * i) 4
    let ord := ((List.range i).filter fun k => bits d.allot (4 * k) 4 == src).length
    (d.tailLine kj src ord).map fun b => ({ line := i, src := src, ord := ord, content := fit 32 b } : TlbLine)

/-- A save of the tailboard (R650): `n` lines are finished before power ends (none: not even the header). While a manifest
waits to be taken nothing is written (R652). -/
def Dev.saveTail (d : Dev) (n : Option Nat) : Dev :=
  if !d.on R.TLB_STATUS_READY || (!d.on R.TLB_STATUS_CONSUMED && d.tlb.manifest.saveId != 0) then d
  else
    let id := (d.tlb.manifest.saveId + 1) % 2 ^ 32
    match n with
    | none => { d with tlb := { d.tlb with headerOk := false, manifest := { d.tlb.manifest with saveId := id, lines := [] } } }.set R.TLB_STATUS_CONSUMED 0
    | some n =>
      let x := d.keyjLine
      let d := x.2
      let l := (d.tailLines x.1).take n
      let m : Manifest := { saveId := id, recNext := d.evt.next, tCut := d.now, allot := d.allot, boot := d.get R.RING_BOOT_BOOT, lines := l }
      let d := { d with tlb := { d.tlb with headerOk := true, manifest := m } }.set R.TLB_STATUS_CONSUMED 0
      let d := ((d.set R.TLB_CUT_LO_T_CUT m.tCut).set R.TLB_CUT_HI_T_CUT (m.tCut / 2 ^ 32)).set R.TLB_SAVE_SAVE_ID id
      (d.set R.TLB_LAST_LINES l.length).set R.TLB_LAST_T_US (120 + 160 * l.length)

/-! ### What a reset keeps (R10, R53, R65) -/

/-- A reset: SRAM and every register that is not kept go, MRAM, the AON island, the flash and the fuses stay, RING_BOOT
rises (R428). `wake` is the WAKE_SRC of R71. -/
def Dev.sysReset (d : Dev) (wake : Option Nat) : Dev :=
  let e : Dev := {
    clk := { yard := d.clk.yard, slew := d.clk.slew, slewAcc := d.clk.slewAcc }
    regs := { d.regs with vol := [] }
    evt := { nv := d.evt.nv, next := d.evt.next, started := d.evt.started, committed := d.evt.committed, finalMark := d.evt.finalMark }
    tlb := { manifest := d.tlb.manifest, headerOk := d.tlb.headerOk }
    key := { nv := d.key.nv }
    tim := { stored := d.tim.stored, arpH := d.tim.arpH }
    mtr := { saved := d.mtr.saved, dir := d.mtr.dir, ivs := d.mtr.ivs, ivSeq := d.mtr.ivSeq, ivOpen := d.mtr.ivOpen.filter fun p => p.1 == ivDeep }
    aon := d.aon
    rsv := { map := d.rsv.map, mapBad := d.rsv.mapBad, bound := d.rsv.bound }
    wb := { templates := d.wb.templates }
    ctl := { banks := d.ctl.banks, tables := d.ctl.tables }
    img := { flash := d.img.flash, stage := d.img.stage, stores := d.img.stores, writes := d.img.writes, writeLast := d.img.writeLast }
    pair := { present := d.pair.present }
    sys := { supplies := d.sys.supplies, vaon := d.sys.vaon, vaonLost := d.sys.vaonLost, xo := d.sys.xo, vin := d.sys.vin }
    out := d.out
    free := d.free }
  let e := e.set R.RING_BOOT_BOOT (d.get R.RING_BOOT_BOOT + 1)
  match wake with | some k => e.set R.PWR_STATUS_WAKE_SRC k | none => e

/-- The wipe of MRAM on entering RETURN or SCRAPPED (R65): keys, settings, calibration, saves, receive bitmaps, log and
tailboard. The images and the record of their slots are not in it. -/
def Dev.wipeMram (d : Dev) : Dev :=
  let d := d.wipeKeys
  let slots := keyIn fun f => [R.IMG_PART_STAT_RUN_SLOT, R.IMG_PART_STAT_STATE_A, R.IMG_PART_STAT_STATE_B, R.IMG_VER_VERSION, R.IMG_EPOCH_SEC_EPOCH,
    R.IMG_EPOCH_IF_EPOCH].contains f
  { d with
    regs := { d.regs with mram := d.regs.mram.filter fun p => slots p.1, parts := [] }
    evt := {}
    tlb := {}
    tim := { d.tim with stored := none, arpH := 0 }
    mtr := {}
    rsv := { d.rsv with map := [], mapBad := false, bound := [] }
    wb := { d.wb with templates := [] }
    ctl := { d.ctl with banks := [], tables := [] }
    img := { d.img with stores := [], stage := [], writes := 0, writeLast := 0 } }

/-! ### The restart of the recorder (R637, R652) -/

/-- A record restored from an EVT line. -/
def recOf32 (b : List Byte) : Rec :=
  { t := fld b 0 8, no := fld b 8 4, code := fld b 12 2, holdover := bitOf (fld b 14 1) 0, restored := true, boot := fld b 15 1, arg := fit 16 (b.drop 16) }

/-- This boot takes the manifest: a save began and no boot has taken it (R569, R652). -/
def Dev.takes (d : Dev) : Bool := !d.on R.TLB_STATUS_CONSUMED && d.tlb.manifest.saveId != 0

/-- The lines that count as written, with a given source. -/
def Dev.written (d : Dev) (src : Nat) : List TlbLine := if d.tlb.headerOk then d.tlb.manifest.lines.filter fun l => l.src == src else []

/-- The number of the first record after a restart (R637). A manifest left untaken by a boot that numbered past its REC_NEXT (one without SAFE, R56) gives no
number: none is ever used twice. -/
def Dev.restartNo (d : Dev) : Nat :=
  let past := match d.evt.committed with | some c => !recLe c d.tlb.manifest.recNext | none => false
  if d.takes && d.tlb.headerOk && !past then d.tlb.manifest.recNext
  else match d.evt.committed with
    | some n => if d.evt.finalMark then n else (n + 4096) % 2 ^ 32
    | none => if d.evt.started then 4096 else 0

/-- The recorder at a restart: the next REC_NO, the EVT lines restored and committed, record 0x1206. Without a header that
holds, what was lost and when are not known. -/
def Dev.evtRestart (d : Dev) : Dev :=
  let next := d.restartNo
  let base := d.evt.committed.getD 0
  let rs := (d.written 4).map fun l => recOf32 l.content
  let rs := sortNat (fun (r : Rec) => (r.no + 2 ^ 32 - base) % 2 ^ 32) (rs.filter fun r => !(d.evt.nv.any fun x => x.no == r.no))
  let take := d.takes
  let ok := take && d.tlb.headerOk
  let all := d.evt.nv ++ (if ok then rs else [])
  let d := { d with evt := { d.evt with
    next := next, nv := all.drop (all.length - 8192), committed := if ok then some next else d.evt.committed, finalMark := d.evt.finalMark && !ok } }
  let d := (d.set R.EVT_STATUS_NVM_OK 1).evtStatus
  if !take then d
  else if ok then d.record 0x1206 (u8 rs.length ++ zeros 3 ++ u32 ((next + 2 ^ 32 - base) % 2 ^ 32 - rs.length) ++ u64 d.tlb.manifest.tCut)
  else
    let x := d.fresh
    let y := x.2.fresh
    y.2.record 0x1206 (u8 0 ++ zeros 3 ++ u32 x.1 ++ u64 y.1)

/-- Buckets start full at every reset (R641). -/
def Dev.fillBuckets (d : Dev) : Dev :=
  (List.range 256).foldl (fun (d : Dev) (k : Nat) => d.set R.EVT_CLASS_STAT_TOKENS (d.get R.EVT_CLASS_LIM_BURST k) k) d

/-! ### The boot (R54) -/

/-- The code of a life-cycle record, whose number the spec does not give (log entry 62). -/
def lcCode (k : Nat) : Nat := 0x1400 + Config.evtNumber k % 256

/-- The code of a SYS record beside 0x0101 and 0x0102, whose number the spec does not give (log entry 62). -/
def sysCode (k : Nat) : Nat := 0x0100 + Config.evtNumber k % 256

/-- Reset release up to t0 + 0.2 ms: the fuses, the identity, the drag inputs and PAIR_PRESENT_N as sampled (R54, R55, R75,
R342, R610). -/
def Dev.readFuses (d : Dev) (f : Fuse) (b : BootIn) : Dev :=
  let d := { d with boot := f, clk := { yard := b.rtc }, sys := { d.sys with ran := true } }
  let d := ((d.set R.LC_STATE_STATE f.lc.code).put R.LC_STATE_WIPE_DONE f.wipeDone).set R.ID_DEV_DEV (d.get R.SYS_DEV_ID_NEXT_ID)
  let d := ((d.set R.ID_SERIAL_LO_SERIAL f.serial).set R.ID_SERIAL_HI_SERIAL (f.serial / 2 ^ 32)).put R.KEY_STATUS_ROOT_SET f.root.isSome
  let d := (List.range 5).foldl (fun (d : Dev) (p : Nat) => d.set R.IMG_EPOCH_SEC_EPOCH (tabGet f.epochs p) p) d
  let d := (d.put R.BRK_IN_A b.dragA).put R.BRK_IN_B b.dragB
  let d := (d.setBit R.BRK_SRC_SRC 0 (b.dragA || b.dragB)).put R.PAIR_STATUS_PAIRED d.pair.present
  d.put R.BRK_STATUS_DRAG_OUT (!d.pair.present || b.dragA || b.dragB)

/-- A slot holds an image that the boot can run. -/
def slotBoots (b : BootIn) (p s : Nat) : Bool := !b.bad.contains (2 * p + s)

/-- One part at boot: its RUNNING or FALLBACK slot, else the other slot when that is VALID, else none (R54, R56, R580). -/
def Dev.bootPart (d : Dev) (b : BootIn) (p : Nat) : Dev :=
  let ship := fun (d : Dev) (s : Nat) =>
    match tabFind b.shipped (2 * p + s) with
    | some x => if d.slotState p s = 0 then (d.slotFill p s (if d.slotState p (1 - s) = 0 then 2 else 1) x) else d
    | none => d
  let d := ship (ship d 0) 1
  let r := d.get R.IMG_PART_STAT_RUN_SLOT p
  let d := if d.slotState p r = 3 then (d.set R.IMG_STATUS_TRIAL_PART p).fallBack p 2 else d
  let run := ([0, 1].filter fun s => d.slotState p s == 2 || d.slotState p s == 4)
  let other := ([0, 1].filter fun s => d.slotState p s == 1 && slotBoots b p s)
  let down := fun (d : Dev) => { d with sys := { d.sys with down := d.sys.down ++ [p] } }
  match run, other with
  | s :: _, l =>
    if slotBoots b p s then ((d.slotSet p s 2).runSlot p s).setBit R.SYS_BOOT_STATUS_SLOT_B p (s == 1)
    else match l with
      | k :: _ =>
        let d := ((d.slotSet p s 0).set R.IMG_VER_VERSION 0 p s).slotSet p k 2
        let d := ((d.storePut p (tabGet d.img.stores (2 * p + k))).runSlot p k).setBit R.SYS_BOOT_STATUS_SLOT_B p (k == 1)
        { d with img := { d.img with stores := tabDel d.img.stores (2 * p + k) } }
      | [] => down ((d.slotSet p s 0).set R.IMG_VER_VERSION 0 p s)
  | [], k :: _ => ((d.slotSet p k 2).runSlot p k).setBit R.SYS_BOOT_STATUS_SLOT_B p (k == 1)
  | [], [] => down d

/-- An axis moves or holds current (R50, R529). -/
def Dev.axisBusy (d : Dev) (a : Nat) : Bool :=
  let x := d.axis a
  x.mot.isSome || x.homing.isSome || x.group.isSome || x.coil == .run || x.coil == .hold

/-- A slot in which the cell uses its radio (R235): beacons, drag, corrections and downlink; the uplinks of machines admitted (R236); ranging while it is
enabled; join; the site's slots. -/
def Dev.slotUsed (d : Dev) (s : Nat) : Bool :=
  if s < 105 || s = 204 || s = 304 || 380 ≤ s then true
  else if 347 ≤ s then d.on R.YRD_CTRL_EN
  else let m := if s < 204 then s - 105 else if s < 304 then s - 106 else s - 107; d.bit R.RAD_ADMIT_VALID_VALID (m % 32) (m / 32)

/-- A scheduled use of RAD lies less than 1 ms ahead, or now (R44, R45, R270). -/
def Dev.radNear (d : Dev) : Bool :=
  if d.get R.PWR_STATUS_STATE = 1 then decide (396 * slotLen < d.now % second + 2 * ms ∧ d.now % second < 397 * slotLen + ms)
  else (List.range 5).any fun k => d.slotUsed ((d.slot + k) % 400) && decide (k * slotLen < d.now % slotLen + ms)

/-- A loop tick lies less than 1 ms ahead, or now (R45, R489). -/
def Dev.loopNear (d : Dev) : Bool :=
  let t := d.clk.mono / ms
  let due := fun (t l : Nat) => d.loopMode l != 0 && t % (max 1 (d.get R.CTL_LOOP_CFG_PERIOD l)) == d.get R.CTL_LOOP_IO_PHASE l
  (List.range 64).any fun l => if d.clk.mono % ms = 0 then due t l else due (t + 1) l

/-- The domains that run or are gated now, in the order of R44 (R44, R45, R48, R72): on demand while they are used, or used next less than 1 ms from
now. -/
def Dev.domainsNow (d : Dev) : List Bool :=
  let st := d.get R.PWR_STATUS_STATE
  let core := d.powered && d.sys.refOk
  let up := fun (r : Region) => !d.sys.lost.contains (regionCode r)
  let time := core && !d.sys.field && up .time
  let run := st == 0
  let work := time && run && d.imaged
  [d.sys.vaon, time, work && up .sky, work && up .corr, work && up .acq && !d.sky.engine.isEmpty, time && run && up .sup, core && run && up .safe,
    time && d.imaged && up .rad && d.radNear, d.powered && run && up .pcie, time && run && up .bar && d.paired,
    d.powered && d.sys.xo && !d.sys.field && up .meter, work && up .motor && (List.range 16).any fun a => d.axisBusy a,
    work && up .ctrl && d.loopNear, core && up .nvm && (run || d.mtr.saving.isSome)]

/-- A word whose bits are a list of flags, bit 0 first. -/
def bitsOf (l : List Bool) : Nat := l.foldr (fun b n => b2n b + 2 * n) 0

/-- PWR_DOMAIN follows the domains (R72). -/
def Dev.domains (d : Dev) : Dev := d.set R.PWR_DOMAIN_RUNNING (bitsOf d.domainsNow)

/-- The pattern test of every correlator datapath, spares first (R147): those that fail are handled before a channel takes a signal. -/
def Dev.patternTest (d : Dev) (l : List (Nat × Nat)) : Dev :=
  let d := l.foldl (fun (d : Dev) (x : Nat × Nat) => if 192 ≤ x.1 && x.1 < 208 then d.spareFails (x.1 - 192) x.2 else d) d
  let d := { d with trk := { d.trk with faults := l.foldl (fun (t : Tab Nat) (x : Nat × Nat) => if x.1 < 192 then tabPut t x.1 x.2 else t) d.trk.faults } }
  d.trk.faults.foldl (fun (d : Dev) (x : Nat × Nat) => d.spareTakeover x.1) d

/-- Lines of a source by their ordinal. -/
def Dev.linesBy (d : Dev) (src : Nat) : Tab (List Byte) := (d.written src).foldl (fun (t : Tab (List Byte)) (l : TlbLine) => tabPut t l.ord l.content) []

/-- Keys, metering, waybills take their lines; the manifest is consumed (R471, R569, R395, R652). -/
def Dev.takeManifest (d : Dev) : Dev :=
  let take := d.takes
  let d := d.bootKeys take ((tabFind (d.linesBy 3) 0))
  let deep := (tabFind d.mtr.ivOpen ivDeep).isSome
  let meter := if take then d.linesBy 1 else []
  let lots := if take then d.linesBy 2 else []
  let d := d.mtrRestart meter lots d.tlb.manifest.tCut (!d.sys.vaonLost) take deep
  let d := if take && deep then d.record 0x0C09 (u8 meter.length ++ u8 lots.length) else d
  let d := d.addAonCounts.meterDeepEnd
  let d := { d with aon := {}, sys := { d.sys with vaonLost := false } }
  let d := d.wbRestart (if take then tabFind (d.linesBy 5) 0 else none)
  let ok := d.tlb.headerOk
  let mask := if ok then (d.tlb.manifest.lines.map fun l => 2 ^ l.line).sum else 0
  let d := ((d.put R.TLB_STATUS_MANIFEST_VALID ok).set R.TLB_STATUS_WRITTEN mask).set R.TLB_STATUS_READY 1
  if take then
    (d.set R.TLB_STATUS_CONSUMED 1).record 0x1301 (u32 d.tlb.manifest.saveId ++ u16 mask ++ u8 (b2n ok) ++ zeros 1 ++ u64 d.tlb.manifest.tCut)
  else d

/-- The blocks start on the settings of their parts (R54, R159, R285, R501, R225). -/
def Dev.startBlocks (d : Dev) : Dev :=
  let d := d.baseApply.timeStatus
  let d := d.rsvBoot.ctlBoot.yrdBoot
  let d := { d with ctl := { d.ctl with lost := d.sys.down.contains 4 } }
  let d := if d.sys.down.contains 2 then (List.range 192).foldl (fun (d : Dev) (c : Nat) => d.chState c stOos) d else d
  (d.set R.SKY_STATUS_PLL_LOCK (if d.sys.down.contains 2 then 0 else d.get R.SKY_CTRL_BAND_EN)).radBoot

/-- The rest of the boot once the reference is valid, 1 ms after reset release or at a later check: 299 ms on, SKY, CORR and RAD start.
A life-cycle transition into the present state is completed and recorded (R66). -/
def Dev.bootRun (d : Dev) (b : BootIn) : Dev :=
  let lc := d.boot.lc
  let done := d.boot.wipeDone || lc == .blank
  let wipe := !done && (lc == .ret || lc == .scrapped)
  let d := d.set R.SYS_BOOT_STATUS_REF_ABSENT 0
  let d := { d with sys := { d.sys with refOk := true } }
  let d := if wipe then d.wipeMram else d
  let d := d.evtRestart
  let d := if done then d else { (d.set R.LC_STATE_WIPE_DONE 1) with boot := { d.boot with wipeDone := true } }.pushRec d.now (lcCode 0) (u8 lc.code)
  if lc == .scrapped then d.domains
  else
    let d := [1, 0, 2, 3, 4].foldl (fun (d : Dev) (p : Nat) => d.bootPart b p) d
    let t := 299 * ms + (if wipe then min b.wipeNs (200 * ms) else 0)
    if d.sys.down.contains 1 then ((d.bootKeys false none).set R.SYS_BOOT_STATUS_NO_SAFE 1).domains
    else (((d.fillBuckets.takeManifest.passToMono (max ms d.clk.mono + t)).startBlocks).patternTest b.dps).domains

/-- The boot as far as the reference lets it go (R47, R54). -/
def Dev.bootFrom (d : Dev) (b : BootIn) : Dev := if b.ref then d.bootRun b else (d.set R.SYS_BOOT_STATUS_REF_ABSENT 1).domains

/-- The fuses after a boot: WIPE_DONE is set once the wipe of a transition is complete (R66). -/
def bootFuse (f : Fuse) (d : Dev) : Fuse := { f with wipeDone := f.wipeDone || d.boot.wipeDone }

/-- RESET_RELEASE (R54). -/
def execResetRelease (boot : BootIn) (s : State) : Res :=
  let d := s.dev
  if !d.sys.supplies || !d.sys.vin || d.sys.ran then .next s
  else
    let d := (d.readFuses s.fuse boot).bootFrom boot
    .next { s with dev := d, fuse := bootFuse s.fuse d }

/-- REF_ABSENT_RECHECK (R47): a second later. -/
def execRefAbsentRecheck (boot : BootIn) (s : State) : Res :=
  let d := s.dev
  if !d.on R.SYS_BOOT_STATUS_REF_ABSENT || d.sys.refOk || !d.powered then .next s
  else
    let d := (d.pass second).bootFrom boot
    .next { s with dev := d, fuse := bootFuse s.fuse d }

/-- BOOT_LISTEN_END (R54): the boot is complete, and time comes from what was heard or from the RTC. -/
def execBootListenEnd (s : State) : Res :=
  onDev (fun d => match d.rad.listenTo with
    | some t =>
      if d.sys.up || !d.imaged || d.get R.PWR_STATUS_STATE != 0 then d
      else
        let d := d.passToMono t
        ({ d with sys := { d.sys with up := true }, pair := { d.pair with started := some d.clk.mono } }.timeSource).radRole
    | none => d) s

/-! ### Resets on command (R53, R600, R601) -/

/-- Before a reset the device carries out itself: a key update in flight ends, and the final flush commits (R53). -/
def Dev.beforeReset (d : Dev) : Dev :=
  let d := if d.runs .nvm then d.nvCommit else d
  if d.evt.nvmLost then d else d.flush true

/-- SYS_RESET_WRITE (R53). -/
def Dev.resetWrite (d : Dev) (v : Nat) : Dev := if v = 0xA5A5 then d.beforeReset.sysReset (some 7) else d

/-- SYS_RESET_WRITE (R53). -/
def execSysResetWrite (v : Word32) (s : State) : Res := onReg R.SYS_RESET_KEY (fun d => d.resetWrite v.toNat) s

/-- IMG_CONFIRM_TIMEOUT (R600): 120 s after the pause the part falls back by itself; SAFE with a reset. -/
def execImgConfirmTimeout (s : State) : Res :=
  onRun .safe (fun d => match d.img.trialAt with
    | some t =>
      let p := d.get R.IMG_STATUS_TRIAL_PART
      let d := d.passToMono (t + 120 * second)
      if d.img.act.isSome || p = 7 then d
      else if p = 1 then (d.fallBack 1 0).beforeReset.sysReset (some 8)
      else d.beginAct { part := p, slot := 1 - d.get R.IMG_PART_STAT_RUN_SLOT p, falls := true, cause := 0 }
    | none => d) s

/-- IMG_RECOVERY_DONE (R601): the container read over PCIe is checked, written to slot A, and the device resets. -/
def execImgRecoveryDone (mem : Option (List Byte)) (s : State) : Res :=
  onDev (fun d =>
    let x := if d.powered then d.recoveryDone mem else (false, d)
    if x.1 then x.2.beforeReset.sysReset none else x.2) s

/-! ### The device ID (R75) -/

/-- A write to SYS_DEV_ID. -/
def Dev.devIdWrite (d : Dev) (v : Nat) : Dev :=
  if bits v 16 16 != 0xD1D0 then (if bitOf v 13 then d.writeField R.SYS_DEV_ID_REFUSED 0 0 v else d)
  else if d.reins && (d.brk.m.any fun p => p.2.auth.isSome) then d.raise R.SYS_DEV_ID_REFUSED
  else
    let d := (d.writeField R.SYS_DEV_ID_REFUSED 0 0 v).set R.SYS_DEV_ID_NEXT_ID v
    d.put R.SYS_DEV_ID_PENDING (d.get R.SYS_DEV_ID_NEXT_ID != d.id)

/-- SYS_DEV_ID_WRITE (R75). -/
def execSysDevIdWrite (v : Word32) (s : State) : Res := onReg R.SYS_DEV_ID_NEXT_ID (fun d => d.devIdWrite v.toNat) s

/-! ### Supplies (R55, R650, R663-R666) -/

/-- DRAG_OUT at the ball: high-impedance while the supplies are not valid (R55). -/
def Dev.dragOutBall (d : Dev) : Option Bool := if d.sys.supplies then some (d.on R.BRK_STATUS_DRAG_OUT) else none

/-- SUPPLY_REQ (R664): asserted with VAON, but not in DEEP until a wake source fires. -/
def Dev.supplyReq (d : Dev) : Bool := d.sys.vaon && (d.get R.PWR_STATUS_STATE != 2 || d.sys.wake.isSome)

/-- SUPPLIES_VALID (R663): within range for 1 ms; reset release may follow 2 ms later. Where VIN_MON has recovered before the supplies are valid again, WAKE_SRC
reads 0, power-on, and not 6 (R71 names neither: DESIGN CHOICE, log entry 88). -/
def execSuppliesValid (s : State) : Res :=
  onDev (fun d =>
    if d.sys.supplies then d
    else
      let w := d.sys.wake.getD 0
      let d := { d with sys := { d.sys with supplies := true } }.pass (3 * ms)
      if d.sys.vin then d.sysReset (some w) else d) s

/-- VIN_MON_RELEASE (R53, R666). -/
def execVinMonRelease (s : State) : Res :=
  onDev (fun d =>
    if d.sys.vin then d
    else
      let saved := d.sys.saved
      let d := { d with sys := { d.sys with vin := true } }
      if d.sys.supplies then d.sysReset (some (if saved then 6 else 0)) else d) s

/-- VIN_MON_TRIP (R650): DRAG_OUT asserted, the tailboard written as far as power lasts; then DEEP, or off without VAON. In
DEEP there is nothing to save. -/
def Dev.vinTrip (d : Dev) (lines : Option Nat) : Dev :=
  if !d.sys.vin then d
  else
    let run := d.sys.supplies && d.sys.ran && d.get R.PWR_STATUS_STATE != 2
    let d := if run then (d.set R.BRK_STATUS_DRAG_OUT 1).saveTail lines else d
    let d := { d with sys := { d.sys with vin := false, up := false, target := none, saved := d.sys.saved || run } }
    ((d.set R.PWR_STATUS_STATE 2).set R.PWR_CTRL_GO 0).domains

/-- VIN_MON_TRIP (R650). -/
def execVinMonTrip (lines : Option Nat) (s : State) : Res := onDev (fun d => d.vinTrip lines) s

/-- SUPPLIES_LOST (R55, R44): DRAG_OUT is high-impedance; without VAON the AON state goes too. -/
def execSuppliesLost (vaon : Bool) (s : State) : Res :=
  onDev (fun d =>
    if !d.sys.supplies then d
    else
      let d := { d with sys := { d.sys with supplies := false, up := false, ran := false, target := none } }.set R.PWR_STATUS_STATE 2
      if vaon && d.sys.vaon then d
      else { d with aon := {}, regs := { d.regs with aon := [] }, sys := { d.sys with vaon := false, vaonLost := true, xo := false, wake := none } }) s

/-- VAON_APPLIED (R52, R664): the AON island starts afresh on its RC oscillator, after a time without VAON. -/
def execVaonApplied (s : State) : Res :=
  onDev (fun d =>
    { d with aon := {}, regs := { d.regs with aon := [] }, sys := { d.sys with vaon := true, vaonLost := true, xo := false, wake := none } }) s

/-- XO32_CRYSTAL_START (R665): AON switches to the crystal, and METER may start. -/
def execXo32CrystalStart (s : State) : Res :=
  onDev (fun d =>
    if d.sys.xo || !d.sys.vaon then d
    else
      let d := { d with sys := { d.sys with xo := true } }
      if d.powered then d.domains else d) s

/-! ### Power states (R49-R51) -/

/-- Why RUN is not left (R50): the first condition that holds; 0 none. -/
def Dev.stayWhy (d : Dev) : Nat :=
  if d.reins && ((d.brk.m.any fun p => p.2.auth.isSome) || !d.rsv.held.isEmpty) then 1
  else if (List.range 16).any fun a => d.axisBusy a then 2
  else if (List.range 64).any fun l => d.loopMode l == 2 then 3
  else if d.on R.PAIR_STATUS_READY && d.pair.role != 2 then 4
  else 0

/-- The fall to L0 on entering WATCH or DEEP (R60): counted and recorded; LAST_FALL has no code for it and keeps its value (DESIGN CHOICE, log
entry 88). -/
def Dev.fallDark (d : Dev) : Dev :=
  if d.level = 0 then d
  else
    let d := ((d.set R.SYS_LEVEL_LEVEL 0).inc R.SYS_LEVEL_FALLS).pushRec d.now (sysCode 0) (u8 d.level ++ u8 0 ++ u8 0)
    { d with sys := { d.sys with hold := 0 } }

/-- RUN is left: no reins, no readiness, L0, and the drag of L0 (R50, R55, R60); a lapsed device stays lapsed (R619). SKY, CORR, BAR and the rings stop, and
time goes on without discipline (R44). -/
def Dev.leaveService (d : Dev) : Dev :=
  let d := if d.paired then
      let d := if d.reins then { d.letGo with pair := { d.letGo.pair with frozen := false, hiZ := true } } else d
      let d := ((if d.get R.PAIR_STATUS_ROLE = 3 then d else d.roleSet 0).put R.PAIR_STATUS_PARTNER_READY false).put R.PAIR_STATUS_READY false
      { d with pair := { d.pair with lanes := [], hello := false, helloSent := false, rx := none, leaseAt := none, claimAt := none } }.linkView
    else d.set R.PAIR_STATUS_ROLE 0
  let d := (d.fallDark.setSrc 2 true).skyStop.corrStop
  let d := { d with rad := { d.rad with inhibit := true }, tim := { d.tim with gnss := false, ppsOk := false, beaconOk := false } }.timeSource.radRole
  let d := { d with tim := { d.tim with steers := [] }, aon := { d.aon with cmp := [] } }
  if d.paired then d.dragOutFollow else d.set R.BRK_STATUS_DRAG_OUT 1

/-- WATCH is left (R49, R52, R438): L1; SKY and CORR start with the pattern test of R147 on the faults known; the rings go on; PE_WAKE_N unless the host woke
the device. -/
def Dev.leaveWatch (d : Dev) (k : Nat) : Dev :=
  let d := ((d.set R.PWR_STATUS_STATE 0).set R.PWR_STATUS_WAKE_SRC k).set R.SYS_LEVEL_LEVEL (min 1 (d.get R.SYS_LEVEL_CFG_CAP))
  let d := { d with
    sys := { d.sys with target := none, wake := none }
    rad := { d.rad with inhibit := d.get R.PAIR_STATUS_ROLE == 3 }
    pair := { d.pair with started := some d.clk.mono, full := true } }
  let d := if d.paired then d else (d.set R.PAIR_STATUS_ROLE d.level).radRole
  let d := d.set R.SKY_STATUS_PLL_LOCK (if d.sys.down.contains 2 || !d.runs .sky then 0 else d.get R.SKY_CTRL_BAND_EN)
  let d := ((d.patternTest []).domains).ringsGo
  if k = 5 then d else { d with ring := { d.ring with wake := true } }.emit .peWake

/-- A wake event (R49, R51, R664): from WATCH at once; from DEEP through a reset, once supplies are there; during an entry it
is latched. -/
def Dev.wakeUp (d : Dev) (k : Nat) : Dev :=
  match d.get R.PWR_STATUS_STATE with
  | 0 => if d.sys.target.isSome then { d with sys := { d.sys with wake := some (d.sys.wake.getD k) } } else d
  | 1 => if d.sys.target.isSome then { d with sys := { d.sys with wake := some (d.sys.wake.getD k) } } else d.leaveWatch k
  | _ =>
    if !d.sys.vaon || !d.sys.vin then d
    else if d.sys.supplies then d.sysReset (some k) else { d with sys := { d.sys with wake := some k } }

/-- PWR_CTRL.GO (R49, R50). While a change is under way a further GO is dropped: TARGET = RUN then is neither latched as a wake event nor refused (R51 does not
say: DESIGN CHOICE, log entry 88). -/
def Dev.pwrGo (d : Dev) (v : Nat) : Dev :=
  let d := d.writeAddr R.PWR_CTRL_TARGET.addr v
  let t := d.get R.PWR_CTRL_TARGET
  let st := d.get R.PWR_STATUS_STATE
  if !bitOf v 8 || d.sys.target.isSome || st = 2 || !d.sys.ran || t = st then d
  else if t = 0 then d.leaveWatch 5
  else
    let why := if st = 0 then d.stayWhy else 0
    if why != 0 then (d.raise R.PWR_STATUS_REFUSED).set R.PWR_STATUS_REFUSE_WHY why
    else
      let d := (d.set R.PWR_CTRL_GO 1).set R.PWR_STATUS_REFUSE_WHY 0
      let d := if t = 2 then d.meterDeep else d
      { d with sys := { d.sys with target := some t, wake := none } }.saveStart.wantFlush

/-- PWR_GO (R49). -/
def execPwrGo (v : Word32) (s : State) : Res := onReg R.PWR_CTRL_GO (fun d => d.pwrGo v.toNat) s

/-- POWER_STATE_ENTERED (R51, R468, R643, R650): the flush and the save are done, DEEP writes the tailboard, and a latched
wake event is acted on. -/
def Dev.stateEntered (d : Dev) : Dev :=
  match d.sys.target with
  | none => d
  | some t =>
    let d := d.flush.saveCommit
    let d := (if d.get R.PWR_STATUS_STATE = 0 then d.leaveService else d).set R.PWR_CTRL_GO 0
    let d := if t = 2 then d.saveTail (some 16) else d
    let w := d.sys.wake
    let d := { d.set R.PWR_STATUS_STATE t with sys := { d.sys with target := none, wake := none, up := d.sys.up && t != 2 } }.domains
    match w with | some k => d.wakeUp k | none => d

/-- POWER_STATE_ENTERED (R51). -/
def execPowerStateEntered (s : State) : Res := onDev Dev.stateEntered s

/-- RTC_ALARM_WAKE (R73): the RTC reaches ALARM_S. -/
def execRtcAlarmWake (s : State) : Res :=
  onDev (fun d =>
    let a := d.get R.PWR_RTC_ALARM_ALARM_S
    if a = 0 || !d.on R.PWR_WAKE_CFG_RTC_EN then d
    else
      let g := d.gpsSec / 2 ^ 32 * 2 ^ 32 + a
      (d.passTo ((if d.now ≤ g * second then g else g + 2 ^ 32) * second)).wakeUp 1) s

/-- PERST_WAKE (R73). -/
def execPerstWake (s : State) : Res := onDev (fun d => if d.on R.PWR_WAKE_CFG_PERST_EN then d.wakeUp 2 else d) s

/-- PCNT_COMPARE_WAKE (R73): the pulses counted since WATCH or DEEP was entered reach the compare value (log entry 88). -/
def execPcntCompareWake (n : Nat) (s : State) : Res :=
  onDev (fun d => if n < 4 && d.bit R.PWR_WAKE_CFG_PCNT_EN n && d.get R.PWR_PCNT_CMP_CMP n ≤ tabGet d.aon.cmp n then d.wakeUp 3 else d) s

/-- DEEP_PULSE_COUNT (R466). -/
def execDeepPulseCount (n : Nat) (s : State) : Res :=
  onDev (fun d =>
    if n < 4 && d.get R.PWR_STATUS_STATE = 2 && d.sys.vaon then
      { d with aon := { cnt := tabPut d.aon.cnt n (tabGet d.aon.cnt n + 1), cmp := tabPut d.aon.cmp n (tabGet d.aon.cmp n + 1) } } else d) s

/-- WATCH_LISTEN (R270): slot 396 of superframe 0 of a second; a site beacon that lists this device's ID wakes it, and one that carries it is a duplicate
(R269). -/
def execWatchListen (frame : List Byte) (s : State) : Res :=
  onDev (fun d =>
    if d.get R.PWR_STATUS_STATE != 1 || !d.timed || d.sys.lost.contains (regionCode .rad) then d
    else
      let k := if d.now % second ≤ 396 * slotLen then d.gpsSec else d.gpsSec + 1
      let d := d.passTo (k * second + 396 * slotLen)
      match d.receiveSite frame (fType frame == 7 && siteDst frame) with
      | (none, d) => d
      | (some p, d) =>
        if fld p 0 2 % 1024 = d.id then d.dupId
        else if d.on R.PWR_WAKE_CFG_RADIO_EN && (List.range 4).any fun i => fld p (22 + 2 * i) 2 == d.id then d.wakeUp 4 else d) s

end Sys2Proof.Machine
end

