-- ==== Sys2Proof/Machine/Sys.lean ====
section
/-!
DEFINITION. The life cycle (R64-R69), service levels (R58-R62), the boundaries of yard time (R59, R186, R235), faults
and lost regions (R26-R40), and host writes to registers by their address (R6-R9).
-/

namespace Sys2Proof.Machine

/-! ### The life cycle (R64-R69) -/

/-- The highest level a life-cycle state allows (R64). -/
def Lc.maxLevel : Lc → Nat
  | .blank => 1 | .provisioned => 3 | .field => 3 | .ret => 1 | .scrapped => 0

/-- Where each state is entered from (R64). -/
def lcMay : Lc → Lc → Bool
  | .blank, .provisioned => true
  | .provisioned, .field => true
  | .field, .ret => true
  | a, .scrapped => a != .scrapped
  | _, _ => false

/-- A challenge is placed in LC_CHAL (R67, R69). -/
def Dev.lcChal (d : Dev) (debug : Bool) : Dev :=
  let d := d.freshChal R.LC_CHAL_CHAL
  { d with sys := { d.sys with chal := some (d.clk.mono, debug) } }

/-- A write of LC_CMD with REQ set. -/
def Dev.lcReq (d : Dev) (v : Nat) : Dev :=
  let d := d.writeAddr R.LC_CMD_REQ.addr v
  if bitOf v 8 then d.lcChal (d.on R.LC_CMD_DEBUG) else d

/-- LC_REQ (R67). -/
def execLcReq (v : Word32) (s : State) : Res := onDev (fun d => if bitOf v.toNat 10 || !d.writable R.LC_CMD_REQ then d else d.lcReq v.toNat) s

/-- LC_DEBUG_REQ (R69). -/
def execLcDebugReq (v : Word32) (s : State) : Res := onDev (fun d => if bitOf v.toNat 10 && d.writable R.LC_CMD_REQ then d.lcReq v.toNat else d) s

/-- LC_RESP answers the challenge that stands, for a target byte (R67, R69). -/
def Dev.lcAnswer (d : Dev) (target : Nat) : Bool :=
  match d.sys.chal, d.keyOf 61 with
  | some _, some k => (hmac k (d.words16 R.LC_CHAL_CHAL ++ u8 target ++ u16 d.id)).take 16 == d.words16 R.LC_RESP_RESP
  | _, _ => false

/-- A COMMIT is refused: FAIL, and a record (R67, R69). -/
def Dev.lcFail (d : Dev) (target : Nat) : Dev := (d.raise R.LC_CMD_FAIL).pushRec d.now (lcCode 1) (u8 d.boot.lc.code ++ u8 target)

/-- The device holds the reins and a machine of the cell holds an authority (R68, R75). -/
def Dev.authorityHeld (d : Dev) : Bool := d.reins && d.brk.m.any fun p => p.2.auth.isSome

/-- A transition is allowed: from its state, with a root where it leaves BLANK for PROVISIONED, and answered (R64, R67). -/
def Dev.lcOk (d : Dev) (lc t : Lc) : Bool :=
  lcMay lc t && (if lc == .blank then t == .scrapped || d.on R.KEY_STATUS_ROOT_SET else d.lcAnswer t.code)

/-- A write of LC_CMD with COMMIT set and DEBUG clear (R66-R68): the fuse is burned, the device resets and wipes; the next
boot repeats the wipe, sets WIPE_DONE and writes the record. -/
def lcCommit (s : State) (v : Nat) : State :=
  let d := s.dev.writeAddr R.LC_CMD_COMMIT.addr v
  let x := { d with sys := { d.sys with chal := none } }
  match Lc.ofCode (d.get R.LC_CMD_TARGET) with
  | none => { s with dev := x.lcFail (d.get R.LC_CMD_TARGET) }
  | some t =>
    if (t == .ret || t == .scrapped) && d.authorityHeld then { s with dev := x.raise R.LC_CMD_FAIL }
    else if !d.lcOk s.fuse.lc t then { s with dev := x.lcFail t.code }
    else
      let e := ((x.set R.LC_STATE_STATE t.code).set R.LC_STATE_WIPE_DONE 0).sysReset none
      { s with
        fuse := { s.fuse with lc := t, wipeDone := false }
        dev := if t == .ret || t == .scrapped then e.wipeMram else e }

/-- LC_COMMIT (R66). -/
def execLcCommit (v : Word32) (s : State) : Res :=
  .next (if bitOf v.toNat 9 && !bitOf v.toNat 10 && s.dev.writable R.LC_CMD_COMMIT then lcCommit s v.toNat else s)

/-- A write of LC_CMD with COMMIT and DEBUG set (R69). -/
def Dev.lcDebug (d : Dev) (v : Nat) : Dev :=
  let d := d.writeAddr R.LC_CMD_COMMIT.addr v
  let x := { d with sys := { d.sys with chal := none } }
  if (d.boot.lc == .provisioned || d.boot.lc == .ret) && !d.reins && d.lcAnswer 0xD0 then
    (x.set R.LC_STATE_DEBUG_OPEN 1).pushRec d.now (lcCode 2) (u8 d.boot.lc.code)
  else x.lcFail 0xD0

/-- LC_DEBUG_COMMIT (R69). -/
def execLcDebugCommit (v : Word32) (s : State) : Res :=
  onDev (fun d => if bitOf v.toNat 9 && bitOf v.toNat 10 && d.writable R.LC_CMD_COMMIT then d.lcDebug v.toNat else d) s

/-- LC_CHALLENGE_EXPIRY (R67): 60 s after it was issued. -/
def execLcChallengeExpiry (s : State) : Res :=
  onDev (fun d => match d.sys.chal with
    | some (t, _) => let d := d.passToMono (t + 60 * second); { d with sys := { d.sys with chal := none } }
    | none => d) s

/-! ### Service levels (R58-R61) -/

/-- The highest level allowed: CAP and the life-cycle state (R59, R64). -/
def Dev.capNow (d : Dev) : Nat := min (d.get R.SYS_LEVEL_CFG_CAP) d.boot.lc.maxLevel

/-- The conditions of a level that fail, as the codes of LAST_FALL, in their order (R59, R74). -/
def Dev.levelWhys (d : Dev) (l : Nat) : List Nat :=
  let src := d.get R.TIME_STATUS_SRC
  let timeOk := 1 ≤ src && src ≤ 4 && d.get R.TIME_UNC_UNC ≤ 1000 * d.get R.SYS_LEVEL_CFG_HO_LIMIT && !d.sys.field
  let on := fun (c : Bool) (k : Nat) => if c then [k] else []
  on (d.capNow < l) 1 ++ on (2 ≤ l && !(timeOk && (l < 3 || (src == 1 && !d.holdover)))) 2 ++
    on (3 ≤ l && d.get R.BASE_STATUS_STATE != 3) 3 ++ on (3 ≤ l && !d.on R.CORR_STATUS_PRODUCING) 4 ++
    on (3 ≤ l && d.on R.SYS_LEVEL_CFG_RANGE_REQ && !d.on R.YRD_STATUS_CALIBRATED) 5 ++
    on (2 ≤ l && !d.sys.down.isEmpty) 6 ++ on (2 ≤ l && !(d.mapOk && d.modelsOk)) 7

/-- The drag that L1 asserts, on the device that holds the reins (R58, R61). -/
def Dev.levelDrag (d : Dev) : Dev := if d.reins then d.setSrc 2 (decide (d.level < 2)) else d

/-- The level falls (R60): LAST_FALL, FALLS, a record, and the effects of the fall. -/
def Dev.fallTo (d : Dev) (l cause : Nat) : Dev :=
  let old := d.level
  let d := (((d.set R.SYS_LEVEL_LEVEL l).set R.SYS_LEVEL_LAST_FALL cause).inc R.SYS_LEVEL_FALLS).pushRec d.now (sysCode 0) (u8 old ++ u8 l ++ u8 cause)
  let d := { d with sys := { d.sys with hold := 0 }, brk := { d.brk with reissue := if l = 2 then 1 else d.brk.reissue } }
  d.levelDrag

/-- The level's part of a fleet cycle boundary (R59, R60): a fall, or another cycle in which the next level's conditions
hold. -/
def Dev.levelBoundary (d : Dev) : Dev :=
  match d.levelWhys d.level with
  | [] => { d with sys := { d.sys with hold := if d.level < 3 && (d.levelWhys (d.level + 1)).isEmpty then min 10 (d.sys.hold + 1) else 0 } }.levelDrag
  | c :: _ => if d.level = 1 then { d.set R.SYS_LEVEL_LAST_FALL c with sys := { d.sys with hold := 0 } }.levelDrag
    else d.fallTo (if d.level = 3 && (d.levelWhys 2).isEmpty then 2 else 1) c

/-- The level rises by one (R59): L2 releases the level's drag, L3 lets the held authorities be issued anew. -/
def Dev.rise (d : Dev) : Dev :=
  let l := d.level + 1
  let d := d.set R.SYS_LEVEL_LEVEL l
  let d := { d with sys := { d.sys with hold := 0 }, brk := { d.brk with reissue := if l = 3 then 2 else d.brk.reissue } }
  d.levelDrag.readyEval

/-- The device runs: past its boot, powered, in RUN. -/
def Dev.running (d : Dev) : Bool := d.imaged && d.get R.PWR_STATUS_STATE == 0

/-- LEVEL_RISE (R59): at a fleet cycle boundary, this one or the next, once the conditions have held for ten. -/
def execLevelRise (s : State) : Res :=
  onDev (fun d =>
    if d.running && d.timed && 1 ≤ d.level && d.level < 3 && 10 ≤ d.sys.hold && (d.levelWhys (d.level + 1)).isEmpty then
      (d.passTo ((d.now + fleetCycle - 1) / fleetCycle * fleetCycle)).rise
    else d) s

/-- The rise from L0 (R57, R59): an unpaired device takes the reins (R20); a paired one with the reins waits for its first
beacon; one without reports its standby level. -/
def Dev.riseToL1 (d : Dev) : Dev :=
  if d.level != 0 || !d.sys.up || d.capNow = 0 || d.sys.pkg || d.rad.faulted || (d.paired && d.reins && d.now < d.pair.bcnFrom) then d
  else
    let d := d.set R.SYS_LEVEL_LEVEL 1
    let d := if d.paired then d else ((d.set R.PAIR_STATUS_ROLE 1).radRole).keyCheck
    let d := if d.reins && !d.on R.RAD_CTRL_EN then d.setSrc 4 true else d
    d.levelDrag

/-! ### Boundaries of yard time -/

/-- The fleet cycle boundary (R59, R60, R207, R309, R343, R614, R648): calibration, level, engines, DRAG_OUT, the pair, the allotment. Once TIME is lost, SAFE counts on
alone (R48): only DRAG_OUT is left. -/
def Dev.fleetBoundary (d : Dev) (e : EngObs) : Dev :=
  if !d.timed then (d.pass fleetCycle).dragOutBoundary
  else
    let k := nextIdx d.clk.yard fleetCycle d.clk.fc
    let d := d.passTo (k * fleetCycle)
    let d := { d with clk := { d.clk with fc := k + 1 } }.yrdView
    let d := if d.level = 0 then d else d.levelBoundary
    let d := (d.engCompare e).dragOutBoundary.pairBoundary
    { d with tlb := { d.tlb with old := none } }

/-- FLEET_CYCLE_BOUNDARY (R59). -/
def execFleetCycleBoundary (eng : EngObs) (s : State) : Res := onDev (fun d => if d.running then d.fleetBoundary eng else d) s

/-- A superframe start (R59, R133, R166, R235, R247, R328, R480): the epoch of tracking, time and corrections; the rise
from L0; switches of the TRK and MAC parts; then radio, braking, waybills and metering, each while its region runs. -/
def Dev.superframeStart (d : Dev) (e : EpochIn) : Dev :=
  let k := nextIdx d.clk.yard superframe d.clk.sf
  let d := d.passTo (k * superframe)
  let d := { d with clk := { d.clk with sf := k + 1 } }
  let d := if d.runs .corr then d.trkEpoch else d
  let d := (d.timeEpoch e).yrdView
  let d := if d.runs .corr then d.trkAfter else d
  let d := ((d.partBoundary 2).partBoundary 3).riseToL1
  let d := if d.runs .rad then d.radSuperframe else d
  let d := d.joinAll.brkSuperframe
  let d := if d.runs .sup then d.wbSuperframe else d
  let d := if d.runs .meter then d.meterStream else d
  let d := if d.on R.RSV_STATUS_COMPARE_OK then d.selfOk 1 else d
  d.settle

/-- SUPERFRAME_START (R235). -/
def execSuperframeStart (epoch : EpochIn) (s : State) : Res := onDev (fun d => if d.running && d.timed then d.superframeStart epoch else d) s

/-- GPS_SECOND_BOUNDARY (R186): PPS_OUT or a step, plan and anchor entries written, CONFIRM_LEFT. -/
def execGpsSecondBoundary (s : State) : Res :=
  onDev (fun d =>
    if !d.running || !d.timed then d
    else
      let k := nextIdx d.clk.yard second d.clk.sec
      let d := d.passTo (k * second)
      ({ d with clk := { d.clk with sec := k + 1 } }.timeSecond.yrdSecond).confirmLeft) s

/-! ### Faults (R26-R40) -/

/-- Whole-cell drag and DRAG_OUT (R30, fourth row). -/
def Dev.dragAll (d : Dev) : Dev := (d.setSrc 3 true).set R.BRK_STATUS_DRAG_OUT 1

/-- The reaction of R30 to a detected fault, told by the cost table of R40: `alone` that an unpaired cell carries on
without it, `hand` that a paired one hands over. -/
def Dev.react (d : Dev) (alone hand : Bool) : Dev :=
  let d := d.faultIrq.wantFlush
  if !d.reins then
    if alone && !hand then d
    else { d with pair := { d.pair with ownFault := true }, rad := { d.rad with faulted := true } }.readyEval
  else if d.paired && (hand || !alone) && d.partnerReady then d.lapse 2
  else if alone then d
  else d.dragAll

/-- Axes stand where they are: their gate outputs are frozen (R29). Moves complete ABORTED. -/
def Dev.axesFreeze (d : Dev) : Dev :=
  (List.range 16).foldl (fun (d : Dev) (a : Nat) =>
    let x := d.axis a
    if x.mot.isNone && x.homing.isNone && x.group.isNone then d
    else
      let d := d.axStand a
      let d := d.axSet a { d.axis a with next := none, nextDesc := none }
      (d.moveOver x.desc x.wb .aborted).moveOver x.nextDesc none .aborted) d

/-- A package fault (R29, R30, R40): AOUT, PWM, PULSE_OUT, AX_G and the host rings freeze. -/
def Dev.pkgFault (d : Dev) : Dev :=
  let d := { d with sys := { d.sys with pkg := true }, pair := { d.pair with frozen := true, gates := d.allLegs } }.axesFreeze
  (d.pushRec d.now (sysCode 2) (u64 d.now)).react false true

/-- FAULT_DETECTED (R30): what a checker reports; the state it finds was set by the fault's own event. -/
def Dev.faultSeen (d : Dev) : SysFault → Dev
  | .package => d.pkgFault
  | .yardCluster => if d.yardOk then d else d.react true true
  | .fftEngines => if d.get R.ACQ_STATUS_ENGINE_OK = 0 then d.react true true else d
  | .resEngine => if d.on R.RSV_STATUS_COMPARE_OK then d else d.react true true
  | .hostLink peer => if d.on R.RING_GLB_STATUS_LINK_UP then d else d.react true peer

/-- FAULT_DETECTED (R30). -/
def execFaultDetected (fault : SysFault) (s : State) : Res := onDev (fun d => if d.running then d.faultSeen fault else d) s

/-- SAFE_WATCHDOG_EXPIRY (R30, R344): a package fault. -/
def execSafeWatchdogExpiry (s : State) : Res := onDev (fun d => if d.running then d.pkgFault else d) s

/-- The cause's code. -/
def regionCauseCode : RegionCause → Nat
  | .clock => 0 | .supply => 1 | .link => 2

/-- Every band loses its signal (R105, R40): the sky input is gone. -/
def Dev.skyLost (d : Dev) : Dev := [0, 1, 2].foldl (fun (d : Dev) (b : Nat) => d.bandFault b 1) d

/-- Every channel goes out of service (R40, R148): the CORR region is gone, its rotation check stops and yard ranging ends. -/
def Dev.corrLost (d : Dev) : Dev :=
  let d := (List.range 192).foldl (fun (d : Dev) (c : Nat) => d.chState c stOos) d
  ((List.range 16).foldl (fun (d : Dev) (c : Nat) => d.set R.TRK_SPARE_SCRUB 0 c) d).yrdView

/-- The radio has stopped (R39, R272). -/
def Dev.radLost (d : Dev) : Dev := { d with rad := { d.rad with inhibit := true } }.dropDownlink

/-- The field die is gone (R39, R40, R187): radio, sky, metering and gate drives end, BAR stops with TIME (R48), the level reads L1. -/
def Dev.fieldLost (d : Dev) : Dev :=
  let d := { d with sys := { d.sys with field := true }, tim := { d.tim with gnss := false, ppsOk := false, beaconOk := false } }
  let d := { d with pair := { d.pair with lanes := [] } }.linkView.partnerSet false
  let d := (d.radLost.meterLost.skyLost.axRegionLost).timeSource
  let d := if 2 ≤ d.level then d.fallTo 1 2 else if d.level = 1 then d.set R.SYS_LEVEL_LAST_FALL 2 else d
  (d.react false true).settle

/-- The loss of a region: its effect and the reaction, row by row of R40; `peer` tells whether the standby's link is up. -/
def Dev.regionEffect (d : Dev) (peer : Bool) : Region → Dev
  | .corr => d.corrLost.react true true
  | .acq => (d.set R.ACQ_STATUS_ENGINE_OK 0).react true true
  | .sup => d.pkgFault
  | .safe => d.pkgFault
  | .pcie => (if d.on R.RING_GLB_STATUS_LINK_UP then d.linkLost else d).react true peer
  | .bar => ({ d with pair := { d.pair with lanes := [] } }.linkView.partnerSet false).react true false
  | .ctrl => { d with ctl := { d.ctl with lost := true } }.react true true
  | .nvm =>
    let d := { d with evt := { d.evt with nvmLost := true } }
    ((d.set R.EVT_STATUS_NVM_OK 0).set R.TLB_STATUS_READY 0).react true true
  | .aon => d.meterLost.react true false
  | .time => d.fieldLost
  | .sky => d.skyLost.react true false
  | .rad => d.radLost.react false true
  | .meter => d.meterLost.react true true
  | .motor => (d.axRegionLost.react true true).settle
  | .field => d.fieldLost

/-- A region is lost (R27): the record names it, the cause and the yard time of detection. -/
def Dev.regionLost (d : Dev) (r : Region) (c : RegionCause) (peer : Bool) : Dev :=
  if !d.running || d.sys.lost.contains (regionCode r) then d
  else
    let d := d.pushRec d.now (sysCode 1) (u8 (Config.argCode (sysCode 1) (regionCode r)) ++ u8 (Config.argCode (sysCode 1) (16 + regionCauseCode c)) ++ u64 d.now)
    { d with sys := { d.sys with lost := d.sys.lost ++ [regionCode r] } }.regionEffect peer r

/-- REGION_LOSS (R27). -/
def execRegionLoss (region : Region) (cause : RegionCause) (peer : Bool) (s : State) : Res := onDev (fun d => d.regionLost region cause peer) s

/-- D2D_CRC_FAIL (R26): a transfer fails its CRC, `retry` when it is a retry; the third failed retry in a row loses the
field die. -/
def execD2dCrcFail (retry : Bool) (s : State) : Res :=
  onDev (fun d =>
    let n := if retry then d.sys.retries + 1 else 0
    if n < 3 then { d with sys := { d.sys with retries := n } }
    else { d with sys := { d.sys with retries := 0 } }.regionLost .field .link false) s

/-- D2D_LINK_TIMEOUT (R26): 1 ms without a valid transfer. -/
def execD2dLinkTimeout (s : State) : Res := onDev (fun d => if d.running then (d.pass ms).regionLost .field .link false else d) s

/-- TIME_REF_LOSS (R187): as the loss of the field die. -/
def execTimeRefLoss (s : State) : Res :=
  onDev (fun d => if d.running then (d.set R.SYS_BOOT_STATUS_REF_ABSENT 1).regionLost .time .clock false else d) s

/-- A reading of the two die sensors, in 1/16 °C (R670, R671). -/
def Dev.tempSample (d : Dev) (core field : Int) : Dev :=
  let t := max core field
  let d := (((d.sati R.SYS_TEMP_CORE core).sati R.SYS_TEMP_FIELD field).put R.SYS_TEMP_STAT_HOT (decide (2000 ≤ t))).sati R.SYS_TEMP_STAT_MAX (max t (d.geti R.SYS_TEMP_STAT_MAX))
  let d := if decide (2000 ≤ t) && !d.sys.hot then { ((d.raise R.SYS_TEMP_STAT_WARN).record 0x0101 (u16 (d.get R.SYS_TEMP_CORE) ++ u16 (d.get R.SYS_TEMP_FIELD))) with sys := { d.sys with hot := true } }
    else if decide (t < 1920) && d.sys.hot then { (d.record 0x0101 (u16 (d.get R.SYS_TEMP_CORE) ++ u16 (d.get R.SYS_TEMP_FIELD))) with sys := { d.sys with hot := false } }
    else d
  if decide (2160 ≤ t) && !d.sys.pkg then (d.record 0x0102 (u16 (d.get R.SYS_TEMP_CORE) ++ u16 (d.get R.SYS_TEMP_FIELD))).pkgFault else d

/-- TEMP_SAMPLE (R670). -/
def execTempSample (core field : Int) (s : State) : Res := onDev (fun d => if d.running then d.tempSample core field else d) s

/-! ### Host writes by address (R6-R9, R407) -/

/-- A write of a field of a part's settings counts during that part's trial (R598). -/
def Dev.countTrial (d : Dev) (f : Fld) : Dev := match f.store with | .part p => d.trialWrite p | _ => d

/-- SKY_NOTCH_CFG and SKY_NOTCH_FREQ (R86, R87): the frequency of an AUTO notch is the device's; FIXED takes a notch out
of the pool where it stands. -/
def Dev.notchWrite (d : Dev) (f : Fld) (b n a v : Nat) : Dev :=
  if f.base = R.SKY_NOTCH_FREQ_FREQ.base then (if d.get R.SKY_NOTCH_CFG_MODE b n = 2 then d else (d.writeAddr a v).notchPend b n)
  else
    let was := d.get R.SKY_NOTCH_CFG_MODE b n
    let d := (d.writeAddr a v).notchPend b n
    if was = 2 && d.get R.SKY_NOTCH_CFG_MODE b n != 2 then
      { d with sky := { d.sky with notch := tabMod d.sky.notch (6 * b + n) fun x => { x with placed := false } } }
    else d

/-- EVT_CLASS_LIM (R640, R641): a FIXED class keeps its limits. -/
def Dev.classWrite (d : Dev) (k a v : Nat) : Dev :=
  if fixedClass k then d
  else
    let d := d.writeAddr a v
    let b := d.get R.EVT_CLASS_LIM_BURST k
    let d := d.set R.EVT_CLASS_STAT_TOKENS (min (d.get R.EVT_CLASS_STAT_TOKENS k) b) k
    let c := tabGet d.evt.cls k
    if d.get R.EVT_CLASS_STAT_TOKENS k < b && c.due.isNone then
      { d with evt := { d.evt with cls := tabPut d.evt.cls k { c with due := some (d.clk.mono + d.get R.EVT_CLASS_LIM_PERIOD k * ms) } } }
    else d

/-- The configuration of a loop beside CTL_LOOP_CFG, which EN locks (R506). -/
def loopConfig (f : Fld) : Bool :=
  [R.CTL_LOOP_IO_IN_KIND.base, R.CTL_LOOP_IN_LO_IN_LO.base, R.CTL_LOOP_IN_HI_IN_HI.base, R.CTL_LOOP_AX_LO_AX_LO.base, R.CTL_LOOP_AX_HI_AX_HI.base,
    R.CTL_LOOP_AX_DB_AX_DB.base].contains f.base

/-- RING_CTRL (R412, R430, R435): FLUSH, then EN. -/
def Dev.ringCtrlWrite (d : Dev) (r v : Nat) : Dev :=
  let d := if bitOf v 1 then d.ringFlush r else d
  if bitOf v 0 then d.ringEnable r v else d.ringDisable r

/-- A write of a register that acts beside storing its bits, by the address of the register. -/
def Dev.regWrite (d : Dev) (f : Fld) (i j a v : Nat) : Dev :=
  let b := f.base
  if b = R.SYS_RESET_KEY.base then d.resetWrite v
  else if b = R.SYS_DEV_ID_NEXT_ID.base then d.devIdWrite v
  else if b = R.LC_CMD_REQ.base then (if bitOf v 9 && bitOf v 10 then d.lcDebug v else d.lcReq v)
  else if b = R.PWR_CTRL_GO.base then d.pwrGo v
  else if b = R.SKY_CTRL_BAND_EN.base then d.skyCtrlWrite v
  else if b = R.SKY_NOTCH_CFG_MODE.base || b = R.SKY_NOTCH_FREQ_FREQ.base then d.notchWrite f i j a v
  else if b = R.ACQ_CTRL_RESTART.base then d.acqCtrlWrite v d.sky.known
  else if b = R.TRK_CTRL_EN.base then d.trkCtrlWrite v
  else if b = R.TRK_CH_CFG_OWNER.base then (if 180 ≤ i then d else if d.get R.TRK_CH_STAT_STATE i = stIdle then d.writeAddr a v
    else d.writeAddr a (putBit v 0 (d.on R.TRK_CH_CFG_OWNER i)))
  else if b = R.TRK_CH_SEL_SAT.base then (if i < 180 && d.get R.TRK_CH_STAT_STATE i = stIdle && d.on R.TRK_CH_CFG_OWNER i then d.writeAddr a v else d)
  else if b = R.TRK_CH_CMD_START.base then (if bitOf v 1 then d.chStop i v else d.chStart i v)
  else if b = R.BASE_CTRL_GO.base then (if bitOf v 4 then (d.writeAddr a v).baseGo else d.writeAddr a v)
  else if R.BASE_X_LO_POS_LO.base ≤ b && b ≤ R.BASE_ARP_H_HEIGHT.base then (if d.get R.BASE_STATUS_STATE = 1 then d else d.writeAddr a v)
  else if b = R.YRD_CTRL_EN.base then d.yrdCtrlWrite v
  else if b = R.YRD_PLAN_KIND.base then d.planWrite a v
  else if b = R.YRD_ANCH_ID_DEV.base || b = R.YRD_ANCH_POS_POS.base then d.anchWrite i a v
  else if b = R.RAD_CTRL_EN.base then d.radCtrlWrite v
  else if b = R.RAD_KEY_CFG_CUR_SLOT.base then d.keyCfgWrite v
  else if b = R.RSV_CTRL_EN.base then d.rsvCtrlWrite v
  else if b = R.BRK_WD_CFG_ACTION.base then d.wdCfgWrite v
  else if b = R.BRK_WD_KICK_KEY.base then d.wdKick v
  else if b = R.BRK_MODEL_A_BRAKE.base || b = R.BRK_MODEL_T.base || b = R.BRK_MODEL_FRONT.base then d.modelWrite i a v
  else if b = R.WB_CTRL_EN.base then d.wbCtrlWrite v
  else if b = R.WB_MACH_DISABLE.base then d.wbMachWrite i v
  else if b = R.WB_PEEK_IDX_INDEX.base then d.wbPeek v
  else if b = R.RING_BASE_LO_ADDR.base || b = R.RING_BASE_HI_ADDR.base || b = R.RING_CFG_KIND.base then
    (if d.on R.RING_CTRL_EN i then d else d.writeAddr a v)
  else if b = R.RING_CTRL_EN.base then d.ringCtrlWrite i v
  else if b = R.MTR_CTRL_EN.base then d.mtrCtrlWrite v
  else if b = R.MTR_PO_CFG_SRC.base then d.poCfgWrite i a v
  else if b = R.CTL_CTRL_EN.base then d.ctlCtrlWrite v
  else if b = R.CTL_LOOP_CFG_EN.base then d.loopCfgWrite i v
  else if loopConfig f then (if d.on R.CTL_LOOP_CFG_EN i then d else d.writeAddr a v)
  else if b = R.AXS_CTRL_EN.base then d.axsCtrlWrite v
  else if b = R.AXS_AX_CFG_MRES.base || b = R.AXS_AX_CHOP_T_OFF.base || b = R.AXS_AX_IN_FILT.base || b = R.AXS_AX_SOFT_LO_SOFT_LO.base ||
    b = R.AXS_AX_SOFT_HI_SOFT_HI.base then d.axCfgWrite i a v
  else if b = R.IMG_REC_CMD_GO.base then d.recGo v
  else if b = R.EVT_CLASS_LIM_BURST.base then d.classWrite i a v
  else if b = R.EVT_CLR_CMD_REQ.base then (if bitOf v 1 then d.clrCommit v else d.clrReq v)
  else if b = R.TLB_ALLOT_LO_SRC.base then d.allotWrite false v
  else if b = R.TLB_ALLOT_HI_SRC.base then d.allotWrite true v
  else d.writeAddr a v

/-- A 32-bit write to a BAR0 address (R407, R616): a register, a doorbell, or a word of the MSI-X table; a copied setting
of a paired device without the reins keeps its value, and any other address takes nothing. -/
def Dev.hostWrite (d : Dev) (a v : Nat) : Dev :=
  match fieldsAt a with
  | (f, i, j) :: l =>
    if !d.writable f || (d.paired && !d.reins && copiedSetting f) then d
    else
      let rw := ((f, i, j) :: l).find? fun x => x.1.acc == .rw
      let d := d.regWrite f i j a v
      let d := if f.block = R.YRD_CTRL_EN.block then d.yrdView else d
      (match rw with | some x => d.countTrial x.1 | none => d).settle
  | [] =>
    if !d.writable R.RING_CTRL_EN then d
    else if 0x1000000 ≤ a && a < 0x1020000 && a % 0x1000 = 0 then d.doorbellWrite ((a - 0x1000000) / 0x1000) v
    else if 0x1800000 ≤ a && a < 0x1800210 && a % 4 = 0 then { d with ring := { d.ring with msix := tabPut d.ring.msix (a - 0x1800000) v } }
    else d

/-- What a host read of `width` bits at a BAR0 address returns (R6, R7, R407): a register's word, those that follow time as it is now; 0 where no register stands, and beyond
the identity, SYS and LC windows of a SCRAPPED device (R64; the 0 is a DESIGN CHOICE, log entry 82); all ones where the read is of
another width or not aligned. -/
def Dev.hostRead (d : Dev) (a width : Nat) : Nat :=
  if width != 32 || a % 4 != 0 then 2 ^ width - 1
  else if d.boot.lc == .scrapped && a / 0x10000 != 0 && a / 0x10000 != 1 && a / 0x10000 != 0x14 then 0
  else if 0x1800000 ≤ a && a < 0x1800210 then (tabFind d.ring.msix (a - 0x1800000)).getD 0
  else ((List.range 16).foldl Dev.axSync d.domains.leaseView.joinAll).word a

/-- REGISTER_WRITE (R6, R7): a write of another width than 32 bits is discarded. -/
def execRegisterWrite (addr width : Nat) (v : Word32) (s : State) : Res :=
  if width != 32 || addr % 4 != 0 then .next s
  else if addr = R.LC_CMD_COMMIT.addr && bitOf v.toNat 9 && !bitOf v.toNat 10 && s.dev.writable R.LC_CMD_COMMIT then .next (lcCommit s v.toNat)
  else onDev (fun d => d.hostWrite addr v.toNat) s

end Sys2Proof.Machine
end

