-- ==== Sys2Proof/Machine/Dispatch.lean ====
section
/-!
DEFINITION. One arm per command, each a direct call of its meaning.
-/

namespace Sys2Proof.Machine

def exec (i : Instr) (s : State) : Host.Outcome State Fault Refusal :=
  match i with
  | .registerWrite addr width v => Sys2Proof.Machine.execRegisterWrite addr width v s
  | .suppliesValid => Sys2Proof.Machine.execSuppliesValid s
  | .resetRelease boot => Sys2Proof.Machine.execResetRelease boot s
  | .bootListenEnd => Sys2Proof.Machine.execBootListenEnd s
  | .refAbsentRecheck boot => Sys2Proof.Machine.execRefAbsentRecheck boot s
  | .sysResetWrite v => Sys2Proof.Machine.execSysResetWrite v s
  | .sysDevIdWrite v => Sys2Proof.Machine.execSysDevIdWrite v s
  | .vinMonTrip lines => Sys2Proof.Machine.execVinMonTrip lines s
  | .vinMonRelease => Sys2Proof.Machine.execVinMonRelease s
  | .pwrGo v => Sys2Proof.Machine.execPwrGo v s
  | .powerStateEntered => Sys2Proof.Machine.execPowerStateEntered s
  | .rtcAlarmWake => Sys2Proof.Machine.execRtcAlarmWake s
  | .perstWake => Sys2Proof.Machine.execPerstWake s
  | .pcntCompareWake n => Sys2Proof.Machine.execPcntCompareWake n s
  | .deepPulseCount n => Sys2Proof.Machine.execDeepPulseCount n s
  | .watchListen frame => Sys2Proof.Machine.execWatchListen frame s
  | .lcReq v => Sys2Proof.Machine.execLcReq v s
  | .lcCommit v => Sys2Proof.Machine.execLcCommit v s
  | .lcDebugReq v => Sys2Proof.Machine.execLcDebugReq v s
  | .lcDebugCommit v => Sys2Proof.Machine.execLcDebugCommit v s
  | .lcChallengeExpiry => Sys2Proof.Machine.execLcChallengeExpiry s
  | .fleetCycleBoundary eng => Sys2Proof.Machine.execFleetCycleBoundary eng s
  | .levelRise => Sys2Proof.Machine.execLevelRise s
  | .skyReinsPass => Sys2Proof.Machine.execSkyReinsPass s
  | .superframeStart epoch => Sys2Proof.Machine.execSuperframeStart epoch s
  | .gpsSecondBoundary => Sys2Proof.Machine.execGpsSecondBoundary s
  | .faultDetected fault => Sys2Proof.Machine.execFaultDetected fault s
  | .d2dCrcFail retry => Sys2Proof.Machine.execD2dCrcFail retry s
  | .d2dLinkTimeout => Sys2Proof.Machine.execD2dLinkTimeout s
  | .regionLoss region cause peer => Sys2Proof.Machine.execRegionLoss region cause peer s
  | .safeWatchdogExpiry => Sys2Proof.Machine.execSafeWatchdogExpiry s
  | .tempSample core field => Sys2Proof.Machine.execTempSample core field s
  | .biasSample ma => Sys2Proof.Machine.execBiasSample ma s
  | .biasShort => Sys2Proof.Machine.execBiasShort s
  | .biasRetry => Sys2Proof.Machine.execBiasRetry s
  | .biasOpen => Sys2Proof.Machine.execBiasOpen s
  | .agcStep ra rb rc => Sys2Proof.Machine.execAgcStep ra rb rc s
  | .rfLockAcquired info => Sys2Proof.Machine.execRfLockAcquired info s
  | .spectrumUpdate a b c => Sys2Proof.Machine.execSpectrumUpdate a b c s
  | .jamStateFall b => Sys2Proof.Machine.execJamStateFall b s
  | .autoNotchRelease b n => Sys2Proof.Machine.execAutoNotchRelease b n s
  | .notchApply => Sys2Proof.Machine.execNotchApply s
  | .baseGainLearn b => Sys2Proof.Machine.execBaseGainLearn b s
  | .skySearch => Sys2Proof.Machine.execSkySearch s
  | .acqCaptureDone cls band => Sys2Proof.Machine.execAcqCaptureDone cls band s
  | .acqBinDone engine => Sys2Proof.Machine.execAcqBinDone engine s
  | .searchDone n hit => Sys2Proof.Machine.execSearchDone n hit s
  | .candidateDrop => Sys2Proof.Machine.execCandidateDrop s
  | .acqRestart v info => Sys2Proof.Machine.execAcqRestart v info s
  | .autoSkyRepeat => Sys2Proof.Machine.execAutoSkyRepeat s
  | .acqDisable v => Sys2Proof.Machine.execAcqDisable v s
  | .bandDisable v => Sys2Proof.Machine.execBandDisable v s
  | .bandFault b cause => Sys2Proof.Machine.execBandFault b cause s
  | .bandRetry b locked => Sys2Proof.Machine.execBandRetry b locked s
  | .fftEngineFault e => Sys2Proof.Machine.execFftEngineFault e s
  | .trkChStart ch v => Sys2Proof.Machine.execTrkChStart ch v s
  | .trkChStop ch v => Sys2Proof.Machine.execTrkChStop ch v s
  | .integrationEnd ch m => Sys2Proof.Machine.execIntegrationEnd ch m s
  | .pullinTimeout ch => Sys2Proof.Machine.execPullinTimeout ch s
  | .fllTimeout ch => Sys2Proof.Machine.execFllTimeout ch s
  | .channelLoss ch => Sys2Proof.Machine.execChannelLoss ch s
  | .reacqHoldExpiry ch => Sys2Proof.Machine.execReacqHoldExpiry ch s
  | .handoverRetry sat sig => Sys2Proof.Machine.execHandoverRetry sat sig s
  | .datapathDump ch fault => Sys2Proof.Machine.execDatapathDump ch fault s
  | .spareTakeover ch => Sys2Proof.Machine.execSpareTakeover ch s
  | .trkDisable v => Sys2Proof.Machine.execTrkDisable v s
  | .baseGo v => Sys2Proof.Machine.execBaseGo v s
  | .baseSkyLostTimeout => Sys2Proof.Machine.execBaseSkyLostTimeout s
  | .rtcmMsmOutput => Sys2Proof.Machine.execRtcmMsmOutput s
  | .rtcmPeriodicOutput => Sys2Proof.Machine.execRtcmPeriodicOutput s
  | .rtcmDisable v => Sys2Proof.Machine.execRtcmDisable v s
  | .ycDisable v => Sys2Proof.Machine.execYcDisable v s
  | .ppsInEdge t => Sys2Proof.Machine.execPpsInEdge t s
  | .timeRefLoss => Sys2Proof.Machine.execTimeRefLoss s
  | .timeNowLoRead => Sys2Proof.Machine.execTimeNowLoRead s
  | .rangingSlotRx slot rx => Sys2Proof.Machine.execRangingSlotRx slot rx s
  | .calFrameTx e => Sys2Proof.Machine.execCalFrameTx e s
  | .yrdReports mem => Sys2Proof.Machine.execYrdReports mem s
  | .fixGatherEnd p => Sys2Proof.Machine.execFixGatherEnd p s
  | .calAgeExpiry a => Sys2Proof.Machine.execCalAgeExpiry a s
  | .yrdAutoRelease m => Sys2Proof.Machine.execYrdAutoRelease m s
  | .yrdDisable v => Sys2Proof.Machine.execYrdDisable v s
  | .cellBeaconTx => Sys2Proof.Machine.execCellBeaconTx s
  | .standbyDragDecision => Sys2Proof.Machine.execStandbyDragDecision s
  | .dragDecision => Sys2Proof.Machine.execDragDecision s
  | .corrFrameTx => Sys2Proof.Machine.execCorrFrameTx s
  | .downlinkTx => Sys2Proof.Machine.execDownlinkTx s
  | .uplinkRx slot ofs snr frame => Sys2Proof.Machine.execUplinkRx slot ofs snr frame s
  | .joinRx slot frame => Sys2Proof.Machine.execJoinRx slot frame s
  | .siteBeaconTx => Sys2Proof.Machine.execSiteBeaconTx s
  | .siteBeaconRx slot ofs frame => Sys2Proof.Machine.execSiteBeaconRx slot ofs frame s
  | .masterBeaconMiss => Sys2Proof.Machine.execMasterBeaconMiss s
  | .masterClaim => Sys2Proof.Machine.execMasterClaim s
  | .masterResign => Sys2Proof.Machine.execMasterResign s
  | .siteHwmClear => Sys2Proof.Machine.execSiteHwmClear s
  | .oldKeyExpiry => Sys2Proof.Machine.execOldKeyExpiry s
  | .radDisable v => Sys2Proof.Machine.execRadDisable v s
  | .route mem => Sys2Proof.Machine.execRoute mem s
  | .routeEvaluate eng => Sys2Proof.Machine.execRouteEvaluate eng s
  | .parkedTimeout no => Sys2Proof.Machine.execParkedTimeout no s
  | .grantHoldEnd => Sys2Proof.Machine.execGrantHoldEnd s
  | .mapLoad mem => Sys2Proof.Machine.execMapLoad mem s
  | .mapCommit => Sys2Proof.Machine.execMapCommit s
  | .mapCommitApply => Sys2Proof.Machine.execMapCommitApply s
  | .shorten => Sys2Proof.Machine.execShorten s
  | .shortenTimeout m => Sys2Proof.Machine.execShortenTimeout m s
  | .evict => Sys2Proof.Machine.execEvict s
  | .segmentClose => Sys2Proof.Machine.execSegmentClose s
  | .segmentOpen => Sys2Proof.Machine.execSegmentOpen s
  | .xferOut => Sys2Proof.Machine.execXferOut s
  | .xferIn mem => Sys2Proof.Machine.execXferIn mem s
  | .xferDone => Sys2Proof.Machine.execXferDone s
  | .xferSet => Sys2Proof.Machine.execXferSet s
  | .mapCrcCheck ok => Sys2Proof.Machine.execMapCrcCheck ok s
  | .rsvDisable v => Sys2Proof.Machine.execRsvDisable v s
  | .authAckTimeout m => Sys2Proof.Machine.execAuthAckTimeout m s
  | .missCount => Sys2Proof.Machine.execMissCount s
  | .dragAssert => Sys2Proof.Machine.execDragAssert s
  | .dragRelease => Sys2Proof.Machine.execDragRelease s
  | .stop => Sys2Proof.Machine.execStop s
  | .stopRelease => Sys2Proof.Machine.execStopRelease s
  | .dragInputChange a b => Sys2Proof.Machine.execDragInputChange a b s
  | .dragInputDiscrepancy => Sys2Proof.Machine.execDragInputDiscrepancy s
  | .wdKick v => Sys2Proof.Machine.execWdKick v s
  | .hostWatchdogExpiry => Sys2Proof.Machine.execHostWatchdogExpiry s
  | .wbCreate mem => Sys2Proof.Machine.execWbCreate mem s
  | .wbRoutePlace => Sys2Proof.Machine.execWbRoutePlace s
  | .wbBudgetExpiry n => Sys2Proof.Machine.execWbBudgetExpiry n s
  | .wbDispatch => Sys2Proof.Machine.execWbDispatch s
  | .orderUntakenTimeout n => Sys2Proof.Machine.execOrderUntakenTimeout n s
  | .machineEventTake => Sys2Proof.Machine.execMachineEventTake s
  | .wbTick => Sys2Proof.Machine.execWbTick s
  | .wbDelayExpiry n => Sys2Proof.Machine.execWbDelayExpiry n s
  | .wbWaitLimit n => Sys2Proof.Machine.execWbWaitLimit n s
  | .wbRunLimit n => Sys2Proof.Machine.execWbRunLimit n s
  | .wbRecordWrite => Sys2Proof.Machine.execWbRecordWrite s
  | .tokenSet => Sys2Proof.Machine.execTokenSet s
  | .tokenClear => Sys2Proof.Machine.execTokenClear s
  | .tokenDeliver => Sys2Proof.Machine.execTokenDeliver s
  | .wbCancel => Sys2Proof.Machine.execWbCancel s
  | .wbDone => Sys2Proof.Machine.execWbDone s
  | .routeLoad mem => Sys2Proof.Machine.execRouteLoad mem s
  | .wbMachDisableWrite m v => Sys2Proof.Machine.execWbMachDisableWrite m v s
  | .wbPeek v => Sys2Proof.Machine.execWbPeek v s
  | .wbEccError n lost => Sys2Proof.Machine.execWbEccError n lost s
  | .wbDisable v => Sys2Proof.Machine.execWbDisable v s
  | .ringDoorbell r v => Sys2Proof.Machine.execRingDoorbell r v s
  | .descriptorFetch r descs => Sys2Proof.Machine.execDescriptorFetch r descs s
  | .descriptorDispatch r => Sys2Proof.Machine.execDescriptorDispatch r s
  | .gapItemWrite src => Sys2Proof.Machine.execGapItemWrite src s
  | .ringIrqTimer r => Sys2Proof.Machine.execRingIrqTimer r s
  | .ringEnable r v => Sys2Proof.Machine.execRingEnable r v s
  | .ringDisable r v => Sys2Proof.Machine.execRingDisable r v s
  | .ringFlush r v => Sys2Proof.Machine.execRingFlush r v s
  | .descriptorReadFail r => Sys2Proof.Machine.execDescriptorReadFail r s
  | .ringStagingEcc r word => Sys2Proof.Machine.execRingStagingEcc r word s
  | .linkLoss cause => Sys2Proof.Machine.execLinkLoss cause s
  | .linkLossDropTimeout => Sys2Proof.Machine.execLinkLossDropTimeout s
  | .pcieReset => Sys2Proof.Machine.execPcieReset s
  | .linkUp speed width => Sys2Proof.Machine.execLinkUp speed width s
  | .meterSample x => Sys2Proof.Machine.execMeterSample x s
  | .lineCycleEnd residueBad => Sys2Proof.Machine.execLineCycleEnd residueBad s
  | .zxTimeout k => Sys2Proof.Machine.execZxTimeout k s
  | .pulseInEdge n level => Sys2Proof.Machine.execPulseInEdge n level s
  | .pulseWireFault n => Sys2Proof.Machine.execPulseWireFault n s
  | .pulseWireRecover n => Sys2Proof.Machine.execPulseWireRecover n s
  | .pulseOutEmit o => Sys2Proof.Machine.execPulseOutEmit o s
  | .meterSave => Sys2Proof.Machine.execMeterSave s
  | .meterAccountEcc lot => Sys2Proof.Machine.execMeterAccountEcc lot s
  | .mtrSnap => Sys2Proof.Machine.execMtrSnap s
  | .lotOpen => Sys2Proof.Machine.execLotOpen s
  | .lotClose => Sys2Proof.Machine.execLotClose s
  | .mtrCal => Sys2Proof.Machine.execMtrCal s
  | .mtrCalDone => Sys2Proof.Machine.execMtrCalDone s
  | .mtrBind => Sys2Proof.Machine.execMtrBind s
  | .mtrSave => Sys2Proof.Machine.execMtrSave s
  | .mtrIntervals => Sys2Proof.Machine.execMtrIntervals s
  | .mtrDisable v => Sys2Proof.Machine.execMtrDisable v s
  | .loopTick l x => Sys2Proof.Machine.execLoopTick l x s
  | .loopClose l x => Sys2Proof.Machine.execLoopClose l x s
  | .ctlMode => Sys2Proof.Machine.execCtlMode s
  | .ctlBank => Sys2Proof.Machine.execCtlBank s
  | .ctlTable mem => Sys2Proof.Machine.execCtlTable mem s
  | .loopEnable l v => Sys2Proof.Machine.execLoopEnable l v s
  | .loopDisable l v => Sys2Proof.Machine.execLoopDisable l v s
  | .ctlDisable v => Sys2Proof.Machine.execCtlDisable v s
  | .ctlEnable v => Sys2Proof.Machine.execCtlEnable v s
  | .axMove => Sys2Proof.Machine.execAxMove s
  | .axGmove => Sys2Proof.Machine.execAxGmove s
  | .axHome => Sys2Proof.Machine.execAxHome s
  | .axStop => Sys2Proof.Machine.execAxStop s
  | .axProfile => Sys2Proof.Machine.execAxProfile s
  | .axEnable => Sys2Proof.Machine.execAxEnable s
  | .axDisable => Sys2Proof.Machine.execAxDisable s
  | .axClearFault persists => Sys2Proof.Machine.execAxClearFault persists s
  | .axWindow => Sys2Proof.Machine.execAxWindow s
  | .axMoveEnd a => Sys2Proof.Machine.execAxMoveEnd a s
  | .axConfirm a => Sys2Proof.Machine.execAxConfirm a s
  | .axStandTimeout a => Sys2Proof.Machine.execAxStandTimeout a s
  | .axLimitInput a hi active => Sys2Proof.Machine.execAxLimitInput a hi active s
  | .axHomeEdge a src edge => Sys2Proof.Machine.execAxHomeEdge a src edge s
  | .homeMaxTravel a => Sys2Proof.Machine.execHomeMaxTravel a s
  | .axOvercurrent a => Sys2Proof.Machine.execAxOvercurrent a s
  | .axsDisable v => Sys2Proof.Machine.execAxsDisable v s
  | .keyCommission mem => Sys2Proof.Machine.execKeyCommission mem s
  | .keyImport mem => Sys2Proof.Machine.execKeyImport mem s
  | .keyDerive => Sys2Proof.Machine.execKeyDerive s
  | .keyInvalidate => Sys2Proof.Machine.execKeyInvalidate s
  | .keyAttest => Sys2Proof.Machine.execKeyAttest s
  | .keySlotEcc n => Sys2Proof.Machine.execKeySlotEcc n s
  | .imgOpen => Sys2Proof.Machine.execImgOpen s
  | .imgEraseDone => Sys2Proof.Machine.execImgEraseDone s
  | .imgClose => Sys2Proof.Machine.execImgClose s
  | .imgLoad mem => Sys2Proof.Machine.execImgLoad mem s
  | .imgSend mem => Sys2Proof.Machine.execImgSend mem s
  | .pieceFrameRx slot ch code frame => Sys2Proof.Machine.execPieceFrameRx slot ch code frame s
  | .imgInstall => Sys2Proof.Machine.execImgInstall s
  | .imgInstallDone => Sys2Proof.Machine.execImgInstallDone s
  | .imgActivate convOk => Sys2Proof.Machine.execImgActivate convOk s
  | .imgActivatePauseEnd => Sys2Proof.Machine.execImgActivatePauseEnd s
  | .imgConfirm => Sys2Proof.Machine.execImgConfirm s
  | .imgFallback => Sys2Proof.Machine.execImgFallback s
  | .imgConfirmTimeout => Sys2Proof.Machine.execImgConfirmTimeout s
  | .imgRecGo v => Sys2Proof.Machine.execImgRecGo v s
  | .helloTx => Sys2Proof.Machine.execHelloTx s
  | .helloRx frame => Sys2Proof.Machine.execHelloRx frame s
  | .leaseRx frame => Sys2Proof.Machine.execLeaseRx frame s
  | .copyRx frames => Sys2Proof.Machine.execCopyRx frames s
  | .copyDeadline => Sys2Proof.Machine.execCopyDeadline s
  | .ackRx frame => Sys2Proof.Machine.execAckRx frame s
  | .releaseRx frame => Sys2Proof.Machine.execReleaseRx frame s
  | .lapsedRx frame => Sys2Proof.Machine.execLapsedRx frame s
  | .claimRx frame => Sys2Proof.Machine.execClaimRx frame s
  | .yieldRx frame => Sys2Proof.Machine.execYieldRx frame s
  | .takenRx frame => Sys2Proof.Machine.execTakenRx frame s
  | .leaseLapse => Sys2Proof.Machine.execLeaseLapse s
  | .partnerLeaseExpiry yoke => Sys2Proof.Machine.execPartnerLeaseExpiry yoke s
  | .takeoverDelayed => Sys2Proof.Machine.execTakeoverDelayed s
  | .takeoverBeaconLoss => Sys2Proof.Machine.execTakeoverBeaconLoss s
  | .yokeSeenAsserted => Sys2Proof.Machine.execYokeSeenAsserted s
  | .yokeFault => Sys2Proof.Machine.execYokeFault s
  | .drawbarLaneFault lane => Sys2Proof.Machine.execDrawbarLaneFault lane s
  | .pairPresentChange asserted => Sys2Proof.Machine.execPairPresentChange asserted s
  | .pairSwitch => Sys2Proof.Machine.execPairSwitch s
  | .pairSwitchRun => Sys2Proof.Machine.execPairSwitchRun s
  | .pairSwitchTimeout yoke => Sys2Proof.Machine.execPairSwitchTimeout yoke s
  | .pairClaim yoke => Sys2Proof.Machine.execPairClaim yoke s
  | .pairYokeAssert yoke => Sys2Proof.Machine.execPairYokeAssert yoke s
  | .pairSoloClaim yoke => Sys2Proof.Machine.execPairSoloClaim yoke s
  | .evtFlushRun => Sys2Proof.Machine.execEvtFlushRun s
  | .evtFlushAge => Sys2Proof.Machine.execEvtFlushAge s
  | .evtOverrunEnd => Sys2Proof.Machine.execEvtOverrunEnd s
  | .evtClassPeriod k => Sys2Proof.Machine.execEvtClassPeriod k s
  | .evtClrReq v => Sys2Proof.Machine.execEvtClrReq v s
  | .evtClrCommit v => Sys2Proof.Machine.execEvtClrCommit v s
  | .evtClrExpiry => Sys2Proof.Machine.execEvtClrExpiry s
  | .evtRead => Sys2Proof.Machine.execEvtRead s
  | .evtFlush => Sys2Proof.Machine.execEvtFlush s
  | .evtNote => Sys2Proof.Machine.execEvtNote s
  | .tlbAllotWrite hi v => Sys2Proof.Machine.execTlbAllotWrite hi v s
  | .vaonApplied => Sys2Proof.Machine.execVaonApplied s
  | .suppliesLost vaon => Sys2Proof.Machine.execSuppliesLost vaon s
  | .xo32CrystalStart => Sys2Proof.Machine.execXo32CrystalStart s
  | .cellBeaconRx frame => Sys2Proof.Machine.execCellBeaconRx frame s
  | .drawbarLaneLock lane => Sys2Proof.Machine.execDrawbarLaneLock lane s
  | .axStandstill a => Sys2Proof.Machine.execAxStandstill a s
  | .imgRecoveryDone mem => Sys2Proof.Machine.execImgRecoveryDone mem s
  | .meterSaveCommit => Sys2Proof.Machine.execMeterSaveCommit s
  | .nvKeyCommit => Sys2Proof.Machine.execNvKeyCommit s

end Sys2Proof.Machine
end

