-- ==== Sys2Proof/Machine/Step.lean ====
section
/-!
DEFINITION. The step: the command at the front of the queue, or the passing of time.
-/

namespace Sys2Proof.Machine

/-- What an empty queue does: a nanosecond of yard time and of the time since reset passes (DESIGN CHOICE, log entry 1). -/
def State.idle (s : State) : State := { s with dev := s.dev.pass 1 }

/-- Take the command at the front of the queue and run it on the state with the rest of the queue. -/
def step (s : State) : Host.Outcome State Fault Refusal :=
  match s.pending with
  | c :: rest => exec c { s with pending := rest }
  | [] => .next s.idle

/-- The opcode table gives no row bits, so no word spells a command and the state stays as it is. -/
def State.withFetchWord (s : State) (_nbits _w : Nat) : State := s

end Sys2Proof.Machine
end

