-- ==== Sys2Proof/Safety.lean ====
section
/-!
DEFINITION. The terms the statements use: a command answers a next state, what a command leaves alone, and what the fuses
may become.
-/

namespace Sys2Proof.Machine

/-! ### Answers -/

/-- The command answers a next state, and `P` holds of it. -/
def Answers (c : Instr) (s : State) (P : State → Prop) : Prop := ∃ t, exec c s = .next t ∧ P t

/-! ### Frames -/

/-- The parts of the device beside its registers: the clocks, the fuses as the boot read them, what each block holds beside
its registers, what has left the device, and the count of free values used. -/
inductive Part where
  | clk | boot | ring | evt | tlb | key | sky | trk | tim | mtr | aon | rsv | brk | axs | wb | ctl | yrd | rad | img | pair | sys | out | free
  deriving DecidableEq, Repr

/-- The device with one part cleared. -/
def Dev.clear (d : Dev) : Part → Dev
  | .clk => { d with clk := {} }
  | .boot => { d with boot := {} }
  | .ring => { d with ring := {} }
  | .evt => { d with evt := {} }
  | .tlb => { d with tlb := {} }
  | .key => { d with key := {} }
  | .sky => { d with sky := {} }
  | .trk => { d with trk := {} }
  | .tim => { d with tim := {} }
  | .mtr => { d with mtr := {} }
  | .aon => { d with aon := {} }
  | .rsv => { d with rsv := {} }
  | .brk => { d with brk := {} }
  | .axs => { d with axs := {} }
  | .wb => { d with wb := {} }
  | .ctl => { d with ctl := {} }
  | .yrd => { d with yrd := {} }
  | .rad => { d with rad := {} }
  | .img => { d with img := {} }
  | .pair => { d with pair := {} }
  | .sys => { d with sys := {} }
  | .out => { d with out := [] }
  | .free => { d with free := 0 }

/-- The device without its registers and without some parts. -/
def Dev.without (d : Dev) (ps : List Part) : Dev := ps.foldl Dev.clear { d with regs := {} }

/-- Every register field of the map reads as before, but for the fields `fs` and those of the windows `ws` (by block code). -/
def KeepRegs (ws : List Nat) (fs : List Fld) (d d' : Dev) : Prop :=
  ∀ f ∈ regMap, f.block ∉ ws → f ∉ fs → ∀ i j, d'.get f i j = d.get f i j

/-- The frame of a command: the queue, the fuses and every part but `ps` are as they were, and so is every register field but
`fs` and those of the windows `ws`. -/
structure Frame (ps : List Part) (ws : List Nat) (fs : List Fld) (s t : State) : Prop where
  queue : t.pending = s.pending
  fuse : t.fuse = s.fuse
  parts : t.dev.without ps = s.dev.without ps
  regs : KeepRegs ws fs s.dev t.dev

/-- What a report touches beside registers: ring and recorder state, and what leaves the device. -/
def reports : List Part := [.ring, .evt, .out]

/-- The windows a report touches: RING and EVT. -/
def reportWs : List Nat := [0x0B, 0x12]

/-! ### Descriptors -/

/-- The descriptors that blocks have taken and hold. -/
def Dev.taking (d : Dev) : List Desc :=
  ((d.rsv.queue ++ d.rsv.parked).filterMap fun r => r.desc) ++ (d.rsv.short.map fun p => p.2.desc) ++ (d.rsv.commit.toList.map fun p => p.1) ++
    (d.axs.ax.flatMap fun p => p.2.desc.toList ++ p.2.nextDesc.toList) ++ (d.axs.grp.flatMap fun p => p.2.desc.toList ++ p.2.wait.toList.map fun w => w.1) ++
    d.mtr.saveDescs ++ (d.mtr.cal.toList.map fun m => m.desc) ++ d.evt.flushDescs ++ (d.key.up.toList.map fun u => u.desc) ++
    (d.sky.queue.filterMap fun x => x.desc) ++ d.wb.heldRecs.map fun x => x.2.1

/-- `q` is the oldest descriptor handed to block `b` with operation `op`; no block holds it; it awaits its completion, the rings
are not held, the link carries traffic, and its COMPLETE ring is enabled. -/
structure Ready (b op : Nat) (q : Desc) (d : Dev) : Prop where
  front : d.ring.handed.find? (fun x => x.block == b && x.op == op) = some q
  bytes : q.bytes.length = 64
  live : d.isLive q = true
  run : d.ringsHeld = false
  link : d.linkUp = true
  ring : d.on R.RING_CTRL_EN q.compl = true
  own : d.taking.all (fun x => x.no != q.no) = true

/-- A taken descriptor whose completion can be written now. -/
structure Awaits (q : Desc) (d : Dev) : Prop where
  bytes : q.bytes.length = 64
  live : d.isLive q = true
  run : d.ringsHeld = false
  link : d.linkUp = true
  ring : d.on R.RING_CTRL_EN q.compl = true

/-- The device once the block has taken `q`. -/
def Dev.taken (d : Dev) (q : Desc) : Dev := { d with ring := { d.ring with handed := d.ring.handed.filter fun x => x.no != q.no } }

/-- An entry of `q`'s COMPLETE ring that carries its TAG and a status (R414, R415). -/
def complOut (q : Desc) (st : Status) : Out → Bool
  | .entry r _ b => r == q.compl && b.take 8 == (q.bytes.drop 8).take 8 && b.getD 28 0 == BitVec.ofNat 8 st.code
  | _ => false

/-- `q` has completed with `st`: it awaits nothing more, and an entry that says so has been written. -/
def Completes (q : Desc) (st : Status) (s t : State) : Prop :=
  t.dev.isLive q = false ∧ (t.dev.out.drop s.dev.out.length).any (complOut q st) = true

/-- TCOH of a SKY_SEARCH: its own, or its class's where it gives 0 (R103). -/
def Dev.tcohOf (d : Dev) (q : Desc) : Nat := if fld q.area 3 1 = 0 then d.get R.ACQ_CLASS_CFG_TCOH (fld q.area 1 1) else fld q.area 3 1

/-- K of a SKY_SEARCH: its own, or its class's where it gives 0 (R103). -/
def Dev.kOf (d : Dev) (q : Desc) : Nat := if fld q.area 6 1 = 0 then d.get R.ACQ_CLASS_CFG_K (fld q.area 1 1) else fld q.area 6 1

/-- A waybill of the store has ended, and its record waits, with a STATUS and a DETAIL (R382, R383). -/
def Dev.wbEnds (d : Dev) (i st detail : Nat) : Prop := ∃ w, tabFind d.wb.store i = some w ∧ w.state = 4 ∧ w.status = st ∧ w.detail = detail

/-- A waybill descriptor completes DONE at once where no drawbar copy is awaited (R394). -/
def WbDone (q : Desc) (s : State) (y : Dev) : Prop :=
  s.dev.copySafe s.dev.nextCopy = true → s.dev.wb.heldRecs = [] → Completes q .done s { s with dev := y }

/-! ### Takeovers (R621, R622) -/

/-- What every takeover does (R621, R622). -/
def TookReins (s t : State) (row : Nat) (cold : Bool) : Prop :=
  t.dev.get R.PAIR_STATUS_ROLE = 1 ∧ t.dev.get R.PAIR_STATUS_YOKE = 1 ∧ t.dev.get R.PAIR_TAKE_LAST_ROW = row ∧ t.dev.get R.PAIR_TAKE_LAST_COLD = b2n cold ∧
    t.dev.get R.PAIR_TAKE_COUNT = min (s.dev.get R.PAIR_TAKE_COUNT + 1) (2 ^ 16 - 1) ∧ t.dev.pair.driveAt = some (t.dev.clk.mono + ms) ∧ t.dev.pair.lease = some (t.dev.clk.mono + 30 * ms) ∧
    t.dev.get R.RSV_STATUS_GRANT_HOLD = 1 ∧ t.dev.pair.held = none ∧ (cold = true → t.dev.get R.BRK_STATUS_DRAG_OUT = 1 ∧ t.dev.get R.BRK_SRC_SRC ≠ 0)

/-! ### Resets (R10, R53, R65) -/

/-- What a reset does (R10, R53, R65, R428): SRAM is wiped and every register of it holds its reset value, the kept registers keep
theirs but for the boot count and, where the reset names one, WAKE_SRC; non-volatile keys, the committed log, the map, templates, banks and tables,
flash and the stored base position stay, and nothing runs. -/
structure AfterReset (wake : Option Nat) (d d' : Dev) : Prop where
  sram : ∀ f ∈ regMap, f.store = .vol → ∀ i j, d'.get f i j = f.reset i j % 2 ^ f.width
  kept : ∀ f ∈ regMap, f.store ≠ .vol → f ≠ R.RING_BOOT_BOOT → f ≠ R.PWR_STATUS_WAKE_SRC → ∀ i j, d'.get f i j = d.get f i j
  boot : d'.get R.RING_BOOT_BOOT = (d.get R.RING_BOOT_BOOT + 1) % 2 ^ 32
  wake : d'.get R.PWR_STATUS_WAKE_SRC = (wake.getD (d.get R.PWR_STATUS_WAKE_SRC)) % 16
  keys : d'.key = { nv := d.key.nv }
  log : d'.evt.nv = d.evt.nv ∧ d'.evt.buf = []
  stored : d'.rsv.map = d.rsv.map ∧ d'.wb.templates = d.wb.templates ∧ d'.ctl.banks = d.ctl.banks ∧ d'.ctl.tables = d.ctl.tables ∧
    d'.img.flash = d.img.flash ∧ d'.tim.stored = d.tim.stored
  idle : d'.ring = {} ∧ d'.sky = {} ∧ d'.trk = {} ∧ d'.brk = {} ∧ d'.axs = {} ∧ d'.yrd = {} ∧ d'.rad = {} ∧ d'.wb.store = [] ∧ d'.rsv.path = []
  stopped : d'.sys.ran = false ∧ d'.sys.up = false ∧ d'.clk.mono = 0

/-! ### Host writes (R6-R9) -/

/-- The base addresses of the registers whose writes do more than store their fields, each with statements of its own, and of those that a state of their
block locks. -/
def actingBases : List Nat :=
  [R.SYS_RESET_KEY.base, R.SYS_DEV_ID_NEXT_ID.base, R.LC_CMD_REQ.base, R.PWR_CTRL_GO.base, R.SKY_CTRL_BAND_EN.base, R.SKY_NOTCH_CFG_MODE.base,
    R.SKY_NOTCH_FREQ_FREQ.base, R.ACQ_CTRL_RESTART.base, R.TRK_CTRL_EN.base, R.TRK_CH_CFG_OWNER.base, R.TRK_CH_SEL_SAT.base, R.TRK_CH_CMD_START.base,
    R.BASE_CTRL_GO.base, R.BASE_X_LO_POS_LO.base, R.BASE_X_HI_POS_HI.base, R.BASE_ARP_H_HEIGHT.base, R.YRD_CTRL_EN.base, R.YRD_PLAN_KIND.base, R.YRD_ANCH_ID_DEV.base,
    R.YRD_ANCH_POS_POS.base, R.RAD_CTRL_EN.base, R.RAD_KEY_CFG_CUR_SLOT.base, R.RSV_CTRL_EN.base, R.BRK_WD_CFG_ACTION.base, R.BRK_WD_KICK_KEY.base,
    R.BRK_MODEL_A_BRAKE.base, R.BRK_MODEL_T.base, R.BRK_MODEL_FRONT.base, R.WB_CTRL_EN.base, R.WB_MACH_DISABLE.base, R.WB_PEEK_IDX_INDEX.base] ++
  [R.RING_BASE_LO_ADDR.base, R.RING_BASE_HI_ADDR.base, R.RING_CFG_KIND.base, R.RING_CTRL_EN.base, R.MTR_CTRL_EN.base, R.MTR_PO_CFG_SRC.base,
    R.CTL_CTRL_EN.base, R.CTL_LOOP_CFG_EN.base, R.AXS_CTRL_EN.base, R.AXS_AX_CFG_MRES.base, R.AXS_AX_CHOP_T_OFF.base, R.AXS_AX_IN_FILT.base,
    R.AXS_AX_SOFT_LO_SOFT_LO.base, R.AXS_AX_SOFT_HI_SOFT_HI.base, R.IMG_REC_CMD_GO.base, R.EVT_CLASS_LIM_BURST.base, R.EVT_CLR_CMD_REQ.base,
    R.TLB_ALLOT_LO_SRC.base, R.TLB_ALLOT_HI_SRC.base]

/-- A write of the register only stores its fields. -/
def plainReg (f : Fld) : Bool :=
  !actingBases.contains f.base && !loopConfig f && !(R.BASE_X_LO_POS_LO.base ≤ f.base && f.base ≤ R.BASE_ARP_H_HEIGHT.base)

/-! ### Switches (R530) -/

/-- The polarity field of a homing switch: HOME, LIM_LO, LIM_HI (R530, R548). -/
def switchPol (src : Nat) : Fld := if src = 0 then R.AXS_AX_CFG_HOME_POL else R.AXS_AX_CFG_LIM_POL

/-! ### Keys (R558) -/

/-- The key engine takes the descriptor: it is the oldest one for KEY, and no non-volatile update runs (R566, R567). -/
def Dev.keyTurn (d : Dev) (q : Desc) : Bool := d.ring.handed.find? (fun q => q.block == 0x0F) == some q && d.key.up.isNone

/-- A KEY_IMPORT whose descriptor and 80-byte blob R558 accepts but for the seal. -/
def Dev.importable (d : Dev) (q : Desc) (m : List Byte) : Bool :=
  resvOk q.area [(0, 3), (8, 8)] && fld q.area 8 8 % 16 == 0 && decide (fld q.area 1 1 < 60) && decide (fld q.area 2 1 < 64) && !d.keyBlank && m.length == 80 && blobOk m &&
    fld m 8 2 == d.id && fld m 10 1 == fld q.area 1 1 && (fld m 2 1 != 2 || fld m 3 1 == 1) &&
    decide ((if fld m 11 1 = 1 then d.get R.KEY_NV_HWM_HWM (fld q.area 1 1) else tabGet d.key.hwm (fld q.area 1 1)) ≤ fld m 4 4)

/-- What the seal of an 80-byte blob opens to (R558). -/
def blobOpen (wrap m : List Byte) : Option (List Byte) := gcmOpen wrap ((m.drop 16).take 12) (m.take 16) ((m.drop 32).take 32) (m.drop 64)

/-- The slots a KEY_INVALIDATE of slot `n` makes stale (R564): `n` and all derived from it, of the slots below 60. -/
def Dev.staled (d : Dev) (n k : Nat) : Bool := decide (k < 60) && (k == n || d.descends n 6 k)

/-- What a KEY_INVALIDATE leaves in every slot (R564). -/
def Staled (n : Nat) (s t : State) : Prop :=
  (∀ k < 64, s.dev.staled n k = true → t.dev.get R.KEY_GEN_GEN k = (s.dev.get R.KEY_GEN_GEN k + 1) % 2 ^ 32 ∧ t.dev.get R.KEY_ATTR_STATE k = (if s.dev.get R.KEY_ATTR_STATE k = 3 then 3 else 2)) ∧
    (∀ k < 64, s.dev.staled n k = false → t.dev.get R.KEY_GEN_GEN k = s.dev.get R.KEY_GEN_GEN k ∧ t.dev.get R.KEY_ATTR_STATE k = s.dev.get R.KEY_ATTR_STATE k)

/-! ### Pieces on the air (R587) -/

/-- The device listens to the slot for pieces, and the frame is one of its source's (R587). -/
def Dev.hearsPiece (d : Dev) (slot ch code : Nat) (f : List Byte) : Bool :=
  decide (5 ≤ slot) && decide (slot ≤ 103) && decide (d.now ≤ d.slotStart (slot + 1)) && d.on R.IMG_CTRL_RX_EN && d.on R.IMG_XFER_OPEN && d.on R.IMG_XFER_SOURCE &&
    d.img.erasing.isNone && ch == d.get R.IMG_RX_CFG_SRC_CH && code == d.get R.IMG_RX_CFG_SRC_CODE && !d.sentIn slot && fType f == 3 && fSite f && fSrc f == 0xF0 &&
    fDst f == 0xF0 && fCell f == d.get R.IMG_RX_CFG_SRC_CELL

/-! ### Faults (R30) -/

/-- What a checker reports stands (R30). -/
def Dev.faultStands (d : Dev) : SysFault → Bool
  | .package => true
  | .yardCluster => !d.yardOk
  | .fftEngines => d.get R.ACQ_STATUS_ENGINE_OK == 0
  | .resEngine => !d.on R.RSV_STATUS_COMPARE_OK
  | .hostLink _ => !d.on R.RING_GLB_STATUS_LINK_UP

/-! ### The fuses (R54, R64, R66, R67, R554, R590) -/

/-- Where a life-cycle state may come from (R64): itself, or by the transitions of the table. -/
inductive LcReach : Lc → Lc → Prop where
  | same (a : Lc) : LcReach a a
  | step (a b c : Lc) : LcReach a b → lcMay b c = true → LcReach a c

/-- What the fuses may become: the life cycle goes forward by R64, WIPE_DONE is cleared only by a transition, a burned root stays, no
security epoch falls, the serial number stays. -/
structure FuseAfter (a b : Fuse) : Prop where
  lc : LcReach a.lc b.lc
  wipe : b.lc = a.lc → a.wipeDone = true → b.wipeDone = true
  root : a.root.isSome = true → b.root = a.root
  epochs : ∀ p, tabGet a.epochs p ≤ tabGet b.epochs p
  serial : b.serial = a.serial

end Sys2Proof.Machine
end

