-- ==== Sys2Proof/Certificates/Slice0/Obligations.lean ====
section
/-!
DEFINITION. The statements about the model, for the provers. Each one's docstring names the rules of the spec it rests on.
-/

open Sys2Proof Sys2Proof.Machine

/-! ### The machine as a whole -/

/-- A step takes the command at the front of the queue and runs it on the state with the rest of the queue; with an empty queue a
nanosecond passes (the empty queue is the model's choice, log entry 1), of yard time too while that runs (R187). -/
def Obligations.StepRunsTheFrontCommand : Prop :=
  (∀ (c : Instr) (rest : List Instr) (s : State), s.pending = c :: rest → step s = exec c { s with pending := rest }) ∧
  (∀ s : State, s.pending = [] → step s = .next { s with dev := s.dev.pass 1 }) ∧
  (∀ d : Dev, d.timeGoes = true → d.clk.slew = 0 →
    d.pass 1 = { d with clk := { d.clk with yard := d.clk.yard + 1, mono := d.clk.mono + 1, slewAcc := 0 } }) ∧
  (∀ d : Dev, d.timeGoes = false → d.pass 1 = { d with clk := { d.clk with mono := d.clk.mono + 1 } })

/-- Every command, well-formed or not, in every state, answers a next state, and leaves the queue to the sender. -/
def Obligations.EveryCommandAnswers : Prop := ∀ (c : Instr) (s : State), Answers c s fun t => t.pending = s.pending

/-- Every step keeps the fuses on the path the spec allows (R54, R64, R66, R554): the life cycle only goes forward by the transitions of
R64, WIPE_DONE falls only with a transition, a burned root never changes, no security epoch falls, the serial number stays. -/
def Obligations.FusesOnlyGoForward : Prop :=
  ∀ (f : Fuse) (s t : State), FuseAfter f s.fuse → step s = .next t → FuseAfter f t.fuse

/-- After reset the fuses are as shipped (R64): BLANK, no wipe done, no root; so they are on the path of `FusesOnlyGoForward`. -/
def Obligations.FusesAsShipped : Prop :=
  State.reset.fuse.lc = .blank ∧ State.reset.fuse.wipeDone = false ∧ State.reset.fuse.root = none ∧ FuseAfter {} State.reset.fuse

/-- R7, R8, R9: a 32-bit write at a register address stores listed values of RW fields but for reserved bits, and leaves a field whose value is not
listed, a read-only one, and every other register; a write of another width or off a 4-byte boundary is discarded (R6). A write of a register that does nothing
but hold its fields completes so, in every window the device's state lets it reach; a copied setting is the reins' holder's to write (R616). -/
def Obligations.HostWriteByAccessType : Prop :=
  (∀ (d : Dev) (f : Fld) (i j v : Nat), f ∈ regMap → f.has i j = true → f.acc = .rw → f.lists i (bits v f.lsb f.width) = true →
    (d.writeField f i j v).get f i j = Nat.land (bits v f.lsb f.width) (f.named i j)) ∧
  (∀ (d : Dev) (f : Fld) (i j v : Nat), f ∈ regMap → f.acc = .rw → f.lists i (bits v f.lsb f.width) = false → d.writeField f i j v = d) ∧
  (∀ (d : Dev) (f : Fld) (i j v : Nat), f.acc = .ro → d.writeField f i j v = d) ∧
  (∀ (addr w : Nat) (v : Word32) (s : State), w ≠ 32 ∨ addr % 4 ≠ 0 → Answers (.registerWrite addr w v) s fun t => t = s) ∧
  (∀ (f : Fld) (i j : Nat) (v : Word32) (s : State), f ∈ regMap → f.has i j = true → f.acc = .rw → plainReg f = true → s.dev.writable f = true →
    (s.dev.paired = false ∨ s.dev.reins = true ∨ ∀ g ∈ fieldsAt (f.addr i j), copiedSetting g.1 = false) → f.lists i (bits v.toNat f.lsb f.width) = true →
    Answers (.registerWrite (f.addr i j) 32 v) s fun t => ∃ (x : Dev) (g : Fld),
      t = { s with dev := ((if f.block = R.YRD_CTRL_EN.block then x.yrdView else x).countTrial g).settle } ∧
      x.get f i j = Nat.land (bits v.toNat f.lsb f.width) (f.named i j) ∧ x = { s.dev with regs := x.regs } ∧
      ∀ h ∈ regMap, h ≠ R.RING_DEV_IRQ_BLOCK → ∀ k l, h.has k l = true → h.addr k l ≠ f.addr i j → x.get h k l = s.dev.get h k l)

/-! ### Supplies, resets, boot and power states -/

/-- R53, R663: supplies that become valid, VIN_MON above its release threshold and a write of 0xA5A5 to SYS_RESET reset the device; every
reset wipes SRAM, keeps what R10 and R65 keep, counts the boot and says what woke the device. -/
def Obligations.ResetsWipeSram : Prop :=
  (∀ s : State, s.dev.sys.supplies = false → s.dev.sys.vin = true →
    Answers .suppliesValid s fun t => AfterReset (some (s.dev.sys.wake.getD 0)) s.dev t.dev ∧ t.dev.sys.supplies = true ∧ t.fuse = s.fuse) ∧
  (∀ s : State, s.dev.sys.vin = false → s.dev.sys.supplies = true →
    Answers .vinMonRelease s fun t => AfterReset (some (if s.dev.sys.saved then 6 else 0)) s.dev t.dev ∧ t.dev.sys.vin = true ∧ t.fuse = s.fuse) ∧
  (∀ (v : Word32) (s : State), v.toNat = 0xA5A5 → s.dev.writable R.SYS_RESET_KEY = true →
    Answers (.sysResetWrite v) s fun t => AfterReset (some 7) s.dev.beforeReset t.dev ∧ t.fuse = s.fuse) ∧
  (∀ (v : Word32) (s : State), v.toNat ≠ 0xA5A5 → Answers (.sysResetWrite v) s fun t => t = s) ∧
  (∀ s : State, s.dev.evt.nvmLost = false → s.dev.beforeReset.evt.finalMark = true)

/-- R54, R47: reset release reads the fuses and the identity; with no reference the device stays at L0 with REF_ABSENT set and looks again
a second later; with one the boot goes on, and it is complete when listening ends. -/
def Obligations.BootSequence : Prop :=
  (∀ (b : BootIn) (s : State), s.dev.sys.supplies = true → s.dev.sys.vin = true → s.dev.sys.ran = false → b.ref = false →
    Answers (.resetRelease b) s fun t => t.dev.sys.ran = true ∧ t.dev.boot = s.fuse ∧ t.fuse = s.fuse ∧
      t.dev.get R.LC_STATE_STATE = s.fuse.lc.code ∧ t.dev.get R.ID_DEV_DEV = s.dev.get R.SYS_DEV_ID_NEXT_ID ∧
      t.dev.get R.SYS_BOOT_STATUS_REF_ABSENT = 1 ∧ t.dev.get R.SYS_LEVEL_LEVEL = s.dev.get R.SYS_LEVEL_LEVEL ∧
      t.dev.get R.BRK_STATUS_DRAG_OUT = b2n (!s.dev.pair.present || b.dragA || b.dragB)) ∧
  (∀ (b : BootIn) (s : State), s.dev.sys.supplies = true → s.dev.sys.vin = true → s.dev.sys.ran = false → b.ref = true →
    Answers (.resetRelease b) s fun t => t.dev.sys.ran = true ∧ t.dev.sys.refOk = true) ∧
  (∀ (b : BootIn) (s : State), s.dev.on R.SYS_BOOT_STATUS_REF_ABSENT = true → s.dev.sys.refOk = false → s.dev.powered = true →
    b.ref = false → Answers (.refAbsentRecheck b) s fun t => t.dev.clk = (s.dev.pass second).clk ∧
      Frame [.clk] [] [R.SYS_BOOT_STATUS_REF_ABSENT, R.PWR_DOMAIN_RUNNING] s { t with fuse := s.fuse } ∧ t.dev.get R.SYS_BOOT_STATUS_REF_ABSENT = 1) ∧
  (∀ (b : BootIn) (s : State), s.dev.on R.SYS_BOOT_STATUS_REF_ABSENT = true → s.dev.sys.refOk = false → s.dev.powered = true →
    b.ref = true → Answers (.refAbsentRecheck b) s fun t => t.dev.sys.refOk = true ∧ t.dev.get R.SYS_BOOT_STATUS_REF_ABSENT = 0) ∧
  (∀ (s : State) (t0 : Nat), s.dev.rad.listenTo = some t0 → s.dev.sys.up = false → s.dev.imaged = true → s.dev.get R.PWR_STATUS_STATE = 0 →
    Answers .bootListenEnd s fun t => t.dev.sys.up = true ∧ t0 ≤ t.dev.clk.mono)

/-- R75: a write of SYS_DEV_ID with KEY = 0xD1D0 sets NEXT_ID for the next reset and leaves the ID in force; one with another KEY leaves
NEXT_ID; while the device holds the reins and a machine holds an authority the write is ignored and REFUSED set. -/
def Obligations.DeviceIdWrite : Prop :=
  (∀ (v : Word32) (s : State), bits v.toNat 16 16 = 0xD1D0 → s.dev.writable R.SYS_DEV_ID_NEXT_ID = true → s.dev.authorityHeld = false →
    Answers (.sysDevIdWrite v) s fun t => t.dev.get R.SYS_DEV_ID_NEXT_ID = v.toNat % 2 ^ 10 ∧
      t.dev.get R.SYS_DEV_ID_PENDING = b2n (v.toNat % 2 ^ 10 != s.dev.get R.ID_DEV_DEV) ∧
      Frame [] [0x0B] [R.SYS_DEV_ID_NEXT_ID, R.SYS_DEV_ID_PENDING, R.SYS_DEV_ID_REFUSED] s t) ∧
  (∀ (v : Word32) (s : State), bits v.toNat 16 16 = 0xD1D0 → s.dev.writable R.SYS_DEV_ID_NEXT_ID = true → s.dev.authorityHeld = true →
    Answers (.sysDevIdWrite v) s fun t => t.dev.get R.SYS_DEV_ID_REFUSED = 1 ∧ Frame [.out] [0x0B] [R.SYS_DEV_ID_REFUSED] s t) ∧
  (∀ (v : Word32) (s : State), bits v.toNat 16 16 ≠ 0xD1D0 → s.dev.writable R.SYS_DEV_ID_NEXT_ID = true →
    Answers (.sysDevIdWrite v) s fun t => (bitOf v.toNat 13 = true → t.dev.get R.SYS_DEV_ID_REFUSED = 0) ∧
      (bitOf v.toNat 13 = false → t = s) ∧ Frame [] [0x0B] [R.SYS_DEV_ID_REFUSED] s t)

/-- R49, R650, R55, R664: when VIN_MON trips, the device leaves every service state, asserts DRAG_OUT where it ran, and writes the tailboard
as far as power lasts; supplies that go leave DEEP behind, and without VAON the AON island loses its state too.
R52, R665, R466: VAON applied leaves only the PE_PERST_N wake enabled; the crystal takes over AON and lets METER run; in DEEP the
always-on counters count. -/
def Obligations.SuppliesAndIsland : Prop :=
  (∀ (n : Option Nat) (s : State), s.dev.sys.vin = true →
    Answers (.vinMonTrip n) s fun t => t.dev.sys.vin = false ∧ t.dev.sys.up = false ∧ t.dev.get R.PWR_STATUS_STATE = 2 ∧ t.dev.get R.PWR_CTRL_GO = 0 ∧
      (s.dev.sys.supplies = true → s.dev.sys.ran = true → s.dev.get R.PWR_STATUS_STATE ≠ 2 → t.dev.get R.BRK_STATUS_DRAG_OUT = 1 ∧
        (s.dev.on R.TLB_STATUS_READY = true → s.dev.on R.TLB_STATUS_CONSUMED = true → t.dev.tlb.headerOk = n.isSome))) ∧
  (∀ (s : State), s.dev.sys.supplies = true →
    Answers (.suppliesLost false) s fun t => t.dev.sys.supplies = false ∧ t.dev.dragOutBall = none ∧ t.dev.sys.vaon = false ∧ t.dev.aon.cnt = [] ∧
      t.dev.get R.PWR_STATUS_STATE = 2) ∧
  (∀ (s : State), s.dev.sys.supplies = true → s.dev.sys.vaon = true →
    Answers (.suppliesLost true) s fun t => t.dev.dragOutBall = none ∧ t.dev.sys.vaon = true ∧ Frame [.sys] [] [R.PWR_STATUS_STATE] s t) ∧
  (∀ s : State,
    Answers .vaonApplied s fun t => t.dev.sys.vaon = true ∧ t.dev.sys.xo = false ∧ t.dev.get R.PWR_WAKE_CFG_RTC_EN = 0 ∧ t.dev.get R.PWR_WAKE_CFG_PERST_EN = 1 ∧
      t.dev.get R.PWR_WAKE_CFG_PCNT_EN = 0 ∧ t.dev.get R.PWR_WAKE_CFG_RADIO_EN = 0 ∧ t.dev.get R.PWR_RTC_ALARM_ALARM_S = 0 ∧
      (∀ n, t.dev.get R.PWR_PCNT_CMP_CMP n = 0)) ∧
  (∀ s : State, s.dev.sys.vaon = true → s.dev.sys.xo = false →
    Answers .xo32CrystalStart s fun t => t.dev.sys = { s.dev.sys with xo := true } ∧ Frame [.sys] [] [R.PWR_DOMAIN_RUNNING] s t) ∧
  (∀ s : State, s.dev.sys.vaon = true → s.dev.sys.xo = false → s.dev.powered = true → s.dev.sys.field = false → 12 ∉ s.dev.sys.lost →
    Answers .xo32CrystalStart s fun t => t.dev.sys.xo = true ∧ t.dev.bit R.PWR_DOMAIN_RUNNING 10 = true) ∧
  (∀ (n : Nat) (s : State), n < 4 → s.dev.get R.PWR_STATUS_STATE = 2 → s.dev.sys.vaon = true →
    Answers (.deepPulseCount n) s fun t => tabGet t.dev.aon.cnt n = tabGet s.dev.aon.cnt n + 1 ∧ tabGet t.dev.aon.cmp n = tabGet s.dev.aon.cmp n + 1 ∧
      (∀ m, m ≠ n → tabGet t.dev.aon.cnt m = tabGet s.dev.aon.cnt m) ∧ Frame [.aon] [] [] s t)

/-- R49, R50, R51, R60: GO starts the change to TARGET unless a condition of R50 holds, which is reported; when the state is entered the device
is at L0, and a wake source leads WATCH back to RUN. -/
def Obligations.PowerStateChanges : Prop :=
  (∀ (v : Word32) (s : State), s.dev.writable R.PWR_CTRL_GO = true → s.dev.sys.target = none → s.dev.get R.PWR_STATUS_STATE = 0 → bitOf v.toNat 8 = true →
    (v.toNat % 4 = 1 ∨ v.toNat % 4 = 2) → (s.dev.writeAddr R.PWR_CTRL_TARGET.addr v.toNat).stayWhy = 0 →
    Answers (.pwrGo v) s fun t => t.dev.sys.target = some (v.toNat % 4) ∧ t.dev.get R.PWR_CTRL_GO = 1 ∧ t.dev.get R.PWR_STATUS_REFUSE_WHY = 0 ∧
      t.dev.evt.flushWant = true ∧ t.dev.mtr.saving.isSome = true) ∧
  (∀ (v : Word32) (s : State), s.dev.writable R.PWR_CTRL_GO = true → s.dev.sys.target = none → s.dev.get R.PWR_STATUS_STATE = 0 → bitOf v.toNat 8 = true →
    (v.toNat % 4 = 1 ∨ v.toNat % 4 = 2) → (s.dev.writeAddr R.PWR_CTRL_TARGET.addr v.toNat).stayWhy ≠ 0 →
    Answers (.pwrGo v) s fun t => t.dev.get R.PWR_STATUS_REFUSED = 1 ∧ t.dev.sys.target = none ∧
      t.dev.get R.PWR_STATUS_REFUSE_WHY = (s.dev.writeAddr R.PWR_CTRL_TARGET.addr v.toNat).stayWhy) ∧
  (∀ (s : State) (k : Nat), s.dev.sys.target = some k → k = 1 ∨ k = 2 → s.dev.sys.wake = none →
    Answers .powerStateEntered s fun t => t.dev.get R.PWR_STATUS_STATE = k ∧ t.dev.sys.target = none ∧
      (s.dev.get R.PWR_STATUS_STATE = 0 → t.dev.get R.SYS_LEVEL_LEVEL = 0)) ∧
  (∀ s : State, s.dev.get R.PWR_RTC_ALARM_ALARM_S ≠ 0 → s.dev.on R.PWR_WAKE_CFG_RTC_EN = true → s.dev.get R.PWR_STATUS_STATE = 1 → s.dev.sys.target = none →
    Answers .rtcAlarmWake s fun t => t.dev.get R.PWR_STATUS_STATE = 0 ∧ t.dev.get R.PWR_STATUS_WAKE_SRC = 1) ∧
  (∀ s : State, s.dev.on R.PWR_WAKE_CFG_PERST_EN = true → s.dev.get R.PWR_STATUS_STATE = 1 → s.dev.sys.target = none →
    Answers .perstWake s fun t => t.dev.get R.PWR_STATUS_STATE = 0 ∧ t.dev.get R.PWR_STATUS_WAKE_SRC = 2) ∧
  (∀ (n : Nat) (s : State), n < 4 → s.dev.bit R.PWR_WAKE_CFG_PCNT_EN n = true → s.dev.get R.PWR_PCNT_CMP_CMP n ≤ tabGet s.dev.aon.cmp n →
    s.dev.get R.PWR_STATUS_STATE = 2 → s.dev.sys.vaon = true → s.dev.sys.vin = true → s.dev.sys.supplies = true →
    Answers (.pcntCompareWake n) s fun t => AfterReset (some 3) s.dev t.dev ∧ t.dev.get R.PWR_STATUS_STATE = 0) ∧
  (∀ (frame p : List Byte) (e : Dev) (i : Nat) (s : State), i < 4 → s.dev.get R.PWR_STATUS_STATE = 1 → s.dev.timed = true → 11 ∉ s.dev.sys.lost →
    (s.dev.passTo ((if s.dev.now % second ≤ 396 * slotLen then s.dev.gpsSec else s.dev.gpsSec + 1) * second + 396 * slotLen)).receiveSite frame
      (fType frame == 7 && siteDst frame) = (some p, e) → e.on R.PWR_WAKE_CFG_RADIO_EN = true → fld p (22 + 2 * i) 2 = e.id → fld p 0 2 % 1024 ≠ e.id →
    Answers (.watchListen frame) s fun t => t = { s with dev := e.wakeUp 4 })

/-! ### Life cycle -/

/-- R66, R67, R68: REQ places a fresh challenge; COMMIT of an allowed and, where R67 asks it, answered transition burns the state fuse, clears
WIPE_DONE and resets; a wrong answer, or RETURN and SCRAPPED while an authority is held, leaves the fuses and sets FAIL.
R69, R67: debug is opened with the challenge path in PROVISIONED or RETURN alone, never with the reins; a challenge ends after 60 s. -/
def Obligations.LifeCycleAndDebug : Prop :=
  (∀ (v : Word32) (s : State), s.dev.writable R.LC_CMD_REQ = true → bitOf v.toNat 8 = true → bitOf v.toNat 10 = false →
    Answers (.lcReq v) s fun t => t.dev.sys.chal = some (s.dev.clk.mono, false) ∧ t.dev.words16 R.LC_CHAL_CHAL = fit 16 (Config.fresh16 s.dev.free) ∧
      t.dev.free = s.dev.free + 1 ∧ Frame [.sys, .free] [0x0B] [R.LC_CHAL_CHAL, R.LC_CMD_TARGET, R.LC_CMD_DEBUG, R.LC_CMD_FAIL] s t) ∧
  (∀ (v : Word32) (s : State) (a : Lc), s.dev.writable R.LC_CMD_COMMIT = true → bitOf v.toNat 9 = true → bitOf v.toNat 10 = false →
    Lc.ofCode (v.toNat % 8) = some a → s.dev.lcOk s.fuse.lc a = true → ((a = .ret ∨ a = .scrapped) → s.dev.authorityHeld = false) →
    Answers (.lcCommit v) s fun t => t.fuse = { s.fuse with lc := a, wipeDone := false } ∧ t.dev.get R.LC_STATE_STATE = a.code ∧
      t.dev.get R.LC_STATE_WIPE_DONE = 0 ∧ t.dev.sys.ran = false ∧ t.dev.key.bytes = [] ∧
      (a = .ret ∨ a = .scrapped → t.dev.evt.nv = [] ∧ t.dev.rsv.map = [] ∧ t.dev.wb.templates = [] ∧ t.dev.tlb.headerOk = false) ∧
      (a ≠ .ret → a ≠ .scrapped → t.dev.evt.nv = s.dev.evt.nv ∧ t.dev.rsv.map = s.dev.rsv.map ∧ t.dev.key.nv = s.dev.key.nv)) ∧
  (∀ (v : Word32) (s : State) (a : Lc), s.dev.writable R.LC_CMD_COMMIT = true → bitOf v.toNat 9 = true → bitOf v.toNat 10 = false →
    Lc.ofCode (v.toNat % 8) = some a → (s.dev.lcOk s.fuse.lc a = false ∨ ((a = .ret ∨ a = .scrapped) ∧ s.dev.authorityHeld = true)) →
    Answers (.lcCommit v) s fun t => t.fuse = s.fuse ∧ t.dev.get R.LC_CMD_FAIL = 1 ∧ t.dev.sys.chal = none ∧ t.dev.get R.LC_STATE_STATE = s.dev.get R.LC_STATE_STATE) ∧
  (∀ (v : Word32) (s : State), s.dev.writable R.LC_CMD_REQ = true → bitOf v.toNat 8 = true → bitOf v.toNat 10 = true →
    Answers (.lcDebugReq v) s fun t => t.dev.sys.chal = some (s.dev.clk.mono, true) ∧ t.dev.words16 R.LC_CHAL_CHAL = fit 16 (Config.fresh16 s.dev.free) ∧
      Frame [.sys, .free] [0x0B] [R.LC_CHAL_CHAL, R.LC_CMD_TARGET, R.LC_CMD_DEBUG, R.LC_CMD_FAIL] s t) ∧
  (∀ (v : Word32) (s : State), s.dev.writable R.LC_CMD_COMMIT = true → bitOf v.toNat 9 = true → bitOf v.toNat 10 = true →
    (s.dev.boot.lc = .provisioned ∨ s.dev.boot.lc = .ret) → s.dev.reins = false → s.dev.lcAnswer 0xD0 = true →
    Answers (.lcDebugCommit v) s fun t => t.dev.get R.LC_STATE_DEBUG_OPEN = 1 ∧ t.dev.sys.chal = none ∧
      Frame ([.sys] ++ reports) reportWs [R.LC_STATE_DEBUG_OPEN, R.LC_CMD_TARGET, R.LC_CMD_DEBUG, R.LC_CMD_FAIL] s t) ∧
  (∀ (v : Word32) (s : State), s.dev.writable R.LC_CMD_COMMIT = true → bitOf v.toNat 9 = true → bitOf v.toNat 10 = true →
    ((s.dev.boot.lc ≠ .provisioned ∧ s.dev.boot.lc ≠ .ret) ∨ s.dev.reins = true ∨ s.dev.lcAnswer 0xD0 = false) →
    Answers (.lcDebugCommit v) s fun t => t.dev.get R.LC_CMD_FAIL = 1 ∧ t.dev.get R.LC_STATE_DEBUG_OPEN = s.dev.get R.LC_STATE_DEBUG_OPEN) ∧
  (∀ (s : State) (t0 : Nat) (b : Bool), s.dev.sys.chal = some (t0, b) →
    Answers .lcChallengeExpiry s fun t => t.dev.sys.chal = none ∧ t0 + 60 * second ≤ t.dev.clk.mono ∧ Frame [.clk, .sys] [] [] s t)

/-! ### Service levels -/

/-- R60: at a boundary the device falls to the highest level whose conditions hold, never below L1, with the cause in LAST_FALL, one more fall
counted and a record; with every condition holding it keeps its level.
R59, R61: the level rises by one once its conditions have held for ten fleet cycles; a fleet cycle boundary and a superframe start judge the
level on the state they find, and an allotment written comes into force (R648). -/
def Obligations.LevelMoves : Prop :=
  (∀ (d : Dev) (c : Nat) (l : List Nat), d.level = 3 → d.levelWhys 3 = c :: l → d.levelWhys 2 = [] →
    d.levelBoundary.level = 2 ∧ d.levelBoundary.get R.SYS_LEVEL_LAST_FALL = c ∧
      d.levelBoundary.get R.SYS_LEVEL_FALLS = min (d.get R.SYS_LEVEL_FALLS + 1) 0xFFFF) ∧
  (∀ (d : Dev) (c : Nat) (l : List Nat), d.level = 2 → d.levelWhys 2 = c :: l →
    d.levelBoundary.level = 1 ∧ d.levelBoundary.get R.SYS_LEVEL_LAST_FALL = c ∧
      d.levelBoundary.get R.SYS_LEVEL_FALLS = min (d.get R.SYS_LEVEL_FALLS + 1) 0xFFFF ∧ (d.reins = true → d.levelBoundary.bit R.BRK_SRC_SRC 2 = true)) ∧
  (∀ d : Dev, d.levelWhys d.level = [] → d.levelBoundary.level = d.level) ∧
  (∀ d : Dev, d.level = 1 → d.levelBoundary.level = 1) ∧
  (∀ s : State, s.dev.running = true → s.dev.timed = true → 1 ≤ s.dev.level → s.dev.level < 3 → 10 ≤ s.dev.sys.hold →
    s.dev.levelWhys (s.dev.level + 1) = [] →
    Answers .levelRise s fun t => t.dev.level = s.dev.level + 1 ∧ t.dev.sys.hold = 0 ∧ t.dev.clk.yard % fleetCycle = 0 ∧
      s.dev.clk.yard ≤ t.dev.clk.yard ∧ t.dev.clk.yard < s.dev.clk.yard + fleetCycle ∧
      Frame ([.clk, .sys, .brk] ++ reports) (reportWs ++ [0x09]) [R.SYS_LEVEL_LEVEL, R.PAIR_STATUS_READY] s t) ∧
  (∀ s : State, s.dev.level = 3 ∨ s.dev.sys.hold < 10 → Answers .levelRise s fun t => t = s) ∧
  (∀ (e : EngObs) (s : State), s.dev.running = true → s.dev.timed = true →
    Answers (.fleetCycleBoundary e) s fun t => t.dev.tlb = { s.dev.tlb with old := none } ∧
      t.dev.clk.fc = nextIdx s.dev.clk.yard fleetCycle s.dev.clk.fc + 1 ∧ t.dev.clk.yard % fleetCycle = 0 ∧ s.dev.clk.yard ≤ t.dev.clk.yard ∧
      t.dev.clk.yard ≤ s.dev.clk.yard + fleetCycle) ∧
  (∀ (e : EngObs) (s : State), s.dev.running = true → s.dev.timed = true → s.dev.level ≠ 0 →
    Answers (.fleetCycleBoundary e) s fun t =>
      let k := nextIdx s.dev.clk.yard fleetCycle s.dev.clk.fc
      let x := s.dev.passTo (k * fleetCycle)
      let y := ({ x with clk := { x.clk with fc := k + 1 } } : Dev).yrdView.levelBoundary
      t.dev.level = y.level ∧ t.dev.get R.SYS_LEVEL_LAST_FALL = y.get R.SYS_LEVEL_LAST_FALL ∧ t.dev.sys.hold = y.sys.hold) ∧
  (∀ (e : EngObs) (s : State), s.dev.running = true → s.dev.timed = false →
    Answers (.fleetCycleBoundary e) s fun t => t.dev = (s.dev.pass fleetCycle).dragOutBoundary) ∧
  (∀ (e : EpochIn) (s : State), s.dev.running = true → s.dev.timed = true →
    Answers (.superframeStart e) s fun t => t.dev.clk.sf = nextIdx s.dev.clk.yard superframe s.dev.clk.sf + 1 ∧ t.dev.clk.yard % superframe = 0 ∧
      s.dev.clk.yard ≤ t.dev.clk.yard ∧ t.dev.clk.yard ≤ s.dev.clk.yard + superframe) ∧
  (∀ (e : EpochIn) (s : State), s.dev.running = true → s.dev.timed = true → s.dev.level = 0 → s.dev.sys.up = true → s.dev.capNow ≠ 0 → s.dev.sys.pkg = false →
    s.dev.rad.faulted = false → s.dev.paired = false →
    Answers (.superframeStart e) s fun t => t.dev.level = 1 ∧ t.dev.reins = true ∧ t.dev.bit R.BRK_SRC_SRC 2 = true) ∧
  (∀ (e : EpochIn) (s : State), s.dev.running = true → s.dev.timed = true → s.dev.level ≠ 0 →
    Answers (.superframeStart e) s fun t => t.dev.level = s.dev.level) ∧
  (∀ s : State, s.dev.running = true → s.dev.timed = true → s.dev.tim.stepAt = none →
    Answers .gpsSecondBoundary s fun t => t.dev.clk.sec = nextIdx s.dev.clk.yard second s.dev.clk.sec + 1 ∧ t.dev.clk.yard % second = 0) ∧
  (∀ s : State, s.dev.runs .safe = true → s.dev.reins = true → 10 ≤ s.dev.pair.higher → s.dev.partnerReady = true → s.dev.get R.IMG_STATUS_TRIAL_PART = 7 → s.dev.pair.sw = none →
    Answers .skyReinsPass s fun t => t.dev.pair = { s.dev.pair with sw := some (none, none) } ∧ Frame [.pair] [] [] s t)

/-! ### Faults -/

/-- R30: the reaction to a fault. Without the reins the device stops counting as ready and stays silent; with them and a ready standby it hands
over; else it drags the whole cell and asserts DRAG_OUT; the host gets the fault interrupt. -/
def Obligations.FaultReaction : Prop :=
  (∀ (d : Dev) (hand : Bool), d.reins = true → d.paired = false →
    (d.react false hand).bit R.BRK_SRC_SRC 3 = true ∧ (d.react false hand).get R.BRK_STATUS_DRAG_OUT = 1 ∧
      (d.react false hand).get R.RING_DEV_IRQ_FAULT = 1 ∧ (d.react false hand).evt.flushWant = true) ∧
  (∀ (d : Dev) (alone hand : Bool), d.reins = true → d.paired = true → d.partnerReady = true → (hand = true ∨ alone = false) →
    d.react alone hand = d.faultIrq.wantFlush.lapse 2) ∧
  (∀ (d : Dev) (alone hand : Bool), d.reins = false → (hand = true ∨ alone = false) →
    (d.react alone hand).pair.ownFault = true ∧ (d.react alone hand).rad.faulted = true) ∧
  (∀ (f : SysFault) (s : State), s.dev.running = true → s.dev.faultStands f = true → s.dev.reins = true → s.dev.paired = false →
    Answers (.faultDetected f) s fun t => t.dev.get R.RING_DEV_IRQ_FAULT = 1 ∧ t.dev.evt.flushWant = true ∧ t.fuse = s.fuse) ∧
  (∀ (f : SysFault) (s : State), s.dev.faultStands f = false → Answers (.faultDetected f) s fun t => t = s) ∧
  (∀ s : State, s.dev.running = true →
    Answers .safeWatchdogExpiry s fun t => ∃ x : Dev, t.dev = x.react false true ∧ x.sys.pkg = true ∧ x.pair.frozen = true)

/-- R26, R27, R40: a lost region is reported with a record and counted lost, and its effect follows; the third failed retry in a row, 1 ms without a
transfer and a lost reference lose the field die, with which radio, sky and time go and the level is at most L1. -/
def Obligations.RegionsLost : Prop :=
  (∀ (r : Region) (c : RegionCause) (p : Bool) (s : State), s.dev.running = true → regionCode r ∉ s.dev.sys.lost →
    Answers (.regionLoss r c p) s fun t => ∃ x : Dev, t.dev = x.regionEffect p r ∧ x.sys.lost = s.dev.sys.lost ++ [regionCode r] ∧
      (x.evt.buf.getLast?.map fun y => (y.t, y.code)) = some (s.dev.now, sysCode 1)) ∧
  (∀ (retry : Bool) (s : State), (retry = false ∨ s.dev.sys.retries < 2) →
    Answers (.d2dCrcFail retry) s fun t => t.dev.sys = { s.dev.sys with retries := if retry then s.dev.sys.retries + 1 else 0 } ∧ Frame [.sys] [] [] s t) ∧
  (∀ s : State, 2 ≤ s.dev.sys.retries → s.dev.running = true → 14 ∉ s.dev.sys.lost →
    Answers (.d2dCrcFail true) s fun t => ∃ x : Dev, t.dev = (x.react false true).settle ∧ x.sys.field = true ∧ 14 ∈ x.sys.lost ∧ x.level ≤ 1 ∧ x.rad.inhibit = true) ∧
  (∀ s : State, s.dev.running = true → 14 ∉ s.dev.sys.lost →
    Answers .d2dLinkTimeout s fun t => ∃ x : Dev, t.dev = (x.react false true).settle ∧ x.sys.field = true ∧ 14 ∈ x.sys.lost ∧ x.level ≤ 1 ∧ x.rad.inhibit = true) ∧
  (∀ s : State, s.dev.running = true → 9 ∉ s.dev.sys.lost →
    Answers .timeRefLoss s fun t => ∃ x : Dev, t.dev = (x.react false true).settle ∧ x.sys.field = true ∧ 9 ∈ x.sys.lost ∧ x.level ≤ 1 ∧
      x.get R.SYS_BOOT_STATUS_REF_ABSENT = 1)

/-- R670, R671: a temperature sample is what SYS_TEMP reads, with the warning at 125 °C and the maximum kept; at 135 °C it is a package fault. -/
def Obligations.TemperatureSample : Prop :=
  (∀ (core field : Int) (s : State), s.dev.running = true → max core field < 2160 → -32768 ≤ core → -32768 ≤ field →
    Answers (.tempSample core field) s fun t => t.dev.geti R.SYS_TEMP_CORE = core ∧ t.dev.geti R.SYS_TEMP_FIELD = field ∧
      t.dev.get R.SYS_TEMP_STAT_HOT = b2n (decide (2000 ≤ max core field)) ∧
      t.dev.geti R.SYS_TEMP_STAT_MAX = max (max core field) (s.dev.geti R.SYS_TEMP_STAT_MAX) ∧
      Frame ([.sys] ++ reports) (reportWs ++ [0x01]) [] s t) ∧
  (∀ (core field : Int) (s : State), s.dev.running = true → s.dev.sys.pkg = false → 2160 ≤ max core field →
    Answers (.tempSample core field) s fun t => ∃ x : Dev, t.dev = x.react false true ∧ x.sys.pkg = true ∧ x.pair.frozen = true)

/-! ### Sky front -/

/-- R80: a sample of the bias current is what CURRENT reads; at the limit for 10 ms the bias is switched off and retried a second later; below
OPEN_MA for 1 s it reads open; each change of STATE sets BIAS_FAULT. -/
def Obligations.AntennaBias : Prop :=
  (∀ (ma : Nat) (s : State), s.dev.runs .sky = true → s.dev.get R.SKY_BIAS_CFG_VSEL ≠ 0 → s.dev.get R.SKY_BIAS_STAT_STATE = 1 →
    Answers (.biasSample ma) s fun t => t.dev.get R.SKY_BIAS_STAT_CURRENT = min ma 255 ∧ t.dev.get R.SKY_BIAS_STAT_STATE = 1 ∧
      t.dev.sky.biasLim = (if (s.dev.get R.SKY_BIAS_CFG_ILIM + 1) * 10 ≤ ma then s.dev.sky.biasLim + 1 else 0) ∧
      t.dev.sky.biasLow = (if ma < s.dev.get R.SKY_BIAS_CFG_OPEN_MA then s.dev.sky.biasLow + 1 else 0) ∧
      Frame [.sky] [] [R.SKY_BIAS_STAT_CURRENT] s t) ∧
  (∀ (ma : Nat) (s : State), s.dev.runs .sky = true → s.dev.get R.SKY_BIAS_CFG_VSEL = 0 →
    Answers (.biasSample ma) s fun t => t.dev.get R.SKY_BIAS_STAT_STATE = 0 ∧ t.dev.get R.SKY_BIAS_STAT_CURRENT = 0) ∧
  (∀ s : State, s.dev.runs .sky = true → 10 ≤ s.dev.sky.biasLim → s.dev.get R.SKY_BIAS_STAT_STATE ≠ 3 →
    Answers .biasShort s fun t => t.dev.get R.SKY_BIAS_STAT_STATE = 3 ∧ t.dev.get R.SKY_STATUS_BIAS_FAULT = 1 ∧ t.dev.sky.shortAt = s.dev.clk.mono ∧
      Frame ([.sky] ++ reports) reportWs [R.SKY_BIAS_STAT_STATE, R.SKY_STATUS_BIAS_FAULT] s t) ∧
  (∀ s : State, s.dev.runs .sky = true → s.dev.get R.SKY_BIAS_STAT_STATE = 3 →
    Answers .biasRetry s fun t => t.dev.get R.SKY_BIAS_STAT_STATE = 1 ∧ t.dev.get R.SKY_STATUS_BIAS_FAULT = 1 ∧ s.dev.sky.shortAt + second ≤ t.dev.clk.mono ∧
      Frame ([.clk] ++ reports) reportWs [R.SKY_BIAS_STAT_STATE, R.SKY_STATUS_BIAS_FAULT] s t) ∧
  (∀ s : State, s.dev.runs .sky = true → 1000 ≤ s.dev.sky.biasLow → s.dev.get R.SKY_BIAS_STAT_STATE ≠ 2 →
    Answers .biasOpen s fun t => t.dev.get R.SKY_BIAS_STAT_STATE = 2 ∧ t.dev.get R.SKY_STATUS_BIAS_FAULT = 1 ∧
      Frame reports reportWs [R.SKY_BIAS_STAT_STATE, R.SKY_STATUS_BIAS_FAULT] s t)

/-- R81, R89, R96: in AUTO the gain falls by at most 1 dB and rises by at most 0.25 dB a millisecond within 0 to 63.75 dB; after 60 s of clear operation
the average gain becomes BASE; with RF lock on all enabled bands the start begins once. -/
def Obligations.GainAndStart : Prop :=
  (∀ (r : Fin 3 → Nat) (b : Fin 3) (e : Int) (s : State), s.dev.runs .sky = true → s.dev.bit R.SKY_CTRL_BAND_EN b = true → s.dev.get R.SKY_AGC_CFG_MODE b = 0 →
    agcError (r b) (s.dev.get R.SKY_AGC_CFG_TARGET b) = e →
    Answers (.agcStep (r 0) (r 1) (r 2)) s fun t =>
      (0 < e → t.dev.get R.SKY_AGC_STAT_GAIN b = s.dev.get R.SKY_AGC_STAT_GAIN b - min 4 e.toNat) ∧
      (e < 0 → t.dev.get R.SKY_AGC_STAT_GAIN b = min 255 (s.dev.get R.SKY_AGC_STAT_GAIN b + 1)) ∧
      (e = 0 → t.dev.get R.SKY_AGC_STAT_GAIN b = s.dev.get R.SKY_AGC_STAT_GAIN b) ∧
      t.dev.get R.SKY_AGC_STAT_SETTLED b = b2n (agcNear (r b) (s.dev.get R.SKY_AGC_CFG_TARGET b) && 9 ≤ tabGet s.dev.sky.settle b)) ∧
  (∀ (b : Nat) (s : State), s.dev.runs .sky = true → b < 3 → 60000 ≤ tabGet s.dev.sky.learnN b →
    Answers (.baseGainLearn b) s fun t => t.dev.get R.SKY_AGC_STAT_BASE_VALID b = 1 ∧
      t.dev.get R.SKY_AGC_STAT_BASE b = (2 * tabGet s.dev.sky.learnSum b + tabGet s.dev.sky.learnN b) / (2 * tabGet s.dev.sky.learnN b) % 256 ∧
      tabGet t.dev.sky.learnN b = 0 ∧ Frame [.sky] [] [R.SKY_AGC_STAT_BASE, R.SKY_AGC_STAT_BASE_VALID] s t) ∧
  (∀ (i : StartInfo) (s : State), s.dev.runs .sky = true → s.dev.get R.SKY_STATUS_RF_LOCK = 7 → s.dev.sky.started = false →
    Answers (.rfLockAcquired i) s fun t => t.dev.sky.started = true ∧ t.dev.sky.repeatAt = s.dev.clk.mono ∧
      Frame ([.sky] ++ reports) reportWs [R.ACQ_STATUS_QUEUE] s t)

/-- R88, R90: JAM_IND is computed from the spectrum; STATE falls by one step after 100 computations below its threshold less HYST, with an event and
the SKY interrupt.
R85, R86: an auto notch quiet for 100 spectra is released; waiting notch changes take effect together at the next millisecond. -/
def Obligations.JammingAndNotches : Prop :=
  (∀ (x : Fin 3 → BandSpec) (b : Fin 3) (s : State), s.dev.runs .sky = true → s.dev.bit R.SKY_CTRL_BAND_EN b = true →
    Answers (.spectrumUpdate (x 0) (x 1) (x 2)) s fun t => t.dev.get R.SKY_JAM_PEAK_BIN b = (x b).peakBin % 1024 ∧
      t.dev.get R.SKY_JAM_PEAK_DB b = min (x b).peakDb 255 ∧
      t.dev.get R.SKY_JAM_JAM_IND b = min 255 (2 * (if s.dev.on R.SKY_AGC_STAT_BASE_VALID b then s.dev.get R.SKY_AGC_STAT_BASE b - s.dev.get R.SKY_AGC_STAT_GAIN b
        else 0) + 2 * (min (x b).peakDb 255 - 20))) ∧
  (∀ (b : Nat) (s : State), s.dev.runs .sky = true → b < 3 → 100 ≤ tabGet s.dev.sky.jamLow b → 1 ≤ s.dev.get R.SKY_JAM_STATE b → s.dev.get R.SKY_JAM_STATE b ≤ 2 →
    Answers (.jamStateFall b) s fun t => t.dev.get R.SKY_JAM_STATE b = s.dev.get R.SKY_JAM_STATE b - 1 ∧ tabGet t.dev.sky.jamLow b = 0 ∧
      t.dev.bit R.RING_DEV_IRQ_BLOCK 2 = true ∧ Frame ([.sky] ++ reports) reportWs [R.SKY_JAM_STATE, R.SKY_STATUS_JAM_MAX] s t) ∧
  (∀ (b n : Nat) (s : State), s.dev.runs .sky = true → b < 3 → n < 6 → (tabGet s.dev.sky.notch (6 * b + n)).placed = true → 100 ≤ (tabGet s.dev.sky.notch (6 * b + n)).quiet →
    Answers (.autoNotchRelease b n) s fun t => (tabGet t.dev.sky.notch (6 * b + n)).placed = false ∧ 6 * b + n ∈ t.dev.sky.pending ∧
      Frame ([.sky] ++ reports) reportWs [] s t) ∧
  (∀ s : State, s.dev.runs .sky = true → s.dev.sky.pending ≠ [] →
    Answers .notchApply s fun t => t.dev.sky.pending = [] ∧ t.dev.clk.yard % ms = 0 ∧ s.dev.clk.yard ≤ t.dev.clk.yard ∧ t.dev.clk.yard < s.dev.clk.yard + ms ∧
      (∀ k ∈ s.dev.sky.pending, k < 18 → t.dev.get R.SKY_NOTCH_CFG_ACTIVE (k / 6) (k % 6) = b2n (s.dev.notchActs (k / 6) (k % 6))) ∧
      Frame [.clk, .sky, .trk] [] [R.SKY_NOTCH_CFG_ACTIVE] s t)

/-! ### Acquisition -/

/-- R101, R103: a well-formed SKY_SEARCH on a locked band joins the queue under its descriptor; a malformed one completes BAD_DESCRIPTOR, one the
device could not run at its fetch REFUSED_STATE, one it can no longer run ABORTED.
R94, R95, R99, R103: a capture serves every queued search of its class and band; an engine finishes a bin of the search it runs; a search that
finds nothing completes its descriptor and leaves the queue; a candidate held for a second is dropped and counted. -/
def Obligations.Searches : Prop :=
  (∀ (q : Desc) (s : State), Ready 3 1 q s.dev → searchOk q.area (s.dev.tcohOf q) (s.dev.kOf q) = true →
    q.gate = true → s.dev.on R.SKY_CTRL_ACQ_EN = true → s.dev.bit R.SKY_STATUS_RF_LOCK (fld q.area 2 1) = true → s.dev.sky.queue.length < 256 →
    Answers .skySearch s fun t => (∃ x : Search, t.dev.sky.queue = s.dev.sky.queue ++ [x] ∧ x.desc = some q ∧ x.cls = fld q.area 1 1 ∧
      x.band = fld q.area 2 1 ∧ x.sat = fld q.area 4 2 ∧ x.tcoh = s.dev.tcohOf q ∧ x.k = s.dev.kOf q) ∧
      t.dev.get R.ACQ_STATUS_QUEUE = s.dev.sky.queue.length + 1 ∧ Frame [.ring, .sky] [] [R.ACQ_STATUS_QUEUE] s t) ∧
  (∀ (q : Desc) (s : State), Ready 3 1 q s.dev → searchOk q.area (s.dev.tcohOf q) (s.dev.kOf q) = false → s.dev.sky.queue.length < 256 →
    Answers .skySearch s fun t => Completes q .badDescriptor s t ∧ Frame reports [0x0B] [] s t) ∧
  (∀ (q : Desc) (s : State), Ready 3 1 q s.dev → searchOk q.area (s.dev.tcohOf q) (s.dev.kOf q) = true → s.dev.sky.queue.length < 256 → q.gate = false →
    Answers .skySearch s fun t => Completes q .refusedState s t ∧ Frame reports [0x0B] [] s t) ∧
  (∀ (q : Desc) (s : State), Ready 3 1 q s.dev → searchOk q.area (s.dev.tcohOf q) (s.dev.kOf q) = true → s.dev.sky.queue.length < 256 → q.gate = true →
    (s.dev.on R.SKY_CTRL_ACQ_EN = false ∨ s.dev.bit R.SKY_STATUS_RF_LOCK (fld q.area 2 1) = false) →
    Answers .skySearch s fun t => Completes q .aborted s t ∧ Frame reports [0x0B] [] s t) ∧
  (∀ (c b : Nat) (s : State), s.dev.runs .acq = true →
    Answers (.acqCaptureDone c b) s fun t => (∀ x ∈ t.dev.sky.queue, x.cls = c → x.band = b → x.captured = true) ∧
      t.dev.sky.queue.length = s.dev.sky.queue.length ∧ Frame [.sky] [] [] s t) ∧
  (∀ (e no i : Nat) (x : Search) (s : State), s.dev.runs .acq = true → e < 2 → s.dev.bit R.ACQ_STATUS_ENGINE_OK e = true → tabFind s.dev.sky.engine e = some no →
    s.dev.sky.queue[i]? = some x → x.no = no →
    Answers (.acqBinDone e) s fun t => t.dev.sky.queue[i]? = some { x with bins := min x.nbins (x.bins + 1) } ∧ Frame [.sky] [] [] s t) ∧
  (∀ (i : Nat) (x : Search) (q : Desc) (s : State), s.dev.runs .acq = true → s.dev.sky.queue[i]? = some x → x.desc = some q → x.chan = none → x.pass ≠ 1 →
    Awaits q s.dev →
    Answers (.searchDone i none) s fun t => t.dev.sky.queue = s.dev.sky.queue.eraseIdx i ∧ Completes q .done s t ∧
      Frame ([.sky] ++ reports) [0x0B] [R.ACQ_STATUS_QUEUE] s t) ∧
  (∀ (c : Cand) (s : State), s.dev.runs .corr = true → s.dev.sky.cands.find? (fun c => !c.handover) = some c →
    Answers .candidateDrop s fun t => t.dev.sky.cands = s.dev.sky.cands.erase c ∧ c.t + second ≤ t.dev.clk.mono ∧
      t.dev.get R.ACQ_STATUS_DROPPED = min (s.dev.get R.ACQ_STATUS_DROPPED + 1) 255 ∧ Frame [.clk, .sky] [] [R.ACQ_STATUS_DROPPED] s t)

/-- R96, R98: RESTART discards the device's own searches and starts again; ten seconds after the last sky search the identifiers that no channel holds
are searched again, as far as the queue has room. -/
def Obligations.SkySearchRepeats : Prop :=
  (∀ (v : Word32) (i : StartInfo) (s : State), s.dev.writable R.ACQ_CTRL_RESTART = true → bitOf v.toNat 4 = true → s.dev.on R.SKY_CTRL_AUTO_SKY = false →
    Answers (.acqRestart v i) s fun t => (∀ x ∈ t.dev.sky.queue, x.kind ≠ .auto) ∧ t.dev.sky.started = true ∧ t.dev.get R.ACQ_STATUS_SKY_DONE = 0 ∧
      t.dev.sky.requeue = [] ∧ (∀ c ∈ t.dev.sky.cands, c.handover = true)) ∧
  (∀ s : State, s.dev.runs .sky = true → s.dev.on R.SKY_CTRL_AUTO_SKY = true → s.dev.on R.SKY_CTRL_ACQ_EN = true → s.dev.on R.ACQ_STATUS_SKY_DONE = true → s.dev.sky.queue = [] →
    (∀ ch < 180, s.dev.get R.TRK_CH_STAT_STATE ch = 0) → s.dev.get R.SKY_STATUS_RF_LOCK = 7 →
    Answers .autoSkyRepeat s fun t => s.dev.sky.repeatAt + 10 * second ≤ t.dev.clk.mono ∧ t.dev.sky.repeatAt = t.dev.clk.mono ∧
      (∀ x ∈ coldList, ∃ y ∈ t.dev.sky.queue, y.cls = x.1 ∧ y.band = x.2.1 ∧ y.sat = x.2.2 ∧ y.pass = 2) ∧ Frame [.clk, .sky] [] [R.ACQ_STATUS_QUEUE] s t)

/-- R104, R105, R106: clearing ACQ_EN empties the queue; a band disabled or faulted loses its lock, and a faulted one is retried every 100 ms; a
faulted FFT engine takes no more work. -/
def Obligations.SkyDisabledAndFaulted : Prop :=
  (∀ (v : Word32) (s : State), s.dev.writable R.SKY_CTRL_ACQ_EN = true → bitOf v.toNat 4 = false → s.dev.on R.SKY_CTRL_ACQ_EN = true →
    Nat.land (s.dev.get R.SKY_CTRL_BAND_EN) v.toNat = s.dev.get R.SKY_CTRL_BAND_EN → s.dev.ringsHeld = false →
    Answers (.acqDisable v) s fun t => t.dev.get R.SKY_CTRL_ACQ_EN = 0 ∧ t.dev.sky.queue = [] ∧ t.dev.sky.engine = [] ∧
      (∀ x ∈ s.dev.sky.queue, ∀ q, x.desc = some q → t.dev.isLive q = false)) ∧
  (∀ (b : Nat) (v : Word32) (s : State), s.dev.writable R.SKY_CTRL_BAND_EN = true → b < 3 → s.dev.bit R.SKY_CTRL_BAND_EN b = true → bitOf v.toNat b = false →
    Answers (.bandDisable v) s fun t => t.dev.bit R.SKY_CTRL_BAND_EN b = false ∧ t.dev.bit R.SKY_STATUS_RF_LOCK b = false ∧ t.dev.bit R.SKY_STATUS_PLL_LOCK b = false) ∧
  (∀ (b c : Nat) (s : State), s.dev.runs .sky = true → b < 3 →
    Answers (.bandFault b c) s fun t => t.dev.bit R.SKY_STATUS_RF_LOCK b = false ∧ t.dev.bit R.SKY_STATUS_PLL_LOCK b = false ∧
      t.dev.bit R.SKY_STATUS_BAND_FAULT b = true ∧ tabFind t.dev.sky.retryAt b = some s.dev.clk.mono) ∧
  (∀ (b t0 : Nat) (s : State), s.dev.runs .sky = true → b < 3 → tabFind s.dev.sky.retryAt b = some t0 →
    Answers (.bandRetry b true) s fun t => t.dev.bit R.SKY_STATUS_PLL_LOCK b = true ∧ tabFind t.dev.sky.retryAt b = none ∧ t0 + 100 * ms ≤ t.dev.clk.mono) ∧
  (∀ (b t0 : Nat) (s : State), s.dev.runs .sky = true → b < 3 → tabFind s.dev.sky.retryAt b = some t0 →
    Answers (.bandRetry b false) s fun t => tabFind t.dev.sky.retryAt b = some t.dev.clk.mono ∧ t0 + 100 * ms ≤ t.dev.clk.mono ∧ Frame [.clk, .sky] [] [] s t) ∧
  (∀ (e : Nat) (s : State), s.dev.runs .acq = true → e < 2 →
    Answers (.fftEngineFault e) s fun t => t.dev.bit R.ACQ_STATUS_ENGINE_OK e = false ∧ tabFind t.dev.sky.engine e = none ∧
      Frame ([.sky] ++ reports) reportWs [R.ACQ_STATUS_ENGINE_OK] s t)

/-! ### Tracking channels -/

/-- R122: START of a host-owned idle channel with a direct signal queues a search for it and waits; a start that cannot be made sets FAIL; STOP brings the
channel back to IDLE and takes its search from the queue.
R130, R129: the states of a channel: PULLIN confirmed leads to FLL, a good frequency to PLL, lock and synchronization to TRACK, lost carrier lock back
to FLL; the record of C/N0 follows every integration. -/
def Obligations.ChannelsRun : Prop :=
  (∀ (ch c : Nat) (v : Word32) (s : State), s.dev.writable R.TRK_CH_CMD_START = true → ch < 180 → bitOf v.toNat 0 = true → s.dev.on R.TRK_CH_CFG_OWNER ch = true → s.dev.get R.TRK_CH_STAT_STATE ch = stIdle →
    s.dev.on R.TRK_CTRL_EN = true → s.dev.direct (s.dev.get R.TRK_CH_SEL_SIG ch) = true → sigClass (s.dev.get R.TRK_CH_SEL_SIG ch) = some c →
    s.dev.sky.queue.length < 256 → s.dev.on R.SKY_CTRL_ACQ_EN = true →
    Answers (.trkChStart ch v) s fun t => t.dev.get R.TRK_CH_STAT_STATE ch = stWait ∧ (∃ x : Search, t.dev.sky.queue = s.dev.sky.queue ++ [x] ∧ x.chan = some ch ∧
      x.cls = c ∧ x.sat = s.dev.get R.TRK_CH_SEL_SAT ch ∧ x.sig = s.dev.get R.TRK_CH_SEL_SIG ch) ∧ Frame [.sky, .trk] [0x04, 0x0B] [R.ACQ_STATUS_QUEUE] s t) ∧
  (∀ (ch c : Nat) (v : Word32) (s : State), s.dev.writable R.TRK_CH_CMD_START = true → ch < 180 → bitOf v.toNat 0 = true → s.dev.on R.TRK_CH_CFG_OWNER ch = true → s.dev.get R.TRK_CH_STAT_STATE ch = stIdle →
    s.dev.on R.TRK_CTRL_EN = true → s.dev.direct (s.dev.get R.TRK_CH_SEL_SIG ch) = true → sigClass (s.dev.get R.TRK_CH_SEL_SIG ch) = some c →
    s.dev.on R.SKY_CTRL_ACQ_EN = false →
    Answers (.trkChStart ch v) s fun t => t.dev.get R.TRK_CH_CMD_FAIL ch = 1 ∧ t.dev.get R.TRK_CH_STAT_STATE ch = stIdle) ∧
  (∀ (ch g : Nat) (v : Word32) (s : State), s.dev.writable R.TRK_CH_CMD_START = true → ch < 180 → bitOf v.toNat 0 = true → s.dev.on R.TRK_CH_CFG_OWNER ch = true →
    s.dev.get R.TRK_CH_STAT_STATE ch = stIdle → s.dev.on R.TRK_CTRL_EN = true → s.dev.direct (s.dev.get R.TRK_CH_SEL_SIG ch) = false →
    sourceOf (s.dev.get R.TRK_CH_SEL_SIG ch) = some g → s.dev.tracked (s.dev.get R.TRK_CH_SEL_SAT ch) g = true →
    Answers (.trkChStart ch v) s fun t => t.dev.get R.TRK_CH_STAT_STATE ch = stPullin ∧ (t.dev.chan ch).handover = true ∧
      t.dev.get R.TRK_CH_SEL_SAT ch = s.dev.get R.TRK_CH_SEL_SAT ch ∧ t.dev.get R.TRK_CH_SEL_SIG ch = s.dev.get R.TRK_CH_SEL_SIG ch ∧ Frame [.trk] [0x04, 0x0B] [] s t) ∧
  (∀ (ch : Nat) (v : Word32) (s : State), s.dev.writable R.TRK_CH_CMD_STOP = true → ch < 180 → bitOf v.toNat 1 = true → s.dev.get R.TRK_CH_STAT_STATE ch ≠ stIdle → s.dev.get R.TRK_CH_STAT_STATE ch ≠ stOos →
    s.dev.sky.cands = [] →
    Answers (.trkChStop ch v) s fun t => t.dev.get R.TRK_CH_STAT_STATE ch = stIdle ∧ (∀ x ∈ t.dev.sky.queue, x.chan ≠ some ch)) ∧
  (∀ (ch : Nat) (m : Integ) (s : State), s.dev.runs .corr = true → s.dev.paused 2 = false → ch < 180 → s.dev.get R.TRK_CH_STAT_STATE ch = stPullin →
    Answers (.integrationEnd ch m) s fun t =>
      t.dev.get R.TRK_CH_STAT_CN0 ch = min (Config.cn0 (lastMs ((m.p.1, m.p.2, s.dev.get R.TRK_CH_STAT_TINT ch) :: (s.dev.chan ch).hist) 10)) 65535 ∧
      t.dev.get R.TRK_CH_STAT_STATE ch = (if s.dev.get R.TRK_THR_CONF_CN0 * 25 ≤ t.dev.get R.TRK_CH_STAT_CN0 ch ∧ codeClose m.e m.l (s.dev.spacingOf ch) = true then stFll
        else stPullin)) ∧
  (∀ (ch : Nat) (m : Integ) (s : State), s.dev.runs .corr = true → s.dev.paused 2 = false → ch < 180 → s.dev.get R.TRK_CH_STAT_STATE ch = stFll →
    Answers (.integrationEnd ch m) s fun t => t.dev.get R.TRK_CH_STAT_STATE ch =
      (if freqClose (lastMs ((m.p.1, m.p.2, s.dev.get R.TRK_CH_STAT_TINT ch) :: (s.dev.chan ch).hist) 100) (grainMs (s.dev.get R.TRK_CH_SEL_SIG ch)) = true then stPll else stFll)) ∧
  (∀ (ch : Nat) (m : Integ) (s : State), s.dev.runs .corr = true → s.dev.paused 2 = false → ch < 180 → s.dev.get R.TRK_CH_STAT_STATE ch = stPll →
    Answers (.integrationEnd ch m) s fun t => t.dev.get R.TRK_CH_STAT_STATE ch =
      (if pliOk (lastMs ((m.p.1, m.p.2, s.dev.get R.TRK_CH_STAT_TINT ch) :: (s.dev.chan ch).hist) 100) 20 (s.dev.get R.TRK_THR_PLI_THR) = true ∧
        m.sync = syncOf (s.dev.get R.TRK_CH_SEL_SIG ch) (s.dev.get R.TRK_CH_SEL_SAT ch) then stTrack else stPll)) ∧
  (∀ (ch : Nat) (m : Integ) (s : State), s.dev.runs .corr = true → s.dev.paused 2 = false → ch < 180 → s.dev.get R.TRK_CH_STAT_STATE ch = stTrack →
    pliOk (lastMs ((m.p.1, m.p.2, s.dev.get R.TRK_CH_STAT_TINT ch) :: (s.dev.chan ch).hist) 100) 100 (s.dev.get R.TRK_THR_PLI_THR) = false →
    Answers (.integrationEnd ch m) s fun t => t.dev.get R.TRK_CH_STAT_STATE ch = stFll ∧ (t.dev.chan ch).locked = false ∧ (t.dev.chan ch).slip = true ∧
      t.dev.get R.TRK_CH_STAT_TINT ch = grainMs (s.dev.get R.TRK_CH_SEL_SIG ch)) ∧
  (∀ (ch : Nat) (m : Integ) (s : State), 180 ≤ ch ∨ s.dev.get R.TRK_CH_STAT_STATE ch = stIdle ∨ 5 ≤ s.dev.get R.TRK_CH_STAT_STATE ch ∨ s.dev.paused 2 = true →
    Answers (.integrationEnd ch m) s fun t => t = s)

/-- R130, R131, R121: a pull-in not confirmed in 200 ms frees its channel; FLL for 500 ms or a low C/N0 for LOSS_T loses the channel, which is held for the
reacquisition that joins the queue, until the hold ends; a handover signal is tried again ten seconds later while its source is tracked. -/
def Obligations.ChannelLoss : Prop :=
  (∀ (ch : Nat) (s : State), s.dev.runs .corr = true → ch < 180 → s.dev.get R.TRK_CH_STAT_STATE ch = stPullin → s.dev.sky.cands = [] →
    Answers (.pullinTimeout ch) s fun t => t.dev.get R.TRK_CH_STAT_STATE ch = stIdle ∧ (s.dev.chan ch).since + 200 * ms ≤ t.dev.clk.mono ∧
      Frame [.clk, .trk] [0x04] [] s t) ∧
  (∀ (ch c : Nat) (s : State), s.dev.runs .corr = true → s.dev.on R.SKY_CTRL_ACQ_EN = true → ch < 180 → s.dev.get R.TRK_CH_STAT_STATE ch = stFll → sigClass (s.dev.get R.TRK_CH_SEL_SIG ch) = some c → s.dev.sky.queue.length < 256 →
    Answers (.fllTimeout ch) s fun t => t.dev.get R.TRK_CH_STAT_STATE ch = stLost ∧ (s.dev.chan ch).since + 500 * ms ≤ t.dev.clk.mono ∧
      (t.dev.chan ch).holdTo = some (t.dev.clk.mono + 1000 * ms) ∧ (∃ x : Search, t.dev.sky.queue = s.dev.sky.queue ++ [x] ∧ x.kind = .reacq ∧ x.chan = some ch ∧ x.nbins = 7) ∧
      Frame [.clk, .trk, .sky] [0x04] [R.ACQ_STATUS_QUEUE] s t) ∧
  (∀ (ch t0 : Nat) (s : State), s.dev.runs .corr = true → ch < 180 → (s.dev.chan ch).lossAt = some t0 → 2 ≤ s.dev.get R.TRK_CH_STAT_STATE ch → s.dev.get R.TRK_CH_STAT_STATE ch ≤ 4 →
    Answers (.channelLoss ch) s fun t => t.dev.get R.TRK_CH_STAT_STATE ch = stLost ∧ t0 + s.dev.get R.TRK_THR_LOSS_T * 10 * ms ≤ t.dev.clk.mono ∧
      Frame [.clk, .trk, .sky] [0x04] [R.ACQ_STATUS_QUEUE] s t) ∧
  (∀ (ch t0 : Nat) (s : State), s.dev.runs .corr = true → ch < 180 → (s.dev.chan ch).holdTo = some t0 → s.dev.get R.TRK_CH_STAT_STATE ch = stLost → s.dev.sky.cands = [] →
    Answers (.reacqHoldExpiry ch) s fun t => t.dev.get R.TRK_CH_STAT_STATE ch = stIdle ∧ (t.dev.chan ch).holdTo = none ∧ t0 ≤ t.dev.clk.mono ∧
      Frame [.clk, .trk] [0x04] [] s t) ∧
  (∀ (sat sig g ch : Nat) (c : Cand) (s : State), s.dev.runs .corr = true → s.dev.on R.TRK_CTRL_EN = true → c.chan = none → c.handover = true → s.dev.trk.retry.find? (fun c => c.sat == sat && c.sig == sig) = some c → sourceOf sig = some g → s.dev.tracked sat g = true →
    s.dev.onChannel sat sig = false → s.dev.on R.TRK_CTRL_HANDOVER = true → s.dev.allotFor c = some ch →
    Answers (.handoverRetry sat sig) s fun t => t.dev.get R.TRK_CH_STAT_STATE ch = stPullin ∧ t.dev.get R.TRK_CH_SEL_SAT ch = sat % 65536 ∧
      c.t + 10 * second ≤ t.dev.clk.mono ∧ t.dev.trk.retry = s.dev.trk.retry.erase c ∧ Frame [.clk, .trk] [0x04] [] s t)

/-- R143, R144, R145, R150: a failed dump waits for the swap; the spare of the cluster takes the channel over with one discontinuity, or the channel goes out of
service; clearing EN stops every sky channel. -/
def Obligations.DatapathFaults : Prop :=
  (∀ (ch c : Nat) (s : State), s.dev.runs .corr = true → ch < 192 → s.dev.get R.TRK_CH_STAT_STATE ch ≠ stOos → (c = 3 → s.dev.scrubbed (ch / 12) = some ch) →
    Answers (.datapathDump ch (some c)) s fun t => tabFind t.dev.trk.faults ch = some c ∧ Frame [.trk] [] [] s t) ∧
  (∀ (ch c : Nat) (s : State), s.dev.runs .corr = true → 192 ≤ ch → ch < 208 →
    Answers (.datapathDump ch (some c)) s fun t => ch - 192 ∈ t.dev.trk.badSpare ∧ t.dev.get R.TRK_SPARE_SCRUB (ch - 192) = 0 ∧
      Frame ([.trk] ++ reports) ([0x04] ++ reportWs) [] s t) ∧
  (∀ (ch : Nat) (s : State), Answers (.datapathDump ch none) s fun t => t = s) ∧
  (∀ (ch c : Nat) (s : State), s.dev.runs .corr = true → ch < 192 → tabFind s.dev.trk.faults ch = some c → s.dev.on R.TRK_SPARE_IN_USE (ch / 12) = false →
    ch / 12 ∉ s.dev.trk.badSpare →
    Answers (.spareTakeover ch) s fun t => t.dev.get R.TRK_SPARE_IN_USE (ch / 12) = 1 ∧ t.dev.get R.TRK_SPARE_REPL (ch / 12) = ch % 12 ∧
      t.dev.get R.TRK_CH_STAT_ON_SPARE ch = 1 ∧ (t.dev.chan ch).discont = true ∧ tabFind t.dev.trk.faults ch = none ∧
      t.dev.get R.TRK_CH_STAT_STATE ch = s.dev.get R.TRK_CH_STAT_STATE ch ∧ Frame ([.trk] ++ reports) ([0x04, 0x06] ++ reportWs) [] s t) ∧
  (∀ (ch c : Nat) (s : State), s.dev.runs .corr = true → ch < 192 → tabFind s.dev.trk.faults ch = some c →
    (s.dev.on R.TRK_SPARE_IN_USE (ch / 12) = true ∨ ch / 12 ∈ s.dev.trk.badSpare) →
    Answers (.spareTakeover ch) s fun t => t.dev.get R.TRK_CH_STAT_STATE ch = stOos ∧ Frame ([.trk, .sky] ++ reports) ([0x04, 0x06] ++ reportWs) [] s t) ∧
  (∀ (v : Word32) (s : State), s.dev.writable R.TRK_CTRL_EN = true → bitOf v.toNat 0 = false → s.dev.on R.TRK_CTRL_EN = true →
    Answers (.trkDisable v) s fun t => t.dev.get R.TRK_CTRL_EN = 0 ∧ t.dev.sky.cands = [] ∧ t.dev.trk.retry = [] ∧
      (∀ ch < 180, s.dev.get R.TRK_CH_STAT_STATE ch ≠ stOos → t.dev.get R.TRK_CH_STAT_STATE ch = stIdle) ∧ Frame [.sky, .trk] [0x04] [R.ACQ_STATUS_QUEUE] s t)

/-! ### Yard time, base position, corrections -/

/-- R159: GO applies MODE: no base, a surveyed position fixed, a survey-in from its beginning, or the stored position.
R190, R181, R192: the read of TIME_NOW_LO latches all of yard time; an edge of PPS_IN is taken at its time, counts as good when it is tagged and a second
after the last to within 1 µs, and uses its tag up. -/
def Obligations.BaseAndTime : Prop :=
  (∀ (v : Word32) (s : State), s.dev.writable R.BASE_CTRL_GO = true → bitOf v.toNat 4 = true → v.toNat % 4 = 0 →
    Answers (.baseGo v) s fun t => t.dev.get R.BASE_STATUS_STATE = 0 ∧ t.dev.tim.base = none ∧ t.dev.tim.stored = s.dev.tim.stored) ∧
  (∀ (v : Word32) (s : State), s.dev.writable R.BASE_CTRL_GO = true → bitOf v.toNat 4 = true → v.toNat % 4 = 1 →
    Answers (.baseGo v) s fun t => t.dev.get R.BASE_STATUS_STATE = 2 ∧ t.dev.tim.base = some s.dev.baseRegs ∧ t.dev.tim.stored = some s.dev.baseRegs) ∧
  (∀ (v : Word32) (s : State), s.dev.writable R.BASE_CTRL_GO = true → bitOf v.toNat 4 = true → v.toNat % 4 = 2 →
    Answers (.baseGo v) s fun t => t.dev.get R.BASE_STATUS_STATE = 1 ∧ t.dev.tim.base = none ∧ t.dev.get R.BASE_STATUS_SURVEY_S = 0 ∧ t.dev.tim.nPos = 0) ∧
  (∀ (v : Word32) (p : Vec3) (s : State), s.dev.writable R.BASE_CTRL_GO = true → bitOf v.toNat 4 = true → v.toNat % 4 = 3 → s.dev.tim.stored = some p →
    Answers (.baseGo v) s fun t => t.dev.get R.BASE_STATUS_STATE = 2 ∧ t.dev.tim.base = some p) ∧
  (∀ (v : Word32) (s : State), s.dev.writable R.BASE_CTRL_GO = true → bitOf v.toNat 4 = true → v.toNat % 4 = 3 → s.dev.tim.stored = none →
    Answers (.baseGo v) s fun t => t.dev.get R.BASE_STATUS_STATE = 0 ∧ t.dev.tim.base = none) ∧
  (∀ (s : State) (t0 : Nat), s.dev.runs .time = true → s.dev.tim.skyLostAt = some t0 → s.dev.get R.BASE_STATUS_STATE = 3 →
    Answers .baseSkyLostTimeout s fun t => t.dev.get R.BASE_STATUS_STATE = 2 ∧ t0 + 60 * second ≤ t.dev.clk.mono ∧ t.dev.tim.base = s.dev.tim.base ∧
      Frame ([.clk, .tim] ++ reports) reportWs [R.BASE_STATUS_STATE, R.BASE_STATUS_WHY] s t) ∧
  (∀ s : State, s.dev.writable R.TIME_NOW_LO_NS_LO = true →
    Answers .timeNowLoRead s fun t => t.dev.get R.TIME_NOW_LO_NS_LO = s.dev.clk.yard % 2 ^ 32 ∧ t.dev.get R.TIME_NOW_HI_NS_HI = s.dev.clk.yard / 2 ^ 32 % 2 ^ 32 ∧ t.dev.clk.yard = s.dev.clk.yard ∧
      Frame [] [] [R.TIME_NOW_LO_NS_LO, R.TIME_NOW_HI_NS_HI] s t) ∧
  (∀ (e : Nat) (s : State), s.dev.runs .time = true →
    Answers (.ppsInEdge e) s fun t => t.dev.get R.TIME_PPSIN_TOD_GPS_S = 0 ∧ t.dev.tim.ppsEdge = some t.dev.clk.mono ∧ e ≤ t.dev.clk.yard ∧
      (∀ p, s.dev.tim.ppsEdge = some p → t.dev.tim.ppsOk = (decide (p + second ≤ t.dev.clk.mono + 1000 ∧ t.dev.clk.mono ≤ p + second + 1000) &&
        s.dev.get R.TIME_PPSIN_TOD_GPS_S != 0)) ∧
      (s.dev.tim.ppsEdge = none → t.dev.tim.ppsOk = false))

/-- R169, R170, R172, R180: corrections go out at whole multiples of their period at L3, MSMs alone at L2 with EARLY; below, and once disabled, nothing goes out. -/
def Obligations.CorrectionsOutput : Prop :=
  (∀ s : State, s.dev.runs .time = true → s.dev.rtcmAllowed true = true →
    Answers .rtcmMsmOutput s fun t => t.dev.clk.yard % s.dev.msmPeriod = 0 ∧ s.dev.clk.yard ≤ t.dev.clk.yard ∧ t.dev.clk.yard < s.dev.clk.yard + s.dev.msmPeriod) ∧
  (∀ s : State, s.dev.runs .time = true → s.dev.rtcmAllowed true = true → s.dev.on R.RTCM_CFG_UART_EN = true → s.dev.on R.RTCM_CFG_RING_EN = false →
    (s.dev.passTo ((s.dev.now + s.dev.msmPeriod - 1) / s.dev.msmPeriod * s.dev.msmPeriod)).msmList ≠ [] →
    Answers .rtcmMsmOutput s fun t => (∃ b, t.dev.out = s.dev.out ++ [.uart b]) ∨
      t.dev.get R.CORR_STATUS_UART_DROPPED = min (s.dev.get R.CORR_STATUS_UART_DROPPED + 1) (2 ^ R.CORR_STATUS_UART_DROPPED.width - 1)) ∧
  (∀ s : State, s.dev.rtcmAllowed true = false → Answers .rtcmMsmOutput s fun t => t.dev.out = s.dev.out ∧ Frame [.clk] [] [] s t) ∧
  (∀ s : State, s.dev.runs .time = true →
    Answers .rtcmPeriodicOutput s fun t => s.dev.tim.periodicAt + 10 * second ≤ t.dev.clk.mono ∧ t.dev.tim.periodicAt = t.dev.clk.mono ∧
      (s.dev.rtcmAllowed false = false → t.dev.out = s.dev.out)) ∧
  (∀ s : State, s.dev.runs .time = true → s.dev.rtcmAllowed false = true → s.dev.on R.RTCM_CFG_UART_EN = true → s.dev.on R.RTCM_CFG_RING_EN = false →
    Answers .rtcmPeriodicOutput s fun t => (∃ b, t.dev.out = s.dev.out ++ [.uart b]) ∨ t.dev.get R.CORR_STATUS_UART_DROPPED = min (s.dev.get R.CORR_STATUS_UART_DROPPED + 1) (2 ^ R.CORR_STATUS_UART_DROPPED.width - 1)) ∧
  (∀ (v : Word32) (s : State), s.dev.writable R.RTCM_CFG_RTCM_EN = true → bitOf v.toNat 20 = false →
    Answers (.rtcmDisable v) s fun t => t.dev.get R.RTCM_CFG_RTCM_EN = 0 ∧ t.dev.rtcmAllowed true = false ∧ t.dev.rtcmAllowed false = false ∧ Frame [] [0x05] [] s t) ∧
  (∀ (v : Word32) (s : State), s.dev.writable R.CORR_CFG_YC_EN = true → bitOf v.toNat 0 = false →
    Answers (.ycDisable v) s fun t => t.dev.get R.CORR_CFG_YC_EN = 0 ∧ Frame [] [0x05] [] s t)

/-! ### Yard ranging -/

/-- R200-R204: a ranging slot passes to its end; where the device takes part, what it received is measured against the window and the signal limit, and the
third slot closes the exchange.
R205, R257: at a CAL position that names it the device sends one frame in each of the three slots, with its position and channel. -/
def Obligations.RangingSlots : Prop :=
  (∀ (slot : Nat) (x : RangeRx) (s : State), s.dev.runs .rad = true → 851968 ≤ x.toa + 196608 → x.toa ≤ 851968 + 196608 → s.dev.get R.YRD_CFG2_SNR_MIN ≤ x.snr → 347 ≤ slot → slot ≤ 379 → s.dev.now ≤ s.dev.slotStart (slot + 1) → s.dev.on R.YRD_CTRL_EN = true → (slot - 347) % 3 < 2 →
    ¬ ((s.dev.planOf (11 * (s.dev.sfn % 10) + (slot - 347) / 3)).1 = 3 ∧ (s.dev.planOf (11 * (s.dev.sfn % 10) + (slot - 347) / 3)).2.2 = s.dev.id) →
    ((s.dev.planOf (11 * (s.dev.sfn % 10) + (slot - 347) / 3)).2.1 = s.dev.cellNo ∨ (s.dev.planOf (11 * (s.dev.sfn % 10) + (slot - 347) / 3)).1 = 3 ∨
      s.dev.on R.YRD_CTRL_ANCHOR_EN = true) →
    Answers (.rangingSlotRx slot (some x)) s fun t => t.dev.clk.yard = s.dev.slotStart (slot + 1) ∧
      (∃ m : YMeas, t.dev.yrd.rx.getLast? = some m ∧ m.f = (slot - 347) % 3 ∧ m.toa = x.toa ∧ m.phase = x.phase ∧ m.snr = x.snr ∧
        m.got = s.dev.yardOk)) ∧
  (∀ (slot : Nat) (x : RangeRx) (s : State), s.dev.runs .rad = true → (x.toa + 196608 < 851968 ∨ 851968 + 196608 < x.toa ∨ x.snr < s.dev.get R.YRD_CFG2_SNR_MIN) →
    347 ≤ slot → slot ≤ 379 → s.dev.now ≤ s.dev.slotStart (slot + 1) → (slot - 347) % 3 < 2 →
    Answers (.rangingSlotRx slot (some x)) s fun t => t.dev.clk.yard = s.dev.slotStart (slot + 1) ∧ (∀ m ∈ t.dev.yrd.rx, m ∈ s.dev.yrd.rx) ∧ Frame [.clk, .yrd] [] [] s t) ∧
  (∀ (slot : Nat) (rx : Option RangeRx) (s : State), s.dev.runs .rad = true → 347 ≤ slot → slot ≤ 379 → s.dev.now ≤ s.dev.slotStart (slot + 1) → s.dev.on R.YRD_CTRL_EN = false →
    Answers (.rangingSlotRx slot rx) s fun t => t.dev.clk.yard = s.dev.slotStart (slot + 1) ∧ Frame [.clk] [] [] s t) ∧
  (∀ (slot : Nat) (rx : Option RangeRx) (s : State), s.dev.runs .rad = true → 347 ≤ slot → slot ≤ 379 → s.dev.now ≤ s.dev.slotStart (slot + 1) → s.dev.on R.YRD_CTRL_EN = true → (slot - 347) % 3 = 2 →
    (s.dev.planOf (11 * (s.dev.sfn % 10) + (slot - 347) / 3)).1 = 2 → (s.dev.planOf (11 * (s.dev.sfn % 10) + (slot - 347) / 3)).2.1 = s.dev.cellNo →
    Answers (.rangingSlotRx slot rx) s fun t => t.dev.clk.yard = s.dev.slotStart (slot + 1) ∧ t.dev.yrd.rx = []) ∧
  ∀ (e k : Nat) (s : State), e ≤ 10 → s.dev.now ≤ s.dev.slotStart (347 + 3 * e) → (s.dev.planOf (11 * (s.dev.sfn % 10) + e)).1 = 3 →
    (s.dev.planOf (11 * (s.dev.sfn % 10) + e)).2.2 = s.dev.id → s.dev.runs .rad = true → s.dev.radTx = true → s.dev.level ≠ 0 → s.dev.on R.YRD_CTRL_EN = true → s.dev.siteSlot = some k →
    Answers (.calFrameTx e) s fun t => t.dev.clk.yard = s.dev.slotStart (349 + 3 * e) ∧
      (∃ a b c : AirFrame, t.dev.out = s.dev.out ++ [.air a, .air b, .air c] ∧ a.slot = 347 + 3 * e ∧ b.slot = 348 + 3 * e ∧ c.slot = 349 + 3 * e ∧
        a.ch = 0 ∧ b.ch = 1 ∧ c.ch = 2 ∧ a.typ = 5 ∧ b.typ = 5 ∧ c.typ = 5 ∧ a.key = k ∧ b.key = k ∧ c.key = k ∧
        a.payload.take 2 = u8 (11 * (s.dev.sfn % 10) + e) ++ u8 0 ∧ b.payload.take 2 = u8 (11 * (s.dev.sfn % 10) + e) ++ u8 1 ∧
        c.payload.take 2 = u8 (11 * (s.dev.sfn % 10) + e) ++ u8 2) ∧ Frame [.clk, .out] [] [] s t

/-- R221, R222: a posted report of the cell's exchange joins it; a malformed descriptor, ranging disabled and a failed read complete as the spec says. -/
def Obligations.PostedReports : Prop :=
  (∀ (q : Desc) (m : Option (List Byte)) (s : State), Ready 6 1 q s.dev → (fld q.area 1 1 = 0 ∨ 64 < fld q.area 1 1 ∨ fld q.area 8 8 % 16 ≠ 0) →
    Answers (.yrdReports m) s fun t => Completes q .badDescriptor s t ∧ Frame reports [0x0B] [] s t) ∧
  (∀ (q : Desc) (m : Option (List Byte)) (s : State), Ready 6 1 q s.dev → resvOk q.area [(0, 2), (8, 8)] = true → 1 ≤ fld q.area 1 1 → fld q.area 1 1 ≤ 64 →
    fld q.area 8 8 % 16 = 0 → q.gate = false →
    Answers (.yrdReports m) s fun t => Completes q .refusedState s t ∧ Frame reports [0x0B] [] s t) ∧
  (∀ (q : Desc) (s : State), Ready 6 1 q s.dev → resvOk q.area [(0, 2), (8, 8)] = true → 1 ≤ fld q.area 1 1 → fld q.area 1 1 ≤ 64 →
    fld q.area 8 8 % 16 = 0 → q.gate = true →
    Answers (.yrdReports none) s fun t => Completes q .aborted s t ∧ Frame reports [0x0B] [] s t) ∧
  (∀ (q : Desc) (b : List Byte) (a : Nat) (s : State), Ready 6 1 q s.dev → resvOk q.area [(0, 2), (8, 8)] = true → fld q.area 1 1 = 1 →
    fld q.area 8 8 % 16 = 0 → q.gate = true → b.length = 48 → s.dev.reins = true → fld b 2 2 = s.dev.cellNo → fld b 5 1 < 110 → fld b 6 1 < 64 → zeroAt b 7 1 = true →
    zeroAt b 41 7 = true → fld b 0 2 < 1024 → s.dev.anchIdx (fld b 0 2) = some a → fld b 8 8 % superframe = (347 + 3 * (fld b 5 1 % 11)) * slotLen →
    fld b 8 8 / superframe % 10 = fld b 5 1 / 11 → s.dev.gatherOf (fld b 8 8) = none → s.dev.now ≤ s.dev.gatherTo (fld b 8 8) →
    Answers (.yrdReports (some b)) s fun t => Completes q .done s t ∧ (∃ g, t.dev.gatherOf (fld b 8 8) = some g ∧ tabFind g.reports a = some b ∧ g.ended = false))

/-- R210, R204, R207, R218, R223: gathering ends when every anchor has reported or WAIT has passed; an exchange whose frames nobody verified is discarded; an anchor
whose newest sample grows too old is no longer calibrated; AUTO positions are given back; clearing EN ends ranging. -/
def Obligations.RangingEnds : Prop :=
  (∀ (p : Nat) (g : YGather) (s : State), s.dev.runs .sup = true → s.dev.yrd.gathers.find? (fun g => g.pos == p && !g.ended) = some g →
    Answers (.fixGatherEnd p) s fun t => (t.dev.gatherOf g.tSlot).map (·.ended) = some true ∧
      ((s.dev.yrd.anch.all fun x => (tabFind g.reports x.1).isSome) = false → s.dev.gatherTo g.tSlot ≤ t.dev.clk.yard) ∧
      (g.cal = false → g.reports ≠ [] → g.base = [] → s.dev.on R.YRD_CTRL_EN = true →
        t.dev.get R.YRD_STATUS_DISCARDED = min (s.dev.get R.YRD_STATUS_DISCARDED + 1) (2 ^ R.YRD_STATUS_DISCARDED.width - 1))) ∧
  (∀ (a t0 : Nat) (s : State), s.dev.runs .sup = true → a < 16 → s.dev.anchSelf a = false → (tabGet s.dev.yrd.cal a).at0 = some t0 →
    Answers (.calAgeExpiry a) s fun t => t.dev.get R.YRD_ANCH_CAL_CAL a = 0 ∧ t0 + s.dev.get R.YRD_CAL_CFG_MAX_AGE * second < t.dev.clk.mono ∧
      Frame ([.clk] ++ reports) ([0x06] ++ reportWs) [] s t) ∧
  (∀ (m t0 : Nat) (x : YAuto) (s : State), s.dev.runs .sup = true → tabFind s.dev.yrd.auto m = some x → x.cleared = some t0 →
    Answers (.yrdAutoRelease m) s fun t => tabFind t.dev.yrd.auto m = none ∧ (x.pos ≠ [] → m ∈ t.dev.yrd.allotQ) ∧
      t0 + s.dev.get R.YRD_AUTO_RELEASE_S * second ≤ t.dev.clk.yard ∧ Frame [.clk, .yrd] [0x06] [] s t) ∧
  (∀ (v : Word32) (s : State), s.dev.writable R.YRD_CTRL_EN = true → bitOf v.toNat 0 = false → s.dev.on R.YRD_CTRL_EN = true → s.dev.ringsHeld = false →
    Answers (.yrdDisable v) s fun t => t.dev.get R.YRD_CTRL_EN = 0 ∧ t.dev.get R.YRD_STATUS_CALIBRATED = 0 ∧ t.dev.yrd.gathers = [] ∧ t.dev.yrd.cal = [] ∧
      (∀ q ∈ s.dev.ring.handed, q.block = 6 → t.dev.isLive q = false))

/-! ### The site radio -/

/-- R20, R58, R249, R264, R175: with the reins, a level above L0 and a radio that may transmit, the device sends its cell beacon once at the start of a superframe, its
site beacon in its slot, and the next piece of the corrections in its slot; without, none of these goes out. -/
def Obligations.BeaconsAndCorrections : Prop :=
  (∀ s : State, s.dev.runs .rad = true → s.dev.cellTx = true → s.dev.slot = 0 → s.dev.rad.bcnSf ≠ s.dev.sfn + 1 → s.dev.pair.bcnFrom ≤ s.dev.now →
    Answers .cellBeaconTx s fun t => (∃ a : AirFrame, t.dev.out = s.dev.out ++ [.air a] ∧ a.slot = 0 ∧ a.typ = 0 ∧ a.fcnt = s.dev.fcntOf 0 ∧ a.payload = s.dev.beaconPayload) ∧
      t.dev.rad.bcnSf = s.dev.sfn + 1 ∧ Frame [.rad, .out] [] [R.IMG_PART_STAT_SELF_OK, R.WB_COUNTS_REPEATS] s t) ∧
  (∀ (n k : Nat) (s : State), s.dev.runs .rad = true → s.dev.siteSlotNo = some n → s.dev.siteSlot = some k → s.dev.reins = true → s.dev.level ≠ 0 → s.dev.on R.RAD_STATUS_DUP_ID = false →
    s.dev.rad.inhibit = false → (s.dev.radTx = true ∨ s.dev.master = true) → s.dev.rad.siteSf ≠ s.dev.sfn + 1 → s.dev.now < s.dev.slotStart (n + 1) →
    Answers .siteBeaconTx s fun t => (∃ a : AirFrame, t.dev.out = s.dev.out ++ [.air a] ∧ a.slot = n ∧ a.typ = 7 ∧ a.key = k ∧ a.payload = s.dev.sitePayload n) ∧
      t.dev.rad.siteSf = s.dev.sfn + 1 ∧ Frame [.clk, .rad, .out] [] [] s t) ∧
  (∀ (k : Nat) (s : State), k = (if s.dev.rad.corrSf = s.dev.sfn + 1 then s.dev.rad.corrNext else 0) → s.dev.runs .rad = true → s.dev.cellTx = true → s.dev.on R.RAD_CTRL_EN = true →
    s.dev.img.macSf ≠ s.dev.sfn + 1 → k < s.dev.corrPieces → s.dev.now < s.dev.slotStart (5 + k) + slotLen →
    Answers .corrFrameTx s fun t => (∃ a : AirFrame, t.dev.out = s.dev.out ++ [.air a] ∧ a.slot = 5 + k ∧ a.typ = 2 ∧
      (a.payload.drop 1).take 30 = fit 30 ((s.dev.tim.block.drop (30 * k)).take 30)) ∧ t.dev.rad.corrSf = s.dev.sfn + 1 ∧ t.dev.rad.corrNext = k + 1 ∧
      Frame [.clk, .rad, .out] [] [] s t) ∧
  (∀ s : State, s.dev.reins = false ∨ s.dev.level = 0 ∨ s.dev.radTx = false → Answers .cellBeaconTx s fun t => t = s) ∧
  (∀ s : State, s.dev.reins = false ∨ s.dev.level = 0 → Answers .siteBeaconTx s fun t => t = s) ∧
  (∀ s : State, s.dev.reins = false ∨ s.dev.level = 0 ∨ s.dev.radTx = false → Answers .corrFrameTx s fun t => t = s)

/-- R33, R34, R251, R345: the holder of the reins decides 15 µs into a drag slot, the standby at its start; whole-cell drag or a drag input puts the whole-cell frame on the
air, individual stops put theirs, and with neither nothing goes out. -/
def Obligations.DragFrames : Prop :=
  (∀ (n : Nat) (s : State), s.dev.runs .rad = true → s.dev.reins = true → s.dev.dragNext 15000 = some n → s.dev.cellTx = true →
    (s.dev.wholeCell = true ∨ s.dev.on R.BRK_IN_A = true ∨ s.dev.on R.BRK_IN_B = true) →
    Answers .dragDecision s fun t => (∃ a : AirFrame, t.dev.out = s.dev.out ++ [.air a] ∧ a.slot = n ∧ a.typ = 1 ∧ a.payload = u8 1 ++ List.replicate 30 0xFF) ∧
      t.dev.clk.yard = s.dev.slotStart n + 15000 ∧ Frame [.clk, .rad, .brk, .out] [] [R.BRK_LAT_LAST_US, R.BRK_LAT_MAX_US] s t) ∧
  (∀ (n m : Nat) (s : State), s.dev.runs .rad = true → s.dev.reins = true → s.dev.dragNext 15000 = some n → s.dev.cellTx = true → s.dev.wholeCell = false → s.dev.on R.BRK_IN_A = false →
    s.dev.on R.BRK_IN_B = false → m < 240 → s.dev.stopped m = true →
    Answers .dragDecision s fun t => (∃ a : AirFrame, t.dev.out = s.dev.out ++ [.air a] ∧ a.slot = n ∧ a.typ = 1 ∧ a.payload.head? = some 0 ∧
      bitOf (fld a.payload (1 + m / 8) 1) (m % 8) = true) ∧ t.dev.clk.yard = s.dev.slotStart n + 15000 ∧ Frame [.clk, .rad, .out] [] [] s t) ∧
  (∀ (n : Nat) (s : State), s.dev.runs .rad = true → s.dev.reins = true → s.dev.dragNext 15000 = some n → s.dev.wholeCell = false → s.dev.on R.BRK_IN_A = false → s.dev.on R.BRK_IN_B = false →
    (∀ w < 8, s.dev.get R.BRK_STOP_STOP w = 0) → Answers .dragDecision s fun t => t.dev.out = s.dev.out ∧
      t.dev.clk.yard = s.dev.slotStart n + 15000 ∧ Frame [.clk, .rad] [] [] s t) ∧
  (∀ (n : Nat) (s : State), s.dev.runs .rad = true → s.dev.get R.PAIR_STATUS_ROLE = 2 → s.dev.standbyFault = false → s.dev.dragNext 0 = some n → s.dev.radTx = true → s.dev.cellSlot.isSome = true →
    (s.dev.on R.BRK_IN_A = true ∨ s.dev.on R.BRK_IN_B = true ∨ s.dev.rad.copyDrag = true) →
    Answers .standbyDragDecision s fun t => (∃ a : AirFrame, t.dev.out = s.dev.out ++ [.air a] ∧ a.slot = n ∧ a.typ = 1 ∧ a.payload = u8 1 ++ List.replicate 30 0xFF) ∧
      t.dev.clk.yard = s.dev.slotStart n) ∧
  (∀ (n : Nat) (s : State), s.dev.runs .rad = true → s.dev.get R.PAIR_STATUS_ROLE = 2 → s.dev.standbyFault = false → s.dev.dragNext 0 = some n → s.dev.on R.BRK_IN_A = false →
    s.dev.on R.BRK_IN_B = false → s.dev.rad.copyDrag = false → s.dev.rad.stopAir = 0 → Answers .standbyDragDecision s fun t => t.dev.out = s.dev.out ∧ t.dev.clk.yard = s.dev.slotStart n)

/-- R237: an open downlink slot carries what comes first in the order of R237, and the superframe goes on after it; authorities come before everything else. -/
def Obligations.DownlinkOrder : Prop :=
  (∀ (n k m : Nat) (e : Dev) (s : State), s.dev.runs .rad = true → s.dev.cellTx = true → s.dev.on R.RAD_CTRL_EN = true → s.dev.img.macSf ≠ s.dev.sfn + 1 →
    s.dev.keyFrDeny.dlFrom = k → s.dev.keyFrDeny.dlScan (104 - k) k = some (n, m, e) →
    Answers .downlinkTx s fun t => ∃ x : Dev, t.dev = x.settle ∧ x.rad.dlSf = e.sfn + 1 ∧ x.rad.dlNext = n + 1 ∧ x.out = e.out) ∧
  (∀ (d : Dev) (n m : Nat), d.brk.order.find? (fun m => d.authDue m (104 - n) (d.slotStart n)) = some m → (d.dlOne n).map (·.1) = some m) ∧
  (∀ (d : Dev) (n : Nat) (k : KeyFr), d.brk.order.find? (fun m => d.authDue m (104 - n) (d.slotStart n)) = none →
    d.rad.keyQ.find? (fun k => k.sf ≤ d.sfn && d.keyFrOk k) = some k → (d.dlOne n).map (·.1) = some k.m) ∧
  (∀ s : State, s.dev.cellTx = false → Answers .downlinkTx s fun t => t = s)

/-- R255, R256, R261: a machine's uplink that passes the checks is acknowledged in the next beacon and gives its position; one outside the window is counted and the machine told to
resynchronize; an uplink that was expected and missed is counted. -/
def Obligations.Uplinks : Prop :=
  (∀ (slot m snr : Nat) (ofs : Int) (f p : List Byte) (e : Dev) (s : State), s.dev.runs .rad = true → slotMach slot = some m → s.dev.now ≤ s.dev.slotStart (slot + 1) →
    s.dev.reins = true → s.dev.level ≠ 0 → (s.dev.passTo (s.dev.slotStart (slot + 1))).discards = false →
    (s.dev.passTo (s.dev.slotStart (slot + 1))).receiveMach f m (fType f == 4 && fDst f == 0xF0) = (some p, e) → ofs.natAbs ≤ e.get R.RAD_TIMING_WIN * 16 →
    Answers (.uplinkRx slot ofs snr f) s fun t => ∃ x : Dev, t.dev = x.settle ∧ m ∈ x.rad.ulAck ∧
      (tabFind x.rsv.upl m).map (fun u => (u.seg, u.ofs, u.speed)) = some (fld p 16 2, fld p 18 2, fld p 12 2) ∧ x.get R.RAD_UL_STAT_MISSED m = 0) ∧
  (∀ (slot m snr : Nat) (ofs : Int) (f p : List Byte) (e : Dev) (s : State), s.dev.runs .rad = true → slotMach slot = some m → s.dev.now ≤ s.dev.slotStart (slot + 1) →
    s.dev.reins = true → s.dev.level ≠ 0 → (s.dev.passTo (s.dev.slotStart (slot + 1))).discards = false →
    (s.dev.passTo (s.dev.slotStart (slot + 1))).receiveMach f m (fType f == 4 && fDst f == 0xF0) = (some p, e) → e.get R.RAD_TIMING_WIN * 16 < ofs.natAbs →
    Answers (.uplinkRx slot ofs snr f) s fun t => m ∈ t.dev.rad.resync ∧ t.dev.rsv = e.rsv ∧ t.dev.brk = e.brk ∧ t.dev.wb = e.wb) ∧
  (∀ (m : Nat) (u : Upl) (s : State), s.dev.runs .safe = true → s.dev.timed = true → tabWf s.dev.rsv.upl = true → tabFind s.dev.rsv.upl m = some u → u.sf ≠ s.dev.sfn → tabFind s.dev.rad.sleep m = none → s.dev.admitted m = true →
    s.dev.discards = false → m < 240 →
    Answers .missCount s fun t => ∃ x : Dev, t.dev = x.settle ∧ x.get R.RAD_UL_STAT_MISSED m = min (s.dev.get R.RAD_UL_STAT_MISSED m + 1) (2 ^ R.RAD_UL_STAT_MISSED.width - 1))

/-- R258, R260, R18, R264-R267: an admitted machine's join clears its entry and queues the response for the next superframe; a site beacon heard enters or leaves the list of eligible
devices; the device's own ID heard stops it. -/
def Obligations.JoinsAndSiteBeacons : Prop :=
  (∀ (slot m : Nat) (f p : List Byte) (e : Dev) (s : State), s.dev.runs .rad = true → 380 ≤ slot → slot ≤ 395 → s.dev.now ≤ s.dev.slotStart (slot + 1) → s.dev.reins = true →
    s.dev.level ≠ 0 → (s.dev.passTo (s.dev.slotStart (slot + 1))).discards = false → (s.dev.passTo (s.dev.slotStart (slot + 1))).receive f 49 8 (((List.range 240).any fun m => s.dev.admitted m && s.dev.serialOf m == fld f 8 8) && fType f == 6 && fCell f == s.dev.cellNo &&
      fSrc f == 0xFE && fDst f == 0xF0 && !fSite f) (s.dev.joinKey (fld f 8 8)) (tabFind s.dev.rad.hwSer (fld f 8 8)) = (some p, e) → e.admitFor (fld f 8 8) (fld p 9 1) = some m →
    Answers (.joinRx slot f) s fun t => ∃ x : Dev, t.dev = x.settle ∧ tabFind x.rad.hwM m = none ∧ tabFind x.rad.hwSer (fld f 8 8) = some (fCnt f) ∧
      (∃ k ∈ x.rad.keyQ, k.join = true ∧ k.m = m ∧ k.serial = fld f 8 8) ∧ x.authOf m = none ∧ WbIn.lost m 1 ∈ x.wb.port) ∧
  (∀ (slot : Nat) (ofs : Int) (f p : List Byte) (e : Dev) (s : State), s.dev.runs .rad = true → 396 ≤ slot → slot ≤ 399 → s.dev.now ≤ s.dev.slotStart (slot + 1) →
    (s.dev.passTo (s.dev.slotStart (slot + 1) - 1)).receiveSite f (fType f == 7 && siteDst f) = (some p, e) → fld p 0 2 % 1024 ≠ e.id → bitOf (fld p 0 2) 10 = false →
    Answers (.siteBeaconRx slot ofs f) s fun t => tabFind t.dev.rad.heard (fld p 0 2 % 1024) =
      (if bitOf (fld p 0 2) 11 then some (bits (fld p 0 2) 12 4, e.clk.mono) else none)) ∧
  (∀ (slot : Nat) (ofs : Int) (f p : List Byte) (e : Dev) (s : State), s.dev.runs .rad = true → 396 ≤ slot → slot ≤ 399 → s.dev.now ≤ s.dev.slotStart (slot + 1) →
    (s.dev.passTo (s.dev.slotStart (slot + 1) - 1)).receiveSite f (fType f == 7 && siteDst f) = (some p, e) → fld p 0 2 % 1024 = e.id →
    Answers (.siteBeaconRx slot ofs f) s fun t => t.dev.get R.RAD_STATUS_DUP_ID = 1) ∧
  (∀ (f p : List Byte) (e : Dev) (s : State), s.dev.runs .rad = true → s.dev.reins = false → s.dev.rad.bcnSf ≠ s.dev.sfn + 1 → (s.dev.passTo (s.dev.slotStart 4)).receive f 237 0 (fType f == 0 && fCell f == s.dev.cellNo && fSrc f == 0xF0 && fDst f == 0xFF && !fSite f)
      ((s.dev.passTo (s.dev.slotStart 4)).cellRxKey (fGen f)) none = (some p, e) → fld p 20 2 % 1024 ≠ e.id →
    Answers (.cellBeaconRx f) s fun t => t.dev.rad.cellBcn = e.sfn + 1 ∧ Frame [.clk, .rad] [] [R.IMG_PART_STAT_SELF_OK] s t)

/-- R265, R268: three beacons missed in a row hold a device that followed them at EoA and free-running; a claim makes the device the master, and one that has been ineligible for 60 s resigns. -/
def Obligations.TimeMaster : Prop :=
  (∀ s : State, s.dev.runs .rad = true → s.dev.master = false → s.dev.on R.RAD_SITE_STAT_MASTER_VALID = true → s.dev.rad.seenSf ≠ s.dev.sfn + 1 → s.dev.rad.missSf ≠ s.dev.sfn + 1 → s.dev.rad.miss ≠ 2 →
    Answers .masterBeaconMiss s fun t => t.dev.rad.miss = s.dev.rad.miss + 1 ∧ t.dev.rad.missSf = s.dev.sfn + 1 ∧ Frame [.clk, .rad] [] [R.RAD_STATUS_MISSED] s t) ∧
  (∀ s : State, s.dev.runs .rad = true → s.dev.master = false → s.dev.on R.RAD_SITE_STAT_MASTER_VALID = true → s.dev.rad.seenSf ≠ s.dev.sfn + 1 → s.dev.rad.missSf ≠ s.dev.sfn + 1 → s.dev.rad.miss = 2 →
    s.dev.get R.TIME_STATUS_SRC = 3 →
    Answers .masterBeaconMiss s fun t => t.dev.get R.RAD_STATUS_HOLD_EOA = 1 ∧ t.dev.get R.RAD_STATUS_FREE = 1 ∧ t.dev.tim.beaconOk = false ∧ t.dev.globalHold = true) ∧
  (∀ s : State, s.dev.runs .rad = true → s.dev.get R.RAD_STATUS_ROLE = 1 → s.dev.eligible = true → s.dev.on R.RAD_STATUS_DUP_ID = false → s.dev.on R.RAD_SITE_STAT_MASTER_VALID = true →
    s.dev.get R.RAD_SITE_CFG_ELECT_T ≤ s.dev.rad.miss → s.dev.rad.heard = [] →
    Answers .masterClaim s fun t => t.dev.get R.RAD_SITE_STAT_MASTER_ID = s.dev.id ∧ t.dev.get R.RAD_SITE_STAT_MASTER_VALID = 1 ∧ t.dev.master = true) ∧
  (∀ (t0 : Nat) (s : State), s.dev.runs .rad = true → s.dev.rad.inelAt = some t0 → s.dev.master = true →
    Answers .masterResign s fun t => t.dev.get R.RAD_STATUS_ROLE = 1 ∧ t0 + 60 * second ≤ t.dev.clk.mono ∧ t.dev.rad.inelAt = none ∧
      Frame ([.clk, .rad] ++ reports) reportWs [R.RAD_STATUS_ROLE, R.RAD_SITE_STAT_MASTER_VALID, R.RAD_SITE_STAT_MASTER_ID, R.RAD_SITE_STAT_MASTER_CELL] s t)

/-- R245, R247, R271: the site's counters are cleared at the start of a GPS week; the old key ends at its superframe; clearing EN drops what waits and drags the
cell for four more drag slots. -/
def Obligations.RadioKeysAndDisable : Prop :=
  (∀ s : State, s.dev.runs .rad = true → Answers .siteHwmClear s fun t => t.dev.rad.hwSite = [] ∧ t.dev.clk.yard % (604800 * second) = 0 ∧ s.dev.clk.yard ≤ t.dev.clk.yard ∧ Frame [.clk, .rad] [] [] s t) ∧
  (∀ (k : Nat) (s : State), s.dev.runs .rad = true → s.dev.rad.oldTo = some k → Answers .oldKeyExpiry s fun t => t.dev.rad.oldTo = none ∧ k * superframe ≤ t.dev.clk.yard ∧ Frame [.clk, .rad] [] [] s t) ∧
  (∀ (v : Word32) (s : State), s.dev.writable R.RAD_CTRL_EN = true → bitOf v.toNat 0 = false → s.dev.on R.RAD_CTRL_EN = true → s.dev.ringsHeld = false →
    Answers (.radDisable v) s fun t => t.dev.get R.RAD_CTRL_EN = 0 ∧ t.dev.bit R.BRK_SRC_SRC 4 = true ∧ t.dev.rad.stopAir = 4 ∧ t.dev.rad.keyQ = [] ∧ t.dev.rad.sends = [] ∧
      (∀ x ∈ s.dev.rad.sends, t.dev.isLive x.desc = false)) ∧
  (∀ (v : Word32) (s : State), s.dev.writable R.RAD_CTRL_EN = true → bitOf v.toNat 0 = false → s.dev.on R.RAD_CTRL_EN = true →
    Answers (.radDisable v) s fun t => t.dev.get R.RAD_CTRL_EN = 0 ∧ t.dev.bit R.BRK_SRC_SRC 4 = true ∧ t.dev.rad.stopAir = 4 ∧ t.dev.rad.keyQ = [] ∧
      t.dev.wb.cancels = [] ∧ t.dev.yrd.fixes = [])

/-! ### The recorder and the tailboard's allotment -/

/-- R643, R644, R641: a flush commits every record, unless NVM is lost; the age of the oldest record asks for a flush; an overrun episode ends with its
record; a class gets its token back and its suppressed records are summarized.
R646, R647, R654, R648: REQ places a challenge bound to the newest record, which ends after 60 s; COMMIT discards up to UPTO or sets FAIL; EVT_READ writes the
records it asks for, EVT_FLUSH asks for a flush, EVT_NOTE makes its record; a write of TLB_ALLOT is in force from the next fleet cycle, or discarded whole. -/
def Obligations.Recorder : Prop :=
  (∀ s : State, s.dev.powered = true → s.dev.evt.flushWant = true → s.dev.evt.nvmLost = false → s.dev.evt.flushDescs = [] → s.dev.evt.episode = none →
    Answers .evtFlushRun s fun t => t.dev.evt.buf = [] ∧
      t.dev.evt.nv = (s.dev.evt.nv ++ s.dev.evt.buf).drop ((s.dev.evt.nv ++ s.dev.evt.buf).length - 8192) ∧
      t.dev.evt.committed = some s.dev.evt.next ∧ t.dev.evt.flushWant = false ∧ t.dev.get R.EVT_STATUS_UNFLUSHED = 0 ∧ Frame [.evt] [0x12] [] s t) ∧
  (∀ s : State, s.dev.powered = true → s.dev.evt.flushWant = true → s.dev.evt.nvmLost = true →
    Answers .evtFlushRun s fun t => t.dev.evt.nv = s.dev.evt.nv ∧ t.dev.evt.committed = s.dev.evt.committed ∧
      (t.dev.evt.buf.getLast?.map fun x => x.code) = some 0x1204) ∧
  (∀ (x : Rec) (l : List Rec) (s : State), s.dev.powered = true → s.dev.timeGoes = true → s.dev.evt.buf = x :: l →
    Answers .evtFlushAge s fun t => t.dev.evt.flushWant = true ∧ x.t + s.dev.get R.EVT_CFG_FLUSH_MS * 10 * ms ≤ t.dev.clk.yard ∧ Frame [.clk, .evt] [] [] s t) ∧
  (∀ (t0 n : Nat) (s : State), s.dev.runs .sup = true → s.dev.evt.episode = some (t0, n) → s.dev.evt.nvmLost = true → s.dev.evt.buf.length < 4096 →
    Answers .evtOverrunEnd s fun t => t.dev.evt.episode = none ∧ t0 + second ≤ t.dev.clk.mono ∧
      (t.dev.evt.buf.getLast?.map fun x => (x.code, x.arg.take 4)) = some (0x1203, u32 n) ∧ Frame ([.clk] ++ reports) reportWs [] s t) ∧
  (∀ (k t0 : Nat) (s : State), s.dev.runs .sup = true → k < 256 → (tabGet s.dev.evt.cls k).due = some t0 →
    Answers (.evtClassPeriod k) s fun t => t0 ≤ t.dev.clk.mono ∧ t.dev.get R.EVT_CLASS_STAT_PENDING k = 0 ∧
      t.dev.get R.EVT_CLASS_STAT_TOKENS k = min (s.dev.get R.EVT_CLASS_STAT_TOKENS k + 1) (s.dev.get R.EVT_CLASS_LIM_BURST k) % 256 ∧
      (s.dev.get R.EVT_CLASS_STAT_PENDING k ≠ 0 → (t.dev.evt.buf.getLast?.map fun x => (x.code, x.arg.take 8)) =
        some (0x1202, u8 k ++ zeros 3 ++ u32 (s.dev.get R.EVT_CLASS_STAT_PENDING k))) ∧ Frame ([.clk] ++ reports) reportWs [] s t) ∧
  (∀ (v : Word32) (s : State), s.dev.writable R.EVT_CLR_CMD_REQ = true → bitOf v.toNat 0 = true →
    Answers (.evtClrReq v) s fun t => t.dev.words16 R.EVT_CHAL_CHAL = fit 16 (Config.fresh16 s.dev.free) ∧
      t.dev.get R.EVT_CLR_UPTO_UPTO = (s.dev.evt.next + 2 ^ 32 - 1) % 2 ^ 32 ∧ t.dev.get R.EVT_CLR_CMD_CHAL_VALID = 1 ∧
      t.dev.evt.chalT = s.dev.clk.mono ∧ Frame [.evt, .free] [0x0B, 0x12] [] s t) ∧
  (∀ (v : Word32) (s : State), s.dev.writable R.EVT_CLR_CMD_REQ = true → bitOf v.toNat 1 = true → s.dev.clrCause = 0 →
    Answers (.evtClrCommit v) s fun t => t.dev.get R.EVT_CLR_CMD_CHAL_VALID = 0 ∧ ∀ x ∈ t.dev.evt.nv ++ t.dev.evt.buf,
      x ∈ (s.dev.evt.nv ++ s.dev.evt.buf).filter (fun y => !recLe y.no (s.dev.get R.EVT_CLR_UPTO_UPTO)) ∨ x.code ∈ [0x1201, 0x1203, 0x1204]) ∧
  (∀ (v : Word32) (s : State), s.dev.writable R.EVT_CLR_CMD_REQ = true → bitOf v.toNat 1 = true → s.dev.clrCause ≠ 0 → s.dev.evt.buf.length < 4096 →
    Answers (.evtClrCommit v) s fun t => t.dev.get R.EVT_CLR_CMD_CHAL_VALID = 0 ∧ t.dev.get R.EVT_CLR_CMD_FAIL = 1 ∧ t.dev.evt.nv = s.dev.evt.nv ∧
      ∃ x, t.dev.evt.buf = s.dev.evt.buf ++ [x] ∧ x.code = 0x1205) ∧
  (∀ s : State, s.dev.runs .sup = true → s.dev.on R.EVT_CLR_CMD_CHAL_VALID = true →
    Answers .evtClrExpiry s fun t => t.dev.get R.EVT_CLR_CMD_CHAL_VALID = 0 ∧ s.dev.evt.chalT + 60 * second ≤ t.dev.clk.mono ∧
      t.dev.evt.chalExpired = true ∧ Frame [.clk, .evt] [] [R.EVT_CLR_CMD_CHAL_VALID] s t) ∧
  (∀ (q : Desc) (s : State), Ready 0x12 1 q s.dev → resvOk q.area [(0, 1), (4, 14)] = true → fld q.area 8 8 % 16 = 0 → 1 ≤ fld q.area 16 2 → fld q.area 16 2 ≤ 1024 →
    Answers .evtRead s fun t =>
      Out.hostWrite (fld q.area 8 8) ((List.range (fld q.area 16 2)).flatMap fun k => match s.dev.recOf (fld q.area 4 4 + k) with | some x => recBytes x | none => zeros 32) ∈ t.dev.out ∧
      Completes q (if (List.range (fld q.area 16 2)).all (fun k => (s.dev.recOf (fld q.area 4 4 + k)).isSome) then .done else .donePartial) s t ∧ Frame reports [0x0B] [] s t) ∧
  (∀ (q : Desc) (s : State), Ready 0x12 2 q s.dev → resvOk q.area [(0, 1)] = true → s.dev.evt.nvmLost = false →
    Answers .evtFlush s fun t => t.dev.evt.flushWant = true ∧ t.dev.evt.flushDescs = s.dev.evt.flushDescs ++ [q] ∧ Frame [.ring, .evt] [] [] s t) ∧
  (∀ (q : Desc) (s : State), Ready 0x12 2 q s.dev → resvOk q.area [(0, 1)] = true → s.dev.evt.nvmLost = true →
    Answers .evtFlush s fun t => Completes q .aborted s t) ∧
  (∀ (q : Desc) (s : State), Ready 0x12 3 q s.dev → resvOk q.area [(0, 2), (16, 16)] = true → fld q.area 1 1 ≤ 15 →
    Answers .evtNote s fun t => (t.dev.evt.buf.getLast?.map fun x => (x.code, x.arg, x.t)) = some (0x12F0 + fld q.area 1 1, (q.area.drop 16).take 16, s.dev.now) ∧
      Completes q .done s t ∧ Frame reports reportWs [] s t) ∧
  (∀ (v : Word32) (s : State), s.dev.writable R.TLB_ALLOT_LO_SRC = true → (let a := allotMerge (s.dev.get R.TLB_ALLOT_LO_SRC) v.toNat + 2 ^ 32 * s.dev.get R.TLB_ALLOT_HI_SRC; allotCount a 3 ≤ 1 ∧ allotCount a 5 ≤ 1) →
    Answers (.tlbAllotWrite false v) s fun t => t.dev.get R.TLB_ALLOT_LO_SRC = allotMerge (s.dev.get R.TLB_ALLOT_LO_SRC) v.toNat ∧ t.dev.allot = s.dev.allot ∧
      Frame ([.tlb] ++ reports) reportWs [R.TLB_ALLOT_LO_SRC] s t) ∧
  (∀ (v : Word32) (s : State), s.dev.writable R.TLB_ALLOT_LO_SRC = true → (let a := s.dev.get R.TLB_ALLOT_LO_SRC + 2 ^ 32 * allotMerge (s.dev.get R.TLB_ALLOT_HI_SRC) v.toNat; 1 < allotCount a 3 ∨ 1 < allotCount a 5) →
    Answers (.tlbAllotWrite true v) s fun t => t.dev.get R.TLB_STATUS_ALLOT_BAD = 1 ∧ t.dev.allot = s.dev.allot ∧ t.dev.allotReg = s.dev.allotReg ∧
      Frame [.out] [0x0B] [R.TLB_STATUS_ALLOT_BAD] s t)

/-! ### Keys -/

/-- R554, R557-R559, R564, R567, R571, R573: the root is burned once; an import or a derivation fills its slot, an invalidation makes a slot and all derived from it
stale; a non-volatile update commits to the other copy; an attestation is written under slot 62. -/
def Obligations.KeyOperations : Prop :=
  (∀ (q : Desc) (m : List Byte) (s : State), Ready 0x0F 1 q s.dev → s.dev.keyTurn q = true →
    resvOk q.area [(0, 1), (8, 8)] = true → fld q.area 8 8 % 16 = 0 → s.dev.keyBlank = true → s.fuse.root = none →
    (fit 32 m).all (· == 0) = false → (fit 32 m).all (· == 255) = false →
    Answers (.keyCommission (some m)) s fun t => t.fuse = { s.fuse with root := some (fit 32 m) } ∧ t.dev.get R.KEY_STATUS_ROOT_SET = 1 ∧ t.dev.get R.KEY_STATUS_STD_OK = 1 ∧
      (∀ n, 60 ≤ n → n < 64 → t.dev.get R.KEY_ATTR_STATE n = 1) ∧ Completes q .done s t) ∧
  (∀ (q : Desc) (m : Option (List Byte)) (s : State), Ready 0x0F 1 q s.dev → s.dev.keyTurn q = true →
    resvOk q.area [(0, 1), (8, 8)] = true → fld q.area 8 8 % 16 = 0 → s.dev.keyBlank = false →
    Answers (.keyCommission m) s fun t => t.fuse = s.fuse ∧ Completes q .refusedState s t ∧ Frame reports [0x0B] [] s t) ∧
  (∀ (q : Desc) (m wrap : List Byte) (s : State), Ready 0x0F 2 q s.dev → s.dev.keyTurn q = true → s.dev.importable q m = true →
    s.dev.engineKey (fld q.area 2 1) 5 1 = some wrap → blobOpen wrap m = none →
    Answers (.keyImport (some m)) s fun t => t.dev.key = s.dev.key ∧ Completes q .keyDenied s t) ∧
  (∀ (q : Desc) (m wrap pt : List Byte) (s : State), Ready 0x0F 2 q s.dev → s.dev.keyTurn q = true → s.dev.importable q m = true →
    s.dev.engineKey (fld q.area 2 1) 5 1 = some wrap → blobOpen wrap m = some pt → fld m 11 1 = 1 → s.dev.runs .nvm = true →
    Answers (.keyImport (some m)) s fun t => t.dev.get R.KEY_STATUS_NV_BUSY = 1 ∧
      (t.dev.key.up.map fun u => (u.slot, u.copy.gen, u.copy.key)) = some (fld q.area 1 1, fld m 4 4, fit (16 + 16 * fld m 1 1) pt) ∧ t.dev.key.nv = s.dev.key.nv) ∧
  (∀ (q : Desc) (m wrap pt : List Byte) (s : State), Ready 0x0F 2 q s.dev → s.dev.keyTurn q = true → s.dev.importable q m = true →
    s.dev.engineKey (fld q.area 2 1) 5 1 = some wrap → blobOpen wrap m = some pt → fld m 11 1 = 0 →
    Answers (.keyImport (some m)) s fun t => t.dev.get R.KEY_ATTR_STATE (fld q.area 1 1) = 1 ∧ t.dev.get R.KEY_GEN_GEN (fld q.area 1 1) = fld m 4 4 ∧
      t.dev.get R.KEY_ATTR_DEPTH (fld q.area 1 1) = 0 ∧ t.dev.get R.KEY_ATTR_PARENT (fld q.area 1 1) = 127 ∧ t.dev.get R.KEY_PGEN_PGEN (fld q.area 1 1) = 0 ∧
      tabGet t.dev.key.bytes (fld q.area 1 1) = fit (16 + 16 * fld m 1 1) pt ∧ Completes q .done s t) ∧
  (∀ (q : Desc) (s : State), Ready 0x0F 3 q s.dev → s.dev.keyTurn q = true → s.dev.keyBlank = false →
    resvOk q.area [(0, 8), (8, fld q.area 7 1)] = true → 16 ≤ fld q.area 1 1 → fld q.area 1 1 < 60 → fld q.area 2 1 < 60 → fld q.area 3 1 < 2 → fld q.area 4 1 < 3 → fld q.area 5 1 < 64 →
    fld q.area 6 1 < 2 → 1 ≤ fld q.area 7 1 → fld q.area 7 1 ≤ 32 → s.dev.get R.KEY_ATTR_STATE (fld q.area 2 1) = 1 → s.dev.get R.KEY_ATTR_USAGE (fld q.area 2 1) = 1 →
    Nat.land (fld q.area 5 1) (s.dev.get R.KEY_ATTR_MASK (fld q.area 2 1)) = fld q.area 5 1 → s.dev.get R.KEY_ATTR_DEPTH (fld q.area 2 1) < 6 →
    Answers .keyDerive s fun t => t.dev.get R.KEY_ATTR_STATE (fld q.area 1 1) = 1 ∧ t.dev.get R.KEY_GEN_GEN (fld q.area 1 1) = s.dev.get R.KEY_GEN_GEN (fld q.area 2 1) ∧
      t.dev.get R.KEY_PGEN_PGEN (fld q.area 1 1) = s.dev.get R.KEY_GEN_GEN (fld q.area 2 1) ∧ t.dev.get R.KEY_ATTR_PARENT (fld q.area 1 1) = fld q.area 2 1 ∧
      t.dev.get R.KEY_ATTR_DEPTH (fld q.area 1 1) = s.dev.get R.KEY_ATTR_DEPTH (fld q.area 2 1) + 1 ∧
      tabGet t.dev.key.bytes (fld q.area 1 1) = fit (16 + 16 * fld q.area 3 1) (kdf (tabGet s.dev.key.bytes (fld q.area 2 1)) ((q.area.drop 8).take (fld q.area 7 1))
        (if fld q.area 6 1 = 1 then 0xFFFF else s.dev.id) (s.dev.get R.KEY_GEN_GEN (fld q.area 2 1)) (128 + 128 * fld q.area 3 1)) ∧ Completes q .done s t ∧
      Frame ([.key, .brk] ++ reports) ([0x09, 0x0F] ++ reportWs) [R.RAD_STATUS_NO_KEY] s t) ∧
  (∀ (q : Desc) (s : State), Ready 0x0F 4 q s.dev → s.dev.keyTurn q = true → s.dev.keyBlank = false →
    resvOk q.area [(0, 2)] = true → fld q.area 1 1 < 60 → (s.dev.get R.KEY_ATTR_STATE (fld q.area 1 1) = 1 ∨ s.dev.get R.KEY_ATTR_STATE (fld q.area 1 1) = 2) →
    s.dev.on R.KEY_ATTR_NV (fld q.area 1 1) = false →
    Answers .keyInvalidate s fun t => Staled (fld q.area 1 1) s t ∧ Completes q .done s t ∧ Frame ([.key, .brk] ++ reports) ([0x09, 0x0F] ++ reportWs) [R.RAD_STATUS_NO_KEY] s t) ∧
  (∀ (q : Desc) (s : State), Ready 0x0F 4 q s.dev → s.dev.keyTurn q = true → s.dev.keyBlank = false →
    resvOk q.area [(0, 2)] = true → fld q.area 1 1 < 60 → (s.dev.get R.KEY_ATTR_STATE (fld q.area 1 1) = 1 ∨ s.dev.get R.KEY_ATTR_STATE (fld q.area 1 1) = 2) →
    s.dev.on R.KEY_ATTR_NV (fld q.area 1 1) = true → s.dev.runs .nvm = true →
    Answers .keyInvalidate s fun t => Staled (fld q.area 1 1) s t ∧ t.dev.get R.KEY_STATUS_NV_BUSY = 1 ∧ (t.dev.key.up.map fun u => (u.slot, u.copy.stale)) = some (fld q.area 1 1, true) ∧
      Frame ([.key, .brk] ++ reports) ([0x09, 0x0F] ++ reportWs) [R.RAD_STATUS_NO_KEY] s t) ∧
  (∀ (u : NvUp) (s : State), s.dev.runs .nvm = true → s.dev.key.up = some u → u.slot < 16 →
    Answers .nvKeyCommit s fun t => t.dev.key.up = none ∧ t.dev.get R.KEY_STATUS_NV_BUSY = 0 ∧ t.dev.get R.KEY_ATTR_STATE u.slot = (if u.copy.stale then 2 else 1) ∧
      t.dev.get R.KEY_GEN_GEN u.slot = u.copy.gen % 2 ^ 32 ∧ (let x := tabGet t.dev.key.nv u.slot; (if x.valid = 0 then x.c0 else x.c1) = u.copy ∧
        x.valid = (if (tabGet s.dev.key.nv u.slot).valid = 0 then 1 else 0) ∧ x.count = (tabGet s.dev.key.nv u.slot).count + 1)) ∧
  (∀ (q : Desc) (k : List Byte) (s : State), Ready 0x0F 5 q s.dev → s.dev.keyTurn q = true → s.dev.keyBlank = false →
    resvOk q.area [(0, 1), (8, 24)] = true → fld q.area 8 8 % 16 = 0 → s.dev.engineKey 62 3 1 = some k →
    Answers .keyAttest s fun t => Out.hostWrite (fld q.area 8 8) (s.dev.attestBlock ++ fit 16 (hmac k ((q.area.drop 16).take 16 ++ s.dev.attestBlock))) ∈ t.dev.out ∧
      Completes q .done s t ∧ Frame reports [0x0B] [] s t) ∧
  (∀ (n : Nat) (s : State), s.dev.runs .sup = true → n < 64 →
    Answers (.keySlotEcc n) s fun t => t.dev.get R.KEY_ATTR_STATE n = 3 ∧ Frame ([.brk] ++ reports) ([0x09] ++ reportWs) [R.KEY_ATTR_STATE, R.RAD_STATUS_NO_KEY] s t ∧
      (∀ m < 64, m ≠ n → t.dev.get R.KEY_ATTR_STATE m = s.dev.get R.KEY_ATTR_STATE m))

/-! ### Metering, pulses and lots -/

/-- R446, R449, R460: every 125 µs the waiting bindings take effect and the channels are sampled; a voltage channel with no counting crossing for TIMEOUT is lost. R448, R451,
R452: at the end of a cycle the feed's positive energy goes into its source, unless it is below the no-load threshold, accumulation was disabled or the residue check failed. -/
def Obligations.MeterCycle : Prop :=
  (∀ (x : List Int) (s : State), s.dev.runs .meter = true →
    Answers (.meterSample x) s fun t => t.dev.clk.yard = (s.dev.now / 125000 + 1) * 125000 ∧ t.dev.mtr.samp = s.dev.mtr.samp + 1 ∧ t.dev.mtr.bind = [] ∧
      (t.dev.mtr.cyc.getLast?.map fun y => y.x) = some x ∧ t.dev.mtr.cyc.length = s.dev.mtr.cyc.length + 1 ∧ t.dev.mtr.src = s.dev.mtr.src ∧
      (∀ mask, s.dev.mtr.bind = [(mask, acctHouse)] → ∀ k ∈ maskSrcs mask, t.dev.boundTo k = acctHouse) ∧
      (s.dev.mtr.bind = [] → ∀ k, t.dev.boundTo k = s.dev.boundTo k) ∧ Frame ([.clk, .mtr] ++ reports) ([0x0C] ++ reportWs) [] s t) ∧
  (∀ (k : Nat) (s : State), s.dev.runs .meter = true → k < 3 → s.dev.bit R.MTR_STATUS_ZX_LOST k = false →
    tabGet s.dev.mtr.okX k + s.dev.get R.MTR_ZX_CFG_TIMEOUT * 8 ≤ s.dev.mtr.samp →
    Answers (.zxTimeout k) s fun t => t.dev.bit R.MTR_STATUS_ZX_LOST k = true ∧ tabGet t.dev.mtr.runX k = 0 ∧
      Frame ([.mtr] ++ reports) reportWs [R.MTR_STATUS_ZX_LOST, R.MTR_STATUS_FREE_RUN, R.MTR_STATUS_REF] s t) ∧
  (∀ s : State, s.dev.runs .meter = true → s.dev.mtr.due = true → s.dev.mtr.cyc.all (fun y => y.en) = true →
    Answers (.lineCycleEnd false) s fun t =>
      (let p := (addLists (addLists (s.dev.productsCal 0 3 false) (s.dev.productsCal 1 4 false)) (s.dev.productsCal 2 5 false)).sum
       t.dev.srcVal 0 = s.dev.srcVal 0 + (if p.natAbs < s.dev.get R.MTR_NOLOAD_NL_FEED * s.dev.mtr.cyc.length * energyDen / 28800 then 0 else max p 0)) ∧
      t.dev.mtr.cyc = [] ∧ t.dev.mtr.prev = s.dev.mtr.cyc ∧ t.dev.mtr.due = false ∧ Frame ([.mtr] ++ reports) ([0x0C] ++ reportWs) [] s t) ∧
  (∀ (bad : Bool) (s : State), s.dev.runs .meter = true → s.dev.mtr.due = true → (s.dev.mtr.cyc.all (fun y => !y.en) = true ∨ bad = true) →
    Answers (.lineCycleEnd bad) s fun t => t.dev.mtr.src = s.dev.mtr.src ∧ t.dev.mtr.cyc = [] ∧ t.dev.mtr.prev = s.dev.mtr.cyc ∧
      Frame ([.mtr] ++ reports) ([0x0C] ++ reportWs) [] s t)

/-- R463-R467: a change from OPEN to CLOSED counts in its source; a level outside the band for 200 ms is a wire fault until a valid one has held; a pulse output starts a due pulse
at least 4 ms after the last. R468, R476, R475: saves start on the quarter hour and are committed; a lot with an uncorrectable word is marked; clearing EN stops accumulation. -/
def Obligations.PulsesAndSaves : Prop :=
  (∀ (n : Nat) (s : State), s.dev.runs .meter = true → s.dev.runs .sup = true → n < 16 → s.dev.get R.MTR_PI_STAT_LEVEL n = 1 → s.dev.on R.MTR_PI_STAT_WIRE n = false → s.dev.on R.MTR_CTRL_EN = true →
    Answers (.pulseInEdge n 0) s fun t => ∃ x : Dev, t.dev = x.settle ∧ x.srcVal (10 + n) = s.dev.srcVal (10 + n) + 1 ∧ x.get R.MTR_PI_STAT_LEVEL n = 0 ∧
      WbIn.pulse n ∈ x.wb.port ∧ Frame ([.mtr, .wb] ++ reports) ([0x0C] ++ reportWs) [] s { s with dev := x }) ∧
  (∀ (n level : Nat) (s : State), s.dev.runs .meter = true → n < 16 → level < 4 → (level < 2 ∨ s.dev.on R.MTR_PI_CFG_SUP_EN n = true) →
    ¬ (s.dev.get R.MTR_PI_STAT_LEVEL n = 1 ∧ level = 0 ∧ s.dev.on R.MTR_PI_STAT_WIRE n = false) →
    Answers (.pulseInEdge n level) s fun t => t.dev.get R.MTR_PI_STAT_LEVEL n = level ∧ t.dev.mtr = (if (2 ≤ level) ↔ (2 ≤ s.dev.get R.MTR_PI_STAT_LEVEL n) then s.dev.mtr
        else { s.dev.mtr with wireAt := tabPut s.dev.mtr.wireAt n (s.dev.now - s.dev.get R.MTR_PI_CFG_DEB n * ms) }) ∧ Frame [.mtr] [] [R.MTR_PI_STAT_LEVEL] s t) ∧
  (∀ (n : Nat) (s : State), s.dev.runs .meter = true → n < 16 → 2 ≤ s.dev.get R.MTR_PI_STAT_LEVEL n → s.dev.on R.MTR_PI_STAT_WIRE n = false →
    Answers (.pulseWireFault n) s fun t => t.dev.get R.MTR_PI_STAT_WIRE n = 1 ∧ t.dev.get R.MTR_PI_STAT_WIRE_SEEN n = 1 ∧ tabGet s.dev.mtr.wireAt n + 200 * ms ≤ t.dev.clk.yard ∧
      t.dev.mtr.src = s.dev.mtr.src ∧ Frame ([.clk, .mtr] ++ reports) reportWs [R.MTR_PI_STAT_WIRE, R.MTR_PI_STAT_WIRE_SEEN] s t) ∧
  (∀ (n : Nat) (s : State), s.dev.runs .meter = true → n < 16 → s.dev.get R.MTR_PI_STAT_LEVEL n < 2 → s.dev.on R.MTR_PI_STAT_WIRE n = true →
    Answers (.pulseWireRecover n) s fun t => t.dev.get R.MTR_PI_STAT_WIRE n = 0 ∧ tabFind t.dev.mtr.ivOpen (ivWire n) = none ∧ tabGet s.dev.mtr.wireAt n + 1000 * ms ≤ t.dev.clk.yard ∧
      Frame ([.clk, .mtr] ++ reports) reportWs [R.MTR_PI_STAT_WIRE, R.MTR_STATUS_UNREAD] s t) ∧
  (∀ (o : Nat) (s : State), s.dev.runs .meter = true → o < 4 → 0 < s.dev.get R.MTR_PO_STAT_BACKLOG o → s.dev.on R.MTR_PO_CFG_EN o = true → s.dev.on R.MTR_CTRL_EN = true →
    s.dev.reins = true → s.dev.pair.frozen = false → s.dev.pair.hiZ = false →
    Answers (.pulseOutEmit o) s fun t => t.dev.get R.MTR_PO_STAT_BACKLOG o = s.dev.get R.MTR_PO_STAT_BACKLOG o - 1 ∧
      (∃ w, t.dev.out = s.dev.out ++ [.pulse o w (s.dev.on R.MTR_PO_CFG_POL o)] ∧ 2 * ms ≤ w ∧ w ≤ 40 * ms) ∧ (∀ t0, tabFind s.dev.mtr.poStart o = some t0 → t0 + 4 * ms ≤ t.dev.clk.mono) ∧
      Frame [.clk, .mtr, .out] [] [R.MTR_PO_STAT_BACKLOG] s t) ∧
  (∀ s : State, s.dev.runs .nvm = true → s.dev.timed = true → s.dev.mtr.saving = none →
    Answers .meterSave s fun t => t.dev.clk.yard % (900 * second) = 0 ∧ (t.dev.mtr.saving.map fun v => (v.src, v.acct, v.t)) = some (s.dev.mtr.src, s.dev.mtr.acct, t.dev.clk.yard) ∧
      Frame [.clk, .mtr] [] [] s t) ∧
  (∀ (v : MSave) (s : State), s.dev.runs .nvm = true → s.dev.mtr.saving = some v →
    Answers .meterSaveCommit s fun t => t.dev.mtr.saved = v ∧ t.dev.mtr.saving = none ∧ t.dev.mtr.saveDescs = [] ∧
      t.dev.get R.MTR_SAVE_STAT_SAVE_NO = (s.dev.get R.MTR_SAVE_STAT_SAVE_NO + 1) % 2 ^ 32 ∧
      (∀ q, s.dev.mtr.saveDescs = [q] → Awaits q s.dev → Completes q .done s t) ∧ Frame ([.mtr] ++ reports) [0x0B] [R.MTR_SAVE_STAT_SAVE_NO] s t) ∧
  (∀ (l : Nat) (s : State), s.dev.runs .meter = true → s.dev.lotOpen l = true →
    Answers (.meterAccountEcc l) s fun t => (tabGet t.dev.mtr.acct l).ecc = true ∧ (tabGet t.dev.mtr.acct l).gap = true ∧ (tabGet t.dev.mtr.acct l).v = (tabGet s.dev.mtr.acct l).v ∧
      (∀ k, k ≠ l → tabGet t.dev.mtr.acct k = tabGet s.dev.mtr.acct k) ∧ Frame [.mtr] [] [] s t) ∧
  (∀ (v : Word32) (s : State), s.dev.writable R.MTR_CTRL_EN = true → bitOf v.toNat 0 = false → s.dev.on R.MTR_CTRL_EN = true → s.dev.mtr.cal = none →
    Answers (.mtrDisable v) s fun t => t.dev.get R.MTR_CTRL_EN = 0 ∧ tabFind t.dev.mtr.ivOpen ivDisabled = some (s.dev.now, 0x3FFFFFF) ∧ t.dev.mtr.src = s.dev.mtr.src ∧
      Frame [.mtr] [] [R.MTR_CTRL_EN, R.MTR_CTRL_STREAM_EN, R.MTR_CTRL_STREAM_RING] s t)

/-- R456, R459, R460, R468, R473, R478, R479: what each metering descriptor does and how it completes. -/
def Obligations.MeterDescriptors : Prop :=
  (∀ (q : Desc) (s : State), Ready 0x0C 1 q s.dev → resvOk q.area [(0, 4), (8, 8)] = true → fld q.area 8 8 % 16 = 0 → fld q.area 1 1 = 0 → fld q.area 2 1 = 0 → fld q.area 3 1 < 2 →
    Answers .mtrSnap s fun t => Out.hostWrite (fld q.area 8 8) (s.dev.toBoundary.snapshot 0 acctUnattr) ∈ t.dev.out ∧ Completes q .done s t ∧
      t.dev.mtr.srcExtrap = (if fld q.area 3 1 = 1 then 0 else s.dev.mtr.srcExtrap) ∧ Frame ([.clk, .mtr] ++ reports) [0x0B] [] s t) ∧
  (∀ (q : Desc) (s : State), Ready 0x0C 1 q s.dev → resvOk q.area [(0, 4), (8, 8)] = true → fld q.area 8 8 % 16 = 0 → fld q.area 1 1 = 1 → fld q.area 3 1 < 2 →
    s.dev.lotOpen (fld q.area 2 1) = true →
    Answers .mtrSnap s fun t => Out.hostWrite (fld q.area 8 8) (s.dev.toBoundary.snapshot 1 (fld q.area 2 1)) ∈ t.dev.out ∧ Completes q .done s t ∧ Frame ([.clk] ++ reports) [0x0B] [] s t) ∧
  (∀ (q : Desc) (s : State), Ready 0x0C 1 q s.dev → resvOk q.area [(0, 4), (8, 8)] = true → fld q.area 8 8 % 16 = 0 → fld q.area 1 1 = 1 → fld q.area 3 1 < 2 →
    s.dev.lotOpen (fld q.area 2 1) = false →
    Answers .mtrSnap s fun t => Completes q .refusedState s t ∧ Frame reports [0x0B] [] s t) ∧
  (∀ (q : Desc) (s : State), Ready 0x0C 2 q s.dev → lotFieldsOk q.area = true → fld q.area 1 1 = 0 → s.dev.lotOpen (fld q.area 2 1) = false →
    Answers .lotOpen s fun t => t.dev.lotOpen (fld q.area 2 1) = true ∧ (tabGet t.dev.mtr.acct (fld q.area 2 1)).tOpen = s.dev.now ∧ (tabGet t.dev.mtr.acct (fld q.area 2 1)).v = [] ∧
      tabFind t.dev.mtr.dir (fld q.area 2 1) = some s.dev.now ∧ Completes q .done s t ∧ Frame ([.mtr] ++ reports) reportWs [] s t) ∧
  (∀ (q : Desc) (s : State), Ready 0x0C 2 q s.dev → lotFieldsOk q.area = true → fld q.area 1 1 = 1 → s.dev.lotOpen (fld q.area 2 1) = true →
    Answers .lotClose s fun t => t.dev.lotOpen (fld q.area 2 1) = false ∧ (∀ k < 26, t.dev.boundTo k = (if s.dev.boundTo k = fld q.area 2 1 then acctHouse else s.dev.boundTo k)) ∧
      Out.hostWrite (fld q.area 8 8) (s.dev.toBoundary.snapshot 1 (fld q.area 2 1)) ∈ t.dev.out ∧ Completes q .done s t ∧
      Frame ([.clk, .mtr] ++ reports) reportWs [R.MTR_SRC_CFG_BOUND] s t) ∧
  (∀ (q : Desc) (s : State), Ready 0x0C 3 q s.dev → s.dev.mtr.cal = none → resvOk q.area [(0, 24)] = true → fld q.area 1 1 < 13 → fld q.area 2 1 < 4 → (fld q.area 1 1 < 3 → fld q.area 2 1 = 0) →
    fld q.area 3 1 < 2 → 10 ≤ fld q.area 4 2 → fld q.area 4 2 ≤ 1000 → sfld q.area 6 2 = 0 → fld q.area 16 8 % 16 = 0 →
    q.gate = true → (fld q.area 1 1 = 6 ∨ s.dev.bit R.MTR_STATUS_ZX_LOST (s.dev.voltOf (fld q.area 1 1)) = false) →
    Answers .mtrCal s fun t => t.dev.mtr.cal = some { desc := q, t0 := s.dev.clk.mono } ∧ Frame [.ring, .mtr] [] [] s t) ∧
  (∀ (m : MCal) (s : State), s.dev.runs .meter = true → s.dev.mtr.cal = some m → Awaits m.desc s.dev → fld m.desc.area 4 2 ≤ m.n → fld m.desc.area 1 1 < 13 → fld m.desc.area 2 1 < 4 → sfld m.desc.area 6 2 = 0 →
    Answers .mtrCalDone s fun t => t.dev.mtr.cal = none ∧ Completes m.desc .done s t ∧
      (fld m.desc.area 3 1 = 1 → t.dev.get R.MTR_CAL_VALID (fld m.desc.area 1 1) (fld m.desc.area 2 1) = 1) ∧
      Frame ([.mtr, .img, .free] ++ reports) reportWs (if fld m.desc.area 3 1 = 1 then [R.MTR_CAL_GAIN, R.MTR_CAL_VALID, R.MTR_CAL_I_PT] else []) s t) ∧
  (∀ (m : MCal) (s : State), s.dev.runs .meter = true → s.dev.mtr.cal = some m → Awaits m.desc s.dev → m.n < fld m.desc.area 4 2 →
    Answers .mtrCalDone s fun t => t.dev.mtr.cal = none ∧ m.t0 + fld m.desc.area 4 2 * 25 * ms ≤ t.dev.clk.mono ∧ Completes m.desc .timeout s t ∧ Frame ([.clk, .mtr] ++ reports) [0x0B] [] s t) ∧
  (∀ (q : Desc) (s : State), Ready 0x0C 4 q s.dev → resvOk q.area [(0, 1), (2, 6)] = true → (fld q.area 2 2 < 256 ∨ fld q.area 2 2 = acctHouse) → fld q.area 4 4 < 2 ^ 23 →
    (∀ k < 6, bitOf (fld q.area 4 4) (17 + k) = true → s.dev.on R.MTR_DOCK_CFG_SEG_EN k = false) → q.gate = true →
    Answers .mtrBind s fun t => t.dev.mtr.bind = s.dev.mtr.bind ++ [(fld q.area 4 4, fld q.area 2 2)] ∧ Completes q .done s t ∧ Frame ([.mtr] ++ reports) [0x0B] [] s t) ∧
  (∀ (q : Desc) (s : State), Ready 0x0C 4 q s.dev → resvOk q.area [(0, 1), (2, 6)] = true → (fld q.area 2 2 < 256 ∨ fld q.area 2 2 = acctHouse) → fld q.area 4 4 < 2 ^ 23 →
    (∀ k < 6, bitOf (fld q.area 4 4) (17 + k) = true → s.dev.on R.MTR_DOCK_CFG_SEG_EN k = false) → q.gate = false →
    Answers .mtrBind s fun t => Completes q .refusedState s t ∧ Frame reports [0x0B] [] s t) ∧
  (∀ (q : Desc) (s : State), Ready 0x0C 5 q s.dev → s.dev.runs .nvm = true → s.dev.mtr.saving = none → resvOk q.area [(0, 1)] = true →
    Answers .mtrSave s fun t => (t.dev.mtr.saving.map fun v => (v.src, v.acct)) = some (s.dev.mtr.src, s.dev.mtr.acct) ∧ t.dev.mtr.saveDescs = s.dev.mtr.saveDescs ++ [q] ∧
      Frame [.ring, .mtr] [] [] s t) ∧
  (∀ (q : Desc) (s : State), Ready 0x0C 6 q s.dev → resvOk q.area [(0, 3), (8, 8)] = true → 1 ≤ fld q.area 1 1 → fld q.area 1 1 ≤ 64 → fld q.area 2 1 < 2 → fld q.area 8 8 % 16 = 0 →
    Answers .mtrIntervals s fun t => Out.hostWrite (fld q.area 8 8) (fit (32 * fld q.area 1 1) ((s.dev.mtr.ivs.take (fld q.area 1 1)).flatMap MIv.bytes)) ∈ t.dev.out ∧
      t.dev.mtr.ivs = (if fld q.area 2 1 = 1 then s.dev.mtr.ivs.drop (fld q.area 1 1) else s.dev.mtr.ivs) ∧ Completes q .done s t ∧
      Frame ([.mtr] ++ reports) [0x0B] [R.MTR_STATUS_UNREAD] s t)

/-! ### Dryer and aeration loops -/

/-- R487, R489, R491, R500, R505: at its due tick a manual loop outside a group puts out MAN_OUT as rounded, an automatic one what the control law gives, and a loop that waits to close is in AUTO
with NEXT_BANK in force. R499, R504, R497: CTL_MODE, CTL_BANK and CTL_TABLE.
R506, R507, R501: setting EN of a loop whose settings serve puts it in MANUAL with its output kept, and is refused with CFG_ERR where they do not; clearing EN puts it in OFF; CTL_CTRL.EN
stops every loop and lets them close again. -/
def Obligations.Loops : Prop :=
  (∀ (l : Nat) (x : CtlIn) (s : State), s.dev.runs .ctrl = true → l < 64 → s.dev.ctlRuns = true → s.dev.on R.CTL_LOOP_CFG_EN l = true → s.dev.on R.CTL_LOOP_CFG_GRP_EN l = false → s.dev.loopMode l = 1 →
    s.dev.on R.CTL_LOOP_STAT_CLOSE_PENDING l = false → s.dev.get R.CTL_LOOP_IO_OUT_KIND l = 0 →
    Answers (.loopTick l x) s fun t => ∃ y : Dev, t.dev = y.settle ∧ s.dev.loopDue l * ms ≤ y.clk.mono ∧ y.get R.CTL_LOOP_PV_PV l = to16 (s.dev.pvOf l x) ∧
      y.get R.CTL_LOOP_OUT_OUT l = to16 (bfOne 18 (s.dev.manFrac l)).val ∧ y.loopMode l = 1) ∧
  (∀ (l : Nat) (x : CtlIn) (s : State), s.dev.runs .ctrl = true → l < 64 → s.dev.ctlRuns = true → s.dev.on R.CTL_LOOP_CFG_EN l = true → s.dev.on R.CTL_LOOP_CFG_GRP_EN l = false → s.dev.loopMode l = 2 →
    s.dev.on R.CTL_LOOP_STAT_PV_BAD l = false → s.dev.pvBad l (s.dev.pvOf l x) = false → (s.dev.loop l).resume = false → s.dev.get R.CTL_LOOP_IO_OUT_KIND l = 0 →
    s.dev.on R.CTL_LOOP_STAT_AX_BLOCK l = false → x.residue = [] →
    Answers (.loopTick l x) s fun t => ∃ y : Dev, t.dev = y.settle ∧ s.dev.loopDue l * ms ≤ y.clk.mono ∧ y.get R.CTL_LOOP_PV_PV l = to16 (s.dev.pvOf l x) ∧
      y.get R.CTL_LOOP_OUT_OUT l = to16 (bfOne 18 (s.dev.evalLoop l (s.dev.pvOf l x)).u.val).val ∧ y.loopMode l = 2 ∧ (y.loop l).i = (s.dev.evalLoop l (s.dev.pvOf l x)).i) ∧
  (∀ (l : Nat) (x : CtlIn) (s : State), s.dev.runs .ctrl = true → l < 64 → s.dev.ctlRuns = true → s.dev.on R.CTL_LOOP_CFG_EN l = true → s.dev.on R.CTL_LOOP_CFG_GRP_EN l = false → s.dev.loopMode l = 1 →
    s.dev.on R.CTL_LOOP_STAT_CLOSE_PENDING l = true → s.dev.on R.CTL_LOOP_STAT_PV_BAD l = false → s.dev.pvBad l (s.dev.pvOf l x) = false → s.dev.get R.CTL_LOOP_IO_OUT_KIND l = 0 →
    x.residue = [] →
    Answers (.loopClose l x) s fun t => ∃ y : Dev, t.dev = y.settle ∧ s.dev.loopDue l * ms ≤ y.clk.mono ∧ y.loopMode l = 2 ∧
      y.get R.CTL_LOOP_STAT_ACTIVE_BANK l = s.dev.get R.CTL_LOOP_STAT_NEXT_BANK l ∧ y.get R.CTL_LOOP_STAT_CLOSE_PENDING l = 0 ∧ (y.loop l).resume = false) ∧
  (∀ (q : Desc) (s : State), Ready 0x0D 1 q s.dev → resvOk q.area [(0, 3), (4, 4)] = true → fld q.area 1 1 < 64 → s.dev.reins = true → q.gate = true → fld q.area 2 1 = 4 → s.dev.loopMode (fld q.area 1 1) = 2 →
    Answers .ctlMode s fun t => ∃ y : Dev, t.dev = y.settle ∧ Completes q .done s { s with dev := y } ∧ y.loopMode (fld q.area 1 1) = 1 ∧
      y.get R.CTL_LOOP_OUT_MAN_OUT (fld q.area 1 1) = s.dev.get R.CTL_LOOP_OUT_OUT (fld q.area 1 1) ∧ y.get R.CTL_LOOP_STAT_CLOSE_PENDING (fld q.area 1 1) = 0) ∧
  (∀ (q : Desc) (s : State), Ready 0x0D 1 q s.dev → resvOk q.area [(0, 3), (4, 4)] = true → fld q.area 1 1 < 64 → s.dev.reins = true → q.gate = true → fld q.area 2 1 = 8 → s.dev.loopMode (fld q.area 1 1) = 1 →
    s.dev.on R.CTL_LOOP_STAT_PV_BAD (fld q.area 1 1) = false →
    Answers .ctlMode s fun t => ∃ y : Dev, t.dev = y.settle ∧ Completes q .done s { s with dev := y } ∧ y.get R.CTL_LOOP_STAT_CLOSE_PENDING (fld q.area 1 1) = 1 ∧
      y.loopMode (fld q.area 1 1) = 1 ∧ Frame reports [0x0B] [R.CTL_LOOP_STAT_CLOSE_PENDING] s { s with dev := y }) ∧
  (∀ (q : Desc) (s : State), Ready 0x0D 1 q s.dev → resvOk q.area [(0, 3), (4, 4)] = true → fld q.area 1 1 < 64 → s.dev.reins = true → q.gate = true → fld q.area 2 1 = 1 →
    Answers .ctlMode s fun t => ∃ y : Dev, t.dev = y.settle ∧ Completes q .done s { s with dev := y } ∧ y.get R.CTL_LOOP_PV_SP (fld q.area 1 1) = fld q.area 4 2 ∧
      Frame reports [0x0B] [R.CTL_LOOP_PV_SP] s { s with dev := y }) ∧
  (∀ (q : Desc) (s : State), Ready 0x0D 1 q s.dev → resvOk q.area [(0, 3), (4, 4)] = true → fld q.area 1 1 < 64 → s.dev.reins = true → q.gate = true → fld q.area 2 1 = 2 → s.dev.loopMode (fld q.area 1 1) = 2 →
    Answers .ctlMode s fun t => ∃ y : Dev, t.dev = y.settle ∧ Completes q .refusedState s { s with dev := y } ∧ Frame reports [0x0B] [] s { s with dev := y }) ∧
  (∀ (q : Desc) (s : State), Ready 0x0D 1 q s.dev → resvOk q.area [(0, 3), (4, 4)] = true → fld q.area 1 1 < 64 → fld q.area 2 1 < 4 → s.dev.reins = false →
    Answers .ctlMode s fun t => ∃ y : Dev, t.dev = y.settle ∧ Completes q .notHoldingReins s { s with dev := y } ∧ Frame reports [0x0B] [] s { s with dev := y }) ∧
  (∀ (q : Desc) (s : State), Ready 0x0D 2 q s.dev → bankOk q.area = true → s.dev.reins = true → q.gate = true →
    fld q.area 2 1 = s.dev.get R.CTL_LOOP_STAT_ACTIVE_BANK (fld q.area 1 1) → s.dev.loopMode (fld q.area 1 1) = 2 →
    Answers .ctlBank s fun t => ∃ y : Dev, t.dev = y.settle ∧ Completes q .refusedState s { s with dev := y } ∧ Frame reports [0x0B] [] s { s with dev := y }) ∧
  (∀ (q : Desc) (s : State), Ready 0x0D 2 q s.dev → bankOk q.area = true → s.dev.reins = true → q.gate = true →
    ¬ (fld q.area 2 1 = s.dev.get R.CTL_LOOP_STAT_ACTIVE_BANK (fld q.area 1 1) ∧ s.dev.loopMode (fld q.area 1 1) = 2) →
    Answers .ctlBank s fun t => ∃ y : Dev, t.dev = y.settle ∧ Completes q .done s { s with dev := y } ∧
      y.get R.CTL_LOOP_STAT_SWAP_PENDING (fld q.area 1 1) =
        b2n (y.get R.CTL_LOOP_STAT_NEXT_BANK (fld q.area 1 1) != y.get R.CTL_LOOP_STAT_ACTIVE_BANK (fld q.area 1 1)) ∧
      y.get R.CTL_LOOP_STAT_ACTIVE_BANK (fld q.area 1 1) = s.dev.get R.CTL_LOOP_STAT_ACTIVE_BANK (fld q.area 1 1) ∧ y.bank (fld q.area 1 1) (fld q.area 2 1) = { kp := fld q.area 4 4, ti := fld q.area 8 4, td := fld q.area 12 4, n := fld q.area 16 2, table := fld q.area 18 1, lo := fld q.area 20 2, hi := fld q.area 22 2 } ∧
      (fld q.area 3 1 = 1 → y.get R.CTL_LOOP_STAT_NEXT_BANK (fld q.area 1 1) = fld q.area 2 1) ∧ Frame ([.ctl, .img] ++ reports) [0x0B, 0x0D] [] s { s with dev := y }) ∧
  (∀ (q : Desc) (b : List Byte) (s : State), Ready 0x0D 3 q s.dev → resvOk q.area [(0, 3), (8, 8)] = true → fld q.area 1 1 < 8 → 2 ≤ fld q.area 2 1 → fld q.area 2 1 ≤ 32 → fld q.area 8 8 % 16 = 0 →
    tableOk ((List.range (fld q.area 2 1)).map fun i => (fld b (8 * i) 2, fld b (8 * i + 2) 2, fld b (8 * i + 4) 4)) = true → s.dev.reins = true → q.gate = true → s.dev.on R.CTL_CTRL_EN = true →
    (∀ l < 64, s.dev.loopMode l = 2 → (s.dev.bankOf l).table ≠ fld q.area 1 1) →
    Answers (.ctlTable (some b)) s fun t => ∃ y : Dev, t.dev = y.settle ∧ Completes q .done s { s with dev := y } ∧
      tabGet y.ctl.tables (fld q.area 1 1) = ((List.range (fld q.area 2 1)).map fun i => (fld b (8 * i) 2, fld b (8 * i + 4) 4)) ∧ Frame ([.ctl, .img] ++ reports) [0x0B] [] s { s with dev := y }) ∧
  (∀ (l : Nat) (v : Word32) (s : State), s.dev.writable R.CTL_LOOP_CFG_EN = true → l < 64 → bitOf v.toNat 0 = true → (s.dev.reins = true ∨ s.dev.paired = false) → s.dev.on R.CTL_LOOP_CFG_EN l = false →
    (s.dev.writeAddr (R.CTL_LOOP_CFG_EN.addr l) v.toNat).loopRefused l = false →
    Answers (.loopEnable l v) s fun t => ∃ y : Dev, t.dev = y.settle ∧ y.get R.CTL_LOOP_CFG_EN l = 1 ∧ y.loopMode l = 1 ∧ y.get R.CTL_LOOP_OUT_MAN_OUT l = s.dev.get R.CTL_LOOP_OUT_OUT l) ∧
  (∀ (l : Nat) (v : Word32) (s : State), s.dev.writable R.CTL_LOOP_CFG_EN = true → l < 64 → bitOf v.toNat 0 = true → (s.dev.reins = true ∨ s.dev.paired = false) → s.dev.on R.CTL_LOOP_CFG_EN l = false →
    (s.dev.writeAddr (R.CTL_LOOP_CFG_EN.addr l) v.toNat).loopRefused l = true →
    Answers (.loopEnable l v) s fun t => ∃ y : Dev, t.dev = y.settle ∧ y.get R.CTL_LOOP_CFG_EN l = 0 ∧ y.get R.CTL_LOOP_STAT_CFG_ERR l = 1 ∧ y.loopMode l = s.dev.loopMode l ∧
      Frame [.out] [0x0B, 0x0D] [] s { s with dev := y }) ∧
  (∀ (l : Nat) (v : Word32) (s : State), s.dev.writable R.CTL_LOOP_CFG_EN = true → l < 64 → bitOf v.toNat 0 = false → (s.dev.reins = true ∨ s.dev.paired = false) → s.dev.on R.CTL_LOOP_CFG_EN l = true →
    Answers (.loopDisable l v) s fun t => ∃ y : Dev, t.dev = y.settle ∧ y.get R.CTL_LOOP_CFG_EN l = 0 ∧ y.loopMode l = 0 ∧ y.get R.CTL_LOOP_STAT_CLOSE_PENDING l = 0 ∧
      (y.loop l).resume = false ∧ Frame ([.ctl] ++ reports) ([0x0D] ++ reportWs) [] s { s with dev := y }) ∧
  (∀ (v : Word32) (s : State), s.dev.writable R.CTL_CTRL_EN = true → bitOf v.toNat 0 = false →
    Answers (.ctlDisable v) s fun t => t.dev.get R.CTL_CTRL_EN = 0 ∧ t.dev.ctlRuns = false ∧ (∀ l < 64, t.dev.loopMode l = s.dev.loopMode l) ∧ Frame [] [] [R.CTL_CTRL_EN] s t) ∧
  (∀ (v : Word32) (s : State), s.dev.writable R.CTL_CTRL_EN = true → bitOf v.toNat 0 = true → s.dev.on R.CTL_CTRL_EN = false →
    Answers (.ctlEnable v) s fun t => t.dev.get R.CTL_CTRL_EN = 1 ∧ (∀ l < 64, s.dev.loopMode l = 2 → (t.dev.loop l).resume = true) ∧ Frame [.ctl] [] [R.CTL_CTRL_EN] s t)


/-! ### Gates, spouts and dampers -/

/-- R520, R522, R525, R526, R545, R683: a move from standstill runs its profile to its target unless it is refused, a new target takes the place of the old, a group starts together and is refused as a whole;
AX_STOP brakes at D; a move that ends, and one braked to standstill, leave the axis standing and complete. -/
def Obligations.AxisMoves : Prop :=
  (∀ (q : Desc) (a : Nat) (tgt : Int) (s : State), Ready 0x0E 1 q s.dev → resvOk q.area [(0, 3), (4, 4)] = true → a = fld q.area 1 1 → a < 16 → fld q.area 2 1 < 2 → s.dev.reins = true → q.gate = true →
    (s.dev.axis a).mot = none → (s.dev.axis a).group = none →
    tgt = dec2 32 (enc2 32 ((if fld q.area 2 1 = 0 then 0 else s.dev.geti R.AXS_AX_POS_POS a) + sfld q.area 4 4)) →
    s.dev.moveRefusal a 1 tgt = none →
    Answers .axMove s fun t => ∃ y : Dev, t.dev = y.settle ∧ (y.axis a).mot = some (((s.dev.profApply a).profOf a).move s.dev.clk.mono (s.dev.geti R.AXS_AX_POS_POS a) tgt) ∧
      (y.axis a).desc = some q ∧ y.geti R.AXS_AX_TGT_TGT a = tgt ∧ y.get R.AXS_AX_STAT_OWNER a = 1 ∧ (∀ b, b ≠ a → y.axis b = s.dev.axis b)) ∧
  (∀ (q : Desc) (a : Nat) (tgt : Int) (st : Status) (s : State), Ready 0x0E 1 q s.dev → resvOk q.area [(0, 3), (4, 4)] = true → a = fld q.area 1 1 → a < 16 → fld q.area 2 1 < 2 → s.dev.reins = true → q.gate = true →
    (s.dev.axis a).mot = none → (s.dev.axis a).group = none →
    tgt = dec2 32 (enc2 32 ((if fld q.area 2 1 = 0 then 0 else s.dev.geti R.AXS_AX_POS_POS a) + sfld q.area 4 4)) →
    s.dev.moveRefusal a 1 tgt = some st →
    Answers .axMove s fun t => ∃ y : Dev, t.dev = y.settle ∧ Completes q st s { s with dev := y } ∧ y.axs = s.dev.axs ∧ Frame reports [0x0B] [R.AXS_AX_STAT_PHASE, R.AXS_AX_VEL_VEL] s { s with dev := y }) ∧
  (∀ (q o : Desc) (a : Nat) (m : Motion) (s : State), Ready 0x0E 1 q s.dev → resvOk q.area [(0, 3), (4, 4)] = true → a = fld q.area 1 1 → a < 16 → fld q.area 2 1 = 0 → s.dev.reins = true → q.gate = true →
    (s.dev.axis a).mot = some m → (s.dev.axis a).group = none → (s.dev.axis a).desc = some o → s.dev.moveRefusal a 1 (sfld q.area 4 4) = none →
    Answers .axMove s fun t => ∃ y : Dev, t.dev = y.settle ∧ y.geti R.AXS_AX_TGT_TGT a = sfld q.area 4 4 ∧ (y.axis a).mot.isSome = true ∧ y.isLive o = false ∧
      ((y.axis a).desc = some q ∨ ((y.axis a).nextDesc = some q ∧ (y.axis a).stopping = true))) ∧
  (∀ (q : Desc) (g : Nat) (s : State), Ready 0x0E 2 q s.dev → resvOk q.area [(0, 3), (4, 16)] = true → g = fld q.area 1 1 → g < 8 → fld q.area 2 1 = 0 → s.dev.reins = true → q.gate = true →
    s.dev.members g ≠ [] → (s.dev.group g).active = false → (s.dev.group g).wait = none →
    (∀ a ∈ s.dev.members g, (s.dev.axis a).mot = none ∧ (s.dev.axis a).group = none) →
    (∀ p ∈ (s.dev.members g).zipIdx, s.dev.moveRefusal p.1 1 (sfld q.area (4 + 4 * p.2) 4) = none) →
    Answers .axGmove s fun t => ∃ y : Dev, t.dev = y.settle ∧ (y.group g).active = true ∧ (y.group g).desc = some q ∧ y.get R.AXS_GRP_STAT_ACTIVE g = 1 ∧
      (∀ p ∈ (s.dev.members g).zipIdx, (y.axis p.1).group = some g ∧ y.geti R.AXS_AX_TGT_TGT p.1 = sfld q.area (4 + 4 * p.2) 4)) ∧
  (∀ (q : Desc) (g a : Nat) (s : State), Ready 0x0E 2 q s.dev → resvOk q.area [(0, 3), (4, 16)] = true → g = fld q.area 1 1 → g < 8 → fld q.area 2 1 < 2 → s.dev.reins = true → q.gate = true →
    a ∈ s.dev.members g → s.dev.axLocked a = true →
    Answers .axGmove s fun t => ∃ y : Dev, t.dev = y.settle ∧ Completes q .noGrant s { s with dev := y } ∧ y.axs = s.dev.axs) ∧
  (∀ (q : Desc) (a : Nat) (m : Motion) (s : State), Ready 0x0E 4 q s.dev → resvOk q.area [(0, 2)] = true → a = fld q.area 1 1 → a < 16 → s.dev.reins = true → q.gate = true →
    (s.dev.axis a).mot = some m → (s.dev.axis a).group = none → (s.dev.axis a).homing = none → (s.dev.axis a).stopping = false →
    Answers .axStop s fun t => ∃ y : Dev, t.dev = y.settle ∧ (y.axis a).mot = some (m.brake (s.dev.axis a).prof s.dev.clk.mono (s.dev.axis a).prof.d) ∧ (y.axis a).stopping = true ∧
      (y.axis a).next = none ∧ Completes q .done s { s with dev := y }) ∧
  (∀ (a : Nat) (m : Motion) (q : Desc) (s : State), s.dev.runs .motor = true → a < 16 → (s.dev.axis a).mot = some m → (s.dev.axis a).group = none → (s.dev.axis a).homing = none →
    (s.dev.axis a).stopping = false → (s.dev.axis a).desc = some q → Awaits q s.dev →
    Answers (.axMoveEnd a) s fun t => ∃ y : Dev, t.dev = y.settle ∧ m.ends ≤ y.clk.mono ∧ y.geti R.AXS_AX_POS_POS a = dec2 32 (enc2 32 (stepFrom m.x0 m.neg m.len)) ∧ y.get R.AXS_AX_VEL_VEL a = 0 ∧
      (y.axis a).mot = none ∧ (y.axis a).coil = .hold ∧ y.get R.AXS_AX_STAT_OWNER a = 0 ∧ Completes q .done s { s with dev := y }) ∧
  (∀ (a : Nat) (m : Motion) (q : Desc) (s : State), s.dev.runs .motor = true → a < 16 → (s.dev.axis a).mot = some m → (s.dev.axis a).group = none → (s.dev.axis a).homing = none →
    (s.dev.axis a).stopping = true → (s.dev.axis a).next = none → (∀ g < 8, (s.dev.group g).wait = none) → (s.dev.axis a).desc = some q → Awaits q s.dev →
    Answers (.axStandstill a) s fun t => ∃ y : Dev, t.dev = y.settle ∧ m.ends ≤ y.clk.mono ∧ (y.axis a).mot = none ∧ (y.axis a).stopping = false ∧ Completes q .aborted s { s with dev := y })

/-- R530, R533, R534: AX_HOME starts a homing, backing off first where the switch is active, and braking at once with HOME_NOT_FOUND where the limit ahead is active and is not the switch; its clean edges end FAST, and in CREEP set the position; chatter and too long a travel end it with a cause; at each
standstill the next state follows, and after CREEP the axis is homed. -/
def Obligations.AxisHoming : Prop :=
  (∀ (q : Desc) (a : Nat) (s : State), Ready 0x0E 3 q s.dev → resvOk q.area [(0, 3), (4, 24)] = true → a = fld q.area 1 1 → a < 16 → bits (fld q.area 2 1) 1 2 < 3 → fld q.area 2 1 < 8 →
    1 ≤ fld q.area 4 4 → fld q.area 4 4 ≤ 250000 → 1 ≤ fld q.area 8 4 → fld q.area 8 4 ≤ 250000 → 1 ≤ fld q.area 12 4 → s.dev.reins = true → q.gate = true →
    s.dev.axLocked a = false → (s.dev.axis a).code < 2 → (s.dev.axis a).en = true → s.dev.on R.AXS_CTRL_EN = true → s.dev.get R.AXS_AX_STAT_FAULT a = 0 → s.dev.loopNames a = false →
    Answers .axHome s fun t => ∃ y : Dev, t.dev = y.settle ∧
      ((y.axis a).homing.map fun h => (h.st, h.src, h.braking, h.cause)) = some (if s.dev.switchOn a (bits (fld q.area 2 1) 1 2) then HomeSt.backoff else .fast, bits (fld q.area 2 1) 1 2,
        s.dev.homeBlocked a (bits (fld q.area 2 1) 1 2) (s.dev.switchOn a (bits (fld q.area 2 1) 1 2) != (fld q.area 2 1 % 2 == 0)),
        if s.dev.homeBlocked a (bits (fld q.area 2 1) 1 2) (s.dev.switchOn a (bits (fld q.area 2 1) 1 2) != (fld q.area 2 1 % 2 == 0)) then some 3 else none) ∧
      (y.axis a).desc = some q ∧ y.get R.AXS_AX_STAT_HOMED a = 0 ∧ y.get R.AXS_AX_STAT_STATE a = 3 ∧ y.get R.AXS_AX_STAT_OWNER a = 1 ∧ (∀ b, b ≠ a → y.axis b = s.dev.axis b)) ∧
  (∀ (a : Nat) (h : Homing) (m : Motion) (level : Bool) (s : State), s.dev.runs .motor = true → a < 16 → (s.dev.axis a).homing = some h → (s.dev.axis a).mot = some m → h.src < 3 →
    level ≠ s.dev.on (switchPol h.src) a → h.st = .fast → h.braking = false → h.cause = none →
    Answers (.axHomeEdge a h.src (.clean level)) s fun t => ∃ y : Dev, t.dev = y.settle ∧ y.switchOn a h.src = true ∧ (y.axis a).homing = some { h with braking := true } ∧
      (y.axis a).mot = some (m.brake (s.dev.axis a).prof s.dev.clk.mono h.dHome)) ∧
  (∀ (a : Nat) (h : Homing) (m : Motion) (level : Bool) (s : State), s.dev.runs .motor = true → a < 16 → (s.dev.axis a).homing = some h → (s.dev.axis a).mot = some m → h.src < 3 →
    level ≠ s.dev.on (switchPol h.src) a → h.st = .creep → h.braking = false → h.cause = none →
    Answers (.axHomeEdge a h.src (.clean level)) s fun t => ∃ y : Dev, t.dev = y.settle ∧ y.switchOn a h.src = true ∧
      ((y.axis a).homing.map fun x => (x.st, x.braking, x.cause)) = some (HomeSt.creep, true, none) ∧ y.geti R.AXS_AX_LATCH_HOME_LATCH a = dec2 32 (enc2 32 h.homePos)) ∧
  (∀ (a : Nat) (h : Homing) (m : Motion) (s : State), s.dev.runs .motor = true → a < 16 → (s.dev.axis a).homing = some h → (s.dev.axis a).mot = some m → h.src < 3 → h.cause = none →
    s.dev.get R.AXS_AX_IN_CHAT_N a ≤ ((s.dev.axis a).edges.filter fun t => s.dev.clk.mono ≤ t + s.dev.get R.AXS_AX_IN_CHAT_WIN a * ms).length →
    Answers (.axHomeEdge a h.src .raw) s fun t => ∃ y : Dev, t.dev = y.settle ∧ ((y.axis a).homing.map fun x => (x.braking, x.cause)) = some (true, some 2)) ∧
  (∀ (a : Nat) (h : Homing) (m : Motion) (s : State), s.dev.runs .motor = true → a < 16 → (s.dev.axis a).homing = some h → (s.dev.axis a).mot = some m → h.braking = false → h.cause = none →
    Answers (.homeMaxTravel a) s fun t => ∃ y : Dev, t.dev = y.settle ∧ m.ends - 1 ≤ y.clk.mono ∧ ((y.axis a).homing.map fun x => (x.braking, x.cause)) = some (true, some 3)) ∧
  (∀ (a : Nat) (h : Homing) (m : Motion) (s : State), s.dev.runs .motor = true → a < 16 → (s.dev.axis a).homing = some h → (s.dev.axis a).mot = some m → h.braking = true → h.cause = none → h.st ≠ .creep →
    Answers (.axStandstill a) s fun t => ∃ y : Dev, t.dev = y.settle ∧ m.ends ≤ y.clk.mono ∧
      ((y.axis a).homing.map fun x => (x.st, x.braking)) = some (if h.st = .fast then HomeSt.backoff else HomeSt.creep, s.dev.homeBlocked a h.src (h.neg != (h.st == .fast)))) ∧
  (∀ (a : Nat) (h : Homing) (m : Motion) (s : State), s.dev.runs .motor = true → a < 16 → (s.dev.axis a).homing = some h → (s.dev.axis a).mot = some m → h.braking = true → h.cause = none → h.st = .creep →
    Answers (.axStandstill a) s fun t => ∃ y : Dev, t.dev = y.settle ∧ m.ends ≤ y.clk.mono ∧ (y.axis a).homing = none ∧ (y.axis a).mot = none ∧ y.get R.AXS_AX_STAT_HOMED a = 1 ∧
      y.bit R.AXS_STATUS_HOMED a = true) ∧
  (∀ (a c : Nat) (h : Homing) (m : Motion) (s : State), s.dev.runs .motor = true → a < 16 → (s.dev.axis a).homing = some h → (s.dev.axis a).mot = some m → h.braking = true → h.cause = some c → 1 ≤ c → c ≤ 5 →
    Answers (.axStandstill a) s fun t => ∃ y : Dev, t.dev = y.settle ∧ (y.axis a).homing = none ∧ (y.axis a).mot = none ∧ y.get R.AXS_AX_STAT_FAULT a = c ∧
      y.get R.AXS_AX_STAT_HOMED a = s.dev.get R.AXS_AX_STAT_HOMED a)

/-- R523, R536, R538-R540, R545: a profile, a window, enabling, disabling and clearing a fault take effect unless a lock or a persisting cause refuses them; AXS_CTRL.EN disables every axis unless one
is locked. -/
def Obligations.AxisSettings : Prop :=
  (∀ (q : Desc) (a : Nat) (s : State), Ready 0x0E 5 q s.dev → resvOk q.area [(0, 3), (4, 24)] = true → a = fld q.area 1 1 → a < 16 → (profFrom q.area).shape < 2 → 1 ≤ (profFrom q.area).v → (profFrom q.area).v ≤ 250000 →
    1 ≤ (profFrom q.area).vs → (profFrom q.area).vs ≤ (profFrom q.area).v → 1 ≤ (profFrom q.area).a → 1 ≤ (profFrom q.area).d → ((profFrom q.area).shape = 0 ∨ 1 ≤ (profFrom q.area).j) → (profFrom q.area).d ≤ (profFrom q.area).demg →
    s.dev.reins = true → (s.dev.axis a).mot = none → (s.dev.axis a).group = none →
    Answers .axProfile s fun t => ∃ y : Dev, t.dev = y.settle ∧ y.profOf a = profFrom q.area ∧ y.get R.AXS_AX_STAT_PROF_PENDING a = 0 ∧ Completes q .done s { s with dev := y } ∧ y.axs = s.dev.axs) ∧
  (∀ (q : Desc) (s : State), Ready 0x0E 6 q s.dev → axCtrlOk q.area = true → fld q.area 2 1 = 0 → s.dev.reins = true → q.gate = true →
    Answers .axEnable s fun t => ∃ y : Dev, t.dev = y.settle ∧ (y.axis (fld q.area 1 1)).en = true ∧ Completes q .done s { s with dev := y }) ∧
  (∀ (q : Desc) (a : Nat) (s : State), Ready 0x0E 6 q s.dev → axCtrlOk q.area = true → fld q.area 2 1 = 1 → a = fld q.area 1 1 → s.dev.reins = true → q.gate = true → s.dev.axLocked a = false →
    Answers .axDisable s fun t => ∃ y : Dev, t.dev = y.settle ∧ (y.axis a).en = false ∧ Completes q .done s { s with dev := y }) ∧
  (∀ (q : Desc) (a : Nat) (m : Motion) (s : State), Ready 0x0E 6 q s.dev → axCtrlOk q.area = true → fld q.area 2 1 = 1 → a = fld q.area 1 1 → s.dev.reins = true → q.gate = true → s.dev.axLocked a = false →
    (s.dev.axis a).en = true → (s.dev.axis a).mot = some m → (s.dev.axis a).homing = none → (s.dev.axis a).group = none →
    Answers .axDisable s fun t => ∃ y : Dev, t.dev = y.settle ∧ (y.axis a).en = false ∧ (y.axis a).mot = some (m.brake (s.dev.axis a).prof s.dev.clk.mono (s.dev.axis a).prof.demg) ∧
      (y.axis a).stopping = true ∧ Completes q .done s { s with dev := y }) ∧
  (∀ (q : Desc) (a : Nat) (s : State), Ready 0x0E 6 q s.dev → axCtrlOk q.area = true → fld q.area 2 1 = 1 → a = fld q.area 1 1 → s.dev.reins = true → q.gate = true → s.dev.axLocked a = true →
    Answers .axDisable s fun t => ∃ y : Dev, t.dev = y.settle ∧ Completes q .noGrant s { s with dev := y } ∧ Frame reports [0x0B] [] s { s with dev := y }) ∧
  (∀ (q : Desc) (p : Bool) (a : Nat) (s : State), Ready 0x0E 6 q s.dev → axCtrlOk q.area = true → fld q.area 2 1 = 2 → a = fld q.area 1 1 → s.dev.reins = true → q.gate = true →
    (p = false ∨ (s.dev.get R.AXS_AX_STAT_FAULT a ≠ 1 ∧ s.dev.get R.AXS_AX_STAT_FAULT a ≠ 5)) →
    Answers (.axClearFault p) s fun t => ∃ y : Dev, t.dev = y.settle ∧ y.get R.AXS_AX_STAT_FAULT a = 0 ∧ y.bit R.AXS_STATUS2_FAULT a = false ∧ Completes q .done s { s with dev := y } ∧ y.axs = s.dev.axs) ∧
  (∀ (q : Desc) (a : Nat) (s : State), Ready 0x0E 6 q s.dev → axCtrlOk q.area = true → fld q.area 2 1 = 2 → a = fld q.area 1 1 → s.dev.reins = true → q.gate = true →
    (s.dev.get R.AXS_AX_STAT_FAULT a = 1 ∨ s.dev.get R.AXS_AX_STAT_FAULT a = 5) →
    Answers (.axClearFault true) s fun t => ∃ y : Dev, t.dev = y.settle ∧ Completes q .refusedState s { s with dev := y } ∧ Frame reports [0x0B] [] s { s with dev := y }) ∧
  (∀ (q : Desc) (a w : Nat) (s : State), Ready 0x0E 7 q s.dev → resvOk q.area [(0, 12)] = true → a = fld q.area 1 1 → w = fld q.area 2 1 → a < 16 → w < 4 → fld q.area 3 1 < 4 → sfld q.area 4 4 ≤ sfld q.area 8 4 →
    s.dev.reins = true → s.dev.bit R.AXS_AX_WIN_CFG_REQUIRED w a = false →
    Answers .axWindow s fun t => ∃ y : Dev, t.dev = y.settle ∧ y.geti R.AXS_AX_WIN_LO_LO a w = sfld q.area 4 4 ∧ y.geti R.AXS_AX_WIN_HI_HI a w = sfld q.area 8 4 ∧
      y.bit R.AXS_AX_WIN_CFG_VALID w a = bitOf (fld q.area 3 1) 0 ∧ y.bit R.AXS_AX_WIN_CFG_ALLOW_OFF w a = bitOf (fld q.area 3 1) 1 ∧ y.bit R.AXS_AX_WIN_CFG_CONF w a = y.confNow a w ∧
      Completes q .done s { s with dev := y }) ∧
  (∀ (q : Desc) (a w : Nat) (s : State), Ready 0x0E 7 q s.dev → resvOk q.area [(0, 12)] = true → a = fld q.area 1 1 → w = fld q.area 2 1 → a < 16 → w < 4 → fld q.area 3 1 < 4 → sfld q.area 4 4 ≤ sfld q.area 8 4 →
    s.dev.reins = true → s.dev.bit R.AXS_AX_WIN_CFG_REQUIRED w a = true →
    Answers .axWindow s fun t => ∃ y : Dev, t.dev = y.settle ∧ Completes q .noGrant s { s with dev := y } ∧ Frame reports [0x0B] [] s { s with dev := y }) ∧
  (∀ (v : Word32) (s : State), s.dev.writable R.AXS_CTRL_EN = true → bitOf v.toNat 0 = false → s.dev.on R.AXS_CTRL_EN = true → (∀ a < 16, s.dev.axLocked a = false) →
    Answers (.axsDisable v) s fun t => ∃ y : Dev, t.dev = y.settle ∧ y.get R.AXS_CTRL_EN = 0 ∧ (∀ a < 16, (y.axis a).en = false)) ∧
  (∀ (v : Word32) (a : Nat) (s : State), s.dev.writable R.AXS_CTRL_EN = true → bitOf v.toNat 0 = false → s.dev.on R.AXS_CTRL_EN = true → a < 16 → s.dev.axLocked a = true →
    Answers (.axsDisable v) s fun t => ∃ y : Dev, t.dev = y.settle ∧ y.get R.AXS_CTRL_EN = 1 ∧ y.get R.AXS_STATUS2_DIS_REFUSED = 1 ∧ y.axs = s.dev.axs)

/-- R527-R529, R531, R536: confirmation follows 10 ms after a move; the standstill mode follows T_HOLD; a limit stops a move toward it; a chopper cycle ends its ON when the comparator trips, and the 16th in a row
that trips by the end of BLANK, at a quarter of full scale or more, drops the axis. -/
def Obligations.AxisInputs : Prop :=
  (∀ (a t0 : Nat) (s : State), s.dev.runs .motor = true → a < 16 → (s.dev.axis a).endAt = some t0 →
    Answers (.axConfirm a) s fun t => ∃ y : Dev, t.dev = y.settle ∧ t0 + 10 * ms ≤ y.clk.mono ∧ (∀ w < 4, y.bit R.AXS_AX_WIN_CFG_CONF w a = y.confNow a w) ∧ y.axs = s.dev.axs) ∧
  (∀ (a t0 : Nat) (s : State), s.dev.runs .motor = true → a < 16 → (s.dev.axis a).endAt = some t0 → (s.dev.axis a).coil = .hold → (s.dev.axis a).code < 2 → s.dev.get R.AXS_AX_CFG_STAND a < 3 →
    Answers (.axStandTimeout a) s fun t => ∃ y : Dev, t.dev = y.settle ∧ t0 + s.dev.get R.AXS_AX_IN_T_HOLD a * 10 * ms ≤ y.clk.mono ∧
      (y.axis a).coil = (if s.dev.get R.AXS_AX_CFG_STAND a = 2 then .short else if s.dev.get R.AXS_AX_CFG_STAND a = 1 ∧ s.dev.mustHold a = false then .off else .hold)) ∧
  (∀ (a : Nat) (hi level : Bool) (m : Motion) (s : State), s.dev.runs .motor = true → a < 16 → level ≠ s.dev.on R.AXS_AX_CFG_LIM_POL a → s.dev.on R.AXS_AX_CFG_LIM_EN a = true →
    (s.dev.axis a).mot = some m → (s.dev.axis a).group = none → (s.dev.axis a).homing = none → (s.dev.axis a).stopping = false → m.neg ≠ hi →
    Answers (.axLimitInput a hi level) s fun t => ∃ y : Dev, t.dev = y.settle ∧ y.on (if hi then R.AXS_AX_STAT_LIM_HI else R.AXS_AX_STAT_LIM_LO) a = true ∧
      (y.axis a).mot = some (m.brake (s.dev.axis a).prof s.dev.clk.mono (s.dev.axis a).prof.demg) ∧ (y.axis a).stopping = true ∧ y.get R.AXS_AX_STAT_LIM_STOP a = 1) ∧
  (∀ (a : Nat) (hi : Bool) (s : State), s.dev.runs .motor = true → a < 16 → (s.dev.axis a).homing = none →
    Answers (.axLimitInput a hi (s.dev.on R.AXS_AX_CFG_LIM_POL a)) s fun t => ∃ y : Dev, t.dev = y.settle ∧ y.on (if hi then R.AXS_AX_STAT_LIM_HI else R.AXS_AX_STAT_LIM_LO) a = false ∧
      (y.axis a).mot = (s.dev.axis a).mot ∧ Frame [.axs] [0x0E] [] s { s with dev := y }) ∧
  (∀ (a c n : Nat) (x : Chop) (s : State), s.dev.runs .motor = true → a < 16 → c < 2 → s.dev.pair.frozen = false → (if c = 0 then (s.dev.axis a).chopA else (s.dev.axis a).chopB) = some x → x.off = none → x.blank < n →
    Answers (.axOvercurrent ⟨a, c, [n]⟩) s fun t => ∃ y : Dev, t.dev = y.settle ∧ x.t0 + n ≤ y.clk.mono ∧
      (if c = 0 then (y.axis a).chopA else (y.axis a).chopB) = some { x with off := some (x.t0 + n), trips := 0 } ∧ (y.axis a).mot = (s.dev.axis a).mot ∧ Frame [.clk, .axs] [] [] s { s with dev := y }) ∧
  (∀ (a c n : Nat) (x : Chop) (q : Desc) (s : State), s.dev.runs .motor = true → a < 16 → c < 2 → s.dev.pair.frozen = false → (if c = 0 then (s.dev.axis a).chopA else (s.dev.axis a).chopB) = some x →
    x.off = none → n ≤ x.blank → x.trips = 15 → 16384 ≤ x.ref → (s.dev.axis a).desc = some q → Awaits q s.dev →
    Answers (.axOvercurrent ⟨a, c, [n]⟩) s fun t => ∃ y : Dev, t.dev = y.settle ∧ x.t0 + x.blank ≤ y.clk.mono ∧ y.get R.AXS_AX_STAT_FAULT a = 1 ∧ y.bit R.AXS_STATUS2_FAULT a = true ∧
      y.get R.AXS_AX_STAT_HOMED a = 0 ∧ (y.axis a).mot = none ∧ (y.axis a).coil = .off ∧ y.axLegs a y.clk.mono = [.off, .off, .off, .off] ∧ Completes q .aborted s { s with dev := y })

/-! ### Stops, drag and authorities -/

/-- R339-R343, R352: DRAG asserts and releases the host's source, STOP and its release an individual stop; the drag inputs assert source 0, and stay unlike for DISC_T as a discrepancy. A source voids
every authority, a stop its machine's. -/
def Obligations.StopsAndDrag : Prop :=
  (∀ (q : Desc) (s : State), Ready 9 1 q s.dev → dragOk q.area = true → fld q.area 1 1 = 0 → s.dev.reins = true → s.dev.cellDrag = false →
    Answers .dragAssert s fun t => t.dev.bit R.BRK_SRC_SRC 1 = true ∧ t.dev.get R.BRK_STATUS_DRAG_OUT = 1 ∧ t.dev.get R.BRK_STATUS_CELL_DRAG = 1 ∧ (∀ m, t.dev.authOf m = none) ∧
      Completes q .done s t ∧ Frame ([.brk] ++ reports) ([0x09] ++ reportWs) [] s t) ∧
  (∀ (q : Desc) (s : State), Ready 9 1 q s.dev → dragOk q.area = true → fld q.area 1 1 = 0 → s.dev.reins = true → s.dev.cellDrag = true →
    Answers .dragAssert s fun t => t.dev.bit R.BRK_SRC_SRC 1 = true ∧ t.dev.cellDrag = true ∧ Completes q .done s t ∧ Frame reports reportWs [R.BRK_SRC_SRC] s t) ∧
  (∀ (q : Desc) (k : Nat) (s : State), Ready 9 1 q s.dev → dragOk q.area = true → fld q.area 1 1 = 1 → k = fld q.area 2 1 → s.dev.reins = true → s.dev.releaseOk k = true →
    Answers .dragRelease s fun t => t.dev.bit R.BRK_SRC_SRC k = false ∧ (∀ j < 6, j ≠ k → t.dev.bit R.BRK_SRC_SRC j = s.dev.bit R.BRK_SRC_SRC j) ∧
      t.dev.get R.BRK_STATUS_DRAG_OUT = s.dev.get R.BRK_STATUS_DRAG_OUT ∧ Completes q .done s t ∧ Frame ([.brk] ++ reports) ([0x09] ++ reportWs) [] s t) ∧
  (∀ (q : Desc) (k : Nat) (s : State), Ready 9 1 q s.dev → dragOk q.area = true → fld q.area 1 1 = 1 → k = fld q.area 2 1 → s.dev.reins = true → s.dev.releaseOk k = false →
    Answers .dragRelease s fun t => Completes q .refusedState s t ∧ Frame reports [0x0B] [] s t) ∧
  (∀ (q : Desc) (m : Nat) (s : State), Ready 9 2 q s.dev → resvOk q.area [(0, 2)] = true → m = fld q.area 1 1 → m < 240 → s.dev.reins = true → s.dev.stopped m = false →
    Answers .stop s fun t => ∃ y : Dev, t.dev = y.settle ∧ y.stopped m = true ∧ y.get R.BRK_MACH_CAUSE m = 9 ∧ y.authOf m = none ∧ (∀ k, k ≠ m → y.authOf k = s.dev.authOf k) ∧
      Completes q .done s { s with dev := y } ∧ Frame ([.brk] ++ reports) ([0x09] ++ reportWs) [] s { s with dev := y }) ∧
  (∀ (q : Desc) (m : Nat) (s : State), Ready 9 2 q s.dev → resvOk q.area [(0, 2)] = true → m = fld q.area 1 1 → m < 240 → s.dev.reins = true → s.dev.stopped m = true →
    Answers .stop s fun t => ∃ y : Dev, t.dev = y.settle ∧ Completes q .done s { s with dev := y } ∧ Frame reports [0x0B] [] s { s with dev := y }) ∧
  (∀ (q : Desc) (m : Nat) (s : State), Ready 9 3 q s.dev → resvOk q.area [(0, 2)] = true → m = fld q.area 1 1 → m < 240 → s.dev.reins = true → s.dev.stopped m = true → s.dev.stopReleaseOk m = true →
    Answers .stopRelease s fun t => ∃ y : Dev, t.dev = y.settle ∧ y.stopped m = false ∧ y.get R.BRK_MACH_CAUSE m = 0 ∧ Completes q .done s { s with dev := y } ∧
      Frame ([.brk] ++ reports) ([0x09] ++ reportWs) [] s { s with dev := y }) ∧
  (∀ (q : Desc) (m : Nat) (s : State), Ready 9 3 q s.dev → resvOk q.area [(0, 2)] = true → m = fld q.area 1 1 → m < 240 → s.dev.reins = true → (s.dev.stopped m = false ∨ s.dev.stopReleaseOk m = false) →
    Answers .stopRelease s fun t => ∃ y : Dev, t.dev = y.settle ∧ Completes q .refusedState s { s with dev := y } ∧ Frame reports [0x0B] [] s { s with dev := y }) ∧
  (∀ (a b : Bool) (s : State), s.dev.powered = true → s.dev.sys.lost.contains (regionCode .safe) = false → (a || b) = true → s.dev.reins = true → s.dev.cellDrag = false →
    Answers (.dragInputChange a b) s fun t => t.dev.on R.BRK_IN_A = a ∧ t.dev.on R.BRK_IN_B = b ∧ t.dev.bit R.BRK_SRC_SRC 0 = true ∧ t.dev.brk.lowSince = none ∧
      t.dev.get R.BRK_STATUS_DRAG_OUT = 1 ∧ (∀ m, t.dev.authOf m = none) ∧ Frame ([.brk] ++ reports) ([0x09] ++ reportWs) [] s t) ∧
  (∀ (a b : Bool) (s : State), s.dev.powered = true → s.dev.sys.lost.contains (regionCode .safe) = false → (a || b) = true → s.dev.paired = true → s.dev.get R.PAIR_STATUS_ROLE = 2 →
    Answers (.dragInputChange a b) s fun t => t.dev.bit R.BRK_SRC_SRC 0 = true ∧ t.dev.get R.BRK_STATUS_DRAG_OUT = 1 ∧ Frame ([.brk] ++ reports) ([0x09] ++ reportWs) [] s t) ∧
  (∀ s : State, s.dev.powered = true → s.dev.sys.lost.contains (regionCode .safe) = false → s.dev.reins = true →
    Answers (.dragInputChange false false) s fun t => t.dev.on R.BRK_IN_A = false ∧ t.dev.on R.BRK_IN_B = false ∧
      t.dev.brk.lowSince = some (s.dev.brk.lowSince.getD s.dev.clk.mono) ∧ Frame [.brk] [] [R.BRK_IN_A, R.BRK_IN_B] s t) ∧
  (∀ (t0 : Nat) (s : State), s.dev.runs .safe = true → s.dev.brk.diffAt = some t0 →
    Answers .dragInputDiscrepancy s fun t => t.dev.on R.BRK_IN_DISC = true ∧ t.dev.bit R.BRK_SRC_SRC 0 = true ∧ t0 + s.dev.get R.BRK_IN_DISC_T * ms ≤ t.dev.clk.mono ∧
      Frame ([.clk, .brk] ++ reports) ([0x09] ++ reportWs) [] s t)

/-- R323, R335, R336, R344: an authority not acknowledged in time is reported once; a counting uplink that breaks a bound of its machine's authority stops it, and so does one that moves without; the watchdog runs
from a kick, and when it expires holds the machines or drags the cell, by ACTION. -/
def Obligations.SupervisionAndWatchdog : Prop :=
  (∀ (m : Nat) (a : Auth) (s : State), s.dev.runs .safe = true → s.dev.timeGoes = true → m < 240 → s.dev.authOf m = some a → s.dev.on R.BRK_MACH_ACKED m = false → (s.dev.brkM m).late = false →
    Answers (.authAckTimeout m) s fun t => (t.dev.brkM m).late = true ∧ t.dev.authOf m = some a ∧ (a.first + s.dev.get R.BRK_CFG2_AUTH_ACK_T) * superframe ≤ t.dev.clk.yard ∧
      Frame ([.clk, .brk] ++ reports) ([0x09] ++ reportWs) [] s t) ∧
  (∀ (d : Dev) (m : Nat) (u : Upl), m < 240 → u.age ≤ d.get R.BRK_CFG_AGE_MAX * 10 → d.paused 1 = false → (d.authOf m).isSome = true → (d.judge m u).1 ≠ 0 → d.stopped m = false →
    (d.supervise m u).stopped m = true ∧ (d.supervise m u).get R.BRK_MACH_CAUSE m = (d.judge m u).1 ∧ (d.supervise m u).authOf m = none) ∧
  (∀ (d : Dev) (m : Nat) (u : Upl), m < 240 → u.age ≤ d.get R.BRK_CFG_AGE_MAX * 10 → d.paused 1 = false → (d.authOf m).isSome = true → (d.judge m u).1 = 0 →
    (d.supervise m u).stopped m = d.stopped m ∧ (d.supervise m u).authOf m = (d.authOf m).map (raiseX u) ∧ (d.supervise m u).get R.BRK_MACH_MISS m = 0) ∧
  (∀ (d : Dev) (m : Nat) (u : Upl), m < 240 → u.age ≤ d.get R.BRK_CFG_AGE_MAX * 10 → d.paused 1 = false → d.authOf m = none → d.get R.BRK_CFG_STILL_SPD * 10 < u.speed → d.stopped m = false →
    (d.supervise m u).stopped m = true ∧ (d.supervise m u).get R.BRK_MACH_CAUSE m = 6) ∧
  (∀ (v : Word32) (s : State), s.dev.writable R.BRK_WD_KICK_KEY = true → v.toNat = 0x5A5A →
    Answers (.wdKick v) s fun t => t.dev.brk.wdLast = s.dev.clk.mono ∧ t.dev.brk.wdKicked = true ∧ t.dev.brk.wdHold = false ∧ t.dev.brk.wdArmed = s.dev.on R.BRK_WD_CFG_ACTION ∧
      Frame [.brk] [0x09] [] s t) ∧
  (∀ (v : Word32) (s : State), v.toNat ≠ 0x5A5A → Answers (.wdKick v) s fun t => t = s) ∧
  (∀ s : State, s.dev.runs .safe = true → s.dev.brk.wdArmed = true → s.dev.get R.BRK_WD_CFG_ACTION = 1 →
    Answers .hostWatchdogExpiry s fun t => t.dev.on R.BRK_WD_CFG_EXPIRED = true ∧ t.dev.brk.wdArmed = false ∧ s.dev.brk.wdLast + s.dev.get R.BRK_WD_CFG_PERIOD * ms ≤ t.dev.clk.mono ∧
      t.dev.globalHold = true ∧ Frame ([.clk, .brk] ++ reports) ([0x09] ++ reportWs) [] s t) ∧
  (∀ s : State, s.dev.runs .safe = true → s.dev.brk.wdArmed = true → s.dev.get R.BRK_WD_CFG_ACTION = 2 →
    Answers .hostWatchdogExpiry s fun t => t.dev.on R.BRK_WD_CFG_EXPIRED = true ∧ t.dev.brk.wdArmed = false ∧ s.dev.brk.wdLast + s.dev.get R.BRK_WD_CFG_PERIOD * ms ≤ t.dev.clk.mono ∧
      t.dev.bit R.BRK_SRC_SRC 5 = true ∧ Frame ([.clk, .brk] ++ reports) ([0x09] ++ reportWs) [] s t)

/-! ### Reservation -/

/-- R289-R297, R300, R301, R309-R311: a ROUTE request joins the queue; when both engines agree it is granted whole or refused, and parks where it may wait; a parked one times out; SHORTEN calls for a shorter
authority and times out; EVICT frees what a stopped machine holds; clearing EN ends every request. -/
def Obligations.RouteRequests : Prop :=
  (∀ (q : Desc) (b : List Byte) (s : State), Ready 8 1 q s.dev → routeAreaOk q.area = true → (∀ w ∈ routeEls b (fld q.area 2 1), w < 4096) →
    noDup ((routeEls b (fld q.area 2 1)).map fun w => w % 2048) = true →
    (let e := s.dev.ent ((routeEls b (fld q.area 2 1)).getLastD 0 % 2048); eValid e = true → fld q.area 6 2 < eLen e) → s.dev.reins = true → q.gate = true → s.dev.mapOk = true →
    Answers (.route (some b)) s fun t => (∃ r : Req, t.dev.rsv.queue = s.dev.rsv.queue ++ [r] ∧ r.m = fld q.area 1 1 ∧ r.desc = some q ∧ r.stopOfs = fld q.area 6 2 ∧
      r.route = (routeEls b (fld q.area 2 1)).map (fun w => (w % 2048, b2n (bitOf w 11)))) ∧ Frame [.ring, .rsv] [] [R.RSV_STATUS_QUEUE, R.RSV_STATUS_PARKED] s t) ∧
  (∀ (q : Req) (rest : List Req) (s : State), s.dev.runs .safe = true → s.dev.rsv.queue = q :: rest → s.dev.rsv.commit = none → s.dev.paused 1 = false → (∀ p ∈ q.route, p.1 < 2048) →
    (s.dev.evaluate q).reason = 0 →
    Answers (.routeEvaluate .agree) s fun t => ∃ y : Dev, t.dev = y.settle ∧ y.rsv.queue = rest ∧ (∀ p ∈ q.route, y.holder p.1 = q.m ∧ y.get R.RSV_SEG_ROUTE_ID p.1 = s.dev.nextRoute % 65536) ∧
      y.rsv.routeId = s.dev.nextRoute ∧ (∀ x, q.desc = some x → Awaits x s.dev → Completes x .done s { s with dev := y })) ∧
  (∀ (q : Req) (rest : List Req) (s : State), s.dev.runs .safe = true → s.dev.rsv.queue = q :: rest → s.dev.rsv.commit = none → s.dev.paused 1 = false → parks (s.dev.evaluate q).reason = true →
    q.wait = true → s.dev.rsv.parked.length < 64 →
    Answers (.routeEvaluate .agree) s fun t => ∃ y : Dev, t.dev = y.settle ∧ y.rsv.queue = rest ∧ y.rsv.parked.length = s.dev.rsv.parked.length + 1 ∧
      (y.rsv.parked.getLast?.map fun r => (r.m, r.route, r.reason, r.since)) = some (q.m, q.route, (s.dev.evaluate q).reason, s.dev.now) ∧
      Frame [.rsv] [] [R.RSV_STATUS_QUEUE, R.RSV_STATUS_PARKED] s { s with dev := y }) ∧
  (∀ (q : Req) (rest : List Req) (s : State), s.dev.runs .safe = true → s.dev.rsv.queue = q :: rest → s.dev.rsv.commit = none → s.dev.paused 1 = false → (s.dev.evaluate q).reason ≠ 0 →
    (parks (s.dev.evaluate q).reason = false ∨ q.wait = false) →
    Answers (.routeEvaluate .agree) s fun t => ∃ y : Dev, t.dev = y.settle ∧ y.rsv.queue = rest ∧ y.rsv.parked = s.dev.rsv.parked ∧ (∀ k < 2048, y.holder k = s.dev.holder k ∧ y.segSt k = s.dev.segSt k) ∧
      (∀ x, q.desc = some x → Awaits x s.dev → Completes x .noGrant s { s with dev := y })) ∧
  (∀ (q : Req) (rest : List Req) (w : Nat) (s : State), s.dev.runs .safe = true → s.dev.rsv.queue = q :: rest → s.dev.rsv.commit = none → s.dev.paused 1 = false → s.dev.on R.RSV_STATUS_COMPARE_OK = true →
    Answers (.routeEvaluate (.mismatch w)) s fun t => ∃ y : Dev, t.dev = y.settle ∧ y.rsv.queue = rest ∧ y.get R.RSV_STATUS_COMPARE_OK = 0 ∧ y.get R.RSV_ENG_CAUSE = 4 ∧
      (∀ k < 2048, y.holder k = s.dev.holder k) ∧ (∀ x, q.desc = some x → Awaits x s.dev → Completes x .noGrant s { s with dev := y })) ∧
  (∀ (no : Nat) (q : Req) (s : State), s.dev.runs .safe = true → s.dev.timeGoes = true → s.dev.rsv.parked.find? (fun q => q.no == no) = some q →
    Answers (.parkedTimeout no) s fun t => ∃ y : Dev, t.dev = y.settle ∧ q.since + q.timeout * superframe ≤ y.clk.yard ∧ (∀ r ∈ y.rsv.parked, r.no ≠ no) ∧
      (∀ x, q.desc = some x → Awaits x s.dev → Completes x .timeout s { s with dev := y }) ∧ Frame ([.clk, .rsv, .wb] ++ reports) [0x08, 0x0B] [] s { s with dev := y }) ∧
  (∀ s : State, s.dev.runs .safe = true → s.dev.timeGoes = true → s.dev.on R.RSV_STATUS_GRANT_HOLD = true →
    Answers .grantHoldEnd s fun t => ∃ x : Dev, t.dev = x.parkedPass.settle ∧ x.get R.RSV_STATUS_GRANT_HOLD = 0 ∧ s.dev.rsv.holdSf * superframe + 347 * slotLen ≤ x.clk.yard ∧
      Frame [.clk] [] [R.RSV_STATUS_GRANT_HOLD] s { s with dev := x }) ∧
  (∀ (v : Word32) (s : State), s.dev.writable R.RSV_CTRL_EN = true → bitOf v.toNat 0 = false → s.dev.on R.RSV_CTRL_EN = true →
    Answers (.rsvDisable v) s fun t => ∃ y : Dev, t.dev = y.settle ∧ y.get R.RSV_CTRL_EN = 0 ∧ y.rsv.queue = [] ∧ y.rsv.parked = [] ∧
      (s.dev.ringsHeld = false → ∀ r ∈ s.dev.rsv.queue ++ s.dev.rsv.parked, ∀ x, r.desc = some x → y.isLive x = false)) ∧
  (∀ (q : Desc) (m : Nat) (s : State), Ready 8 2 q s.dev → m = fld q.area 1 1 → resvOk q.area [(0, 4)] = true → m < 240 → fld q.area 2 2 < 2048 →
    (((tabGet s.dev.rsv.path m).drop (s.dev.occIdx m)).any fun e => e.seg == fld q.area 2 2) = true → s.dev.reins = true → (s.dev.authOf m).isSome = true →
    Answers .shorten s fun t => (tabFind t.dev.rsv.short m).map (fun x => (x.desc, x.last, x.since)) = some (q, fld q.area 2 2, s.dev.sfn) ∧
      ((t.dev.brkM m).call.map fun c => (c.kind, c.route)) = some (CallKind.shorten, (s.dev.shortRoute m (fld q.area 2 2)).2) ∧ t.dev.authOf m = s.dev.authOf m ∧
      Frame ([.rsv, .brk] ++ reports) [0x09, 0x0B] [] s t) ∧
  (∀ (m : Nat) (x : Shorten) (s : State), s.dev.runs .safe = true → s.dev.timeGoes = true → tabFind s.dev.rsv.short m = some x → Awaits x.desc s.dev →
    Answers (.shortenTimeout m) s fun t => tabFind t.dev.rsv.short m = none ∧ (x.since + s.dev.get R.RSV_CFG_SHORTEN_T) * superframe ≤ t.dev.clk.yard ∧ Completes x.desc .timeout s t ∧
      Frame ([.clk, .rsv] ++ reports) [0x0B] [] s t) ∧
  (∀ (q : Desc) (m : Nat) (s : State), Ready 8 3 q s.dev → m = fld q.area 1 1 → resvOk q.area [(0, 2)] = true → m < 240 → s.dev.reins = true →
    s.dev.authOf m = none → s.dev.stopped m = true →
    Answers .evict s fun t => ∃ x y : Dev, y = x.parkedPass.complete q .done ∧ t.dev = y.settle ∧ (∀ k ∈ s.dev.heldBy m, x.holder k = 0xFF) ∧ tabFind x.rsv.path m = none ∧
      WbIn.lost m 2 ∈ x.wb.port ∧ Completes q .done s { s with dev := y }) ∧
  (∀ (q : Desc) (m : Nat) (s : State), Ready 8 3 q s.dev → m = fld q.area 1 1 → resvOk q.area [(0, 2)] = true → m < 240 → s.dev.reins = true →
    ((s.dev.authOf m).isSome = true ∨ s.dev.stopped m = false) →
    Answers .evict s fun t => ∃ y : Dev, t.dev = y.settle ∧ Completes q .refusedState s { s with dev := y } ∧ Frame reports [0x0B] [] s { s with dev := y })

/-- R284, R285, R302, R306-R308: MAP_LOAD writes the shadow map, MAP_COMMIT checks it and the fleet cycle brings it in force unless a changed segment is held; a failed map CRC takes the engines out of comparison;
segments are closed and opened; XFER carries a boundary segment out of the cell and in, and SET puts it right at L1. -/
def Obligations.MapAndBoundaries : Prop :=
  (∀ (q : Desc) (b : List Byte) (s : State), Ready 8 5 q s.dev → s.dev.rsv.commit = none → resvOk q.area [(0, 1), (2, 4), (8, 8)] = true → 1 ≤ fld q.area 4 2 → fld q.area 2 2 + fld q.area 4 2 ≤ 2048 → fld q.area 8 8 % 16 = 0 → s.dev.reins = true →
    Answers (.mapLoad (some b)) s fun t => (∀ i < fld q.area 4 2, mapEnt t.dev.rsv.shadow (fld q.area 2 2 + i) = fit 32 (b.drop (32 * i))) ∧
      (∀ k, k < fld q.area 2 2 ∨ fld q.area 2 2 + fld q.area 4 2 ≤ k → mapEnt t.dev.rsv.shadow k = mapEnt s.dev.rsv.shadow k) ∧ t.dev.rsv.map = s.dev.rsv.map ∧ Completes q .done s t ∧
      Frame ([.rsv] ++ reports) [0x0B] [] s t) ∧
  (∀ (q : Desc) (s : State), Ready 8 6 q s.dev → s.dev.rsv.commit = none → resvOk q.area [(0, 1), (4, 12)] = true → fld q.area 4 4 ≠ 0 → s.dev.reins = true →
    s.dev.mapBreak = none → s.dev.commitHeld = false →
    Answers .mapCommit s fun t => t.dev.rsv.commit = some (q, s.dev.now) ∧ t.dev.get R.RSV_STATUS_COMMIT_BUSY = 1 ∧ Frame [.ring, .rsv] [] [R.RSV_STATUS_COMMIT_BUSY] s t) ∧
  (∀ (q : Desc) (s : State), Ready 8 6 q s.dev → s.dev.rsv.commit = none → resvOk q.area [(0, 1), (4, 12)] = true → fld q.area 4 4 ≠ 0 → s.dev.reins = true →
    s.dev.mapBreak = none → s.dev.commitHeld = true →
    Answers .mapCommit s fun t => Out.hostWrite (fld q.area 8 8) (u16 0xFFFF) ∈ t.dev.out ∧ Completes q .refusedState s t ∧ Frame reports [0x0B] [] s t) ∧
  (∀ (q : Desc) (k : Nat) (s : State), Ready 8 6 q s.dev → s.dev.rsv.commit = none → resvOk q.area [(0, 1), (4, 12)] = true → fld q.area 4 4 ≠ 0 → s.dev.reins = true →
    s.dev.mapBreak = some k →
    Answers .mapCommit s fun t => Out.hostWrite (fld q.area 8 8) (u16 k) ∈ t.dev.out ∧ Completes q .badDescriptor s t ∧ Frame reports [0x0B] [] s t) ∧
  (∀ (q : Desc) (t0 : Nat) (s : State), s.dev.runs .safe = true → s.dev.timeGoes = true → s.dev.rsv.commit = some (q, t0) → Awaits q s.dev → s.dev.commitHeld = false →
    Answers .mapCommitApply s fun t => t.dev.rsv.commit = none ∧ t.dev.get R.RSV_STATUS_COMMIT_BUSY = 0 ∧ (t0 / fleetCycle + 1) * fleetCycle ≤ t.dev.clk.yard ∧
      t.dev.rsv.map = s.dev.rsv.shadow ∧ t.dev.get R.RSV_MAP_VER_VER = fld q.area 4 4 ∧ Out.hostWrite (fld q.area 8 8) (u16 0xFFFF) ∈ t.dev.out ∧ Completes q .done s t) ∧
  (∀ (q : Desc) (t0 : Nat) (s : State), s.dev.runs .safe = true → s.dev.timeGoes = true → s.dev.rsv.commit = some (q, t0) → Awaits q s.dev → s.dev.commitHeld = true →
    Answers .mapCommitApply s fun t => t.dev.rsv.commit = none ∧ t.dev.get R.RSV_STATUS_COMMIT_BUSY = 0 ∧ (t0 / fleetCycle + 1) * fleetCycle ≤ t.dev.clk.yard ∧ Completes q .refusedState s t ∧
      Frame ([.clk, .rsv] ++ reports) [0x0B] [R.RSV_STATUS_COMMIT_BUSY] s t) ∧
  (∀ s : State, s.dev.runs .safe = true → s.dev.on R.RSV_STATUS_COMPARE_OK = true →
    Answers (.mapCrcCheck false) s fun t => t.dev.get R.RSV_STATUS_COMPARE_OK = 0 ∧ t.dev.on R.RSV_ENG_MISMATCH = true ∧ t.dev.get R.RSV_ENG_CAUSE = 3 ∧
      Frame reports reportWs [R.RSV_STATUS_COMPARE_OK, R.RSV_ENG_MISMATCH, R.RSV_ENG_CAUSE] s t) ∧
  (∀ s : State, Answers (.mapCrcCheck true) s fun t => t = s) ∧
  (∀ (q : Desc) (s : State), Ready 8 4 q s.dev → closeOk q.area = true → fld q.area 1 1 = 0 → s.dev.reins = true →
    Answers .segmentClose s fun t => ∃ x y : Dev, y = x.parkedPass.complete q .done ∧ t.dev = y.settle ∧ Completes q .done s { s with dev := y } ∧
      x.segSt (fld q.area 2 2) = (if s.dev.holder (fld q.area 2 2) ≠ 0xFF then 4 else if s.dev.segSt (fld q.area 2 2) = 0 then 3 else s.dev.segSt (fld q.area 2 2)) ∧
      x.holder (fld q.area 2 2) = s.dev.holder (fld q.area 2 2) ∧ Frame [.ring] [] [R.RSV_SEG_STATE] s { s with dev := x }) ∧
  (∀ (q : Desc) (s : State), Ready 8 4 q s.dev → closeOk q.area = true → fld q.area 1 1 = 1 → s.dev.reins = true → s.dev.segSt (fld q.area 2 2) = 3 →
    Answers .segmentOpen s fun t => ∃ x y : Dev, y = x.parkedPass.complete q .done ∧ t.dev = y.settle ∧ Completes q .done s { s with dev := y } ∧ x.segSt (fld q.area 2 2) = 0 ∧
      Frame [.ring] [] [R.RSV_SEG_STATE] s { s with dev := x }) ∧
  (∀ (q : Desc) (s : State), Ready 8 4 q s.dev → closeOk q.area = true → fld q.area 1 1 = 1 → s.dev.reins = true → s.dev.segSt (fld q.area 2 2) = 4 →
    Answers .segmentOpen s fun t => ∃ x y : Dev, y = x.parkedPass.complete q .done ∧ t.dev = y.settle ∧ Completes q .done s { s with dev := y } ∧ 
      x.segSt (fld q.area 2 2) ∈ [1, 2, 6] ∧ Frame [.ring] [] [R.RSV_SEG_STATE] s { s with dev := x }) ∧
  (∀ (q : Desc) (s : State), Ready 8 4 q s.dev → closeOk q.area = true → fld q.area 1 1 = 1 → s.dev.reins = true →
    s.dev.segSt (fld q.area 2 2) ≠ 3 → s.dev.segSt (fld q.area 2 2) ≠ 4 →
    Answers .segmentOpen s fun t => ∃ y : Dev, t.dev = y.settle ∧ Completes q .refusedState s { s with dev := y } ∧ Frame reports [0x0B] [] s { s with dev := y }) ∧
  (∀ (q : Desc) (k : Nat) (s : State), Ready 8 7 q s.dev → xferOk q.area = true → fld q.area 1 1 = 0 → s.dev.reins = true → s.dev.bidSeg (fld q.area 2 2) = some k → k < 2048 →
    (s.dev.boundOf (fld q.area 2 2)).st = 0 → s.dev.copySafe s.dev.nextCopy = true → s.dev.holder k = 0xFF → s.dev.segSt k = 0 →
    Answers .xferOut s fun t => (t.dev.boundOf (fld q.area 2 2)).st = 1 ∧ (t.dev.boundOf (fld q.area 2 2)).seq = ((s.dev.boundOf (fld q.area 2 2)).seq + 1) % 65536 ∧
      Completes q .done s t ∧ Out.hostWrite (fld q.area 8 8) (s.dev.xferRec (fld q.area 2 2) k (((s.dev.boundOf (fld q.area 2 2)).seq + 1) % 65536) 0) ∈ t.dev.out) ∧
  (∀ (q : Desc) (k : Nat) (s : State), Ready 8 7 q s.dev → xferOk q.area = true → fld q.area 1 1 = 0 → s.dev.reins = true → s.dev.bidSeg (fld q.area 2 2) = some k → k < 2048 →
    (s.dev.boundOf (fld q.area 2 2)).st = 0 → s.dev.copySafe s.dev.nextCopy = true → s.dev.holder k ≠ 0xFF →
    ((tabGet s.dev.rsv.path (s.dev.holder k)).getLast?.map fun e => e.seg) = some k →
    Answers .xferOut s fun t => (t.dev.boundOf (fld q.area 2 2)).st = 2 ∧ t.dev.segSt k = (if s.dev.segSt k = 4 then 4 else 6) ∧ Completes q .done s t ∧
      Out.hostWrite (fld q.area 8 8) (s.dev.xferRec (fld q.area 2 2) k (((s.dev.boundOf (fld q.area 2 2)).seq + 1) % 65536) (s.dev.serialOf (s.dev.holder k))) ∈ t.dev.out) ∧
  (∀ (q : Desc) (k : Nat) (s : State), Ready 8 7 q s.dev → xferOk q.area = true → fld q.area 1 1 = 0 → s.dev.reins = true → s.dev.bidSeg (fld q.area 2 2) = some k → k < 2048 →
    (s.dev.boundOf (fld q.area 2 2)).st = 0 → s.dev.holder k = 0xFF → s.dev.segSt k ≠ 0 →
    Answers .xferOut s fun t => Completes q .refusedState s t ∧ Frame reports [0x0B] [] s t) ∧
  (∀ (q : Desc) (r : List Byte) (k : Nat) (s : State), Ready 8 7 q s.dev → xferOk q.area = true → fld q.area 1 1 = 1 → s.dev.reins = true → s.dev.bidSeg (fld q.area 2 2) = some k →
    (s.dev.boundOf (fld q.area 2 2)).st = 1 → fld (fit 16 r) 0 2 = fld q.area 2 2 → fld (fit 16 r) 4 2 = s.dev.get R.RAD_CELL_CFG_CELL →
    fld (fit 16 r) 6 2 = ((s.dev.boundOf (fld q.area 2 2)).seq + 1) % 65536 →
    (fld (fit 16 r) 8 8 = 0 ∨ (fld q.area 4 1 < 240 ∧ s.dev.admitted (fld q.area 4 1) = true ∧ s.dev.serialOf (fld q.area 4 1) = fld (fit 16 r) 8 8)) →
    Answers (.xferIn (some r)) s fun t => ∃ x y : Dev, y = x.parkedPass.complete q .done ∧ t.dev = y.settle ∧ Completes q .done s { s with dev := y } ∧
      x.boundOf (fld q.area 2 2) = { st := 0, seq := fld (fit 16 r) 6 2, taken := fit 16 r }) ∧
  (∀ (q : Desc) (k : Nat) (s : State), Ready 8 7 q s.dev → xferOk q.area = true → fld q.area 1 1 = 2 → s.dev.reins = true → s.dev.bidSeg (fld q.area 2 2) = some k → (s.dev.boundOf (fld q.area 2 2)).st = 2 →
    Answers .xferDone s fun t => ∃ x y : Dev, y = x.parkedPass.complete q .done ∧ t.dev = y.settle ∧ Completes q .done s { s with dev := y } ∧ (x.boundOf (fld q.area 2 2)).st = 1 ∧ x.holder k = 0xFF) ∧
  (∀ (q : Desc) (k : Nat) (s : State), Ready 8 7 q s.dev → xferOk q.area = true → fld q.area 1 1 = 3 → s.dev.reins = true → s.dev.bidSeg (fld q.area 2 2) = some k →
    s.dev.level = 1 → s.dev.holder k = 0xFF →
    Answers .xferSet s fun t => ∃ x y : Dev, y = x.parkedPass.complete q .done ∧ t.dev = y.settle ∧ Completes q .done s { s with dev := y } ∧ 
      (x.boundOf (fld q.area 2 2)).st = fld q.area 5 1 ∧ (x.boundOf (fld q.area 2 2)).seq = fld q.area 6 2) ∧
  (∀ (q : Desc) (k : Nat) (s : State), Ready 8 7 q s.dev → xferOk q.area = true → fld q.area 1 1 = 3 → s.dev.reins = true → s.dev.bidSeg (fld q.area 2 2) = some k →
    (s.dev.level ≠ 1 ∨ s.dev.holder k ≠ 0xFF) →
    Answers .xferSet s fun t => ∃ y : Dev, t.dev = y.settle ∧ Completes q .refusedState s { s with dev := y } ∧ Frame reports [0x0B] [] s { s with dev := y })

/-! ### Waybills -/

/-- R359, R361-R375, R380: WB_CREATE takes a well-formed waybill into a free index, and an operand's arrival, a route request, a tick and the dispatcher each carry it on. -/
def Obligations.WaybillsRun : Prop :=
  (∀ (q : Desc) (b : List Byte) (i : Nat) (s : State), Ready 0x0A 1 q s.dev → s.dev.wbFull = false → createOk q.area = true → argOk (fld q.area 2 1) (fit 32 b) = true → s.dev.reins = true → q.gate = true →
    s.dev.wb.store.find? (fun p => fld q.area 32 8 != 0 && p.2.user == fld q.area 32 8) = none →
    (∀ j < 4, (opOf q.area j).kind = 7 → (s.dev.depState ((opOf q.area j).key % 65536)).isSome = true) → i = (if s.dev.wb.used < 4096 then s.dev.wb.used else s.dev.wb.freed.headD 0) →
    Answers (.wbCreate (some b)) s fun t => ∃ y : Dev, t.dev = y.settle ∧ WbDone q s y ∧
      (∃ w, tabFind y.wb.store i = some w ∧ w.id % 4096 = i % 4096 ∧ w.rank = fld q.area 1 1 ∧ w.target = fld q.area 2 1 ∧ w.lot = fld q.area 4 2 ∧ w.user = fld q.area 32 8 ∧ w.arg = fit 32 b ∧
        w.tAccept = s.dev.tickNow ∧ w.ops.map (fun o => (o.kind, o.key)) = (List.range 4).map fun j => ((opOf q.area j).kind, (opOf q.area j).key))) ∧
  (∀ (m : Option (List Byte)) (s : State), s.dev.wbFull = true → Answers (.wbCreate m) s fun t => t = s) ∧
  (∀ (i j : Nat) (w : Waybill) (s : State), s.dev.runs .sup = true → (s.dev.wbList.findSome? fun p => if p.2.state = 1 then (p.2.ops.findIdx? fun o => o.kind == 2 && o.armed && o.req == 1 &&
      s.dev.sfn < o.sf0 + o.key / 65536).map fun j => (p.1, p.2, j) else none) = some (i, w, j) → s.dev.rsvRoom = true →
    Answers .wbRoutePlace s fun t => ∃ y : Dev, t.dev = y.settle ∧ y.rsv.queue.length = s.dev.rsv.queue.length + 1 ∧
      (y.rsv.queue.getLast?.map fun r => (r.wb, r.no)) = some (some i, s.dev.rsv.nextReq) ∧
      (tabFind y.wb.store i).map (fun w => ((w.ops.getD j {}).req, (w.ops.getD j {}).reqNo)) = some (2, s.dev.rsv.nextReq)) ∧
  (∀ s : State, s.dev.runs .sup = true → s.dev.rsvRoom = false → Answers .wbRoutePlace s fun t => t.dev = s.dev.settle) ∧
  (∀ (i : Nat) (w : Waybill) (s : State), s.dev.runs .sup = true → s.dev.dispRests = false → (List.range 8).findSome? (fun r => s.dev.rankPick (s.dev.rankList r) []) = some (i, w) →
    tabFind s.dev.wb.store i = some w → w.target = 0 →
    Answers .wbDispatch s fun t => ∃ y : Dev, t.dev = y.settle ∧ (tabFind y.wb.store i).bind (fun w => w.tDisp) = some s.dev.tickNow ∧ y.wbEnds i 0 0) ∧
  (∀ (i : Nat) (w : Waybill) (s : State), s.dev.runs .sup = true → s.dev.dispRests = false → (List.range 8).findSome? (fun r => s.dev.rankPick (s.dev.rankList r) []) = some (i, w) →
    tabFind s.dev.wb.store i = some w → w.target = 1 →
    Answers .wbDispatch s fun t => ∃ y : Dev, t.dev = y.settle ∧ (tabFind y.wb.store i).bind (fun w => w.tDisp) = some s.dev.tickNow ∧ 
      (tabFind y.wb.store i).map (fun w => (w.state, w.queued, w.tries)) = some (3, true, 0)) ∧
  (∀ (i : Nat) (w : Waybill) (s : State), s.dev.runs .sup = true → s.dev.dispRests = false → (List.range 8).findSome? (fun r => s.dev.rankPick (s.dev.rankList r) []) = some (i, w) →
    tabFind s.dev.wb.store i = some w → w.target = 2 → fld w.arg 0 1 < 16 → s.dev.moveRefusal (fld w.arg 0 1) 2 (sfld w.arg 4 4) = none →
    Answers .wbDispatch s fun t => ∃ y : Dev, t.dev = y.settle ∧ (tabFind y.wb.store i).bind (fun w => w.tDisp) = some s.dev.tickNow ∧ (y.axis (fld w.arg 0 1)).wb = some i ∧
      y.geti R.AXS_AX_TGT_TGT (fld w.arg 0 1) = sfld w.arg 4 4 ∧ (tabFind y.wb.store i).map (fun w => w.state) = some 3) ∧
  (∀ (i : Nat) (w : Waybill) (s : State), s.dev.runs .sup = true → s.dev.dispRests = false → (List.range 8).findSome? (fun r => s.dev.rankPick (s.dev.rankList r) []) = some (i, w) →
    tabFind s.dev.wb.store i = some w → w.target = 2 → s.dev.moveRefusal (fld w.arg 0 1) 2 (sfld w.arg 4 4) = some .refusedState →
    Answers .wbDispatch s fun t => ∃ y : Dev, t.dev = y.settle ∧ (tabFind y.wb.store i).bind (fun w => w.tDisp) = some s.dev.tickNow ∧ y.wbEnds i 2 10) ∧
  (∀ (i : Nat) (w : Waybill) (s : State), s.dev.runs .sup = true → s.dev.dispRests = false → (List.range 8).findSome? (fun r => s.dev.rankPick (s.dev.rankList r) []) = some (i, w) →
    tabFind s.dev.wb.store i = some w → 3 ≤ w.target →
    Answers .wbDispatch s fun t => ∃ y : Dev, t.dev = y.settle ∧ (tabFind y.wb.store i).bind (fun w => w.tDisp) = some s.dev.tickNow ∧ (tabFind y.wb.store i).map (fun w => w.state) = some 3) ∧
  (∀ (e : MEvt) (rest : List MEvt) (s : State), s.dev.runs .sup = true → s.dev.wb.fifo = e :: rest → s.dev.wb.matched = none → s.dev.on R.WB_CFG_EVT_EN = false → e.code < 0x8000 →
    Answers .machineEventTake s fun t => ∃ y : Dev, t.dev = y.settle ∧ y.wb.fifo = rest ∧
      (∀ i j w, tabFind s.dev.wb.store i = some w → j < w.ops.length → evtHits e w (w.ops.getD j {}) = true →
        (tabFind y.wb.store i).map (fun w => (w.ops.getD j {}).arrived) = some true)) ∧
  (∀ (e : MEvt) (rest : List MEvt) (i : Nat) (w : Waybill) (s : State), s.dev.runs .sup = true → s.dev.wb.fifo = e :: rest → s.dev.wb.matched = none → s.dev.on R.WB_CFG_EVT_EN = false → s.dev.wbFind (e.arg % 65536) = some (i, w) →
    w.state = 3 → w.target = 1 → w.machine = some e.m → e.code = 0x8001 →
    Answers .machineEventTake s fun t => ∃ y : Dev, t.dev = y.settle ∧ y.wb.fifo = rest ∧ (tabFind y.wb.store i).map (fun w => (w.taken, w.queued)) = some (true, false)) ∧
  (∀ (e : MEvt) (rest : List MEvt) (i : Nat) (w : Waybill) (s : State), s.dev.runs .sup = true → s.dev.wb.fifo = e :: rest → s.dev.wb.matched = none → s.dev.on R.WB_CFG_EVT_EN = false → s.dev.wbFind (e.arg % 65536) = some (i, w) →
    w.state = 3 → w.target = 1 → w.machine = some e.m → e.code = 0x8002 →
    Answers .machineEventTake s fun t => ∃ y : Dev, t.dev = y.settle ∧ y.wb.fifo = rest ∧ y.wbEnds i (if e.arg / 65536 = 0 then 0 else 1) 0) ∧
  (∀ (e : MEvt) (rest : List MEvt) (i : Nat) (w : Waybill) (s : State), s.dev.runs .sup = true → s.dev.wb.fifo = e :: rest → s.dev.wb.matched = none → s.dev.on R.WB_CFG_EVT_EN = false → s.dev.wbFind (e.arg % 65536) = some (i, w) →
    w.state = 3 → w.target = 1 → w.machine = some e.m → e.code = 0x8003 →
    Answers .machineEventTake s fun t => ∃ y : Dev, t.dev = y.settle ∧ y.wb.fifo = rest ∧ y.wbEnds i 2 (if w.cancel then 1 else 8)) ∧
  (∀ s : State, s.dev.runs .sup = true →
    Answers .wbTick s fun t => ∃ x y : Dev, t.dev = y.settle ∧ y = (x.settle.delayList.foldl (fun (d : Dev) (i : Nat) => d.limitJudge i (nextIdx s.dev.clk.mono ms s.dev.clk.tick)) x.settle) ∧
      x.get R.WB_TICK_TICK = nextIdx s.dev.clk.mono ms s.dev.clk.tick % 2 ^ 32 ∧ nextIdx s.dev.clk.mono ms s.dev.clk.tick * ms ≤ x.clk.mono ∧ x.clk.tick = nextIdx s.dev.clk.mono ms s.dev.clk.tick + 1 ∧
      (∀ i j w, tabFind s.dev.wb.store i = some w → w.state = 1 → j < w.ops.length → (w.ops.getD j {}).kind = 6 → (w.ops.getD j {}).armed = true →
        (w.ops.getD j {}).due ≤ nextIdx s.dev.clk.mono ms s.dev.clk.tick → (tabFind x.wb.store i).map (fun w => (w.ops.getD j {}).arrived) = some true)) ∧
  (∀ (i n j : Nat) (w : Waybill) (s : State), s.dev.runs .sup = true → tabFind s.dev.wb.store i = some w → w.delayDue = some n → j < w.ops.length → (w.ops.getD j {}).kind = 6 → (w.ops.getD j {}).armed = true → (w.ops.getD j {}).due = n →
    Answers (.wbDelayExpiry i) s fun t => ∃ y : Dev, t.dev = y.settle ∧ n * ms ≤ y.clk.mono ∧ (tabFind y.wb.store i).map (fun w => (w.ops.getD j {}).arrived) = some true)

/-- R376, R381-R387, R390-R393: how waybills end and their records leave, and the other descriptors: TOKEN, CANCEL, DONE and ROUTE_LOAD. -/
def Obligations.WaybillsEnd : Prop :=
  (∀ (i : Nat) (w : Waybill) (o : WbOp) (s : State), s.dev.runs .sup = true → tabFind s.dev.wb.store i = some w → w.state = 1 → w.ops.find? (fun o => o.kind == 2 && o.armed && !o.arrived) = some o →
    Answers (.wbBudgetExpiry i) s fun t => ∃ y : Dev, t.dev = y.settle ∧ y.wbEnds i 8 6 ∧ (o.sf0 + o.key / 65536) * superframe ≤ y.clk.yard) ∧
  (∀ (i : Nat) (w : Waybill) (s : State), s.dev.runs .sup = true → tabFind s.dev.wb.store i = some w → w.state = 3 → w.target = 1 → w.taken = false → w.queued = true → s.dev.get R.WB_CFG2_ORDER_TRIES ≤ w.tries →
    Answers (.orderUntakenTimeout i) s fun t => ∃ y : Dev, t.dev = y.settle ∧ y.wbEnds i 8 9 ∧ y.wb.cancels.length = s.dev.wb.cancels.length + 1) ∧
  (∀ (i n : Nat) (w : Waybill) (s : State), s.dev.runs .sup = true → tabFind s.dev.wb.store i = some w → w.waitDue = some n →
    Answers (.wbWaitLimit i) s fun t => ∃ y : Dev, t.dev = y.settle ∧ y.wbEnds i 8 3 ∧ n * ms ≤ y.clk.mono) ∧
  (∀ (i n : Nat) (w : Waybill) (s : State), s.dev.runs .sup = true → tabFind s.dev.wb.store i = some w → w.runDue = some n →
    Answers (.wbRunLimit i) s fun t => ∃ y : Dev, t.dev = y.settle ∧ y.wbEnds i 8 4 ∧ n * ms ≤ y.clk.mono) ∧
  (∀ (i : Nat) (rest : List Nat) (w : Waybill) (s : State), s.dev.runs .sup = true → s.dev.wb.ending = i :: rest → tabFind s.dev.wb.store i = some w → s.dev.copySafe w.copy = true →
    (s.dev.itemBp (s.dev.get R.WB_CFG_DONE_RING) 0x0A01 w.yEnd (wbRecord i w)).1 = true →
    Answers .wbRecordWrite s fun t => ∃ y : Dev, t.dev = y.settle ∧ y.wb.ending = rest ∧ tabFind y.wb.store i = none ∧ y.wb.freed = s.dev.wb.freed ++ [i]) ∧
  (∀ (i : Nat) (rest : List Nat) (w : Waybill) (s : State), s.dev.runs .sup = true → s.dev.wb.ending = i :: rest → tabFind s.dev.wb.store i = some w → s.dev.copySafe w.copy = true →
    (s.dev.itemBp (s.dev.get R.WB_CFG_DONE_RING) 0x0A01 w.yEnd (wbRecord i w)).1 = false →
    Answers .wbRecordWrite s fun t => ∃ y : Dev, t.dev = y.settle ∧ y.wb = s.dev.wb) ∧
  (∀ (q : Desc) (f : Nat) (s : State), Ready 0x0A 2 q s.dev → tokenOk q.area = true → fld q.area 1 1 = 0 → f = fld q.area 2 2 → s.dev.reins = true → q.gate = true →
    Answers .tokenSet s fun t => ∃ y : Dev, t.dev = y.settle ∧ y.bit R.WB_HOSTFLAG_FLAG (f % 32) (f / 32) = true ∧ WbDone q s y) ∧
  (∀ (q : Desc) (f : Nat) (s : State), Ready 0x0A 2 q s.dev → tokenOk q.area = true → fld q.area 1 1 = 1 → f = fld q.area 2 2 → s.dev.reins = true → q.gate = true →
    Answers .tokenClear s fun t => ∃ y : Dev, t.dev = y.settle ∧ y.bit R.WB_HOSTFLAG_FLAG (f % 32) (f / 32) = false ∧ WbDone q s y) ∧
  (∀ (q : Desc) (i : Nat) (w : Waybill) (s : State), Ready 0x0A 2 q s.dev → tokenOk q.area = true → fld q.area 1 1 = 2 → s.dev.reins = true → q.gate = true → s.dev.wbFind (fld q.area 4 2) = some (i, w) → w.state = 1 →
    fld q.area 6 1 < w.ops.length → (w.ops.getD (fld q.area 6 1) {}).kind = 5 → (w.ops.getD (fld q.area 6 1) {}).armed = true →
    Answers .tokenDeliver s fun t => ∃ y : Dev, t.dev = y.settle ∧ WbDone q s y ∧ (tabFind y.wb.store i).map (fun w => (w.ops.getD (fld q.area 6 1) {}).arrived) = some true) ∧
  (∀ (q : Desc) (i : Nat) (w : Waybill) (s : State), Ready 0x0A 2 q s.dev → tokenOk q.area = true → fld q.area 1 1 = 2 → s.dev.reins = true → q.gate = true → s.dev.wbFind (fld q.area 4 2) = some (i, w) → w.state = 1 →
    fld q.area 6 1 < w.ops.length → (w.ops.getD (fld q.area 6 1) {}).kind = 5 → (w.ops.getD (fld q.area 6 1) {}).armed = false →
    Answers .tokenDeliver s fun t => ∃ y : Dev, t.dev = y.settle ∧ WbDone q s y ∧ y.wb.store = s.dev.wb.store) ∧
  (∀ (q : Desc) (i : Nat) (w : Waybill) (s : State), Ready 0x0A 3 q s.dev → resvOk q.area [(0, 1), (2, 2)] = true → s.dev.reins = true → q.gate = true → s.dev.wbFind (fld q.area 2 2) = some (i, w) → (w.state = 1 ∨ w.state = 2) →
    Answers .wbCancel s fun t => ∃ y : Dev, t.dev = y.settle ∧ WbDone q s y ∧ y.wbEnds i 2 1) ∧
  (∀ (q : Desc) (i : Nat) (w : Waybill) (s : State), Ready 0x0A 3 q s.dev → resvOk q.area [(0, 1), (2, 2)] = true → s.dev.reins = true → q.gate = true → s.dev.wbFind (fld q.area 2 2) = some (i, w) → w.state = 3 → w.target = 1 →
    Answers .wbCancel s fun t => ∃ y : Dev, t.dev = y.settle ∧ WbDone q s y ∧ y.wb.cancels.length = s.dev.wb.cancels.length + 1 ∧
      (tabFind y.wb.store i).map (fun w => (w.state, w.cancel, w.queued)) = some (3, true, false)) ∧
  (∀ (q : Desc) (i : Nat) (w : Waybill) (s : State), Ready 0x0A 3 q s.dev → resvOk q.area [(0, 1), (2, 2)] = true → s.dev.reins = true → q.gate = true → s.dev.wbFind (fld q.area 2 2) = some (i, w) → w.state = 3 → w.target = 3 →
    Answers .wbCancel s fun t => ∃ y : Dev, t.dev = y.settle ∧ WbDone q s y ∧ y.wbEnds i 2 1) ∧
  (∀ (q : Desc) (i : Nat) (w : Waybill) (s : State), Ready 0x0A 4 q s.dev → resvOk q.area [(0, 1), (2, 3), (6, 2)] = true → fld q.area 4 1 < 3 → s.dev.reins = true → q.gate = true →
    s.dev.wbFind (fld q.area 2 2) = some (i, w) → w.state = 3 → w.target = 3 →
    Answers .wbDone s fun t => ∃ y : Dev, t.dev = y.settle ∧ y.wbEnds i (fld q.area 4 1) 0 ∧ WbDone q s y) ∧
  (∀ (q : Desc) (i : Nat) (w : Waybill) (s : State), Ready 0x0A 4 q s.dev → resvOk q.area [(0, 1), (2, 3), (6, 2)] = true → fld q.area 4 1 < 3 → s.dev.reins = true → q.gate = true →
    s.dev.wbFind (fld q.area 2 2) = some (i, w) → (w.state ≠ 3 ∨ w.target ≠ 3) →
    Answers .wbDone s fun t => ∃ y : Dev, t.dev = y.settle ∧ y.wb = s.dev.wb ∧ Completes q .refusedState s { s with dev := y }) ∧
  (∀ (q : Desc) (b : List Byte) (s : State), Ready 0x0A 5 q s.dev → resvOk q.area [(0, 1), (2, 4), (8, 8)] = true → 1 ≤ fld q.area 4 2 → fld q.area 2 2 + fld q.area 4 2 ≤ 512 → fld q.area 8 8 % 16 = 0 →
    ((List.range (fld q.area 4 2)).all fun k => templateOk (fit 72 (b.drop (72 * k)))) = true → s.dev.reins = true → q.gate = true →
    Answers (.routeLoad (some b)) s fun t => ∃ y : Dev, t.dev = y.settle ∧ WbDone q s y ∧ (∀ k < fld q.area 4 2, tabFind y.wb.templates (fld q.area 2 2 + k) = some (fit 72 (b.drop (72 * k)))) ∧
      (∀ k, k < fld q.area 2 2 ∨ fld q.area 2 2 + fld q.area 4 2 ≤ k → tabFind y.wb.templates k = tabFind s.dev.wb.templates k)) ∧
  (∀ (m i : Nat) (w : Waybill) (v : Word32) (s : State), s.dev.writable R.WB_MACH_DISABLE = true → m < 240 → bitOf v.toNat 25 = true → s.dev.boundWb m = some (i, w) → tabFind s.dev.wb.store i = some w →
    Answers (.wbMachDisableWrite m v) s fun t => ∃ y : Dev, t.dev = y.settle ∧ y.get R.WB_MACH_DISABLE m = 1 ∧ y.wbEnds i 2 7 ∧ y.get R.WB_MACH_BOUND m = 0xFFFF) ∧
  (∀ (v : Word32) (s : State), s.dev.writable R.WB_PEEK_IDX_INDEX = true →
    Answers (.wbPeek v) s fun t => t.dev.get R.WB_PEEK_IDX_INDEX = v.toNat % 4096 ∧ (∀ n < 16, t.dev.get R.WB_PEEK_DATA_DATA n = fld (s.dev.wbEntry (v.toNat % 4096)) (4 * n) 4) ∧
      Frame [] [] [R.WB_PEEK_IDX_INDEX, R.WB_PEEK_DATA_DATA] s t) ∧
  (∀ (i lost : Nat) (w : Waybill) (s : State), s.dev.runs .sup = true → tabFind s.dev.wb.store i = some w → w.state ≠ 4 →
    Answers (.wbEccError i lost) s fun t => ∃ y : Dev, t.dev = y.settle ∧ y.wbEnds i 10 11 ∧ (tabFind y.wb.store i).map (fun w => w.lostWords) = some lost) ∧
  (∀ (v : Word32) (s : State), s.dev.writable R.WB_CTRL_EN = true → bitOf v.toNat 0 = false → s.dev.on R.WB_CTRL_EN = true →
    Answers (.wbDisable v) s fun t => ∃ y : Dev, t.dev = y.settle ∧ y.get R.WB_CTRL_EN = 0 ∧ (∀ i w, tabFind y.wb.store i = some w → w.state = 4) ∧
      (∀ i w, tabFind s.dev.wb.store i = some w → w.state ≠ 4 → y.wbEnds i 2 2))

/-! ### The rings -/

/-- R410, R412, R416, R430, R433, R435, R439: doorbells move the host's counts, or are ignored with DB_BAD; a ring is enabled with both counts 0, disabled and flushed as its kind
requires. -/
def Obligations.RingSetUp : Prop :=
  (∀ (r : Nat) (v : Word32) (s : State), r < 32 → s.dev.runs .pcie = true → s.dev.ringsHeld = false → s.dev.on R.RING_CTRL_EN r = true → s.dev.get R.RING_CFG_KIND r = 0 →
    (v.toNat + 2 ^ 32 - s.dev.get R.RING_PROD_P r) % 2 ^ 32 < 2 ^ 31 → (v.toNat + 2 ^ 32 - s.dev.get R.RING_CONS_C r) % 2 ^ 32 ≤ s.dev.ringSize r →
    Answers (.ringDoorbell r v) s fun t => t.dev.get R.RING_PROD_P r = v.toNat ∧ (∀ k < 32, k ≠ r → t.dev.get R.RING_PROD_P k = s.dev.get R.RING_PROD_P k) ∧ Frame [] [] [R.RING_PROD_P] s t) ∧
  (∀ (r : Nat) (v : Word32) (s : State), r < 32 → s.dev.runs .pcie = true → s.dev.ringsHeld = false → s.dev.on R.RING_CTRL_EN r = true → s.dev.get R.RING_CFG_KIND r ≠ 0 →
    (v.toNat + 2 ^ 32 - s.dev.get R.RING_CONS_C r) % 2 ^ 32 < 2 ^ 31 → (v.toNat + 2 ^ 32 - s.dev.get R.RING_CONS_C r) % 2 ^ 32 ≤ s.dev.ringFill r →
    Answers (.ringDoorbell r v) s fun t => t.dev.get R.RING_CONS_C r = v.toNat ∧ t.dev.get R.RING_STATUS_FULL r = 0 ∧ (∀ k < 32, k ≠ r → t.dev.get R.RING_CONS_C k = s.dev.get R.RING_CONS_C k) ∧
      Frame [.ring, .out] [] [R.RING_CONS_C, R.RING_STATUS_FULL] s t) ∧
  (∀ (r : Nat) (v : Word32) (s : State), r < 32 → s.dev.runs .pcie = true → s.dev.ringsHeld = false → s.dev.dbCause r v.toNat ≠ 0 →
    Answers (.ringDoorbell r v) s fun t => t.dev.get R.RING_ERR_DB_BAD r = 1 ∧ t.dev.get R.RING_CONS_C r = s.dev.get R.RING_CONS_C r ∧ Frame reports reportWs [] s t) ∧
  (∀ (r : Nat) (v : Word32) (s : State), r < 32 → s.dev.runs .pcie = true → s.dev.ringsHeld = false → s.dev.dbCause r v.toNat ≠ 0 → s.dev.get R.RING_CFG_KIND r = 0 →
    Answers (.ringDoorbell r v) s fun t => t.dev.get R.RING_PROD_P r = s.dev.get R.RING_PROD_P r) ∧
  (∀ (r : Nat) (v : Word32) (s : State), s.dev.runs .pcie = true → s.dev.ringsHeld = true →
    Answers (.ringDoorbell r v) s fun t => t.dev.ring.heldDb = s.dev.ring.heldDb ++ [(r, v.toNat)] ∧ Frame [.ring] [] [] s t) ∧
  (∀ (r : Nat) (v : Word32) (s : State), r < 32 → s.dev.writable R.RING_CTRL_EN = true → bitOf v.toNat 0 = true → s.dev.on R.RING_CTRL_EN r = false →
    (s.dev.get R.RING_CFG_KIND r = 0 → s.dev.on R.RING_CTRL_EN (s.dev.get R.RING_CFG_COMPL r) = true ∧ s.dev.get R.RING_CFG_KIND (s.dev.get R.RING_CFG_COMPL r) = 1) →
    Answers (.ringEnable r v) s fun t => t.dev.get R.RING_CTRL_EN r = 1 ∧ t.dev.get R.RING_PROD_P r = 0 ∧ t.dev.get R.RING_CONS_C r = 0 ∧ t.dev.get R.RING_STATUS_STATE r = 1 ∧
      (s.dev.get R.RING_CFG_KIND r ≠ 0 → t.dev.get R.RING_STATUS_FULL r = 0) ∧
      Frame [.ring] [] [R.RING_CTRL_EN, R.RING_PROD_P, R.RING_CONS_C, R.RING_STATUS_STATE, R.RING_DROP_ITEMS, R.RING_STATUS_FULL] s t) ∧
  (∀ (r c : Nat) (v : Word32) (s : State), r < 32 → s.dev.writable R.RING_CTRL_EN = true → bitOf v.toNat 0 = true → s.dev.on R.RING_CTRL_EN r = false → s.dev.get R.RING_CFG_KIND r = 0 → c = s.dev.get R.RING_CFG_COMPL r →
    (s.dev.on R.RING_CTRL_EN c = false ∨ s.dev.get R.RING_CFG_KIND c ≠ 1) →
    Answers (.ringEnable r v) s fun t => t.dev.get R.RING_CTRL_EN r = 0 ∧ t.dev.get R.RING_ERR_REFUSED r = 1 ∧ Frame [.out] [] [R.RING_ERR_REFUSED, R.RING_DEV_IRQ_BLOCK] s t) ∧
  (∀ (r : Nat) (v : Word32) (s : State), r < 32 → s.dev.writable R.RING_CTRL_EN = true → bitOf v.toNat 0 = false → s.dev.on R.RING_CTRL_EN r = true → s.dev.get R.RING_CFG_KIND r = 0 → s.dev.ringsHeld = false →
    Answers (.ringDisable r v) s fun t => t.dev.get R.RING_CTRL_EN r = 0 ∧ (∀ q ∈ s.dev.ring.live, q.ring = r → s.dev.carriedOut q = false → t.dev.isLive q = false) ∧
      t.dev.get R.RING_STATUS_STATE r = (if t.dev.ring.live.any fun q => q.ring == r then 2 else 0)) ∧
  (∀ (r : Nat) (v : Word32) (s : State), r < 32 → s.dev.writable R.RING_CTRL_EN = true → bitOf v.toNat 0 = false → s.dev.on R.RING_CTRL_EN r = true → s.dev.get R.RING_CFG_KIND r = 1 →
    ((s.dev.ring.live.any fun q => q.compl == r) = true ∨ ∃ k < 32, s.dev.on R.RING_CTRL_EN k = true ∧ s.dev.get R.RING_CFG_KIND k = 0 ∧ s.dev.get R.RING_CFG_COMPL k = r) →
    Answers (.ringDisable r v) s fun t => t.dev.get R.RING_CTRL_EN r = 1 ∧ t.dev.get R.RING_ERR_REFUSED r = 1 ∧ Frame [.out] [] [R.RING_ERR_REFUSED, R.RING_DEV_IRQ_BLOCK] s t) ∧
  (∀ (r : Nat) (v : Word32) (s : State), r < 32 → s.dev.writable R.RING_CTRL_EN = true → bitOf v.toNat 0 = false → s.dev.on R.RING_CTRL_EN r = true → 2 ≤ s.dev.get R.RING_CFG_KIND r →
    Answers (.ringDisable r v) s fun t => t.dev.get R.RING_CTRL_EN r = 0 ∧ t.dev.get R.RING_STATUS_STATE r = 0 ∧ Frame [] [] [R.RING_CTRL_EN, R.RING_STATUS_STATE] s t) ∧
  (∀ (r : Nat) (v : Word32) (s : State), r < 32 → s.dev.writable R.RING_CTRL_EN = true → bitOf v.toNat 1 = true → bitOf v.toNat 0 = true → s.dev.get R.RING_CFG_KIND r = 0 → s.dev.ringsHeld = false →
    (∀ x ∈ s.dev.ring.heldDb, x.1 ≠ r) →
    Answers (.ringFlush r v) s fun t => t.dev.get R.RING_CONS_C r = s.dev.get R.RING_PROD_P r ∧ t.dev.get R.RING_FLUSHED_ENTRIES r = s.dev.ringFill r ∧
      (∀ q ∈ s.dev.ring.live, q.ring = r → s.dev.carriedOut q = false → t.dev.isLive q = false)) ∧
  (∀ (r : Nat) (v : Word32) (s : State), r < 32 → s.dev.writable R.RING_CTRL_EN = true → bitOf v.toNat 1 = true → bitOf v.toNat 0 = true → s.dev.get R.RING_CFG_KIND r = 1 → (s.dev.ring.live.any fun q => q.compl == r) = true →
    s.dev.ring.heldDb = [] →
    Answers (.ringFlush r v) s fun t => t.dev.get R.RING_ERR_REFUSED r = 1 ∧ Frame [.out] [] [R.RING_ERR_REFUSED, R.RING_DEV_IRQ_BLOCK] s t) ∧
  (∀ (r : Nat) (v : Word32) (s : State), r < 32 → s.dev.writable R.RING_CTRL_EN = true → bitOf v.toNat 1 = true → bitOf v.toNat 0 = true → s.dev.get R.RING_CFG_KIND r = 1 → (s.dev.ring.live.any fun q => q.compl == r) = false →
    (∀ x ∈ s.dev.ring.heldDb, x.1 ≠ r) →
    Answers (.ringFlush r v) s fun t => t.dev.get R.RING_CONS_C r = s.dev.get R.RING_PROD_P r ∧ t.dev.get R.RING_FLUSHED_ENTRIES r = s.dev.ringFill r ∧ Frame reports reportWs [] s t) ∧
  (∀ (r : Nat) (v : Word32) (s : State), r < 32 → s.dev.writable R.RING_CTRL_EN = true → bitOf v.toNat 1 = true → bitOf v.toNat 0 = true → 2 ≤ s.dev.get R.RING_CFG_KIND r →
    (∀ x ∈ s.dev.ring.heldDb, x.1 ≠ r) →
    Answers (.ringFlush r v) s fun t => t.dev.get R.RING_CONS_C r = s.dev.get R.RING_PROD_P r ∧ t.dev.get R.RING_FLUSHED_ENTRIES r = s.dev.ringFill r ∧ Frame reports reportWs [] s t) ∧
  (∀ (r : Nat) (v : Word32) (s : State), r < 32 → s.dev.writable R.RING_CTRL_EN = true → bitOf v.toNat 1 = true → bitOf v.toNat 0 = true → 2 ≤ s.dev.get R.RING_CFG_KIND r →
    (∀ x ∈ s.dev.ring.heldDb, x.1 ≠ r) → s.dev.on R.EVT_CFG_STREAM_EN = false →
    Answers (.ringFlush r v) s fun t => (t.dev.get R.RING_DROP_ITEMS r = min (s.dev.get R.RING_DROP_ITEMS r +
        (((tabGet s.dev.ring.items r).filter (itemUntaken (s.dev.get R.RING_CONS_C r))).map fun x => x.items).sum) (2 ^ 32 - 1)))

/-- R413, R417, R418, R423, R431-R433: descriptors are fetched up to 8, as far as completions can be reserved, and handed on in ring order; a GAP item goes when it fits; the ring's vector
is raised TIMER µs after the first entry; failed reads and staging errors end as the rules say. -/
def Obligations.RingTraffic : Prop :=
  (∀ (r n : Nat) (descs : List (List Byte)) (s : State), s.dev.fetchTurn = some r → n = min (s.dev.burst r) descs.length →
    Answers (.descriptorFetch r descs) s fun t => t.dev.get R.RING_CONS_C r = (s.dev.get R.RING_CONS_C r + n) % 2 ^ 32 ∧
      (tabGet t.dev.ring.staged r).map (fun q => q.bytes) = (tabGet s.dev.ring.staged r).map (fun q => q.bytes) ++ (descs.take n).map (fit 64) ∧
      t.dev.ring.live.length = s.dev.ring.live.length + n ∧ Frame [.ring] [] [R.RING_CONS_C, R.RING_STATUS_STAGED, R.RING_STATUS_RESERVED, R.RING_STATUS_FULL] s t) ∧
  (∀ (r : Nat) (descs : List (List Byte)) (s : State), s.dev.fetchTurn ≠ some r → Answers (.descriptorFetch r descs) s fun t => t = s) ∧
  (∀ (r : Nat) (q : Desc) (rest : List Desc) (s : State), tabGet s.dev.ring.staged r = q :: rest → s.dev.ringsHeld = false →
    (bitOf q.flags 1 && s.dev.ring.live.any fun x => x.ring == r && x.no < q.no) = false → headerOk q = true → s.dev.blockFull q = false →
    Answers (.descriptorDispatch r) s fun t => t.dev.ring.handed = s.dev.ring.handed ++ [q] ∧ tabGet t.dev.ring.staged r = rest ∧ Frame [.ring] [] [R.RING_STATUS_STAGED] s t) ∧
  (∀ (r : Nat) (q : Desc) (rest : List Desc) (s : State), tabGet s.dev.ring.staged r = q :: rest → Awaits q s.dev →
    (bitOf q.flags 1 && s.dev.ring.live.any fun x => x.ring == r && x.no < q.no) = false → headerOk q = false →
    Answers (.descriptorDispatch r) s fun t => Completes q .badDescriptor s t ∧ t.dev.ring.handed = s.dev.ring.handed ∧ tabGet t.dev.ring.staged r = rest) ∧
  (∀ (r : Nat) (q : Desc) (rest : List Desc) (s : State), tabGet s.dev.ring.staged r = q :: rest →
    (bitOf q.flags 1 && s.dev.ring.live.any fun x => x.ring == r && x.no < q.no) = true ∨ (headerOk q = true ∧ s.dev.blockFull q = true) → Answers (.descriptorDispatch r) s fun t => t = s) ∧
  (∀ (src : Nat) (g : Gap) (s : State), tabFind s.dev.ring.gaps src = some g → s.dev.itemFits g.ring 1 = true →
    Answers (.gapItemWrite src) s fun t => tabFind t.dev.ring.gaps src = none ∧
      (∃ k b, Out.entry g.ring k b ∈ t.dev.out.drop s.dev.out.length ∧ fld b 0 2 = src % 2 ^ 16 ∧ fld b 4 3 = g.seq % 2 ^ 24 ∧ bitOf (fld b 7 1) 1 = true ∧ fld b 16 4 = min g.count (2 ^ 32 - 1))) ∧
  (∀ (src : Nat) (g : Gap) (s : State), tabFind s.dev.ring.gaps src = some g → s.dev.itemFits g.ring 1 = false → Answers (.gapItemWrite src) s fun t => t = s) ∧
  (∀ (r t0 : Nat) (s : State), s.dev.runs .sup = true → (tabGet s.dev.ring.irq r).first = some t0 → (tabGet s.dev.ring.irq r).waitDb = false → s.dev.get R.RING_IRQ_CFG_TIMER r ≠ 0 →
    Answers (.ringIrqTimer r) s fun t => t.dev.out = s.dev.out ++ [.msix r] ∧ t0 + s.dev.get R.RING_IRQ_CFG_TIMER r * 1000 ≤ t.dev.clk.mono ∧ (tabGet t.dev.ring.irq r).waitDb = true ∧
      Frame [.clk, .ring, .out] [] [] s t) ∧
  (∀ (r : Nat) (s : State), s.dev.burst r ≠ 0 →
    Answers (.descriptorReadFail r) s fun t => t.dev.get R.RING_STATUS_STATE r = 3 ∧ t.dev.get R.RING_ERR_DMA r = 1 ∧ Frame reports reportWs [] s t) ∧
  (∀ (r : Nat) (s : State), r < 32 → s.dev.runs .sup = true → Answers (.ringStagingEcc r .corrected) s fun t =>
    t.dev.get R.RING_ECC_CORRECTED r = min (s.dev.get R.RING_ECC_CORRECTED r + 1) (2 ^ 16 - 1) ∧ Frame [] [] [R.RING_ECC_CORRECTED] s t) ∧
  (∀ (r n : Nat) (q : Desc) (s : State), r < 32 → (tabGet s.dev.ring.staged r)[n]? = some q → Awaits q s.dev →
    Answers (.ringStagingEcc r (.desc n)) s fun t => Completes q .eccUncorrectable s t ∧ q ∉ tabGet t.dev.ring.staged r ∧ t.dev.get R.RING_ERR_ECC_UNC r = 1) ∧
  (∀ (r : Nat) (q : Desc) (s : State), r < 32 → s.dev.ring.live.find? (fun x => x.no == q.no) = some q → Awaits q s.dev →
    Answers (.ringStagingEcc r (.compl q.no)) s fun t => Completes q .eccUncorrectable s t ∧ t.dev.get R.RING_ERR_ECC_UNC r = 1) ∧
  (∀ (r src : Nat) (s : State), r < 32 → s.dev.runs .sup = true → Answers (.ringStagingEcc r (.telemetry src)) s fun t =>
    (tabFind t.dev.ring.gaps src).map (fun g => g.tLast) = some s.dev.now ∧ t.dev.get R.RING_ERR_ECC_UNC r = 1 ∧ Frame reports reportWs [] s t) ∧
  (∀ (r src : Nat) (s : State), r < 32 → s.dev.runs .sup = true → Answers (.ringStagingEcc r (.backPressured src)) s fun t => t.dev.get R.RING_ERR_ECC_UNC r = 1 ∧
    t.dev.get R.RING_ECC_UNCORR r = min (s.dev.get R.RING_ECC_UNCORR r + 1) (2 ^ 8 - 1) ∧ Frame reports reportWs [] s t)

/-- R436, R437: a lost link disables every ring, completes what is not carried out inside the device, saves the journal and stops all writing to the host; after 1 s back-pressured items are
dropped; the PCIe reset returns the RING window to its reset values; the link comes up again. -/
def Obligations.LinkComesAndGoes : Prop :=
  (∀ (c : LinkCause) (s : State), s.dev.linkUp = true →
    Answers (.linkLoss c) s fun t => t.dev.linkUp = false ∧ (∀ r < 32, t.dev.get R.RING_CTRL_EN r = 0) ∧ t.dev.get R.RING_LINK_LOST_JOURNAL = s.dev.get R.RING_JOURNAL_JOURNAL ∧
      t.dev.ring.lostAt = some s.dev.clk.mono ∧ (∀ x ∈ t.dev.out.drop s.dev.out.length, ∀ r k b, x ≠ .entry r k b)) ∧
  (∀ (c : LinkCause) (q : Desc) (s : State), s.dev.linkUp = true → s.dev.ringsHeld = false → q ∈ s.dev.ring.live → s.dev.carriedOut q = false →
    Answers (.linkLoss c) s fun t => t.dev.isLive q = false) ∧
  (∀ (c : LinkCause) (s : State), s.dev.linkUp = true → c ≠ .busMasterCleared →
    Answers (.linkLoss c) s fun t => t.dev.get R.RING_GLB_STATUS_LINK_UP = 0 ∧ t.dev.get R.RING_GLB_STATUS_SPEED = 0 ∧ t.dev.get R.RING_GLB_STATUS_WIDTH = 0) ∧
  (∀ (c : LinkCause) (s : State), s.dev.linkUp = false → Answers (.linkLoss c) s fun t => t = s) ∧
  (∀ (t0 : Nat) (s : State), s.dev.ring.lostAt = some t0 →
    Answers .linkLossDropTimeout s fun t => t.dev.ring.dropping = true ∧ t0 + second ≤ t.dev.clk.mono ∧ Frame [.clk, .ring] [] [] s t) ∧
  (∀ s : State, s.dev.powered = true → Answers .pcieReset s fun t =>
    (∀ f ∈ regMap, f.block = 0x0B → f.store = .vol → f ≠ R.RING_JOURNAL_JOURNAL → f ≠ R.RING_DEV_IRQ_BLOCK → ∀ i < f.n1, ∀ j < f.n2, t.dev.get f i j = f.reset i j % 2 ^ f.width) ∧
    t.dev.get R.RING_JOURNAL_JOURNAL = s.dev.get R.RING_JOURNAL_JOURNAL ∧ t.dev.linkUp = false) ∧
  (∀ s : State, s.dev.powered = true → s.dev.linkUp = false → Answers .pcieReset s fun t =>
    ((∀ f ∈ regMap, f.block ≠ 0x0B → ∀ i < f.n1, ∀ j < f.n2, t.dev.get f i j = s.dev.get f i j) ∧ t.dev.without [.ring] = s.dev.without [.ring])) ∧
  (∀ (speed width : Nat) (s : State), s.dev.runs .pcie = true → 1 ≤ speed → speed ≤ 3 → 1 ≤ width → width ≤ 2 →
    Answers (.linkUp speed width) s fun t => t.dev.get R.RING_GLB_STATUS_LINK_UP = 1 ∧ t.dev.get R.RING_GLB_STATUS_SPEED = speed ∧ t.dev.get R.RING_GLB_STATUS_WIDTH = width ∧
      t.dev.ring.busMaster = true ∧ t.dev.ring.lostAt = none ∧ t.dev.ring.dropping = false ∧ t.dev.ring.wake = false ∧ Frame reports reportWs [] s t)

/-! ### Firmware images -/

/-- R583, R584, R586-R588: a transfer is opened over an erased staging area and closed; IMG_LOAD programs pieces and sets their bits; IMG_SEND queues pieces for the air; a PIECE frame
that passes the checks programs its fragment (what a second programming with other bytes leaves is free, log entry 61). -/
def Obligations.ImageTransfers : Prop :=
  (∀ (q : Desc) (s : State), Ready 0x10 1 q s.dev → s.dev.runs .nvm = true → s.dev.img.erasing = none → resvOk q.area [(0, 7), (8, 4)] = true → fld q.area 1 1 < 5 → fld q.area 2 2 ≠ 0 → 1 ≤ fld q.area 4 2 →
    fld q.area 4 2 ≤ 4096 → (fld q.area 6 1 = 0 ∨ (fld q.area 6 1 = 1 ∧ fld q.area 8 2 < 512 ∧ fld q.area 10 1 < 4 ∧ fld q.area 11 1 < 4)) → s.dev.on R.IMG_XFER_OPEN = false →
    Answers .imgOpen s fun t => t.dev.get R.IMG_XFER_OPEN = 1 ∧ t.dev.get R.IMG_XFER_SOURCE = fld q.area 6 1 ∧ t.dev.get R.IMG_XFER_PART = fld q.area 1 1 ∧
      t.dev.get R.IMG_XFER_XFER = fld q.area 2 2 ∧ t.dev.get R.IMG_XFER_CNT_PIECES = fld q.area 4 2 ∧ t.dev.get R.IMG_XFER_CNT_RECEIVED = 0 ∧ t.dev.get R.IMG_XFER_COMPLETE = 0 ∧
      (∀ w < 128, t.dev.get R.IMG_BITMAP_PIECE w = 0) ∧ t.dev.img.stage = [] ∧ t.dev.img.erasing = some q ∧ Frame (.img :: reports) (0x10 :: reportWs) [] s t) ∧
  (∀ (q : Desc) (s : State), Ready 0x10 1 q s.dev → s.dev.runs .nvm = true → s.dev.img.erasing = none → resvOk q.area [(0, 7), (8, 4)] = true → fld q.area 1 1 < 5 → fld q.area 2 2 ≠ 0 → 1 ≤ fld q.area 4 2 →
    fld q.area 4 2 ≤ 4096 → fld q.area 6 1 = 1 → fld q.area 8 2 < 512 → fld q.area 10 1 < 4 → fld q.area 11 1 < 4 → s.dev.on R.IMG_XFER_OPEN = false →
    Answers .imgOpen s fun t => t.dev.get R.IMG_RX_CFG_SRC_CELL = fld q.area 8 2 ∧ t.dev.get R.IMG_RX_CFG_SRC_CH = fld q.area 10 1 ∧ t.dev.get R.IMG_RX_CFG_SRC_CODE = fld q.area 11 1) ∧
  (∀ (q : Desc) (s : State), Ready 0x10 1 q s.dev → s.dev.runs .nvm = true → s.dev.img.erasing = none → resvOk q.area [(0, 7), (8, 4)] = true → fld q.area 1 1 < 5 → fld q.area 2 2 ≠ 0 → 1 ≤ fld q.area 4 2 →
    fld q.area 4 2 ≤ 4096 → (fld q.area 6 1 = 0 ∨ (fld q.area 6 1 = 1 ∧ fld q.area 8 2 < 512 ∧ fld q.area 10 1 < 4 ∧ fld q.area 11 1 < 4)) → s.dev.on R.IMG_XFER_OPEN = true →
    Answers .imgOpen s fun t => Completes q (if s.dev.get R.IMG_XFER_XFER = fld q.area 2 2 ∧ s.dev.get R.IMG_XFER_PART = fld q.area 1 1 ∧ s.dev.get R.IMG_XFER_CNT_PIECES = fld q.area 4 2 then .done
      else .refusedState) s t ∧ t.dev.img = s.dev.img) ∧
  (∀ (q : Desc) (s : State), s.dev.runs .nvm = true → s.dev.img.erasing = some q → Awaits q s.dev → Answers .imgEraseDone s fun t => t.dev.img.erasing = none ∧ Completes q .done s t) ∧
  (∀ (q : Desc) (s : State), Ready 0x10 2 q s.dev → s.dev.img.erasing = none → resvOk q.area [(0, 1), (2, 2)] = true → fld q.area 2 2 ≠ 0 → s.dev.on R.IMG_XFER_OPEN = true →
    s.dev.get R.IMG_XFER_XFER = fld q.area 2 2 →
    Answers .imgClose s fun t => Completes q .done s t ∧ t.dev.get R.IMG_XFER_OPEN = 0 ∧ t.dev.get R.IMG_XFER_CNT_PIECES = 0 ∧ t.dev.get R.IMG_XFER_CNT_RECEIVED = 0 ∧
      t.dev.get R.IMG_XFER_COMPLETE = 0 ∧ (∀ w < 128, t.dev.get R.IMG_BITMAP_PIECE w = 0)) ∧
  (∀ (q : Desc) (b : List Byte) (s : State), Ready 0x10 3 q s.dev → s.dev.runs .nvm = true → s.dev.img.erasing = none → resvOk q.area [(0, 1), (2, 6), (8, 8)] = true → fld q.area 2 2 ≠ 0 →
    fld q.area 8 8 % 16 = 0 → s.dev.on R.IMG_XFER_OPEN = true → s.dev.get R.IMG_XFER_XFER = fld q.area 2 2 → s.dev.on R.IMG_XFER_SOURCE = false →
    fld q.area 4 2 + fld q.area 6 2 ≤ s.dev.get R.IMG_XFER_CNT_PIECES → s.dev.get R.IMG_XFER_CNT_PIECES ≤ 4096 →
    Answers (.imgLoad (some b)) s fun t => Completes q .done s t ∧ (∀ k < fld q.area 6 2, t.dev.hasPiece (fld q.area 4 2 + k) = true ∧
      t.dev.piece (fld q.area 4 2 + k) = program (s.dev.piece (fld q.area 4 2 + k)) (fit 1024 (b.drop (1024 * k)))) ∧
      (∀ i, i < fld q.area 4 2 ∨ fld q.area 4 2 + fld q.area 6 2 ≤ i → t.dev.piece i = s.dev.piece i)) ∧
  (∀ (q : Desc) (m : Option (List Byte)) (s : State), Ready 0x10 4 q s.dev → s.dev.runs .nvm = true → resvOk q.area [(0, 1), (2, 7), (16, 8)] = true → fld q.area 2 2 ≠ 0 → fld q.area 8 1 = 1 →
    fld q.area 16 8 % 16 = 0 → s.dev.on R.IMG_XFER_OPEN = true → s.dev.get R.IMG_XFER_XFER = fld q.area 2 2 → fld q.area 4 2 + fld q.area 6 2 ≤ s.dev.get R.IMG_XFER_CNT_PIECES →
    1 ≤ fld q.area 6 2 → s.dev.reins = true →
    Answers (.imgSend m) s fun t => t.dev.rad = { s.dev.rad with sends := s.dev.rad.sends ++ [{ desc := q, xfer := fld q.area 2 2, pieces := (List.range (fld q.area 6 2)).map fun k => (fld q.area 4 2 + k, s.dev.piece (fld q.area 4 2 + k)) }] } ∧ Frame [.ring, .rad] [] [] s t) ∧
  (∀ (q : Desc) (b : List Byte) (s : State), Ready 0x10 4 q s.dev → resvOk q.area [(0, 1), (2, 7), (16, 8)] = true → fld q.area 2 2 ≠ 0 → fld q.area 8 1 = 0 → fld q.area 16 8 % 16 = 0 →
    fld q.area 4 2 + fld q.area 6 2 ≤ 4096 → 1 ≤ fld q.area 6 2 → s.dev.reins = true →
    Answers (.imgSend (some b)) s fun t => t.dev.rad = { s.dev.rad with sends := s.dev.rad.sends ++ [{ desc := q, xfer := fld q.area 2 2, pieces := (List.range (fld q.area 6 2)).map fun k => (fld q.area 4 2 + k, fit 1024 (b.drop (1024 * k))) }] } ∧ Frame [.ring, .rad] [] [] s t) ∧
  (∀ (slot ch code : Nat) (f : List Byte) (d e : Dev) (s : State), s.dev.runs .rad = true → s.dev.hearsPiece slot ch code f = true → d = s.dev.passTo (s.dev.slotStart (slot + 1)) →
    d.receive f 49 0 true (d.siteRxKey (fGen f)) (tabFind d.rad.hwSite (fCell f)) = (none, e) →
    Answers (.pieceFrameRx slot ch code f) s fun t => t.dev.get R.IMG_RX_STAT_REJECTED = min (e.get R.IMG_RX_STAT_REJECTED + 1) (2 ^ 16 - 1) ∧ t.dev.img = s.dev.img) ∧
  (∀ (slot ch code : Nat) (f p : List Byte) (d e : Dev) (s : State), s.dev.runs .rad = true → s.dev.hearsPiece slot ch code f = true → d = s.dev.passTo (s.dev.slotStart (slot + 1)) →
    d.receive f 49 0 true (d.siteRxKey (fGen f)) (tabFind d.rad.hwSite (fCell f)) = (some p, e) →
    fld p 0 1 = 6 → fld p 1 2 = e.get R.IMG_XFER_XFER → fld p 3 2 < e.get R.IMG_XFER_CNT_PIECES → fld p 5 1 ≤ 40 →
    Answers (.pieceFrameRx slot ch code f) s fun t => t.dev.get R.IMG_RX_STAT_FRAMES = min (e.get R.IMG_RX_STAT_FRAMES + 1) (2 ^ 16 - 1) ∧ tabFind t.dev.rad.hwSite (fCell f) = some (fCnt f)) ∧
  (∀ (slot ch code n : Nat) (f p : List Byte) (d e : Dev) (s : State), s.dev.runs .rad = true → s.dev.hearsPiece slot ch code f = true → d = s.dev.passTo (s.dev.slotStart (slot + 1)) →
    d.receive f 49 0 true (d.siteRxKey (fGen f)) (tabFind d.rad.hwSite (fCell f)) = (some p, e) →
    fld p 0 1 = 6 → fld p 1 2 = e.get R.IMG_XFER_XFER → fld p 3 2 < e.get R.IMG_XFER_CNT_PIECES → fld p 5 1 ≤ 40 → n = (if fld p 5 1 = 40 then 24 else 25) →
    (e.piece (fld p 3 2)).length = 1024 → ((e.piece (fld p 3 2)).drop (25 * fld p 5 1)).take n = List.replicate n 0xFF → p.length = 31 →
    Answers (.pieceFrameRx slot ch code f) s fun t => ((t.dev.piece (fld p 3 2)).drop (25 * fld p 5 1)).take n = (p.drop 6).take n) ∧
  (∀ (slot ch code : Nat) (f : List Byte) (s : State), s.dev.on R.IMG_CTRL_RX_EN = false ∨ s.dev.on R.IMG_XFER_OPEN = false ∨ s.dev.on R.IMG_XFER_SOURCE = false →
    Answers (.pieceFrameRx slot ch code f) s fun t => t = s)

/-- R589, R590, R593-R595, R598-R601: an install checks the staged container and fills the slot that does not run; an activation starts a trial, which a confirmation ends, or a fallback, or
120 s without either; recovery fills slot A. -/
def Obligations.ImageSwitches : Prop :=
  (∀ (q : Desc) (p c : Nat) (s : State), Ready 0x10 5 q s.dev → s.dev.runs .nvm = true → s.dev.keyBusy (s.dev.get R.IMG_CFG_KEY_SLOT) = false → p = fld q.area 1 1 →
    s.dev.img.install = none → resvOk q.area [(0, 2)] = true → p < 5 → s.dev.on R.IMG_XFER_OPEN = true → s.dev.on R.IMG_XFER_COMPLETE = true → s.dev.get R.IMG_XFER_PART = p →
    s.dev.get R.IMG_STATUS_TRIAL_PART ≠ p → (∀ a, s.dev.img.act = some a → a.part ≠ p) → s.dev.verify s.dev.staged p (some (s.dev.get R.IMG_XFER_CNT_PIECES)) = .bad c →
    Answers .imgInstall s fun t => Completes q .aborted s t ∧ t.dev.img = s.dev.img) ∧
  (∀ (q : Desc) (p : Nat) (st : Status) (s : State), Ready 0x10 5 q s.dev → s.dev.runs .nvm = true → s.dev.keyBusy (s.dev.get R.IMG_CFG_KEY_SLOT) = false → p = fld q.area 1 1 →
    s.dev.img.install = none → resvOk q.area [(0, 2)] = true → p < 5 → s.dev.on R.IMG_XFER_OPEN = true → s.dev.on R.IMG_XFER_COMPLETE = true → s.dev.get R.IMG_XFER_PART = p →
    s.dev.get R.IMG_STATUS_TRIAL_PART ≠ p → (∀ a, s.dev.img.act = some a → a.part ≠ p) → s.dev.verify s.dev.staged p (some (s.dev.get R.IMG_XFER_CNT_PIECES)) = .refuse st →
    Answers .imgInstall s fun t => Completes q st s t ∧ t.dev.img = s.dev.img) ∧
  (∀ (q : Desc) (p : Nat) (b : List Byte) (s : State), Ready 0x10 5 q s.dev → s.dev.runs .nvm = true → s.dev.keyBusy (s.dev.get R.IMG_CFG_KEY_SLOT) = false → p = fld q.area 1 1 →
    s.dev.img.install = none → resvOk q.area [(0, 2)] = true → p < 5 → s.dev.on R.IMG_XFER_OPEN = true → s.dev.on R.IMG_XFER_COMPLETE = true → s.dev.get R.IMG_XFER_PART = p →
    s.dev.get R.IMG_STATUS_TRIAL_PART ≠ p → (∀ a, s.dev.img.act = some a → a.part ≠ p) → s.dev.verify s.dev.staged p (some (s.dev.get R.IMG_XFER_CNT_PIECES)) = .good b →
    Answers .imgInstall s fun t => t.dev.img.install = some { desc := q, part := p, slot := s.dev.freeSlot p, image := b } ∧ t.dev.slotState p (s.dev.freeSlot p) = 0 ∧
      tabFind t.dev.img.flash (2 * p + s.dev.freeSlot p) = none) ∧
  (∀ (x : ImgInst) (s : State), s.dev.runs .nvm = true → s.dev.img.install = some x → Awaits x.desc s.dev → x.part < 5 → x.slot < 2 →
    Answers .imgInstallDone s fun t => t.dev.img.install = none ∧ t.dev.slotState x.part x.slot = 1 ∧ tabFind t.dev.img.flash (2 * x.part + x.slot) = some x.image ∧
      t.dev.get R.IMG_VER_VERSION x.part x.slot = fld x.image 8 4 ∧ Completes x.desc .done s t) ∧
  (∀ (q : Desc) (p sl : Nat) (c : Bool) (s : State), Ready 0x10 6 q s.dev → s.dev.runs .nvm = true → p = fld q.area 1 1 → sl = (if s.dev.slotState p 0 = 1 then 0 else 1) →
    resvOk q.area [(0, 3)] = true → p < 5 → fld q.area 2 1 < 2 → s.dev.get R.IMG_STATUS_TRIAL_PART = 7 → s.dev.img.act = none → s.dev.slotState p sl = 1 → s.dev.safeRefused p = false →
    (fld q.area 2 1 = 0 ∨ s.dev.convOf p sl c ≠ 3) → compatible (s.dev.partSet p sl) = true →
    Answers (.imgActivate c) s fun t =>
      t.dev.img.act = some { part := p, slot := sl, conv := s.dev.convOf p sl c, desc := some q, started := if p = 2 ∨ p = 3 then none else some s.dev.clk.mono }) ∧
  (∀ (q : Desc) (p sl : Nat) (c : Bool) (s : State), Ready 0x10 6 q s.dev → s.dev.runs .nvm = true → p = fld q.area 1 1 → sl = (if s.dev.slotState p 0 = 1 then 0 else 1) →
    resvOk q.area [(0, 3)] = true → p < 5 → fld q.area 2 1 < 2 → s.dev.get R.IMG_STATUS_TRIAL_PART = 7 → s.dev.img.act = none → s.dev.slotState p sl = 1 → s.dev.safeRefused p = false →
    (fld q.area 2 1 = 0 ∨ s.dev.convOf p sl c ≠ 3) → compatible (s.dev.partSet p sl) = true → p ≠ 2 → p ≠ 3 →
    Answers (.imgActivate c) s fun t => t.dev.get R.IMG_STATUS_ACTIVATING = 1 ∧ t.dev.get R.IMG_STATUS_TRIAL_PART = p ∧ t.dev.slotState p sl = 3 ∧
      t.dev.get R.IMG_PART_STAT_RUN_SLOT p = sl ∧ t.dev.get R.IMG_PART_STAT_CONV p = s.dev.convOf p sl c) ∧
  (∀ (q : Desc) (p sl : Nat) (c : Bool) (s : State), Ready 0x10 6 q s.dev → s.dev.runs .nvm = true → p = fld q.area 1 1 → sl = (if s.dev.slotState p 0 = 1 then 0 else 1) →
    resvOk q.area [(0, 3)] = true → p < 5 → fld q.area 2 1 < 2 → (s.dev.get R.IMG_STATUS_TRIAL_PART ≠ 7 ∨ s.dev.img.act.isSome = true ∨ s.dev.slotState p sl ≠ 1 ∨ s.dev.safeRefused p = true) →
    Answers (.imgActivate c) s fun t => Completes q .refusedState s t ∧ t.dev.img = s.dev.img) ∧
  (∀ (a : ImgAct) (t0 : Nat) (s : State), s.dev.runs .nvm = true → s.dev.img.act = some a → a.started = some t0 → (a.part = 2 → s.dev.trk.allDiscont = none) →
    Answers .imgActivatePauseEnd s fun t => t.dev.get R.IMG_STATUS_ACTIVATING = 0 ∧ t.dev.img.act = none ∧ t0 + pauseLen a.part ≤ t.dev.clk.mono) ∧
  (∀ (a : ImgAct) (t0 : Nat) (s : State), s.dev.runs .nvm = true → s.dev.img.act = some a → a.started = some t0 → (a.part = 2 → s.dev.trk.allDiscont = none) → a.part = 0 →
    Answers .imgActivatePauseEnd s fun t => t.dev.get R.RING_GLB_STATUS_PAUSED = 0) ∧
  (∀ (a : ImgAct) (t0 : Nat) (s : State), s.dev.runs .nvm = true → s.dev.img.act = some a → a.started = some t0 → (a.part = 2 → s.dev.trk.allDiscont = none) → s.dev.get R.IMG_STATUS_TRIAL_PART = a.part →
    Answers .imgActivatePauseEnd s fun t => t.dev.img.trialAt = some t.dev.clk.mono ∧ t.dev.get R.IMG_STATUS_CONFIRM_LEFT = 120) ∧
  (∀ (a : ImgAct) (t0 : Nat) (q : Desc) (s : State), s.dev.runs .nvm = true → s.dev.img.act = some a → a.started = some t0 → (a.part = 2 → s.dev.trk.allDiscont = none) → a.desc = some q → q.bytes.length = 64 →
    s.dev.isLive q = true → s.dev.linkUp = true → s.dev.runs .sup = true → (a.part = 0 ∨ s.dev.on R.RING_GLB_STATUS_PAUSED = false) → s.dev.on R.RING_CTRL_EN q.compl = true →
    s.dev.taking.all (fun x => x.no != q.no) = true → (s.dev.ring.deferred.all fun x => x.1.no != q.no) = true →
    Answers .imgActivatePauseEnd s fun t => Completes q .done s t) ∧
  (∀ (q : Desc) (p r : Nat) (s : State), Ready 0x10 8 q s.dev → s.dev.runs .nvm = true → p = fld q.area 1 1 → r = s.dev.get R.IMG_PART_STAT_RUN_SLOT p → s.dev.img.act = none → resvOk q.area [(0, 2)] = true → p < 5 →
    s.dev.get R.IMG_STATUS_TRIAL_PART = p → s.dev.on R.IMG_PART_STAT_SELF_OK p = true →
    Answers .imgConfirm s fun t => Completes q .done s t ∧ t.dev.slotState p r = 2 ∧ t.dev.get R.IMG_STATUS_TRIAL_PART = 7 ∧ t.dev.img.trialAt = none ∧
      t.fuse = { s.fuse with epochs := tabPut s.fuse.epochs p (max (tabGet s.fuse.epochs p) (t.dev.get R.IMG_EPOCH_SEC_EPOCH p)) }) ∧
  (∀ (q : Desc) (p r : Nat) (s : State), Ready 0x10 8 q s.dev → s.dev.runs .nvm = true → p = fld q.area 1 1 → r = s.dev.get R.IMG_PART_STAT_RUN_SLOT p → s.dev.img.act = none → resvOk q.area [(0, 2)] = true → p < 5 →
    s.dev.get R.IMG_STATUS_TRIAL_PART = p → s.dev.on R.IMG_PART_STAT_SELF_OK p = true → imgEpoch (s.dev.image p r) < 64 →
    Answers .imgConfirm s fun t => t.dev.get R.IMG_EPOCH_SEC_EPOCH p = max (imgEpoch (s.dev.image p r)) (s.dev.get R.IMG_EPOCH_SEC_EPOCH p)) ∧
  (∀ (q : Desc) (p sl : Nat) (s : State), Ready 0x10 7 q s.dev → s.dev.runs .nvm = true → p = fld q.area 1 1 → sl = 1 - s.dev.get R.IMG_PART_STAT_RUN_SLOT p → s.dev.img.act = none → resvOk q.area [(0, 2)] = true → p < 5 →
    s.dev.get R.IMG_STATUS_TRIAL_PART = p → s.dev.safeRefused p = false → compatible (s.dev.partSet p sl) = true →
    Answers .imgFallback s fun t => t.dev.img.act = some { part := p, slot := sl, falls := true, cause := 1, desc := some q, started := if p = 2 ∨ p = 3 then none else some s.dev.clk.mono }) ∧
  (∀ (q : Desc) (p sl : Nat) (s : State), Ready 0x10 7 q s.dev → s.dev.runs .nvm = true → p = fld q.area 1 1 → sl = 1 - s.dev.get R.IMG_PART_STAT_RUN_SLOT p → s.dev.img.act = none → resvOk q.area [(0, 2)] = true → p < 5 →
    s.dev.get R.IMG_STATUS_TRIAL_PART = p → s.dev.safeRefused p = false → compatible (s.dev.partSet p sl) = true → p ≠ 2 → p ≠ 3 →
    Answers .imgFallback s fun t => t.dev.get R.IMG_STATUS_TRIAL_PART = 7 ∧ t.dev.get R.IMG_PART_STAT_RUN_SLOT p = sl ∧ t.dev.slotState p (1 - sl) = 1) ∧
  (∀ (t0 p sl : Nat) (s : State), s.dev.runs .safe = true → s.dev.img.trialAt = some t0 → p = s.dev.get R.IMG_STATUS_TRIAL_PART → p < 5 → p ≠ 1 →
    sl = 1 - s.dev.get R.IMG_PART_STAT_RUN_SLOT p → s.dev.img.act = none →
    Answers .imgConfirmTimeout s fun t => t0 + 120 * second ≤ t.dev.clk.mono ∧ (t.dev.img.act.map fun a => (a.part, a.slot, a.falls)) = some (p, sl, true)) ∧
  (∀ (t0 p sl : Nat) (s : State), s.dev.runs .safe = true → s.dev.img.trialAt = some t0 → p = s.dev.get R.IMG_STATUS_TRIAL_PART → p < 5 → p ≠ 1 →
    sl = 1 - s.dev.get R.IMG_PART_STAT_RUN_SLOT p → s.dev.img.act = none → p ≠ 2 → p ≠ 3 →
    Answers .imgConfirmTimeout s fun t => t.dev.get R.IMG_STATUS_TRIAL_PART = 7 ∧ t.dev.get R.IMG_PART_STAT_RUN_SLOT p = sl ∧ t.dev.slotState p (1 - sl) = 1) ∧
  (∀ (t0 : Nat) (s : State), s.dev.runs .safe = true → s.dev.img.trialAt = some t0 → s.dev.get R.IMG_STATUS_TRIAL_PART = 1 → s.dev.img.act = none →
    Answers .imgConfirmTimeout s fun t => AfterReset (some 8) ((s.dev.passToMono (t0 + 120 * second)).fallBack 1 0).beforeReset t.dev) ∧
  (∀ (v : Word32) (s : State), s.dev.writable R.IMG_REC_CMD_GO = true → bitOf v.toNat 8 = true → v.toNat % 8 ≤ 4 → s.dev.recovering = true → s.dev.img.recov = none →
    Answers (.imgRecGo v) s fun t => t.dev.img.recov = some (v.toNat % 8) ∧ t.dev.get R.IMG_REC_CMD_PART = v.toNat % 8 ∧ t.dev.get R.IMG_REC_CMD_GO = 1) ∧
  (∀ (v : Word32) (s : State), bitOf v.toNat 8 = false → Answers (.imgRecGo v) s fun t => t = s) ∧
  (∀ (p : Nat) (b : List Byte) (m : Option (List Byte)) (s : State), s.dev.powered = true → s.dev.img.recov = some p → s.dev.verify (m.getD []) p none = .good b →
    Answers (.imgRecoveryDone m) s fun t => t.dev.img.recov = none ∧ tabFind t.dev.img.flash (2 * p) = some b ∧ t.dev.sys.ran = false) ∧
  (∀ (p : Nat) (m : Option (List Byte)) (s : State), s.dev.powered = true → s.dev.img.recov = some p → (∀ b, s.dev.verify (m.getD []) p none ≠ .good b) →
    Answers (.imgRecoveryDone m) s fun t => t.dev.img.recov = none ∧ t.dev.get R.IMG_REC_CMD_GO = 0 ∧ t.dev.get R.IMG_REC_CMD_FAIL = 1 ∧ t.dev.img.flash = s.dev.img.flash)

/-! ### The pair -/

/-- R610, R612, R613, R618, R626-R628: lanes, HELLO and the partner, presence, the yoke, and how a pair starts: the claimant that sees YOKE asserted, a ROLE 1 partner or a lower device ID's
claim becomes the standby, the other takes the reins. -/
def Obligations.PairStarts : Prop :=
  (∀ s : State, s.dev.runs .bar = true → s.dev.pair.helloSf ≠ s.dev.sfn + 1 → s.dev.get R.PAIR_STATUS_LINK ≠ 0 → s.dev.dbKey.isSome = true →
    Answers .helloTx s fun t => (∃ a : DbFrame, t.dev.out = s.dev.out ++ [.drawbar a] ∧ a.typ = 1 ∧
      a.body.take 4 = u8 (s.dev.get R.PAIR_STATUS_ROLE) ++ u8 s.dev.level ++ u8 (s.dev.get R.TIME_STATUS_SRC) ++ u8 (b2n (s.dev.on R.PAIR_STATUS_READY) + 2 * b2n s.dev.ownFault)) ∧
      t.dev.pair.helloSent = true ∧ t.dev.pair.helloSf = s.dev.sfn + 1 ∧ t.dev.pair.fcnt = s.dev.pair.fcnt + 1 ∧ Frame [.pair, .out] [] [] s t) ∧
  (∀ s : State, s.dev.pair.helloSf = s.dev.sfn + 1 → Answers .helloTx s fun t => t = s) ∧
  (∀ (f : List Byte) (e : Dev) (s : State), s.dev.runs .bar = true → s.dev.dbRecv f 1 = (.no, e) → Answers (.helloRx f) s fun t => t.dev = e) ∧
  (∀ (f : List Byte) (e : Dev) (s : State), s.dev.runs .bar = true → s.dev.dbRecv f 1 = (.forged, e) → e.pair.hello = true → Answers (.helloRx f) s fun t => t.dev = e) ∧
  (∀ (f : List Byte) (e : Dev) (s : State), s.dev.runs .bar = true → s.dev.dbRecv f 1 = (.forged, e) → e.pair.hello = false →
    Answers (.helloRx f) s fun t => t.dev.pair.refused = true ∧ t.dev.get R.PAIR_STATUS_PARTNER_READY = 0) ∧
  (∀ (f : List Byte) (e : Dev) (s : State), s.dev.runs .bar = true → s.dev.dbRecv f 1 = (.alien, e) →
    Answers (.helloRx f) s fun t => t.dev.get R.PAIR_STATUS_CELL_MISMATCH = 1 ∧ t.dev.pair.refused = true ∧ t.dev.get R.PAIR_STATUS_PARTNER_READY = 0) ∧
  (∀ (f b : List Byte) (e : Dev) (s : State), s.dev.runs .bar = true → s.dev.dbRecv f 1 = (.body b, e) → fld f 2 2 % 1024 = e.id →
    Answers (.helloRx f) s fun t => t.dev.get R.PAIR_STATUS_CELL_MISMATCH = 1 ∧ t.dev.pair.refused = true ∧ t.dev.get R.PAIR_STATUS_PARTNER_READY = 0) ∧
  (∀ (f b : List Byte) (e : Dev) (s : State), s.dev.runs .bar = true → s.dev.dbRecv f 1 = (.body b, e) → fld f 2 2 % 1024 ≠ e.id →
    Answers (.helloRx f) s fun t => t.dev.pair.hello = true ∧ t.dev.pair.role = fld b 0 1 ∧ t.dev.pair.level = fld b 1 1 ∧ t.dev.get R.PAIR_STATUS_PARTNER_ID = fld f 2 2 % 1024 ∧
      t.dev.get R.PAIR_STATUS_PARTNER_VALID = 1 ∧ t.dev.get R.PAIR_STATUS_CELL_MISMATCH = 0 ∧ t.dev.get R.PAIR_STATUS_COMPAT = b2n t.dev.pairCompat ∧ t.dev.pair.refused = !t.dev.pairCompat) ∧
  (∀ (f b : List Byte) (e : Dev) (s : State), s.dev.runs .bar = true → s.dev.dbRecv f 1 = (.body b, e) → fld f 2 2 % 1024 ≠ e.id → e.get R.PAIR_STATUS_ROLE = 0 →
    e.pair.started.isSome = true → e.pair.sw = none → e.get R.PAIR_STATUS_LINK ≠ 0 → e.pair.helloSent = true → e.pair.theta = true → 1 ≤ e.get R.TIME_STATUS_SRC →
    e.get R.TIME_STATUS_SRC ≤ 3 → fld b 0 1 = 1 → Dev.pairCompat { e with pair := { e.pair with acc := (b.drop 4).take 100 } } = true →
    Answers (.helloRx f) s fun t => t.dev.get R.PAIR_STATUS_ROLE = 2) ∧
  (∀ (k : Nat) (s : State), k < 2 → s.dev.runs .bar = true → s.dev.pair.lanes = [] →
    Answers (.drawbarLaneLock k) s fun t => t.dev.pair.lanes = [k] ∧ t.dev.get R.PAIR_STATUS_LINK = 1 ∧ t.dev.pair.full = true ∧ Frame (.pair :: reports) reportWs [R.PAIR_STATUS_LINK] s t) ∧
  (∀ (k : Nat) (s : State), k < 2 → s.dev.runs .bar = true → s.dev.pair.lanes = [] → s.dev.dbKey.isSome = true →
    Answers (.drawbarLaneLock k) s fun t => t.dev.pair.helloSent = true ∧ ∃ a : DbFrame, t.dev.out.getLast? = some (.drawbar a) ∧ a.typ = 1) ∧
  (∀ (k j : Nat) (s : State), k < 2 → s.dev.runs .bar = true → s.dev.pair.lanes = [j] → j ≠ k →
    Answers (.drawbarLaneLock k) s fun t => t.dev.pair.lanes = [k, j] ∧ t.dev.get R.PAIR_STATUS_LINK = 2 ∧ Frame [.pair] [] [R.PAIR_STATUS_LINK] s t) ∧
  (∀ (k : Nat) (s : State), s.dev.runs .bar = true → s.dev.pair.lanes = [k] →
    Answers (.drawbarLaneFault k) s fun t => t.dev.pair.lanes = [] ∧ t.dev.get R.PAIR_STATUS_LINK = 0 ∧ t.dev.pair.hello = false ∧ t.dev.pair.helloSent = false ∧ t.dev.pair.rx = none ∧
      t.dev.get R.PAIR_STATUS_PARTNER_READY = 0) ∧
  (∀ (k j : Nat) (s : State), s.dev.runs .bar = true → (s.dev.pair.lanes = [k, j] ∨ s.dev.pair.lanes = [j, k]) → j ≠ k →
    Answers (.drawbarLaneFault k) s fun t => t.dev.pair.lanes = [j] ∧ t.dev.get R.PAIR_STATUS_LINK = 1 ∧ t.dev.get R.PAIR_ERR_LANE_FAULT = 1 ∧
      Frame (.pair :: reports) reportWs [R.PAIR_STATUS_LINK, R.PAIR_ERR_LANE_FAULT] s t) ∧
  (∀ (b : Bool) (s : State), b ≠ s.dev.pair.present → s.dev.powered = true →
    Answers (.pairPresentChange b) s fun t => t.dev.pair = { s.dev.pair with present := b } ∧ t.dev.get R.PAIR_STATUS_PRESENT_CHG = 1 ∧ t.dev.paired = s.dev.paired) ∧
  (∀ (b : Bool) (s : State), s.dev.powered = false → Answers (.pairPresentChange b) s fun t => t.dev.pair.present = b ∧ Frame [.pair] [] [] s t) ∧
  (∀ s : State, s.dev.runs .safe = true → s.dev.paired = true → Answers .yokeFault s fun t => t.dev.get R.PAIR_STATUS_YOKE_FAULT = 1 ∧ Frame reports reportWs [R.PAIR_STATUS_YOKE_FAULT] s t) ∧
  (∀ (y : Bool) (s : State), s.dev.runs .bar = true → s.dev.mayStart = true → s.dev.pair.claimAt = none → (y = true ∨ s.dev.pair.role = 1) →
    Answers (.pairClaim y) s fun t => t.dev.get R.PAIR_STATUS_ROLE = 2 ∧ t.dev.pair.claimAt = none) ∧
  (∀ s : State, s.dev.runs .bar = true → s.dev.mayStart = true → s.dev.pair.claimAt = none → s.dev.pair.role ≠ 1 → s.dev.dbKey.isSome = true →
    Answers (.pairClaim false) s fun t => t.dev.pair.claimAt = some t.dev.clk.mono ∧ t.dev.now % fleetCycle = 0 ∧ t.dev.now < s.dev.now + fleetCycle ∧
      (∃ a : DbFrame, t.dev.out = s.dev.out ++ [.drawbar a] ∧ a.typ = 7 ∧ a.body = []) ∧ Frame [.clk, .pair, .out] [] [R.PAIR_STATUS_YOKE] s t) ∧
  (∀ (t0 : Nat) (s : State), s.dev.runs .safe = true → s.dev.pair.claimAt = some t0 →
    Answers (.pairYokeAssert true) s fun t => t.dev.get R.PAIR_STATUS_ROLE = 2 ∧ t.dev.pair.claimAt = none ∧ t.dev.get R.PAIR_STATUS_YOKE = 1) ∧
  (∀ (t0 : Nat) (s : State), s.dev.runs .safe = true → s.dev.pair.claimAt = some t0 →
    Answers (.pairYokeAssert false) s fun t => t.dev.get R.PAIR_STATUS_ROLE = 1 ∧ t.dev.get R.PAIR_STATUS_YOKE = 1 ∧ t.dev.pair.lease = some (t.dev.clk.mono + 30 * ms) ∧
      t0 + fleetCycle + s.dev.id * 10000 ≤ t.dev.clk.mono ∧ t.dev.get R.PAIR_TAKE_LAST_ROW = 5) ∧
  (∀ (f b : List Byte) (e : Dev) (s : State), s.dev.runs .bar = true → s.dev.dbTake f 7 = (some b, e) → s.dev.pair.claimAt.isSome = true → fld f 2 2 % 1024 < s.dev.id →
    Answers (.claimRx f) s fun t => t.dev.get R.PAIR_STATUS_ROLE = 2 ∧ t.dev.pair.claimAt = none ∧ ∃ a : DbFrame, Out.drawbar a ∈ t.dev.out.drop s.dev.out.length ∧ a.typ = 8) ∧
  (∀ (f b : List Byte) (e : Dev) (s : State), s.dev.runs .bar = true → s.dev.dbTake f 7 = (some b, e) → (s.dev.pair.claimAt = none ∨ s.dev.id ≤ fld f 2 2 % 1024) →
    Answers (.claimRx f) s fun t => t.dev = e) ∧
  (∀ (f : List Byte) (s : State), Answers (.yieldRx f) s fun t => t.dev.pair.claimAt = s.dev.pair.claimAt ∧ Frame [.pair] [] [R.PAIR_ERR_AUTH_FAIL, R.PAIR_ERR_REPLAY] s t) ∧
  (∀ (y : Bool) (t0 : Nat) (s : State), s.dev.runs .safe = true → s.dev.pair.started = some t0 → s.dev.get R.PAIR_CFG_SOLO_T ≠ 0 → s.dev.paired = true → s.dev.get R.PAIR_STATUS_ROLE = 0 →
    s.dev.synced = false → 1 ≤ s.dev.get R.TIME_STATUS_SRC → s.dev.get R.TIME_STATUS_SRC ≤ 3 → s.dev.rad.cellBcn = 0 →
    Answers (.pairSoloClaim y) s fun t => t0 + s.dev.get R.PAIR_CFG_SOLO_T * second + s.dev.id * 10000 ≤ t.dev.clk.mono) ∧
  (∀ (t0 : Nat) (s : State), s.dev.runs .safe = true → s.dev.pair.started = some t0 → s.dev.get R.PAIR_CFG_SOLO_T ≠ 0 → s.dev.paired = true → s.dev.get R.PAIR_STATUS_ROLE = 0 →
    s.dev.synced = false → 1 ≤ s.dev.get R.TIME_STATUS_SRC → s.dev.get R.TIME_STATUS_SRC ≤ 3 → s.dev.rad.cellBcn = 0 →
    Answers (.pairSoloClaim true) s fun t => t.dev.get R.PAIR_STATUS_ROLE = 0 ∧ t.dev.get R.PAIR_STATUS_YOKE = 1 ∧ Frame [.clk] [] [R.PAIR_STATUS_YOKE] s t) ∧
  (∀ (t0 : Nat) (s : State), s.dev.runs .safe = true → s.dev.pair.started = some t0 → s.dev.get R.PAIR_CFG_SOLO_T ≠ 0 → s.dev.paired = true → s.dev.get R.PAIR_STATUS_ROLE = 0 →
    s.dev.synced = false → 1 ≤ s.dev.get R.TIME_STATUS_SRC → s.dev.get R.TIME_STATUS_SRC ≤ 3 → s.dev.rad.cellBcn = 0 →
    Answers (.pairSoloClaim false) s fun t => t.dev.get R.PAIR_STATUS_ROLE = 1 ∧ t.dev.get R.PAIR_STATUS_YOKE = 1 ∧ t.dev.get R.PAIR_TAKE_LAST_ROW = 5) ∧
  (∀ (y : Bool) (s : State), s.dev.get R.PAIR_CFG_SOLO_T = 0 → Answers (.pairSoloClaim y) s fun t => t = s)

/-- R614-R617, R620: the standby applies a copy whole when it is complete in time and fits what it holds, answers it, counts one that is not, and measures θ; the holder of the reins takes
acknowledgements; a LAPSED frame is remembered. -/
def Obligations.CopiesAndLease : Prop :=
  (∀ (f b : List Byte) (e : Dev) (s : State), s.dev.runs .bar = true → s.dev.dbTake f 3 = (some b, e) → e.reins = false → e.get R.PAIR_STATUS_ROLE ≠ 3 → e.pair.rx = none →
    fld f 12 6 = s.dev.pair.rxFcnt → bitOf (fld f 1 1) 0 = true → e.now ≤ fld b 8 8 + 5 * ms →
    (bitOf (fld f 1 1) 1 = true ∨ e.pair.held.map (fun h => h.no) = some (fld b 0 4)) →
    Answers (.copyRx [f]) s fun t => t.dev.pair.held.map (fun h => (h.no, h.t)) = some (fld f 20 4, fld b 8 8) ∧
      t.dev.get R.PAIR_COPY_COPY_NO = fld f 20 4 ∧ t.dev.pair.rx = none ∧ ∃ a : DbFrame, t.dev.out.getLast? = some (.drawbar a) ∧ a.typ = 4 ∧ fld a.body 8 1 = 0) ∧
  (∀ (f b : List Byte) (e : Dev) (s : State), s.dev.runs .bar = true → s.dev.dbTake f 3 = (some b, e) → e.reins = false → e.get R.PAIR_STATUS_ROLE ≠ 3 → e.pair.rx = none →
    fld f 12 6 = s.dev.pair.rxFcnt → bitOf (fld f 1 1) 0 = true → e.now ≤ fld b 8 8 + 5 * ms →
    bitOf (fld f 1 1) 1 = false → e.pair.held.map (fun h => h.no) ≠ some (fld b 0 4) →
    Answers (.copyRx [f]) s fun t => t.dev.pair.held = e.pair.held ∧ t.dev.regs = e.regs ∧
      t.dev.pair.rx = none ∧ ∃ a : DbFrame, t.dev.out.getLast? = some (.drawbar a) ∧ a.typ = 4 ∧ fld a.body 8 1 = 1) ∧
  (∀ (x : CopyRx) (s : State), s.dev.runs .bar = true → s.dev.pair.rx = some x →
    Answers .copyDeadline s fun t => t.dev.pair.rx = none ∧ t.dev.get R.PAIR_ERR_COPY_DROP = min (s.dev.get R.PAIR_ERR_COPY_DROP + 1) (2 ^ 8 - 1) ∧ t.dev.pair.held = s.dev.pair.held ∧
      x.t + 5 * ms ≤ t.dev.now ∧ Frame [.clk, .pair, .out] [] [R.PAIR_ERR_COPY_DROP] s t) ∧
  (∀ s : State, s.dev.pair.rx = none → Answers .copyDeadline s fun t => t = s) ∧
  (∀ (f b : List Byte) (e : Dev) (s : State), s.dev.runs .bar = true → s.dev.dbTake f 2 = (some b, e) → e.reins = false → e.get R.PAIR_STATUS_ROLE ≠ 3 →
    Answers (.leaseRx f) s fun t => t.dev.pair.leaseAt = some s.dev.clk.mono ∧ t.dev.pair.expired = false ∧ t.dev.pair.lapsed = false ∧ t.dev.pair.t1 = fld f 24 8 ∧ t.dev.pair.t2 = s.dev.now ∧
      t.dev.get R.PAIR_LEASE_LEFT = 30010) ∧
  (∀ (f b : List Byte) (t3 : Nat) (th : Int) (e : Dev) (s : State), s.dev.runs .bar = true → s.dev.dbTake f 2 = (some b, e) → e.reins = false → e.get R.PAIR_STATUS_ROLE ≠ 3 →
    e.pair.t3 = some t3 → fld b 12 8 ≠ 0 → th = Int.tdiv (((e.pair.t2 : Int) - e.pair.t1) - ((fld b 12 8 : Nat) - (t3 : Int))) 2 → th.natAbs < 2 ^ 31 →
    Answers (.leaseRx f) s fun t => t.dev.geti R.PAIR_TOFS_THETA = th ∧ t.dev.get R.PAIR_STATUS_TIME_FAULT = b2n (decide (2000 < th.natAbs))) ∧
  (∀ (f b : List Byte) (e : Dev) (s : State), s.dev.runs .bar = true → s.dev.dbTake f 4 = (some b, e) → e.reins = true →
    Answers (.ackRx f) s fun t => t.dev.pair.t4 = s.dev.now ∧ t.dev.get R.PAIR_STATUS_PARTNER_READY = fld b 9 1 % 2) ∧
  (∀ (f b : List Byte) (e : Dev) (s : State), s.dev.runs .bar = true → s.dev.dbTake f 4 = (some b, e) → e.reins = true → fld b 8 1 = 1 → Answers (.ackRx f) s fun t => t.dev.pair.full = true) ∧
  (∀ (f b : List Byte) (e : Dev) (s : State), s.dev.runs .bar = true → s.dev.dbTake f 4 = (some b, e) → e.reins = true → fld b 8 1 = 0 → e.get R.PAIR_ACKED_COPY_NO ≤ fld f 20 4 → fld f 20 4 ≤ e.get R.PAIR_COPY_COPY_NO →
    Answers (.ackRx f) s fun t => t.dev.get R.PAIR_ACKED_COPY_NO = fld f 20 4) ∧
  (∀ (f b : List Byte) (e : Dev) (s : State), s.dev.runs .bar = true → s.dev.dbTake f 4 = (some b, e) → e.reins = true → fld b 8 1 ≠ 0 → Answers (.ackRx f) s fun t => t.dev.get R.PAIR_ACKED_COPY_NO = e.get R.PAIR_ACKED_COPY_NO) ∧
  (∀ (f b : List Byte) (e : Dev) (s : State), s.dev.runs .bar = true → s.dev.dbTake f 6 = (some b, e) → e.reins = false → e.get R.PAIR_STATUS_ROLE ≠ 3 →
    Answers (.lapsedRx f) s fun t => t.dev.pair = { e.pair with lapseT := some (fld b 0 8), lapsed := e.pair.lapsed || e.pair.expired } ∧ t.dev.regs = e.regs)

/-- R619-R625: a lapsed lease freezes the outputs and stops transmission; the standby takes the reins by the rows of R620, or on RELEASE; a switch hands them over at T_s, and comes to nothing
after 20 ms without TAKEN. -/
def Obligations.ReinsChangeHands : Prop :=
  (∀ (t0 : Nat) (s : State), s.dev.runs .safe = true → s.dev.pair.lease = some t0 → s.dev.paired = true → s.dev.reins = true →
    Answers .leaseLapse s fun t => t.dev.get R.PAIR_STATUS_ROLE = 3 ∧ t.dev.pair.frozen = true ∧ t.dev.pair.gates = (s.dev.passToMono t0).allLegs ∧ t.dev.rad.inhibit = true ∧
      t.dev.get R.PAIR_STATUS_YOKE = 0 ∧ t0 ≤ t.dev.clk.mono ∧ t.dev.pair.lapseT = some t.dev.now ∧ t.dev.pair.lease = none ∧
      t.dev.get R.BRK_STATUS_DRAG_OUT = s.dev.get R.BRK_STATUS_DRAG_OUT) ∧
  (∀ s : State, s.dev.paired = false ∨ s.dev.reins = false ∨ s.dev.pair.lease = none → Answers .leaseLapse s fun t => t = s) ∧
  (∀ s : State, s.dev.runs .safe = true → s.dev.get R.PAIR_STATUS_ROLE = 3 →
    Answers .yokeSeenAsserted s fun t => t.dev.get R.PAIR_STATUS_YOKE = 1 ∧ t.dev.outputs = .hiZ ∧ Frame [.pair] [] [R.PAIR_STATUS_YOKE] s t) ∧
  (∀ s : State, s.dev.get R.PAIR_STATUS_ROLE ≠ 3 → Answers .yokeSeenAsserted s fun t => t = s) ∧
  (∀ (t0 : Nat) (s : State), s.dev.runs .safe = true → s.dev.pair.leaseAt = some t0 → s.dev.get R.PAIR_STATUS_ROLE = 2 →
    Answers (.partnerLeaseExpiry true) s fun t => t.dev.pair.expired = true ∧ t.dev.get R.PAIR_STATUS_YOKE = 1 ∧ t0 + 30010000 ≤ t.dev.clk.mono ∧
      Frame [.clk, .pair] [] [R.PAIR_STATUS_YOKE, R.PAIR_LEASE_LEFT] s t) ∧
  (∀ (t0 : Nat) (s : State), s.dev.runs .safe = true → s.dev.pair.leaseAt = some t0 → s.dev.get R.PAIR_STATUS_ROLE = 2 →
    Answers (.partnerLeaseExpiry false) s fun t => TookReins s t 1 (!(s.dev.pair.wasReady && s.dev.pair.held.isSome)) ∧ t0 + 30010000 ≤ t.dev.clk.mono) ∧
  (∀ (y : Bool) (s : State), s.dev.pair.leaseAt = none ∨ s.dev.get R.PAIR_STATUS_ROLE ≠ 2 → Answers (.partnerLeaseExpiry y) s fun t => t = s) ∧
  (∀ (t0 : Nat) (s : State), s.dev.runs .safe = true → s.dev.pair.leaseAt = some t0 → s.dev.get R.PAIR_STATUS_ROLE = 2 → s.dev.pair.expired = true → s.dev.on R.PAIR_STATUS_YOKE = true →
    s.dev.pair.lapsed = true →
    Answers .takeoverDelayed s fun t => TookReins s t 2 (!(s.dev.pair.wasReady && s.dev.pair.held.isSome)) ∧ t0 + 90 * ms ≤ t.dev.clk.mono) ∧
  (∀ s : State, s.dev.runs .safe = true → s.dev.timeGoes = true → s.dev.get R.PAIR_STATUS_ROLE = 2 → s.dev.pair.expired = true → s.dev.on R.PAIR_STATUS_YOKE = true → s.dev.pair.lapsed = false →
    Answers .takeoverBeaconLoss s fun t => TookReins s t 3 true ∧ (s.dev.rad.cellBcn + 3) * superframe ≤ t.dev.now) ∧
  (∀ s : State, s.dev.pair.expired = false → Answers .takeoverDelayed s (fun t => t = s) ∧ Answers .takeoverBeaconLoss s fun t => t = s) ∧
  (∀ (f b : List Byte) (e : Dev) (s : State), s.dev.runs .bar = true → s.dev.get R.PAIR_STATUS_ROLE = 2 → s.dev.dbTake f 5 = (some b, e) →
    Answers (.releaseRx f) s fun t => TookReins s t 4 s.dev.pair.held.isNone) ∧
  (∀ (q : Desc) (s : State), Ready 0x11 1 q s.dev → resvOk q.area [(0, 1)] = true → s.dev.partnerReady = true → s.dev.get R.IMG_STATUS_TRIAL_PART = 7 → s.dev.pair.sw = none →
    Answers .pairSwitch s fun t => t.dev.pair = { s.dev.pair with sw := some (some q, none) } ∧ Frame [.ring, .pair] [] [] s t) ∧
  (∀ (q : Desc) (s : State), Ready 0x11 1 q s.dev → resvOk q.area [(0, 1)] = true → s.dev.reins = false → Answers .pairSwitch s fun t => Completes q .notHoldingReins s t ∧ t.dev.pair = s.dev.pair) ∧
  (∀ (q : Desc) (s : State), Ready 0x11 1 q s.dev → resvOk q.area [(0, 1)] = true → s.dev.reins = true →
    (s.dev.partnerReady = false ∨ s.dev.get R.IMG_STATUS_TRIAL_PART ≠ 7 ∨ s.dev.pair.sw.isSome = true) →
    Answers .pairSwitch s fun t => Completes q .refusedState s t ∧ t.dev.pair = s.dev.pair) ∧
  (∀ (q : Option Desc) (s : State), s.dev.runs .safe = true → s.dev.timeGoes = true → s.dev.pair.sw = some (q, none) → s.dev.reins = true →
    Answers .pairSwitchRun s fun t => t.dev.get R.PAIR_STATUS_ROLE = 0 ∧ t.dev.get R.PAIR_STATUS_YOKE = 0 ∧ t.dev.pair.frozen = true ∧ t.dev.rad.inhibit = true ∧
      t.dev.pair.sw = some (q, some t.dev.clk.mono) ∧ t.dev.now % superframe = superframe - fleetCycle ∧ s.dev.now ≤ t.dev.now ∧ t.dev.now < s.dev.now + superframe) ∧
  (∀ (q : Option Desc) (t0 : Nat) (s : State), s.dev.runs .safe = true → s.dev.pair.sw = some (q, some t0) →
    Answers (.pairSwitchTimeout true) s fun t => t.dev.pair = s.dev.pair ∧ t.dev.get R.PAIR_STATUS_YOKE = 1 ∧ t0 + 20 * ms ≤ t.dev.clk.mono ∧ Frame [.clk] [] [R.PAIR_STATUS_YOKE] s t) ∧
  (∀ (q : Option Desc) (t0 : Nat) (s : State), s.dev.runs .safe = true → s.dev.pair.sw = some (q, some t0) →
    Answers (.pairSwitchTimeout false) s fun t => t.dev.get R.PAIR_STATUS_ROLE = 1 ∧ t.dev.get R.PAIR_STATUS_YOKE = 1 ∧ t.dev.pair.sw = none ∧ t.dev.pair.frozen = false ∧ t.dev.rad.inhibit = false ∧
      t0 + 20 * ms ≤ t.dev.clk.mono) ∧
  (∀ (x : Desc) (t0 : Nat) (s : State), s.dev.runs .safe = true → s.dev.pair.sw = some (some x, some t0) → Awaits x s.dev →
    Answers (.pairSwitchTimeout false) s fun t => Completes x .aborted s t) ∧
  (∀ (f b : List Byte) (q : Option Desc) (t0 : Nat) (e : Dev) (s : State), s.dev.runs .bar = true → s.dev.pair.sw = some (q, some t0) → s.dev.dbTake f 9 = (some b, e) →
    Answers (.takenRx f) s fun t => t.dev.get R.PAIR_STATUS_ROLE = 2 ∧ t.dev.pair.sw = none ∧ t.dev.outputs = .hiZ ∧ t.dev.rad.inhibit = false) ∧
  (∀ (f b : List Byte) (x : Desc) (t0 : Nat) (e : Dev) (s : State), s.dev.runs .bar = true → s.dev.pair.sw = some (some x, some t0) → s.dev.dbTake f 9 = (some b, e) → Awaits x s.dev →
    s.dev.taking.all (fun y => y.no != x.no) = true → Answers (.takenRx f) s fun t => Completes x .done s t) ∧
  (∀ (f b : List Byte) (e : Dev) (s : State), s.dev.runs .bar = true → s.dev.pair.sw = none → s.dev.get R.PAIR_STATUS_ROLE = 3 → s.dev.dbTake f 9 = (some b, e) →
    Answers (.takenRx f) s fun t => t.dev.get R.PAIR_STATUS_YOKE = 1 ∧ t.dev.outputs = .hiZ)
end

