-- ==== Sys2Proof/Decode.lean ====
section
/-!
DEFINITION. Commands spelled by words. The rows of the table carry no bits: a command is an access, a descriptor or an
event of the device, and its operands are its constructor's arguments.
-/

namespace Sys2Proof

/-- The command a word spells by the table's bits: none, since no row has bits (log entry 6). -/
def decodeTableWord (_nbits _w : Nat) : Option Instr := none

end Sys2Proof
end

