-- ==== Sys2Proof/Laws/State.lean ====
section
/-!
SUPPORT. What the named updates leave alone: one lemma per update and field, each true by unfolding a record.
-/

namespace Sys2Proof.Machine

@[simp] theorem Dev.set_clk (d : Dev) (f : Fld) (v i j : Nat) : (d.set f v i j).clk = d.clk := rfl
@[simp] theorem Dev.set_boot (d : Dev) (f : Fld) (v i j : Nat) : (d.set f v i j).boot = d.boot := rfl
@[simp] theorem Dev.set_ring (d : Dev) (f : Fld) (v i j : Nat) : (d.set f v i j).ring = d.ring := rfl
@[simp] theorem Dev.set_evt (d : Dev) (f : Fld) (v i j : Nat) : (d.set f v i j).evt = d.evt := rfl
@[simp] theorem Dev.set_tlb (d : Dev) (f : Fld) (v i j : Nat) : (d.set f v i j).tlb = d.tlb := rfl
@[simp] theorem Dev.set_key (d : Dev) (f : Fld) (v i j : Nat) : (d.set f v i j).key = d.key := rfl
@[simp] theorem Dev.set_sky (d : Dev) (f : Fld) (v i j : Nat) : (d.set f v i j).sky = d.sky := rfl
@[simp] theorem Dev.set_trk (d : Dev) (f : Fld) (v i j : Nat) : (d.set f v i j).trk = d.trk := rfl
@[simp] theorem Dev.set_tim (d : Dev) (f : Fld) (v i j : Nat) : (d.set f v i j).tim = d.tim := rfl
@[simp] theorem Dev.set_mtr (d : Dev) (f : Fld) (v i j : Nat) : (d.set f v i j).mtr = d.mtr := rfl
@[simp] theorem Dev.set_aon (d : Dev) (f : Fld) (v i j : Nat) : (d.set f v i j).aon = d.aon := rfl
@[simp] theorem Dev.set_rsv (d : Dev) (f : Fld) (v i j : Nat) : (d.set f v i j).rsv = d.rsv := rfl
@[simp] theorem Dev.set_brk (d : Dev) (f : Fld) (v i j : Nat) : (d.set f v i j).brk = d.brk := rfl
@[simp] theorem Dev.set_axs (d : Dev) (f : Fld) (v i j : Nat) : (d.set f v i j).axs = d.axs := rfl
@[simp] theorem Dev.set_wb (d : Dev) (f : Fld) (v i j : Nat) : (d.set f v i j).wb = d.wb := rfl
@[simp] theorem Dev.set_ctl (d : Dev) (f : Fld) (v i j : Nat) : (d.set f v i j).ctl = d.ctl := rfl
@[simp] theorem Dev.set_yrd (d : Dev) (f : Fld) (v i j : Nat) : (d.set f v i j).yrd = d.yrd := rfl
@[simp] theorem Dev.set_rad (d : Dev) (f : Fld) (v i j : Nat) : (d.set f v i j).rad = d.rad := rfl
@[simp] theorem Dev.set_img (d : Dev) (f : Fld) (v i j : Nat) : (d.set f v i j).img = d.img := rfl
@[simp] theorem Dev.set_pair (d : Dev) (f : Fld) (v i j : Nat) : (d.set f v i j).pair = d.pair := rfl
@[simp] theorem Dev.set_sys (d : Dev) (f : Fld) (v i j : Nat) : (d.set f v i j).sys = d.sys := rfl
@[simp] theorem Dev.set_out (d : Dev) (f : Fld) (v i j : Nat) : (d.set f v i j).out = d.out := rfl
@[simp] theorem Dev.set_free (d : Dev) (f : Fld) (v i j : Nat) : (d.set f v i j).free = d.free := rfl

@[simp] theorem Dev.put_clk (d : Dev) (f : Fld) (b : Bool) (i j : Nat) : (d.put f b i j).clk = d.clk := rfl
@[simp] theorem Dev.put_boot (d : Dev) (f : Fld) (b : Bool) (i j : Nat) : (d.put f b i j).boot = d.boot := rfl
@[simp] theorem Dev.put_ring (d : Dev) (f : Fld) (b : Bool) (i j : Nat) : (d.put f b i j).ring = d.ring := rfl
@[simp] theorem Dev.put_evt (d : Dev) (f : Fld) (b : Bool) (i j : Nat) : (d.put f b i j).evt = d.evt := rfl
@[simp] theorem Dev.put_tlb (d : Dev) (f : Fld) (b : Bool) (i j : Nat) : (d.put f b i j).tlb = d.tlb := rfl
@[simp] theorem Dev.put_key (d : Dev) (f : Fld) (b : Bool) (i j : Nat) : (d.put f b i j).key = d.key := rfl
@[simp] theorem Dev.put_sky (d : Dev) (f : Fld) (b : Bool) (i j : Nat) : (d.put f b i j).sky = d.sky := rfl
@[simp] theorem Dev.put_trk (d : Dev) (f : Fld) (b : Bool) (i j : Nat) : (d.put f b i j).trk = d.trk := rfl
@[simp] theorem Dev.put_tim (d : Dev) (f : Fld) (b : Bool) (i j : Nat) : (d.put f b i j).tim = d.tim := rfl
@[simp] theorem Dev.put_mtr (d : Dev) (f : Fld) (b : Bool) (i j : Nat) : (d.put f b i j).mtr = d.mtr := rfl
@[simp] theorem Dev.put_aon (d : Dev) (f : Fld) (b : Bool) (i j : Nat) : (d.put f b i j).aon = d.aon := rfl
@[simp] theorem Dev.put_rsv (d : Dev) (f : Fld) (b : Bool) (i j : Nat) : (d.put f b i j).rsv = d.rsv := rfl
@[simp] theorem Dev.put_brk (d : Dev) (f : Fld) (b : Bool) (i j : Nat) : (d.put f b i j).brk = d.brk := rfl
@[simp] theorem Dev.put_axs (d : Dev) (f : Fld) (b : Bool) (i j : Nat) : (d.put f b i j).axs = d.axs := rfl
@[simp] theorem Dev.put_wb (d : Dev) (f : Fld) (b : Bool) (i j : Nat) : (d.put f b i j).wb = d.wb := rfl
@[simp] theorem Dev.put_ctl (d : Dev) (f : Fld) (b : Bool) (i j : Nat) : (d.put f b i j).ctl = d.ctl := rfl
@[simp] theorem Dev.put_yrd (d : Dev) (f : Fld) (b : Bool) (i j : Nat) : (d.put f b i j).yrd = d.yrd := rfl
@[simp] theorem Dev.put_rad (d : Dev) (f : Fld) (b : Bool) (i j : Nat) : (d.put f b i j).rad = d.rad := rfl
@[simp] theorem Dev.put_img (d : Dev) (f : Fld) (b : Bool) (i j : Nat) : (d.put f b i j).img = d.img := rfl
@[simp] theorem Dev.put_pair (d : Dev) (f : Fld) (b : Bool) (i j : Nat) : (d.put f b i j).pair = d.pair := rfl
@[simp] theorem Dev.put_sys (d : Dev) (f : Fld) (b : Bool) (i j : Nat) : (d.put f b i j).sys = d.sys := rfl
@[simp] theorem Dev.put_out (d : Dev) (f : Fld) (b : Bool) (i j : Nat) : (d.put f b i j).out = d.out := rfl
@[simp] theorem Dev.put_free (d : Dev) (f : Fld) (b : Bool) (i j : Nat) : (d.put f b i j).free = d.free := rfl

@[simp] theorem Dev.sat_clk (d : Dev) (f : Fld) (v i j : Nat) : (d.sat f v i j).clk = d.clk := rfl
@[simp] theorem Dev.sat_boot (d : Dev) (f : Fld) (v i j : Nat) : (d.sat f v i j).boot = d.boot := rfl
@[simp] theorem Dev.sat_ring (d : Dev) (f : Fld) (v i j : Nat) : (d.sat f v i j).ring = d.ring := rfl
@[simp] theorem Dev.sat_evt (d : Dev) (f : Fld) (v i j : Nat) : (d.sat f v i j).evt = d.evt := rfl
@[simp] theorem Dev.sat_tlb (d : Dev) (f : Fld) (v i j : Nat) : (d.sat f v i j).tlb = d.tlb := rfl
@[simp] theorem Dev.sat_key (d : Dev) (f : Fld) (v i j : Nat) : (d.sat f v i j).key = d.key := rfl
@[simp] theorem Dev.sat_sky (d : Dev) (f : Fld) (v i j : Nat) : (d.sat f v i j).sky = d.sky := rfl
@[simp] theorem Dev.sat_trk (d : Dev) (f : Fld) (v i j : Nat) : (d.sat f v i j).trk = d.trk := rfl
@[simp] theorem Dev.sat_tim (d : Dev) (f : Fld) (v i j : Nat) : (d.sat f v i j).tim = d.tim := rfl
@[simp] theorem Dev.sat_mtr (d : Dev) (f : Fld) (v i j : Nat) : (d.sat f v i j).mtr = d.mtr := rfl
@[simp] theorem Dev.sat_aon (d : Dev) (f : Fld) (v i j : Nat) : (d.sat f v i j).aon = d.aon := rfl
@[simp] theorem Dev.sat_rsv (d : Dev) (f : Fld) (v i j : Nat) : (d.sat f v i j).rsv = d.rsv := rfl
@[simp] theorem Dev.sat_brk (d : Dev) (f : Fld) (v i j : Nat) : (d.sat f v i j).brk = d.brk := rfl
@[simp] theorem Dev.sat_axs (d : Dev) (f : Fld) (v i j : Nat) : (d.sat f v i j).axs = d.axs := rfl
@[simp] theorem Dev.sat_wb (d : Dev) (f : Fld) (v i j : Nat) : (d.sat f v i j).wb = d.wb := rfl
@[simp] theorem Dev.sat_ctl (d : Dev) (f : Fld) (v i j : Nat) : (d.sat f v i j).ctl = d.ctl := rfl
@[simp] theorem Dev.sat_yrd (d : Dev) (f : Fld) (v i j : Nat) : (d.sat f v i j).yrd = d.yrd := rfl
@[simp] theorem Dev.sat_rad (d : Dev) (f : Fld) (v i j : Nat) : (d.sat f v i j).rad = d.rad := rfl
@[simp] theorem Dev.sat_img (d : Dev) (f : Fld) (v i j : Nat) : (d.sat f v i j).img = d.img := rfl
@[simp] theorem Dev.sat_pair (d : Dev) (f : Fld) (v i j : Nat) : (d.sat f v i j).pair = d.pair := rfl
@[simp] theorem Dev.sat_sys (d : Dev) (f : Fld) (v i j : Nat) : (d.sat f v i j).sys = d.sys := rfl
@[simp] theorem Dev.sat_out (d : Dev) (f : Fld) (v i j : Nat) : (d.sat f v i j).out = d.out := rfl
@[simp] theorem Dev.sat_free (d : Dev) (f : Fld) (v i j : Nat) : (d.sat f v i j).free = d.free := rfl

@[simp] theorem Dev.inc_clk (d : Dev) (f : Fld) (i j : Nat) : (d.inc f i j).clk = d.clk := rfl
@[simp] theorem Dev.inc_boot (d : Dev) (f : Fld) (i j : Nat) : (d.inc f i j).boot = d.boot := rfl
@[simp] theorem Dev.inc_ring (d : Dev) (f : Fld) (i j : Nat) : (d.inc f i j).ring = d.ring := rfl
@[simp] theorem Dev.inc_evt (d : Dev) (f : Fld) (i j : Nat) : (d.inc f i j).evt = d.evt := rfl
@[simp] theorem Dev.inc_tlb (d : Dev) (f : Fld) (i j : Nat) : (d.inc f i j).tlb = d.tlb := rfl
@[simp] theorem Dev.inc_key (d : Dev) (f : Fld) (i j : Nat) : (d.inc f i j).key = d.key := rfl
@[simp] theorem Dev.inc_sky (d : Dev) (f : Fld) (i j : Nat) : (d.inc f i j).sky = d.sky := rfl
@[simp] theorem Dev.inc_trk (d : Dev) (f : Fld) (i j : Nat) : (d.inc f i j).trk = d.trk := rfl
@[simp] theorem Dev.inc_tim (d : Dev) (f : Fld) (i j : Nat) : (d.inc f i j).tim = d.tim := rfl
@[simp] theorem Dev.inc_mtr (d : Dev) (f : Fld) (i j : Nat) : (d.inc f i j).mtr = d.mtr := rfl
@[simp] theorem Dev.inc_aon (d : Dev) (f : Fld) (i j : Nat) : (d.inc f i j).aon = d.aon := rfl
@[simp] theorem Dev.inc_rsv (d : Dev) (f : Fld) (i j : Nat) : (d.inc f i j).rsv = d.rsv := rfl
@[simp] theorem Dev.inc_brk (d : Dev) (f : Fld) (i j : Nat) : (d.inc f i j).brk = d.brk := rfl
@[simp] theorem Dev.inc_axs (d : Dev) (f : Fld) (i j : Nat) : (d.inc f i j).axs = d.axs := rfl
@[simp] theorem Dev.inc_wb (d : Dev) (f : Fld) (i j : Nat) : (d.inc f i j).wb = d.wb := rfl
@[simp] theorem Dev.inc_ctl (d : Dev) (f : Fld) (i j : Nat) : (d.inc f i j).ctl = d.ctl := rfl
@[simp] theorem Dev.inc_yrd (d : Dev) (f : Fld) (i j : Nat) : (d.inc f i j).yrd = d.yrd := rfl
@[simp] theorem Dev.inc_rad (d : Dev) (f : Fld) (i j : Nat) : (d.inc f i j).rad = d.rad := rfl
@[simp] theorem Dev.inc_img (d : Dev) (f : Fld) (i j : Nat) : (d.inc f i j).img = d.img := rfl
@[simp] theorem Dev.inc_pair (d : Dev) (f : Fld) (i j : Nat) : (d.inc f i j).pair = d.pair := rfl
@[simp] theorem Dev.inc_sys (d : Dev) (f : Fld) (i j : Nat) : (d.inc f i j).sys = d.sys := rfl
@[simp] theorem Dev.inc_out (d : Dev) (f : Fld) (i j : Nat) : (d.inc f i j).out = d.out := rfl
@[simp] theorem Dev.inc_free (d : Dev) (f : Fld) (i j : Nat) : (d.inc f i j).free = d.free := rfl

@[simp] theorem Dev.seti_clk (d : Dev) (f : Fld) (z : Int) (i j : Nat) : (d.seti f z i j).clk = d.clk := rfl
@[simp] theorem Dev.seti_boot (d : Dev) (f : Fld) (z : Int) (i j : Nat) : (d.seti f z i j).boot = d.boot := rfl
@[simp] theorem Dev.seti_ring (d : Dev) (f : Fld) (z : Int) (i j : Nat) : (d.seti f z i j).ring = d.ring := rfl
@[simp] theorem Dev.seti_evt (d : Dev) (f : Fld) (z : Int) (i j : Nat) : (d.seti f z i j).evt = d.evt := rfl
@[simp] theorem Dev.seti_tlb (d : Dev) (f : Fld) (z : Int) (i j : Nat) : (d.seti f z i j).tlb = d.tlb := rfl
@[simp] theorem Dev.seti_key (d : Dev) (f : Fld) (z : Int) (i j : Nat) : (d.seti f z i j).key = d.key := rfl
@[simp] theorem Dev.seti_sky (d : Dev) (f : Fld) (z : Int) (i j : Nat) : (d.seti f z i j).sky = d.sky := rfl
@[simp] theorem Dev.seti_trk (d : Dev) (f : Fld) (z : Int) (i j : Nat) : (d.seti f z i j).trk = d.trk := rfl
@[simp] theorem Dev.seti_tim (d : Dev) (f : Fld) (z : Int) (i j : Nat) : (d.seti f z i j).tim = d.tim := rfl
@[simp] theorem Dev.seti_mtr (d : Dev) (f : Fld) (z : Int) (i j : Nat) : (d.seti f z i j).mtr = d.mtr := rfl
@[simp] theorem Dev.seti_aon (d : Dev) (f : Fld) (z : Int) (i j : Nat) : (d.seti f z i j).aon = d.aon := rfl
@[simp] theorem Dev.seti_rsv (d : Dev) (f : Fld) (z : Int) (i j : Nat) : (d.seti f z i j).rsv = d.rsv := rfl
@[simp] theorem Dev.seti_brk (d : Dev) (f : Fld) (z : Int) (i j : Nat) : (d.seti f z i j).brk = d.brk := rfl
@[simp] theorem Dev.seti_axs (d : Dev) (f : Fld) (z : Int) (i j : Nat) : (d.seti f z i j).axs = d.axs := rfl
@[simp] theorem Dev.seti_wb (d : Dev) (f : Fld) (z : Int) (i j : Nat) : (d.seti f z i j).wb = d.wb := rfl
@[simp] theorem Dev.seti_ctl (d : Dev) (f : Fld) (z : Int) (i j : Nat) : (d.seti f z i j).ctl = d.ctl := rfl
@[simp] theorem Dev.seti_yrd (d : Dev) (f : Fld) (z : Int) (i j : Nat) : (d.seti f z i j).yrd = d.yrd := rfl
@[simp] theorem Dev.seti_rad (d : Dev) (f : Fld) (z : Int) (i j : Nat) : (d.seti f z i j).rad = d.rad := rfl
@[simp] theorem Dev.seti_img (d : Dev) (f : Fld) (z : Int) (i j : Nat) : (d.seti f z i j).img = d.img := rfl
@[simp] theorem Dev.seti_pair (d : Dev) (f : Fld) (z : Int) (i j : Nat) : (d.seti f z i j).pair = d.pair := rfl
@[simp] theorem Dev.seti_sys (d : Dev) (f : Fld) (z : Int) (i j : Nat) : (d.seti f z i j).sys = d.sys := rfl
@[simp] theorem Dev.seti_out (d : Dev) (f : Fld) (z : Int) (i j : Nat) : (d.seti f z i j).out = d.out := rfl
@[simp] theorem Dev.seti_free (d : Dev) (f : Fld) (z : Int) (i j : Nat) : (d.seti f z i j).free = d.free := rfl

@[simp] theorem Dev.sati_clk (d : Dev) (f : Fld) (z : Int) (i j : Nat) : (d.sati f z i j).clk = d.clk := rfl
@[simp] theorem Dev.sati_boot (d : Dev) (f : Fld) (z : Int) (i j : Nat) : (d.sati f z i j).boot = d.boot := rfl
@[simp] theorem Dev.sati_ring (d : Dev) (f : Fld) (z : Int) (i j : Nat) : (d.sati f z i j).ring = d.ring := rfl
@[simp] theorem Dev.sati_evt (d : Dev) (f : Fld) (z : Int) (i j : Nat) : (d.sati f z i j).evt = d.evt := rfl
@[simp] theorem Dev.sati_tlb (d : Dev) (f : Fld) (z : Int) (i j : Nat) : (d.sati f z i j).tlb = d.tlb := rfl
@[simp] theorem Dev.sati_key (d : Dev) (f : Fld) (z : Int) (i j : Nat) : (d.sati f z i j).key = d.key := rfl
@[simp] theorem Dev.sati_sky (d : Dev) (f : Fld) (z : Int) (i j : Nat) : (d.sati f z i j).sky = d.sky := rfl
@[simp] theorem Dev.sati_trk (d : Dev) (f : Fld) (z : Int) (i j : Nat) : (d.sati f z i j).trk = d.trk := rfl
@[simp] theorem Dev.sati_tim (d : Dev) (f : Fld) (z : Int) (i j : Nat) : (d.sati f z i j).tim = d.tim := rfl
@[simp] theorem Dev.sati_mtr (d : Dev) (f : Fld) (z : Int) (i j : Nat) : (d.sati f z i j).mtr = d.mtr := rfl
@[simp] theorem Dev.sati_aon (d : Dev) (f : Fld) (z : Int) (i j : Nat) : (d.sati f z i j).aon = d.aon := rfl
@[simp] theorem Dev.sati_rsv (d : Dev) (f : Fld) (z : Int) (i j : Nat) : (d.sati f z i j).rsv = d.rsv := rfl
@[simp] theorem Dev.sati_brk (d : Dev) (f : Fld) (z : Int) (i j : Nat) : (d.sati f z i j).brk = d.brk := rfl
@[simp] theorem Dev.sati_axs (d : Dev) (f : Fld) (z : Int) (i j : Nat) : (d.sati f z i j).axs = d.axs := rfl
@[simp] theorem Dev.sati_wb (d : Dev) (f : Fld) (z : Int) (i j : Nat) : (d.sati f z i j).wb = d.wb := rfl
@[simp] theorem Dev.sati_ctl (d : Dev) (f : Fld) (z : Int) (i j : Nat) : (d.sati f z i j).ctl = d.ctl := rfl
@[simp] theorem Dev.sati_yrd (d : Dev) (f : Fld) (z : Int) (i j : Nat) : (d.sati f z i j).yrd = d.yrd := rfl
@[simp] theorem Dev.sati_rad (d : Dev) (f : Fld) (z : Int) (i j : Nat) : (d.sati f z i j).rad = d.rad := rfl
@[simp] theorem Dev.sati_img (d : Dev) (f : Fld) (z : Int) (i j : Nat) : (d.sati f z i j).img = d.img := rfl
@[simp] theorem Dev.sati_pair (d : Dev) (f : Fld) (z : Int) (i j : Nat) : (d.sati f z i j).pair = d.pair := rfl
@[simp] theorem Dev.sati_sys (d : Dev) (f : Fld) (z : Int) (i j : Nat) : (d.sati f z i j).sys = d.sys := rfl
@[simp] theorem Dev.sati_out (d : Dev) (f : Fld) (z : Int) (i j : Nat) : (d.sati f z i j).out = d.out := rfl
@[simp] theorem Dev.sati_free (d : Dev) (f : Fld) (z : Int) (i j : Nat) : (d.sati f z i j).free = d.free := rfl

@[simp] theorem Dev.setBit_clk (d : Dev) (f : Fld) (n : Nat) (b : Bool) (i j : Nat) : (d.setBit f n b i j).clk = d.clk := rfl
@[simp] theorem Dev.setBit_boot (d : Dev) (f : Fld) (n : Nat) (b : Bool) (i j : Nat) : (d.setBit f n b i j).boot = d.boot := rfl
@[simp] theorem Dev.setBit_ring (d : Dev) (f : Fld) (n : Nat) (b : Bool) (i j : Nat) : (d.setBit f n b i j).ring = d.ring := rfl
@[simp] theorem Dev.setBit_evt (d : Dev) (f : Fld) (n : Nat) (b : Bool) (i j : Nat) : (d.setBit f n b i j).evt = d.evt := rfl
@[simp] theorem Dev.setBit_tlb (d : Dev) (f : Fld) (n : Nat) (b : Bool) (i j : Nat) : (d.setBit f n b i j).tlb = d.tlb := rfl
@[simp] theorem Dev.setBit_key (d : Dev) (f : Fld) (n : Nat) (b : Bool) (i j : Nat) : (d.setBit f n b i j).key = d.key := rfl
@[simp] theorem Dev.setBit_sky (d : Dev) (f : Fld) (n : Nat) (b : Bool) (i j : Nat) : (d.setBit f n b i j).sky = d.sky := rfl
@[simp] theorem Dev.setBit_trk (d : Dev) (f : Fld) (n : Nat) (b : Bool) (i j : Nat) : (d.setBit f n b i j).trk = d.trk := rfl
@[simp] theorem Dev.setBit_tim (d : Dev) (f : Fld) (n : Nat) (b : Bool) (i j : Nat) : (d.setBit f n b i j).tim = d.tim := rfl
@[simp] theorem Dev.setBit_mtr (d : Dev) (f : Fld) (n : Nat) (b : Bool) (i j : Nat) : (d.setBit f n b i j).mtr = d.mtr := rfl
@[simp] theorem Dev.setBit_aon (d : Dev) (f : Fld) (n : Nat) (b : Bool) (i j : Nat) : (d.setBit f n b i j).aon = d.aon := rfl
@[simp] theorem Dev.setBit_rsv (d : Dev) (f : Fld) (n : Nat) (b : Bool) (i j : Nat) : (d.setBit f n b i j).rsv = d.rsv := rfl
@[simp] theorem Dev.setBit_brk (d : Dev) (f : Fld) (n : Nat) (b : Bool) (i j : Nat) : (d.setBit f n b i j).brk = d.brk := rfl
@[simp] theorem Dev.setBit_axs (d : Dev) (f : Fld) (n : Nat) (b : Bool) (i j : Nat) : (d.setBit f n b i j).axs = d.axs := rfl
@[simp] theorem Dev.setBit_wb (d : Dev) (f : Fld) (n : Nat) (b : Bool) (i j : Nat) : (d.setBit f n b i j).wb = d.wb := rfl
@[simp] theorem Dev.setBit_ctl (d : Dev) (f : Fld) (n : Nat) (b : Bool) (i j : Nat) : (d.setBit f n b i j).ctl = d.ctl := rfl
@[simp] theorem Dev.setBit_yrd (d : Dev) (f : Fld) (n : Nat) (b : Bool) (i j : Nat) : (d.setBit f n b i j).yrd = d.yrd := rfl
@[simp] theorem Dev.setBit_rad (d : Dev) (f : Fld) (n : Nat) (b : Bool) (i j : Nat) : (d.setBit f n b i j).rad = d.rad := rfl
@[simp] theorem Dev.setBit_img (d : Dev) (f : Fld) (n : Nat) (b : Bool) (i j : Nat) : (d.setBit f n b i j).img = d.img := rfl
@[simp] theorem Dev.setBit_pair (d : Dev) (f : Fld) (n : Nat) (b : Bool) (i j : Nat) : (d.setBit f n b i j).pair = d.pair := rfl
@[simp] theorem Dev.setBit_sys (d : Dev) (f : Fld) (n : Nat) (b : Bool) (i j : Nat) : (d.setBit f n b i j).sys = d.sys := rfl
@[simp] theorem Dev.setBit_out (d : Dev) (f : Fld) (n : Nat) (b : Bool) (i j : Nat) : (d.setBit f n b i j).out = d.out := rfl
@[simp] theorem Dev.setBit_free (d : Dev) (f : Fld) (n : Nat) (b : Bool) (i j : Nat) : (d.setBit f n b i j).free = d.free := rfl

@[simp] theorem Dev.emit_clk (d : Dev) (o : Out) : (d.emit o).clk = d.clk := rfl
@[simp] theorem Dev.emit_boot (d : Dev) (o : Out) : (d.emit o).boot = d.boot := rfl
@[simp] theorem Dev.emit_regs (d : Dev) (o : Out) : (d.emit o).regs = d.regs := rfl
@[simp] theorem Dev.emit_ring (d : Dev) (o : Out) : (d.emit o).ring = d.ring := rfl
@[simp] theorem Dev.emit_evt (d : Dev) (o : Out) : (d.emit o).evt = d.evt := rfl
@[simp] theorem Dev.emit_tlb (d : Dev) (o : Out) : (d.emit o).tlb = d.tlb := rfl
@[simp] theorem Dev.emit_key (d : Dev) (o : Out) : (d.emit o).key = d.key := rfl
@[simp] theorem Dev.emit_sky (d : Dev) (o : Out) : (d.emit o).sky = d.sky := rfl
@[simp] theorem Dev.emit_trk (d : Dev) (o : Out) : (d.emit o).trk = d.trk := rfl
@[simp] theorem Dev.emit_tim (d : Dev) (o : Out) : (d.emit o).tim = d.tim := rfl
@[simp] theorem Dev.emit_mtr (d : Dev) (o : Out) : (d.emit o).mtr = d.mtr := rfl
@[simp] theorem Dev.emit_aon (d : Dev) (o : Out) : (d.emit o).aon = d.aon := rfl
@[simp] theorem Dev.emit_rsv (d : Dev) (o : Out) : (d.emit o).rsv = d.rsv := rfl
@[simp] theorem Dev.emit_brk (d : Dev) (o : Out) : (d.emit o).brk = d.brk := rfl
@[simp] theorem Dev.emit_axs (d : Dev) (o : Out) : (d.emit o).axs = d.axs := rfl
@[simp] theorem Dev.emit_wb (d : Dev) (o : Out) : (d.emit o).wb = d.wb := rfl
@[simp] theorem Dev.emit_ctl (d : Dev) (o : Out) : (d.emit o).ctl = d.ctl := rfl
@[simp] theorem Dev.emit_yrd (d : Dev) (o : Out) : (d.emit o).yrd = d.yrd := rfl
@[simp] theorem Dev.emit_rad (d : Dev) (o : Out) : (d.emit o).rad = d.rad := rfl
@[simp] theorem Dev.emit_img (d : Dev) (o : Out) : (d.emit o).img = d.img := rfl
@[simp] theorem Dev.emit_pair (d : Dev) (o : Out) : (d.emit o).pair = d.pair := rfl
@[simp] theorem Dev.emit_sys (d : Dev) (o : Out) : (d.emit o).sys = d.sys := rfl
@[simp] theorem Dev.emit_free (d : Dev) (o : Out) : (d.emit o).free = d.free := rfl

@[simp] theorem Dev.pass_boot (d : Dev) (n : Nat) : (d.pass n).boot = d.boot := rfl
@[simp] theorem Dev.pass_regs (d : Dev) (n : Nat) : (d.pass n).regs = d.regs := rfl
@[simp] theorem Dev.pass_ring (d : Dev) (n : Nat) : (d.pass n).ring = d.ring := rfl
@[simp] theorem Dev.pass_evt (d : Dev) (n : Nat) : (d.pass n).evt = d.evt := rfl
@[simp] theorem Dev.pass_tlb (d : Dev) (n : Nat) : (d.pass n).tlb = d.tlb := rfl
@[simp] theorem Dev.pass_key (d : Dev) (n : Nat) : (d.pass n).key = d.key := rfl
@[simp] theorem Dev.pass_sky (d : Dev) (n : Nat) : (d.pass n).sky = d.sky := rfl
@[simp] theorem Dev.pass_trk (d : Dev) (n : Nat) : (d.pass n).trk = d.trk := rfl
@[simp] theorem Dev.pass_tim (d : Dev) (n : Nat) : (d.pass n).tim = d.tim := rfl
@[simp] theorem Dev.pass_mtr (d : Dev) (n : Nat) : (d.pass n).mtr = d.mtr := rfl
@[simp] theorem Dev.pass_aon (d : Dev) (n : Nat) : (d.pass n).aon = d.aon := rfl
@[simp] theorem Dev.pass_rsv (d : Dev) (n : Nat) : (d.pass n).rsv = d.rsv := rfl
@[simp] theorem Dev.pass_brk (d : Dev) (n : Nat) : (d.pass n).brk = d.brk := rfl
@[simp] theorem Dev.pass_axs (d : Dev) (n : Nat) : (d.pass n).axs = d.axs := rfl
@[simp] theorem Dev.pass_wb (d : Dev) (n : Nat) : (d.pass n).wb = d.wb := rfl
@[simp] theorem Dev.pass_ctl (d : Dev) (n : Nat) : (d.pass n).ctl = d.ctl := rfl
@[simp] theorem Dev.pass_yrd (d : Dev) (n : Nat) : (d.pass n).yrd = d.yrd := rfl
@[simp] theorem Dev.pass_rad (d : Dev) (n : Nat) : (d.pass n).rad = d.rad := rfl
@[simp] theorem Dev.pass_img (d : Dev) (n : Nat) : (d.pass n).img = d.img := rfl
@[simp] theorem Dev.pass_pair (d : Dev) (n : Nat) : (d.pass n).pair = d.pair := rfl
@[simp] theorem Dev.pass_sys (d : Dev) (n : Nat) : (d.pass n).sys = d.sys := rfl
@[simp] theorem Dev.pass_out (d : Dev) (n : Nat) : (d.pass n).out = d.out := rfl
@[simp] theorem Dev.pass_free (d : Dev) (n : Nat) : (d.pass n).free = d.free := rfl

@[simp] theorem Dev.passTo_boot (d : Dev) (t : Nat) : (d.passTo t).boot = d.boot := rfl
@[simp] theorem Dev.passTo_regs (d : Dev) (t : Nat) : (d.passTo t).regs = d.regs := rfl
@[simp] theorem Dev.passTo_ring (d : Dev) (t : Nat) : (d.passTo t).ring = d.ring := rfl
@[simp] theorem Dev.passTo_evt (d : Dev) (t : Nat) : (d.passTo t).evt = d.evt := rfl
@[simp] theorem Dev.passTo_tlb (d : Dev) (t : Nat) : (d.passTo t).tlb = d.tlb := rfl
@[simp] theorem Dev.passTo_key (d : Dev) (t : Nat) : (d.passTo t).key = d.key := rfl
@[simp] theorem Dev.passTo_sky (d : Dev) (t : Nat) : (d.passTo t).sky = d.sky := rfl
@[simp] theorem Dev.passTo_trk (d : Dev) (t : Nat) : (d.passTo t).trk = d.trk := rfl
@[simp] theorem Dev.passTo_tim (d : Dev) (t : Nat) : (d.passTo t).tim = d.tim := rfl
@[simp] theorem Dev.passTo_mtr (d : Dev) (t : Nat) : (d.passTo t).mtr = d.mtr := rfl
@[simp] theorem Dev.passTo_aon (d : Dev) (t : Nat) : (d.passTo t).aon = d.aon := rfl
@[simp] theorem Dev.passTo_rsv (d : Dev) (t : Nat) : (d.passTo t).rsv = d.rsv := rfl
@[simp] theorem Dev.passTo_brk (d : Dev) (t : Nat) : (d.passTo t).brk = d.brk := rfl
@[simp] theorem Dev.passTo_axs (d : Dev) (t : Nat) : (d.passTo t).axs = d.axs := rfl
@[simp] theorem Dev.passTo_wb (d : Dev) (t : Nat) : (d.passTo t).wb = d.wb := rfl
@[simp] theorem Dev.passTo_ctl (d : Dev) (t : Nat) : (d.passTo t).ctl = d.ctl := rfl
@[simp] theorem Dev.passTo_yrd (d : Dev) (t : Nat) : (d.passTo t).yrd = d.yrd := rfl
@[simp] theorem Dev.passTo_rad (d : Dev) (t : Nat) : (d.passTo t).rad = d.rad := rfl
@[simp] theorem Dev.passTo_img (d : Dev) (t : Nat) : (d.passTo t).img = d.img := rfl
@[simp] theorem Dev.passTo_pair (d : Dev) (t : Nat) : (d.passTo t).pair = d.pair := rfl
@[simp] theorem Dev.passTo_sys (d : Dev) (t : Nat) : (d.passTo t).sys = d.sys := rfl
@[simp] theorem Dev.passTo_out (d : Dev) (t : Nat) : (d.passTo t).out = d.out := rfl
@[simp] theorem Dev.passTo_free (d : Dev) (t : Nat) : (d.passTo t).free = d.free := rfl

@[simp] theorem Dev.passToMono_boot (d : Dev) (t : Nat) : (d.passToMono t).boot = d.boot := rfl
@[simp] theorem Dev.passToMono_regs (d : Dev) (t : Nat) : (d.passToMono t).regs = d.regs := rfl
@[simp] theorem Dev.passToMono_ring (d : Dev) (t : Nat) : (d.passToMono t).ring = d.ring := rfl
@[simp] theorem Dev.passToMono_evt (d : Dev) (t : Nat) : (d.passToMono t).evt = d.evt := rfl
@[simp] theorem Dev.passToMono_tlb (d : Dev) (t : Nat) : (d.passToMono t).tlb = d.tlb := rfl
@[simp] theorem Dev.passToMono_key (d : Dev) (t : Nat) : (d.passToMono t).key = d.key := rfl
@[simp] theorem Dev.passToMono_sky (d : Dev) (t : Nat) : (d.passToMono t).sky = d.sky := rfl
@[simp] theorem Dev.passToMono_trk (d : Dev) (t : Nat) : (d.passToMono t).trk = d.trk := rfl
@[simp] theorem Dev.passToMono_tim (d : Dev) (t : Nat) : (d.passToMono t).tim = d.tim := rfl
@[simp] theorem Dev.passToMono_mtr (d : Dev) (t : Nat) : (d.passToMono t).mtr = d.mtr := rfl
@[simp] theorem Dev.passToMono_aon (d : Dev) (t : Nat) : (d.passToMono t).aon = d.aon := rfl
@[simp] theorem Dev.passToMono_rsv (d : Dev) (t : Nat) : (d.passToMono t).rsv = d.rsv := rfl
@[simp] theorem Dev.passToMono_brk (d : Dev) (t : Nat) : (d.passToMono t).brk = d.brk := rfl
@[simp] theorem Dev.passToMono_axs (d : Dev) (t : Nat) : (d.passToMono t).axs = d.axs := rfl
@[simp] theorem Dev.passToMono_wb (d : Dev) (t : Nat) : (d.passToMono t).wb = d.wb := rfl
@[simp] theorem Dev.passToMono_ctl (d : Dev) (t : Nat) : (d.passToMono t).ctl = d.ctl := rfl
@[simp] theorem Dev.passToMono_yrd (d : Dev) (t : Nat) : (d.passToMono t).yrd = d.yrd := rfl
@[simp] theorem Dev.passToMono_rad (d : Dev) (t : Nat) : (d.passToMono t).rad = d.rad := rfl
@[simp] theorem Dev.passToMono_img (d : Dev) (t : Nat) : (d.passToMono t).img = d.img := rfl
@[simp] theorem Dev.passToMono_pair (d : Dev) (t : Nat) : (d.passToMono t).pair = d.pair := rfl
@[simp] theorem Dev.passToMono_sys (d : Dev) (t : Nat) : (d.passToMono t).sys = d.sys := rfl
@[simp] theorem Dev.passToMono_out (d : Dev) (t : Nat) : (d.passToMono t).out = d.out := rfl
@[simp] theorem Dev.passToMono_free (d : Dev) (t : Nat) : (d.passToMono t).free = d.free := rfl

@[simp] theorem Dev.passMono_boot (d : Dev) (n : Nat) : (d.passMono n).boot = d.boot := rfl
@[simp] theorem Dev.passMono_regs (d : Dev) (n : Nat) : (d.passMono n).regs = d.regs := rfl
@[simp] theorem Dev.passMono_ring (d : Dev) (n : Nat) : (d.passMono n).ring = d.ring := rfl
@[simp] theorem Dev.passMono_evt (d : Dev) (n : Nat) : (d.passMono n).evt = d.evt := rfl
@[simp] theorem Dev.passMono_tlb (d : Dev) (n : Nat) : (d.passMono n).tlb = d.tlb := rfl
@[simp] theorem Dev.passMono_key (d : Dev) (n : Nat) : (d.passMono n).key = d.key := rfl
@[simp] theorem Dev.passMono_sky (d : Dev) (n : Nat) : (d.passMono n).sky = d.sky := rfl
@[simp] theorem Dev.passMono_trk (d : Dev) (n : Nat) : (d.passMono n).trk = d.trk := rfl
@[simp] theorem Dev.passMono_tim (d : Dev) (n : Nat) : (d.passMono n).tim = d.tim := rfl
@[simp] theorem Dev.passMono_mtr (d : Dev) (n : Nat) : (d.passMono n).mtr = d.mtr := rfl
@[simp] theorem Dev.passMono_aon (d : Dev) (n : Nat) : (d.passMono n).aon = d.aon := rfl
@[simp] theorem Dev.passMono_rsv (d : Dev) (n : Nat) : (d.passMono n).rsv = d.rsv := rfl
@[simp] theorem Dev.passMono_brk (d : Dev) (n : Nat) : (d.passMono n).brk = d.brk := rfl
@[simp] theorem Dev.passMono_axs (d : Dev) (n : Nat) : (d.passMono n).axs = d.axs := rfl
@[simp] theorem Dev.passMono_wb (d : Dev) (n : Nat) : (d.passMono n).wb = d.wb := rfl
@[simp] theorem Dev.passMono_ctl (d : Dev) (n : Nat) : (d.passMono n).ctl = d.ctl := rfl
@[simp] theorem Dev.passMono_yrd (d : Dev) (n : Nat) : (d.passMono n).yrd = d.yrd := rfl
@[simp] theorem Dev.passMono_rad (d : Dev) (n : Nat) : (d.passMono n).rad = d.rad := rfl
@[simp] theorem Dev.passMono_img (d : Dev) (n : Nat) : (d.passMono n).img = d.img := rfl
@[simp] theorem Dev.passMono_pair (d : Dev) (n : Nat) : (d.passMono n).pair = d.pair := rfl
@[simp] theorem Dev.passMono_sys (d : Dev) (n : Nat) : (d.passMono n).sys = d.sys := rfl
@[simp] theorem Dev.passMono_out (d : Dev) (n : Nat) : (d.passMono n).out = d.out := rfl
@[simp] theorem Dev.passMono_free (d : Dev) (n : Nat) : (d.passMono n).free = d.free := rfl

@[simp] theorem Dev.setHoldover_boot (d : Dev) (b : Bool) : (d.setHoldover b).boot = d.boot := rfl
@[simp] theorem Dev.setHoldover_ring (d : Dev) (b : Bool) : (d.setHoldover b).ring = d.ring := rfl
@[simp] theorem Dev.setHoldover_evt (d : Dev) (b : Bool) : (d.setHoldover b).evt = d.evt := rfl
@[simp] theorem Dev.setHoldover_tlb (d : Dev) (b : Bool) : (d.setHoldover b).tlb = d.tlb := rfl
@[simp] theorem Dev.setHoldover_key (d : Dev) (b : Bool) : (d.setHoldover b).key = d.key := rfl
@[simp] theorem Dev.setHoldover_sky (d : Dev) (b : Bool) : (d.setHoldover b).sky = d.sky := rfl
@[simp] theorem Dev.setHoldover_trk (d : Dev) (b : Bool) : (d.setHoldover b).trk = d.trk := rfl
@[simp] theorem Dev.setHoldover_mtr (d : Dev) (b : Bool) : (d.setHoldover b).mtr = d.mtr := rfl
@[simp] theorem Dev.setHoldover_aon (d : Dev) (b : Bool) : (d.setHoldover b).aon = d.aon := rfl
@[simp] theorem Dev.setHoldover_rsv (d : Dev) (b : Bool) : (d.setHoldover b).rsv = d.rsv := rfl
@[simp] theorem Dev.setHoldover_brk (d : Dev) (b : Bool) : (d.setHoldover b).brk = d.brk := rfl
@[simp] theorem Dev.setHoldover_axs (d : Dev) (b : Bool) : (d.setHoldover b).axs = d.axs := rfl
@[simp] theorem Dev.setHoldover_wb (d : Dev) (b : Bool) : (d.setHoldover b).wb = d.wb := rfl
@[simp] theorem Dev.setHoldover_ctl (d : Dev) (b : Bool) : (d.setHoldover b).ctl = d.ctl := rfl
@[simp] theorem Dev.setHoldover_yrd (d : Dev) (b : Bool) : (d.setHoldover b).yrd = d.yrd := rfl
@[simp] theorem Dev.setHoldover_rad (d : Dev) (b : Bool) : (d.setHoldover b).rad = d.rad := rfl
@[simp] theorem Dev.setHoldover_img (d : Dev) (b : Bool) : (d.setHoldover b).img = d.img := rfl
@[simp] theorem Dev.setHoldover_pair (d : Dev) (b : Bool) : (d.setHoldover b).pair = d.pair := rfl
@[simp] theorem Dev.setHoldover_sys (d : Dev) (b : Bool) : (d.setHoldover b).sys = d.sys := rfl
@[simp] theorem Dev.setHoldover_out (d : Dev) (b : Bool) : (d.setHoldover b).out = d.out := rfl
@[simp] theorem Dev.setHoldover_free (d : Dev) (b : Bool) : (d.setHoldover b).free = d.free := rfl
@[simp] theorem Dev.setHoldover_clk (d : Dev) (b : Bool) : (d.setHoldover b).clk = d.clk := rfl

theorem onDev_pending (f : Dev → Dev) (s t : State) (h : onDev f s = .next t) : t.pending = s.pending := by
  cases h; rfl

theorem onDev_fuse (f : Dev → Dev) (s t : State) (h : onDev f s = .next t) : t.fuse = s.fuse := by
  cases h; rfl

theorem onDev_next (f : Dev → Dev) (s : State) : onDev f s = .next { s with dev := f s.dev } := rfl

end Sys2Proof.Machine
end

