-- ==== Sys2Proof/Laws/Tab.lean ====
section
/-!
SUPPORT. Laws of the sparse tables: what a find answers after a put, a delete and a filter, and the canonical form.
-/

namespace Sys2Proof.Machine

variable {α : Type}

@[simp] theorem tabFind_nil (k : Nat) : tabFind ([] : Tab α) k = none := rfl

@[simp] theorem tabFind_put_self (t : Tab α) (k : Nat) (v : α) : tabFind (tabPut t k v) k = some v := by
  induction t with
  | nil => simp [tabPut, tabFind]
  | cons p t ih =>
    obtain ⟨k', v'⟩ := p
    simp only [tabPut]
    split
    · simp [tabFind]
    · split
      · simp [tabFind]
      · next h => simp [tabFind, h, ih]

theorem tabFind_put_ne (t : Tab α) {k j : Nat} (v : α) (h : j ≠ k) : tabFind (tabPut t k v) j = tabFind t j := by
  induction t with
  | nil => simp [tabPut, tabFind, h]
  | cons p t ih =>
    obtain ⟨k', v'⟩ := p
    simp only [tabPut]
    split
    · simp [tabFind, h]
    · split
      · next e => subst e; simp [tabFind, h]
      · simp only [tabFind, ih]

@[simp] theorem tabFind_del_self (t : Tab α) (k : Nat) : tabFind (tabDel t k) k = none := by
  induction t with
  | nil => rfl
  | cons p t ih =>
    obtain ⟨k', v'⟩ := p
    by_cases h : k' = k
    · subst h; simpa [tabDel, List.filter_cons] using ih
    · have h' : k ≠ k' := fun e => h e.symm
      simpa [tabDel, List.filter_cons, h, tabFind, h'] using ih

theorem tabFind_del_ne (t : Tab α) {k j : Nat} (h : j ≠ k) : tabFind (tabDel t k) j = tabFind t j := by
  induction t with
  | nil => rfl
  | cons p t ih =>
    obtain ⟨k', v'⟩ := p
    by_cases e : k' = k
    · subst e
      simpa [tabDel, List.filter_cons, tabFind, h] using ih
    · simp only [tabDel, List.filter_cons, tabFind] at ih ⊢
      simp [e, tabFind, ih]

/-- A put keeps the canonical form. -/
theorem tabWf_put (t : Tab α) (k : Nat) (v : α) (h : tabWf t = true) : tabWf (tabPut t k v) = true := by
  have key : ∀ (t : Tab α) (m : Nat), (∀ p ∈ t, m < p.1) → m < k → ∀ p ∈ tabPut t k v, m < p.1 := by
    intro t
    induction t with
    | nil => intro m _ hk p hp; simp [tabPut] at hp; subst hp; exact hk
    | cons q t ih =>
      intro m hm hk p hp
      obtain ⟨k', v'⟩ := q
      simp only [tabPut] at hp
      split at hp
      · simp only [List.mem_cons] at hp
        rcases hp with rfl | rfl | hp
        · exact hk
        · exact hm _ (by simp)
        · exact hm p (by simp [hp])
      · split at hp
        · simp only [List.mem_cons] at hp
          rcases hp with rfl | hp
          · exact hk
          · exact hm p (by simp [hp])
        · simp only [List.mem_cons] at hp
          rcases hp with rfl | hp
          · exact hm _ (by simp)
          · exact ih m (fun q hq => hm q (by simp [hq])) hk p hp
  simp only [tabWf, decide_eq_true_eq] at h ⊢
  induction t with
  | nil => simp [tabPut]
  | cons q t ih =>
    obtain ⟨k', v'⟩ := q
    rw [List.pairwise_cons] at h
    simp only [tabPut]
    split
    · next hk =>
      rw [List.pairwise_cons]
      refine ⟨?_, List.pairwise_cons.2 h⟩
      intro p hp
      simp only [List.mem_cons] at hp
      rcases hp with rfl | hp
      · exact hk
      · exact Nat.lt_trans hk (h.1 p hp)
    · split
      · next e => subst e; exact List.pairwise_cons.2 h
      · next h1 h2 =>
        rw [List.pairwise_cons]
        exact ⟨key t k' h.1 (by omega), ih h.2⟩

/-- A delete keeps the canonical form. -/
theorem tabWf_del (t : Tab α) (k : Nat) (h : tabWf t = true) : tabWf (tabDel t k) = true := by
  have h' : t.Pairwise fun a b => a.1 < b.1 := of_decide_eq_true h
  exact decide_eq_true (h'.sublist List.filter_sublist)

end Sys2Proof.Machine
end

