-- ==== Sys2Proof/Laws/Regs.lean ====
section
/-!
SUPPORT. Laws of the register file: a read after a write of the same copy, of another copy, and of another window.
-/

namespace Sys2Proof.Machine

@[simp] theorem RegFile.sel_upd_self (r : RegFile) (s : Store) (t : Tab Nat) : (r.upd s t).sel s = t := by
  cases s <;> simp [RegFile.upd, RegFile.sel]

theorem RegFile.sel_upd_ne (r : RegFile) {s s' : Store} (t : Tab Nat) (h : s' ≠ s) : (r.upd s t).sel s' = r.sel s' := by
  cases s <;> cases s' <;> simp_all [RegFile.upd, RegFile.sel, tabFind_put_ne]

theorem RegFile.find_put_self (r : RegFile) (f : Fld) (v i j : Nat) :
    (tabFind ((r.put f v i j).sel f.store) (f.key i j)).getD (f.reset i j) = v := by
  simp only [RegFile.put, sel_upd_self]
  split
  · next h => simp [h]
  · simp

theorem RegFile.find_put_ne (r : RegFile) {f g : Fld} {i j i' j' : Nat} (v : Nat)
    (h : f.store ≠ g.store ∨ f.key i j ≠ g.key i' j') :
    tabFind ((r.put g v i' j').sel f.store) (f.key i j) = tabFind (r.sel f.store) (f.key i j) := by
  by_cases hs : f.store = g.store
  · have hk : f.key i j ≠ g.key i' j' := h.resolve_left (fun c => c hs)
    simp only [RegFile.put, hs, sel_upd_self]
    split
    · exact tabFind_del_ne _ hk
    · exact tabFind_put_ne _ _ hk
  · simp only [RegFile.put, sel_upd_ne _ _ hs]

/-- A register copy reads within its width. -/
theorem Dev.get_lt (d : Dev) (f : Fld) (i j : Nat) : d.get f i j < 2 ^ f.width := Nat.mod_lt _ (Nat.two_pow_pos _)

/-- A read after a write of the same copy gives the value cut to the width. -/
theorem Dev.get_set_self (d : Dev) (f : Fld) (v i j : Nat) (h : f.has i j = true) : (d.set f v i j).get f i j = v % 2 ^ f.width := by
  simp only [Dev.get, Dev.set, h, if_true, RegFile.find_put_self, Nat.mod_mod]

/-- A write leaves every other copy as it is. -/
theorem Dev.get_set_ne (d : Dev) {f g : Fld} (v : Nat) {i j i' j' : Nat} (h : f.store ≠ g.store ∨ f.key i j ≠ g.key i' j') :
    (d.set g v i' j').get f i j = d.get f i j := by
  by_cases hg : g.has i' j' = true
  · simp only [Dev.get, Dev.set, hg, if_true, RegFile.find_put_ne _ _ h]
  · simp only [Dev.get, Dev.set, hg, if_false, Bool.false_eq_true]

/-- A field lies within its 64 KiB window. -/
def Fld.tight (f : Fld) : Bool := f.base + f.s1 * (f.n1 - 1) + f.s2 * (f.n2 - 1) < (f.block + 1) * 0x10000 && f.lsb < 32

theorem Fld.block_of_key (f : Fld) (i j : Nat) (h : f.has i j = true) (t : f.tight = true) : f.key i j / 32 / 0x10000 = f.block := by
  simp only [Fld.has, Bool.and_eq_true, decide_eq_true_eq] at h
  simp only [Fld.tight, Bool.and_eq_true, decide_eq_true_eq] at t
  have h1 : f.s1 * i ≤ f.s1 * (f.n1 - 1) := Nat.mul_le_mul_left _ (by omega)
  have h2 : f.s2 * j ≤ f.s2 * (f.n2 - 1) := Nat.mul_le_mul_left _ (by omega)
  have h3 : f.base / 0x10000 = f.block := rfl
  simp only [Fld.key]
  omega

end Sys2Proof.Machine
end

