-- ==== Sys2Proof/Laws/Map.lean ====
section
/-!
SUPPORT. Two fields of the register map never share a copy, so a write of one leaves every other as it is.
-/

namespace Sys2Proof.Machine

/-- The copies of a field stay below the stride of its first index, and the strides are positive. -/
def Fld.inner (f : Fld) : Bool := 0 < f.s2 && f.s2 * (f.n2 - 1) < f.s1 && f.lsb < 32

/-- Two fields have no copy in common, told by their lowest bits, their ranges, or their places within equal strides. -/
def Fld.apart (f g : Fld) : Bool :=
  f.lsb != g.lsb
    || f.base + f.s1 * (f.n1 - 1) + f.s2 * (f.n2 - 1) < g.base || g.base + g.s1 * (g.n1 - 1) + g.s2 * (g.n2 - 1) < f.base
    || (f.s1 == g.s1 && f.base % f.s1 + f.s2 * (f.n2 - 1) < g.base % f.s1 && g.base % f.s1 + g.s2 * (g.n2 - 1) < f.s1)
    || (f.s1 == g.s1 && g.base % f.s1 + g.s2 * (g.n2 - 1) < f.base % f.s1 && f.base % f.s1 + f.s2 * (f.n2 - 1) < f.s1)
    || (f.s1 % f.s2 == 0 && g.s1 % f.s2 == 0 && f.s2 == g.s2 && f.base % f.s2 != g.base % f.s2)

/-- Every field of a list is apart from every later one. -/
def apartAll : List Fld → Bool
  | [] => true
  | f :: l => l.all f.apart && apartAll l

theorem regMap_inner : regMap.all Fld.inner = true := by decide +kernel

theorem regMap_tight : regMap.all Fld.tight = true := by decide +kernel

theorem regMap_apart : (List.range 0x15).all (fun b => apartAll (regMap.filter fun f => f.block == b)) = true := by decide +kernel

theorem regMap_block : regMap.all (fun f => f.block < 0x15) = true := by decide +kernel

theorem Fld.key_inj_of_inner {f : Fld} (h : f.inner = true) {i j i' j' : Nat} (a : f.has i j = true) (b : f.has i' j' = true)
    (e : f.key i j = f.key i' j') : i = i' ∧ j = j' := by
  simp only [Fld.inner, Bool.and_eq_true, decide_eq_true_eq] at h
  simp only [Fld.has, Bool.and_eq_true, decide_eq_true_eq] at a b
  simp only [Fld.key] at e
  obtain ⟨⟨h2, h1⟩, -⟩ := h
  have ja : f.s2 * j ≤ f.s2 * (f.n2 - 1) := Nat.mul_le_mul_left _ (by omega)
  have jb : f.s2 * j' ≤ f.s2 * (f.n2 - 1) := Nat.mul_le_mul_left _ (by omega)
  have e' : f.s1 * i + f.s2 * j = f.s1 * i' + f.s2 * j' := by omega
  have hi : i = i' := by
    have := congrArg (· / f.s1) e'
    simp only [Nat.mul_add_div (show f.s1 > 0 by omega), Nat.div_eq_of_lt (show f.s2 * j < f.s1 by omega), Nat.div_eq_of_lt (show f.s2 * j' < f.s1 by omega)] at this
    omega
  subst hi
  exact ⟨rfl, Nat.eq_of_mul_eq_mul_left h2 (by omega)⟩

theorem Fld.key_ne_of_apart {f g : Fld} (h : f.apart g = true) (hf : f.lsb < 32) (hg : g.lsb < 32) {i j i' j' : Nat}
    (a : f.has i j = true) (b : g.has i' j' = true) : f.key i j ≠ g.key i' j' := by
  intro e
  simp only [Fld.has, Bool.and_eq_true, decide_eq_true_eq] at a b
  simp only [Fld.key] at e
  have el : f.lsb = g.lsb := by omega
  have e' : f.base + f.s1 * i + f.s2 * j = g.base + g.s1 * i' + g.s2 * j' := by omega
  have a1 : f.s1 * i ≤ f.s1 * (f.n1 - 1) := Nat.mul_le_mul_left _ (by omega)
  have a2 : f.s2 * j ≤ f.s2 * (f.n2 - 1) := Nat.mul_le_mul_left _ (by omega)
  have b1 : g.s1 * i' ≤ g.s1 * (g.n1 - 1) := Nat.mul_le_mul_left _ (by omega)
  have b2 : g.s2 * j' ≤ g.s2 * (g.n2 - 1) := Nat.mul_le_mul_left _ (by omega)
  simp only [Fld.apart, Bool.or_eq_true, Bool.and_eq_true, decide_eq_true_eq, bne_iff_ne, ne_eq, beq_iff_eq] at h
  rcases h with ((((h | h) | h) | ⟨⟨h1, h2⟩, h3⟩) | ⟨⟨h1, h2⟩, h3⟩) | ⟨⟨⟨h1, h2⟩, h3⟩, h4⟩
  · exact h el
  · omega
  · omega
  · rw [← h1] at e'
    have m := congrArg (· % f.s1) e'
    simp only [Nat.add_right_comm _ (f.s1 * _), Nat.add_mul_mod_self_left] at m
    rw [Nat.add_mod f.base, Nat.add_mod g.base, Nat.mod_eq_of_lt (show f.s2 * j < f.s1 by omega),
      Nat.mod_eq_of_lt (show g.s2 * j' < f.s1 by omega), Nat.mod_eq_of_lt (show f.base % f.s1 + f.s2 * j < f.s1 by omega),
      Nat.mod_eq_of_lt (show g.base % f.s1 + g.s2 * j' < f.s1 by omega)] at m
    omega
  · rw [← h1] at e'
    have m := congrArg (· % f.s1) e'
    simp only [Nat.add_right_comm _ (f.s1 * _), Nat.add_mul_mod_self_left] at m
    rw [Nat.add_mod f.base, Nat.add_mod g.base, Nat.mod_eq_of_lt (show f.s2 * j < f.s1 by omega),
      Nat.mod_eq_of_lt (show g.s2 * j' < f.s1 by omega), Nat.mod_eq_of_lt (show f.base % f.s1 + f.s2 * j < f.s1 by omega),
      Nat.mod_eq_of_lt (show g.base % f.s1 + g.s2 * j' < f.s1 by omega)] at m
    omega
  · rw [← h3] at e'
    have m := congrArg (· % f.s2) e'
    simp only [Nat.add_mul_mod_self_left] at m
    rw [Nat.add_mod f.base, Nat.add_mod g.base, Nat.mul_mod f.s1, Nat.mul_mod g.s1, h1, h2] at m
    simp only [Nat.zero_mul, Nat.zero_mod, Nat.add_zero, Nat.mod_mod] at m
    exact h4 m

theorem apartAll_ne {l : List Fld} (h : apartAll l = true) {f g : Fld} (hf : f ∈ l) (hg : g ∈ l) (n : f ≠ g) :
    f.apart g = true ∨ g.apart f = true := by
  induction l with
  | nil => cases hf
  | cons x l ih =>
    simp only [apartAll, Bool.and_eq_true, List.all_eq_true] at h
    rcases List.mem_cons.1 hf with rfl | hf'
    · rcases List.mem_cons.1 hg with rfl | hg'
      · exact absurd rfl n
      · exact .inl (h.1 g hg')
    · rcases List.mem_cons.1 hg with rfl | hg'
      · exact .inr (h.1 f hf')
      · exact ih h.2 hf' hg'

theorem regMap_lsb {f : Fld} (h : f ∈ regMap) : f.lsb < 32 := by
  have := List.all_eq_true.1 regMap_inner f h
  simp only [Fld.inner, Bool.and_eq_true, decide_eq_true_eq] at this
  exact this.2

/-- Copies of different fields of the map have different keys. -/
theorem regMap_key_ne {f g : Fld} (hf : f ∈ regMap) (hg : g ∈ regMap) (n : f ≠ g) {i j i' j' : Nat}
    (a : f.has i j = true) (b : g.has i' j' = true) : f.key i j ≠ g.key i' j' := by
  by_cases e : f.block = g.block
  · have hb : f.block < 0x15 := by simpa using List.all_eq_true.1 regMap_block f hf
    have h := List.all_eq_true.1 regMap_apart f.block (List.mem_range.2 hb)
    rcases apartAll_ne h (List.mem_filter.2 ⟨hf, by simp⟩) (List.mem_filter.2 ⟨hg, by simp [e]⟩) n with h | h
    · exact Fld.key_ne_of_apart h (regMap_lsb hf) (regMap_lsb hg) a b
    · exact (Fld.key_ne_of_apart h (regMap_lsb hg) (regMap_lsb hf) b a).symm
  · intro k
    have h1 := f.block_of_key i j a (List.all_eq_true.1 regMap_tight f hf)
    have h2 := g.block_of_key i' j' b (List.all_eq_true.1 regMap_tight g hg)
    rw [k] at h1
    exact e (h1.symm.trans h2)

/-- A write of a field of the map leaves every other field of the map as it is. -/
theorem Dev.get_set_fld (d : Dev) {f g : Fld} (hf : f ∈ regMap) (hg : g ∈ regMap) (n : f ≠ g) (v i j i' j' : Nat) :
    (d.set g v i' j').get f i j = d.get f i j := by
  by_cases b : g.has i' j' = true
  · by_cases a : f.has i j = true
    · exact Dev.get_set_ne d v (.inr (regMap_key_ne hf hg n a b))
    · simp [Dev.get, a]
  · simp [Dev.get, Dev.set, b]

/-- A write of a copy leaves the other copies of the same field as they are. -/
theorem Dev.get_set_copy (d : Dev) {f : Fld} (hf : f ∈ regMap) {i j i' j' : Nat} (n : i ≠ i' ∨ j ≠ j') (v : Nat) :
    (d.set f v i' j').get f i j = d.get f i j := by
  by_cases b : f.has i' j' = true
  · by_cases a : f.has i j = true
    · refine Dev.get_set_ne d v (.inr fun e => ?_)
      have := Fld.key_inj_of_inner (List.all_eq_true.1 regMap_inner f hf) a b e
      omega
    · simp [Dev.get, a]
  · simp [Dev.get, Dev.set, b]

theorem KeepRegs.refl (ws : List Nat) (fs : List Fld) (d : Dev) : KeepRegs ws fs d d := fun _ _ _ _ _ _ => rfl

theorem KeepRegs.trans {ws : List Nat} {fs : List Fld} {a b c : Dev} (h : KeepRegs ws fs a b) (k : KeepRegs ws fs b c) : KeepRegs ws fs a c :=
  fun f m n o i j => (k f m n o i j).trans (h f m n o i j)

theorem KeepRegs.mono {ws ws' : List Nat} {fs fs' : List Fld} {a b : Dev} (h : KeepRegs ws fs a b) (m : ∀ x ∈ ws, x ∈ ws') (l : ∀ x ∈ fs, x ∈ fs') :
    KeepRegs ws' fs' a b := fun f r n o i j => h f r (fun c => n (m _ c)) (fun c => o (l _ c)) i j

theorem KeepRegs.of_regs {ws : List Nat} {fs : List Fld} {a b : Dev} (h : b.regs = a.regs) : KeepRegs ws fs a b :=
  fun f _ _ _ i j => by simp only [Dev.get, h]

/-- A write of a field in `fs` or in a window of `ws`. -/
theorem KeepRegs.set {ws : List Nat} {fs : List Fld} (d : Dev) {g : Fld} (v i j : Nat) (hg : g ∈ regMap) (h : g ∈ fs ∨ g.block ∈ ws) :
    KeepRegs ws fs d (d.set g v i j) := by
  intro f hf nw nf i' j'
  refine Dev.get_set_fld d hf hg (fun e => ?_) _ _ _ _ _
  subst e
  exact h.elim nf nw

end Sys2Proof.Machine
end

