-- ==== Sys2Proof/Laws/Ops.lean ====
section
/-!
SUPPORT. What the shared operations can do: reports (interrupts, items, records, completions) touch only the registers of
the ring and recorder windows and their own block's cause, the ring and recorder state, and what the device puts out.
-/

namespace Sys2Proof.Machine

/-- The device less its registers, ring and recorder state, output and free counter: what no report touches. -/
def Dev.rest (d : Dev) : Dev := { d with regs := {}, ring := {}, evt := {}, out := [], free := 0 }

@[simp] theorem Dev.rest_set (d : Dev) (f : Fld) (v i j : Nat) : (d.set f v i j).rest = d.rest := rfl
@[simp] theorem Dev.rest_put (d : Dev) (f : Fld) (b : Bool) (i j : Nat) : (d.put f b i j).rest = d.rest := rfl
@[simp] theorem Dev.rest_sat (d : Dev) (f : Fld) (v i j : Nat) : (d.sat f v i j).rest = d.rest := rfl
@[simp] theorem Dev.rest_inc (d : Dev) (f : Fld) (i j : Nat) : (d.inc f i j).rest = d.rest := rfl
@[simp] theorem Dev.rest_seti (d : Dev) (f : Fld) (z : Int) (i j : Nat) : (d.seti f z i j).rest = d.rest := rfl
@[simp] theorem Dev.rest_sati (d : Dev) (f : Fld) (z : Int) (i j : Nat) : (d.sati f z i j).rest = d.rest := rfl
@[simp] theorem Dev.rest_setBit (d : Dev) (f : Fld) (n : Nat) (b : Bool) (i j : Nat) : (d.setBit f n b i j).rest = d.rest := rfl
@[simp] theorem Dev.rest_emit (d : Dev) (o : Out) : (d.emit o).rest = d.rest := rfl
@[simp] theorem Dev.rest_ring (d : Dev) (r : Ring) : ({ d with ring := r } : Dev).rest = d.rest := rfl
@[simp] theorem Dev.rest_evt (d : Dev) (e : Evt) : ({ d with evt := e } : Dev).rest = d.rest := rfl
@[simp] theorem Dev.rest_nextSeq (d : Dev) (n : Nat) : (d.nextSeq n).2.rest = d.rest := rfl
@[simp] theorem Dev.rest_fresh (d : Dev) : d.fresh.2.rest = d.rest := rfl
@[simp] theorem Dev.rest_freshChal (d : Dev) (f : Fld) : (d.freshChal f).rest = d.rest := rfl

@[simp] theorem Dev.rest_devIrq (d : Dev) (b : Nat) : (d.devIrq b).rest = d.rest := by
  unfold Dev.devIrq; dsimp only; split <;> split <;> simp

@[simp] theorem Dev.rest_faultIrq (d : Dev) : d.faultIrq.rest = d.rest := Dev.rest_devIrq d 0

@[simp] theorem Dev.rest_raise (d : Dev) (f : Fld) (i v : Nat) : (d.raise f i v).rest = d.rest := by
  simp [Dev.raise]

@[simp] theorem Dev.rest_dropIrq (d : Dev) (b : Nat) : (d.dropIrq b).rest = d.rest := by
  unfold Dev.dropIrq; split <;> simp

@[simp] theorem Dev.rest_ringIrq (d : Dev) (r : Nat) : (d.ringIrq r).rest = d.rest := by
  unfold Dev.ringIrq; dsimp only; split <;> split <;> simp

@[simp] theorem Dev.rest_entriesWritten (d : Dev) (r n : Nat) (b : Bool) : (d.entriesWritten r n b).rest = d.rest := by
  simp only [Dev.entriesWritten, Dev.rest_ringIrq, Dev.rest_put]; rfl

@[simp] theorem Dev.rest_putEntries (d : Dev) (r : Nat) (b : List Byte) (n : Nat) (x : ItemRef) : (d.putEntries r b n x).rest = d.rest := by
  simp only [Dev.putEntries, Dev.rest_entriesWritten]; rfl

@[simp] theorem Dev.rest_putPad (d : Dev) (r n : Nat) : (d.putPad r n).rest = d.rest := by
  unfold Dev.putPad; dsimp only; split <;> simp

@[simp] theorem Dev.rest_putItem (d : Dev) (r src seq fl t : Nat) (b : List Byte) (k : Nat) : (d.putItem r src seq fl t b k).rest = d.rest := by
  simp [Dev.putItem]

@[simp] theorem Dev.rest_putGap (d : Dev) (src : Nat) (g : Gap) : (d.putGap src g).rest = d.rest := by
  simp [Dev.putGap]

@[simp] theorem Dev.rest_dropItem (d : Dev) (r src seq t : Nat) : (d.dropItem r src seq t).rest = d.rest := by
  simp [Dev.dropItem]

@[simp] theorem Dev.rest_item (d : Dev) (r src t : Nat) (b : List Byte) : (d.item r src t b).rest = d.rest := by
  unfold Dev.item; dsimp only
  split <;> split <;> (try split) <;> simp

@[simp] theorem Dev.rest_itemBp (d : Dev) (r src t : Nat) (b : List Byte) : (d.itemBp r src t b).2.rest = d.rest := by
  unfold Dev.itemBp; dsimp only
  split <;> (repeat' split) <;> simp

@[simp] theorem Dev.rest_evtStatus (d : Dev) : d.evtStatus.rest = d.rest := by
  unfold Dev.evtStatus; dsimp only; split <;> simp

@[simp] theorem Dev.rest_recLost (d : Dev) : d.recLost.rest = d.rest := by
  simp [Dev.recLost]

@[simp] theorem Dev.rest_pushRec (d : Dev) (t c : Nat) (a : List Byte) : (d.pushRec t c a).rest = d.rest := by
  unfold Dev.pushRec; dsimp only
  split <;> split <;> simp

/-- A record leaves everything but the registers of its windows, ring and recorder state and the output as it is. -/
@[simp] theorem Dev.rest_record (d : Dev) (c : Nat) (a : List Byte) : (d.record c a).rest = d.rest := by
  unfold Dev.record; dsimp only
  repeat' split
  all_goals first | (simp; done) | (simp only [Dev.rest_pushRec]; rfl)

@[simp] theorem Dev.rest_wantFlush (d : Dev) : d.wantFlush.rest = d.rest := rfl

@[simp] theorem Dev.rest_unlive (d : Dev) (q : Desc) : (d.unlive q).rest = d.rest := by
  unfold Dev.unlive; dsimp only; split <;> simp

@[simp] theorem Dev.rest_writeCompl (d : Dev) (q : Desc) (a b c : Nat) : (d.writeCompl q a b c).rest = d.rest := by
  unfold Dev.writeCompl; dsimp only; split <;> simp

/-- A completion leaves everything but ring registers and state and the output as it is. -/
@[simp] theorem Dev.rest_complete (d : Dev) (q : Desc) (st : Status) : (d.complete q st).rest = d.rest := by
  unfold Dev.complete; repeat' split
  all_goals simp

@[simp] theorem Dev.rest_completeAll (d : Dev) (qs : List Desc) (st : Status) : (d.completeAll qs st).rest = d.rest := by
  unfold Dev.completeAll
  induction qs generalizing d with
  | nil => rfl
  | cons q t ih => simp [List.foldl_cons, ih]

@[simp] theorem Dev.rest_toHost (d : Dev) (a : Nat) (b : List Byte) : (d.toHost a b).rest = d.rest := by
  unfold Dev.toHost; split <;> simp

/-! ### Field by field -/

theorem Dev.rest_clk {a b : Dev} (h : a.rest = b.rest) : a.clk = b.clk := (congrArg Dev.clk h :)
theorem Dev.rest_boot {a b : Dev} (h : a.rest = b.rest) : a.boot = b.boot := (congrArg Dev.boot h :)
theorem Dev.rest_tlb {a b : Dev} (h : a.rest = b.rest) : a.tlb = b.tlb := (congrArg Dev.tlb h :)
theorem Dev.rest_key {a b : Dev} (h : a.rest = b.rest) : a.key = b.key := (congrArg Dev.key h :)
theorem Dev.rest_sky {a b : Dev} (h : a.rest = b.rest) : a.sky = b.sky := (congrArg Dev.sky h :)
theorem Dev.rest_trk {a b : Dev} (h : a.rest = b.rest) : a.trk = b.trk := (congrArg Dev.trk h :)
theorem Dev.rest_tim {a b : Dev} (h : a.rest = b.rest) : a.tim = b.tim := (congrArg Dev.tim h :)
theorem Dev.rest_mtr {a b : Dev} (h : a.rest = b.rest) : a.mtr = b.mtr := (congrArg Dev.mtr h :)
theorem Dev.rest_aon {a b : Dev} (h : a.rest = b.rest) : a.aon = b.aon := (congrArg Dev.aon h :)
theorem Dev.rest_rsv {a b : Dev} (h : a.rest = b.rest) : a.rsv = b.rsv := (congrArg Dev.rsv h :)
theorem Dev.rest_brk {a b : Dev} (h : a.rest = b.rest) : a.brk = b.brk := (congrArg Dev.brk h :)
theorem Dev.rest_axs {a b : Dev} (h : a.rest = b.rest) : a.axs = b.axs := (congrArg Dev.axs h :)
theorem Dev.rest_wb {a b : Dev} (h : a.rest = b.rest) : a.wb = b.wb := (congrArg Dev.wb h :)
theorem Dev.rest_ctl {a b : Dev} (h : a.rest = b.rest) : a.ctl = b.ctl := (congrArg Dev.ctl h :)
theorem Dev.rest_yrd {a b : Dev} (h : a.rest = b.rest) : a.yrd = b.yrd := (congrArg Dev.yrd h :)
theorem Dev.rest_rad {a b : Dev} (h : a.rest = b.rest) : a.rad = b.rad := (congrArg Dev.rad h :)
theorem Dev.rest_img {a b : Dev} (h : a.rest = b.rest) : a.img = b.img := (congrArg Dev.img h :)
theorem Dev.rest_pair {a b : Dev} (h : a.rest = b.rest) : a.pair = b.pair := (congrArg Dev.pair h :)
theorem Dev.rest_sys {a b : Dev} (h : a.rest = b.rest) : a.sys = b.sys := (congrArg Dev.sys h :)

@[simp] theorem Dev.record_clk (d : Dev) (c : Nat) (a : List Byte) : (d.record c a).clk = d.clk := Dev.rest_clk (Dev.rest_record d c a)
@[simp] theorem Dev.record_boot (d : Dev) (c : Nat) (a : List Byte) : (d.record c a).boot = d.boot := Dev.rest_boot (Dev.rest_record d c a)
@[simp] theorem Dev.record_tlb (d : Dev) (c : Nat) (a : List Byte) : (d.record c a).tlb = d.tlb := Dev.rest_tlb (Dev.rest_record d c a)
@[simp] theorem Dev.record_key (d : Dev) (c : Nat) (a : List Byte) : (d.record c a).key = d.key := Dev.rest_key (Dev.rest_record d c a)
@[simp] theorem Dev.record_sky (d : Dev) (c : Nat) (a : List Byte) : (d.record c a).sky = d.sky := Dev.rest_sky (Dev.rest_record d c a)
@[simp] theorem Dev.record_trk (d : Dev) (c : Nat) (a : List Byte) : (d.record c a).trk = d.trk := Dev.rest_trk (Dev.rest_record d c a)
@[simp] theorem Dev.record_tim (d : Dev) (c : Nat) (a : List Byte) : (d.record c a).tim = d.tim := Dev.rest_tim (Dev.rest_record d c a)
@[simp] theorem Dev.record_mtr (d : Dev) (c : Nat) (a : List Byte) : (d.record c a).mtr = d.mtr := Dev.rest_mtr (Dev.rest_record d c a)
@[simp] theorem Dev.record_aon (d : Dev) (c : Nat) (a : List Byte) : (d.record c a).aon = d.aon := Dev.rest_aon (Dev.rest_record d c a)
@[simp] theorem Dev.record_rsv (d : Dev) (c : Nat) (a : List Byte) : (d.record c a).rsv = d.rsv := Dev.rest_rsv (Dev.rest_record d c a)
@[simp] theorem Dev.record_brk (d : Dev) (c : Nat) (a : List Byte) : (d.record c a).brk = d.brk := Dev.rest_brk (Dev.rest_record d c a)
@[simp] theorem Dev.record_axs (d : Dev) (c : Nat) (a : List Byte) : (d.record c a).axs = d.axs := Dev.rest_axs (Dev.rest_record d c a)
@[simp] theorem Dev.record_wb (d : Dev) (c : Nat) (a : List Byte) : (d.record c a).wb = d.wb := Dev.rest_wb (Dev.rest_record d c a)
@[simp] theorem Dev.record_ctl (d : Dev) (c : Nat) (a : List Byte) : (d.record c a).ctl = d.ctl := Dev.rest_ctl (Dev.rest_record d c a)
@[simp] theorem Dev.record_yrd (d : Dev) (c : Nat) (a : List Byte) : (d.record c a).yrd = d.yrd := Dev.rest_yrd (Dev.rest_record d c a)
@[simp] theorem Dev.record_rad (d : Dev) (c : Nat) (a : List Byte) : (d.record c a).rad = d.rad := Dev.rest_rad (Dev.rest_record d c a)
@[simp] theorem Dev.record_img (d : Dev) (c : Nat) (a : List Byte) : (d.record c a).img = d.img := Dev.rest_img (Dev.rest_record d c a)
@[simp] theorem Dev.record_pair (d : Dev) (c : Nat) (a : List Byte) : (d.record c a).pair = d.pair := Dev.rest_pair (Dev.rest_record d c a)
@[simp] theorem Dev.record_sys (d : Dev) (c : Nat) (a : List Byte) : (d.record c a).sys = d.sys := Dev.rest_sys (Dev.rest_record d c a)

@[simp] theorem Dev.pushRec_clk (d : Dev) (t c : Nat) (a : List Byte) : (d.pushRec t c a).clk = d.clk := Dev.rest_clk (Dev.rest_pushRec d t c a)
@[simp] theorem Dev.pushRec_boot (d : Dev) (t c : Nat) (a : List Byte) : (d.pushRec t c a).boot = d.boot := Dev.rest_boot (Dev.rest_pushRec d t c a)
@[simp] theorem Dev.pushRec_tlb (d : Dev) (t c : Nat) (a : List Byte) : (d.pushRec t c a).tlb = d.tlb := Dev.rest_tlb (Dev.rest_pushRec d t c a)
@[simp] theorem Dev.pushRec_key (d : Dev) (t c : Nat) (a : List Byte) : (d.pushRec t c a).key = d.key := Dev.rest_key (Dev.rest_pushRec d t c a)
@[simp] theorem Dev.pushRec_sky (d : Dev) (t c : Nat) (a : List Byte) : (d.pushRec t c a).sky = d.sky := Dev.rest_sky (Dev.rest_pushRec d t c a)
@[simp] theorem Dev.pushRec_trk (d : Dev) (t c : Nat) (a : List Byte) : (d.pushRec t c a).trk = d.trk := Dev.rest_trk (Dev.rest_pushRec d t c a)
@[simp] theorem Dev.pushRec_tim (d : Dev) (t c : Nat) (a : List Byte) : (d.pushRec t c a).tim = d.tim := Dev.rest_tim (Dev.rest_pushRec d t c a)
@[simp] theorem Dev.pushRec_mtr (d : Dev) (t c : Nat) (a : List Byte) : (d.pushRec t c a).mtr = d.mtr := Dev.rest_mtr (Dev.rest_pushRec d t c a)
@[simp] theorem Dev.pushRec_aon (d : Dev) (t c : Nat) (a : List Byte) : (d.pushRec t c a).aon = d.aon := Dev.rest_aon (Dev.rest_pushRec d t c a)
@[simp] theorem Dev.pushRec_rsv (d : Dev) (t c : Nat) (a : List Byte) : (d.pushRec t c a).rsv = d.rsv := Dev.rest_rsv (Dev.rest_pushRec d t c a)
@[simp] theorem Dev.pushRec_brk (d : Dev) (t c : Nat) (a : List Byte) : (d.pushRec t c a).brk = d.brk := Dev.rest_brk (Dev.rest_pushRec d t c a)
@[simp] theorem Dev.pushRec_axs (d : Dev) (t c : Nat) (a : List Byte) : (d.pushRec t c a).axs = d.axs := Dev.rest_axs (Dev.rest_pushRec d t c a)
@[simp] theorem Dev.pushRec_wb (d : Dev) (t c : Nat) (a : List Byte) : (d.pushRec t c a).wb = d.wb := Dev.rest_wb (Dev.rest_pushRec d t c a)
@[simp] theorem Dev.pushRec_ctl (d : Dev) (t c : Nat) (a : List Byte) : (d.pushRec t c a).ctl = d.ctl := Dev.rest_ctl (Dev.rest_pushRec d t c a)
@[simp] theorem Dev.pushRec_yrd (d : Dev) (t c : Nat) (a : List Byte) : (d.pushRec t c a).yrd = d.yrd := Dev.rest_yrd (Dev.rest_pushRec d t c a)
@[simp] theorem Dev.pushRec_rad (d : Dev) (t c : Nat) (a : List Byte) : (d.pushRec t c a).rad = d.rad := Dev.rest_rad (Dev.rest_pushRec d t c a)
@[simp] theorem Dev.pushRec_img (d : Dev) (t c : Nat) (a : List Byte) : (d.pushRec t c a).img = d.img := Dev.rest_img (Dev.rest_pushRec d t c a)
@[simp] theorem Dev.pushRec_pair (d : Dev) (t c : Nat) (a : List Byte) : (d.pushRec t c a).pair = d.pair := Dev.rest_pair (Dev.rest_pushRec d t c a)
@[simp] theorem Dev.pushRec_sys (d : Dev) (t c : Nat) (a : List Byte) : (d.pushRec t c a).sys = d.sys := Dev.rest_sys (Dev.rest_pushRec d t c a)

@[simp] theorem Dev.raise_clk (d : Dev) (f : Fld) (i v : Nat) : (d.raise f i v).clk = d.clk := Dev.rest_clk (Dev.rest_raise d f i v)
@[simp] theorem Dev.raise_boot (d : Dev) (f : Fld) (i v : Nat) : (d.raise f i v).boot = d.boot := Dev.rest_boot (Dev.rest_raise d f i v)
@[simp] theorem Dev.raise_tlb (d : Dev) (f : Fld) (i v : Nat) : (d.raise f i v).tlb = d.tlb := Dev.rest_tlb (Dev.rest_raise d f i v)
@[simp] theorem Dev.raise_key (d : Dev) (f : Fld) (i v : Nat) : (d.raise f i v).key = d.key := Dev.rest_key (Dev.rest_raise d f i v)
@[simp] theorem Dev.raise_sky (d : Dev) (f : Fld) (i v : Nat) : (d.raise f i v).sky = d.sky := Dev.rest_sky (Dev.rest_raise d f i v)
@[simp] theorem Dev.raise_trk (d : Dev) (f : Fld) (i v : Nat) : (d.raise f i v).trk = d.trk := Dev.rest_trk (Dev.rest_raise d f i v)
@[simp] theorem Dev.raise_tim (d : Dev) (f : Fld) (i v : Nat) : (d.raise f i v).tim = d.tim := Dev.rest_tim (Dev.rest_raise d f i v)
@[simp] theorem Dev.raise_mtr (d : Dev) (f : Fld) (i v : Nat) : (d.raise f i v).mtr = d.mtr := Dev.rest_mtr (Dev.rest_raise d f i v)
@[simp] theorem Dev.raise_aon (d : Dev) (f : Fld) (i v : Nat) : (d.raise f i v).aon = d.aon := Dev.rest_aon (Dev.rest_raise d f i v)
@[simp] theorem Dev.raise_rsv (d : Dev) (f : Fld) (i v : Nat) : (d.raise f i v).rsv = d.rsv := Dev.rest_rsv (Dev.rest_raise d f i v)
@[simp] theorem Dev.raise_brk (d : Dev) (f : Fld) (i v : Nat) : (d.raise f i v).brk = d.brk := Dev.rest_brk (Dev.rest_raise d f i v)
@[simp] theorem Dev.raise_axs (d : Dev) (f : Fld) (i v : Nat) : (d.raise f i v).axs = d.axs := Dev.rest_axs (Dev.rest_raise d f i v)
@[simp] theorem Dev.raise_wb (d : Dev) (f : Fld) (i v : Nat) : (d.raise f i v).wb = d.wb := Dev.rest_wb (Dev.rest_raise d f i v)
@[simp] theorem Dev.raise_ctl (d : Dev) (f : Fld) (i v : Nat) : (d.raise f i v).ctl = d.ctl := Dev.rest_ctl (Dev.rest_raise d f i v)
@[simp] theorem Dev.raise_yrd (d : Dev) (f : Fld) (i v : Nat) : (d.raise f i v).yrd = d.yrd := Dev.rest_yrd (Dev.rest_raise d f i v)
@[simp] theorem Dev.raise_rad (d : Dev) (f : Fld) (i v : Nat) : (d.raise f i v).rad = d.rad := Dev.rest_rad (Dev.rest_raise d f i v)
@[simp] theorem Dev.raise_img (d : Dev) (f : Fld) (i v : Nat) : (d.raise f i v).img = d.img := Dev.rest_img (Dev.rest_raise d f i v)
@[simp] theorem Dev.raise_pair (d : Dev) (f : Fld) (i v : Nat) : (d.raise f i v).pair = d.pair := Dev.rest_pair (Dev.rest_raise d f i v)
@[simp] theorem Dev.raise_sys (d : Dev) (f : Fld) (i v : Nat) : (d.raise f i v).sys = d.sys := Dev.rest_sys (Dev.rest_raise d f i v)

@[simp] theorem Dev.complete_clk (d : Dev) (q : Desc) (st : Status) : (d.complete q st).clk = d.clk := Dev.rest_clk (Dev.rest_complete d q st)
@[simp] theorem Dev.complete_boot (d : Dev) (q : Desc) (st : Status) : (d.complete q st).boot = d.boot := Dev.rest_boot (Dev.rest_complete d q st)
@[simp] theorem Dev.complete_tlb (d : Dev) (q : Desc) (st : Status) : (d.complete q st).tlb = d.tlb := Dev.rest_tlb (Dev.rest_complete d q st)
@[simp] theorem Dev.complete_key (d : Dev) (q : Desc) (st : Status) : (d.complete q st).key = d.key := Dev.rest_key (Dev.rest_complete d q st)
@[simp] theorem Dev.complete_sky (d : Dev) (q : Desc) (st : Status) : (d.complete q st).sky = d.sky := Dev.rest_sky (Dev.rest_complete d q st)
@[simp] theorem Dev.complete_trk (d : Dev) (q : Desc) (st : Status) : (d.complete q st).trk = d.trk := Dev.rest_trk (Dev.rest_complete d q st)
@[simp] theorem Dev.complete_tim (d : Dev) (q : Desc) (st : Status) : (d.complete q st).tim = d.tim := Dev.rest_tim (Dev.rest_complete d q st)
@[simp] theorem Dev.complete_mtr (d : Dev) (q : Desc) (st : Status) : (d.complete q st).mtr = d.mtr := Dev.rest_mtr (Dev.rest_complete d q st)
@[simp] theorem Dev.complete_aon (d : Dev) (q : Desc) (st : Status) : (d.complete q st).aon = d.aon := Dev.rest_aon (Dev.rest_complete d q st)
@[simp] theorem Dev.complete_rsv (d : Dev) (q : Desc) (st : Status) : (d.complete q st).rsv = d.rsv := Dev.rest_rsv (Dev.rest_complete d q st)
@[simp] theorem Dev.complete_brk (d : Dev) (q : Desc) (st : Status) : (d.complete q st).brk = d.brk := Dev.rest_brk (Dev.rest_complete d q st)
@[simp] theorem Dev.complete_axs (d : Dev) (q : Desc) (st : Status) : (d.complete q st).axs = d.axs := Dev.rest_axs (Dev.rest_complete d q st)
@[simp] theorem Dev.complete_wb (d : Dev) (q : Desc) (st : Status) : (d.complete q st).wb = d.wb := Dev.rest_wb (Dev.rest_complete d q st)
@[simp] theorem Dev.complete_ctl (d : Dev) (q : Desc) (st : Status) : (d.complete q st).ctl = d.ctl := Dev.rest_ctl (Dev.rest_complete d q st)
@[simp] theorem Dev.complete_yrd (d : Dev) (q : Desc) (st : Status) : (d.complete q st).yrd = d.yrd := Dev.rest_yrd (Dev.rest_complete d q st)
@[simp] theorem Dev.complete_rad (d : Dev) (q : Desc) (st : Status) : (d.complete q st).rad = d.rad := Dev.rest_rad (Dev.rest_complete d q st)
@[simp] theorem Dev.complete_img (d : Dev) (q : Desc) (st : Status) : (d.complete q st).img = d.img := Dev.rest_img (Dev.rest_complete d q st)
@[simp] theorem Dev.complete_pair (d : Dev) (q : Desc) (st : Status) : (d.complete q st).pair = d.pair := Dev.rest_pair (Dev.rest_complete d q st)
@[simp] theorem Dev.complete_sys (d : Dev) (q : Desc) (st : Status) : (d.complete q st).sys = d.sys := Dev.rest_sys (Dev.rest_complete d q st)

@[simp] theorem Dev.completeAll_clk (d : Dev) (q : List Desc) (st : Status) : (d.completeAll q st).clk = d.clk := Dev.rest_clk (Dev.rest_completeAll d q st)
@[simp] theorem Dev.completeAll_boot (d : Dev) (q : List Desc) (st : Status) : (d.completeAll q st).boot = d.boot := Dev.rest_boot (Dev.rest_completeAll d q st)
@[simp] theorem Dev.completeAll_tlb (d : Dev) (q : List Desc) (st : Status) : (d.completeAll q st).tlb = d.tlb := Dev.rest_tlb (Dev.rest_completeAll d q st)
@[simp] theorem Dev.completeAll_key (d : Dev) (q : List Desc) (st : Status) : (d.completeAll q st).key = d.key := Dev.rest_key (Dev.rest_completeAll d q st)
@[simp] theorem Dev.completeAll_sky (d : Dev) (q : List Desc) (st : Status) : (d.completeAll q st).sky = d.sky := Dev.rest_sky (Dev.rest_completeAll d q st)
@[simp] theorem Dev.completeAll_trk (d : Dev) (q : List Desc) (st : Status) : (d.completeAll q st).trk = d.trk := Dev.rest_trk (Dev.rest_completeAll d q st)
@[simp] theorem Dev.completeAll_tim (d : Dev) (q : List Desc) (st : Status) : (d.completeAll q st).tim = d.tim := Dev.rest_tim (Dev.rest_completeAll d q st)
@[simp] theorem Dev.completeAll_mtr (d : Dev) (q : List Desc) (st : Status) : (d.completeAll q st).mtr = d.mtr := Dev.rest_mtr (Dev.rest_completeAll d q st)
@[simp] theorem Dev.completeAll_aon (d : Dev) (q : List Desc) (st : Status) : (d.completeAll q st).aon = d.aon := Dev.rest_aon (Dev.rest_completeAll d q st)
@[simp] theorem Dev.completeAll_rsv (d : Dev) (q : List Desc) (st : Status) : (d.completeAll q st).rsv = d.rsv := Dev.rest_rsv (Dev.rest_completeAll d q st)
@[simp] theorem Dev.completeAll_brk (d : Dev) (q : List Desc) (st : Status) : (d.completeAll q st).brk = d.brk := Dev.rest_brk (Dev.rest_completeAll d q st)
@[simp] theorem Dev.completeAll_axs (d : Dev) (q : List Desc) (st : Status) : (d.completeAll q st).axs = d.axs := Dev.rest_axs (Dev.rest_completeAll d q st)
@[simp] theorem Dev.completeAll_wb (d : Dev) (q : List Desc) (st : Status) : (d.completeAll q st).wb = d.wb := Dev.rest_wb (Dev.rest_completeAll d q st)
@[simp] theorem Dev.completeAll_ctl (d : Dev) (q : List Desc) (st : Status) : (d.completeAll q st).ctl = d.ctl := Dev.rest_ctl (Dev.rest_completeAll d q st)
@[simp] theorem Dev.completeAll_yrd (d : Dev) (q : List Desc) (st : Status) : (d.completeAll q st).yrd = d.yrd := Dev.rest_yrd (Dev.rest_completeAll d q st)
@[simp] theorem Dev.completeAll_rad (d : Dev) (q : List Desc) (st : Status) : (d.completeAll q st).rad = d.rad := Dev.rest_rad (Dev.rest_completeAll d q st)
@[simp] theorem Dev.completeAll_img (d : Dev) (q : List Desc) (st : Status) : (d.completeAll q st).img = d.img := Dev.rest_img (Dev.rest_completeAll d q st)
@[simp] theorem Dev.completeAll_pair (d : Dev) (q : List Desc) (st : Status) : (d.completeAll q st).pair = d.pair := Dev.rest_pair (Dev.rest_completeAll d q st)
@[simp] theorem Dev.completeAll_sys (d : Dev) (q : List Desc) (st : Status) : (d.completeAll q st).sys = d.sys := Dev.rest_sys (Dev.rest_completeAll d q st)

@[simp] theorem Dev.item_clk (d : Dev) (r src t : Nat) (b : List Byte) : (d.item r src t b).clk = d.clk := Dev.rest_clk (Dev.rest_item d r src t b)
@[simp] theorem Dev.item_boot (d : Dev) (r src t : Nat) (b : List Byte) : (d.item r src t b).boot = d.boot := Dev.rest_boot (Dev.rest_item d r src t b)
@[simp] theorem Dev.item_tlb (d : Dev) (r src t : Nat) (b : List Byte) : (d.item r src t b).tlb = d.tlb := Dev.rest_tlb (Dev.rest_item d r src t b)
@[simp] theorem Dev.item_key (d : Dev) (r src t : Nat) (b : List Byte) : (d.item r src t b).key = d.key := Dev.rest_key (Dev.rest_item d r src t b)
@[simp] theorem Dev.item_sky (d : Dev) (r src t : Nat) (b : List Byte) : (d.item r src t b).sky = d.sky := Dev.rest_sky (Dev.rest_item d r src t b)
@[simp] theorem Dev.item_trk (d : Dev) (r src t : Nat) (b : List Byte) : (d.item r src t b).trk = d.trk := Dev.rest_trk (Dev.rest_item d r src t b)
@[simp] theorem Dev.item_tim (d : Dev) (r src t : Nat) (b : List Byte) : (d.item r src t b).tim = d.tim := Dev.rest_tim (Dev.rest_item d r src t b)
@[simp] theorem Dev.item_mtr (d : Dev) (r src t : Nat) (b : List Byte) : (d.item r src t b).mtr = d.mtr := Dev.rest_mtr (Dev.rest_item d r src t b)
@[simp] theorem Dev.item_aon (d : Dev) (r src t : Nat) (b : List Byte) : (d.item r src t b).aon = d.aon := Dev.rest_aon (Dev.rest_item d r src t b)
@[simp] theorem Dev.item_rsv (d : Dev) (r src t : Nat) (b : List Byte) : (d.item r src t b).rsv = d.rsv := Dev.rest_rsv (Dev.rest_item d r src t b)
@[simp] theorem Dev.item_brk (d : Dev) (r src t : Nat) (b : List Byte) : (d.item r src t b).brk = d.brk := Dev.rest_brk (Dev.rest_item d r src t b)
@[simp] theorem Dev.item_axs (d : Dev) (r src t : Nat) (b : List Byte) : (d.item r src t b).axs = d.axs := Dev.rest_axs (Dev.rest_item d r src t b)
@[simp] theorem Dev.item_wb (d : Dev) (r src t : Nat) (b : List Byte) : (d.item r src t b).wb = d.wb := Dev.rest_wb (Dev.rest_item d r src t b)
@[simp] theorem Dev.item_ctl (d : Dev) (r src t : Nat) (b : List Byte) : (d.item r src t b).ctl = d.ctl := Dev.rest_ctl (Dev.rest_item d r src t b)
@[simp] theorem Dev.item_yrd (d : Dev) (r src t : Nat) (b : List Byte) : (d.item r src t b).yrd = d.yrd := Dev.rest_yrd (Dev.rest_item d r src t b)
@[simp] theorem Dev.item_rad (d : Dev) (r src t : Nat) (b : List Byte) : (d.item r src t b).rad = d.rad := Dev.rest_rad (Dev.rest_item d r src t b)
@[simp] theorem Dev.item_img (d : Dev) (r src t : Nat) (b : List Byte) : (d.item r src t b).img = d.img := Dev.rest_img (Dev.rest_item d r src t b)
@[simp] theorem Dev.item_pair (d : Dev) (r src t : Nat) (b : List Byte) : (d.item r src t b).pair = d.pair := Dev.rest_pair (Dev.rest_item d r src t b)
@[simp] theorem Dev.item_sys (d : Dev) (r src t : Nat) (b : List Byte) : (d.item r src t b).sys = d.sys := Dev.rest_sys (Dev.rest_item d r src t b)

@[simp] theorem Dev.devIrq_clk (d : Dev) (b : Nat) : (d.devIrq b).clk = d.clk := Dev.rest_clk (Dev.rest_devIrq d b)
@[simp] theorem Dev.devIrq_boot (d : Dev) (b : Nat) : (d.devIrq b).boot = d.boot := Dev.rest_boot (Dev.rest_devIrq d b)
@[simp] theorem Dev.devIrq_tlb (d : Dev) (b : Nat) : (d.devIrq b).tlb = d.tlb := Dev.rest_tlb (Dev.rest_devIrq d b)
@[simp] theorem Dev.devIrq_key (d : Dev) (b : Nat) : (d.devIrq b).key = d.key := Dev.rest_key (Dev.rest_devIrq d b)
@[simp] theorem Dev.devIrq_sky (d : Dev) (b : Nat) : (d.devIrq b).sky = d.sky := Dev.rest_sky (Dev.rest_devIrq d b)
@[simp] theorem Dev.devIrq_trk (d : Dev) (b : Nat) : (d.devIrq b).trk = d.trk := Dev.rest_trk (Dev.rest_devIrq d b)
@[simp] theorem Dev.devIrq_tim (d : Dev) (b : Nat) : (d.devIrq b).tim = d.tim := Dev.rest_tim (Dev.rest_devIrq d b)
@[simp] theorem Dev.devIrq_mtr (d : Dev) (b : Nat) : (d.devIrq b).mtr = d.mtr := Dev.rest_mtr (Dev.rest_devIrq d b)
@[simp] theorem Dev.devIrq_aon (d : Dev) (b : Nat) : (d.devIrq b).aon = d.aon := Dev.rest_aon (Dev.rest_devIrq d b)
@[simp] theorem Dev.devIrq_rsv (d : Dev) (b : Nat) : (d.devIrq b).rsv = d.rsv := Dev.rest_rsv (Dev.rest_devIrq d b)
@[simp] theorem Dev.devIrq_brk (d : Dev) (b : Nat) : (d.devIrq b).brk = d.brk := Dev.rest_brk (Dev.rest_devIrq d b)
@[simp] theorem Dev.devIrq_axs (d : Dev) (b : Nat) : (d.devIrq b).axs = d.axs := Dev.rest_axs (Dev.rest_devIrq d b)
@[simp] theorem Dev.devIrq_wb (d : Dev) (b : Nat) : (d.devIrq b).wb = d.wb := Dev.rest_wb (Dev.rest_devIrq d b)
@[simp] theorem Dev.devIrq_ctl (d : Dev) (b : Nat) : (d.devIrq b).ctl = d.ctl := Dev.rest_ctl (Dev.rest_devIrq d b)
@[simp] theorem Dev.devIrq_yrd (d : Dev) (b : Nat) : (d.devIrq b).yrd = d.yrd := Dev.rest_yrd (Dev.rest_devIrq d b)
@[simp] theorem Dev.devIrq_rad (d : Dev) (b : Nat) : (d.devIrq b).rad = d.rad := Dev.rest_rad (Dev.rest_devIrq d b)
@[simp] theorem Dev.devIrq_img (d : Dev) (b : Nat) : (d.devIrq b).img = d.img := Dev.rest_img (Dev.rest_devIrq d b)
@[simp] theorem Dev.devIrq_pair (d : Dev) (b : Nat) : (d.devIrq b).pair = d.pair := Dev.rest_pair (Dev.rest_devIrq d b)
@[simp] theorem Dev.devIrq_sys (d : Dev) (b : Nat) : (d.devIrq b).sys = d.sys := Dev.rest_sys (Dev.rest_devIrq d b)

@[simp] theorem Dev.faultIrq_clk (d : Dev) : (d.faultIrq).clk = d.clk := Dev.rest_clk (Dev.rest_faultIrq d)
@[simp] theorem Dev.faultIrq_boot (d : Dev) : (d.faultIrq).boot = d.boot := Dev.rest_boot (Dev.rest_faultIrq d)
@[simp] theorem Dev.faultIrq_tlb (d : Dev) : (d.faultIrq).tlb = d.tlb := Dev.rest_tlb (Dev.rest_faultIrq d)
@[simp] theorem Dev.faultIrq_key (d : Dev) : (d.faultIrq).key = d.key := Dev.rest_key (Dev.rest_faultIrq d)
@[simp] theorem Dev.faultIrq_sky (d : Dev) : (d.faultIrq).sky = d.sky := Dev.rest_sky (Dev.rest_faultIrq d)
@[simp] theorem Dev.faultIrq_trk (d : Dev) : (d.faultIrq).trk = d.trk := Dev.rest_trk (Dev.rest_faultIrq d)
@[simp] theorem Dev.faultIrq_tim (d : Dev) : (d.faultIrq).tim = d.tim := Dev.rest_tim (Dev.rest_faultIrq d)
@[simp] theorem Dev.faultIrq_mtr (d : Dev) : (d.faultIrq).mtr = d.mtr := Dev.rest_mtr (Dev.rest_faultIrq d)
@[simp] theorem Dev.faultIrq_aon (d : Dev) : (d.faultIrq).aon = d.aon := Dev.rest_aon (Dev.rest_faultIrq d)
@[simp] theorem Dev.faultIrq_rsv (d : Dev) : (d.faultIrq).rsv = d.rsv := Dev.rest_rsv (Dev.rest_faultIrq d)
@[simp] theorem Dev.faultIrq_brk (d : Dev) : (d.faultIrq).brk = d.brk := Dev.rest_brk (Dev.rest_faultIrq d)
@[simp] theorem Dev.faultIrq_axs (d : Dev) : (d.faultIrq).axs = d.axs := Dev.rest_axs (Dev.rest_faultIrq d)
@[simp] theorem Dev.faultIrq_wb (d : Dev) : (d.faultIrq).wb = d.wb := Dev.rest_wb (Dev.rest_faultIrq d)
@[simp] theorem Dev.faultIrq_ctl (d : Dev) : (d.faultIrq).ctl = d.ctl := Dev.rest_ctl (Dev.rest_faultIrq d)
@[simp] theorem Dev.faultIrq_yrd (d : Dev) : (d.faultIrq).yrd = d.yrd := Dev.rest_yrd (Dev.rest_faultIrq d)
@[simp] theorem Dev.faultIrq_rad (d : Dev) : (d.faultIrq).rad = d.rad := Dev.rest_rad (Dev.rest_faultIrq d)
@[simp] theorem Dev.faultIrq_img (d : Dev) : (d.faultIrq).img = d.img := Dev.rest_img (Dev.rest_faultIrq d)
@[simp] theorem Dev.faultIrq_pair (d : Dev) : (d.faultIrq).pair = d.pair := Dev.rest_pair (Dev.rest_faultIrq d)
@[simp] theorem Dev.faultIrq_sys (d : Dev) : (d.faultIrq).sys = d.sys := Dev.rest_sys (Dev.rest_faultIrq d)

@[simp] theorem Dev.toHost_clk (d : Dev) (x : Nat) (b : List Byte) : (d.toHost x b).clk = d.clk := Dev.rest_clk (Dev.rest_toHost d x b)
@[simp] theorem Dev.toHost_boot (d : Dev) (x : Nat) (b : List Byte) : (d.toHost x b).boot = d.boot := Dev.rest_boot (Dev.rest_toHost d x b)
@[simp] theorem Dev.toHost_tlb (d : Dev) (x : Nat) (b : List Byte) : (d.toHost x b).tlb = d.tlb := Dev.rest_tlb (Dev.rest_toHost d x b)
@[simp] theorem Dev.toHost_key (d : Dev) (x : Nat) (b : List Byte) : (d.toHost x b).key = d.key := Dev.rest_key (Dev.rest_toHost d x b)
@[simp] theorem Dev.toHost_sky (d : Dev) (x : Nat) (b : List Byte) : (d.toHost x b).sky = d.sky := Dev.rest_sky (Dev.rest_toHost d x b)
@[simp] theorem Dev.toHost_trk (d : Dev) (x : Nat) (b : List Byte) : (d.toHost x b).trk = d.trk := Dev.rest_trk (Dev.rest_toHost d x b)
@[simp] theorem Dev.toHost_tim (d : Dev) (x : Nat) (b : List Byte) : (d.toHost x b).tim = d.tim := Dev.rest_tim (Dev.rest_toHost d x b)
@[simp] theorem Dev.toHost_mtr (d : Dev) (x : Nat) (b : List Byte) : (d.toHost x b).mtr = d.mtr := Dev.rest_mtr (Dev.rest_toHost d x b)
@[simp] theorem Dev.toHost_aon (d : Dev) (x : Nat) (b : List Byte) : (d.toHost x b).aon = d.aon := Dev.rest_aon (Dev.rest_toHost d x b)
@[simp] theorem Dev.toHost_rsv (d : Dev) (x : Nat) (b : List Byte) : (d.toHost x b).rsv = d.rsv := Dev.rest_rsv (Dev.rest_toHost d x b)
@[simp] theorem Dev.toHost_brk (d : Dev) (x : Nat) (b : List Byte) : (d.toHost x b).brk = d.brk := Dev.rest_brk (Dev.rest_toHost d x b)
@[simp] theorem Dev.toHost_axs (d : Dev) (x : Nat) (b : List Byte) : (d.toHost x b).axs = d.axs := Dev.rest_axs (Dev.rest_toHost d x b)
@[simp] theorem Dev.toHost_wb (d : Dev) (x : Nat) (b : List Byte) : (d.toHost x b).wb = d.wb := Dev.rest_wb (Dev.rest_toHost d x b)
@[simp] theorem Dev.toHost_ctl (d : Dev) (x : Nat) (b : List Byte) : (d.toHost x b).ctl = d.ctl := Dev.rest_ctl (Dev.rest_toHost d x b)
@[simp] theorem Dev.toHost_yrd (d : Dev) (x : Nat) (b : List Byte) : (d.toHost x b).yrd = d.yrd := Dev.rest_yrd (Dev.rest_toHost d x b)
@[simp] theorem Dev.toHost_rad (d : Dev) (x : Nat) (b : List Byte) : (d.toHost x b).rad = d.rad := Dev.rest_rad (Dev.rest_toHost d x b)
@[simp] theorem Dev.toHost_img (d : Dev) (x : Nat) (b : List Byte) : (d.toHost x b).img = d.img := Dev.rest_img (Dev.rest_toHost d x b)
@[simp] theorem Dev.toHost_pair (d : Dev) (x : Nat) (b : List Byte) : (d.toHost x b).pair = d.pair := Dev.rest_pair (Dev.rest_toHost d x b)
@[simp] theorem Dev.toHost_sys (d : Dev) (x : Nat) (b : List Byte) : (d.toHost x b).sys = d.sys := Dev.rest_sys (Dev.rest_toHost d x b)

end Sys2Proof.Machine
end

