-- ==== Sys2Proof/Laws/Report.lean ====
section
/-!
SUPPORT. The registers a report touches: interrupts, items, records and completions write the RING and EVT windows alone, and
a raised cause its own field beside them.
-/

namespace Sys2Proof.Machine

theorem mem_regMap {f : Fld} (h : regMap.elem f = true) : f ∈ regMap := List.elem_iff.1 h

/-- A record update that leaves the registers alone. -/
theorem KeepRegs.upd {ws : List Nat} {fs : List Fld} {a b c : Dev} (h : KeepRegs ws fs a b) (e : c.regs = b.regs) : KeepRegs ws fs a c :=
  h.trans (.of_regs e)

/-- One more write of a field in a window of `ws`. -/
theorem KeepRegs.then_set {ws : List Nat} {fs : List Fld} {a b : Dev} (h : KeepRegs ws fs a b) {g : Fld} (v i j : Nat)
    (hg : regMap.elem g = true) (m : g.block ∈ ws) : KeepRegs ws fs a (b.set g v i j) :=
  h.trans (.set b v i j (mem_regMap hg) (.inr (by exact m)))

variable {ws : List Nat} {fs : List Fld}

theorem KeepRegs.devIrq (m : 0x0B ∈ ws) (d : Dev) (b : Nat) : KeepRegs ws fs d (d.devIrq b) := by
  have k : ∀ d' : Dev, KeepRegs ws fs d d' → ∀ c : Bool, KeepRegs ws fs d (if c then d'.emit (.msix 32) else d') := by
    intro d' h c; cases c
    · exact h
    · exact h.upd rfl
  unfold Dev.devIrq; dsimp only
  refine k _ ?_ _
  split
  · exact (KeepRegs.refl ws fs d).then_set _ _ _ (by decide +kernel) (by exact m)
  · exact (KeepRegs.refl ws fs d).then_set _ _ _ (by decide +kernel) (by exact m)

theorem KeepRegs.raise (m : 0x0B ∈ ws) (d : Dev) {f : Fld} (hf : f ∈ regMap) (h : f ∈ fs ∨ f.block ∈ ws) (i v : Nat) :
    KeepRegs ws fs d (d.raise f i v) :=
  (KeepRegs.set d _ _ _ hf h).trans (.devIrq m _ _)

theorem KeepRegs.ringIrq (d : Dev) (r : Nat) : KeepRegs ws fs d (d.ringIrq r) := by
  unfold Dev.ringIrq; dsimp only
  split <;> split <;> exact .of_regs rfl

theorem KeepRegs.entriesWritten (m : 0x0B ∈ ws) (d : Dev) (r n : Nat) (b : Bool) : KeepRegs ws fs d (d.entriesWritten r n b) := by
  unfold Dev.entriesWritten; dsimp only
  refine KeepRegs.trans ?_ (.ringIrq _ _)
  refine KeepRegs.trans ?_ (.set _ _ _ _ (mem_regMap (by decide +kernel)) (.inr (by exact m)))
  exact ((KeepRegs.refl ws fs d).then_set _ _ _ (by decide +kernel) (by exact m)).upd rfl

theorem KeepRegs.nextSeq (d : Dev) (n : Nat) : KeepRegs ws fs d (d.nextSeq n).2 := .of_regs rfl

theorem KeepRegs.putEntries (m : 0x0B ∈ ws) (d : Dev) (r : Nat) (b : List Byte) (n : Nat) (x : ItemRef) : KeepRegs ws fs d (d.putEntries r b n x) := by
  unfold Dev.putEntries; dsimp only
  exact KeepRegs.trans (.of_regs rfl) (.entriesWritten m _ _ _ _)

theorem KeepRegs.putPad (m : 0x0B ∈ ws) (d : Dev) (r n : Nat) : KeepRegs ws fs d (d.putPad r n) := by
  unfold Dev.putPad; dsimp only; split
  · exact .refl _ _ _
  · exact .putEntries m _ _ _ _ _

theorem KeepRegs.putItem (m : 0x0B ∈ ws) (d : Dev) (r src seq fl t : Nat) (b : List Byte) (k : Nat) : KeepRegs ws fs d (d.putItem r src seq fl t b k) :=
  (KeepRegs.putPad m d r _).trans (.putEntries m _ _ _ _ _)

theorem KeepRegs.putGap (m : 0x0B ∈ ws) (d : Dev) (src : Nat) (g : Gap) : KeepRegs ws fs d (d.putGap src g) :=
  (KeepRegs.putItem m d g.ring src g.seq 2 g.tFirst (gapBody g) g.count).upd rfl

theorem KeepRegs.dropItem (m : 0x0B ∈ ws) (d : Dev) (r src seq t : Nat) : KeepRegs ws fs d (d.dropItem r src seq t) := by
  unfold Dev.dropItem; dsimp only
  exact KeepRegs.trans (.of_regs rfl) (.set _ _ _ _ (mem_regMap (by decide +kernel)) (.inr (by exact m)))

theorem KeepRegs.item (m : 0x0B ∈ ws) (d : Dev) (r src t : Nat) (b : List Byte) : KeepRegs ws fs d (d.item r src t b) := by
  have tl : ∀ d' : Dev, KeepRegs ws fs d' (d'.raise R.RING_ERR_TOO_LONG r) := fun d' =>
    .raise m d' (mem_regMap (by decide +kernel)) (.inr (by exact m)) _ _
  unfold Dev.item; dsimp only
  split
  · split
    · exact ((KeepRegs.nextSeq d src).trans (.putGap m _ _ _)).trans (.putItem m _ _ _ _ _ _ _ _)
    · split
      · exact ((KeepRegs.nextSeq d src).trans (tl _)).trans (.dropItem m _ _ _ _ _)
      · exact (KeepRegs.nextSeq d src).trans (.dropItem m _ _ _ _ _)
  · split
    · exact (KeepRegs.nextSeq d src).trans (.putItem m _ _ _ _ _ _ _ _)
    · split
      · exact ((KeepRegs.nextSeq d src).trans (tl _)).trans (.dropItem m _ _ _ _ _)
      · exact (KeepRegs.nextSeq d src).trans (.dropItem m _ _ _ _ _)

theorem KeepRegs.evtStatus (e : 0x12 ∈ ws) (d : Dev) : KeepRegs ws fs d d.evtStatus := by
  unfold Dev.evtStatus; dsimp only
  split <;> exact (((KeepRegs.refl ws fs d).then_set _ _ _ (by decide +kernel) (by exact e)).then_set _ _ _ (by decide +kernel) (by exact e)).then_set _ _ _ (by decide +kernel) (by exact e)

theorem KeepRegs.recLost (m : 0x0B ∈ ws) (e : 0x12 ∈ ws) (d : Dev) : KeepRegs ws fs d d.recLost :=
  (((KeepRegs.refl ws fs d).then_set _ _ _ (by decide +kernel) (by exact e)).trans (.raise m _ (mem_regMap (by decide +kernel)) (.inr (by exact e)) _ _)).upd rfl

theorem KeepRegs.pushRec (m : 0x0B ∈ ws) (e : 0x12 ∈ ws) (d : Dev) (t c : Nat) (a : List Byte) : KeepRegs ws fs d (d.pushRec t c a) := by
  have key : ∀ d' : Dev, KeepRegs ws fs d d' → KeepRegs ws fs d (if d'.on R.EVT_CFG_STREAM_EN then d'.item (d'.get R.EVT_CFG_RING) 0x1201 t
      (recBytes { t := t, no := d.evt.next, code := c, holdover := d.holdAt t, boot := d.get R.RING_BOOT_BOOT, arg := fit 16 a }) else d') := by
    intro d' h; split
    · exact h.trans (.item m _ _ _ _ _)
    · exact h
  unfold Dev.pushRec; dsimp only
  refine key _ (KeepRegs.trans ?_ (.evtStatus e _))
  refine KeepRegs.upd (b := if 4096 ≤ d.evt.buf.length then d.recLost else d) ?_ rfl
  split
  · exact .recLost m e d
  · exact .refl _ _ _

theorem KeepRegs.record (m : 0x0B ∈ ws) (e : 0x12 ∈ ws) (d : Dev) (c : Nat) (a : List Byte) : KeepRegs ws fs d (d.record c a) := by
  unfold Dev.record; dsimp only
  split
  · exact .pushRec m e d _ _ _
  · split
    · refine KeepRegs.trans ?_ (.pushRec m e _ _ _ _)
      refine KeepRegs.upd (b := d.set R.EVT_CLASS_STAT_TOKENS (d.get R.EVT_CLASS_STAT_TOKENS (evtClass c) - 1) (evtClass c)) ?_ rfl
      exact .set _ _ _ _ (mem_regMap (by decide +kernel)) (.inr e)
    · refine KeepRegs.trans (.of_regs rfl) (.set _ _ _ _ ?_ ?_)
      · exact mem_regMap (by decide +kernel)
      · exact .inr e

theorem KeepRegs.unlive (m : 0x0B ∈ ws) (d : Dev) (q : Desc) : KeepRegs ws fs d (d.unlive q) := by
  have h : KeepRegs ws fs d ({ d with ring := { d.ring with live := d.ring.live.filter fun x => x.no != q.no } } : Dev) := .of_regs rfl
  unfold Dev.unlive; dsimp only
  split
  · exact (h.then_set _ _ _ (by decide +kernel) (by exact m)).then_set _ _ _ (by decide +kernel) (by exact m)
  · exact h.then_set _ _ _ (by decide +kernel) (by exact m)

theorem KeepRegs.writeCompl (m : 0x0B ∈ ws) (d : Dev) (q : Desc) (a b c : Nat) : KeepRegs ws fs d (d.writeCompl q a b c) := by
  unfold Dev.writeCompl; dsimp only
  split
  · refine (KeepRegs.unlive m d q).trans (.set _ _ _ _ ?_ ?_)
    · exact mem_regMap (by decide +kernel)
    · exact .inr m
  · refine KeepRegs.trans ?_ (.entriesWritten m _ _ _ _)
    refine KeepRegs.upd (b := (d.unlive q).set R.RING_JOURNAL_JOURNAL (((d.unlive q).get R.RING_JOURNAL_JOURNAL + 1) % 2 ^ 32)) ?_ rfl
    refine (KeepRegs.unlive m d q).trans (.set _ _ _ _ ?_ ?_)
    · exact mem_regMap (by decide +kernel)
    · exact .inr m

theorem KeepRegs.complete (m : 0x0B ∈ ws) (d : Dev) (q : Desc) (st : Status) : KeepRegs ws fs d (d.complete q st) := by
  unfold Dev.complete
  split
  · exact .refl _ _ _
  · split
    · exact .of_regs rfl
    · exact .writeCompl m d _ _ _ _

theorem KeepRegs.completeAll (m : 0x0B ∈ ws) (d : Dev) (qs : List Desc) (st : Status) : KeepRegs ws fs d (d.completeAll qs st) := by
  unfold Dev.completeAll
  induction qs generalizing d with
  | nil => exact .refl _ _ _
  | cons q l ih => exact (KeepRegs.complete m d q st).trans (ih _)

end Sys2Proof.Machine
end

