-- ==== Sys2Proof/WellFormed.lean ====
section
/-!
DEFINITION. Well-formed commands: every index names a thing the device has, and what is read or received has its length.
-/

namespace Sys2Proof

/-- Host memory read for a descriptor: absent where the read failed, else of the length the descriptor reads. -/
def memWf (n : Nat) : Option (List Byte) → Bool
  | some b => b.length == n
  | none => true

/-- The operands of a command are in their ranges. -/
def Instr.wf : Instr → Bool
  | .registerWrite addr width _ => addr < 0x2000000 && addr % 4 == 0 && (width == 8 || width == 16 || width == 32)
  | .suppliesValid => true
  | .resetRelease _ => true
  | .bootListenEnd => true
  | .refAbsentRecheck _ => true
  | .sysResetWrite _ => true
  | .sysDevIdWrite _ => true
  | .vinMonTrip lines => match lines with | some n => n ≤ 16 | none => true
  | .vinMonRelease => true
  | .pwrGo _ => true
  | .powerStateEntered => true
  | .rtcAlarmWake => true
  | .perstWake => true
  | .pcntCompareWake n => n < 4
  | .deepPulseCount n => n < 4
  | .watchListen _ => true
  | .lcReq _ => true
  | .lcCommit _ => true
  | .lcDebugReq _ => true
  | .lcDebugCommit _ => true
  | .lcChallengeExpiry => true
  | .fleetCycleBoundary _ => true
  | .levelRise => true
  | .skyReinsPass => true
  | .superframeStart _ => true
  | .gpsSecondBoundary => true
  | .faultDetected _ => true
  | .d2dCrcFail _ => true
  | .d2dLinkTimeout => true
  | .regionLoss _ _ _ => true
  | .safeWatchdogExpiry => true
  | .tempSample _ _ => true
  | .biasSample _ => true
  | .biasShort => true
  | .biasRetry => true
  | .biasOpen => true
  | .agcStep _ _ _ => true
  | .rfLockAcquired _ => true
  | .spectrumUpdate _ _ _ => true
  | .jamStateFall b => b < 3
  | .autoNotchRelease b n => b < 3 && n < 6
  | .notchApply => true
  | .baseGainLearn b => b < 3
  | .skySearch => true
  | .acqCaptureDone cls band => cls < 6 && band < 3
  | .acqBinDone engine => engine < 2
  | .searchDone _ _ => true
  | .candidateDrop => true
  | .acqRestart _ _ => true
  | .autoSkyRepeat => true
  | .acqDisable _ => true
  | .bandDisable _ => true
  | .bandFault b _ => b < 3
  | .bandRetry b _ => b < 3
  | .fftEngineFault e => e < 2
  | .trkChStart ch _ => ch < 180
  | .trkChStop ch _ => ch < 180
  | .integrationEnd ch _ => ch < 180
  | .pullinTimeout ch => ch < 180
  | .fllTimeout ch => ch < 180
  | .channelLoss ch => ch < 180
  | .reacqHoldExpiry ch => ch < 180
  | .handoverRetry _ _ => true
  | .datapathDump ch _ => ch < 192
  | .spareTakeover ch => ch < 192
  | .trkDisable _ => true
  | .baseGo _ => true
  | .baseSkyLostTimeout => true
  | .rtcmMsmOutput => true
  | .rtcmPeriodicOutput => true
  | .rtcmDisable _ => true
  | .ycDisable _ => true
  | .ppsInEdge _ => true
  | .timeRefLoss => true
  | .timeNowLoRead => true
  | .rangingSlotRx slot _ => 347 ≤ slot && slot < 380
  | .calFrameTx e => e < 11
  | .yrdReports _ => true
  | .fixGatherEnd _ => true
  | .calAgeExpiry a => a < 16
  | .yrdAutoRelease m => m < 240
  | .yrdDisable _ => true
  | .cellBeaconTx => true
  | .standbyDragDecision => true
  | .dragDecision => true
  | .corrFrameTx => true
  | .downlinkTx => true
  | .uplinkRx slot _ _ _ => slot < 400
  | .joinRx slot _ => slot < 400
  | .siteBeaconTx => true
  | .siteBeaconRx slot _ _ => slot < 400
  | .masterBeaconMiss => true
  | .masterClaim => true
  | .masterResign => true
  | .siteHwmClear => true
  | .oldKeyExpiry => true
  | .radDisable _ => true
  | .route _ => true
  | .routeEvaluate _ => true
  | .parkedTimeout _ => true
  | .grantHoldEnd => true
  | .mapLoad _ => true
  | .mapCommit => true
  | .mapCommitApply => true
  | .shorten => true
  | .shortenTimeout m => m < 240
  | .evict => true
  | .segmentClose => true
  | .segmentOpen => true
  | .xferOut => true
  | .xferIn _ => true
  | .xferDone => true
  | .xferSet => true
  | .mapCrcCheck _ => true
  | .rsvDisable _ => true
  | .authAckTimeout m => m < 240
  | .missCount => true
  | .dragAssert => true
  | .dragRelease => true
  | .stop => true
  | .stopRelease => true
  | .dragInputChange _ _ => true
  | .dragInputDiscrepancy => true
  | .wdKick _ => true
  | .hostWatchdogExpiry => true
  | .wbCreate mem => memWf 32 mem
  | .wbRoutePlace => true
  | .wbBudgetExpiry i => i < 4096
  | .wbDispatch => true
  | .orderUntakenTimeout i => i < 4096
  | .machineEventTake => true
  | .wbTick => true
  | .wbDelayExpiry i => i < 4096
  | .wbWaitLimit i => i < 4096
  | .wbRunLimit i => i < 4096
  | .wbRecordWrite => true
  | .tokenSet => true
  | .tokenClear => true
  | .tokenDeliver => true
  | .wbCancel => true
  | .wbDone => true
  | .routeLoad _ => true
  | .wbMachDisableWrite m _ => m < 240
  | .wbPeek _ => true
  | .wbEccError i _ => i < 4096
  | .wbDisable _ => true
  | .ringDoorbell r _ => r < 32
  | .descriptorFetch r descs => r < 32 && descs.all fun b => b.length == 64
  | .descriptorDispatch r => r < 32
  | .gapItemWrite _ => true
  | .ringIrqTimer r => r < 32
  | .ringEnable r _ => r < 32
  | .ringDisable r _ => r < 32
  | .ringFlush r _ => r < 32
  | .descriptorReadFail r => r < 32
  | .ringStagingEcc r _ => r < 32
  | .linkLoss _ => true
  | .linkLossDropTimeout => true
  | .pcieReset => true
  | .linkUp speed width => 1 ≤ speed && speed ≤ 3 && 1 ≤ width && width ≤ 2
  | .meterSample x => x.length == 13 && x.all fun v => decide (-8388608 ≤ v) && decide (v ≤ 8388607)
  | .lineCycleEnd _ => true
  | .zxTimeout k => k < 3
  | .pulseInEdge n level => n < 16 && level < 2
  | .pulseWireFault n => n < 16
  | .pulseWireRecover n => n < 16
  | .pulseOutEmit o => o < 4
  | .meterSave => true
  | .meterAccountEcc lot => lot < 256
  | .mtrSnap => true
  | .lotOpen => true
  | .lotClose => true
  | .mtrCal => true
  | .mtrCalDone => true
  | .mtrBind => true
  | .mtrSave => true
  | .mtrIntervals => true
  | .mtrDisable _ => true
  | .loopTick l _ => l < 64
  | .loopClose l _ => l < 64
  | .ctlMode => true
  | .ctlBank => true
  | .ctlTable _ => true
  | .loopEnable l _ => l < 64
  | .loopDisable l _ => l < 64
  | .ctlDisable _ => true
  | .ctlEnable _ => true
  | .axMove => true
  | .axGmove => true
  | .axHome => true
  | .axStop => true
  | .axProfile => true
  | .axEnable => true
  | .axDisable => true
  | .axClearFault _ => true
  | .axWindow => true
  | .axMoveEnd a => a < 16
  | .axConfirm a => a < 16
  | .axStandTimeout a => a < 16
  | .axLimitInput a _ _ => a < 16
  | .axHomeEdge a src _ => a < 16 && src < 3
  | .homeMaxTravel a => a < 16
  | .axOvercurrent a => a.axis < 16 && a.coil < 2
  | .axsDisable _ => true
  | .keyCommission mem => memWf 32 mem
  | .keyImport mem => memWf 80 mem
  | .keyDerive => true
  | .keyInvalidate => true
  | .keyAttest => true
  | .keySlotEcc n => n < 64
  | .imgOpen => true
  | .imgEraseDone => true
  | .imgClose => true
  | .imgLoad _ => true
  | .imgSend _ => true
  | .pieceFrameRx slot ch code _ => slot < 400 && ch < 3 && code < 4
  | .imgInstall => true
  | .imgInstallDone => true
  | .imgActivate _ => true
  | .imgActivatePauseEnd => true
  | .imgConfirm => true
  | .imgFallback => true
  | .imgConfirmTimeout => true
  | .imgRecGo _ => true
  | .helloTx => true
  | .helloRx _ => true
  | .leaseRx _ => true
  | .copyRx _ => true
  | .copyDeadline => true
  | .ackRx _ => true
  | .releaseRx _ => true
  | .lapsedRx _ => true
  | .claimRx _ => true
  | .yieldRx _ => true
  | .takenRx _ => true
  | .leaseLapse => true
  | .partnerLeaseExpiry _ => true
  | .takeoverDelayed => true
  | .takeoverBeaconLoss => true
  | .yokeSeenAsserted => true
  | .yokeFault => true
  | .drawbarLaneFault lane => lane < 2
  | .pairPresentChange _ => true
  | .pairSwitch => true
  | .pairSwitchRun => true
  | .pairSwitchTimeout _ => true
  | .pairClaim _ => true
  | .pairYokeAssert _ => true
  | .pairSoloClaim _ => true
  | .evtFlushRun => true
  | .evtFlushAge => true
  | .evtOverrunEnd => true
  | .evtClassPeriod k => k < 256
  | .evtClrReq _ => true
  | .evtClrCommit _ => true
  | .evtClrExpiry => true
  | .evtRead => true
  | .evtFlush => true
  | .evtNote => true
  | .tlbAllotWrite _ _ => true
  | .vaonApplied => true
  | .suppliesLost _ => true
  | .xo32CrystalStart => true
  | .cellBeaconRx _ => true
  | .drawbarLaneLock lane => lane < 2
  | .axStandstill a => a < 16
  | .imgRecoveryDone _ => true
  | .meterSaveCommit => true
  | .nvKeyCommit => true

end Sys2Proof
end

