-- ==== Sys2Proof/Tests/Slice0.lean ====
section
/-!
SUPPORT. Tests: terms each check of `WellFormed` refuses, states that meet the hypotheses of every clause of every statement, and a few
single steps.
-/

set_option maxRecDepth 65536
set_option Elab.async false
set_option linter.unusedVariables false

namespace Sys2Proof.Tests

open Sys2Proof Sys2Proof.Machine

/-! ### Small states -/

/-- A running device with the reins at L3: a cell key in slot 1, a site key in slot 2, a drawbar key in slot 3, COMPLETE ring 1, SUBMIT ring 0, an item ring 2, the link up. -/
def base : Dev :=
  let d : Dev := { sys := { ran := true, up := true, xo := true, refOk := true }, boot := { lc := .field, root := some (List.replicate 32 1) } }
  let k := fun (d : Dev) (n mask : Nat) => d.fillSlot n { size := 0, usage := 0, mask := mask } (List.replicate 16 7)
  let d := k (k (k d 1 1) 2 1) 3 16
  let d := ((((d.set R.RAD_KEY_CFG_CUR_SLOT 1).set R.RAD_KEY_CFG_SITE_SLOT 2).set R.PAIR_CFG_KEY_SLOT 3).set R.PAIR_STATUS_ROLE 1).set R.SYS_LEVEL_LEVEL 3
  let d := (((d.set R.RING_GLB_STATUS_LINK_UP 1).set R.RING_CTRL_EN 1 0).set R.RING_CTRL_EN 1 1).set R.RING_CFG_KIND 1 1
  let d := ((((d.set R.RING_CFG_COMPL 1 0).set R.RING_STATUS_STATE 1 0).set R.RING_CTRL_EN 1 2).set R.RING_CFG_KIND 2 2).set R.RAD_CTRL_EN 1
  let d := ((((d.set R.YRD_STATUS_CALIBRATED 1).set R.BRK_SRC_SRC 0).set R.TIME_STATUS_SRC 1).set R.RSV_STATUS_GRANT_HOLD 0).set R.RSV_STATUS_COMPARE_OK 1
  let d := ((((d.set R.TIME_UNC_UNC 10).set R.BASE_STATUS_STATE 3).set R.CORR_STATUS_PRODUCING 1).set R.RSV_MAP_VER_VER 1).set R.RSV_STATUS_MAP_OK 1
  { d with
    clk := { yard := 3 * superframe, mono := 3 * superframe }
    ring := { busMaster := true }
    rsv := { map := [(5, fit 32 ([9, 0, 0xE8, 3] ++ zeros 20 ++ [0x21])), (6, fit 32 [1, 0, 0xE8, 3])] } }

/-- `base` after a change. -/
def ex (f : Dev → Dev) : State := { dev := f base }

/-- `base` after a change, without the queue and the fuses. -/
def exd (f : Dev → Dev) : Dev := f base

/-- A descriptor fetched from ring 0 that completes on ring 1. -/
def dq (block op : Nat) (area : List Nat) : Desc :=
  { no := 7, compl := 1, bytes := fit 64 (u8 block ++ u8 0 ++ u8 1 ++ zeros 5 ++ u64 0x55AA ++ u8 op ++ area.map fun n => BitVec.ofNat 8 n) }

/-- A descriptor handed to its block. -/
def hand (q : Desc) (d : Dev) : Dev := { d with ring := { d.ring with handed := [q], live := [q] } }

/-- A descriptor that awaits its completion. -/
def await (q : Desc) (d : Dev) : Dev := { d with ring := { d.ring with live := [q] } }

/-- A frame under the site key from cell 5, as a device in state `d` seals it. -/
def siteFr (d : Dev) (typ dst : Nat) (p : List Byte) : List Byte := d.seal (frameHdr 5 typ true 0 0xF0 dst 9) (List.replicate 16 7) 0 p

/-- A frame of the cell under its key, as a device in state `d` seals it. -/
def cellFr (d : Dev) (typ src dst ex : Nat) (p : List Byte) : List Byte := d.seal (frameHdr d.cellNo typ false 0 src dst 9) (List.replicate 16 7) ex p

/-- A JOIN frame of a serial number. -/
def joinFr (d : Dev) (serial : Nat) (p : List Byte) : List Byte :=
  d.seal (frameHdr d.cellNo 6 false 0 0xFE 0xF0 9) (kdf (List.replicate 16 7) (labelJoin ++ u64 serial) 0xFFFF 0 128) 8 (u64 serial ++ p)

/-- A frame of the partner with device ID 1, sealed under the drawbar key. -/
def dbFr (typ flags copyNo n : Nat) (body : List Byte) : List Byte :=
  let h := u8 typ ++ u8 flags ++ u16 1 ++ u16 0 ++ u16 body.length ++ u32 0 ++ u48 n ++ zeros 2 ++ u32 copyNo ++ u64 0
  h ++ gcmSeal (List.replicate 16 7) (dbIv h) h body

/-- A blob for a 256-bit key, wrapped under the key of slot 60 (R558). -/
def keyBlob (target flags : Nat) : List Byte :=
  let h := [1, 1, 0, 1] ++ u32 9 ++ u16 0 ++ u8 target ++ u8 flags ++ zeros 4
  h ++ zeros 16 ++ gcmSeal (List.replicate 32 7) (zeros 12) h (List.replicate 32 9)

/-- A container of one byte for a part, under the image key (R581). -/
def container (part : Nat) : List Byte :=
  let h := u32 0x71920C01 ++ u8 1 ++ u8 part ++ zeros 38 ++ u32 1 ++ u32 0 ++ sha256 [5] ++ zeros 12
  let c := gcmSeal (List.replicate 32 7) (zeros 12) h [5]
  h ++ zeros 16 ++ c.drop 1 ++ c.take 1

/-- What `Ready` asks, as one decidable statement. -/
theorem ready_of {b op : Nat} {q : Desc} {d : Dev} (h : d.ring.handed.find? (fun x => x.block == b && x.op == op) = some q ∧ q.bytes.length = 64 ∧ d.isLive q = true ∧
    d.ringsHeld = false ∧ d.linkUp = true ∧ d.on R.RING_CTRL_EN q.compl = true ∧ d.taking.all (fun x => x.no != q.no) = true) : Ready b op q d :=
  ⟨h.1, h.2.1, h.2.2.1, h.2.2.2.1, h.2.2.2.2.1, h.2.2.2.2.2.1, h.2.2.2.2.2.2⟩

/-- What `Awaits` asks, as one decidable statement. -/
theorem awaits_of {q : Desc} {d : Dev} (h : q.bytes.length = 64 ∧ d.isLive q = true ∧ d.ringsHeld = false ∧ d.linkUp = true ∧ d.on R.RING_CTRL_EN q.compl = true) : Awaits q d :=
  ⟨h.1, h.2.1, h.2.2.1, h.2.2.2.1, h.2.2.2.2⟩

/-- A verdict that a check failed is not that of a good container. -/
theorem not_good {x : ImgVerdict} {c : Nat} (h : x = .bad c) : ∀ b, x ≠ .good b := by
  intro b hb; rw [h] at hb; cases hb

/-! ### Well-formedness: one ill-formed command for each check -/

/-- Accesses, supplies, sky and tracking. -/
theorem test_wf_refuses_sky : ([.registerWrite 0x2000000 32 0, .registerWrite 2 32 0, .registerWrite 4 64 0, .vinMonTrip (some 17), .pcntCompareWake 4, .deepPulseCount 4,
    .jamStateFall 3, .autoNotchRelease 3 0, .autoNotchRelease 0 6, .baseGainLearn 3, .acqCaptureDone 6 0, .acqCaptureDone 0 3, .acqBinDone 2, .bandFault 3 0,
    .bandRetry 3 false, .fftEngineFault 2, .trkChStart 180 0, .trkChStop 180 0, .integrationEnd 180 {}, .pullinTimeout 180, .fllTimeout 180, .channelLoss 180,
    .reacqHoldExpiry 180, .datapathDump 192 none, .spareTakeover 192] : List Instr).all (fun c => !c.wf) = true := by decide +kernel

/-- Ranging, radio, tracks, brakes and waybills. -/
theorem test_wf_refuses_track : ([.rangingSlotRx 346 none, .rangingSlotRx 380 none, .calFrameTx 11, .calAgeExpiry 16, .yrdAutoRelease 240, .uplinkRx 400 0 0 [], .joinRx 400 [],
    .siteBeaconRx 400 0 [], .shortenTimeout 240, .authAckTimeout 240, .wbCreate (some []), .wbBudgetExpiry 4096, .orderUntakenTimeout 4096, .wbDelayExpiry 4096,
    .wbWaitLimit 4096, .wbRunLimit 4096, .wbMachDisableWrite 240 0, .wbEccError 4096 0, .pieceFrameRx 400 0 0 [], .pieceFrameRx 0 3 0 [], .pieceFrameRx 0 0 4 []] :
    List Instr).all (fun c => !c.wf) = true := by decide +kernel

/-- Rings, metering, loops, axes, keys, the drawbar and the recorder. -/
theorem test_wf_refuses_rest : ([.ringDoorbell 32 0, .descriptorFetch 32 [], .descriptorFetch 0 [[]], .descriptorDispatch 32, .ringIrqTimer 32, .ringEnable 32 0, .ringDisable 32 0,
    .ringFlush 32 0, .descriptorReadFail 32, .ringStagingEcc 32 .corrected, .linkUp 0 1, .linkUp 4 1, .linkUp 1 0, .linkUp 1 3, .meterSample [],
    .meterSample (List.replicate 13 8388608), .meterSample (List.replicate 13 (-8388609)), .zxTimeout 3, .pulseInEdge 16 0, .pulseInEdge 0 2, .pulseWireFault 16,
    .pulseWireRecover 16, .pulseOutEmit 4, .meterAccountEcc 256, .loopTick 64 {}, .loopClose 64 {}, .loopEnable 64 0, .loopDisable 64 0, .axMoveEnd 16, .axConfirm 16,
    .axStandTimeout 16, .axStandstill 16, .axLimitInput 16 true true, .axHomeEdge 16 0 .raw, .axHomeEdge 0 3 .raw, .homeMaxTravel 16, .axOvercurrent ⟨16, 0, []⟩, .axOvercurrent ⟨0, 2, []⟩,
    .keyCommission (some []), .keyImport (some []), .keySlotEcc 64, .drawbarLaneFault 2, .drawbarLaneLock 2, .evtClassPeriod 256] :
    List Instr).all (fun c => !c.wf) = true := by decide +kernel

/-! ### Steps -/

/-- The queue is first in, first out (R1): the reset comes first and the doorbell still waits. -/
theorem test_front_first : ∃ t, step { dev := base, pending := [.sysResetWrite 0xA5A5, .ringDoorbell 0 3] } = .next t ∧ t.pending = [.ringDoorbell 0 3] ∧ t.dev.sys.ran = false :=
  ⟨_, rfl, rfl, by decide +kernel⟩

/-- A nanosecond passes when no command waits. -/
theorem test_idle : ∃ t, step State.reset = .next t ∧ t.dev.clk.yard = 1 := ⟨_, rfl, by decide +kernel⟩

/-- The rows have no bits: no word spells a command, and nothing is put in front. -/
theorem test_words : decodeTableWord 8 0 = none ∧ State.reset.withFetchWord 8 0 = State.reset := by decide

/-- R6: a 16-bit write is discarded, a 32-bit write is stored. -/
theorem test_write_width : (base.writeAddr R.SYS_LEVEL_CFG_CAP.addr 2).get R.SYS_LEVEL_CFG_CAP = 2 ∧
    (∃ t, exec (.registerWrite R.SYS_LEVEL_CFG_CAP.addr 16 2) { dev := base } = .next t ∧ t.dev.get R.SYS_LEVEL_CFG_CAP = base.get R.SYS_LEVEL_CFG_CAP) :=
  ⟨by decide +kernel, _, rfl, by decide +kernel⟩

/-- A descriptor with a reserved byte set is refused, not carried out (R418). -/
theorem test_bad_descriptor : ∃ t, exec .dragAssert { dev := hand (dq 9 1 [0, 1, 1]) base } = .next t ∧ t.dev.get R.BRK_SRC_SRC = 0 ∧ t.dev.ring.live = [] :=
  ⟨_, rfl, by decide +kernel⟩

/-! ### Figures of the spec -/

/-- The check value of the CRC-32 of IEEE 802.3 and of the CRC-16 with start value 0xFFFF, over the digits 1 to 9. -/
theorem test_crc : crc32 [0x31, 0x32, 0x33, 0x34, 0x35, 0x36, 0x37, 0x38, 0x39] = 0xCBF43926 ∧
    crc16 [0x31, 0x32, 0x33, 0x34, 0x35, 0x36, 0x37, 0x38, 0x39] = 0x29B1 := by decide +kernel

/-- FIPS 197, appendix C.1: the AES-128 example. -/
theorem test_aes : aes (roundKeys ((List.range 16).map fun n => BitVec.ofNat 8 n)) ((List.range 16).map fun n => BitVec.ofNat 8 (17 * n)) =
    [0x69, 0xC4, 0xE0, 0xD8, 0x6A, 0x7B, 0x04, 0x30, 0xD8, 0xCD, 0xB7, 0x80, 0x70, 0xB4, 0xC5, 0x5A] := by decide +kernel

/-- FIPS 180-2, appendix B.1: SHA-256 of the letters a, b, c. -/
theorem test_sha256 : sha256 [0x61, 0x62, 0x63] =
    [0xBA, 0x78, 0x16, 0xBF, 0x8F, 0x01, 0xCF, 0xEA, 0x41, 0x41, 0x40, 0xDE, 0x5D, 0xAE, 0x22, 0x23, 0xB0, 0x03, 0x61, 0xA3, 0x96, 0x17, 0x7A, 0x9C, 0xB4, 0x10, 0xFF, 0x61,
     0xF2, 0x00, 0x15, 0xAD] := by decide +kernel

/-- R128: PLL_BW 30 Hz on GPS L1 C/A runs at 5 ms; 10 Hz at 20 ms. -/
theorem test_tint : tintApplied 1 20 0 120 = 5 ∧ tintApplied 1 20 0 40 = 20 := by decide

/-- Cart 12 of the spec's worked example (R333, R334). -/
def cart : Dev := exd fun d => ((((((d.set R.BRK_MODEL_A_BRAKE 120 12).set R.BRK_MODEL_A_ACC 50 12).set R.BRK_MODEL_T 400 12).set R.BRK_MODEL_V_MAX 60 12).set R.BRK_MODEL_FRONT 200 12).set R.RSV_MACH_REAR 450 12)

/-- Its authority over 310, 311 and 312. -/
def cartAuth : Auth := { els := [{ seg := 310, len := 2400, vmax := 50 }, { seg := 311, len := 800, vmax := 40 }, { seg := 312, len := 600, vmax := 20, grade := -10 }], eoa := 3700 }

/-- The permitted speeds of the three reports: 2.000, 1.000 and 0.417 m/s. -/
theorem test_cart : cart.permitted 12 cartAuth 2700 4 = 2000 ∧ cart.permitted 12 cartAuth 3350 4 = 1000 ∧ cart.permitted 12 cartAuth 3450 4 = 417 := by decide +kernel

/-- Where the reports place the cart (R320): 27 m, 33.5 m and 34.5 m. -/
theorem test_cart_place : xRef cartAuth.els 311 300 = some 2700 ∧ xRef cartAuth.els 312 150 = some 3350 ∧ xRef cartAuth.els 312 250 = some 3450 ∧ xRef cartAuth.els 5 0 = none := by decide

/-- Dock 3 of the spec's worked example (R453, R456): sets 0 to 3 of channel 10 at a current in mA. -/
def dock (i : Nat) : Dev :=
  let put := fun (d : Dev) (k i g p : Nat) => (((d.set R.MTR_CAL_VALID 1 10 k).set R.MTR_CAL_I_PT i 10 k).set R.MTR_CAL_GAIN (g * 2 ^ 22 / 100000) 10 k).set R.MTR_CAL_PHASE p 10 k
  let d := put (put (put (put base 0 500 100412 410) 1 5000 100165 278) 2 50000 100090 190) 3 160000 100120 150
  { d with mtr := { d.mtr with irms := [(10, i)] } }

/-- A cart charging at 30.0 A takes PHASE 229, one at 185 A set 3 unchanged with EXTRAP. -/
theorem test_dock : (((dock 30000).calCoef 10).2.1, ((dock 30000).calCoef 10).2.2) = ((229 : Int), false) ∧
    (((dock 185000).calCoef 10).2.1, ((dock 185000).calCoef 10).2.2) = ((150 : Int), true) := by decide +kernel

/-! ### The hypotheses of every statement can be met -/

/-- A command waits in front. -/
theorem test_StepRunsTheFrontCommand_front_met : ∃ (c : Instr) (rest : List Instr) (s : State), s.pending = c :: rest :=
  ⟨.skySearch, [], { pending := [.skySearch] }, rfl⟩


/-- The hypotheses of every clause of `StepRunsTheFrontCommand` can be met. -/
theorem test_StepRunsTheFrontCommand_met :
    (∃ (s : State), s.pending = []) ∧
    (∃ (d : Dev), d.timeGoes = true ∧ d.clk.slew = 0) ∧
    (∃ (d : Dev), d.timeGoes = false) :=
  ⟨⟨ex fun d => d, by decide +kernel⟩,
   ⟨exd fun d => ({ d with clk := { d.clk with slew := 0 } } : Dev), by decide +kernel⟩,
   ⟨exd fun d => { d with sys := { d.sys with field := true } }, by decide +kernel⟩⟩

/-- The hypotheses of every clause of `FusesOnlyGoForward` can be met. -/
theorem test_FusesOnlyGoForward_met : ∃ (f : Fuse) (s : State) (t : State), FuseAfter f s.fuse ∧ step s = .next t :=
  ⟨{}, State.reset, { State.reset with dev := { State.reset.dev with clk := { State.reset.dev.clk with yard := State.reset.dev.clk.yard + 1, mono := State.reset.dev.clk.mono + 1 } } }, ⟨.same _, fun _ h => h, fun _ => rfl, fun _ => Nat.le_refl _, rfl⟩, rfl⟩

/-- The hypotheses of every clause of `HostWriteByAccessType` can be met. -/
theorem test_HostWriteByAccessType_met :
    (∃ (d : Dev) (f : Fld) (i : Nat) (j : Nat) (v : Nat), f ∈ regMap ∧ f.has i j = true ∧ f.acc = .rw ∧ f.lists i (bits v f.lsb f.width) = true) ∧
    (∃ (d : Dev) (f : Fld) (i : Nat) (j : Nat) (v : Nat), f ∈ regMap ∧ f.acc = .rw ∧ f.lists i (bits v f.lsb f.width) = false) ∧
    (∃ (d : Dev) (f : Fld) (i : Nat) (j : Nat) (v : Nat), f.acc = .ro) ∧
    (∃ (addr : Nat) (w : Nat) (v : Word32) (s : State), (w ≠ 32 ∨ addr % 4 ≠ 0)) ∧
    (∃ (f : Fld) (i : Nat) (j : Nat) (v : Word32) (s : State), f ∈ regMap ∧ f.has i j = true ∧ f.acc = .rw ∧ plainReg f = true ∧ s.dev.writable f = true ∧ (s.dev.paired = false ∨ s.dev.reins = true ∨ ∀ g ∈ fieldsAt (f.addr i j), copiedSetting g.1 = false) ∧ f.lists i (bits v.toNat f.lsb f.width) = true) :=
  ⟨⟨exd fun d => d, R.SYS_LEVEL_CFG_CAP, 0, 0, 2, by decide +kernel⟩,
   ⟨exd fun d => d, R.RING_CFG_KIND, 0, 0, 3, by decide +kernel⟩,
   ⟨exd fun d => d, R.RING_PROD_P, 0, 0, 0, by decide +kernel⟩,
   ⟨0, 0, 0, ex fun d => d, by decide +kernel⟩,
   ⟨R.SYS_LEVEL_CFG_CAP, 0, 0, 2, ex fun d => d, by decide +kernel⟩⟩

/-- The hypotheses of every clause of `ResetsWipeSram` can be met. -/
theorem test_ResetsWipeSram_met :
    (∃ (s : State), s.dev.sys.supplies = false ∧ s.dev.sys.vin = true) ∧
    (∃ (s : State), s.dev.sys.vin = false ∧ s.dev.sys.supplies = true) ∧
    (∃ (v : Word32) (s : State), v.toNat = 0xA5A5 ∧ s.dev.writable R.SYS_RESET_KEY = true) ∧
    (∃ (v : Word32) (s : State), v.toNat ≠ 0xA5A5) ∧
    (∃ (s : State), s.dev.evt.nvmLost = false) :=
  ⟨⟨ex fun d => ({ d with sys := { d.sys with supplies := false } } : Dev), by decide +kernel⟩,
   ⟨ex fun d => ({ d with sys := { d.sys with vin := false } } : Dev), by decide +kernel⟩,
   ⟨42405, ex fun d => d, by decide +kernel⟩,
   ⟨0, ex fun d => d, by decide +kernel⟩,
   ⟨ex fun d => d, by decide +kernel⟩⟩

/-- The hypotheses of every clause of `BootSequence` can be met. -/
theorem test_BootSequence_met :
    (∃ (b : BootIn) (s : State), s.dev.sys.supplies = true ∧ s.dev.sys.vin = true ∧ s.dev.sys.ran = false ∧ b.ref = false) ∧
    (∃ (b : BootIn) (s : State), s.dev.sys.supplies = true ∧ s.dev.sys.vin = true ∧ s.dev.sys.ran = false ∧ b.ref = true) ∧
    (∃ (b : BootIn) (s : State), s.dev.on R.SYS_BOOT_STATUS_REF_ABSENT = true ∧ s.dev.sys.refOk = false ∧ s.dev.powered = true ∧ b.ref = false) ∧
    (∃ (b : BootIn) (s : State), s.dev.on R.SYS_BOOT_STATUS_REF_ABSENT = true ∧ s.dev.sys.refOk = false ∧ s.dev.powered = true ∧ b.ref = true) ∧
    (∃ (s : State) (t0 : Nat), s.dev.rad.listenTo = some t0 ∧ s.dev.sys.up = false ∧ s.dev.imaged = true ∧ s.dev.get R.PWR_STATUS_STATE = 0) :=
  ⟨⟨{ ref := false }, ex fun d => ({ d with sys := { d.sys with ran := false } } : Dev), by decide +kernel⟩,
   ⟨{}, ex fun d => ({ d with sys := { d.sys with ran := false } } : Dev), by decide +kernel⟩,
   ⟨{ ref := false }, ex fun d => ({ d with sys := { d.sys with refOk := false } } : Dev).set R.SYS_BOOT_STATUS_REF_ABSENT 1, by decide +kernel⟩,
   ⟨{}, ex fun d => ({ d with sys := { d.sys with refOk := false } } : Dev).set R.SYS_BOOT_STATUS_REF_ABSENT 1, by decide +kernel⟩,
   ⟨ex fun d => ({ d with rad := { d.rad with listenTo := some 0 }, sys := { d.sys with up := false } } : Dev).set R.PWR_STATUS_STATE 0, 0, by decide +kernel⟩⟩

/-- The hypotheses of every clause of `DeviceIdWrite` can be met. -/
theorem test_DeviceIdWrite_met :
    (∃ (v : Word32) (s : State), bits v.toNat 16 16 = 0xD1D0 ∧ s.dev.writable R.SYS_DEV_ID_NEXT_ID = true ∧ s.dev.authorityHeld = false) ∧
    (∃ (v : Word32) (s : State), bits v.toNat 16 16 = 0xD1D0 ∧ s.dev.writable R.SYS_DEV_ID_NEXT_ID = true ∧ s.dev.authorityHeld = true) ∧
    (∃ (v : Word32) (s : State), bits v.toNat 16 16 ≠ 0xD1D0 ∧ s.dev.writable R.SYS_DEV_ID_NEXT_ID = true) :=
  ⟨⟨0xD1D003FF, ex fun d => d, by decide +kernel⟩,
   ⟨0xD1D003FF, ex fun d => ({ d with brk := { d.brk with m := [(9, { auth := some {} })] } } : Dev), by decide +kernel⟩,
   ⟨0x2000, ex fun d => d, by decide +kernel⟩⟩

/-- The hypotheses of every clause of `SuppliesAndIsland` can be met. -/
theorem test_SuppliesAndIsland_met :
    (∃ (n : Option Nat) (s : State), s.dev.sys.vin = true) ∧
    (∃ (s : State), s.dev.sys.supplies = true) ∧
    (∃ (s : State), s.dev.sys.supplies = true ∧ s.dev.sys.vaon = true) ∧
    (∃ (s : State), s.dev.sys.vaon = true ∧ s.dev.sys.xo = false) ∧
    (∃ (s : State), s.dev.sys.vaon = true ∧ s.dev.sys.xo = false ∧ s.dev.powered = true ∧ s.dev.sys.field = false ∧ 12 ∉ s.dev.sys.lost) ∧
    (∃ (n : Nat) (s : State), n < 4 ∧ s.dev.get R.PWR_STATUS_STATE = 2 ∧ s.dev.sys.vaon = true) :=
  ⟨⟨none, ex fun d => d, by decide +kernel⟩,
   ⟨ex fun d => d, by decide +kernel⟩,
   ⟨ex fun d => d, by decide +kernel⟩,
   ⟨ex fun d => ({ d with sys := { d.sys with xo := false } } : Dev), by decide +kernel⟩,
   ⟨ex fun d => ({ d with sys := { d.sys with xo := false } } : Dev), by decide +kernel⟩,
   ⟨3, ex fun d => d.set R.PWR_STATUS_STATE 2, by decide +kernel⟩⟩

/-- The hypotheses of every clause of `PowerStateChanges` can be met. -/
theorem test_PowerStateChanges_met :
    (∃ (v : Word32) (s : State), s.dev.writable R.PWR_CTRL_GO = true ∧ s.dev.sys.target = none ∧ s.dev.get R.PWR_STATUS_STATE = 0 ∧ bitOf v.toNat 8 = true ∧ (v.toNat % 4 = 1 ∨ v.toNat % 4 = 2) ∧ (s.dev.writeAddr R.PWR_CTRL_TARGET.addr v.toNat).stayWhy = 0) ∧
    (∃ (v : Word32) (s : State), s.dev.writable R.PWR_CTRL_GO = true ∧ s.dev.sys.target = none ∧ s.dev.get R.PWR_STATUS_STATE = 0 ∧ bitOf v.toNat 8 = true ∧ (v.toNat % 4 = 1 ∨ v.toNat % 4 = 2) ∧ (s.dev.writeAddr R.PWR_CTRL_TARGET.addr v.toNat).stayWhy ≠ 0) ∧
    (∃ (s : State) (k : Nat), s.dev.sys.target = some k ∧ (k = 1 ∨ k = 2) ∧ s.dev.sys.wake = none) ∧
    (∃ (s : State), s.dev.get R.PWR_RTC_ALARM_ALARM_S ≠ 0 ∧ s.dev.on R.PWR_WAKE_CFG_RTC_EN = true ∧ s.dev.get R.PWR_STATUS_STATE = 1 ∧ s.dev.sys.target = none) ∧
    (∃ (s : State), s.dev.on R.PWR_WAKE_CFG_PERST_EN = true ∧ s.dev.get R.PWR_STATUS_STATE = 1 ∧ s.dev.sys.target = none) ∧
    (∃ (n : Nat) (s : State), n < 4 ∧ s.dev.bit R.PWR_WAKE_CFG_PCNT_EN n = true ∧ s.dev.get R.PWR_PCNT_CMP_CMP n ≤ tabGet s.dev.aon.cmp n ∧ s.dev.get R.PWR_STATUS_STATE = 2 ∧ s.dev.sys.vaon = true ∧ s.dev.sys.vin = true ∧ s.dev.sys.supplies = true) ∧
    (∃ (frame : List Byte) (p : List Byte) (e : Dev) (i : Nat) (s : State), i < 4 ∧ s.dev.get R.PWR_STATUS_STATE = 1 ∧ s.dev.timed = true ∧ 11 ∉ s.dev.sys.lost ∧ (s.dev.passTo ((if s.dev.now % second ≤ 396 * slotLen then s.dev.gpsSec else s.dev.gpsSec + 1) * second + 396 * slotLen)).receiveSite frame (fType frame == 7 && siteDst frame) = (some p, e) ∧ e.on R.PWR_WAKE_CFG_RADIO_EN = true ∧ fld p (22 + 2 * i) 2 = e.id ∧ fld p 0 2 % 1024 ≠ e.id) :=
  ⟨⟨0x102, ex fun d => d.set R.PWR_STATUS_STATE 0, by decide +kernel⟩,
   ⟨0x101, ex fun d => ({ d with brk := { d.brk with m := [(9, { auth := some {} })] } } : Dev).set R.PWR_STATUS_STATE 0, by decide +kernel⟩,
   ⟨ex fun d => ({ d with sys := { d.sys with target := some 2 } } : Dev), 2, by decide +kernel⟩,
   ⟨ex fun d => ((d.set R.PWR_WAKE_CFG_RTC_EN 1).set R.PWR_RTC_ALARM_ALARM_S 1).set R.PWR_STATUS_STATE 1, by decide +kernel⟩,
   ⟨ex fun d => (d.set R.PWR_WAKE_CFG_PERST_EN 1).set R.PWR_STATUS_STATE 1, by decide +kernel⟩,
   ⟨3, ex fun d => (({ d with aon := { d.aon with cnt := [(3, 1)] } } : Dev).set R.PWR_WAKE_CFG_PCNT_EN (2 ^ 3)).set R.PWR_STATUS_STATE 2, by decide +kernel⟩,
   ⟨siteFr ((ex fun d => (d.set R.PWR_STATUS_STATE 1).set R.PWR_WAKE_CFG_RADIO_EN 1).dev.passTo ((if (ex fun d => (d.set R.PWR_STATUS_STATE 1).set R.PWR_WAKE_CFG_RADIO_EN 1).dev.now % second ≤ 396 * slotLen then (ex fun d => (d.set R.PWR_STATUS_STATE 1).set R.PWR_WAKE_CFG_RADIO_EN 1).dev.gpsSec else (ex fun d => (d.set R.PWR_STATUS_STATE 1).set R.PWR_WAKE_CFG_RADIO_EN 1).dev.gpsSec + 1) * second + 396 * slotLen)) 7 0xFF (u16 1 ++ zeros 29), u16 1 ++ zeros 29, (((ex fun d => (d.set R.PWR_STATUS_STATE 1).set R.PWR_WAKE_CFG_RADIO_EN 1).dev.passTo ((if (ex fun d => (d.set R.PWR_STATUS_STATE 1).set R.PWR_WAKE_CFG_RADIO_EN 1).dev.now % second ≤ 396 * slotLen then (ex fun d => (d.set R.PWR_STATUS_STATE 1).set R.PWR_WAKE_CFG_RADIO_EN 1).dev.gpsSec else (ex fun d => (d.set R.PWR_STATUS_STATE 1).set R.PWR_WAKE_CFG_RADIO_EN 1).dev.gpsSec + 1) * second + 396 * slotLen)).receiveSite ((siteFr ((ex fun d => (d.set R.PWR_STATUS_STATE 1).set R.PWR_WAKE_CFG_RADIO_EN 1).dev.passTo ((if (ex fun d => (d.set R.PWR_STATUS_STATE 1).set R.PWR_WAKE_CFG_RADIO_EN 1).dev.now % second ≤ 396 * slotLen then (ex fun d => (d.set R.PWR_STATUS_STATE 1).set R.PWR_WAKE_CFG_RADIO_EN 1).dev.gpsSec else (ex fun d => (d.set R.PWR_STATUS_STATE 1).set R.PWR_WAKE_CFG_RADIO_EN 1).dev.gpsSec + 1) * second + 396 * slotLen)) 7 0xFF (u16 1 ++ zeros 29))) (fType ((siteFr ((ex fun d => (d.set R.PWR_STATUS_STATE 1).set R.PWR_WAKE_CFG_RADIO_EN 1).dev.passTo ((if (ex fun d => (d.set R.PWR_STATUS_STATE 1).set R.PWR_WAKE_CFG_RADIO_EN 1).dev.now % second ≤ 396 * slotLen then (ex fun d => (d.set R.PWR_STATUS_STATE 1).set R.PWR_WAKE_CFG_RADIO_EN 1).dev.gpsSec else (ex fun d => (d.set R.PWR_STATUS_STATE 1).set R.PWR_WAKE_CFG_RADIO_EN 1).dev.gpsSec + 1) * second + 396 * slotLen)) 7 0xFF (u16 1 ++ zeros 29))) == 7 && siteDst ((siteFr ((ex fun d => (d.set R.PWR_STATUS_STATE 1).set R.PWR_WAKE_CFG_RADIO_EN 1).dev.passTo ((if (ex fun d => (d.set R.PWR_STATUS_STATE 1).set R.PWR_WAKE_CFG_RADIO_EN 1).dev.now % second ≤ 396 * slotLen then (ex fun d => (d.set R.PWR_STATUS_STATE 1).set R.PWR_WAKE_CFG_RADIO_EN 1).dev.gpsSec else (ex fun d => (d.set R.PWR_STATUS_STATE 1).set R.PWR_WAKE_CFG_RADIO_EN 1).dev.gpsSec + 1) * second + 396 * slotLen)) 7 0xFF (u16 1 ++ zeros 29))))).2, 0, ex fun d => (d.set R.PWR_STATUS_STATE 1).set R.PWR_WAKE_CFG_RADIO_EN 1, by decide +kernel⟩⟩

/-- The hypotheses of every clause of `LifeCycleAndDebug` can be met. -/
theorem test_LifeCycleAndDebug_met :
    (∃ (v : Word32) (s : State), s.dev.writable R.LC_CMD_REQ = true ∧ bitOf v.toNat 8 = true ∧ bitOf v.toNat 10 = false) ∧
    (∃ (v : Word32) (s : State) (a : Lc), s.dev.writable R.LC_CMD_COMMIT = true ∧ bitOf v.toNat 9 = true ∧ bitOf v.toNat 10 = false ∧ Lc.ofCode (v.toNat % 8) = some a ∧ s.dev.lcOk s.fuse.lc a = true ∧ ((a = .ret ∨ a = .scrapped) → s.dev.authorityHeld = false)) ∧
    (∃ (v : Word32) (s : State) (a : Lc), s.dev.writable R.LC_CMD_COMMIT = true ∧ bitOf v.toNat 9 = true ∧ bitOf v.toNat 10 = false ∧ Lc.ofCode (v.toNat % 8) = some a ∧ (s.dev.lcOk s.fuse.lc a = false ∨ ((a = .ret ∨ a = .scrapped) ∧ s.dev.authorityHeld = true))) ∧
    (∃ (v : Word32) (s : State), s.dev.writable R.LC_CMD_REQ = true ∧ bitOf v.toNat 8 = true ∧ bitOf v.toNat 10 = true) ∧
    (∃ (v : Word32) (s : State), s.dev.writable R.LC_CMD_COMMIT = true ∧ bitOf v.toNat 9 = true ∧ bitOf v.toNat 10 = true ∧ (s.dev.boot.lc = .provisioned ∨ s.dev.boot.lc = .ret) ∧ s.dev.reins = false ∧ s.dev.lcAnswer 0xD0 = true) ∧
    (∃ (v : Word32) (s : State), s.dev.writable R.LC_CMD_COMMIT = true ∧ bitOf v.toNat 9 = true ∧ bitOf v.toNat 10 = true ∧ ((s.dev.boot.lc ≠ .provisioned ∧ s.dev.boot.lc ≠ .ret) ∨ s.dev.reins = true ∨ s.dev.lcAnswer 0xD0 = false)) ∧
    (∃ (s : State) (t0 : Nat) (b : Bool), s.dev.sys.chal = some (t0, b)) :=
  ⟨⟨256, ex fun d => d, by decide +kernel⟩,
   ⟨0x204, { (ex id) with fuse := {} }, .scrapped, by decide +kernel⟩,
   ⟨0x203, { (ex id) with fuse := { lc := .field } }, .ret, by decide +kernel⟩,
   ⟨1280, ex fun d => d, by decide +kernel⟩,
   ⟨1536, ex fun d => ((({ d with boot := { d.boot with lc := .ret }, sys := { d.sys with chal := some (0, true) } } : Dev).set R.PAIR_STATUS_ROLE 2).fillSlot 61 { size := 1, usage := 0, mask := 0 } (List.replicate 32 7)).putWords16 R.LC_RESP_RESP ((hmac (List.replicate 32 7) (zeros 16 ++ u8 0xD0 ++ u16 0)).take 16), by decide +kernel⟩,
   ⟨1536, ex fun d => d, by decide +kernel⟩,
   ⟨ex fun d => ({ d with sys := { d.sys with chal := some (0, false) } } : Dev), 0, false, by decide +kernel⟩⟩

/-- The hypotheses of every clause of `LevelMoves` can be met. -/
theorem test_LevelMoves_met :
    (∃ (d : Dev) (c : Nat) (l : List Nat), d.level = 3 ∧ d.levelWhys 3 = c :: l ∧ d.levelWhys 2 = []) ∧
    (∃ (d : Dev) (c : Nat) (l : List Nat), d.level = 2 ∧ d.levelWhys 2 = c :: l) ∧
    (∃ (d : Dev), d.levelWhys d.level = []) ∧
    (∃ (d : Dev), d.level = 1) ∧
    (∃ (s : State), s.dev.running = true ∧ s.dev.timed = true ∧ 1 ≤ s.dev.level ∧ s.dev.level < 3 ∧ 10 ≤ s.dev.sys.hold ∧ s.dev.levelWhys (s.dev.level + 1) = []) ∧
    (∃ (s : State), (s.dev.level = 3 ∨ s.dev.sys.hold < 10)) ∧
    (∃ (e : EngObs) (s : State), s.dev.running = true ∧ s.dev.timed = true) ∧
    (∃ (e : EngObs) (s : State), s.dev.running = true ∧ s.dev.timed = true ∧ s.dev.level ≠ 0) ∧
    (∃ (e : EngObs) (s : State), s.dev.running = true ∧ s.dev.timed = false) ∧
    (∃ (e : EpochIn) (s : State), s.dev.running = true ∧ s.dev.timed = true) ∧
    (∃ (e : EpochIn) (s : State), s.dev.running = true ∧ s.dev.timed = true ∧ s.dev.level = 0 ∧ s.dev.sys.up = true ∧ s.dev.capNow ≠ 0 ∧ s.dev.sys.pkg = false ∧ s.dev.rad.faulted = false ∧ s.dev.paired = false) ∧
    (∃ (e : EpochIn) (s : State), s.dev.running = true ∧ s.dev.timed = true ∧ s.dev.level ≠ 0) ∧
    (∃ (s : State), s.dev.running = true ∧ s.dev.timed = true ∧ s.dev.tim.stepAt = none) ∧
    (∃ (s : State), s.dev.runs .safe = true ∧ s.dev.reins = true ∧ 10 ≤ s.dev.pair.higher ∧ s.dev.partnerReady = true ∧ s.dev.get R.IMG_STATUS_TRIAL_PART = 7 ∧ s.dev.pair.sw = none) :=
  ⟨⟨exd fun d => (d.set R.SYS_LEVEL_LEVEL 3).set R.BASE_STATUS_STATE 0, 3, [], by decide +kernel⟩,
   ⟨exd fun d => (d.set R.SYS_LEVEL_LEVEL 2).set R.TIME_STATUS_SRC 0, 2, [], by decide +kernel⟩,
   ⟨exd fun d => d, by decide +kernel⟩,
   ⟨exd fun d => d.set R.SYS_LEVEL_LEVEL 1, by decide +kernel⟩,
   ⟨ex fun d => (({ d with sys := { d.sys with hold := 10 } } : Dev).set R.SYS_LEVEL_LEVEL 1).set R.SYS_LEVEL_LEVEL 2, by decide +kernel⟩,
   ⟨ex fun d => d, by decide +kernel⟩,
   ⟨default, ex fun d => d, by decide +kernel⟩,
   ⟨default, ex fun d => d.set R.SYS_LEVEL_LEVEL 1, by decide +kernel⟩,
   ⟨default, ex fun d => ({ d with sys := { d.sys with field := true } } : Dev), by decide +kernel⟩,
   ⟨{}, ex fun d => d, by decide +kernel⟩,
   ⟨{}, ex fun d => d.set R.SYS_LEVEL_LEVEL 0, by decide +kernel⟩,
   ⟨{}, ex fun d => d.set R.SYS_LEVEL_LEVEL 1, by decide +kernel⟩,
   ⟨ex fun d => d, by decide +kernel⟩,
   ⟨ex fun d => ((({ d with pair := { d.pair with higher := 10 } } : Dev).set R.IMG_STATUS_TRIAL_PART 7).set R.PAIR_STATUS_PAIRED 1).set R.PAIR_STATUS_PARTNER_READY 1, by decide +kernel⟩⟩

/-- The hypotheses of every clause of `FaultReaction` can be met. -/
theorem test_FaultReaction_met :
    (∃ (d : Dev) (hand : Bool), d.reins = true ∧ d.paired = false) ∧
    (∃ (d : Dev) (alone : Bool) (hand : Bool), d.reins = true ∧ d.paired = true ∧ d.partnerReady = true ∧ (hand = true ∨ alone = false)) ∧
    (∃ (d : Dev) (alone : Bool) (hand : Bool), d.reins = false ∧ (hand = true ∨ alone = false)) ∧
    (∃ (f : SysFault) (s : State), s.dev.running = true ∧ s.dev.faultStands f = true ∧ s.dev.reins = true ∧ s.dev.paired = false) ∧
    (∃ (f : SysFault) (s : State), s.dev.faultStands f = false) ∧
    (∃ (s : State), s.dev.running = true) :=
  ⟨⟨exd fun d => d, false, by decide +kernel⟩,
   ⟨exd fun d => (d.set R.PAIR_STATUS_PAIRED 1).set R.PAIR_STATUS_PARTNER_READY 1, false, true, by decide +kernel⟩,
   ⟨exd fun d => d.set R.PAIR_STATUS_ROLE 2, false, false, by decide +kernel⟩,
   ⟨.package, ex fun d => d, by decide +kernel⟩,
   ⟨.hostLink false, ex fun d => d, by decide +kernel⟩,
   ⟨ex fun d => d, by decide +kernel⟩⟩

/-- The hypotheses of every clause of `RegionsLost` can be met. -/
theorem test_RegionsLost_met :
    (∃ (r : Region) (c : RegionCause) (p : Bool) (s : State), s.dev.running = true ∧ regionCode r ∉ s.dev.sys.lost) ∧
    (∃ (retry : Bool) (s : State), (retry = false ∨ s.dev.sys.retries < 2)) ∧
    (∃ (s : State), 2 ≤ s.dev.sys.retries ∧ s.dev.running = true ∧ 14 ∉ s.dev.sys.lost) ∧
    (∃ (s : State), s.dev.running = true ∧ 14 ∉ s.dev.sys.lost) ∧
    (∃ (s : State), s.dev.running = true ∧ 9 ∉ s.dev.sys.lost) :=
  ⟨⟨.rad, .clock, false, ex fun d => d, by decide +kernel⟩,
   ⟨false, ex fun d => d, by decide +kernel⟩,
   ⟨ex fun d => ({ d with sys := { d.sys with retries := 2 } } : Dev), by decide +kernel⟩,
   ⟨ex fun d => d, by decide +kernel⟩,
   ⟨ex fun d => d, by decide +kernel⟩⟩

/-- The hypotheses of every clause of `TemperatureSample` can be met. -/
theorem test_TemperatureSample_met :
    (∃ (core : Int) (field : Int) (s : State), s.dev.running = true ∧ max core field < 2160 ∧ -32768 ≤ core ∧ -32768 ≤ field) ∧
    (∃ (core : Int) (field : Int) (s : State), s.dev.running = true ∧ s.dev.sys.pkg = false ∧ 2160 ≤ max core field) :=
  ⟨⟨0, 0, ex fun d => d, by decide +kernel⟩,
   ⟨2160, -640, ex fun d => d, by decide +kernel⟩⟩

/-- The hypotheses of every clause of `AntennaBias` can be met. -/
theorem test_AntennaBias_met :
    (∃ (ma : Nat) (s : State), s.dev.runs .sky = true ∧ s.dev.get R.SKY_BIAS_CFG_VSEL ≠ 0 ∧ s.dev.get R.SKY_BIAS_STAT_STATE = 1) ∧
    (∃ (ma : Nat) (s : State), s.dev.runs .sky = true ∧ s.dev.get R.SKY_BIAS_CFG_VSEL = 0) ∧
    (∃ (s : State), s.dev.runs .sky = true ∧ 10 ≤ s.dev.sky.biasLim ∧ s.dev.get R.SKY_BIAS_STAT_STATE ≠ 3) ∧
    (∃ (s : State), s.dev.runs .sky = true ∧ s.dev.get R.SKY_BIAS_STAT_STATE = 3) ∧
    (∃ (s : State), s.dev.runs .sky = true ∧ 1000 ≤ s.dev.sky.biasLow ∧ s.dev.get R.SKY_BIAS_STAT_STATE ≠ 2) :=
  ⟨⟨0, ex fun d => (d.set R.SKY_BIAS_CFG_VSEL 1).set R.SKY_BIAS_STAT_STATE 1, by decide +kernel⟩,
   ⟨0, ex fun d => d.set R.SKY_BIAS_CFG_VSEL 0, by decide +kernel⟩,
   ⟨ex fun d => ({ d with sky := { d.sky with biasLim := 10 } } : Dev).set R.SKY_BIAS_STAT_STATE 0, by decide +kernel⟩,
   ⟨ex fun d => d.set R.SKY_BIAS_STAT_STATE 3, by decide +kernel⟩,
   ⟨ex fun d => ({ d with sky := { d.sky with biasLow := 1000 } } : Dev).set R.SKY_BIAS_STAT_STATE 0, by decide +kernel⟩⟩

/-- The hypotheses of every clause of `GainAndStart` can be met. -/
theorem test_GainAndStart_met :
    (∃ (r : Fin 3 → Nat) (b : Fin 3) (e : Int) (s : State), s.dev.runs .sky = true ∧ s.dev.bit R.SKY_CTRL_BAND_EN b = true ∧ s.dev.get R.SKY_AGC_CFG_MODE b = 0 ∧ agcError (r b) (s.dev.get R.SKY_AGC_CFG_TARGET b) = e) ∧
    (∃ (b : Nat) (s : State), s.dev.runs .sky = true ∧ b < 3 ∧ 60000 ≤ tabGet s.dev.sky.learnN b) ∧
    (∃ (i : StartInfo) (s : State), s.dev.runs .sky = true ∧ s.dev.get R.SKY_STATUS_RF_LOCK = 7 ∧ s.dev.sky.started = false) :=
  ⟨⟨fun _ => 0, 2, agcError 0 ((ex fun d => ((d.set R.SKY_CTRL_BAND_EN (2 ^ 2)).set R.SKY_AGC_CFG_MODE 0 2).set R.SKY_CTRL_BAND_EN 7).dev.get R.SKY_AGC_CFG_TARGET 2), ex fun d => ((d.set R.SKY_CTRL_BAND_EN (2 ^ 2)).set R.SKY_AGC_CFG_MODE 0 2).set R.SKY_CTRL_BAND_EN 7, by decide +kernel⟩,
   ⟨2, ex fun d => ({ d with sky := { d.sky with learnN := [(2, 60000)] } } : Dev), by decide +kernel⟩,
   ⟨{}, ex fun d => d.set R.SKY_STATUS_RF_LOCK 7, by decide +kernel⟩⟩

/-- The hypotheses of every clause of `JammingAndNotches` can be met. -/
theorem test_JammingAndNotches_met :
    (∃ (x : Fin 3 → BandSpec) (b : Fin 3) (s : State), s.dev.runs .sky = true ∧ s.dev.bit R.SKY_CTRL_BAND_EN b = true) ∧
    (∃ (b : Nat) (s : State), s.dev.runs .sky = true ∧ b < 3 ∧ 100 ≤ tabGet s.dev.sky.jamLow b ∧ 1 ≤ s.dev.get R.SKY_JAM_STATE b ∧ s.dev.get R.SKY_JAM_STATE b ≤ 2) ∧
    (∃ (b : Nat) (n : Nat) (s : State), s.dev.runs .sky = true ∧ b < 3 ∧ n < 6 ∧ (tabGet s.dev.sky.notch (6 * b + n)).placed = true ∧ 100 ≤ (tabGet s.dev.sky.notch (6 * b + n)).quiet) ∧
    (∃ (s : State), s.dev.runs .sky = true ∧ s.dev.sky.pending ≠ []) :=
  ⟨⟨fun _ => {}, 2, ex fun d => (d.set R.SKY_CTRL_BAND_EN (2 ^ 2)).set R.SKY_CTRL_BAND_EN 7, by decide +kernel⟩,
   ⟨2, ex fun d => (({ d with sky := { d.sky with jamLow := [(2, 100)] } } : Dev).set R.SKY_JAM_STATE 1 2).set R.SKY_JAM_STATE 2 2, by decide +kernel⟩,
   ⟨2, 5, ex fun d => ({ d with sky := { d.sky with notch := [(17, { placed := true, quiet := 100 })] } } : Dev), by decide +kernel⟩,
   ⟨ex fun d => ({ d with sky := { d.sky with pending := [0] } } : Dev), by decide +kernel⟩⟩

/-- The hypotheses of every clause of `Searches` can be met. -/
theorem test_Searches_met :
    (∃ (q : Desc) (s : State), Ready 3 1 q s.dev ∧ searchOk q.area (s.dev.tcohOf q) (s.dev.kOf q) = true ∧ q.gate = true ∧ s.dev.on R.SKY_CTRL_ACQ_EN = true ∧ s.dev.bit R.SKY_STATUS_RF_LOCK (fld q.area 2 1) = true ∧ s.dev.sky.queue.length < 256) ∧
    (∃ (q : Desc) (s : State), Ready 3 1 q s.dev ∧ searchOk q.area (s.dev.tcohOf q) (s.dev.kOf q) = false ∧ s.dev.sky.queue.length < 256) ∧
    (∃ (q : Desc) (s : State), Ready 3 1 q s.dev ∧ searchOk q.area (s.dev.tcohOf q) (s.dev.kOf q) = true ∧ s.dev.sky.queue.length < 256 ∧ q.gate = false) ∧
    (∃ (q : Desc) (s : State), Ready 3 1 q s.dev ∧ searchOk q.area (s.dev.tcohOf q) (s.dev.kOf q) = true ∧ s.dev.sky.queue.length < 256 ∧ q.gate = true ∧ (s.dev.on R.SKY_CTRL_ACQ_EN = false ∨ s.dev.bit R.SKY_STATUS_RF_LOCK (fld q.area 2 1) = false)) ∧
    (∃ (c : Nat) (b : Nat) (s : State), s.dev.runs .acq = true) ∧
    (∃ (e : Nat) (no : Nat) (i : Nat) (x : Search) (s : State), s.dev.runs .acq = true ∧ e < 2 ∧ s.dev.bit R.ACQ_STATUS_ENGINE_OK e = true ∧ tabFind s.dev.sky.engine e = some no ∧ s.dev.sky.queue[i]? = some x ∧ x.no = no) ∧
    (∃ (i : Nat) (x : Search) (q : Desc) (s : State), Awaits q s.dev ∧ s.dev.runs .acq = true ∧ s.dev.sky.queue[i]? = some x ∧ x.desc = some q ∧ x.chan = none ∧ x.pass ≠ 1) ∧
    (∃ (c : Cand) (s : State), s.dev.runs .corr = true ∧ s.dev.sky.cands.find? (fun c => !c.handover) = some c) :=
  ⟨⟨dq 3 1 [0, 0, 1, 0, 0, 1], ex fun d => hand (dq 3 1 [0, 0, 1, 0, 0, 1]) ((d.set R.SKY_CTRL_ACQ_EN 1).set R.SKY_STATUS_RF_LOCK 7), ready_of (by decide +kernel), by decide +kernel⟩,
   ⟨dq 3 1 [9], ex fun d => hand (dq 3 1 [9]) (d), ready_of (by decide +kernel), by decide +kernel⟩,
   ⟨{ dq 3 1 [0, 0, 1, 0, 0, 1] with gate := false }, ex fun d => hand ({ dq 3 1 [0, 0, 1, 0, 0, 1] with gate := false }) (d), ready_of (by decide +kernel), by decide +kernel⟩,
   ⟨dq 3 1 [], ex fun d => hand (dq 3 1 []) (d), ready_of (by decide +kernel), by decide +kernel⟩,
   ⟨0, 0, ex fun d => d, by decide +kernel⟩,
   ⟨1, 4, 0, { no := 4 }, ex fun d => (({ d with sky := { d.sky with engine := [(1, 4)], queue := [{ no := 4 }] } } : Dev).set R.ACQ_STATUS_ENGINE_OK (2 ^ 1)).set R.ACQ_STATUS_ENGINE_OK 3, by decide +kernel⟩,
   ⟨0, { no := 4, pass := 2, desc := some (dq 3 1 []) }, dq 3 1 [], ex fun d => await (dq 3 1 []) ((({ d with sky := { d.sky with queue := [({ no := 4, pass := 2, desc := some (dq 3 1 []) })] } } : Dev))), awaits_of (by decide +kernel), by decide +kernel⟩,
   ⟨{ sat := 3 }, ex fun d => ({ d with sky := { d.sky with cands := [({ sat := 3 })] } } : Dev), by decide +kernel⟩⟩

/-- The hypotheses of every clause of `SkySearchRepeats` can be met. -/
theorem test_SkySearchRepeats_met :
    (∃ (v : Word32) (i : StartInfo) (s : State), s.dev.writable R.ACQ_CTRL_RESTART = true ∧ bitOf v.toNat 4 = true ∧ s.dev.on R.SKY_CTRL_AUTO_SKY = false) ∧
    (∃ (s : State), s.dev.runs .sky = true ∧ s.dev.on R.SKY_CTRL_AUTO_SKY = true ∧ s.dev.on R.SKY_CTRL_ACQ_EN = true ∧ s.dev.on R.ACQ_STATUS_SKY_DONE = true ∧ s.dev.sky.queue = [] ∧ (∀ ch < 180, s.dev.get R.TRK_CH_STAT_STATE ch = 0) ∧ s.dev.get R.SKY_STATUS_RF_LOCK = 7) :=
  ⟨⟨16, {}, ex fun d => d.set R.SKY_CTRL_AUTO_SKY 0, by decide +kernel⟩,
   ⟨ex fun d => (((d.set R.SKY_CTRL_AUTO_SKY 1).set R.SKY_CTRL_ACQ_EN 1).set R.ACQ_STATUS_SKY_DONE 1).set R.SKY_STATUS_RF_LOCK 7, by decide +kernel⟩⟩

/-- The hypotheses of every clause of `SkyDisabledAndFaulted` can be met. -/
theorem test_SkyDisabledAndFaulted_met :
    (∃ (v : Word32) (s : State), s.dev.writable R.SKY_CTRL_ACQ_EN = true ∧ bitOf v.toNat 4 = false ∧ s.dev.on R.SKY_CTRL_ACQ_EN = true ∧ Nat.land (s.dev.get R.SKY_CTRL_BAND_EN) v.toNat = s.dev.get R.SKY_CTRL_BAND_EN ∧ s.dev.ringsHeld = false) ∧
    (∃ (b : Nat) (v : Word32) (s : State), s.dev.writable R.SKY_CTRL_BAND_EN = true ∧ b < 3 ∧ s.dev.bit R.SKY_CTRL_BAND_EN b = true ∧ bitOf v.toNat b = false) ∧
    (∃ (b : Nat) (c : Nat) (s : State), s.dev.runs .sky = true ∧ b < 3) ∧
    (∃ (b : Nat) (t0 : Nat) (s : State), s.dev.runs .sky = true ∧ b < 3 ∧ tabFind s.dev.sky.retryAt b = some t0) ∧
    (∃ (b : Nat) (t0 : Nat) (s : State), s.dev.runs .sky = true ∧ b < 3 ∧ tabFind s.dev.sky.retryAt b = some t0) ∧
    (∃ (e : Nat) (s : State), s.dev.runs .acq = true ∧ e < 2) :=
  ⟨⟨0xF, ex fun d => d.set R.SKY_CTRL_ACQ_EN 1, by decide +kernel⟩,
   ⟨2, 0, ex fun d => d.set R.SKY_CTRL_BAND_EN (2 ^ 2), by decide +kernel⟩,
   ⟨2, 0, ex fun d => d, by decide +kernel⟩,
   ⟨2, 5, ex fun d => ({ d with sky := { d.sky with retryAt := [(2, 5)] } } : Dev), by decide +kernel⟩,
   ⟨2, 5, ex fun d => ({ d with sky := { d.sky with retryAt := [(2, 5)] } } : Dev), by decide +kernel⟩,
   ⟨1, ex fun d => d, by decide +kernel⟩⟩

/-- The hypotheses of every clause of `ChannelsRun` can be met. -/
theorem test_ChannelsRun_met :
    (∃ (ch : Nat) (c : Nat) (v : Word32) (s : State), s.dev.writable R.TRK_CH_CMD_START = true ∧ ch < 180 ∧ bitOf v.toNat 0 = true ∧ s.dev.on R.TRK_CH_CFG_OWNER ch = true ∧ s.dev.get R.TRK_CH_STAT_STATE ch = stIdle ∧ s.dev.on R.TRK_CTRL_EN = true ∧ s.dev.direct (s.dev.get R.TRK_CH_SEL_SIG ch) = true ∧ sigClass (s.dev.get R.TRK_CH_SEL_SIG ch) = some c ∧ s.dev.sky.queue.length < 256 ∧ s.dev.on R.SKY_CTRL_ACQ_EN = true) ∧
    (∃ (ch : Nat) (c : Nat) (v : Word32) (s : State), s.dev.writable R.TRK_CH_CMD_START = true ∧ ch < 180 ∧ bitOf v.toNat 0 = true ∧ s.dev.on R.TRK_CH_CFG_OWNER ch = true ∧ s.dev.get R.TRK_CH_STAT_STATE ch = stIdle ∧ s.dev.on R.TRK_CTRL_EN = true ∧ s.dev.direct (s.dev.get R.TRK_CH_SEL_SIG ch) = true ∧ sigClass (s.dev.get R.TRK_CH_SEL_SIG ch) = some c ∧ s.dev.on R.SKY_CTRL_ACQ_EN = false) ∧
    (∃ (ch : Nat) (g : Nat) (v : Word32) (s : State), s.dev.writable R.TRK_CH_CMD_START = true ∧ ch < 180 ∧ bitOf v.toNat 0 = true ∧ s.dev.on R.TRK_CH_CFG_OWNER ch = true ∧ s.dev.get R.TRK_CH_STAT_STATE ch = stIdle ∧ s.dev.on R.TRK_CTRL_EN = true ∧ s.dev.direct (s.dev.get R.TRK_CH_SEL_SIG ch) = false ∧ sourceOf (s.dev.get R.TRK_CH_SEL_SIG ch) = some g ∧ s.dev.tracked (s.dev.get R.TRK_CH_SEL_SAT ch) g = true) ∧
    (∃ (ch : Nat) (v : Word32) (s : State), s.dev.writable R.TRK_CH_CMD_STOP = true ∧ ch < 180 ∧ bitOf v.toNat 1 = true ∧ s.dev.get R.TRK_CH_STAT_STATE ch ≠ stIdle ∧ s.dev.get R.TRK_CH_STAT_STATE ch ≠ stOos ∧ s.dev.sky.cands = []) ∧
    (∃ (ch : Nat) (m : Integ) (s : State), s.dev.runs .corr = true ∧ s.dev.paused 2 = false ∧ ch < 180 ∧ s.dev.get R.TRK_CH_STAT_STATE ch = stPullin) ∧
    (∃ (ch : Nat) (m : Integ) (s : State), s.dev.runs .corr = true ∧ s.dev.paused 2 = false ∧ ch < 180 ∧ s.dev.get R.TRK_CH_STAT_STATE ch = stFll) ∧
    (∃ (ch : Nat) (m : Integ) (s : State), s.dev.runs .corr = true ∧ s.dev.paused 2 = false ∧ ch < 180 ∧ s.dev.get R.TRK_CH_STAT_STATE ch = stPll) ∧
    (∃ (ch : Nat) (m : Integ) (s : State), s.dev.runs .corr = true ∧ s.dev.paused 2 = false ∧ ch < 180 ∧ s.dev.get R.TRK_CH_STAT_STATE ch = stTrack ∧ pliOk (lastMs ((m.p.1, m.p.2, s.dev.get R.TRK_CH_STAT_TINT ch) :: (s.dev.chan ch).hist) 100) 100 (s.dev.get R.TRK_THR_PLI_THR) = false) ∧
    (∃ (ch : Nat) (m : Integ) (s : State), (180 ≤ ch ∨ s.dev.get R.TRK_CH_STAT_STATE ch = stIdle ∨ 5 ≤ s.dev.get R.TRK_CH_STAT_STATE ch ∨ s.dev.paused 2 = true)) :=
  ⟨⟨179, 0, 1, ex fun d => (((d.set R.TRK_CH_CFG_OWNER 1 179).set R.TRK_CH_STAT_STATE stIdle 179).set R.TRK_CTRL_EN 1).set R.SKY_CTRL_ACQ_EN 1, by decide +kernel⟩,
   ⟨179, 0, 1, ex fun d => (((d.set R.TRK_CH_CFG_OWNER 1 179).set R.TRK_CH_STAT_STATE stIdle 179).set R.TRK_CTRL_EN 1).set R.SKY_CTRL_ACQ_EN 0, by decide +kernel⟩,
   ⟨179, 0, 1, ex fun d => (((((d.set R.TRK_CTRL_EN 1).set R.TRK_CH_CFG_OWNER 1 179).set R.TRK_CH_SEL_SAT 3 179).set R.TRK_CH_SEL_SIG 1 179).set R.TRK_CH_STAT_STATE stTrack 0).set R.TRK_CH_SEL_SAT 3 0, by decide +kernel⟩,
   ⟨179, 2, ex fun d => d.set R.TRK_CH_STAT_STATE stTrack 179, by decide +kernel⟩,
   ⟨179, {}, ex fun d => d.set R.TRK_CH_STAT_STATE stPullin 179, by decide +kernel⟩,
   ⟨179, {}, ex fun d => d.set R.TRK_CH_STAT_STATE stFll 179, by decide +kernel⟩,
   ⟨179, {}, ex fun d => d.set R.TRK_CH_STAT_STATE stPll 179, by decide +kernel⟩,
   ⟨179, {}, ex fun d => d.set R.TRK_CH_STAT_STATE stTrack 179, by decide +kernel⟩,
   ⟨0, {}, ex fun d => d, by decide +kernel⟩⟩

/-- The hypotheses of every clause of `ChannelLoss` can be met. -/
theorem test_ChannelLoss_met :
    (∃ (ch : Nat) (s : State), s.dev.runs .corr = true ∧ ch < 180 ∧ s.dev.get R.TRK_CH_STAT_STATE ch = stPullin ∧ s.dev.sky.cands = []) ∧
    (∃ (ch : Nat) (c : Nat) (s : State), s.dev.runs .corr = true ∧ s.dev.on R.SKY_CTRL_ACQ_EN = true ∧ ch < 180 ∧ s.dev.get R.TRK_CH_STAT_STATE ch = stFll ∧ sigClass (s.dev.get R.TRK_CH_SEL_SIG ch) = some c ∧ s.dev.sky.queue.length < 256) ∧
    (∃ (ch : Nat) (t0 : Nat) (s : State), s.dev.runs .corr = true ∧ ch < 180 ∧ (s.dev.chan ch).lossAt = some t0 ∧ 2 ≤ s.dev.get R.TRK_CH_STAT_STATE ch ∧ s.dev.get R.TRK_CH_STAT_STATE ch ≤ 4) ∧
    (∃ (ch : Nat) (t0 : Nat) (s : State), s.dev.runs .corr = true ∧ ch < 180 ∧ (s.dev.chan ch).holdTo = some t0 ∧ s.dev.get R.TRK_CH_STAT_STATE ch = stLost ∧ s.dev.sky.cands = []) ∧
    (∃ (sat : Nat) (sig : Nat) (g : Nat) (ch : Nat) (c : Cand) (s : State), s.dev.runs .corr = true ∧ s.dev.on R.TRK_CTRL_EN = true ∧ c.chan = none ∧ c.handover = true ∧ s.dev.trk.retry.find? (fun c => c.sat == sat && c.sig == sig) = some c ∧ sourceOf sig = some g ∧ s.dev.tracked sat g = true ∧ s.dev.onChannel sat sig = false ∧ s.dev.on R.TRK_CTRL_HANDOVER = true ∧ s.dev.allotFor c = some ch) :=
  ⟨⟨179, ex fun d => d.set R.TRK_CH_STAT_STATE stPullin 179, by decide +kernel⟩,
   ⟨179, 0, ex fun d => (d.set R.SKY_CTRL_ACQ_EN 1).set R.TRK_CH_STAT_STATE stFll 179, by decide +kernel⟩,
   ⟨179, 5, ex fun d => ({ d with trk := { d.trk with chan := [(179, { lossAt := some 5 })] } } : Dev).set R.TRK_CH_STAT_STATE stTrack 179, by decide +kernel⟩,
   ⟨179, 5, ex fun d => ({ d with trk := { d.trk with chan := [(179, { holdTo := some 5 })] } } : Dev).set R.TRK_CH_STAT_STATE stLost 179, by decide +kernel⟩,
   ⟨3, 1, 0, 1, { sat := 3, sig := 1, handover := true, elev := 900 }, ex fun d => ((((((({ d with trk := { d.trk with retry := [({ sat := 3, sig := 1, handover := true, elev := 900 })] } } : Dev).set R.TRK_CTRL_EN 1).set R.TRK_CTRL_HANDOVER 1).set R.TRK_CTRL_EN 1).set R.TRK_CTRL_AUTO_ALLOC 1).set R.TRK_CH_STAT_STATE stTrack 0).set R.TRK_CH_SEL_SAT 3 0).set R.TRK_CH_SEL_SIG 0 0, by decide +kernel⟩⟩

/-- The hypotheses of every clause of `DatapathFaults` can be met. -/
theorem test_DatapathFaults_met :
    (∃ (ch : Nat) (c : Nat) (s : State), s.dev.runs .corr = true ∧ ch < 192 ∧ s.dev.get R.TRK_CH_STAT_STATE ch ≠ stOos ∧ (c = 3 → s.dev.scrubbed (ch / 12) = some ch)) ∧
    (∃ (ch : Nat) (c : Nat) (s : State), s.dev.runs .corr = true ∧ 192 ≤ ch ∧ ch < 208) ∧
    (∃ (ch : Nat) (c : Nat) (s : State), s.dev.runs .corr = true ∧ ch < 192 ∧ tabFind s.dev.trk.faults ch = some c ∧ s.dev.on R.TRK_SPARE_IN_USE (ch / 12) = false ∧ ch / 12 ∉ s.dev.trk.badSpare) ∧
    (∃ (ch : Nat) (c : Nat) (s : State), s.dev.runs .corr = true ∧ ch < 192 ∧ tabFind s.dev.trk.faults ch = some c ∧ (s.dev.on R.TRK_SPARE_IN_USE (ch / 12) = true ∨ ch / 12 ∈ s.dev.trk.badSpare)) ∧
    (∃ (v : Word32) (s : State), s.dev.writable R.TRK_CTRL_EN = true ∧ bitOf v.toNat 0 = false ∧ s.dev.on R.TRK_CTRL_EN = true) :=
  ⟨⟨191, 0, ex fun d => d, by decide +kernel⟩,
   ⟨207, 0, ex fun d => d, by decide +kernel⟩,
   ⟨191, 1, ex fun d => ({ d with trk := { d.trk with faults := [(191, 1)] } } : Dev), by decide +kernel⟩,
   ⟨191, 1, ex fun d => ({ d with trk := { d.trk with faults := [(191, 1)] } } : Dev).set R.TRK_SPARE_IN_USE 1 15, by decide +kernel⟩,
   ⟨0, ex fun d => d.set R.TRK_CTRL_EN 1, by decide +kernel⟩⟩

/-- The hypotheses of every clause of `BaseAndTime` can be met. -/
theorem test_BaseAndTime_met :
    (∃ (v : Word32) (s : State), s.dev.writable R.BASE_CTRL_GO = true ∧ bitOf v.toNat 4 = true ∧ v.toNat % 4 = 0) ∧
    (∃ (v : Word32) (s : State), s.dev.writable R.BASE_CTRL_GO = true ∧ bitOf v.toNat 4 = true ∧ v.toNat % 4 = 1) ∧
    (∃ (v : Word32) (s : State), s.dev.writable R.BASE_CTRL_GO = true ∧ bitOf v.toNat 4 = true ∧ v.toNat % 4 = 2) ∧
    (∃ (v : Word32) (p : Vec3) (s : State), s.dev.writable R.BASE_CTRL_GO = true ∧ bitOf v.toNat 4 = true ∧ v.toNat % 4 = 3 ∧ s.dev.tim.stored = some p) ∧
    (∃ (v : Word32) (s : State), s.dev.writable R.BASE_CTRL_GO = true ∧ bitOf v.toNat 4 = true ∧ v.toNat % 4 = 3 ∧ s.dev.tim.stored = none) ∧
    (∃ (s : State) (t0 : Nat), s.dev.runs .time = true ∧ s.dev.tim.skyLostAt = some t0 ∧ s.dev.get R.BASE_STATUS_STATE = 3) ∧
    (∃ (s : State), s.dev.writable R.TIME_NOW_LO_NS_LO = true) ∧
    (∃ (e : Nat) (s : State), s.dev.runs .time = true) :=
  ⟨⟨16, ex fun d => d, by decide +kernel⟩,
   ⟨17, ex fun d => d, by decide +kernel⟩,
   ⟨18, ex fun d => d, by decide +kernel⟩,
   ⟨19, {}, ex fun d => ({ d with tim := { d.tim with stored := some ({}) } } : Dev), by decide +kernel⟩,
   ⟨19, ex fun d => d, by decide +kernel⟩,
   ⟨ex fun d => ({ d with tim := { d.tim with skyLostAt := some 0 } } : Dev).set R.BASE_STATUS_STATE 3, 0, by decide +kernel⟩,
   ⟨ex fun d => d, by decide +kernel⟩,
   ⟨0, ex fun d => d, by decide +kernel⟩⟩

/-- The hypotheses of every clause of `CorrectionsOutput` can be met. -/
theorem test_CorrectionsOutput_met :
    (∃ (s : State), s.dev.runs .time = true ∧ s.dev.rtcmAllowed true = true) ∧
    (∃ (s : State), s.dev.runs .time = true ∧ s.dev.rtcmAllowed true = true ∧ s.dev.on R.RTCM_CFG_UART_EN = true ∧ s.dev.on R.RTCM_CFG_RING_EN = false ∧ (s.dev.passTo ((s.dev.now + s.dev.msmPeriod - 1) / s.dev.msmPeriod * s.dev.msmPeriod)).msmList ≠ []) ∧
    (∃ (s : State), s.dev.rtcmAllowed true = false) ∧
    (∃ (s : State), s.dev.runs .time = true) ∧
    (∃ (s : State), s.dev.runs .time = true ∧ s.dev.rtcmAllowed false = true ∧ s.dev.on R.RTCM_CFG_UART_EN = true ∧ s.dev.on R.RTCM_CFG_RING_EN = false) ∧
    (∃ (v : Word32) (s : State), s.dev.writable R.RTCM_CFG_RTCM_EN = true ∧ bitOf v.toNat 20 = false) ∧
    (∃ (v : Word32) (s : State), s.dev.writable R.CORR_CFG_YC_EN = true ∧ bitOf v.toNat 0 = false) :=
  ⟨⟨ex fun d => d.set R.RTCM_CFG_RTCM_EN 1, by decide +kernel⟩,
   ⟨ex fun d => (((((({ d with trk := { d.trk with chan := [(0, { tow := true, elev := 900 })] } } : Dev).set R.RTCM_CFG_UART_EN 1).set R.RTCM_CFG_RING_EN 0).set R.RTCM_CFG_RTCM_EN 1).set R.RTCM_CFG_SYS_MASK 15).set R.TRK_CH_STAT_STATE stTrack 0).set R.TRK_CH_SEL_SAT 3 0, by decide +kernel⟩,
   ⟨ex fun d => d, by decide +kernel⟩,
   ⟨ex fun d => d.set R.RTCM_CFG_RTCM_EN 1, by decide +kernel⟩,
   ⟨ex fun d => ((d.set R.RTCM_CFG_UART_EN 1).set R.RTCM_CFG_RING_EN 0).set R.RTCM_CFG_RTCM_EN 1, by decide +kernel⟩,
   ⟨0, ex fun d => d, by decide +kernel⟩,
   ⟨0, ex fun d => d, by decide +kernel⟩⟩

/-- The hypotheses of every clause of `RangingSlots` can be met. -/
theorem test_RangingSlots_met :
    (∃ (slot : Nat) (x : RangeRx) (s : State), s.dev.runs .rad = true ∧ 851968 ≤ x.toa + 196608 ∧ x.toa ≤ 851968 + 196608 ∧ s.dev.get R.YRD_CFG2_SNR_MIN ≤ x.snr ∧ 347 ≤ slot ∧ slot ≤ 379 ∧ s.dev.now ≤ s.dev.slotStart (slot + 1) ∧ s.dev.on R.YRD_CTRL_EN = true ∧ (slot - 347) % 3 < 2 ∧ (¬ ((s.dev.planOf (11 * (s.dev.sfn % 10) + (slot - 347) / 3)).1 = 3 ∧ (s.dev.planOf (11 * (s.dev.sfn % 10) + (slot - 347) / 3)).2.2 = s.dev.id)) ∧ ((s.dev.planOf (11 * (s.dev.sfn % 10) + (slot - 347) / 3)).2.1 = s.dev.cellNo ∨ (s.dev.planOf (11 * (s.dev.sfn % 10) + (slot - 347) / 3)).1 = 3 ∨ s.dev.on R.YRD_CTRL_ANCHOR_EN = true)) ∧
    (∃ (slot : Nat) (x : RangeRx) (s : State), s.dev.runs .rad = true ∧ (x.toa + 196608 < 851968 ∨ 851968 + 196608 < x.toa ∨ x.snr < s.dev.get R.YRD_CFG2_SNR_MIN) ∧ 347 ≤ slot ∧ slot ≤ 379 ∧ s.dev.now ≤ s.dev.slotStart (slot + 1) ∧ (slot - 347) % 3 < 2) ∧
    (∃ (slot : Nat) (rx : Option RangeRx) (s : State), s.dev.runs .rad = true ∧ 347 ≤ slot ∧ slot ≤ 379 ∧ s.dev.now ≤ s.dev.slotStart (slot + 1) ∧ s.dev.on R.YRD_CTRL_EN = false) ∧
    (∃ (slot : Nat) (rx : Option RangeRx) (s : State), s.dev.runs .rad = true ∧ 347 ≤ slot ∧ slot ≤ 379 ∧ s.dev.now ≤ s.dev.slotStart (slot + 1) ∧ s.dev.on R.YRD_CTRL_EN = true ∧ (slot - 347) % 3 = 2 ∧ (s.dev.planOf (11 * (s.dev.sfn % 10) + (slot - 347) / 3)).1 = 2 ∧ (s.dev.planOf (11 * (s.dev.sfn % 10) + (slot - 347) / 3)).2.1 = s.dev.cellNo) ∧
    (∃ (e : Nat) (k : Nat) (s : State), e ≤ 10 ∧ s.dev.now ≤ s.dev.slotStart (347 + 3 * e) ∧ (s.dev.planOf (11 * (s.dev.sfn % 10) + e)).1 = 3 ∧ (s.dev.planOf (11 * (s.dev.sfn % 10) + e)).2.2 = s.dev.id ∧ s.dev.runs .rad = true ∧ s.dev.radTx = true ∧ s.dev.level ≠ 0 ∧ s.dev.on R.YRD_CTRL_EN = true ∧ s.dev.siteSlot = some k) :=
  ⟨⟨378, { toa := 851968, phase := 0, snr := 60, frame := [] }, ex fun d => (d.set R.YRD_CTRL_EN 1).set R.YRD_CFG2_SNR_MIN 12, by decide +kernel⟩,
   ⟨378, { toa := 0, phase := 0, snr := 60, frame := [] }, ex fun d => d, by decide +kernel⟩,
   ⟨379, none, ex fun d => d.set R.YRD_CTRL_EN 0, by decide +kernel⟩,
   ⟨379, none, ex fun d => ({ d with yrd := { d.yrd with plan := [(43, 2)] } } : Dev).set R.YRD_CTRL_EN 1, by decide +kernel⟩,
   ⟨10, 2, ex fun d => ((({ d with yrd := { d.yrd with plan := [(43, 3)] } } : Dev).set R.YRD_CTRL_EN 1).set R.SYS_LEVEL_LEVEL 1).set R.YRD_CTRL_EN 1, by decide +kernel⟩⟩

/-- The hypotheses of every clause of `PostedReports` can be met. -/
theorem test_PostedReports_met :
    (∃ (q : Desc) (m : Option (List Byte)) (s : State), Ready 6 1 q s.dev ∧ (fld q.area 1 1 = 0 ∨ 64 < fld q.area 1 1 ∨ fld q.area 8 8 % 16 ≠ 0)) ∧
    (∃ (q : Desc) (m : Option (List Byte)) (s : State), Ready 6 1 q s.dev ∧ resvOk q.area [(0, 2), (8, 8)] = true ∧ 1 ≤ fld q.area 1 1 ∧ fld q.area 1 1 ≤ 64 ∧ fld q.area 8 8 % 16 = 0 ∧ q.gate = false) ∧
    (∃ (q : Desc) (s : State), Ready 6 1 q s.dev ∧ resvOk q.area [(0, 2), (8, 8)] = true ∧ 1 ≤ fld q.area 1 1 ∧ fld q.area 1 1 ≤ 64 ∧ fld q.area 8 8 % 16 = 0 ∧ q.gate = true) ∧
    (∃ (q : Desc) (b : List Byte) (a : Nat) (s : State), Ready 6 1 q s.dev ∧ resvOk q.area [(0, 2), (8, 8)] = true ∧ fld q.area 1 1 = 1 ∧ fld q.area 8 8 % 16 = 0 ∧ q.gate = true ∧ b.length = 48 ∧ s.dev.reins = true ∧ fld b 2 2 = s.dev.cellNo ∧ fld b 5 1 < 110 ∧ fld b 6 1 < 64 ∧ zeroAt b 7 1 = true ∧ zeroAt b 41 7 = true ∧ fld b 0 2 < 1024 ∧ s.dev.anchIdx (fld b 0 2) = some a ∧ fld b 8 8 % superframe = (347 + 3 * (fld b 5 1 % 11)) * slotLen ∧ fld b 8 8 / superframe % 10 = fld b 5 1 / 11 ∧ s.dev.gatherOf (fld b 8 8) = none ∧ s.dev.now ≤ s.dev.gatherTo (fld b 8 8)) :=
  ⟨⟨dq 6 1 [], none, ex fun d => hand (dq 6 1 []) (d), ready_of (by decide +kernel), by decide +kernel⟩,
   ⟨{ dq 6 1 [1] with gate := false }, none, ex fun d => hand ({ dq 6 1 [1] with gate := false }) (d), ready_of (by decide +kernel), by decide +kernel⟩,
   ⟨dq 6 1 [1], ex fun d => hand (dq 6 1 [1]) (d), ready_of (by decide +kernel), by decide +kernel⟩,
   ⟨dq 6 1 [1], u16 7 ++ u16 0 ++ u8 0 ++ u8 33 ++ u8 0 ++ u8 0 ++ u64 (3 * superframe + 347 * slotLen) ++ zeros 32, 4, ex fun d => hand (dq 6 1 [1]) (({ d with yrd := { d.yrd with anch := [(4, { dev := 7 })] } } : Dev).set R.YRD_CTRL_EN 1), ready_of (by decide +kernel), by decide +kernel⟩⟩

/-- The hypotheses of every clause of `RangingEnds` can be met. -/
theorem test_RangingEnds_met :
    (∃ (p : Nat) (g : YGather) (s : State), s.dev.runs .sup = true ∧ s.dev.yrd.gathers.find? (fun g => g.pos == p && !g.ended) = some g) ∧
    (∃ (a : Nat) (t0 : Nat) (s : State), s.dev.runs .sup = true ∧ a < 16 ∧ s.dev.anchSelf a = false ∧ (tabGet s.dev.yrd.cal a).at0 = some t0) ∧
    (∃ (m : Nat) (t0 : Nat) (x : YAuto) (s : State), s.dev.runs .sup = true ∧ tabFind s.dev.yrd.auto m = some x ∧ x.cleared = some t0) ∧
    (∃ (v : Word32) (s : State), s.dev.writable R.YRD_CTRL_EN = true ∧ bitOf v.toNat 0 = false ∧ s.dev.on R.YRD_CTRL_EN = true ∧ s.dev.ringsHeld = false) :=
  ⟨⟨2, { pos := 2, tSlot := 5 }, ex fun d => ({ d with yrd := { d.yrd with gathers := [({ pos := 2, tSlot := 5 })] } } : Dev), by decide +kernel⟩,
   ⟨15, 5, ex fun d => ({ d with yrd := { d.yrd with cal := [(15, { at0 := some 5 })] } } : Dev), by decide +kernel⟩,
   ⟨9, 5, { cleared := some 5 }, ex fun d => ({ d with yrd := { d.yrd with auto := [(9, ({ cleared := some 5 }))] } } : Dev), by decide +kernel⟩,
   ⟨0, ex fun d => d.set R.YRD_CTRL_EN 1, by decide +kernel⟩⟩

/-- The hypotheses of every clause of `BeaconsAndCorrections` can be met. -/
theorem test_BeaconsAndCorrections_met :
    (∃ (s : State), s.dev.runs .rad = true ∧ s.dev.cellTx = true ∧ s.dev.slot = 0 ∧ s.dev.rad.bcnSf ≠ s.dev.sfn + 1 ∧ s.dev.pair.bcnFrom ≤ s.dev.now) ∧
    (∃ (n : Nat) (k : Nat) (s : State), s.dev.runs .rad = true ∧ s.dev.siteSlotNo = some n ∧ s.dev.siteSlot = some k ∧ s.dev.reins = true ∧ s.dev.level ≠ 0 ∧ s.dev.on R.RAD_STATUS_DUP_ID = false ∧ s.dev.rad.inhibit = false ∧ (s.dev.radTx = true ∨ s.dev.master = true) ∧ s.dev.rad.siteSf ≠ s.dev.sfn + 1 ∧ s.dev.now < s.dev.slotStart (n + 1)) ∧
    (∃ (k : Nat) (s : State), k = (if s.dev.rad.corrSf = s.dev.sfn + 1 then s.dev.rad.corrNext else 0) ∧ s.dev.runs .rad = true ∧ s.dev.cellTx = true ∧ s.dev.on R.RAD_CTRL_EN = true ∧ s.dev.img.macSf ≠ s.dev.sfn + 1 ∧ k < s.dev.corrPieces ∧ s.dev.now < s.dev.slotStart (5 + k) + slotLen) ∧
    (∃ (s : State), (s.dev.reins = false ∨ s.dev.level = 0 ∨ s.dev.radTx = false)) ∧
    (∃ (s : State), (s.dev.reins = false ∨ s.dev.level = 0)) ∧
    (∃ (s : State), (s.dev.reins = false ∨ s.dev.level = 0 ∨ s.dev.radTx = false)) :=
  ⟨⟨ex fun d => d, by decide +kernel⟩,
   ⟨396, 2, ex fun d => (d.set R.SYS_LEVEL_LEVEL 1).set R.RAD_STATUS_ROLE 2, by decide +kernel⟩,
   ⟨0, ex fun d => ({ d with tim := { d.tim with block := [1], blockSf := 3 } } : Dev), by decide +kernel⟩,
   ⟨ex fun d => d.set R.SYS_LEVEL_LEVEL 0, by decide +kernel⟩,
   ⟨ex fun d => d.set R.PAIR_STATUS_ROLE 2, by decide +kernel⟩,
   ⟨ex fun d => ({ d with rad := { d.rad with inhibit := true } } : Dev), by decide +kernel⟩⟩

/-- The hypotheses of every clause of `DragFrames` can be met. -/
theorem test_DragFrames_met :
    (∃ (n : Nat) (s : State), s.dev.runs .rad = true ∧ s.dev.reins = true ∧ s.dev.dragNext 15000 = some n ∧ s.dev.cellTx = true ∧ (s.dev.wholeCell = true ∨ s.dev.on R.BRK_IN_A = true ∨ s.dev.on R.BRK_IN_B = true)) ∧
    (∃ (n : Nat) (m : Nat) (s : State), s.dev.runs .rad = true ∧ s.dev.reins = true ∧ s.dev.dragNext 15000 = some n ∧ s.dev.cellTx = true ∧ s.dev.wholeCell = false ∧ s.dev.on R.BRK_IN_A = false ∧ s.dev.on R.BRK_IN_B = false ∧ m < 240 ∧ s.dev.stopped m = true) ∧
    (∃ (n : Nat) (s : State), s.dev.runs .rad = true ∧ s.dev.reins = true ∧ s.dev.dragNext 15000 = some n ∧ s.dev.wholeCell = false ∧ s.dev.on R.BRK_IN_A = false ∧ s.dev.on R.BRK_IN_B = false ∧ (∀ w < 8, s.dev.get R.BRK_STOP_STOP w = 0)) ∧
    (∃ (n : Nat) (s : State), s.dev.runs .rad = true ∧ s.dev.get R.PAIR_STATUS_ROLE = 2 ∧ s.dev.standbyFault = false ∧ s.dev.dragNext 0 = some n ∧ s.dev.radTx = true ∧ s.dev.cellSlot.isSome = true ∧ (s.dev.on R.BRK_IN_A = true ∨ s.dev.on R.BRK_IN_B = true ∨ s.dev.rad.copyDrag = true)) ∧
    (∃ (n : Nat) (s : State), s.dev.runs .rad = true ∧ s.dev.get R.PAIR_STATUS_ROLE = 2 ∧ s.dev.standbyFault = false ∧ s.dev.dragNext 0 = some n ∧ s.dev.on R.BRK_IN_A = false ∧ s.dev.on R.BRK_IN_B = false ∧ s.dev.rad.copyDrag = false ∧ s.dev.rad.stopAir = 0) :=
  ⟨⟨4, ex fun d => d.set R.BRK_IN_A 1, by decide +kernel⟩,
   ⟨304, 239, ex fun d => ({ d with rad := { d.rad with dragAt := 1504 } } : Dev).set R.BRK_STOP_STOP (2 ^ 15) 7, by decide +kernel⟩,
   ⟨4, ex fun d => d, by decide +kernel⟩,
   ⟨4, ex fun d => ({ d with rad := { d.rad with copyDrag := true } } : Dev).set R.PAIR_STATUS_ROLE 2, by decide +kernel⟩,
   ⟨4, ex fun d => ({ d with rad := { d.rad with stopAir := 0 } } : Dev).set R.PAIR_STATUS_ROLE 2, by decide +kernel⟩⟩

/-- The hypotheses of every clause of `DownlinkOrder` can be met. -/
theorem test_DownlinkOrder_met :
    (∃ (n : Nat) (k : Nat) (m : Nat) (e : Dev) (s : State), s.dev.runs .rad = true ∧ s.dev.cellTx = true ∧ s.dev.on R.RAD_CTRL_EN = true ∧ s.dev.img.macSf ≠ s.dev.sfn + 1 ∧ s.dev.keyFrDeny.dlFrom = k ∧ s.dev.keyFrDeny.dlScan (104 - k) k = some (n, m, e)) ∧
    (∃ (d : Dev) (n : Nat) (m : Nat), d.brk.order.find? (fun m => d.authDue m (104 - n) (d.slotStart n)) = some m) ∧
    (∃ (d : Dev) (n : Nat) (k : KeyFr), d.brk.order.find? (fun m => d.authDue m (104 - n) (d.slotStart n)) = none ∧ d.rad.keyQ.find? (fun k => k.sf ≤ d.sfn && d.keyFrOk k) = some k) ∧
    (∃ (s : State), s.dev.cellTx = false) :=
  ⟨⟨5, 5, 9, (((exd fun d => { d with brk := { m := [(9, { auth := some {}, call := none })], order := [9] } }).keyFrDeny.passTo (3 * superframe + 5 * slotLen)).dlOne 5 |>.map (·.2)).getD {}, ex fun d => ({ d with brk := { d.brk with m := [(9, { auth := some {}, call := none })], order := [9] } } : Dev), by decide +kernel⟩,
   ⟨exd fun d => ({ d with brk := { d.brk with m := [(9, { auth := some {}, call := none })], order := [9] } } : Dev), 5, 9, by decide +kernel⟩,
   ⟨exd fun d => (({ d with rad := { d.rad with keyQ := [{ m := 9 }] } } : Dev).set R.KEY_ATTR_USAGE 2 1).set R.RAD_KEY_CFG_NEXT_SLOT 1, 5, { m := 9 }, by decide +kernel⟩,
   ⟨ex fun d => d.set R.PAIR_STATUS_ROLE 2, by decide +kernel⟩⟩

/-- The hypotheses of every clause of `Uplinks` can be met. -/
theorem test_Uplinks_met :
    (∃ (slot : Nat) (m : Nat) (snr : Nat) (ofs : Int) (f : List Byte) (p : List Byte) (e : Dev) (s : State), s.dev.runs .rad = true ∧ slotMach slot = some m ∧ s.dev.now ≤ s.dev.slotStart (slot + 1) ∧ s.dev.reins = true ∧ s.dev.level ≠ 0 ∧ (s.dev.passTo (s.dev.slotStart (slot + 1))).discards = false ∧ (s.dev.passTo (s.dev.slotStart (slot + 1))).receiveMach f m (fType f == 4 && fDst f == 0xF0) = (some p, e) ∧ ofs.natAbs ≤ e.get R.RAD_TIMING_WIN * 16) ∧
    (∃ (slot : Nat) (m : Nat) (snr : Nat) (ofs : Int) (f : List Byte) (p : List Byte) (e : Dev) (s : State), s.dev.runs .rad = true ∧ slotMach slot = some m ∧ s.dev.now ≤ s.dev.slotStart (slot + 1) ∧ s.dev.reins = true ∧ s.dev.level ≠ 0 ∧ (s.dev.passTo (s.dev.slotStart (slot + 1))).discards = false ∧ (s.dev.passTo (s.dev.slotStart (slot + 1))).receiveMach f m (fType f == 4 && fDst f == 0xF0) = (some p, e) ∧ e.get R.RAD_TIMING_WIN * 16 < ofs.natAbs) ∧
    (∃ (m : Nat) (u : Upl) (s : State), s.dev.runs .safe = true ∧ s.dev.timed = true ∧ tabWf s.dev.rsv.upl = true ∧ tabFind s.dev.rsv.upl m = some u ∧ u.sf ≠ s.dev.sfn ∧ tabFind s.dev.rad.sleep m = none ∧ s.dev.admitted m = true ∧ s.dev.discards = false ∧ m < 240) :=
  ⟨⟨346, 239, 0, 0, cellFr ((ex fun d => d.set R.SYS_LEVEL_LEVEL 1).dev.passTo ((ex fun d => d.set R.SYS_LEVEL_LEVEL 1).dev.slotStart (346 + 1))) 4 239 0xF0 0 (zeros 31), zeros 31, (((ex fun d => d.set R.SYS_LEVEL_LEVEL 1).dev.passTo ((ex fun d => d.set R.SYS_LEVEL_LEVEL 1).dev.slotStart (346 + 1))).receiveMach ((cellFr ((ex fun d => d.set R.SYS_LEVEL_LEVEL 1).dev.passTo ((ex fun d => d.set R.SYS_LEVEL_LEVEL 1).dev.slotStart (346 + 1))) 4 239 0xF0 0 (zeros 31))) 239 (fType ((cellFr ((ex fun d => d.set R.SYS_LEVEL_LEVEL 1).dev.passTo ((ex fun d => d.set R.SYS_LEVEL_LEVEL 1).dev.slotStart (346 + 1))) 4 239 0xF0 0 (zeros 31))) == 4 && fDst ((cellFr ((ex fun d => d.set R.SYS_LEVEL_LEVEL 1).dev.passTo ((ex fun d => d.set R.SYS_LEVEL_LEVEL 1).dev.slotStart (346 + 1))) 4 239 0xF0 0 (zeros 31))) == 0xF0)).2, ex fun d => d.set R.SYS_LEVEL_LEVEL 1, by decide +kernel⟩,
   ⟨346, 239, 0, 100000000, cellFr ((ex fun d => d.set R.SYS_LEVEL_LEVEL 1).dev.passTo ((ex fun d => d.set R.SYS_LEVEL_LEVEL 1).dev.slotStart (346 + 1))) 4 239 0xF0 0 (zeros 31), zeros 31, (((ex fun d => d.set R.SYS_LEVEL_LEVEL 1).dev.passTo ((ex fun d => d.set R.SYS_LEVEL_LEVEL 1).dev.slotStart (346 + 1))).receiveMach ((cellFr ((ex fun d => d.set R.SYS_LEVEL_LEVEL 1).dev.passTo ((ex fun d => d.set R.SYS_LEVEL_LEVEL 1).dev.slotStart (346 + 1))) 4 239 0xF0 0 (zeros 31))) 239 (fType ((cellFr ((ex fun d => d.set R.SYS_LEVEL_LEVEL 1).dev.passTo ((ex fun d => d.set R.SYS_LEVEL_LEVEL 1).dev.slotStart (346 + 1))) 4 239 0xF0 0 (zeros 31))) == 4 && fDst ((cellFr ((ex fun d => d.set R.SYS_LEVEL_LEVEL 1).dev.passTo ((ex fun d => d.set R.SYS_LEVEL_LEVEL 1).dev.slotStart (346 + 1))) 4 239 0xF0 0 (zeros 31))) == 0xF0)).2, ex fun d => d.set R.SYS_LEVEL_LEVEL 1, by decide +kernel⟩,
   ⟨239, {}, ex fun d => ({ d with rsv := { d.rsv with upl := [(239, {})] } } : Dev).set R.RAD_ADMIT_VALID_VALID (2 ^ 15) 7, by decide +kernel⟩⟩

/-- The hypotheses of every clause of `JoinsAndSiteBeacons` can be met. -/
theorem test_JoinsAndSiteBeacons_met :
    (∃ (slot : Nat) (m : Nat) (f : List Byte) (p : List Byte) (e : Dev) (s : State), s.dev.runs .rad = true ∧ 380 ≤ slot ∧ slot ≤ 395 ∧ s.dev.now ≤ s.dev.slotStart (slot + 1) ∧ s.dev.reins = true ∧ s.dev.level ≠ 0 ∧ (s.dev.passTo (s.dev.slotStart (slot + 1))).discards = false ∧ (s.dev.passTo (s.dev.slotStart (slot + 1))).receive f 49 8 (((List.range 240).any fun m => s.dev.admitted m && s.dev.serialOf m == fld f 8 8) && fType f == 6 && fCell f == s.dev.cellNo && fSrc f == 0xFE && fDst f == 0xF0 && !fSite f) (s.dev.joinKey (fld f 8 8)) (tabFind s.dev.rad.hwSer (fld f 8 8)) = (some p, e) ∧ e.admitFor (fld f 8 8) (fld p 9 1) = some m) ∧
    (∃ (slot : Nat) (ofs : Int) (f : List Byte) (p : List Byte) (e : Dev) (s : State), s.dev.runs .rad = true ∧ 396 ≤ slot ∧ slot ≤ 399 ∧ s.dev.now ≤ s.dev.slotStart (slot + 1) ∧ (s.dev.passTo (s.dev.slotStart (slot + 1) - 1)).receiveSite f (fType f == 7 && siteDst f) = (some p, e) ∧ fld p 0 2 % 1024 ≠ e.id ∧ bitOf (fld p 0 2) 10 = false) ∧
    (∃ (slot : Nat) (ofs : Int) (f : List Byte) (p : List Byte) (e : Dev) (s : State), s.dev.runs .rad = true ∧ 396 ≤ slot ∧ slot ≤ 399 ∧ s.dev.now ≤ s.dev.slotStart (slot + 1) ∧ (s.dev.passTo (s.dev.slotStart (slot + 1) - 1)).receiveSite f (fType f == 7 && siteDst f) = (some p, e) ∧ fld p 0 2 % 1024 = e.id) ∧
    (∃ (f : List Byte) (p : List Byte) (e : Dev) (s : State), s.dev.runs .rad = true ∧ s.dev.reins = false ∧ s.dev.rad.bcnSf ≠ s.dev.sfn + 1 ∧ (s.dev.passTo (s.dev.slotStart 4)).receive f 237 0 (fType f == 0 && fCell f == s.dev.cellNo && fSrc f == 0xF0 && fDst f == 0xFF && !fSite f) ((s.dev.passTo (s.dev.slotStart 4)).cellRxKey (fGen f)) none = (some p, e) ∧ fld p 20 2 % 1024 ≠ e.id) :=
  ⟨⟨395, 0, joinFr ((ex fun d => (((d.set R.SYS_LEVEL_LEVEL 1).set R.KEY_JOIN_CFG_SLOT 4).fillSlot 4 { size := 0, usage := 1, mask := 1 } (List.replicate 16 7)).set R.RAD_ADMIT_VALID_VALID 1 0).dev.passTo ((ex fun d => (((d.set R.SYS_LEVEL_LEVEL 1).set R.KEY_JOIN_CFG_SLOT 4).fillSlot 4 { size := 0, usage := 1, mask := 1 } (List.replicate 16 7)).set R.RAD_ADMIT_VALID_VALID 1 0).dev.slotStart (395 + 1))) 0 (zeros 23), u64 0 ++ zeros 23, (((ex fun d => (((d.set R.SYS_LEVEL_LEVEL 1).set R.KEY_JOIN_CFG_SLOT 4).fillSlot 4 { size := 0, usage := 1, mask := 1 } (List.replicate 16 7)).set R.RAD_ADMIT_VALID_VALID 1 0).dev.passTo ((ex fun d => (((d.set R.SYS_LEVEL_LEVEL 1).set R.KEY_JOIN_CFG_SLOT 4).fillSlot 4 { size := 0, usage := 1, mask := 1 } (List.replicate 16 7)).set R.RAD_ADMIT_VALID_VALID 1 0).dev.slotStart (395 + 1))).receive ((joinFr ((ex fun d => (((d.set R.SYS_LEVEL_LEVEL 1).set R.KEY_JOIN_CFG_SLOT 4).fillSlot 4 { size := 0, usage := 1, mask := 1 } (List.replicate 16 7)).set R.RAD_ADMIT_VALID_VALID 1 0).dev.passTo ((ex fun d => (((d.set R.SYS_LEVEL_LEVEL 1).set R.KEY_JOIN_CFG_SLOT 4).fillSlot 4 { size := 0, usage := 1, mask := 1 } (List.replicate 16 7)).set R.RAD_ADMIT_VALID_VALID 1 0).dev.slotStart (395 + 1))) 0 (zeros 23))) 49 8 true ((ex fun d => (((d.set R.SYS_LEVEL_LEVEL 1).set R.KEY_JOIN_CFG_SLOT 4).fillSlot 4 { size := 0, usage := 1, mask := 1 } (List.replicate 16 7)).set R.RAD_ADMIT_VALID_VALID 1 0).dev.joinKey 0) none).2, ex fun d => (((d.set R.SYS_LEVEL_LEVEL 1).set R.KEY_JOIN_CFG_SLOT 4).fillSlot 4 { size := 0, usage := 1, mask := 1 } (List.replicate 16 7)).set R.RAD_ADMIT_VALID_VALID 1 0, by decide +kernel⟩,
   ⟨399, 0, siteFr ((ex fun d => d).dev.passTo ((ex fun d => d).dev.slotStart (399 + 1) - 1)) 7 0xFF (u16 1 ++ zeros 29), u16 1 ++ zeros 29, (((ex fun d => d).dev.passTo ((ex fun d => d).dev.slotStart (399 + 1) - 1)).receiveSite ((siteFr ((ex fun d => d).dev.passTo ((ex fun d => d).dev.slotStart (399 + 1) - 1)) 7 0xFF (u16 1 ++ zeros 29))) (fType ((siteFr ((ex fun d => d).dev.passTo ((ex fun d => d).dev.slotStart (399 + 1) - 1)) 7 0xFF (u16 1 ++ zeros 29))) == 7 && siteDst ((siteFr ((ex fun d => d).dev.passTo ((ex fun d => d).dev.slotStart (399 + 1) - 1)) 7 0xFF (u16 1 ++ zeros 29))))).2, ex fun d => d, by decide +kernel⟩,
   ⟨399, 0, siteFr ((ex fun d => d).dev.passTo ((ex fun d => d).dev.slotStart (399 + 1) - 1)) 7 0xFF (zeros 31), zeros 31, (((ex fun d => d).dev.passTo ((ex fun d => d).dev.slotStart (399 + 1) - 1)).receiveSite ((siteFr ((ex fun d => d).dev.passTo ((ex fun d => d).dev.slotStart (399 + 1) - 1)) 7 0xFF (zeros 31))) (fType ((siteFr ((ex fun d => d).dev.passTo ((ex fun d => d).dev.slotStart (399 + 1) - 1)) 7 0xFF (zeros 31))) == 7 && siteDst ((siteFr ((ex fun d => d).dev.passTo ((ex fun d => d).dev.slotStart (399 + 1) - 1)) 7 0xFF (zeros 31))))).2, ex fun d => d, by decide +kernel⟩,
   ⟨cellFr ((ex fun d => d.set R.PAIR_STATUS_ROLE 2).dev.passTo ((ex fun d => d.set R.PAIR_STATUS_ROLE 2).dev.slotStart 4)) 0 0xF0 0xFF 0 (zeros 20 ++ u16 1 ++ zeros 197), zeros 20 ++ u16 1 ++ zeros 197, (((ex fun d => d.set R.PAIR_STATUS_ROLE 2).dev.passTo ((ex fun d => d.set R.PAIR_STATUS_ROLE 2).dev.slotStart 4)).receive ((cellFr ((ex fun d => d.set R.PAIR_STATUS_ROLE 2).dev.passTo ((ex fun d => d.set R.PAIR_STATUS_ROLE 2).dev.slotStart 4)) 0 0xF0 0xFF 0 (zeros 20 ++ u16 1 ++ zeros 197))) 237 0 true (((ex fun d => d.set R.PAIR_STATUS_ROLE 2).dev.passTo ((ex fun d => d.set R.PAIR_STATUS_ROLE 2).dev.slotStart 4)).cellRxKey (fGen ((cellFr ((ex fun d => d.set R.PAIR_STATUS_ROLE 2).dev.passTo ((ex fun d => d.set R.PAIR_STATUS_ROLE 2).dev.slotStart 4)) 0 0xF0 0xFF 0 (zeros 20 ++ u16 1 ++ zeros 197))))) none).2, ex fun d => d.set R.PAIR_STATUS_ROLE 2, by decide +kernel⟩⟩

/-- The hypotheses of every clause of `TimeMaster` can be met. -/
theorem test_TimeMaster_met :
    (∃ (s : State), s.dev.runs .rad = true ∧ s.dev.master = false ∧ s.dev.on R.RAD_SITE_STAT_MASTER_VALID = true ∧ s.dev.rad.seenSf ≠ s.dev.sfn + 1 ∧ s.dev.rad.missSf ≠ s.dev.sfn + 1 ∧ s.dev.rad.miss ≠ 2) ∧
    (∃ (s : State), s.dev.runs .rad = true ∧ s.dev.master = false ∧ s.dev.on R.RAD_SITE_STAT_MASTER_VALID = true ∧ s.dev.rad.seenSf ≠ s.dev.sfn + 1 ∧ s.dev.rad.missSf ≠ s.dev.sfn + 1 ∧ s.dev.rad.miss = 2 ∧ s.dev.get R.TIME_STATUS_SRC = 3) ∧
    (∃ (s : State), s.dev.runs .rad = true ∧ s.dev.get R.RAD_STATUS_ROLE = 1 ∧ s.dev.eligible = true ∧ s.dev.on R.RAD_STATUS_DUP_ID = false ∧ s.dev.on R.RAD_SITE_STAT_MASTER_VALID = true ∧ s.dev.get R.RAD_SITE_CFG_ELECT_T ≤ s.dev.rad.miss ∧ s.dev.rad.heard = []) ∧
    (∃ (t0 : Nat) (s : State), s.dev.runs .rad = true ∧ s.dev.rad.inelAt = some t0 ∧ s.dev.master = true) :=
  ⟨⟨ex fun d => d.set R.RAD_SITE_STAT_MASTER_VALID 1, by decide +kernel⟩,
   ⟨ex fun d => (({ d with rad := { d.rad with miss := 2 } } : Dev).set R.RAD_SITE_STAT_MASTER_VALID 1).set R.TIME_STATUS_SRC 3, by decide +kernel⟩,
   ⟨ex fun d => (((({ d with rad := { d.rad with miss := 4 } } : Dev).set R.RAD_SITE_STAT_MASTER_VALID 1).set R.RAD_STATUS_ROLE 1).set R.RAD_SITE_CFG_PRIO 1).set R.RAD_SITE_CFG_ELECT_T 3, by decide +kernel⟩,
   ⟨5, ex fun d => ({ d with rad := { d.rad with inelAt := some 5 } } : Dev).set R.RAD_STATUS_ROLE 2, by decide +kernel⟩⟩

/-- The hypotheses of every clause of `RadioKeysAndDisable` can be met. -/
theorem test_RadioKeysAndDisable_met :
    (∃ (s : State), s.dev.runs .rad = true) ∧
    (∃ (k : Nat) (s : State), s.dev.runs .rad = true ∧ s.dev.rad.oldTo = some k) ∧
    (∃ (v : Word32) (s : State), s.dev.writable R.RAD_CTRL_EN = true ∧ bitOf v.toNat 0 = false ∧ s.dev.on R.RAD_CTRL_EN = true ∧ s.dev.ringsHeld = false) ∧
    (∃ (v : Word32) (s : State), s.dev.writable R.RAD_CTRL_EN = true ∧ bitOf v.toNat 0 = false ∧ s.dev.on R.RAD_CTRL_EN = true) :=
  ⟨⟨ex fun d => d, by decide +kernel⟩,
   ⟨0, ex fun d => ({ d with rad := { d.rad with oldTo := some 0 } } : Dev), by decide +kernel⟩,
   ⟨0, ex fun d => d, by decide +kernel⟩,
   ⟨0, ex fun d => d, by decide +kernel⟩⟩

/-- The hypotheses of every clause of `Recorder` can be met. -/
theorem test_Recorder_met :
    (∃ (s : State), s.dev.powered = true ∧ s.dev.evt.flushWant = true ∧ s.dev.evt.nvmLost = false ∧ s.dev.evt.flushDescs = [] ∧ s.dev.evt.episode = none) ∧
    (∃ (s : State), s.dev.powered = true ∧ s.dev.evt.flushWant = true ∧ s.dev.evt.nvmLost = true) ∧
    (∃ (x : Rec) (l : List Rec) (s : State), s.dev.powered = true ∧ s.dev.timeGoes = true ∧ s.dev.evt.buf = x :: l) ∧
    (∃ (t0 : Nat) (n : Nat) (s : State), s.dev.runs .sup = true ∧ s.dev.evt.episode = some (t0, n) ∧ s.dev.evt.nvmLost = true ∧ s.dev.evt.buf.length < 4096) ∧
    (∃ (k : Nat) (t0 : Nat) (s : State), s.dev.runs .sup = true ∧ k < 256 ∧ (tabGet s.dev.evt.cls k).due = some t0) ∧
    (∃ (v : Word32) (s : State), s.dev.writable R.EVT_CLR_CMD_REQ = true ∧ bitOf v.toNat 0 = true) ∧
    (∃ (v : Word32) (s : State), s.dev.writable R.EVT_CLR_CMD_REQ = true ∧ bitOf v.toNat 1 = true ∧ s.dev.clrCause = 0) ∧
    (∃ (v : Word32) (s : State), s.dev.writable R.EVT_CLR_CMD_REQ = true ∧ bitOf v.toNat 1 = true ∧ s.dev.clrCause ≠ 0 ∧ s.dev.evt.buf.length < 4096) ∧
    (∃ (s : State), s.dev.runs .sup = true ∧ s.dev.on R.EVT_CLR_CMD_CHAL_VALID = true) ∧
    (∃ (q : Desc) (s : State), Ready 0x12 1 q s.dev ∧ resvOk q.area [(0, 1), (4, 14)] = true ∧ fld q.area 8 8 % 16 = 0 ∧ 1 ≤ fld q.area 16 2 ∧ fld q.area 16 2 ≤ 1024) ∧
    (∃ (q : Desc) (s : State), Ready 0x12 2 q s.dev ∧ resvOk q.area [(0, 1)] = true ∧ s.dev.evt.nvmLost = false) ∧
    (∃ (q : Desc) (s : State), Ready 0x12 2 q s.dev ∧ resvOk q.area [(0, 1)] = true ∧ s.dev.evt.nvmLost = true) ∧
    (∃ (q : Desc) (s : State), Ready 0x12 3 q s.dev ∧ resvOk q.area [(0, 2), (16, 16)] = true ∧ fld q.area 1 1 ≤ 15) ∧
    (∃ (v : Word32) (s : State), s.dev.writable R.TLB_ALLOT_LO_SRC = true ∧ (let a := allotMerge (s.dev.get R.TLB_ALLOT_LO_SRC) v.toNat + 2 ^ 32 * s.dev.get R.TLB_ALLOT_HI_SRC; allotCount a 3 ≤ 1 ∧ allotCount a 5 ≤ 1)) ∧
    (∃ (v : Word32) (s : State), s.dev.writable R.TLB_ALLOT_LO_SRC = true ∧ (let a := s.dev.get R.TLB_ALLOT_LO_SRC + 2 ^ 32 * allotMerge (s.dev.get R.TLB_ALLOT_HI_SRC) v.toNat; 1 < allotCount a 3 ∨ 1 < allotCount a 5)) :=
  ⟨⟨ex fun d => ({ d with evt := { d.evt with flushWant := true } } : Dev), by decide +kernel⟩,
   ⟨ex fun d => ({ d with evt := { d.evt with flushWant := true, nvmLost := true } } : Dev), by decide +kernel⟩,
   ⟨{}, [], ex fun d => ({ d with evt := { d.evt with buf := ({}) :: ([]) } } : Dev), by decide +kernel⟩,
   ⟨0, 0, ex fun d => ({ d with evt := { d.evt with episode := some (0, 0), nvmLost := true } } : Dev), by decide +kernel⟩,
   ⟨255, 5, ex fun d => ({ d with evt := { d.evt with cls := [(255, { due := some 5 })] } } : Dev), by decide +kernel⟩,
   ⟨1, ex fun d => d, by decide +kernel⟩,
   ⟨2, ex fun d => ((d.fillSlot 63 { size := 1, usage := 0, mask := 0 } (List.replicate 32 7)).set R.EVT_CLR_CMD_CHAL_VALID 1).putWords16 R.EVT_RESP_RESP ((hmac (List.replicate 32 7) (zeros 16 ++ u32 0 ++ u16 0)).take 16), by decide +kernel⟩,
   ⟨2, ex fun d => d, by decide +kernel⟩,
   ⟨ex fun d => d.set R.EVT_CLR_CMD_CHAL_VALID 1, by decide +kernel⟩,
   ⟨dq 0x12 1 [0, 0, 0, 0, 0, 0, 0, 0, 0, 0, 0, 0, 0, 0, 0, 1], ex fun d => hand (dq 0x12 1 [0, 0, 0, 0, 0, 0, 0, 0, 0, 0, 0, 0, 0, 0, 0, 1]) (d), ready_of (by decide +kernel), by decide +kernel⟩,
   ⟨dq 0x12 2 [], ex fun d => hand (dq 0x12 2 []) (d), ready_of (by decide +kernel), by decide +kernel⟩,
   ⟨dq 0x12 2 [], ex fun d => hand (dq 0x12 2 []) (({ d with evt := { d.evt with nvmLost := true } } : Dev)), ready_of (by decide +kernel), by decide +kernel⟩,
   ⟨dq 0x12 3 [], ex fun d => hand (dq 0x12 3 []) (d), ready_of (by decide +kernel), by decide +kernel⟩,
   ⟨0, ex fun d => d, by decide +kernel⟩,
   ⟨0x33, ex fun d => d, by decide +kernel⟩⟩

/-- The hypotheses of every clause of `KeyOperations` can be met. -/
theorem test_KeyOperations_met :
    (∃ (q : Desc) (m : List Byte) (s : State), Ready 0x0F 1 q s.dev ∧ s.dev.keyTurn q = true ∧ resvOk q.area [(0, 1), (8, 8)] = true ∧ fld q.area 8 8 % 16 = 0 ∧ s.dev.keyBlank = true ∧ s.fuse.root = none ∧ (fit 32 m).all (· == 0) = false ∧ (fit 32 m).all (· == 255) = false) ∧
    (∃ (q : Desc) (m : Option (List Byte)) (s : State), Ready 0x0F 1 q s.dev ∧ s.dev.keyTurn q = true ∧ resvOk q.area [(0, 1), (8, 8)] = true ∧ fld q.area 8 8 % 16 = 0 ∧ s.dev.keyBlank = false) ∧
    (∃ (q : Desc) (m : List Byte) (wrap : List Byte) (s : State), Ready 0x0F 2 q s.dev ∧ s.dev.keyTurn q = true ∧ s.dev.importable q m = true ∧ s.dev.engineKey (fld q.area 2 1) 5 1 = some wrap ∧ blobOpen wrap m = none) ∧
    (∃ (q : Desc) (m : List Byte) (wrap : List Byte) (pt : List Byte) (s : State), Ready 0x0F 2 q s.dev ∧ s.dev.keyTurn q = true ∧ s.dev.importable q m = true ∧ s.dev.engineKey (fld q.area 2 1) 5 1 = some wrap ∧ blobOpen wrap m = some pt ∧ fld m 11 1 = 1 ∧ s.dev.runs .nvm = true) ∧
    (∃ (q : Desc) (m : List Byte) (wrap : List Byte) (pt : List Byte) (s : State), Ready 0x0F 2 q s.dev ∧ s.dev.keyTurn q = true ∧ s.dev.importable q m = true ∧ s.dev.engineKey (fld q.area 2 1) 5 1 = some wrap ∧ blobOpen wrap m = some pt ∧ fld m 11 1 = 0) ∧
    (∃ (q : Desc) (s : State), Ready 0x0F 3 q s.dev ∧ s.dev.keyTurn q = true ∧ s.dev.keyBlank = false ∧ resvOk q.area [(0, 8), (8, fld q.area 7 1)] = true ∧ 16 ≤ fld q.area 1 1 ∧ fld q.area 1 1 < 60 ∧ fld q.area 2 1 < 60 ∧ fld q.area 3 1 < 2 ∧ fld q.area 4 1 < 3 ∧ fld q.area 5 1 < 64 ∧ fld q.area 6 1 < 2 ∧ 1 ≤ fld q.area 7 1 ∧ fld q.area 7 1 ≤ 32 ∧ s.dev.get R.KEY_ATTR_STATE (fld q.area 2 1) = 1 ∧ s.dev.get R.KEY_ATTR_USAGE (fld q.area 2 1) = 1 ∧ Nat.land (fld q.area 5 1) (s.dev.get R.KEY_ATTR_MASK (fld q.area 2 1)) = fld q.area 5 1 ∧ s.dev.get R.KEY_ATTR_DEPTH (fld q.area 2 1) < 6) ∧
    (∃ (q : Desc) (s : State), Ready 0x0F 4 q s.dev ∧ s.dev.keyTurn q = true ∧ s.dev.keyBlank = false ∧ resvOk q.area [(0, 2)] = true ∧ fld q.area 1 1 < 60 ∧ (s.dev.get R.KEY_ATTR_STATE (fld q.area 1 1) = 1 ∨ s.dev.get R.KEY_ATTR_STATE (fld q.area 1 1) = 2) ∧ s.dev.on R.KEY_ATTR_NV (fld q.area 1 1) = false) ∧
    (∃ (q : Desc) (s : State), Ready 0x0F 4 q s.dev ∧ s.dev.keyTurn q = true ∧ s.dev.keyBlank = false ∧ resvOk q.area [(0, 2)] = true ∧ fld q.area 1 1 < 60 ∧ (s.dev.get R.KEY_ATTR_STATE (fld q.area 1 1) = 1 ∨ s.dev.get R.KEY_ATTR_STATE (fld q.area 1 1) = 2) ∧ s.dev.on R.KEY_ATTR_NV (fld q.area 1 1) = true ∧ s.dev.runs .nvm = true) ∧
    (∃ (u : NvUp) (s : State), s.dev.runs .nvm = true ∧ s.dev.key.up = some u ∧ u.slot < 16) ∧
    (∃ (q : Desc) (k : List Byte) (s : State), Ready 0x0F 5 q s.dev ∧ s.dev.keyTurn q = true ∧ s.dev.keyBlank = false ∧ resvOk q.area [(0, 1), (8, 24)] = true ∧ fld q.area 8 8 % 16 = 0 ∧ s.dev.engineKey 62 3 1 = some k) ∧
    (∃ (n : Nat) (s : State), s.dev.runs .sup = true ∧ n < 64) :=
  ⟨⟨dq 0x0F 1 [], [1], ex fun d => hand (dq 0x0F 1 []) (({ d with boot := { d.boot with lc := .blank, root := none } } : Dev)), ready_of (by decide +kernel), by decide +kernel⟩,
   ⟨dq 0x0F 1 [], none, ex fun d => hand (dq 0x0F 1 []) (d), ready_of (by decide +kernel), by decide +kernel⟩,
   ⟨dq 0x0F 2 [59, 60], [1, 0, 1, 1] ++ u32 9 ++ u16 0 ++ u8 59 ++ zeros 69, List.replicate 32 7, ex fun d => hand (dq 0x0F 2 [59, 60]) ((d |> fun d => d.fillSlot 60 { size := 1, usage := 0, mask := 32 } (List.replicate 32 7))), ready_of (by decide +kernel), by decide +kernel⟩,
   ⟨dq 0x0F 2 [9, 60], keyBlob 9 1, List.replicate 32 7, List.replicate 32 9, ex fun d => hand (dq 0x0F 2 [9, 60]) (d.fillSlot 60 { size := 1, usage := 0, mask := 32 } (List.replicate 32 7)), ready_of (by decide +kernel), by decide +kernel⟩,
   ⟨dq 0x0F 2 [59, 60], keyBlob 59 0, List.replicate 32 7, List.replicate 32 9, ex fun d => hand (dq 0x0F 2 [59, 60]) (d.fillSlot 60 { size := 1, usage := 0, mask := 32 } (List.replicate 32 7)), ready_of (by decide +kernel), by decide +kernel⟩,
   ⟨dq 0x0F 3 [59, 4, 1, 2, 63, 1, 32], ex fun d => hand (dq 0x0F 3 [59, 4, 1, 2, 63, 1, 32]) ((((d.set R.KEY_ATTR_STATE 1 4).set R.KEY_ATTR_USAGE 1 4).set R.KEY_ATTR_MASK 63 4).set R.KEY_ATTR_DEPTH 5 4), ready_of (by decide +kernel), by decide +kernel⟩,
   ⟨dq 0x0F 4 [3], ex fun d => hand (dq 0x0F 4 [3]) (d), ready_of (by decide +kernel), by decide +kernel⟩,
   ⟨dq 0x0F 4 [3], ex fun d => hand (dq 0x0F 4 [3]) (d.set R.KEY_ATTR_NV 1 3), ready_of (by decide +kernel), by decide +kernel⟩,
   ⟨{}, ex fun d => ({ d with key := { d.key with up := some ({}) } } : Dev), by decide +kernel⟩,
   ⟨dq 0x0F 5 [], List.replicate 32 7, ex fun d => hand (dq 0x0F 5 []) ((d |> fun d => d.fillSlot 62 { size := 1, usage := 0, mask := 8 } (List.replicate 32 7))), ready_of (by decide +kernel), by decide +kernel⟩,
   ⟨63, ex fun d => d, by decide +kernel⟩⟩

/-- The hypotheses of every clause of `MeterCycle` can be met. -/
theorem test_MeterCycle_met :
    (∃ (x : List Int) (s : State), s.dev.runs .meter = true) ∧
    (∃ (k : Nat) (s : State), s.dev.runs .meter = true ∧ k < 3 ∧ s.dev.bit R.MTR_STATUS_ZX_LOST k = false ∧ tabGet s.dev.mtr.okX k + s.dev.get R.MTR_ZX_CFG_TIMEOUT * 8 ≤ s.dev.mtr.samp) ∧
    (∃ (s : State), s.dev.runs .meter = true ∧ s.dev.mtr.due = true ∧ s.dev.mtr.cyc.all (fun y => y.en) = true) ∧
    (∃ (bad : Bool) (s : State), s.dev.runs .meter = true ∧ s.dev.mtr.due = true ∧ (s.dev.mtr.cyc.all (fun y => !y.en) = true ∨ bad = true)) :=
  ⟨⟨[], ex fun d => d, by decide +kernel⟩,
   ⟨2, ex fun d => ({ d with mtr := { d.mtr with samp := 400 } } : Dev).set R.MTR_ZX_CFG_TIMEOUT 50, by decide +kernel⟩,
   ⟨ex fun d => ({ d with mtr := { d.mtr with due := true } } : Dev), by decide +kernel⟩,
   ⟨false, ex fun d => ({ d with mtr := { d.mtr with due := true } } : Dev), by decide +kernel⟩⟩

/-- The hypotheses of every clause of `PulsesAndSaves` can be met. -/
theorem test_PulsesAndSaves_met :
    (∃ (n : Nat) (s : State), s.dev.runs .meter = true ∧ s.dev.runs .sup = true ∧ n < 16 ∧ s.dev.get R.MTR_PI_STAT_LEVEL n = 1 ∧ s.dev.on R.MTR_PI_STAT_WIRE n = false ∧ s.dev.on R.MTR_CTRL_EN = true) ∧
    (∃ (n : Nat) (level : Nat) (s : State), s.dev.runs .meter = true ∧ n < 16 ∧ level < 4 ∧ (level < 2 ∨ s.dev.on R.MTR_PI_CFG_SUP_EN n = true) ∧ (¬ (s.dev.get R.MTR_PI_STAT_LEVEL n = 1 ∧ level = 0 ∧ s.dev.on R.MTR_PI_STAT_WIRE n = false))) ∧
    (∃ (n : Nat) (s : State), s.dev.runs .meter = true ∧ n < 16 ∧ 2 ≤ s.dev.get R.MTR_PI_STAT_LEVEL n ∧ s.dev.on R.MTR_PI_STAT_WIRE n = false) ∧
    (∃ (n : Nat) (s : State), s.dev.runs .meter = true ∧ n < 16 ∧ s.dev.get R.MTR_PI_STAT_LEVEL n < 2 ∧ s.dev.on R.MTR_PI_STAT_WIRE n = true) ∧
    (∃ (o : Nat) (s : State), s.dev.runs .meter = true ∧ o < 4 ∧ 0 < s.dev.get R.MTR_PO_STAT_BACKLOG o ∧ s.dev.on R.MTR_PO_CFG_EN o = true ∧ s.dev.on R.MTR_CTRL_EN = true ∧ s.dev.reins = true ∧ s.dev.pair.frozen = false ∧ s.dev.pair.hiZ = false) ∧
    (∃ (s : State), s.dev.runs .nvm = true ∧ s.dev.timed = true ∧ s.dev.mtr.saving = none) ∧
    (∃ (v : MSave) (s : State), s.dev.runs .nvm = true ∧ s.dev.mtr.saving = some v) ∧
    (∃ (l : Nat) (s : State), s.dev.runs .meter = true ∧ s.dev.lotOpen l = true) ∧
    (∃ (v : Word32) (s : State), s.dev.writable R.MTR_CTRL_EN = true ∧ bitOf v.toNat 0 = false ∧ s.dev.on R.MTR_CTRL_EN = true ∧ s.dev.mtr.cal = none) :=
  ⟨⟨15, ex fun d => ((d.set R.MTR_PI_STAT_WIRE 0 15).set R.MTR_CTRL_EN 1).set R.MTR_PI_STAT_LEVEL 1 15, by decide +kernel⟩,
   ⟨15, 1, ex fun d => d, by decide +kernel⟩,
   ⟨15, ex fun d => (d.set R.MTR_PI_STAT_WIRE 0 15).set R.MTR_PI_STAT_LEVEL 2 15, by decide +kernel⟩,
   ⟨15, ex fun d => (d.set R.MTR_PI_STAT_WIRE 1 15).set R.MTR_PI_STAT_LEVEL 0 15, by decide +kernel⟩,
   ⟨3, ex fun d => ((({ d with pair := { d.pair with frozen := false, hiZ := false } } : Dev).set R.MTR_PO_CFG_EN 1 3).set R.MTR_CTRL_EN 1).set R.MTR_PO_STAT_BACKLOG 1 3, by decide +kernel⟩,
   ⟨ex fun d => d, by decide +kernel⟩,
   ⟨{}, ex fun d => ({ d with mtr := { d.mtr with saving := some ({}) } } : Dev), by decide +kernel⟩,
   ⟨255, ex fun d => ({ d with mtr := { d.mtr with acct := [(255, { isOpen := true })] } } : Dev), by decide +kernel⟩,
   ⟨0, ex fun d => d.set R.MTR_CTRL_EN 1, by decide +kernel⟩⟩

/-- The hypotheses of every clause of `MeterDescriptors` can be met. -/
theorem test_MeterDescriptors_met :
    (∃ (q : Desc) (s : State), Ready 0x0C 1 q s.dev ∧ resvOk q.area [(0, 4), (8, 8)] = true ∧ fld q.area 8 8 % 16 = 0 ∧ fld q.area 1 1 = 0 ∧ fld q.area 2 1 = 0 ∧ fld q.area 3 1 < 2) ∧
    (∃ (q : Desc) (s : State), Ready 0x0C 1 q s.dev ∧ resvOk q.area [(0, 4), (8, 8)] = true ∧ fld q.area 8 8 % 16 = 0 ∧ fld q.area 1 1 = 1 ∧ fld q.area 3 1 < 2 ∧ s.dev.lotOpen (fld q.area 2 1) = true) ∧
    (∃ (q : Desc) (s : State), Ready 0x0C 1 q s.dev ∧ resvOk q.area [(0, 4), (8, 8)] = true ∧ fld q.area 8 8 % 16 = 0 ∧ fld q.area 1 1 = 1 ∧ fld q.area 3 1 < 2 ∧ s.dev.lotOpen (fld q.area 2 1) = false) ∧
    (∃ (q : Desc) (s : State), Ready 0x0C 2 q s.dev ∧ lotFieldsOk q.area = true ∧ fld q.area 1 1 = 0 ∧ s.dev.lotOpen (fld q.area 2 1) = false) ∧
    (∃ (q : Desc) (s : State), Ready 0x0C 2 q s.dev ∧ lotFieldsOk q.area = true ∧ fld q.area 1 1 = 1 ∧ s.dev.lotOpen (fld q.area 2 1) = true) ∧
    (∃ (q : Desc) (s : State), Ready 0x0C 3 q s.dev ∧ s.dev.mtr.cal = none ∧ resvOk q.area [(0, 24)] = true ∧ fld q.area 1 1 < 13 ∧ fld q.area 2 1 < 4 ∧ (fld q.area 1 1 < 3 → fld q.area 2 1 = 0) ∧ fld q.area 3 1 < 2 ∧ 10 ≤ fld q.area 4 2 ∧ fld q.area 4 2 ≤ 1000 ∧ sfld q.area 6 2 = 0 ∧ fld q.area 16 8 % 16 = 0 ∧ q.gate = true ∧ (fld q.area 1 1 = 6 ∨ s.dev.bit R.MTR_STATUS_ZX_LOST (s.dev.voltOf (fld q.area 1 1)) = false)) ∧
    (∃ (m : MCal) (s : State), Awaits m.desc s.dev ∧ s.dev.runs .meter = true ∧ s.dev.mtr.cal = some m ∧ fld m.desc.area 4 2 ≤ m.n ∧ fld m.desc.area 1 1 < 13 ∧ fld m.desc.area 2 1 < 4 ∧ sfld m.desc.area 6 2 = 0) ∧
    (∃ (m : MCal) (s : State), Awaits m.desc s.dev ∧ s.dev.runs .meter = true ∧ s.dev.mtr.cal = some m ∧ m.n < fld m.desc.area 4 2) ∧
    (∃ (q : Desc) (s : State), Ready 0x0C 4 q s.dev ∧ resvOk q.area [(0, 1), (2, 6)] = true ∧ (fld q.area 2 2 < 256 ∨ fld q.area 2 2 = acctHouse) ∧ fld q.area 4 4 < 2 ^ 23 ∧ (∀ k < 6, bitOf (fld q.area 4 4) (17 + k) = true → s.dev.on R.MTR_DOCK_CFG_SEG_EN k = false) ∧ q.gate = true) ∧
    (∃ (q : Desc) (s : State), Ready 0x0C 4 q s.dev ∧ resvOk q.area [(0, 1), (2, 6)] = true ∧ (fld q.area 2 2 < 256 ∨ fld q.area 2 2 = acctHouse) ∧ fld q.area 4 4 < 2 ^ 23 ∧ (∀ k < 6, bitOf (fld q.area 4 4) (17 + k) = true → s.dev.on R.MTR_DOCK_CFG_SEG_EN k = false) ∧ q.gate = false) ∧
    (∃ (q : Desc) (s : State), Ready 0x0C 5 q s.dev ∧ s.dev.runs .nvm = true ∧ s.dev.mtr.saving = none ∧ resvOk q.area [(0, 1)] = true) ∧
    (∃ (q : Desc) (s : State), Ready 0x0C 6 q s.dev ∧ resvOk q.area [(0, 3), (8, 8)] = true ∧ 1 ≤ fld q.area 1 1 ∧ fld q.area 1 1 ≤ 64 ∧ fld q.area 2 1 < 2 ∧ fld q.area 8 8 % 16 = 0) :=
  ⟨⟨dq 0x0C 1 [], ex fun d => hand (dq 0x0C 1 []) (d), ready_of (by decide +kernel), by decide +kernel⟩,
   ⟨dq 0x0C 1 [1, 255], ex fun d => hand (dq 0x0C 1 [1, 255]) (({ d with mtr := { d.mtr with acct := [(255, { isOpen := true })] } } : Dev)), ready_of (by decide +kernel), by decide +kernel⟩,
   ⟨dq 0x0C 1 [1], ex fun d => hand (dq 0x0C 1 [1]) (d), ready_of (by decide +kernel), by decide +kernel⟩,
   ⟨dq 0x0C 2 [], ex fun d => hand (dq 0x0C 2 []) (d), ready_of (by decide +kernel), by decide +kernel⟩,
   ⟨dq 0x0C 2 [1, 255], ex fun d => hand (dq 0x0C 2 [1, 255]) (({ d with mtr := { d.mtr with acct := [(255, { isOpen := true })] } } : Dev)), ready_of (by decide +kernel), by decide +kernel⟩,
   ⟨dq 0x0C 3 [0, 0, 0, 10], ex fun d => hand (dq 0x0C 3 [0, 0, 0, 10]) (d), ready_of (by decide +kernel), by decide +kernel⟩,
   ⟨{ desc := dq 0x0C 5 [12, 3, 0, 1], n := 1 }, ex fun d => (({ d with mtr := { d.mtr with cal := some ({ desc := dq 0x0C 5 [12, 3, 0, 1], n := 1 }) } } : Dev) |> await (dq 0x0C 5 [12, 3, 0, 1])), awaits_of (by decide +kernel), by decide +kernel⟩,
   ⟨{ desc := dq 0x0C 5 [12, 3, 0, 2], n := 1 }, ex fun d => (({ d with mtr := { d.mtr with cal := some ({ desc := dq 0x0C 5 [12, 3, 0, 2], n := 1 }) } } : Dev) |> await (dq 0x0C 5 [12, 3, 0, 2])), awaits_of (by decide +kernel), by decide +kernel⟩,
   ⟨dq 0x0C 4 [], ex fun d => hand (dq 0x0C 4 []) (d), ready_of (by decide +kernel), by decide +kernel⟩,
   ⟨{ dq 0x0C 4 [] with gate := false }, ex fun d => hand ({ dq 0x0C 4 [] with gate := false }) (d), ready_of (by decide +kernel), by decide +kernel⟩,
   ⟨dq 0x0C 5 [], ex fun d => hand (dq 0x0C 5 []) (d), ready_of (by decide +kernel), by decide +kernel⟩,
   ⟨dq 0x0C 6 [1], ex fun d => hand (dq 0x0C 6 [1]) (d), ready_of (by decide +kernel), by decide +kernel⟩⟩

/-- The hypotheses of every clause of `Loops` can be met. -/
theorem test_Loops_met :
    (∃ (l : Nat) (x : CtlIn) (s : State), s.dev.runs .ctrl = true ∧ l < 64 ∧ s.dev.ctlRuns = true ∧ s.dev.on R.CTL_LOOP_CFG_EN l = true ∧ s.dev.on R.CTL_LOOP_CFG_GRP_EN l = false ∧ s.dev.loopMode l = 1 ∧ s.dev.on R.CTL_LOOP_STAT_CLOSE_PENDING l = false ∧ s.dev.get R.CTL_LOOP_IO_OUT_KIND l = 0) ∧
    (∃ (l : Nat) (x : CtlIn) (s : State), s.dev.runs .ctrl = true ∧ l < 64 ∧ s.dev.ctlRuns = true ∧ s.dev.on R.CTL_LOOP_CFG_EN l = true ∧ s.dev.on R.CTL_LOOP_CFG_GRP_EN l = false ∧ s.dev.loopMode l = 2 ∧ s.dev.on R.CTL_LOOP_STAT_PV_BAD l = false ∧ s.dev.pvBad l (s.dev.pvOf l x) = false ∧ (s.dev.loop l).resume = false ∧ s.dev.get R.CTL_LOOP_IO_OUT_KIND l = 0 ∧ s.dev.on R.CTL_LOOP_STAT_AX_BLOCK l = false ∧ x.residue = []) ∧
    (∃ (l : Nat) (x : CtlIn) (s : State), s.dev.runs .ctrl = true ∧ l < 64 ∧ s.dev.ctlRuns = true ∧ s.dev.on R.CTL_LOOP_CFG_EN l = true ∧ s.dev.on R.CTL_LOOP_CFG_GRP_EN l = false ∧ s.dev.loopMode l = 1 ∧ s.dev.on R.CTL_LOOP_STAT_CLOSE_PENDING l = true ∧ s.dev.on R.CTL_LOOP_STAT_PV_BAD l = false ∧ s.dev.pvBad l (s.dev.pvOf l x) = false ∧ s.dev.get R.CTL_LOOP_IO_OUT_KIND l = 0 ∧ x.residue = []) ∧
    (∃ (q : Desc) (s : State), Ready 0x0D 1 q s.dev ∧ resvOk q.area [(0, 3), (4, 4)] = true ∧ fld q.area 1 1 < 64 ∧ s.dev.reins = true ∧ q.gate = true ∧ fld q.area 2 1 = 4 ∧ s.dev.loopMode (fld q.area 1 1) = 2) ∧
    (∃ (q : Desc) (s : State), Ready 0x0D 1 q s.dev ∧ resvOk q.area [(0, 3), (4, 4)] = true ∧ fld q.area 1 1 < 64 ∧ s.dev.reins = true ∧ q.gate = true ∧ fld q.area 2 1 = 8 ∧ s.dev.loopMode (fld q.area 1 1) = 1 ∧ s.dev.on R.CTL_LOOP_STAT_PV_BAD (fld q.area 1 1) = false) ∧
    (∃ (q : Desc) (s : State), Ready 0x0D 1 q s.dev ∧ resvOk q.area [(0, 3), (4, 4)] = true ∧ fld q.area 1 1 < 64 ∧ s.dev.reins = true ∧ q.gate = true ∧ fld q.area 2 1 = 1) ∧
    (∃ (q : Desc) (s : State), Ready 0x0D 1 q s.dev ∧ resvOk q.area [(0, 3), (4, 4)] = true ∧ fld q.area 1 1 < 64 ∧ s.dev.reins = true ∧ q.gate = true ∧ fld q.area 2 1 = 2 ∧ s.dev.loopMode (fld q.area 1 1) = 2) ∧
    (∃ (q : Desc) (s : State), Ready 0x0D 1 q s.dev ∧ resvOk q.area [(0, 3), (4, 4)] = true ∧ fld q.area 1 1 < 64 ∧ fld q.area 2 1 < 4 ∧ s.dev.reins = false) ∧
    (∃ (q : Desc) (s : State), Ready 0x0D 2 q s.dev ∧ bankOk q.area = true ∧ s.dev.reins = true ∧ q.gate = true ∧ fld q.area 2 1 = s.dev.get R.CTL_LOOP_STAT_ACTIVE_BANK (fld q.area 1 1) ∧ s.dev.loopMode (fld q.area 1 1) = 2) ∧
    (∃ (q : Desc) (s : State), Ready 0x0D 2 q s.dev ∧ bankOk q.area = true ∧ s.dev.reins = true ∧ q.gate = true ∧ (¬ (fld q.area 2 1 = s.dev.get R.CTL_LOOP_STAT_ACTIVE_BANK (fld q.area 1 1) ∧ s.dev.loopMode (fld q.area 1 1) = 2))) ∧
    (∃ (q : Desc) (b : List Byte) (s : State), Ready 0x0D 3 q s.dev ∧ resvOk q.area [(0, 3), (8, 8)] = true ∧ fld q.area 1 1 < 8 ∧ 2 ≤ fld q.area 2 1 ∧ fld q.area 2 1 ≤ 32 ∧ fld q.area 8 8 % 16 = 0 ∧ tableOk ((List.range (fld q.area 2 1)).map fun i => (fld b (8 * i) 2, fld b (8 * i + 2) 2, fld b (8 * i + 4) 4)) = true ∧ s.dev.reins = true ∧ q.gate = true ∧ s.dev.on R.CTL_CTRL_EN = true ∧ (∀ l < 64, s.dev.loopMode l = 2 → (s.dev.bankOf l).table ≠ fld q.area 1 1)) ∧
    (∃ (l : Nat) (v : Word32) (s : State), s.dev.writable R.CTL_LOOP_CFG_EN = true ∧ l < 64 ∧ bitOf v.toNat 0 = true ∧ (s.dev.reins = true ∨ s.dev.paired = false) ∧ s.dev.on R.CTL_LOOP_CFG_EN l = false ∧ (s.dev.writeAddr (R.CTL_LOOP_CFG_EN.addr l) v.toNat).loopRefused l = false) ∧
    (∃ (l : Nat) (v : Word32) (s : State), s.dev.writable R.CTL_LOOP_CFG_EN = true ∧ l < 64 ∧ bitOf v.toNat 0 = true ∧ (s.dev.reins = true ∨ s.dev.paired = false) ∧ s.dev.on R.CTL_LOOP_CFG_EN l = false ∧ (s.dev.writeAddr (R.CTL_LOOP_CFG_EN.addr l) v.toNat).loopRefused l = true) ∧
    (∃ (l : Nat) (v : Word32) (s : State), s.dev.writable R.CTL_LOOP_CFG_EN = true ∧ l < 64 ∧ bitOf v.toNat 0 = false ∧ (s.dev.reins = true ∨ s.dev.paired = false) ∧ s.dev.on R.CTL_LOOP_CFG_EN l = true) ∧
    (∃ (v : Word32) (s : State), s.dev.writable R.CTL_CTRL_EN = true ∧ bitOf v.toNat 0 = false) ∧
    (∃ (v : Word32) (s : State), s.dev.writable R.CTL_CTRL_EN = true ∧ bitOf v.toNat 0 = true ∧ s.dev.on R.CTL_CTRL_EN = false) :=
  ⟨⟨63, {}, ex fun d => (((((d.set R.CTL_LOOP_CFG_EN 1 63).set R.CTL_LOOP_CFG_GRP_EN 0 63).set R.CTL_LOOP_STAT_CLOSE_PENDING 0 63).set R.CTL_LOOP_IO_OUT_KIND 0 63).set R.CTL_CTRL_EN 1).set R.CTL_LOOP_STAT_MODE 1 63, by decide +kernel⟩,
   ⟨63, {}, ex fun d => (((((((d.set R.CTL_LOOP_CFG_EN 1 63).set R.CTL_LOOP_CFG_GRP_EN 0 63).set R.CTL_LOOP_STAT_PV_BAD 0 63).set R.CTL_LOOP_STAT_AX_BLOCK 0 63).set R.CTL_LOOP_IO_OUT_KIND 0 63).set R.CTL_CTRL_EN 1).set R.CTL_LOOP_IN_HI_IN_HI 1000 63).set R.CTL_LOOP_STAT_MODE 2 63, by decide +kernel⟩,
   ⟨63, {}, ex fun d => (((((((d.set R.CTL_LOOP_CFG_EN 1 63).set R.CTL_LOOP_CFG_GRP_EN 0 63).set R.CTL_LOOP_STAT_CLOSE_PENDING 1 63).set R.CTL_LOOP_STAT_PV_BAD 0 63).set R.CTL_LOOP_IO_OUT_KIND 0 63).set R.CTL_CTRL_EN 1).set R.CTL_LOOP_IN_HI_IN_HI 1000 63).set R.CTL_LOOP_STAT_MODE 1 63, by decide +kernel⟩,
   ⟨dq 0x0D 1 [0, 4], ex fun d => hand (dq 0x0D 1 [0, 4]) (d.set R.CTL_LOOP_STAT_MODE 2 0), ready_of (by decide +kernel), by decide +kernel⟩,
   ⟨dq 0x0D 1 [0, 8], ex fun d => hand (dq 0x0D 1 [0, 8]) (d.set R.CTL_LOOP_STAT_MODE 1 0), ready_of (by decide +kernel), by decide +kernel⟩,
   ⟨dq 0x0D 1 [0, 1], ex fun d => hand (dq 0x0D 1 [0, 1]) (d), ready_of (by decide +kernel), by decide +kernel⟩,
   ⟨dq 0x0D 1 [0, 2], ex fun d => hand (dq 0x0D 1 [0, 2]) (d.set R.CTL_LOOP_STAT_MODE 2 0), ready_of (by decide +kernel), by decide +kernel⟩,
   ⟨dq 0x0D 1 [], ex fun d => hand (dq 0x0D 1 []) (d.set R.PAIR_STATUS_ROLE 2), ready_of (by decide +kernel), by decide +kernel⟩,
   ⟨dq 0x0D 2 [63, 1, 1, 1, 0, 0, 0, 0, 0, 0, 0, 0, 0, 0, 0, 100, 0, 255, 0, 5, 0, 5], ex fun d => hand (dq 0x0D 2 [63, 1, 1, 1, 0, 0, 0, 0, 0, 0, 0, 0, 0, 0, 0, 100, 0, 255, 0, 5, 0, 5]) ((d.set R.CTL_LOOP_STAT_ACTIVE_BANK 1 63).set R.CTL_LOOP_STAT_MODE 2 63), ready_of (by decide +kernel), by decide +kernel⟩,
   ⟨dq 0x0D 2 [63, 1, 1, 1, 0, 0, 0, 0, 0, 0, 0, 0, 0, 0, 0, 100, 0, 255, 0, 5, 0, 5], ex fun d => hand (dq 0x0D 2 [63, 1, 1, 1, 0, 0, 0, 0, 0, 0, 0, 0, 0, 0, 0, 100, 0, 255, 0, 5, 0, 5]) (d), ready_of (by decide +kernel), by decide +kernel⟩,
   ⟨dq 0x0D 3 [7, 2], u64 0 ++ u64 1, ex fun d => hand (dq 0x0D 3 [7, 2]) (d.set R.CTL_CTRL_EN 1), ready_of (by decide +kernel), by decide +kernel⟩,
   ⟨63, 0x10001, ex fun d => ((d.set R.CTL_LOOP_CFG_EN 0 63).set R.CTL_LOOP_CFG_PERIOD 1 63).set R.CTL_LOOP_IN_HI_IN_HI 1000 63, by decide +kernel⟩,
   ⟨63, 1, ex fun d => d.set R.CTL_LOOP_CFG_EN 0 63, by decide +kernel⟩,
   ⟨63, 0, ex fun d => d.set R.CTL_LOOP_CFG_EN 1 63, by decide +kernel⟩,
   ⟨0, ex fun d => d, by decide +kernel⟩,
   ⟨1, ex fun d => d.set R.CTL_CTRL_EN 0, by decide +kernel⟩⟩

/-- The hypotheses of every clause of `AxisMoves` can be met. -/
theorem test_AxisMoves_met :
    (∃ (q : Desc) (a : Nat) (tgt : Int) (s : State), Ready 0x0E 1 q s.dev ∧ resvOk q.area [(0, 3), (4, 4)] = true ∧ a = fld q.area 1 1 ∧ a < 16 ∧ fld q.area 2 1 < 2 ∧ s.dev.reins = true ∧ q.gate = true ∧ (s.dev.axis a).mot = none ∧ (s.dev.axis a).group = none ∧ tgt = dec2 32 (enc2 32 ((if fld q.area 2 1 = 0 then 0 else s.dev.geti R.AXS_AX_POS_POS a) + sfld q.area 4 4)) ∧ s.dev.moveRefusal a 1 tgt = none) ∧
    (∃ (q : Desc) (a : Nat) (tgt : Int) (st : Status) (s : State), Ready 0x0E 1 q s.dev ∧ resvOk q.area [(0, 3), (4, 4)] = true ∧ a = fld q.area 1 1 ∧ a < 16 ∧ fld q.area 2 1 < 2 ∧ s.dev.reins = true ∧ q.gate = true ∧ (s.dev.axis a).mot = none ∧ (s.dev.axis a).group = none ∧ tgt = dec2 32 (enc2 32 ((if fld q.area 2 1 = 0 then 0 else s.dev.geti R.AXS_AX_POS_POS a) + sfld q.area 4 4)) ∧ s.dev.moveRefusal a 1 tgt = some st) ∧
    (∃ (q : Desc) (o : Desc) (a : Nat) (m : Motion) (s : State), Ready 0x0E 1 q s.dev ∧ resvOk q.area [(0, 3), (4, 4)] = true ∧ a = fld q.area 1 1 ∧ a < 16 ∧ fld q.area 2 1 = 0 ∧ s.dev.reins = true ∧ q.gate = true ∧ (s.dev.axis a).mot = some m ∧ (s.dev.axis a).group = none ∧ (s.dev.axis a).desc = some o ∧ s.dev.moveRefusal a 1 (sfld q.area 4 4) = none) ∧
    (∃ (q : Desc) (g : Nat) (s : State), Ready 0x0E 2 q s.dev ∧ resvOk q.area [(0, 3), (4, 16)] = true ∧ g = fld q.area 1 1 ∧ g < 8 ∧ fld q.area 2 1 = 0 ∧ s.dev.reins = true ∧ q.gate = true ∧ s.dev.members g ≠ [] ∧ (s.dev.group g).active = false ∧ (s.dev.group g).wait = none ∧ (∀ a ∈ s.dev.members g, (s.dev.axis a).mot = none ∧ (s.dev.axis a).group = none) ∧ (∀ p ∈ (s.dev.members g).zipIdx, s.dev.moveRefusal p.1 1 (sfld q.area (4 + 4 * p.2) 4) = none)) ∧
    (∃ (q : Desc) (g : Nat) (a : Nat) (s : State), Ready 0x0E 2 q s.dev ∧ resvOk q.area [(0, 3), (4, 16)] = true ∧ g = fld q.area 1 1 ∧ g < 8 ∧ fld q.area 2 1 < 2 ∧ s.dev.reins = true ∧ q.gate = true ∧ a ∈ s.dev.members g ∧ s.dev.axLocked a = true) ∧
    (∃ (q : Desc) (a : Nat) (m : Motion) (s : State), Ready 0x0E 4 q s.dev ∧ resvOk q.area [(0, 2)] = true ∧ a = fld q.area 1 1 ∧ a < 16 ∧ s.dev.reins = true ∧ q.gate = true ∧ (s.dev.axis a).mot = some m ∧ (s.dev.axis a).group = none ∧ (s.dev.axis a).homing = none ∧ (s.dev.axis a).stopping = false) ∧
    (∃ (a : Nat) (m : Motion) (q : Desc) (s : State), Awaits q s.dev ∧ s.dev.runs .motor = true ∧ a < 16 ∧ (s.dev.axis a).mot = some m ∧ (s.dev.axis a).group = none ∧ (s.dev.axis a).homing = none ∧ (s.dev.axis a).stopping = false ∧ (s.dev.axis a).desc = some q) ∧
    (∃ (a : Nat) (m : Motion) (q : Desc) (s : State), Awaits q s.dev ∧ s.dev.runs .motor = true ∧ a < 16 ∧ (s.dev.axis a).mot = some m ∧ (s.dev.axis a).group = none ∧ (s.dev.axis a).homing = none ∧ (s.dev.axis a).stopping = true ∧ (s.dev.axis a).next = none ∧ (∀ g < 8, (s.dev.group g).wait = none) ∧ (s.dev.axis a).desc = some q) :=
  ⟨⟨dq 0x0E 1 [15], 15, 0, ex fun d => hand (dq 0x0E 1 [15]) ((((({ d with axs := { d.axs with ax := [(15, { en := true })] } } : Dev).set R.AXS_CTRL_EN 1).set R.AXS_AX_STAT_HOMED 1 15).set R.AXS_AX_SOFT_HI_SOFT_HI 1000 15).set R.AXS_AX_STAT_OWNER 1 15), ready_of (by decide +kernel), by decide +kernel⟩,
   ⟨dq 0x0E 1 [], 0, 0, .refusedState, ex fun d => hand (dq 0x0E 1 []) (d), ready_of (by decide +kernel), by decide +kernel⟩,
   ⟨dq 0x0E 1 [15], { dq 0x0E 1 [15, 1] with no := 6 }, 15, {}, ex fun d => hand (dq 0x0E 1 [15]) ((((({ d with axs := { d.axs with ax := [(15, { en := true, mot := some {}, desc := some { dq 0x0E 1 [15, 1] with no := 6 } })] } } : Dev).set R.AXS_CTRL_EN 1).set R.AXS_AX_STAT_HOMED 1 15).set R.AXS_AX_SOFT_HI_SOFT_HI 1000 15).set R.AXS_AX_STAT_OWNER 1 15), ready_of (by decide +kernel), by decide +kernel⟩,
   ⟨dq 0x0E 2 [7], 7, ex fun d => hand (dq 0x0E 2 [7]) (((((({ d with axs := { d.axs with ax := [(15, { en := true })] } } : Dev).set R.AXS_AX_CFG_GRP_EN 1 15).set R.AXS_AX_CFG_GROUP 7 15).set R.AXS_CTRL_EN 1).set R.AXS_AX_STAT_HOMED 1 15).set R.AXS_AX_SOFT_HI_SOFT_HI 1000 15), ready_of (by decide +kernel), by decide +kernel⟩,
   ⟨dq 0x0E 2 [7], 7, 15, ex fun d => hand (dq 0x0E 2 [7]) (((d.set R.AXS_AX_CFG_GRP_EN 1 15).set R.AXS_AX_CFG_GROUP 7 15).set R.AXS_AX_STAT_LOCKED 1 15), ready_of (by decide +kernel), by decide +kernel⟩,
   ⟨dq 0x0E 4 [15], 15, {}, ex fun d => hand (dq 0x0E 4 [15]) (({ d with axs := { d.axs with ax := [(15, { en := true, mot := some {} })] } } : Dev)), ready_of (by decide +kernel), by decide +kernel⟩,
   ⟨15, {}, dq 0x0E 1 [15], ex fun d => (({ d with axs := { d.axs with ax := [(15, { en := true, mot := some {}, desc := some (dq 0x0E 1 [15]) })] } } : Dev) |> await (dq 0x0E 1 [15])), awaits_of (by decide +kernel), by decide +kernel⟩,
   ⟨15, {}, dq 0x0E 1 [15], ex fun d => (({ d with axs := { d.axs with ax := [(15, { en := true, mot := some {}, stopping := true, desc := some (dq 0x0E 1 [15]) })] } } : Dev) |> await (dq 0x0E 1 [15])), awaits_of (by decide +kernel), by decide +kernel⟩⟩

/-- The hypotheses of every clause of `AxisHoming` can be met. -/
theorem test_AxisHoming_met :
    (∃ (q : Desc) (a : Nat) (s : State), Ready 0x0E 3 q s.dev ∧ resvOk q.area [(0, 3), (4, 24)] = true ∧ a = fld q.area 1 1 ∧ a < 16 ∧ bits (fld q.area 2 1) 1 2 < 3 ∧ fld q.area 2 1 < 8 ∧ 1 ≤ fld q.area 4 4 ∧ fld q.area 4 4 ≤ 250000 ∧ 1 ≤ fld q.area 8 4 ∧ fld q.area 8 4 ≤ 250000 ∧ 1 ≤ fld q.area 12 4 ∧ s.dev.reins = true ∧ q.gate = true ∧ s.dev.axLocked a = false ∧ (s.dev.axis a).code < 2 ∧ (s.dev.axis a).en = true ∧ s.dev.on R.AXS_CTRL_EN = true ∧ s.dev.get R.AXS_AX_STAT_FAULT a = 0 ∧ s.dev.loopNames a = false) ∧
    (∃ (a : Nat) (h : Homing) (m : Motion) (level : Bool) (s : State), s.dev.runs .motor = true ∧ a < 16 ∧ (s.dev.axis a).homing = some h ∧ (s.dev.axis a).mot = some m ∧ h.src < 3 ∧ level ≠ s.dev.on (switchPol h.src) a ∧ h.st = .fast ∧ h.braking = false ∧ h.cause = none) ∧
    (∃ (a : Nat) (h : Homing) (m : Motion) (level : Bool) (s : State), s.dev.runs .motor = true ∧ a < 16 ∧ (s.dev.axis a).homing = some h ∧ (s.dev.axis a).mot = some m ∧ h.src < 3 ∧ level ≠ s.dev.on (switchPol h.src) a ∧ h.st = .creep ∧ h.braking = false ∧ h.cause = none) ∧
    (∃ (a : Nat) (h : Homing) (m : Motion) (s : State), s.dev.runs .motor = true ∧ a < 16 ∧ (s.dev.axis a).homing = some h ∧ (s.dev.axis a).mot = some m ∧ h.src < 3 ∧ h.cause = none ∧ s.dev.get R.AXS_AX_IN_CHAT_N a ≤ ((s.dev.axis a).edges.filter fun t => s.dev.clk.mono ≤ t + s.dev.get R.AXS_AX_IN_CHAT_WIN a * ms).length) ∧
    (∃ (a : Nat) (h : Homing) (m : Motion) (s : State), s.dev.runs .motor = true ∧ a < 16 ∧ (s.dev.axis a).homing = some h ∧ (s.dev.axis a).mot = some m ∧ h.braking = false ∧ h.cause = none) ∧
    (∃ (a : Nat) (h : Homing) (m : Motion) (s : State), s.dev.runs .motor = true ∧ a < 16 ∧ (s.dev.axis a).homing = some h ∧ (s.dev.axis a).mot = some m ∧ h.braking = true ∧ h.cause = none ∧ h.st ≠ .creep) ∧
    (∃ (a : Nat) (h : Homing) (m : Motion) (s : State), s.dev.runs .motor = true ∧ a < 16 ∧ (s.dev.axis a).homing = some h ∧ (s.dev.axis a).mot = some m ∧ h.braking = true ∧ h.cause = none ∧ h.st = .creep) ∧
    (∃ (a : Nat) (c : Nat) (h : Homing) (m : Motion) (s : State), s.dev.runs .motor = true ∧ a < 16 ∧ (s.dev.axis a).homing = some h ∧ (s.dev.axis a).mot = some m ∧ h.braking = true ∧ h.cause = some c ∧ 1 ≤ c ∧ c ≤ 5) :=
  ⟨⟨dq 0x0E 3 [15, 5, 0, 144, 208, 3, 0, 1, 0, 0, 0, 1], 15, ex fun d => hand (dq 0x0E 3 [15, 5, 0, 144, 208, 3, 0, 1, 0, 0, 0, 1]) (((({ d with axs := { d.axs with ax := [(15, { en := true })] } } : Dev).set R.AXS_CTRL_EN 1).set R.AXS_AX_STAT_FAULT 0 15).set R.AXS_CTRL_EN 1), ready_of (by decide +kernel), by decide +kernel⟩,
   ⟨15, { src := 2 }, {}, true, ex fun d => ({ d with axs := { d.axs with ax := [(15, { en := true, mot := some {}, homing := some { src := 2 } })] } } : Dev), by decide +kernel⟩,
   ⟨15, { src := 2, st := .creep }, {}, true, ex fun d => ({ d with axs := { d.axs with ax := [(15, { en := true, mot := some {}, homing := some { src := 2, st := .creep } })] } } : Dev), by decide +kernel⟩,
   ⟨15, { src := 2 }, {}, ex fun d => ({ d with axs := { d.axs with ax := [(15, { en := true, mot := some {}, homing := some { src := 2 } })] } } : Dev).set R.AXS_AX_IN_CHAT_N 0 15, by decide +kernel⟩,
   ⟨15, { src := 2 }, {}, ex fun d => ({ d with axs := { d.axs with ax := [(15, { en := true, mot := some {}, homing := some { src := 2 } })] } } : Dev), by decide +kernel⟩,
   ⟨15, { src := 2, braking := true }, {}, ex fun d => ({ d with axs := { d.axs with ax := [(15, { en := true, mot := some {}, homing := some { src := 2, braking := true } })] } } : Dev), by decide +kernel⟩,
   ⟨15, { src := 2, st := .creep, braking := true }, {}, ex fun d => ({ d with axs := { d.axs with ax := [(15, { en := true, mot := some {}, homing := some { src := 2, st := .creep, braking := true } })] } } : Dev), by decide +kernel⟩,
   ⟨15, 5, { src := 2, braking := true, cause := some 5 }, {}, ex fun d => ({ d with axs := { d.axs with ax := [(15, { en := true, mot := some {}, homing := some { src := 2, braking := true, cause := some 5 } })] } } : Dev), by decide +kernel⟩⟩

/-- The hypotheses of every clause of `AxisSettings` can be met. -/
theorem test_AxisSettings_met :
    (∃ (q : Desc) (a : Nat) (s : State), Ready 0x0E 5 q s.dev ∧ resvOk q.area [(0, 3), (4, 24)] = true ∧ a = fld q.area 1 1 ∧ a < 16 ∧ (profFrom q.area).shape < 2 ∧ 1 ≤ (profFrom q.area).v ∧ (profFrom q.area).v ≤ 250000 ∧ 1 ≤ (profFrom q.area).vs ∧ (profFrom q.area).vs ≤ (profFrom q.area).v ∧ 1 ≤ (profFrom q.area).a ∧ 1 ≤ (profFrom q.area).d ∧ ((profFrom q.area).shape = 0 ∨ 1 ≤ (profFrom q.area).j) ∧ (profFrom q.area).d ≤ (profFrom q.area).demg ∧ s.dev.reins = true ∧ (s.dev.axis a).mot = none ∧ (s.dev.axis a).group = none) ∧
    (∃ (q : Desc) (s : State), Ready 0x0E 6 q s.dev ∧ axCtrlOk q.area = true ∧ fld q.area 2 1 = 0 ∧ s.dev.reins = true ∧ q.gate = true) ∧
    (∃ (q : Desc) (a : Nat) (s : State), Ready 0x0E 6 q s.dev ∧ axCtrlOk q.area = true ∧ fld q.area 2 1 = 1 ∧ a = fld q.area 1 1 ∧ s.dev.reins = true ∧ q.gate = true ∧ s.dev.axLocked a = false) ∧
    (∃ (q : Desc) (a : Nat) (m : Motion) (s : State), Ready 0x0E 6 q s.dev ∧ axCtrlOk q.area = true ∧ fld q.area 2 1 = 1 ∧ a = fld q.area 1 1 ∧ s.dev.reins = true ∧ q.gate = true ∧ s.dev.axLocked a = false ∧ (s.dev.axis a).en = true ∧ (s.dev.axis a).mot = some m ∧ (s.dev.axis a).homing = none ∧ (s.dev.axis a).group = none) ∧
    (∃ (q : Desc) (a : Nat) (s : State), Ready 0x0E 6 q s.dev ∧ axCtrlOk q.area = true ∧ fld q.area 2 1 = 1 ∧ a = fld q.area 1 1 ∧ s.dev.reins = true ∧ q.gate = true ∧ s.dev.axLocked a = true) ∧
    (∃ (q : Desc) (p : Bool) (a : Nat) (s : State), Ready 0x0E 6 q s.dev ∧ axCtrlOk q.area = true ∧ fld q.area 2 1 = 2 ∧ a = fld q.area 1 1 ∧ s.dev.reins = true ∧ q.gate = true ∧ (p = false ∨ (s.dev.get R.AXS_AX_STAT_FAULT a ≠ 1 ∧ s.dev.get R.AXS_AX_STAT_FAULT a ≠ 5))) ∧
    (∃ (q : Desc) (a : Nat) (s : State), Ready 0x0E 6 q s.dev ∧ axCtrlOk q.area = true ∧ fld q.area 2 1 = 2 ∧ a = fld q.area 1 1 ∧ s.dev.reins = true ∧ q.gate = true ∧ (s.dev.get R.AXS_AX_STAT_FAULT a = 1 ∨ s.dev.get R.AXS_AX_STAT_FAULT a = 5)) ∧
    (∃ (q : Desc) (a : Nat) (w : Nat) (s : State), Ready 0x0E 7 q s.dev ∧ resvOk q.area [(0, 12)] = true ∧ a = fld q.area 1 1 ∧ w = fld q.area 2 1 ∧ a < 16 ∧ w < 4 ∧ fld q.area 3 1 < 4 ∧ sfld q.area 4 4 ≤ sfld q.area 8 4 ∧ s.dev.reins = true ∧ s.dev.bit R.AXS_AX_WIN_CFG_REQUIRED w a = false) ∧
    (∃ (q : Desc) (a : Nat) (w : Nat) (s : State), Ready 0x0E 7 q s.dev ∧ resvOk q.area [(0, 12)] = true ∧ a = fld q.area 1 1 ∧ w = fld q.area 2 1 ∧ a < 16 ∧ w < 4 ∧ fld q.area 3 1 < 4 ∧ sfld q.area 4 4 ≤ sfld q.area 8 4 ∧ s.dev.reins = true ∧ s.dev.bit R.AXS_AX_WIN_CFG_REQUIRED w a = true) ∧
    (∃ (v : Word32) (s : State), s.dev.writable R.AXS_CTRL_EN = true ∧ bitOf v.toNat 0 = false ∧ s.dev.on R.AXS_CTRL_EN = true ∧ (∀ a < 16, s.dev.axLocked a = false)) ∧
    (∃ (v : Word32) (a : Nat) (s : State), s.dev.writable R.AXS_CTRL_EN = true ∧ bitOf v.toNat 0 = false ∧ s.dev.on R.AXS_CTRL_EN = true ∧ a < 16 ∧ s.dev.axLocked a = true) :=
  ⟨⟨dq 0x0E 5 [15, 1, 0, 144, 208, 3, 0, 144, 208, 3, 0, 1, 0, 0, 0, 1, 0, 0, 0, 1, 0, 0, 0, 1], 15, ex fun d => hand (dq 0x0E 5 [15, 1, 0, 144, 208, 3, 0, 144, 208, 3, 0, 1, 0, 0, 0, 1, 0, 0, 0, 1, 0, 0, 0, 1]) (d), ready_of (by decide +kernel), by decide +kernel⟩,
   ⟨dq 0x0E 6 [], ex fun d => hand (dq 0x0E 6 []) (d), ready_of (by decide +kernel), by decide +kernel⟩,
   ⟨dq 0x0E 6 [0, 1], 0, ex fun d => hand (dq 0x0E 6 [0, 1]) (d), ready_of (by decide +kernel), by decide +kernel⟩,
   ⟨dq 0x0E 6 [0, 1], 0, {}, ex fun d => hand (dq 0x0E 6 [0, 1]) (({ d with axs := { d.axs with ax := [(0, { en := true, mot := some {} })] } } : Dev)), ready_of (by decide +kernel), by decide +kernel⟩,
   ⟨dq 0x0E 6 [0, 1], 0, ex fun d => hand (dq 0x0E 6 [0, 1]) (d.set R.AXS_AX_STAT_LOCKED 1 0), ready_of (by decide +kernel), by decide +kernel⟩,
   ⟨dq 0x0E 6 [0, 2], false, 0, ex fun d => hand (dq 0x0E 6 [0, 2]) (d), ready_of (by decide +kernel), by decide +kernel⟩,
   ⟨dq 0x0E 6 [0, 2], 0, ex fun d => hand (dq 0x0E 6 [0, 2]) (d.set R.AXS_AX_STAT_FAULT 5 0), ready_of (by decide +kernel), by decide +kernel⟩,
   ⟨dq 0x0E 7 [], 0, 0, ex fun d => hand (dq 0x0E 7 []) (d), ready_of (by decide +kernel), by decide +kernel⟩,
   ⟨dq 0x0E 7 [], 0, 0, ex fun d => hand (dq 0x0E 7 []) (d.set R.AXS_AX_WIN_CFG_REQUIRED 1 0), ready_of (by decide +kernel), by decide +kernel⟩,
   ⟨0, ex fun d => d.set R.AXS_CTRL_EN 1, by decide +kernel⟩,
   ⟨0, 15, ex fun d => (d.set R.AXS_CTRL_EN 1).set R.AXS_AX_STAT_LOCKED 1 15, by decide +kernel⟩⟩

/-- The hypotheses of every clause of `AxisInputs` can be met. -/
theorem test_AxisInputs_met :
    (∃ (a : Nat) (t0 : Nat) (s : State), s.dev.runs .motor = true ∧ a < 16 ∧ (s.dev.axis a).endAt = some t0) ∧
    (∃ (a : Nat) (t0 : Nat) (s : State), s.dev.runs .motor = true ∧ a < 16 ∧ (s.dev.axis a).endAt = some t0 ∧ (s.dev.axis a).coil = .hold ∧ (s.dev.axis a).code < 2 ∧ s.dev.get R.AXS_AX_CFG_STAND a < 3) ∧
    (∃ (a : Nat) (hi : Bool) (level : Bool) (m : Motion) (s : State), s.dev.runs .motor = true ∧ a < 16 ∧ level ≠ s.dev.on R.AXS_AX_CFG_LIM_POL a ∧ s.dev.on R.AXS_AX_CFG_LIM_EN a = true ∧ (s.dev.axis a).mot = some m ∧ (s.dev.axis a).group = none ∧ (s.dev.axis a).homing = none ∧ (s.dev.axis a).stopping = false ∧ m.neg ≠ hi) ∧
    (∃ (a : Nat) (hi : Bool) (s : State), s.dev.runs .motor = true ∧ a < 16 ∧ (s.dev.axis a).homing = none) ∧
    (∃ (a : Nat) (c : Nat) (n : Nat) (x : Chop) (s : State), s.dev.runs .motor = true ∧ a < 16 ∧ c < 2 ∧ s.dev.pair.frozen = false ∧ (if c = 0 then (s.dev.axis a).chopA else (s.dev.axis a).chopB) = some x ∧ x.off = none ∧ x.blank < n) ∧
    (∃ (a : Nat) (c : Nat) (n : Nat) (x : Chop) (q : Desc) (s : State), Awaits q s.dev ∧ s.dev.runs .motor = true ∧ a < 16 ∧ c < 2 ∧ s.dev.pair.frozen = false ∧ (if c = 0 then (s.dev.axis a).chopA else (s.dev.axis a).chopB) = some x ∧ x.off = none ∧ n ≤ x.blank ∧ x.trips = 15 ∧ 16384 ≤ x.ref ∧ (s.dev.axis a).desc = some q) :=
  ⟨⟨15, 5, ex fun d => ({ d with axs := { d.axs with ax := [(15, { en := true, endAt := some 5 })] } } : Dev), by decide +kernel⟩,
   ⟨15, 5, ex fun d => ({ d with axs := { d.axs with ax := [(15, { en := true, endAt := some 5, coil := .hold })] } } : Dev).set R.AXS_AX_CFG_STAND 0 15, by decide +kernel⟩,
   ⟨15, true, true, {}, ex fun d => ({ d with axs := { d.axs with ax := [(15, { en := true, mot := some {} })] } } : Dev).set R.AXS_AX_CFG_LIM_EN 1 15, by decide +kernel⟩,
   ⟨15, false, ex fun d => d, by decide +kernel⟩,
   ⟨15, 0, 100, {}, ex fun d => ({ d with pair := { d.pair with frozen := false }, axs := { d.axs with ax := [(15, { en := true, chopA := some {} })] } } : Dev), by decide +kernel⟩,
   ⟨15, 0, 0, { trips := 15, ref := 16384 }, dq 0x0E 1 [15], ex fun d => (({ d with pair := { d.pair with frozen := false }, axs := { d.axs with ax := [(15, { en := true, chopA := some { trips := 15, ref := 16384 }, desc := some (dq 0x0E 1 [15]) })] } } : Dev) |> await (dq 0x0E 1 [15])), awaits_of (by decide +kernel), by decide +kernel⟩⟩

/-- The hypotheses of every clause of `StopsAndDrag` can be met. -/
theorem test_StopsAndDrag_met :
    (∃ (q : Desc) (s : State), Ready 9 1 q s.dev ∧ dragOk q.area = true ∧ fld q.area 1 1 = 0 ∧ s.dev.reins = true ∧ s.dev.cellDrag = false) ∧
    (∃ (q : Desc) (s : State), Ready 9 1 q s.dev ∧ dragOk q.area = true ∧ fld q.area 1 1 = 0 ∧ s.dev.reins = true ∧ s.dev.cellDrag = true) ∧
    (∃ (q : Desc) (k : Nat) (s : State), Ready 9 1 q s.dev ∧ dragOk q.area = true ∧ fld q.area 1 1 = 1 ∧ k = fld q.area 2 1 ∧ s.dev.reins = true ∧ s.dev.releaseOk k = true) ∧
    (∃ (q : Desc) (k : Nat) (s : State), Ready 9 1 q s.dev ∧ dragOk q.area = true ∧ fld q.area 1 1 = 1 ∧ k = fld q.area 2 1 ∧ s.dev.reins = true ∧ s.dev.releaseOk k = false) ∧
    (∃ (q : Desc) (m : Nat) (s : State), Ready 9 2 q s.dev ∧ resvOk q.area [(0, 2)] = true ∧ m = fld q.area 1 1 ∧ m < 240 ∧ s.dev.reins = true ∧ s.dev.stopped m = false) ∧
    (∃ (q : Desc) (m : Nat) (s : State), Ready 9 2 q s.dev ∧ resvOk q.area [(0, 2)] = true ∧ m = fld q.area 1 1 ∧ m < 240 ∧ s.dev.reins = true ∧ s.dev.stopped m = true) ∧
    (∃ (q : Desc) (m : Nat) (s : State), Ready 9 3 q s.dev ∧ resvOk q.area [(0, 2)] = true ∧ m = fld q.area 1 1 ∧ m < 240 ∧ s.dev.reins = true ∧ s.dev.stopped m = true ∧ s.dev.stopReleaseOk m = true) ∧
    (∃ (q : Desc) (m : Nat) (s : State), Ready 9 3 q s.dev ∧ resvOk q.area [(0, 2)] = true ∧ m = fld q.area 1 1 ∧ m < 240 ∧ s.dev.reins = true ∧ (s.dev.stopped m = false ∨ s.dev.stopReleaseOk m = false)) ∧
    (∃ (a : Bool) (b : Bool) (s : State), s.dev.powered = true ∧ s.dev.sys.lost.contains (regionCode .safe) = false ∧ (a || b) = true ∧ s.dev.reins = true ∧ s.dev.cellDrag = false) ∧
    (∃ (a : Bool) (b : Bool) (s : State), s.dev.powered = true ∧ s.dev.sys.lost.contains (regionCode .safe) = false ∧ (a || b) = true ∧ s.dev.paired = true ∧ s.dev.get R.PAIR_STATUS_ROLE = 2) ∧
    (∃ (s : State), s.dev.powered = true ∧ s.dev.sys.lost.contains (regionCode .safe) = false ∧ s.dev.reins = true) ∧
    (∃ (t0 : Nat) (s : State), s.dev.runs .safe = true ∧ s.dev.brk.diffAt = some t0) :=
  ⟨⟨dq 9 1 [0, 1], ex fun d => hand (dq 9 1 [0, 1]) (d), ready_of (by decide +kernel), by decide +kernel⟩,
   ⟨dq 9 1 [0, 1], ex fun d => hand (dq 9 1 [0, 1]) (d.set R.BRK_SRC_SRC 4), ready_of (by decide +kernel), by decide +kernel⟩,
   ⟨dq 9 1 [1], 0, ex fun d => hand (dq 9 1 [1]) (d), ready_of (by decide +kernel), by decide +kernel⟩,
   ⟨dq 9 1 [1], 0, ex fun d => hand (dq 9 1 [1]) (d.set R.BRK_IN_A 1), ready_of (by decide +kernel), by decide +kernel⟩,
   ⟨dq 9 2 [], 0, ex fun d => hand (dq 9 2 []) (d), ready_of (by decide +kernel), by decide +kernel⟩,
   ⟨dq 9 2 [], 0, ex fun d => hand (dq 9 2 []) (d.set R.BRK_STOP_STOP 1 0), ready_of (by decide +kernel), by decide +kernel⟩,
   ⟨dq 9 3 [], 0, ex fun d => hand (dq 9 3 []) (d.set R.BRK_STOP_STOP 1 0), ready_of (by decide +kernel), by decide +kernel⟩,
   ⟨dq 9 3 [], 0, ex fun d => hand (dq 9 3 []) (d), ready_of (by decide +kernel), by decide +kernel⟩,
   ⟨true, false, ex fun d => d, by decide +kernel⟩,
   ⟨true, false, ex fun d => (d.set R.PAIR_STATUS_PAIRED 1).set R.PAIR_STATUS_ROLE 2, by decide +kernel⟩,
   ⟨ex fun d => d, by decide +kernel⟩,
   ⟨0, ex fun d => ({ d with brk := { d.brk with diffAt := some 0 } } : Dev), by decide +kernel⟩⟩

/-- The hypotheses of every clause of `SupervisionAndWatchdog` can be met. -/
theorem test_SupervisionAndWatchdog_met :
    (∃ (m : Nat) (a : Auth) (s : State), s.dev.runs .safe = true ∧ s.dev.timeGoes = true ∧ m < 240 ∧ s.dev.authOf m = some a ∧ s.dev.on R.BRK_MACH_ACKED m = false ∧ (s.dev.brkM m).late = false) ∧
    (∃ (d : Dev) (m : Nat) (u : Upl), m < 240 ∧ u.age ≤ d.get R.BRK_CFG_AGE_MAX * 10 ∧ d.paused 1 = false ∧ (d.authOf m).isSome = true ∧ (d.judge m u).1 ≠ 0 ∧ d.stopped m = false) ∧
    (∃ (d : Dev) (m : Nat) (u : Upl), m < 240 ∧ u.age ≤ d.get R.BRK_CFG_AGE_MAX * 10 ∧ d.paused 1 = false ∧ (d.authOf m).isSome = true ∧ (d.judge m u).1 = 0) ∧
    (∃ (d : Dev) (m : Nat) (u : Upl), m < 240 ∧ u.age ≤ d.get R.BRK_CFG_AGE_MAX * 10 ∧ d.paused 1 = false ∧ d.authOf m = none ∧ d.get R.BRK_CFG_STILL_SPD * 10 < u.speed ∧ d.stopped m = false) ∧
    (∃ (v : Word32) (s : State), s.dev.writable R.BRK_WD_KICK_KEY = true ∧ v.toNat = 0x5A5A) ∧
    (∃ (v : Word32) (s : State), v.toNat ≠ 0x5A5A) ∧
    (∃ (s : State), s.dev.runs .safe = true ∧ s.dev.brk.wdArmed = true ∧ s.dev.get R.BRK_WD_CFG_ACTION = 1) ∧
    (∃ (s : State), s.dev.runs .safe = true ∧ s.dev.brk.wdArmed = true ∧ s.dev.get R.BRK_WD_CFG_ACTION = 2) :=
  ⟨⟨239, {}, ex fun d => ({ d with brk := { d.brk with m := [(239, { auth := some {} })] } } : Dev).set R.BRK_MACH_ACKED 0 239, by decide +kernel⟩,
   ⟨exd fun d => ({ d with brk := { d.brk with m := [(239, { auth := some {} })] } } : Dev), 239, {}, by decide +kernel⟩,
   ⟨exd fun d => ({ d with brk := { d.brk with m := [(239, { auth := some { els := [{ seg := 5, len := 1000, vmax := 40 }], eoa := 900 } })] } } : Dev).set R.BRK_MODEL_V_MAX 40 239, 239, { seg := 5 }, by decide +kernel⟩,
   ⟨exd fun d => d, 239, { speed := 30000 }, by decide +kernel⟩,
   ⟨23130, ex fun d => d, by decide +kernel⟩,
   ⟨0, ex fun d => d, by decide +kernel⟩,
   ⟨ex fun d => ({ d with brk := { d.brk with wdArmed := true } } : Dev).set R.BRK_WD_CFG_ACTION 1, by decide +kernel⟩,
   ⟨ex fun d => (({ d with brk := { d.brk with wdArmed := true } } : Dev).set R.BRK_WD_CFG_ACTION 2).set R.BRK_WD_CFG_ACTION 2, by decide +kernel⟩⟩

/-- The hypotheses of every clause of `RouteRequests` can be met. -/
theorem test_RouteRequests_met :
    (∃ (q : Desc) (b : List Byte) (s : State), Ready 8 1 q s.dev ∧ routeAreaOk q.area = true ∧ (∀ w ∈ routeEls b (fld q.area 2 1), w < 4096) ∧ noDup ((routeEls b (fld q.area 2 1)).map fun w => w % 2048) = true ∧ (let e := s.dev.ent ((routeEls b (fld q.area 2 1)).getLastD 0 % 2048); eValid e = true → fld q.area 6 2 < eLen e) ∧ s.dev.reins = true ∧ q.gate = true ∧ s.dev.mapOk = true) ∧
    (∃ (q : Req) (rest : List Req) (s : State), s.dev.runs .safe = true ∧ s.dev.rsv.queue = q :: rest ∧ s.dev.rsv.commit = none ∧ s.dev.paused 1 = false ∧ (∀ p ∈ q.route, p.1 < 2048) ∧ (s.dev.evaluate q).reason = 0) ∧
    (∃ (q : Req) (rest : List Req) (s : State), s.dev.runs .safe = true ∧ s.dev.rsv.queue = q :: rest ∧ s.dev.rsv.commit = none ∧ s.dev.paused 1 = false ∧ parks (s.dev.evaluate q).reason = true ∧ q.wait = true ∧ s.dev.rsv.parked.length < 64) ∧
    (∃ (q : Req) (rest : List Req) (s : State), s.dev.runs .safe = true ∧ s.dev.rsv.queue = q :: rest ∧ s.dev.rsv.commit = none ∧ s.dev.paused 1 = false ∧ (s.dev.evaluate q).reason ≠ 0 ∧ (parks (s.dev.evaluate q).reason = false ∨ q.wait = false)) ∧
    (∃ (q : Req) (rest : List Req) (w : Nat) (s : State), s.dev.runs .safe = true ∧ s.dev.rsv.queue = q :: rest ∧ s.dev.rsv.commit = none ∧ s.dev.paused 1 = false ∧ s.dev.on R.RSV_STATUS_COMPARE_OK = true) ∧
    (∃ (no : Nat) (q : Req) (s : State), s.dev.runs .safe = true ∧ s.dev.timeGoes = true ∧ s.dev.rsv.parked.find? (fun q => q.no == no) = some q) ∧
    (∃ (s : State), s.dev.runs .safe = true ∧ s.dev.timeGoes = true ∧ s.dev.on R.RSV_STATUS_GRANT_HOLD = true) ∧
    (∃ (v : Word32) (s : State), s.dev.writable R.RSV_CTRL_EN = true ∧ bitOf v.toNat 0 = false ∧ s.dev.on R.RSV_CTRL_EN = true) ∧
    (∃ (q : Desc) (m : Nat) (s : State), Ready 8 2 q s.dev ∧ m = fld q.area 1 1 ∧ resvOk q.area [(0, 4)] = true ∧ m < 240 ∧ fld q.area 2 2 < 2048 ∧ (((tabGet s.dev.rsv.path m).drop (s.dev.occIdx m)).any fun e => e.seg == fld q.area 2 2) = true ∧ s.dev.reins = true ∧ (s.dev.authOf m).isSome = true) ∧
    (∃ (m : Nat) (x : Shorten) (s : State), Awaits x.desc s.dev ∧ s.dev.runs .safe = true ∧ s.dev.timeGoes = true ∧ tabFind s.dev.rsv.short m = some x) ∧
    (∃ (q : Desc) (m : Nat) (s : State), Ready 8 3 q s.dev ∧ m = fld q.area 1 1 ∧ resvOk q.area [(0, 2)] = true ∧ m < 240 ∧ s.dev.reins = true ∧ s.dev.authOf m = none ∧ s.dev.stopped m = true) ∧
    (∃ (q : Desc) (m : Nat) (s : State), Ready 8 3 q s.dev ∧ m = fld q.area 1 1 ∧ resvOk q.area [(0, 2)] = true ∧ m < 240 ∧ s.dev.reins = true ∧ ((s.dev.authOf m).isSome = true ∨ s.dev.stopped m = false)) :=
  ⟨⟨dq 8 1 [239, 1], u16 6, ex fun d => hand (dq 8 1 [239, 1]) (d), ready_of (by decide +kernel), by decide +kernel⟩,
   ⟨{ m := 239, route := [(6, 0)] }, [], ex fun d => ((({ d with rsv := { d.rsv with queue := [({ m := 239, route := [(6, 0)] })], upl := [(239, { sf := 3, seg := 6 })], path := [(239, [{ seg := 6 }])] } } : Dev).set R.RAD_ADMIT_VALID_VALID (2 ^ 15) 7).set R.RSV_SEG_HOLDER 239 6).set R.RSV_SEG_STATE 1 6, by decide +kernel⟩,
   ⟨{ m := 239, route := [(6, 0)], wait := true }, [], ex fun d => (((({ d with rsv := { d.rsv with queue := [({ m := 239, route := [(6, 0)], wait := true })], upl := [(239, { sf := 3, seg := 6 })], path := [(239, [{ seg := 6 }])], map := [(6, fit 32 [1, 1, 0xE8, 3, 0, 0, 0, 0, 9])] } } : Dev).set R.RAD_ADMIT_VALID_VALID (2 ^ 15) 7).set R.RSV_SEG_HOLDER 239 6).set R.RSV_SEG_STATE 1 6).set R.RSV_CG_HOLDER 3 9, by decide +kernel⟩,
   ⟨{}, [], ex fun d => ({ d with rsv := { d.rsv with queue := ({}) :: ([]) } } : Dev), by decide +kernel⟩,
   ⟨{}, [], 0, ex fun d => ({ d with rsv := { d.rsv with queue := ({}) :: ([]) } } : Dev), by decide +kernel⟩,
   ⟨3, { no := 3 }, ex fun d => ({ d with rsv := { d.rsv with parked := [{ no := 3 }] } } : Dev), by decide +kernel⟩,
   ⟨ex fun d => d.set R.RSV_STATUS_GRANT_HOLD 1, by decide +kernel⟩,
   ⟨0, ex fun d => d.set R.RSV_CTRL_EN 1, by decide +kernel⟩,
   ⟨dq 8 2 [239, 255, 7], 239, ex fun d => hand (dq 8 2 [239, 255, 7]) ((d |> fun d => { d with rsv := { d.rsv with path := [(239, [{ seg := 2047 }])] }, brk := { d.brk with m := [(239, { auth := some {} })] } })), ready_of (by decide +kernel), by decide +kernel⟩,
   ⟨9, { desc := dq 8 2 [9] }, ex fun d => (({ d with rsv := { d.rsv with short := [(9, ({ desc := dq 8 2 [9] }))] } } : Dev) |> await (dq 8 2 [9])), awaits_of (by decide +kernel), by decide +kernel⟩,
   ⟨dq 8 3 [], 0, ex fun d => hand (dq 8 3 []) (d.set R.BRK_STOP_STOP 1 0), ready_of (by decide +kernel), by decide +kernel⟩,
   ⟨dq 8 3 [], 0, ex fun d => hand (dq 8 3 []) (d), ready_of (by decide +kernel), by decide +kernel⟩⟩

/-- The hypotheses of every clause of `MapAndBoundaries` can be met. -/
theorem test_MapAndBoundaries_met :
    (∃ (q : Desc) (b : List Byte) (s : State), Ready 8 5 q s.dev ∧ s.dev.rsv.commit = none ∧ resvOk q.area [(0, 1), (2, 4), (8, 8)] = true ∧ 1 ≤ fld q.area 4 2 ∧ fld q.area 2 2 + fld q.area 4 2 ≤ 2048 ∧ fld q.area 8 8 % 16 = 0 ∧ s.dev.reins = true) ∧
    (∃ (q : Desc) (s : State), Ready 8 6 q s.dev ∧ s.dev.rsv.commit = none ∧ resvOk q.area [(0, 1), (4, 12)] = true ∧ fld q.area 4 4 ≠ 0 ∧ s.dev.reins = true ∧ s.dev.mapBreak = none ∧ s.dev.commitHeld = false) ∧
    (∃ (q : Desc) (s : State), Ready 8 6 q s.dev ∧ s.dev.rsv.commit = none ∧ resvOk q.area [(0, 1), (4, 12)] = true ∧ fld q.area 4 4 ≠ 0 ∧ s.dev.reins = true ∧ s.dev.mapBreak = none ∧ s.dev.commitHeld = true) ∧
    (∃ (q : Desc) (k : Nat) (s : State), Ready 8 6 q s.dev ∧ s.dev.rsv.commit = none ∧ resvOk q.area [(0, 1), (4, 12)] = true ∧ fld q.area 4 4 ≠ 0 ∧ s.dev.reins = true ∧ s.dev.mapBreak = some k) ∧
    (∃ (q : Desc) (t0 : Nat) (s : State), Awaits q s.dev ∧ s.dev.runs .safe = true ∧ s.dev.timeGoes = true ∧ s.dev.rsv.commit = some (q, t0) ∧ s.dev.commitHeld = false) ∧
    (∃ (q : Desc) (t0 : Nat) (s : State), Awaits q s.dev ∧ s.dev.runs .safe = true ∧ s.dev.timeGoes = true ∧ s.dev.rsv.commit = some (q, t0) ∧ s.dev.commitHeld = true) ∧
    (∃ (s : State), s.dev.runs .safe = true ∧ s.dev.on R.RSV_STATUS_COMPARE_OK = true) ∧
    (∃ (q : Desc) (s : State), Ready 8 4 q s.dev ∧ closeOk q.area = true ∧ fld q.area 1 1 = 0 ∧ s.dev.reins = true) ∧
    (∃ (q : Desc) (s : State), Ready 8 4 q s.dev ∧ closeOk q.area = true ∧ fld q.area 1 1 = 1 ∧ s.dev.reins = true ∧ s.dev.segSt (fld q.area 2 2) = 3) ∧
    (∃ (q : Desc) (s : State), Ready 8 4 q s.dev ∧ closeOk q.area = true ∧ fld q.area 1 1 = 1 ∧ s.dev.reins = true ∧ s.dev.segSt (fld q.area 2 2) = 4) ∧
    (∃ (q : Desc) (s : State), Ready 8 4 q s.dev ∧ closeOk q.area = true ∧ fld q.area 1 1 = 1 ∧ s.dev.reins = true ∧ s.dev.segSt (fld q.area 2 2) ≠ 3 ∧ s.dev.segSt (fld q.area 2 2) ≠ 4) ∧
    (∃ (q : Desc) (k : Nat) (s : State), Ready 8 7 q s.dev ∧ xferOk q.area = true ∧ fld q.area 1 1 = 0 ∧ s.dev.reins = true ∧ s.dev.bidSeg (fld q.area 2 2) = some k ∧ k < 2048 ∧ (s.dev.boundOf (fld q.area 2 2)).st = 0 ∧ s.dev.copySafe s.dev.nextCopy = true ∧ s.dev.holder k = 0xFF ∧ s.dev.segSt k = 0) ∧
    (∃ (q : Desc) (k : Nat) (s : State), Ready 8 7 q s.dev ∧ xferOk q.area = true ∧ fld q.area 1 1 = 0 ∧ s.dev.reins = true ∧ s.dev.bidSeg (fld q.area 2 2) = some k ∧ k < 2048 ∧ (s.dev.boundOf (fld q.area 2 2)).st = 0 ∧ s.dev.copySafe s.dev.nextCopy = true ∧ s.dev.holder k ≠ 0xFF ∧ ((tabGet s.dev.rsv.path (s.dev.holder k)).getLast?.map fun e => e.seg) = some k) ∧
    (∃ (q : Desc) (k : Nat) (s : State), Ready 8 7 q s.dev ∧ xferOk q.area = true ∧ fld q.area 1 1 = 0 ∧ s.dev.reins = true ∧ s.dev.bidSeg (fld q.area 2 2) = some k ∧ k < 2048 ∧ (s.dev.boundOf (fld q.area 2 2)).st = 0 ∧ s.dev.holder k = 0xFF ∧ s.dev.segSt k ≠ 0) ∧
    (∃ (q : Desc) (r : List Byte) (k : Nat) (s : State), Ready 8 7 q s.dev ∧ xferOk q.area = true ∧ fld q.area 1 1 = 1 ∧ s.dev.reins = true ∧ s.dev.bidSeg (fld q.area 2 2) = some k ∧ (s.dev.boundOf (fld q.area 2 2)).st = 1 ∧ fld (fit 16 r) 0 2 = fld q.area 2 2 ∧ fld (fit 16 r) 4 2 = s.dev.get R.RAD_CELL_CFG_CELL ∧ fld (fit 16 r) 6 2 = ((s.dev.boundOf (fld q.area 2 2)).seq + 1) % 65536 ∧ (fld (fit 16 r) 8 8 = 0 ∨ (fld q.area 4 1 < 240 ∧ s.dev.admitted (fld q.area 4 1) = true ∧ s.dev.serialOf (fld q.area 4 1) = fld (fit 16 r) 8 8))) ∧
    (∃ (q : Desc) (k : Nat) (s : State), Ready 8 7 q s.dev ∧ xferOk q.area = true ∧ fld q.area 1 1 = 2 ∧ s.dev.reins = true ∧ s.dev.bidSeg (fld q.area 2 2) = some k ∧ (s.dev.boundOf (fld q.area 2 2)).st = 2) ∧
    (∃ (q : Desc) (k : Nat) (s : State), Ready 8 7 q s.dev ∧ xferOk q.area = true ∧ fld q.area 1 1 = 3 ∧ s.dev.reins = true ∧ s.dev.bidSeg (fld q.area 2 2) = some k ∧ s.dev.level = 1 ∧ s.dev.holder k = 0xFF) ∧
    (∃ (q : Desc) (k : Nat) (s : State), Ready 8 7 q s.dev ∧ xferOk q.area = true ∧ fld q.area 1 1 = 3 ∧ s.dev.reins = true ∧ s.dev.bidSeg (fld q.area 2 2) = some k ∧ (s.dev.level ≠ 1 ∨ s.dev.holder k ≠ 0xFF)) :=
  ⟨⟨dq 8 5 [0, 0, 0, 1], [], ex fun d => hand (dq 8 5 [0, 0, 0, 1]) (d), ready_of (by decide +kernel), by decide +kernel⟩,
   ⟨dq 8 6 [0, 0, 0, 1], ex fun d => hand (dq 8 6 [0, 0, 0, 1]) (d), ready_of (by decide +kernel), by decide +kernel⟩,
   ⟨dq 8 6 [0, 0, 0, 1], ex fun d => hand (dq 8 6 [0, 0, 0, 1]) ((({ d with rsv := { d.rsv with shadow := [(6, fit 32 [1, 0, 0xE8, 3])], map := [(6, fit 32 [1, 0, 1, 3])] } } : Dev).set R.RSV_SEG_HOLDER 239 6).set R.RSV_SEG_STATE 1 6), ready_of (by decide +kernel), by decide +kernel⟩,
   ⟨dq 8 6 [0, 0, 0, 1], 6, ex fun d => hand (dq 8 6 [0, 0, 0, 1]) (({ d with rsv := { d.rsv with shadow := [(6, fit 32 [1, 9])] } } : Dev)), ready_of (by decide +kernel), by decide +kernel⟩,
   ⟨dq 8 5 [], 5, ex fun d => (({ d with rsv := { d.rsv with commit := some ((dq 8 5 []), 5) } } : Dev) |> await (dq 8 5 [])), awaits_of (by decide +kernel), by decide +kernel⟩,
   ⟨dq 8 5 [], 5, ex fun d => ((({ d with rsv := { d.rsv with commit := some (dq 8 5 [], 5), shadow := [(6, fit 32 [1, 0, 0xE8, 3])], map := [(6, fit 32 [1, 0, 1, 3])] } } : Dev).set R.RSV_SEG_HOLDER 239 6).set R.RSV_SEG_STATE 1 6 |> await (dq 8 5 [])), awaits_of (by decide +kernel), by decide +kernel⟩,
   ⟨ex fun d => d, by decide +kernel⟩,
   ⟨dq 8 4 [], ex fun d => hand (dq 8 4 []) (d), ready_of (by decide +kernel), by decide +kernel⟩,
   ⟨dq 8 4 [1, 6], ex fun d => hand (dq 8 4 [1, 6]) (d.set R.RSV_SEG_STATE 3 6), ready_of (by decide +kernel), by decide +kernel⟩,
   ⟨dq 8 4 [1, 6], ex fun d => hand (dq 8 4 [1, 6]) (d.set R.RSV_SEG_STATE 4 6), ready_of (by decide +kernel), by decide +kernel⟩,
   ⟨dq 8 4 [1], ex fun d => hand (dq 8 4 [1]) (d), ready_of (by decide +kernel), by decide +kernel⟩,
   ⟨dq 8 7 [0, 33], 5, ex fun d => hand (dq 8 7 [0, 33]) ((d |> fun d => { d with rsv := { d.rsv with bound := [(0x21, { st := 0 })] } })), ready_of (by decide +kernel), by decide +kernel⟩,
   ⟨dq 8 7 [0, 33], 5, ex fun d => hand (dq 8 7 [0, 33]) (({ d with rsv := { d.rsv with bound := [(0x21, { st := 0 })], path := [(239, [{ seg := 5 }])] } } : Dev).set R.RSV_SEG_HOLDER 239 5), ready_of (by decide +kernel), by decide +kernel⟩,
   ⟨dq 8 7 [0, 33], 5, ex fun d => hand (dq 8 7 [0, 33]) (({ d with rsv := { d.rsv with bound := [(0x21, { st := 0 })] } } : Dev).set R.RSV_SEG_STATE 4 5), ready_of (by decide +kernel), by decide +kernel⟩,
   ⟨dq 8 7 [1, 33], u16 0x21 ++ u16 0 ++ u16 0 ++ u16 1 ++ u64 0, 5, ex fun d => hand (dq 8 7 [1, 33]) ((d |> fun d => { d with rsv := { d.rsv with bound := [(0x21, { st := 1 })] } })), ready_of (by decide +kernel), by decide +kernel⟩,
   ⟨dq 8 7 [2, 33], 5, ex fun d => hand (dq 8 7 [2, 33]) ((d |> fun d => { d with rsv := { d.rsv with bound := [(0x21, { st := 2 })] } })), ready_of (by decide +kernel), by decide +kernel⟩,
   ⟨dq 8 7 [3, 33], 5, ex fun d => hand (dq 8 7 [3, 33]) (d.set R.SYS_LEVEL_LEVEL 1), ready_of (by decide +kernel), by decide +kernel⟩,
   ⟨dq 8 7 [3, 33], 5, ex fun d => hand (dq 8 7 [3, 33]) (d), ready_of (by decide +kernel), by decide +kernel⟩⟩

/-- The hypotheses of every clause of `WaybillsRun` can be met. -/
theorem test_WaybillsRun_met :
    (∃ (q : Desc) (b : List Byte) (i : Nat) (s : State), Ready 0x0A 1 q s.dev ∧ s.dev.wbFull = false ∧ createOk q.area = true ∧ argOk (fld q.area 2 1) (fit 32 b) = true ∧ s.dev.reins = true ∧ q.gate = true ∧ s.dev.wb.store.find? (fun p => fld q.area 32 8 != 0 && p.2.user == fld q.area 32 8) = none ∧ (∀ j < 4, (opOf q.area j).kind = 7 → (s.dev.depState ((opOf q.area j).key % 65536)).isSome = true) ∧ i = (if s.dev.wb.used < 4096 then s.dev.wb.used else s.dev.wb.freed.headD 0)) ∧
    (∃ (m : Option (List Byte)) (s : State), s.dev.wbFull = true) ∧
    (∃ (i : Nat) (j : Nat) (w : Waybill) (s : State), s.dev.runs .sup = true ∧ (s.dev.wbList.findSome? fun p => if p.2.state = 1 then (p.2.ops.findIdx? fun o => o.kind == 2 && o.armed && o.req == 1 && s.dev.sfn < o.sf0 + o.key / 65536).map fun j => (p.1, p.2, j) else none) = some (i, w, j) ∧ s.dev.rsvRoom = true) ∧
    (∃ (s : State), s.dev.runs .sup = true ∧ s.dev.rsvRoom = false) ∧
    (∃ (i : Nat) (w : Waybill) (s : State), s.dev.runs .sup = true ∧ s.dev.dispRests = false ∧ (List.range 8).findSome? (fun r => s.dev.rankPick (s.dev.rankList r) []) = some (i, w) ∧ tabFind s.dev.wb.store i = some w ∧ w.target = 0) ∧
    (∃ (i : Nat) (w : Waybill) (s : State), s.dev.runs .sup = true ∧ s.dev.dispRests = false ∧ (List.range 8).findSome? (fun r => s.dev.rankPick (s.dev.rankList r) []) = some (i, w) ∧ tabFind s.dev.wb.store i = some w ∧ w.target = 1) ∧
    (∃ (i : Nat) (w : Waybill) (s : State), s.dev.runs .sup = true ∧ s.dev.dispRests = false ∧ (List.range 8).findSome? (fun r => s.dev.rankPick (s.dev.rankList r) []) = some (i, w) ∧ tabFind s.dev.wb.store i = some w ∧ w.target = 2 ∧ fld w.arg 0 1 < 16 ∧ s.dev.moveRefusal (fld w.arg 0 1) 2 (sfld w.arg 4 4) = none) ∧
    (∃ (i : Nat) (w : Waybill) (s : State), s.dev.runs .sup = true ∧ s.dev.dispRests = false ∧ (List.range 8).findSome? (fun r => s.dev.rankPick (s.dev.rankList r) []) = some (i, w) ∧ tabFind s.dev.wb.store i = some w ∧ w.target = 2 ∧ s.dev.moveRefusal (fld w.arg 0 1) 2 (sfld w.arg 4 4) = some .refusedState) ∧
    (∃ (i : Nat) (w : Waybill) (s : State), s.dev.runs .sup = true ∧ s.dev.dispRests = false ∧ (List.range 8).findSome? (fun r => s.dev.rankPick (s.dev.rankList r) []) = some (i, w) ∧ tabFind s.dev.wb.store i = some w ∧ 3 ≤ w.target) ∧
    (∃ (e : MEvt) (rest : List MEvt) (s : State), s.dev.runs .sup = true ∧ s.dev.wb.fifo = e :: rest ∧ s.dev.wb.matched = none ∧ s.dev.on R.WB_CFG_EVT_EN = false ∧ e.code < 0x8000) ∧
    (∃ (e : MEvt) (rest : List MEvt) (i : Nat) (w : Waybill) (s : State), s.dev.runs .sup = true ∧ s.dev.wb.fifo = e :: rest ∧ s.dev.wb.matched = none ∧ s.dev.on R.WB_CFG_EVT_EN = false ∧ s.dev.wbFind (e.arg % 65536) = some (i, w) ∧ w.state = 3 ∧ w.target = 1 ∧ w.machine = some e.m ∧ e.code = 0x8001) ∧
    (∃ (e : MEvt) (rest : List MEvt) (i : Nat) (w : Waybill) (s : State), s.dev.runs .sup = true ∧ s.dev.wb.fifo = e :: rest ∧ s.dev.wb.matched = none ∧ s.dev.on R.WB_CFG_EVT_EN = false ∧ s.dev.wbFind (e.arg % 65536) = some (i, w) ∧ w.state = 3 ∧ w.target = 1 ∧ w.machine = some e.m ∧ e.code = 0x8002) ∧
    (∃ (e : MEvt) (rest : List MEvt) (i : Nat) (w : Waybill) (s : State), s.dev.runs .sup = true ∧ s.dev.wb.fifo = e :: rest ∧ s.dev.wb.matched = none ∧ s.dev.on R.WB_CFG_EVT_EN = false ∧ s.dev.wbFind (e.arg % 65536) = some (i, w) ∧ w.state = 3 ∧ w.target = 1 ∧ w.machine = some e.m ∧ e.code = 0x8003) ∧
    (∃ (s : State), s.dev.runs .sup = true) ∧
    (∃ (i : Nat) (n : Nat) (j : Nat) (w : Waybill) (s : State), s.dev.runs .sup = true ∧ tabFind s.dev.wb.store i = some w ∧ w.delayDue = some n ∧ j < w.ops.length ∧ (w.ops.getD j {}).kind = 6 ∧ (w.ops.getD j {}).armed = true ∧ (w.ops.getD j {}).due = n) :=
  ⟨⟨dq 0x0A 1 [0, 0, 0, 255, 255, 0, 0, 0, 0, 0, 0, 0, 0, 0, 0, 0, 0, 0, 0, 0, 0, 0, 0, 0, 0, 0, 0, 0, 0, 0, 0, 0, 0, 0, 0, 0, 0, 0, 0, 16], zeros 32, 0, ex fun d => hand (dq 0x0A 1 [0, 0, 0, 255, 255, 0, 0, 0, 0, 0, 0, 0, 0, 0, 0, 0, 0, 0, 0, 0, 0, 0, 0, 0, 0, 0, 0, 0, 0, 0, 0, 0, 0, 0, 0, 0, 0, 0, 0, 16]) (d), ready_of (by decide +kernel), by decide +kernel⟩,
   ⟨none, ex fun d => ({ d with wb := { d.wb with used := 4096 } } : Dev), by decide +kernel⟩,
   ⟨3, 0, { id := 3, ops := [{ kind := 2, armed := true, req := 1, sf0 := 4, key := 65536 }] }, ex fun d => ({ d with wb := { d.wb with store := [(3, ({ id := 3, ops := [{ kind := 2, armed := true, req := 1, sf0 := 4, key := 65536 }] }))] } } : Dev).set R.RSV_CTRL_EN 1, by decide +kernel⟩,
   ⟨ex fun d => d.set R.RSV_CTRL_EN 0, by decide +kernel⟩,
   ⟨3, { id := 3, state := 2 }, ex fun d => ({ d with wb := { d.wb with store := [(3, ({ id := 3, state := 2 }))] } } : Dev), by decide +kernel⟩,
   ⟨3, { id := 3, state := 2, target := 1 }, ex fun d => ({ d with wb := { d.wb with store := [(3, ({ id := 3, state := 2, target := 1 }))] } } : Dev), by decide +kernel⟩,
   ⟨3, { id := 3, state := 2, target := 2, arg := u8 15 }, ex fun d => (((({ d with wb := { d.wb with store := [(3, ({ id := 3, state := 2, target := 2, arg := u8 15 }))] }, axs := { d.axs with ax := [(15, { en := true })] } } : Dev).set R.AXS_CTRL_EN 1).set R.AXS_AX_STAT_HOMED 1 15).set R.AXS_AX_SOFT_HI_SOFT_HI 1000 15).set R.AXS_AX_STAT_OWNER 2 15, by decide +kernel⟩,
   ⟨3, { id := 3, state := 2, target := 2, arg := u8 15 }, ex fun d => (({ d with wb := { d.wb with store := [(3, ({ id := 3, state := 2, target := 2, arg := u8 15 }))] }, axs := { d.axs with ax := [(15, { en := true })] } } : Dev).set R.AXS_CTRL_EN 1).set R.AXS_AX_STAT_OWNER 2 15, by decide +kernel⟩,
   ⟨3, { id := 3, state := 2, target := 3 }, ex fun d => ({ d with wb := { d.wb with store := [(3, ({ id := 3, state := 2, target := 3 }))] } } : Dev).set R.WB_CFG_DISP_RING 2, by decide +kernel⟩,
   ⟨{}, [], ex fun d => ({ d with wb := { d.wb with fifo := ({}) :: ([]) } } : Dev).set R.WB_CFG_EVT_EN 0, by decide +kernel⟩,
   ⟨{ m := 9, code := 0x8001, arg := 3 }, [], 3, { id := 3, state := 3, target := 1, machine := some 9, queued := true }, ex fun d => ({ d with wb := { d.wb with fifo := [{ m := 9, code := 0x8001, arg := 3 }], store := [(3, ({ id := 3, state := 3, target := 1, machine := some 9, queued := true }))] } } : Dev).set R.WB_CFG_EVT_EN 0, by decide +kernel⟩,
   ⟨{ m := 9, code := 0x8002, arg := 3 }, [], 3, { id := 3, state := 3, target := 1, machine := some 9, queued := true }, ex fun d => ({ d with wb := { d.wb with fifo := [({ m := 9, code := 0x8002, arg := 3 })], store := [(3, ({ id := 3, state := 3, target := 1, machine := some 9, queued := true }))] } } : Dev).set R.WB_CFG_EVT_EN 0, by decide +kernel⟩,
   ⟨{ m := 9, code := 0x8003, arg := 3 }, [], 3, { id := 3, state := 3, target := 1, machine := some 9, queued := true }, ex fun d => ({ d with wb := { d.wb with fifo := [({ m := 9, code := 0x8003, arg := 3 })], store := [(3, ({ id := 3, state := 3, target := 1, machine := some 9, queued := true }))] } } : Dev).set R.WB_CFG_EVT_EN 0, by decide +kernel⟩,
   ⟨ex fun d => d, by decide +kernel⟩,
   ⟨3, 7, 0, { id := 3, ops := [{ kind := 6, armed := true, due := 7 }] }, ex fun d => ({ d with wb := { d.wb with store := [(3, ({ id := 3, ops := [{ kind := 6, armed := true, due := 7 }] }))] } } : Dev), by decide +kernel⟩⟩

/-- The hypotheses of every clause of `WaybillsEnd` can be met. -/
theorem test_WaybillsEnd_met :
    (∃ (i : Nat) (w : Waybill) (o : WbOp) (s : State), s.dev.runs .sup = true ∧ tabFind s.dev.wb.store i = some w ∧ w.state = 1 ∧ w.ops.find? (fun o => o.kind == 2 && o.armed && !o.arrived) = some o) ∧
    (∃ (i : Nat) (w : Waybill) (s : State), s.dev.runs .sup = true ∧ tabFind s.dev.wb.store i = some w ∧ w.state = 3 ∧ w.target = 1 ∧ w.taken = false ∧ w.queued = true ∧ s.dev.get R.WB_CFG2_ORDER_TRIES ≤ w.tries) ∧
    (∃ (i : Nat) (n : Nat) (w : Waybill) (s : State), s.dev.runs .sup = true ∧ tabFind s.dev.wb.store i = some w ∧ w.waitDue = some n) ∧
    (∃ (i : Nat) (n : Nat) (w : Waybill) (s : State), s.dev.runs .sup = true ∧ tabFind s.dev.wb.store i = some w ∧ w.runDue = some n) ∧
    (∃ (i : Nat) (rest : List Nat) (w : Waybill) (s : State), s.dev.runs .sup = true ∧ s.dev.wb.ending = i :: rest ∧ tabFind s.dev.wb.store i = some w ∧ s.dev.copySafe w.copy = true ∧ (s.dev.itemBp (s.dev.get R.WB_CFG_DONE_RING) 0x0A01 w.yEnd (wbRecord i w)).1 = true) ∧
    (∃ (i : Nat) (rest : List Nat) (w : Waybill) (s : State), s.dev.runs .sup = true ∧ s.dev.wb.ending = i :: rest ∧ tabFind s.dev.wb.store i = some w ∧ s.dev.copySafe w.copy = true ∧ (s.dev.itemBp (s.dev.get R.WB_CFG_DONE_RING) 0x0A01 w.yEnd (wbRecord i w)).1 = false) ∧
    (∃ (q : Desc) (f : Nat) (s : State), Ready 0x0A 2 q s.dev ∧ tokenOk q.area = true ∧ fld q.area 1 1 = 0 ∧ f = fld q.area 2 2 ∧ s.dev.reins = true ∧ q.gate = true) ∧
    (∃ (q : Desc) (f : Nat) (s : State), Ready 0x0A 2 q s.dev ∧ tokenOk q.area = true ∧ fld q.area 1 1 = 1 ∧ f = fld q.area 2 2 ∧ s.dev.reins = true ∧ q.gate = true) ∧
    (∃ (q : Desc) (i : Nat) (w : Waybill) (s : State), Ready 0x0A 2 q s.dev ∧ tokenOk q.area = true ∧ fld q.area 1 1 = 2 ∧ s.dev.reins = true ∧ q.gate = true ∧ s.dev.wbFind (fld q.area 4 2) = some (i, w) ∧ w.state = 1 ∧ fld q.area 6 1 < w.ops.length ∧ (w.ops.getD (fld q.area 6 1) {}).kind = 5 ∧ (w.ops.getD (fld q.area 6 1) {}).armed = true) ∧
    (∃ (q : Desc) (i : Nat) (w : Waybill) (s : State), Ready 0x0A 2 q s.dev ∧ tokenOk q.area = true ∧ fld q.area 1 1 = 2 ∧ s.dev.reins = true ∧ q.gate = true ∧ s.dev.wbFind (fld q.area 4 2) = some (i, w) ∧ w.state = 1 ∧ fld q.area 6 1 < w.ops.length ∧ (w.ops.getD (fld q.area 6 1) {}).kind = 5 ∧ (w.ops.getD (fld q.area 6 1) {}).armed = false) ∧
    (∃ (q : Desc) (i : Nat) (w : Waybill) (s : State), Ready 0x0A 3 q s.dev ∧ resvOk q.area [(0, 1), (2, 2)] = true ∧ s.dev.reins = true ∧ q.gate = true ∧ s.dev.wbFind (fld q.area 2 2) = some (i, w) ∧ (w.state = 1 ∨ w.state = 2)) ∧
    (∃ (q : Desc) (i : Nat) (w : Waybill) (s : State), Ready 0x0A 3 q s.dev ∧ resvOk q.area [(0, 1), (2, 2)] = true ∧ s.dev.reins = true ∧ q.gate = true ∧ s.dev.wbFind (fld q.area 2 2) = some (i, w) ∧ w.state = 3 ∧ w.target = 1) ∧
    (∃ (q : Desc) (i : Nat) (w : Waybill) (s : State), Ready 0x0A 3 q s.dev ∧ resvOk q.area [(0, 1), (2, 2)] = true ∧ s.dev.reins = true ∧ q.gate = true ∧ s.dev.wbFind (fld q.area 2 2) = some (i, w) ∧ w.state = 3 ∧ w.target = 3) ∧
    (∃ (q : Desc) (i : Nat) (w : Waybill) (s : State), Ready 0x0A 4 q s.dev ∧ resvOk q.area [(0, 1), (2, 3), (6, 2)] = true ∧ fld q.area 4 1 < 3 ∧ s.dev.reins = true ∧ q.gate = true ∧ s.dev.wbFind (fld q.area 2 2) = some (i, w) ∧ w.state = 3 ∧ w.target = 3) ∧
    (∃ (q : Desc) (i : Nat) (w : Waybill) (s : State), Ready 0x0A 4 q s.dev ∧ resvOk q.area [(0, 1), (2, 3), (6, 2)] = true ∧ fld q.area 4 1 < 3 ∧ s.dev.reins = true ∧ q.gate = true ∧ s.dev.wbFind (fld q.area 2 2) = some (i, w) ∧ (w.state ≠ 3 ∨ w.target ≠ 3)) ∧
    (∃ (q : Desc) (b : List Byte) (s : State), Ready 0x0A 5 q s.dev ∧ resvOk q.area [(0, 1), (2, 4), (8, 8)] = true ∧ 1 ≤ fld q.area 4 2 ∧ fld q.area 2 2 + fld q.area 4 2 ≤ 512 ∧ fld q.area 8 8 % 16 = 0 ∧ ((List.range (fld q.area 4 2)).all fun k => templateOk (fit 72 (b.drop (72 * k)))) = true ∧ s.dev.reins = true ∧ q.gate = true) ∧
    (∃ (m : Nat) (i : Nat) (w : Waybill) (v : Word32) (s : State), s.dev.writable R.WB_MACH_DISABLE = true ∧ m < 240 ∧ bitOf v.toNat 25 = true ∧ s.dev.boundWb m = some (i, w) ∧ tabFind s.dev.wb.store i = some w) ∧
    (∃ (v : Word32) (s : State), s.dev.writable R.WB_PEEK_IDX_INDEX = true) ∧
    (∃ (i : Nat) (lost : Nat) (w : Waybill) (s : State), s.dev.runs .sup = true ∧ tabFind s.dev.wb.store i = some w ∧ w.state ≠ 4) ∧
    (∃ (v : Word32) (s : State), s.dev.writable R.WB_CTRL_EN = true ∧ bitOf v.toNat 0 = false ∧ s.dev.on R.WB_CTRL_EN = true) :=
  ⟨⟨3, { id := 3, ops := [{ kind := 2, armed := true, req := 1, sf0 := 4, key := 65536 }] }, { kind := 2, armed := true, req := 1, sf0 := 4, key := 65536 }, ex fun d => ({ d with wb := { d.wb with store := [(3, ({ id := 3, ops := [{ kind := 2, armed := true, req := 1, sf0 := 4, key := 65536 }] }))] } } : Dev), by decide +kernel⟩,
   ⟨3, { id := 3, state := 3, target := 1, machine := some 9, queued := true, tries := 16 }, ex fun d => ({ d with wb := { d.wb with store := [(3, ({ id := 3, state := 3, target := 1, machine := some 9, queued := true, tries := 16 }))] } } : Dev).set R.WB_CFG2_ORDER_TRIES 16, by decide +kernel⟩,
   ⟨3, 100, { id := 3, waitLim := 1 }, ex fun d => ({ d with wb := { d.wb with store := [(3, ({ id := 3, waitLim := 1 }))] } } : Dev), by decide +kernel⟩,
   ⟨3, 100, { id := 3, state := 3, tDisp := some 0, runLim := 1 }, ex fun d => ({ d with wb := { d.wb with store := [(3, ({ id := 3, state := 3, tDisp := some 0, runLim := 1 }))] } } : Dev), by decide +kernel⟩,
   ⟨3, [], { id := 3, state := 4 }, ex fun d => ({ d with wb := { d.wb with ending := [3], store := [(3, ({ id := 3, state := 4 }))] } } : Dev).set R.WB_CFG_DONE_RING 2, by decide +kernel⟩,
   ⟨3, [], { id := 3, state := 4 }, ex fun d => ({ d with wb := { d.wb with ending := [3], store := [(3, ({ id := 3, state := 4 }))] } } : Dev), by decide +kernel⟩,
   ⟨dq 0x0A 2 [], 0, ex fun d => hand (dq 0x0A 2 []) (d), ready_of (by decide +kernel), by decide +kernel⟩,
   ⟨dq 0x0A 2 [1], 0, ex fun d => hand (dq 0x0A 2 [1]) (d), ready_of (by decide +kernel), by decide +kernel⟩,
   ⟨dq 0x0A 2 [2, 0, 0, 3], 3, { id := 3, ops := [{ kind := 5, armed := true }] }, ex fun d => hand (dq 0x0A 2 [2, 0, 0, 3]) (({ d with wb := { d.wb with store := [(3, ({ id := 3, ops := [{ kind := 5, armed := true }] }))] } } : Dev)), ready_of (by decide +kernel), by decide +kernel⟩,
   ⟨dq 0x0A 2 [2, 0, 0, 3], 3, { id := 3, ops := [{ kind := 5 }] }, ex fun d => hand (dq 0x0A 2 [2, 0, 0, 3]) (({ d with wb := { d.wb with store := [(3, ({ id := 3, ops := [{ kind := 5 }] }))] } } : Dev)), ready_of (by decide +kernel), by decide +kernel⟩,
   ⟨dq 0x0A 3 [0, 3], 3, { id := 3 }, ex fun d => hand (dq 0x0A 3 [0, 3]) (({ d with wb := { d.wb with store := [(3, ({ id := 3 }))] } } : Dev)), ready_of (by decide +kernel), by decide +kernel⟩,
   ⟨dq 0x0A 3 [0, 3], 3, { id := 3, state := 3, target := 1 }, ex fun d => hand (dq 0x0A 3 [0, 3]) (({ d with wb := { d.wb with store := [(3, ({ id := 3, state := 3, target := 1 }))] } } : Dev)), ready_of (by decide +kernel), by decide +kernel⟩,
   ⟨dq 0x0A 3 [0, 3], 3, { id := 3, state := 3, target := 3 }, ex fun d => hand (dq 0x0A 3 [0, 3]) (({ d with wb := { d.wb with store := [(3, ({ id := 3, state := 3, target := 3 }))] } } : Dev)), ready_of (by decide +kernel), by decide +kernel⟩,
   ⟨dq 0x0A 4 [0, 3, 0, 2], 3, { id := 3, state := 3, target := 3 }, ex fun d => hand (dq 0x0A 4 [0, 3, 0, 2]) (({ d with wb := { d.wb with store := [(3, ({ id := 3, state := 3, target := 3 }))] } } : Dev)), ready_of (by decide +kernel), by decide +kernel⟩,
   ⟨dq 0x0A 4 [0, 3, 0, 2], 3, { id := 3 }, ex fun d => hand (dq 0x0A 4 [0, 3, 0, 2]) (({ d with wb := { d.wb with store := [(3, ({ id := 3 }))] } } : Dev)), ready_of (by decide +kernel), by decide +kernel⟩,
   ⟨dq 0x0A 5 [0, 255, 1, 1], [1, 0] ++ zeros 70, ex fun d => hand (dq 0x0A 5 [0, 255, 1, 1]) (d), ready_of (by decide +kernel), by decide +kernel⟩,
   ⟨239, 3, { id := 3, machine := some 239 }, 33554432, ex fun d => ({ d with wb := { d.wb with store := [(3, ({ id := 3, machine := some 239 }))] } } : Dev), by decide +kernel⟩,
   ⟨0, ex fun d => d, by decide +kernel⟩,
   ⟨3, 1, { id := 3 }, ex fun d => ({ d with wb := { d.wb with store := [(3, ({ id := 3 }))] } } : Dev), by decide +kernel⟩,
   ⟨0, ex fun d => d.set R.WB_CTRL_EN 1, by decide +kernel⟩⟩

/-- The hypotheses of every clause of `RingSetUp` can be met. -/
theorem test_RingSetUp_met :
    (∃ (r : Nat) (v : Word32) (s : State), r < 32 ∧ s.dev.runs .pcie = true ∧ s.dev.ringsHeld = false ∧ s.dev.on R.RING_CTRL_EN r = true ∧ s.dev.get R.RING_CFG_KIND r = 0 ∧ (v.toNat + 2 ^ 32 - s.dev.get R.RING_PROD_P r) % 2 ^ 32 < 2 ^ 31 ∧ (v.toNat + 2 ^ 32 - s.dev.get R.RING_CONS_C r) % 2 ^ 32 ≤ s.dev.ringSize r) ∧
    (∃ (r : Nat) (v : Word32) (s : State), r < 32 ∧ s.dev.runs .pcie = true ∧ s.dev.ringsHeld = false ∧ s.dev.on R.RING_CTRL_EN r = true ∧ s.dev.get R.RING_CFG_KIND r ≠ 0 ∧ (v.toNat + 2 ^ 32 - s.dev.get R.RING_CONS_C r) % 2 ^ 32 < 2 ^ 31 ∧ (v.toNat + 2 ^ 32 - s.dev.get R.RING_CONS_C r) % 2 ^ 32 ≤ s.dev.ringFill r) ∧
    (∃ (r : Nat) (v : Word32) (s : State), r < 32 ∧ s.dev.runs .pcie = true ∧ s.dev.ringsHeld = false ∧ s.dev.dbCause r v.toNat ≠ 0) ∧
    (∃ (r : Nat) (v : Word32) (s : State), r < 32 ∧ s.dev.runs .pcie = true ∧ s.dev.ringsHeld = false ∧ s.dev.dbCause r v.toNat ≠ 0 ∧ s.dev.get R.RING_CFG_KIND r = 0) ∧
    (∃ (r : Nat) (v : Word32) (s : State), s.dev.runs .pcie = true ∧ s.dev.ringsHeld = true) ∧
    (∃ (r : Nat) (v : Word32) (s : State), r < 32 ∧ s.dev.writable R.RING_CTRL_EN = true ∧ bitOf v.toNat 0 = true ∧ s.dev.on R.RING_CTRL_EN r = false ∧ (s.dev.get R.RING_CFG_KIND r = 0 → s.dev.on R.RING_CTRL_EN (s.dev.get R.RING_CFG_COMPL r) = true ∧ s.dev.get R.RING_CFG_KIND (s.dev.get R.RING_CFG_COMPL r) = 1)) ∧
    (∃ (r : Nat) (c : Nat) (v : Word32) (s : State), r < 32 ∧ s.dev.writable R.RING_CTRL_EN = true ∧ bitOf v.toNat 0 = true ∧ s.dev.on R.RING_CTRL_EN r = false ∧ s.dev.get R.RING_CFG_KIND r = 0 ∧ c = s.dev.get R.RING_CFG_COMPL r ∧ (s.dev.on R.RING_CTRL_EN c = false ∨ s.dev.get R.RING_CFG_KIND c ≠ 1)) ∧
    (∃ (r : Nat) (v : Word32) (s : State), r < 32 ∧ s.dev.writable R.RING_CTRL_EN = true ∧ bitOf v.toNat 0 = false ∧ s.dev.on R.RING_CTRL_EN r = true ∧ s.dev.get R.RING_CFG_KIND r = 0 ∧ s.dev.ringsHeld = false) ∧
    (∃ (r : Nat) (v : Word32) (s : State), r < 32 ∧ s.dev.writable R.RING_CTRL_EN = true ∧ bitOf v.toNat 0 = false ∧ s.dev.on R.RING_CTRL_EN r = true ∧ s.dev.get R.RING_CFG_KIND r = 1 ∧ ((s.dev.ring.live.any fun q => q.compl == r) = true ∨ ∃ k < 32, s.dev.on R.RING_CTRL_EN k = true ∧ s.dev.get R.RING_CFG_KIND k = 0 ∧ s.dev.get R.RING_CFG_COMPL k = r)) ∧
    (∃ (r : Nat) (v : Word32) (s : State), r < 32 ∧ s.dev.writable R.RING_CTRL_EN = true ∧ bitOf v.toNat 0 = false ∧ s.dev.on R.RING_CTRL_EN r = true ∧ 2 ≤ s.dev.get R.RING_CFG_KIND r) ∧
    (∃ (r : Nat) (v : Word32) (s : State), r < 32 ∧ s.dev.writable R.RING_CTRL_EN = true ∧ bitOf v.toNat 1 = true ∧ bitOf v.toNat 0 = true ∧ s.dev.get R.RING_CFG_KIND r = 0 ∧ s.dev.ringsHeld = false ∧ (∀ x ∈ s.dev.ring.heldDb, x.1 ≠ r)) ∧
    (∃ (r : Nat) (v : Word32) (s : State), r < 32 ∧ s.dev.writable R.RING_CTRL_EN = true ∧ bitOf v.toNat 1 = true ∧ bitOf v.toNat 0 = true ∧ s.dev.get R.RING_CFG_KIND r = 1 ∧ (s.dev.ring.live.any fun q => q.compl == r) = true ∧ s.dev.ring.heldDb = []) ∧
    (∃ (r : Nat) (v : Word32) (s : State), r < 32 ∧ s.dev.writable R.RING_CTRL_EN = true ∧ bitOf v.toNat 1 = true ∧ bitOf v.toNat 0 = true ∧ s.dev.get R.RING_CFG_KIND r = 1 ∧ (s.dev.ring.live.any fun q => q.compl == r) = false ∧ (∀ x ∈ s.dev.ring.heldDb, x.1 ≠ r)) ∧
    (∃ (r : Nat) (v : Word32) (s : State), r < 32 ∧ s.dev.writable R.RING_CTRL_EN = true ∧ bitOf v.toNat 1 = true ∧ bitOf v.toNat 0 = true ∧ 2 ≤ s.dev.get R.RING_CFG_KIND r ∧ (∀ x ∈ s.dev.ring.heldDb, x.1 ≠ r)) ∧
    (∃ (r : Nat) (v : Word32) (s : State), r < 32 ∧ s.dev.writable R.RING_CTRL_EN = true ∧ bitOf v.toNat 1 = true ∧ bitOf v.toNat 0 = true ∧ 2 ≤ s.dev.get R.RING_CFG_KIND r ∧ (∀ x ∈ s.dev.ring.heldDb, x.1 ≠ r) ∧ s.dev.on R.EVT_CFG_STREAM_EN = false) :=
  ⟨⟨31, 0, ex fun d => (d.set R.RING_CTRL_EN 1 31).set R.RING_CFG_KIND 0 31, by decide +kernel⟩,
   ⟨31, 0, ex fun d => (d.set R.RING_CTRL_EN 1 31).set R.RING_CFG_KIND 1 31, by decide +kernel⟩,
   ⟨31, 0, ex fun d => d, by decide +kernel⟩,
   ⟨31, 0, ex fun d => d.set R.RING_CFG_KIND 0 31, by decide +kernel⟩,
   ⟨0, 0, ex fun d => d.set R.RING_GLB_STATUS_PAUSED 1, by decide +kernel⟩,
   ⟨31, 1, ex fun d => (d.set R.RING_CTRL_EN 0 31).set R.RING_CFG_COMPL 1 31, by decide +kernel⟩,
   ⟨31, 0, 1, ex fun d => (d.set R.RING_CTRL_EN 0 31).set R.RING_CFG_KIND 0 31, by decide +kernel⟩,
   ⟨31, 0, ex fun d => (d.set R.RING_CTRL_EN 1 31).set R.RING_CFG_KIND 0 31, by decide +kernel⟩,
   ⟨1, 0, ex fun d => d.set R.RING_CFG_COMPL 1 0, by decide +kernel⟩,
   ⟨31, 0, ex fun d => (d.set R.RING_CTRL_EN 1 31).set R.RING_CFG_KIND 2 31, by decide +kernel⟩,
   ⟨31, 3, ex fun d => d.set R.RING_CFG_KIND 0 31, by decide +kernel⟩,
   ⟨1, 3, ex fun d => (({ d with ring := { d.ring with heldDb := [] } } : Dev) |> await (dq 1 1 [])), by decide +kernel⟩,
   ⟨31, 3, ex fun d => d.set R.RING_CFG_KIND 1 31, by decide +kernel⟩,
   ⟨31, 3, ex fun d => d.set R.RING_CFG_KIND 2 31, by decide +kernel⟩,
   ⟨31, 3, ex fun d => (d.set R.EVT_CFG_STREAM_EN 0).set R.RING_CFG_KIND 2 31, by decide +kernel⟩⟩

/-- The hypotheses of every clause of `RingTraffic` can be met. -/
theorem test_RingTraffic_met :
    (∃ (r : Nat) (n : Nat) (descs : List (List Byte)) (s : State), s.dev.fetchTurn = some r ∧ n = min (s.dev.burst r) descs.length) ∧
    (∃ (r : Nat) (descs : List (List Byte)) (s : State), s.dev.fetchTurn ≠ some r) ∧
    (∃ (r : Nat) (q : Desc) (rest : List Desc) (s : State), tabGet s.dev.ring.staged r = q :: rest ∧ s.dev.ringsHeld = false ∧ (bitOf q.flags 1 && s.dev.ring.live.any fun x => x.ring == r && x.no < q.no) = false ∧ headerOk q = true ∧ s.dev.blockFull q = false) ∧
    (∃ (r : Nat) (q : Desc) (rest : List Desc) (s : State), Awaits q s.dev ∧ tabGet s.dev.ring.staged r = q :: rest ∧ (bitOf q.flags 1 && s.dev.ring.live.any fun x => x.ring == r && x.no < q.no) = false ∧ headerOk q = false) ∧
    (∃ (r : Nat) (q : Desc) (rest : List Desc) (s : State), tabGet s.dev.ring.staged r = q :: rest ∧ ((bitOf q.flags 1 && s.dev.ring.live.any fun x => x.ring == r && x.no < q.no) = true ∨ (headerOk q = true ∧ s.dev.blockFull q = true))) ∧
    (∃ (src : Nat) (g : Gap) (s : State), tabFind s.dev.ring.gaps src = some g ∧ s.dev.itemFits g.ring 1 = true) ∧
    (∃ (src : Nat) (g : Gap) (s : State), tabFind s.dev.ring.gaps src = some g ∧ s.dev.itemFits g.ring 1 = false) ∧
    (∃ (r : Nat) (t0 : Nat) (s : State), s.dev.runs .sup = true ∧ (tabGet s.dev.ring.irq r).first = some t0 ∧ (tabGet s.dev.ring.irq r).waitDb = false ∧ s.dev.get R.RING_IRQ_CFG_TIMER r ≠ 0) ∧
    (∃ (r : Nat) (s : State), s.dev.burst r ≠ 0) ∧
    (∃ (r : Nat) (s : State), r < 32 ∧ s.dev.runs .sup = true) ∧
    (∃ (r : Nat) (n : Nat) (q : Desc) (s : State), Awaits q s.dev ∧ r < 32 ∧ (tabGet s.dev.ring.staged r)[n]? = some q) ∧
    (∃ (r : Nat) (q : Desc) (s : State), Awaits q s.dev ∧ r < 32 ∧ s.dev.ring.live.find? (fun x => x.no == q.no) = some q) ∧
    (∃ (r : Nat) (src : Nat) (s : State), r < 32 ∧ s.dev.runs .sup = true) ∧
    (∃ (r : Nat) (src : Nat) (s : State), r < 32 ∧ s.dev.runs .sup = true) :=
  ⟨⟨0, 1, [zeros 64], ex fun d => ((d.set R.RING_PROD_P 2 0).set R.RING_CFG_LOG2 4 0).set R.RING_CFG_LOG2 4 1, by decide +kernel⟩,
   ⟨31, [], ex fun d => d, by decide +kernel⟩,
   ⟨0, dq 9 1 [], [], ex fun d => ({ d with ring := { d.ring with staged := [(0, [(dq 9 1 [])])] } } : Dev), by decide +kernel⟩,
   ⟨0, dq 9 31 [], [], ex fun d => (({ d with ring := { d.ring with staged := [(0, [(dq 9 31 [])])] } } : Dev) |> await (dq 9 31 [])), awaits_of (by decide +kernel), by decide +kernel⟩,
   ⟨0, dq 0x0A 1 [], [], ex fun d => ({ d with ring := { d.ring with staged := [(0, [(dq 0x0A 1 [])])] } } : Dev).set R.WB_STATUS_STORE_FULL 1, by decide +kernel⟩,
   ⟨0x1201, { ring := 2, count := 3 }, ex fun d => ({ d with ring := { d.ring with gaps := [(0x1201, ({ ring := 2, count := 3 }))] } } : Dev), by decide +kernel⟩,
   ⟨0x1201, { ring := 31, count := 3 }, ex fun d => ({ d with ring := { d.ring with gaps := [(0x1201, ({ ring := 31, count := 3 }))] } } : Dev), by decide +kernel⟩,
   ⟨2, 5, ex fun d => ({ d with ring := { d.ring with irq := [(2, { count := 1, first := some 5 })] } } : Dev).set R.RING_IRQ_CFG_TIMER 10 2, by decide +kernel⟩,
   ⟨0, ex fun d => ((d.set R.RING_PROD_P 2 0).set R.RING_CFG_LOG2 4 0).set R.RING_CFG_LOG2 4 1, by decide +kernel⟩,
   ⟨31, ex fun d => d, by decide +kernel⟩,
   ⟨0, 0, dq 9 1 [], ex fun d => (({ d with ring := { d.ring with staged := [(0, [(dq 9 1 [])])] } } : Dev) |> await (dq 9 1 [])), awaits_of (by decide +kernel), by decide +kernel⟩,
   ⟨0, dq 9 1 [], ex fun d => (d |> await (dq 9 1 [])), awaits_of (by decide +kernel), by decide +kernel⟩,
   ⟨31, 0, ex fun d => d, by decide +kernel⟩,
   ⟨31, 0, ex fun d => d, by decide +kernel⟩⟩

/-- The hypotheses of every clause of `LinkComesAndGoes` can be met. -/
theorem test_LinkComesAndGoes_met :
    (∃ (c : LinkCause) (s : State), s.dev.linkUp = true) ∧
    (∃ (c : LinkCause) (q : Desc) (s : State), s.dev.linkUp = true ∧ s.dev.ringsHeld = false ∧ q ∈ s.dev.ring.live ∧ s.dev.carriedOut q = false) ∧
    (∃ (c : LinkCause) (s : State), s.dev.linkUp = true ∧ c ≠ .busMasterCleared) ∧
    (∃ (c : LinkCause) (s : State), s.dev.linkUp = false) ∧
    (∃ (t0 : Nat) (s : State), s.dev.ring.lostAt = some t0) ∧
    (∃ (s : State), s.dev.powered = true) ∧
    (∃ (s : State), s.dev.powered = true ∧ s.dev.linkUp = false) ∧
    (∃ (speed : Nat) (width : Nat) (s : State), s.dev.runs .pcie = true ∧ 1 ≤ speed ∧ speed ≤ 3 ∧ 1 ≤ width ∧ width ≤ 2) :=
  ⟨⟨.perst, ex fun d => d, by decide +kernel⟩,
   ⟨.perst, dq 9 1 [], ex fun d => (d |> hand (dq 9 1 [])), by decide +kernel⟩,
   ⟨.perst, ex fun d => d, by decide +kernel⟩,
   ⟨.perst, ex fun d => d.set R.RING_GLB_STATUS_LINK_UP 0, by decide +kernel⟩,
   ⟨0, ex fun d => ({ d with ring := { d.ring with lostAt := some 0 } } : Dev), by decide +kernel⟩,
   ⟨ex fun d => d, by decide +kernel⟩,
   ⟨ex fun d => d.set R.RING_GLB_STATUS_LINK_UP 0, by decide +kernel⟩,
   ⟨3, 2, ex fun d => d, by decide +kernel⟩⟩

/-- The hypotheses of every clause of `ImageTransfers` can be met. -/
theorem test_ImageTransfers_met :
    (∃ (q : Desc) (s : State), Ready 0x10 1 q s.dev ∧ s.dev.runs .nvm = true ∧ s.dev.img.erasing = none ∧ resvOk q.area [(0, 7), (8, 4)] = true ∧ fld q.area 1 1 < 5 ∧ fld q.area 2 2 ≠ 0 ∧ 1 ≤ fld q.area 4 2 ∧ fld q.area 4 2 ≤ 4096 ∧ (fld q.area 6 1 = 0 ∨ (fld q.area 6 1 = 1 ∧ fld q.area 8 2 < 512 ∧ fld q.area 10 1 < 4 ∧ fld q.area 11 1 < 4)) ∧ s.dev.on R.IMG_XFER_OPEN = false) ∧
    (∃ (q : Desc) (s : State), Ready 0x10 1 q s.dev ∧ s.dev.runs .nvm = true ∧ s.dev.img.erasing = none ∧ resvOk q.area [(0, 7), (8, 4)] = true ∧ fld q.area 1 1 < 5 ∧ fld q.area 2 2 ≠ 0 ∧ 1 ≤ fld q.area 4 2 ∧ fld q.area 4 2 ≤ 4096 ∧ fld q.area 6 1 = 1 ∧ fld q.area 8 2 < 512 ∧ fld q.area 10 1 < 4 ∧ fld q.area 11 1 < 4 ∧ s.dev.on R.IMG_XFER_OPEN = false) ∧
    (∃ (q : Desc) (s : State), Ready 0x10 1 q s.dev ∧ s.dev.runs .nvm = true ∧ s.dev.img.erasing = none ∧ resvOk q.area [(0, 7), (8, 4)] = true ∧ fld q.area 1 1 < 5 ∧ fld q.area 2 2 ≠ 0 ∧ 1 ≤ fld q.area 4 2 ∧ fld q.area 4 2 ≤ 4096 ∧ (fld q.area 6 1 = 0 ∨ (fld q.area 6 1 = 1 ∧ fld q.area 8 2 < 512 ∧ fld q.area 10 1 < 4 ∧ fld q.area 11 1 < 4)) ∧ s.dev.on R.IMG_XFER_OPEN = true) ∧
    (∃ (q : Desc) (s : State), Awaits q s.dev ∧ s.dev.runs .nvm = true ∧ s.dev.img.erasing = some q) ∧
    (∃ (q : Desc) (s : State), Ready 0x10 2 q s.dev ∧ s.dev.img.erasing = none ∧ resvOk q.area [(0, 1), (2, 2)] = true ∧ fld q.area 2 2 ≠ 0 ∧ s.dev.on R.IMG_XFER_OPEN = true ∧ s.dev.get R.IMG_XFER_XFER = fld q.area 2 2) ∧
    (∃ (q : Desc) (b : List Byte) (s : State), Ready 0x10 3 q s.dev ∧ s.dev.runs .nvm = true ∧ s.dev.img.erasing = none ∧ resvOk q.area [(0, 1), (2, 6), (8, 8)] = true ∧ fld q.area 2 2 ≠ 0 ∧ fld q.area 8 8 % 16 = 0 ∧ s.dev.on R.IMG_XFER_OPEN = true ∧ s.dev.get R.IMG_XFER_XFER = fld q.area 2 2 ∧ s.dev.on R.IMG_XFER_SOURCE = false ∧ fld q.area 4 2 + fld q.area 6 2 ≤ s.dev.get R.IMG_XFER_CNT_PIECES ∧ s.dev.get R.IMG_XFER_CNT_PIECES ≤ 4096) ∧
    (∃ (q : Desc) (m : Option (List Byte)) (s : State), Ready 0x10 4 q s.dev ∧ s.dev.runs .nvm = true ∧ resvOk q.area [(0, 1), (2, 7), (16, 8)] = true ∧ fld q.area 2 2 ≠ 0 ∧ fld q.area 8 1 = 1 ∧ fld q.area 16 8 % 16 = 0 ∧ s.dev.on R.IMG_XFER_OPEN = true ∧ s.dev.get R.IMG_XFER_XFER = fld q.area 2 2 ∧ fld q.area 4 2 + fld q.area 6 2 ≤ s.dev.get R.IMG_XFER_CNT_PIECES ∧ 1 ≤ fld q.area 6 2 ∧ s.dev.reins = true) ∧
    (∃ (q : Desc) (b : List Byte) (s : State), Ready 0x10 4 q s.dev ∧ resvOk q.area [(0, 1), (2, 7), (16, 8)] = true ∧ fld q.area 2 2 ≠ 0 ∧ fld q.area 8 1 = 0 ∧ fld q.area 16 8 % 16 = 0 ∧ fld q.area 4 2 + fld q.area 6 2 ≤ 4096 ∧ 1 ≤ fld q.area 6 2 ∧ s.dev.reins = true) ∧
    (∃ (slot : Nat) (ch : Nat) (code : Nat) (f : List Byte) (d : Dev) (e : Dev) (s : State), s.dev.runs .rad = true ∧ s.dev.hearsPiece slot ch code f = true ∧ d = s.dev.passTo (s.dev.slotStart (slot + 1)) ∧ d.receive f 49 0 true (d.siteRxKey (fGen f)) (tabFind d.rad.hwSite (fCell f)) = (none, e)) ∧
    (∃ (slot : Nat) (ch : Nat) (code : Nat) (f : List Byte) (p : List Byte) (d : Dev) (e : Dev) (s : State), s.dev.runs .rad = true ∧ s.dev.hearsPiece slot ch code f = true ∧ d = s.dev.passTo (s.dev.slotStart (slot + 1)) ∧ d.receive f 49 0 true (d.siteRxKey (fGen f)) (tabFind d.rad.hwSite (fCell f)) = (some p, e) ∧ fld p 0 1 = 6 ∧ fld p 1 2 = e.get R.IMG_XFER_XFER ∧ fld p 3 2 < e.get R.IMG_XFER_CNT_PIECES ∧ fld p 5 1 ≤ 40) ∧
    (∃ (slot : Nat) (ch : Nat) (code : Nat) (n : Nat) (f : List Byte) (p : List Byte) (d : Dev) (e : Dev) (s : State), s.dev.runs .rad = true ∧ s.dev.hearsPiece slot ch code f = true ∧ d = s.dev.passTo (s.dev.slotStart (slot + 1)) ∧ d.receive f 49 0 true (d.siteRxKey (fGen f)) (tabFind d.rad.hwSite (fCell f)) = (some p, e) ∧ fld p 0 1 = 6 ∧ fld p 1 2 = e.get R.IMG_XFER_XFER ∧ fld p 3 2 < e.get R.IMG_XFER_CNT_PIECES ∧ fld p 5 1 ≤ 40 ∧ n = (if fld p 5 1 = 40 then 24 else 25) ∧ (e.piece (fld p 3 2)).length = 1024 ∧ ((e.piece (fld p 3 2)).drop (25 * fld p 5 1)).take n = List.replicate n 0xFF ∧ p.length = 31) ∧
    (∃ (slot : Nat) (ch : Nat) (code : Nat) (f : List Byte) (s : State), (s.dev.on R.IMG_CTRL_RX_EN = false ∨ s.dev.on R.IMG_XFER_OPEN = false ∨ s.dev.on R.IMG_XFER_SOURCE = false)) :=
  ⟨⟨dq 0x10 1 [0, 1, 0, 1], ex fun d => hand (dq 0x10 1 [0, 1, 0, 1]) (d.set R.IMG_XFER_OPEN 0), ready_of (by decide +kernel), by decide +kernel⟩,
   ⟨dq 0x10 1 [0, 1, 0, 1, 0, 1], ex fun d => hand (dq 0x10 1 [0, 1, 0, 1, 0, 1]) (d.set R.IMG_XFER_OPEN 0), ready_of (by decide +kernel), by decide +kernel⟩,
   ⟨dq 0x10 1 [0, 1, 0, 1], ex fun d => hand (dq 0x10 1 [0, 1, 0, 1]) (d.set R.IMG_XFER_OPEN 1), ready_of (by decide +kernel), by decide +kernel⟩,
   ⟨dq 0x10 1 [], ex fun d => (({ d with img := { d.img with erasing := some (dq 0x10 1 []) } } : Dev) |> await (dq 0x10 1 [])), awaits_of (by decide +kernel), by decide +kernel⟩,
   ⟨dq 0x10 2 [0, 9], ex fun d => hand (dq 0x10 2 [0, 9]) ((d.set R.IMG_XFER_OPEN 1).set R.IMG_XFER_XFER 9), ready_of (by decide +kernel), by decide +kernel⟩,
   ⟨dq 0x10 3 [0, 9, 0, 255, 15, 1], [], ex fun d => hand (dq 0x10 3 [0, 9, 0, 255, 15, 1]) (((((d.set R.IMG_XFER_OPEN 1).set R.IMG_XFER_SOURCE 0).set R.IMG_XFER_CNT_PIECES 0).set R.IMG_XFER_XFER 9).set R.IMG_XFER_CNT_PIECES 4096), ready_of (by decide +kernel), by decide +kernel⟩,
   ⟨dq 0x10 4 [0, 9, 0, 255, 15, 1, 0, 1], none, ex fun d => hand (dq 0x10 4 [0, 9, 0, 255, 15, 1, 0, 1]) (((d.set R.IMG_XFER_OPEN 1).set R.IMG_XFER_XFER 9).set R.IMG_XFER_CNT_PIECES 4096), ready_of (by decide +kernel), by decide +kernel⟩,
   ⟨dq 0x10 4 [0, 1, 0, 0, 0, 1], [], ex fun d => hand (dq 0x10 4 [0, 1, 0, 0, 0, 1]) (d), ready_of (by decide +kernel), by decide +kernel⟩,
   ⟨103, 0, 0, siteFr ((ex fun d => ((((d.set R.IMG_CTRL_RX_EN 1).set R.IMG_XFER_OPEN 1).set R.IMG_XFER_SOURCE 1).set R.IMG_RX_CFG_SRC_CELL 5).set R.IMG_XFER_CNT_PIECES 4).dev.passTo ((ex fun d => ((((d.set R.IMG_CTRL_RX_EN 1).set R.IMG_XFER_OPEN 1).set R.IMG_XFER_SOURCE 1).set R.IMG_RX_CFG_SRC_CELL 5).set R.IMG_XFER_CNT_PIECES 4).dev.slotStart (103 + 1))) 3 0xF0 (u8 6 ++ u16 0 ++ u16 3 ++ u8 40 ++ zeros 25) ++ zeros 1, (ex fun d => ((((d.set R.IMG_CTRL_RX_EN 1).set R.IMG_XFER_OPEN 1).set R.IMG_XFER_SOURCE 1).set R.IMG_RX_CFG_SRC_CELL 5).set R.IMG_XFER_CNT_PIECES 4).dev.passTo ((ex fun d => ((((d.set R.IMG_CTRL_RX_EN 1).set R.IMG_XFER_OPEN 1).set R.IMG_XFER_SOURCE 1).set R.IMG_RX_CFG_SRC_CELL 5).set R.IMG_XFER_CNT_PIECES 4).dev.slotStart (103 + 1)), (((ex fun d => ((((d.set R.IMG_CTRL_RX_EN 1).set R.IMG_XFER_OPEN 1).set R.IMG_XFER_SOURCE 1).set R.IMG_RX_CFG_SRC_CELL 5).set R.IMG_XFER_CNT_PIECES 4).dev.passTo ((ex fun d => ((((d.set R.IMG_CTRL_RX_EN 1).set R.IMG_XFER_OPEN 1).set R.IMG_XFER_SOURCE 1).set R.IMG_RX_CFG_SRC_CELL 5).set R.IMG_XFER_CNT_PIECES 4).dev.slotStart (103 + 1))).receive ((siteFr ((ex fun d => ((((d.set R.IMG_CTRL_RX_EN 1).set R.IMG_XFER_OPEN 1).set R.IMG_XFER_SOURCE 1).set R.IMG_RX_CFG_SRC_CELL 5).set R.IMG_XFER_CNT_PIECES 4).dev.passTo ((ex fun d => ((((d.set R.IMG_CTRL_RX_EN 1).set R.IMG_XFER_OPEN 1).set R.IMG_XFER_SOURCE 1).set R.IMG_RX_CFG_SRC_CELL 5).set R.IMG_XFER_CNT_PIECES 4).dev.slotStart (103 + 1))) 3 0xF0 (u8 6 ++ u16 0 ++ u16 3 ++ u8 40 ++ zeros 25) ++ zeros 1)) 49 0 true (((ex fun d => ((((d.set R.IMG_CTRL_RX_EN 1).set R.IMG_XFER_OPEN 1).set R.IMG_XFER_SOURCE 1).set R.IMG_RX_CFG_SRC_CELL 5).set R.IMG_XFER_CNT_PIECES 4).dev.passTo ((ex fun d => ((((d.set R.IMG_CTRL_RX_EN 1).set R.IMG_XFER_OPEN 1).set R.IMG_XFER_SOURCE 1).set R.IMG_RX_CFG_SRC_CELL 5).set R.IMG_XFER_CNT_PIECES 4).dev.slotStart (103 + 1))).siteRxKey (fGen ((siteFr ((ex fun d => ((((d.set R.IMG_CTRL_RX_EN 1).set R.IMG_XFER_OPEN 1).set R.IMG_XFER_SOURCE 1).set R.IMG_RX_CFG_SRC_CELL 5).set R.IMG_XFER_CNT_PIECES 4).dev.passTo ((ex fun d => ((((d.set R.IMG_CTRL_RX_EN 1).set R.IMG_XFER_OPEN 1).set R.IMG_XFER_SOURCE 1).set R.IMG_RX_CFG_SRC_CELL 5).set R.IMG_XFER_CNT_PIECES 4).dev.slotStart (103 + 1))) 3 0xF0 (u8 6 ++ u16 0 ++ u16 3 ++ u8 40 ++ zeros 25) ++ zeros 1)))) none).2, ex fun d => ((((d.set R.IMG_CTRL_RX_EN 1).set R.IMG_XFER_OPEN 1).set R.IMG_XFER_SOURCE 1).set R.IMG_RX_CFG_SRC_CELL 5).set R.IMG_XFER_CNT_PIECES 4, by decide +kernel⟩,
   ⟨103, 0, 0, siteFr ((ex fun d => ((((d.set R.IMG_CTRL_RX_EN 1).set R.IMG_XFER_OPEN 1).set R.IMG_XFER_SOURCE 1).set R.IMG_RX_CFG_SRC_CELL 5).set R.IMG_XFER_CNT_PIECES 4).dev.passTo ((ex fun d => ((((d.set R.IMG_CTRL_RX_EN 1).set R.IMG_XFER_OPEN 1).set R.IMG_XFER_SOURCE 1).set R.IMG_RX_CFG_SRC_CELL 5).set R.IMG_XFER_CNT_PIECES 4).dev.slotStart (103 + 1))) 3 0xF0 (u8 6 ++ u16 0 ++ u16 3 ++ u8 40 ++ zeros 25), u8 6 ++ u16 0 ++ u16 3 ++ u8 40 ++ zeros 25, (ex fun d => ((((d.set R.IMG_CTRL_RX_EN 1).set R.IMG_XFER_OPEN 1).set R.IMG_XFER_SOURCE 1).set R.IMG_RX_CFG_SRC_CELL 5).set R.IMG_XFER_CNT_PIECES 4).dev.passTo ((ex fun d => ((((d.set R.IMG_CTRL_RX_EN 1).set R.IMG_XFER_OPEN 1).set R.IMG_XFER_SOURCE 1).set R.IMG_RX_CFG_SRC_CELL 5).set R.IMG_XFER_CNT_PIECES 4).dev.slotStart (103 + 1)), (((ex fun d => ((((d.set R.IMG_CTRL_RX_EN 1).set R.IMG_XFER_OPEN 1).set R.IMG_XFER_SOURCE 1).set R.IMG_RX_CFG_SRC_CELL 5).set R.IMG_XFER_CNT_PIECES 4).dev.passTo ((ex fun d => ((((d.set R.IMG_CTRL_RX_EN 1).set R.IMG_XFER_OPEN 1).set R.IMG_XFER_SOURCE 1).set R.IMG_RX_CFG_SRC_CELL 5).set R.IMG_XFER_CNT_PIECES 4).dev.slotStart (103 + 1))).receive ((siteFr ((ex fun d => ((((d.set R.IMG_CTRL_RX_EN 1).set R.IMG_XFER_OPEN 1).set R.IMG_XFER_SOURCE 1).set R.IMG_RX_CFG_SRC_CELL 5).set R.IMG_XFER_CNT_PIECES 4).dev.passTo ((ex fun d => ((((d.set R.IMG_CTRL_RX_EN 1).set R.IMG_XFER_OPEN 1).set R.IMG_XFER_SOURCE 1).set R.IMG_RX_CFG_SRC_CELL 5).set R.IMG_XFER_CNT_PIECES 4).dev.slotStart (103 + 1))) 3 0xF0 (u8 6 ++ u16 0 ++ u16 3 ++ u8 40 ++ zeros 25))) 49 0 true (((ex fun d => ((((d.set R.IMG_CTRL_RX_EN 1).set R.IMG_XFER_OPEN 1).set R.IMG_XFER_SOURCE 1).set R.IMG_RX_CFG_SRC_CELL 5).set R.IMG_XFER_CNT_PIECES 4).dev.passTo ((ex fun d => ((((d.set R.IMG_CTRL_RX_EN 1).set R.IMG_XFER_OPEN 1).set R.IMG_XFER_SOURCE 1).set R.IMG_RX_CFG_SRC_CELL 5).set R.IMG_XFER_CNT_PIECES 4).dev.slotStart (103 + 1))).siteRxKey (fGen ((siteFr ((ex fun d => ((((d.set R.IMG_CTRL_RX_EN 1).set R.IMG_XFER_OPEN 1).set R.IMG_XFER_SOURCE 1).set R.IMG_RX_CFG_SRC_CELL 5).set R.IMG_XFER_CNT_PIECES 4).dev.passTo ((ex fun d => ((((d.set R.IMG_CTRL_RX_EN 1).set R.IMG_XFER_OPEN 1).set R.IMG_XFER_SOURCE 1).set R.IMG_RX_CFG_SRC_CELL 5).set R.IMG_XFER_CNT_PIECES 4).dev.slotStart (103 + 1))) 3 0xF0 (u8 6 ++ u16 0 ++ u16 3 ++ u8 40 ++ zeros 25))))) none).2, ex fun d => ((((d.set R.IMG_CTRL_RX_EN 1).set R.IMG_XFER_OPEN 1).set R.IMG_XFER_SOURCE 1).set R.IMG_RX_CFG_SRC_CELL 5).set R.IMG_XFER_CNT_PIECES 4, by decide +kernel⟩,
   ⟨103, 0, 0, 24, siteFr ((ex fun d => ((((d.set R.IMG_CTRL_RX_EN 1).set R.IMG_XFER_OPEN 1).set R.IMG_XFER_SOURCE 1).set R.IMG_RX_CFG_SRC_CELL 5).set R.IMG_XFER_CNT_PIECES 4).dev.passTo ((ex fun d => ((((d.set R.IMG_CTRL_RX_EN 1).set R.IMG_XFER_OPEN 1).set R.IMG_XFER_SOURCE 1).set R.IMG_RX_CFG_SRC_CELL 5).set R.IMG_XFER_CNT_PIECES 4).dev.slotStart (103 + 1))) 3 0xF0 (u8 6 ++ u16 0 ++ u16 3 ++ u8 40 ++ zeros 25), u8 6 ++ u16 0 ++ u16 3 ++ u8 40 ++ zeros 25, (ex fun d => ((((d.set R.IMG_CTRL_RX_EN 1).set R.IMG_XFER_OPEN 1).set R.IMG_XFER_SOURCE 1).set R.IMG_RX_CFG_SRC_CELL 5).set R.IMG_XFER_CNT_PIECES 4).dev.passTo ((ex fun d => ((((d.set R.IMG_CTRL_RX_EN 1).set R.IMG_XFER_OPEN 1).set R.IMG_XFER_SOURCE 1).set R.IMG_RX_CFG_SRC_CELL 5).set R.IMG_XFER_CNT_PIECES 4).dev.slotStart (103 + 1)), (((ex fun d => ((((d.set R.IMG_CTRL_RX_EN 1).set R.IMG_XFER_OPEN 1).set R.IMG_XFER_SOURCE 1).set R.IMG_RX_CFG_SRC_CELL 5).set R.IMG_XFER_CNT_PIECES 4).dev.passTo ((ex fun d => ((((d.set R.IMG_CTRL_RX_EN 1).set R.IMG_XFER_OPEN 1).set R.IMG_XFER_SOURCE 1).set R.IMG_RX_CFG_SRC_CELL 5).set R.IMG_XFER_CNT_PIECES 4).dev.slotStart (103 + 1))).receive ((siteFr ((ex fun d => ((((d.set R.IMG_CTRL_RX_EN 1).set R.IMG_XFER_OPEN 1).set R.IMG_XFER_SOURCE 1).set R.IMG_RX_CFG_SRC_CELL 5).set R.IMG_XFER_CNT_PIECES 4).dev.passTo ((ex fun d => ((((d.set R.IMG_CTRL_RX_EN 1).set R.IMG_XFER_OPEN 1).set R.IMG_XFER_SOURCE 1).set R.IMG_RX_CFG_SRC_CELL 5).set R.IMG_XFER_CNT_PIECES 4).dev.slotStart (103 + 1))) 3 0xF0 (u8 6 ++ u16 0 ++ u16 3 ++ u8 40 ++ zeros 25))) 49 0 true (((ex fun d => ((((d.set R.IMG_CTRL_RX_EN 1).set R.IMG_XFER_OPEN 1).set R.IMG_XFER_SOURCE 1).set R.IMG_RX_CFG_SRC_CELL 5).set R.IMG_XFER_CNT_PIECES 4).dev.passTo ((ex fun d => ((((d.set R.IMG_CTRL_RX_EN 1).set R.IMG_XFER_OPEN 1).set R.IMG_XFER_SOURCE 1).set R.IMG_RX_CFG_SRC_CELL 5).set R.IMG_XFER_CNT_PIECES 4).dev.slotStart (103 + 1))).siteRxKey (fGen ((siteFr ((ex fun d => ((((d.set R.IMG_CTRL_RX_EN 1).set R.IMG_XFER_OPEN 1).set R.IMG_XFER_SOURCE 1).set R.IMG_RX_CFG_SRC_CELL 5).set R.IMG_XFER_CNT_PIECES 4).dev.passTo ((ex fun d => ((((d.set R.IMG_CTRL_RX_EN 1).set R.IMG_XFER_OPEN 1).set R.IMG_XFER_SOURCE 1).set R.IMG_RX_CFG_SRC_CELL 5).set R.IMG_XFER_CNT_PIECES 4).dev.slotStart (103 + 1))) 3 0xF0 (u8 6 ++ u16 0 ++ u16 3 ++ u8 40 ++ zeros 25))))) none).2, ex fun d => ((((d.set R.IMG_CTRL_RX_EN 1).set R.IMG_XFER_OPEN 1).set R.IMG_XFER_SOURCE 1).set R.IMG_RX_CFG_SRC_CELL 5).set R.IMG_XFER_CNT_PIECES 4, by decide +kernel⟩,
   ⟨0, 0, 0, [], ex fun d => d, by decide +kernel⟩⟩

/-- The hypotheses of every clause of `ImageSwitches` can be met. -/
theorem test_ImageSwitches_met :
    (∃ (q : Desc) (p : Nat) (c : Nat) (s : State), Ready 0x10 5 q s.dev ∧ s.dev.runs .nvm = true ∧ s.dev.keyBusy (s.dev.get R.IMG_CFG_KEY_SLOT) = false ∧ p = fld q.area 1 1 ∧ s.dev.img.install = none ∧ resvOk q.area [(0, 2)] = true ∧ p < 5 ∧ s.dev.on R.IMG_XFER_OPEN = true ∧ s.dev.on R.IMG_XFER_COMPLETE = true ∧ s.dev.get R.IMG_XFER_PART = p ∧ s.dev.get R.IMG_STATUS_TRIAL_PART ≠ p ∧ (∀ a, s.dev.img.act = some a → a.part ≠ p) ∧ s.dev.verify s.dev.staged p (some (s.dev.get R.IMG_XFER_CNT_PIECES)) = .bad c) ∧
    (∃ (q : Desc) (p : Nat) (st : Status) (s : State), Ready 0x10 5 q s.dev ∧ s.dev.runs .nvm = true ∧ s.dev.keyBusy (s.dev.get R.IMG_CFG_KEY_SLOT) = false ∧ p = fld q.area 1 1 ∧ s.dev.img.install = none ∧ resvOk q.area [(0, 2)] = true ∧ p < 5 ∧ s.dev.on R.IMG_XFER_OPEN = true ∧ s.dev.on R.IMG_XFER_COMPLETE = true ∧ s.dev.get R.IMG_XFER_PART = p ∧ s.dev.get R.IMG_STATUS_TRIAL_PART ≠ p ∧ (∀ a, s.dev.img.act = some a → a.part ≠ p) ∧ s.dev.verify s.dev.staged p (some (s.dev.get R.IMG_XFER_CNT_PIECES)) = .refuse st) ∧
    (∃ (q : Desc) (p : Nat) (b : List Byte) (s : State), Ready 0x10 5 q s.dev ∧ s.dev.runs .nvm = true ∧ s.dev.keyBusy (s.dev.get R.IMG_CFG_KEY_SLOT) = false ∧ p = fld q.area 1 1 ∧ s.dev.img.install = none ∧ resvOk q.area [(0, 2)] = true ∧ p < 5 ∧ s.dev.on R.IMG_XFER_OPEN = true ∧ s.dev.on R.IMG_XFER_COMPLETE = true ∧ s.dev.get R.IMG_XFER_PART = p ∧ s.dev.get R.IMG_STATUS_TRIAL_PART ≠ p ∧ (∀ a, s.dev.img.act = some a → a.part ≠ p) ∧ s.dev.verify s.dev.staged p (some (s.dev.get R.IMG_XFER_CNT_PIECES)) = .good b) ∧
    (∃ (x : ImgInst) (s : State), Awaits x.desc s.dev ∧ s.dev.runs .nvm = true ∧ s.dev.img.install = some x ∧ x.part < 5 ∧ x.slot < 2) ∧
    (∃ (q : Desc) (p : Nat) (sl : Nat) (c : Bool) (s : State), Ready 0x10 6 q s.dev ∧ s.dev.runs .nvm = true ∧ p = fld q.area 1 1 ∧ sl = (if s.dev.slotState p 0 = 1 then 0 else 1) ∧ resvOk q.area [(0, 3)] = true ∧ p < 5 ∧ fld q.area 2 1 < 2 ∧ s.dev.get R.IMG_STATUS_TRIAL_PART = 7 ∧ s.dev.img.act = none ∧ s.dev.slotState p sl = 1 ∧ s.dev.safeRefused p = false ∧ (fld q.area 2 1 = 0 ∨ s.dev.convOf p sl c ≠ 3) ∧ compatible (s.dev.partSet p sl) = true) ∧
    (∃ (q : Desc) (p : Nat) (sl : Nat) (c : Bool) (s : State), Ready 0x10 6 q s.dev ∧ s.dev.runs .nvm = true ∧ p = fld q.area 1 1 ∧ sl = (if s.dev.slotState p 0 = 1 then 0 else 1) ∧ resvOk q.area [(0, 3)] = true ∧ p < 5 ∧ fld q.area 2 1 < 2 ∧ s.dev.get R.IMG_STATUS_TRIAL_PART = 7 ∧ s.dev.img.act = none ∧ s.dev.slotState p sl = 1 ∧ s.dev.safeRefused p = false ∧ (fld q.area 2 1 = 0 ∨ s.dev.convOf p sl c ≠ 3) ∧ compatible (s.dev.partSet p sl) = true ∧ p ≠ 2 ∧ p ≠ 3) ∧
    (∃ (q : Desc) (p : Nat) (sl : Nat) (c : Bool) (s : State), Ready 0x10 6 q s.dev ∧ s.dev.runs .nvm = true ∧ p = fld q.area 1 1 ∧ sl = (if s.dev.slotState p 0 = 1 then 0 else 1) ∧ resvOk q.area [(0, 3)] = true ∧ p < 5 ∧ fld q.area 2 1 < 2 ∧ (s.dev.get R.IMG_STATUS_TRIAL_PART ≠ 7 ∨ s.dev.img.act.isSome = true ∨ s.dev.slotState p sl ≠ 1 ∨ s.dev.safeRefused p = true)) ∧
    (∃ (a : ImgAct) (t0 : Nat) (s : State), s.dev.runs .nvm = true ∧ s.dev.img.act = some a ∧ a.started = some t0 ∧ (a.part = 2 → s.dev.trk.allDiscont = none)) ∧
    (∃ (a : ImgAct) (t0 : Nat) (s : State), s.dev.runs .nvm = true ∧ s.dev.img.act = some a ∧ a.started = some t0 ∧ (a.part = 2 → s.dev.trk.allDiscont = none) ∧ a.part = 0) ∧
    (∃ (a : ImgAct) (t0 : Nat) (s : State), s.dev.runs .nvm = true ∧ s.dev.img.act = some a ∧ a.started = some t0 ∧ (a.part = 2 → s.dev.trk.allDiscont = none) ∧ s.dev.get R.IMG_STATUS_TRIAL_PART = a.part) ∧
    (∃ (a : ImgAct) (t0 : Nat) (q : Desc) (s : State), s.dev.runs .nvm = true ∧ s.dev.img.act = some a ∧ a.started = some t0 ∧ (a.part = 2 → s.dev.trk.allDiscont = none) ∧ a.desc = some q ∧ q.bytes.length = 64 ∧ s.dev.isLive q = true ∧ s.dev.linkUp = true ∧ s.dev.runs .sup = true ∧ (a.part = 0 ∨ s.dev.on R.RING_GLB_STATUS_PAUSED = false) ∧ s.dev.on R.RING_CTRL_EN q.compl = true ∧ s.dev.taking.all (fun x => x.no != q.no) = true ∧ (s.dev.ring.deferred.all fun x => x.1.no != q.no) = true) ∧
    (∃ (q : Desc) (p : Nat) (r : Nat) (s : State), Ready 0x10 8 q s.dev ∧ s.dev.runs .nvm = true ∧ p = fld q.area 1 1 ∧ r = s.dev.get R.IMG_PART_STAT_RUN_SLOT p ∧ s.dev.img.act = none ∧ resvOk q.area [(0, 2)] = true ∧ p < 5 ∧ s.dev.get R.IMG_STATUS_TRIAL_PART = p ∧ s.dev.on R.IMG_PART_STAT_SELF_OK p = true) ∧
    (∃ (q : Desc) (p : Nat) (r : Nat) (s : State), Ready 0x10 8 q s.dev ∧ s.dev.runs .nvm = true ∧ p = fld q.area 1 1 ∧ r = s.dev.get R.IMG_PART_STAT_RUN_SLOT p ∧ s.dev.img.act = none ∧ resvOk q.area [(0, 2)] = true ∧ p < 5 ∧ s.dev.get R.IMG_STATUS_TRIAL_PART = p ∧ s.dev.on R.IMG_PART_STAT_SELF_OK p = true ∧ imgEpoch (s.dev.image p r) < 64) ∧
    (∃ (q : Desc) (p : Nat) (sl : Nat) (s : State), Ready 0x10 7 q s.dev ∧ s.dev.runs .nvm = true ∧ p = fld q.area 1 1 ∧ sl = 1 - s.dev.get R.IMG_PART_STAT_RUN_SLOT p ∧ s.dev.img.act = none ∧ resvOk q.area [(0, 2)] = true ∧ p < 5 ∧ s.dev.get R.IMG_STATUS_TRIAL_PART = p ∧ s.dev.safeRefused p = false ∧ compatible (s.dev.partSet p sl) = true) ∧
    (∃ (q : Desc) (p : Nat) (sl : Nat) (s : State), Ready 0x10 7 q s.dev ∧ s.dev.runs .nvm = true ∧ p = fld q.area 1 1 ∧ sl = 1 - s.dev.get R.IMG_PART_STAT_RUN_SLOT p ∧ s.dev.img.act = none ∧ resvOk q.area [(0, 2)] = true ∧ p < 5 ∧ s.dev.get R.IMG_STATUS_TRIAL_PART = p ∧ s.dev.safeRefused p = false ∧ compatible (s.dev.partSet p sl) = true ∧ p ≠ 2 ∧ p ≠ 3) ∧
    (∃ (t0 : Nat) (p : Nat) (sl : Nat) (s : State), s.dev.runs .safe = true ∧ s.dev.img.trialAt = some t0 ∧ p = s.dev.get R.IMG_STATUS_TRIAL_PART ∧ p < 5 ∧ p ≠ 1 ∧ sl = 1 - s.dev.get R.IMG_PART_STAT_RUN_SLOT p ∧ s.dev.img.act = none) ∧
    (∃ (t0 : Nat) (p : Nat) (sl : Nat) (s : State), s.dev.runs .safe = true ∧ s.dev.img.trialAt = some t0 ∧ p = s.dev.get R.IMG_STATUS_TRIAL_PART ∧ p < 5 ∧ p ≠ 1 ∧ sl = 1 - s.dev.get R.IMG_PART_STAT_RUN_SLOT p ∧ s.dev.img.act = none ∧ p ≠ 2 ∧ p ≠ 3) ∧
    (∃ (t0 : Nat) (s : State), s.dev.runs .safe = true ∧ s.dev.img.trialAt = some t0 ∧ s.dev.get R.IMG_STATUS_TRIAL_PART = 1 ∧ s.dev.img.act = none) ∧
    (∃ (v : Word32) (s : State), s.dev.writable R.IMG_REC_CMD_GO = true ∧ bitOf v.toNat 8 = true ∧ v.toNat % 8 ≤ 4 ∧ s.dev.recovering = true ∧ s.dev.img.recov = none) ∧
    (∃ (v : Word32) (s : State), bitOf v.toNat 8 = false) ∧
    (∃ (p : Nat) (b : List Byte) (m : Option (List Byte)) (s : State), s.dev.powered = true ∧ s.dev.img.recov = some p ∧ s.dev.verify (m.getD []) p none = .good b) ∧
    (∃ (p : Nat) (m : Option (List Byte)) (s : State), (∀ b, s.dev.verify (m.getD []) p none ≠ .good b) ∧ s.dev.powered = true ∧ s.dev.img.recov = some p) :=
  ⟨⟨dq 0x10 5 [4], 4, 1, ex fun d => hand (dq 0x10 5 [4]) (((((d.set R.IMG_XFER_OPEN 1).set R.IMG_XFER_COMPLETE 1).set R.IMG_XFER_PART 4).set R.IMG_STATUS_TRIAL_PART 7).set R.IMG_XFER_CNT_PIECES 1), ready_of (by decide +kernel), by decide +kernel⟩,
   ⟨dq 0x10 5 [4], 4, .keyDenied, ex fun d => hand (dq 0x10 5 [4]) (((((((({ d with img := { d.img with stage := [(0, fit 1024 (container 4))] } } : Dev).set R.IMG_XFER_OPEN 1).set R.IMG_XFER_COMPLETE 1).set R.IMG_XFER_PART 4).set R.IMG_STATUS_TRIAL_PART 7).set R.IMG_XFER_CNT_PIECES 1).set R.KEY_ATTR_STATE 1 9).set R.IMG_CFG_KEY_SLOT 9), ready_of (by decide +kernel), by decide +kernel⟩,
   ⟨dq 0x10 5 [4], 4, container 4, ex fun d => hand (dq 0x10 5 [4]) (((((((({ d with img := { d.img with stage := [(0, fit 1024 (container 4))] } } : Dev).set R.IMG_XFER_OPEN 1).set R.IMG_XFER_COMPLETE 1).set R.IMG_XFER_PART 4).set R.IMG_STATUS_TRIAL_PART 7).set R.IMG_XFER_CNT_PIECES 1).set R.IMG_CFG_KEY_SLOT 9).fillSlot 9 { size := 1, usage := 0, mask := 2, nv := true } (List.replicate 32 7)), ready_of (by decide +kernel), by decide +kernel⟩,
   ⟨{ desc := dq 0x10 5 [4], part := 4, slot := 1 }, ex fun d => (({ d with img := { d.img with install := some ({ desc := dq 0x10 5 [4], part := 4, slot := 1 }) } } : Dev) |> await (dq 0x10 5 [4])), awaits_of (by decide +kernel), by decide +kernel⟩,
   ⟨dq 0x10 6 [], 0, 1, false, ex fun d => hand (dq 0x10 6 []) (((d.set R.IMG_STATUS_TRIAL_PART 7).set R.IMG_PART_STAT_STATE_B 1 0).set R.IMG_PART_STAT_STATE_A 2 0), ready_of (by decide +kernel), by decide +kernel⟩,
   ⟨dq 0x10 6 [], 0, 1, false, ex fun d => hand (dq 0x10 6 []) (((d.set R.IMG_STATUS_TRIAL_PART 7).set R.IMG_PART_STAT_STATE_B 1 0).set R.IMG_PART_STAT_STATE_A 2 0), ready_of (by decide +kernel), by decide +kernel⟩,
   ⟨dq 0x10 6 [4], 4, 1, false, ex fun d => hand (dq 0x10 6 [4]) (d), ready_of (by decide +kernel), by decide +kernel⟩,
   ⟨{ part := 2, started := some 5 }, 5, ex fun d => ({ d with img := { d.img with act := some ({ part := 2, started := some 5 }) } } : Dev), by decide +kernel⟩,
   ⟨{ part := 0, started := some 5 }, 5, ex fun d => ({ d with img := { d.img with act := some ({ part := 0, started := some 5 }) } } : Dev), by decide +kernel⟩,
   ⟨{ part := 3, started := some 5 }, 5, ex fun d => ({ d with img := { d.img with act := some ({ part := 3, started := some 5 }) } } : Dev).set R.IMG_STATUS_TRIAL_PART 3, by decide +kernel⟩,
   ⟨{ part := 0, started := some 5, desc := some (dq 0x10 6 [0]) }, 5, dq 0x10 6 [0], ex fun d => (({ d with img := { d.img with act := some ({ part := 0, started := some 5, desc := some (dq 0x10 6 [0]) }) } } : Dev).set R.RING_CTRL_EN 1 (dq 0x10 6 [0]).compl |> await (dq 0x10 6 [0])), by decide +kernel⟩,
   ⟨dq 0x10 8 [4], 4, 0, ex fun d => hand (dq 0x10 8 [4]) (((d.set R.IMG_PART_STAT_SELF_OK 1 4).set R.IMG_STATUS_TRIAL_PART 4).set R.IMG_PART_STAT_SELF_OK 1 4), ready_of (by decide +kernel), by decide +kernel⟩,
   ⟨dq 0x10 8 [4], 4, 0, ex fun d => hand (dq 0x10 8 [4]) (((d.set R.IMG_PART_STAT_SELF_OK 1 4).set R.IMG_STATUS_TRIAL_PART 4).set R.IMG_PART_STAT_SELF_OK 1 4), ready_of (by decide +kernel), by decide +kernel⟩,
   ⟨dq 0x10 7 [4], 4, 1, ex fun d => hand (dq 0x10 7 [4]) (d.set R.IMG_STATUS_TRIAL_PART 4), ready_of (by decide +kernel), by decide +kernel⟩,
   ⟨dq 0x10 7 [4], 4, 1, ex fun d => hand (dq 0x10 7 [4]) (d.set R.IMG_STATUS_TRIAL_PART 4), ready_of (by decide +kernel), by decide +kernel⟩,
   ⟨5, 4, 1, ex fun d => ({ d with img := { d.img with trialAt := some 5 } } : Dev).set R.IMG_STATUS_TRIAL_PART 4, by decide +kernel⟩,
   ⟨5, 4, 1, ex fun d => ({ d with img := { d.img with trialAt := some 5 } } : Dev).set R.IMG_STATUS_TRIAL_PART 4, by decide +kernel⟩,
   ⟨0, ex fun d => ({ d with img := { d.img with trialAt := some 0 } } : Dev).set R.IMG_STATUS_TRIAL_PART 1, by decide +kernel⟩,
   ⟨256, ex fun d => d, by decide +kernel⟩,
   ⟨0, ex fun d => d, by decide +kernel⟩,
   ⟨4, container 4, some (container 4), ex fun d => (({ d with img := { d.img with recov := some 4 } } : Dev).set R.IMG_CFG_KEY_SLOT 9).fillSlot 9 { size := 1, usage := 0, mask := 2, nv := true } (List.replicate 32 7), by decide +kernel⟩,
   ⟨4, none, ex fun d => ({ d with img := { d.img with recov := some 4 } } : Dev), not_good (c := 1) (by decide +kernel), by decide +kernel⟩⟩

/-- The hypotheses of every clause of `PairStarts` can be met. -/
theorem test_PairStarts_met :
    (∃ (s : State), s.dev.runs .bar = true ∧ s.dev.pair.helloSf ≠ s.dev.sfn + 1 ∧ s.dev.get R.PAIR_STATUS_LINK ≠ 0 ∧ s.dev.dbKey.isSome = true) ∧
    (∃ (s : State), s.dev.pair.helloSf = s.dev.sfn + 1) ∧
    (∃ (f : List Byte) (e : Dev) (s : State), s.dev.runs .bar = true ∧ s.dev.dbRecv f 1 = (.no, e)) ∧
    (∃ (f : List Byte) (e : Dev) (s : State), s.dev.runs .bar = true ∧ s.dev.dbRecv f 1 = (.forged, e) ∧ e.pair.hello = true) ∧
    (∃ (f : List Byte) (e : Dev) (s : State), s.dev.runs .bar = true ∧ s.dev.dbRecv f 1 = (.forged, e) ∧ e.pair.hello = false) ∧
    (∃ (f : List Byte) (e : Dev) (s : State), s.dev.runs .bar = true ∧ s.dev.dbRecv f 1 = (.alien, e)) ∧
    (∃ (f : List Byte) (b : List Byte) (e : Dev) (s : State), s.dev.runs .bar = true ∧ s.dev.dbRecv f 1 = (.body b, e) ∧ fld f 2 2 % 1024 = e.id) ∧
    (∃ (f : List Byte) (b : List Byte) (e : Dev) (s : State), s.dev.runs .bar = true ∧ s.dev.dbRecv f 1 = (.body b, e) ∧ fld f 2 2 % 1024 ≠ e.id) ∧
    (∃ (f : List Byte) (b : List Byte) (e : Dev) (s : State), s.dev.runs .bar = true ∧ s.dev.dbRecv f 1 = (.body b, e) ∧ fld f 2 2 % 1024 ≠ e.id ∧ e.get R.PAIR_STATUS_ROLE = 0 ∧ e.pair.started.isSome = true ∧ e.pair.sw = none ∧ e.get R.PAIR_STATUS_LINK ≠ 0 ∧ e.pair.helloSent = true ∧ e.pair.theta = true ∧ 1 ≤ e.get R.TIME_STATUS_SRC ∧ e.get R.TIME_STATUS_SRC ≤ 3 ∧ fld b 0 1 = 1 ∧ Dev.pairCompat { e with pair := { e.pair with acc := (b.drop 4).take 100 } } = true) ∧
    (∃ (k : Nat) (s : State), k < 2 ∧ s.dev.runs .bar = true ∧ s.dev.pair.lanes = []) ∧
    (∃ (k : Nat) (s : State), k < 2 ∧ s.dev.runs .bar = true ∧ s.dev.pair.lanes = [] ∧ s.dev.dbKey.isSome = true) ∧
    (∃ (k : Nat) (j : Nat) (s : State), k < 2 ∧ s.dev.runs .bar = true ∧ s.dev.pair.lanes = [j] ∧ j ≠ k) ∧
    (∃ (k : Nat) (s : State), s.dev.runs .bar = true ∧ s.dev.pair.lanes = [k]) ∧
    (∃ (k : Nat) (j : Nat) (s : State), s.dev.runs .bar = true ∧ (s.dev.pair.lanes = [k, j] ∨ s.dev.pair.lanes = [j, k]) ∧ j ≠ k) ∧
    (∃ (b : Bool) (s : State), b ≠ s.dev.pair.present ∧ s.dev.powered = true) ∧
    (∃ (b : Bool) (s : State), s.dev.powered = false) ∧
    (∃ (s : State), s.dev.runs .safe = true ∧ s.dev.paired = true) ∧
    (∃ (y : Bool) (s : State), s.dev.runs .bar = true ∧ s.dev.mayStart = true ∧ s.dev.pair.claimAt = none ∧ (y = true ∨ s.dev.pair.role = 1)) ∧
    (∃ (s : State), s.dev.runs .bar = true ∧ s.dev.mayStart = true ∧ s.dev.pair.claimAt = none ∧ s.dev.pair.role ≠ 1 ∧ s.dev.dbKey.isSome = true) ∧
    (∃ (t0 : Nat) (s : State), s.dev.runs .safe = true ∧ s.dev.pair.claimAt = some t0) ∧
    (∃ (t0 : Nat) (s : State), s.dev.runs .safe = true ∧ s.dev.pair.claimAt = some t0) ∧
    (∃ (f : List Byte) (b : List Byte) (e : Dev) (s : State), s.dev.runs .bar = true ∧ s.dev.dbTake f 7 = (some b, e) ∧ s.dev.pair.claimAt.isSome = true ∧ fld f 2 2 % 1024 < s.dev.id) ∧
    (∃ (f : List Byte) (b : List Byte) (e : Dev) (s : State), s.dev.runs .bar = true ∧ s.dev.dbTake f 7 = (some b, e) ∧ (s.dev.pair.claimAt = none ∨ s.dev.id ≤ fld f 2 2 % 1024)) ∧
    (∃ (y : Bool) (t0 : Nat) (s : State), s.dev.runs .safe = true ∧ s.dev.pair.started = some t0 ∧ s.dev.get R.PAIR_CFG_SOLO_T ≠ 0 ∧ s.dev.paired = true ∧ s.dev.get R.PAIR_STATUS_ROLE = 0 ∧ s.dev.synced = false ∧ 1 ≤ s.dev.get R.TIME_STATUS_SRC ∧ s.dev.get R.TIME_STATUS_SRC ≤ 3 ∧ s.dev.rad.cellBcn = 0) ∧
    (∃ (t0 : Nat) (s : State), s.dev.runs .safe = true ∧ s.dev.pair.started = some t0 ∧ s.dev.get R.PAIR_CFG_SOLO_T ≠ 0 ∧ s.dev.paired = true ∧ s.dev.get R.PAIR_STATUS_ROLE = 0 ∧ s.dev.synced = false ∧ 1 ≤ s.dev.get R.TIME_STATUS_SRC ∧ s.dev.get R.TIME_STATUS_SRC ≤ 3 ∧ s.dev.rad.cellBcn = 0) ∧
    (∃ (t0 : Nat) (s : State), s.dev.runs .safe = true ∧ s.dev.pair.started = some t0 ∧ s.dev.get R.PAIR_CFG_SOLO_T ≠ 0 ∧ s.dev.paired = true ∧ s.dev.get R.PAIR_STATUS_ROLE = 0 ∧ s.dev.synced = false ∧ 1 ≤ s.dev.get R.TIME_STATUS_SRC ∧ s.dev.get R.TIME_STATUS_SRC ≤ 3 ∧ s.dev.rad.cellBcn = 0) ∧
    (∃ (y : Bool) (s : State), s.dev.get R.PAIR_CFG_SOLO_T = 0) :=
  ⟨⟨ex fun d => ((d.set R.PAIR_STATUS_PAIRED 1).set R.PAIR_STATUS_LINK 1).set R.PAIR_STATUS_LINK 1, by decide +kernel⟩,
   ⟨ex fun d => ({ d with pair := { d.pair with helloSf := 4 } } : Dev), by decide +kernel⟩,
   ⟨[], ((ex fun d => ((d.set R.PAIR_STATUS_PAIRED 1).set R.PAIR_STATUS_PAIRED 1).set R.PAIR_STATUS_LINK 2).dev.dbRecv (([])) 1).2, ex fun d => ((d.set R.PAIR_STATUS_PAIRED 1).set R.PAIR_STATUS_PAIRED 1).set R.PAIR_STATUS_LINK 2, by decide +kernel⟩,
   ⟨(dbFr 1 0 0 0 (zeros 104)).take 32 ++ zeros 120, ((ex fun d => ((({ d with pair := { d.pair with hello := true } } : Dev).set R.PAIR_STATUS_PAIRED 1).set R.PAIR_STATUS_PAIRED 1).set R.PAIR_STATUS_LINK 2).dev.dbRecv (((dbFr 1 0 0 0 (zeros 104)).take 32 ++ zeros 120)) 1).2, ex fun d => ((({ d with pair := { d.pair with hello := true } } : Dev).set R.PAIR_STATUS_PAIRED 1).set R.PAIR_STATUS_PAIRED 1).set R.PAIR_STATUS_LINK 2, by decide +kernel⟩,
   ⟨(dbFr 1 0 0 0 (zeros 104)).take 32 ++ zeros 120, ((ex fun d => ((d.set R.PAIR_STATUS_PAIRED 1).set R.PAIR_STATUS_PAIRED 1).set R.PAIR_STATUS_LINK 2).dev.dbRecv (((dbFr 1 0 0 0 (zeros 104)).take 32 ++ zeros 120)) 1).2, ex fun d => ((d.set R.PAIR_STATUS_PAIRED 1).set R.PAIR_STATUS_PAIRED 1).set R.PAIR_STATUS_LINK 2, by decide +kernel⟩,
   ⟨dbFr 1 0 0 0 (zeros 104), ((ex fun d => (((d.set R.PAIR_STATUS_PAIRED 1).set R.PAIR_STATUS_PAIRED 1).set R.PAIR_STATUS_LINK 2).set R.RAD_CELL_CFG_CELL 9).dev.dbRecv ((dbFr 1 0 0 0 (zeros 104))) 1).2, ex fun d => (((d.set R.PAIR_STATUS_PAIRED 1).set R.PAIR_STATUS_PAIRED 1).set R.PAIR_STATUS_LINK 2).set R.RAD_CELL_CFG_CELL 9, by decide +kernel⟩,
   ⟨dbFr 1 0 0 0 (zeros 104), zeros 104, ((ex fun d => (((d.set R.PAIR_STATUS_PAIRED 1).set R.PAIR_STATUS_PAIRED 1).set R.PAIR_STATUS_LINK 2).set R.ID_DEV_DEV 1).dev.dbRecv ((dbFr 1 0 0 0 (zeros 104))) 1).2, ex fun d => (((d.set R.PAIR_STATUS_PAIRED 1).set R.PAIR_STATUS_PAIRED 1).set R.PAIR_STATUS_LINK 2).set R.ID_DEV_DEV 1, by decide +kernel⟩,
   ⟨dbFr 1 0 0 0 (zeros 104), zeros 104, ((ex fun d => ((d.set R.PAIR_STATUS_PAIRED 1).set R.PAIR_STATUS_PAIRED 1).set R.PAIR_STATUS_LINK 2).dev.dbRecv ((dbFr 1 0 0 0 (zeros 104))) 1).2, ex fun d => ((d.set R.PAIR_STATUS_PAIRED 1).set R.PAIR_STATUS_PAIRED 1).set R.PAIR_STATUS_LINK 2, by decide +kernel⟩,
   ⟨dbFr 1 0 0 0 (u8 1 ++ zeros 103), u8 1 ++ zeros 103, ((ex fun d => (((({ d with pair := { d.pair with started := some 5, helloSent := true, theta := true } } : Dev).set R.PAIR_STATUS_PAIRED 1).set R.PAIR_STATUS_PAIRED 1).set R.PAIR_STATUS_LINK 2).set R.PAIR_STATUS_ROLE 0).dev.dbRecv ((dbFr 1 0 0 0 (u8 1 ++ zeros 103))) 1).2, ex fun d => (((({ d with pair := { d.pair with started := some 5, helloSent := true, theta := true } } : Dev).set R.PAIR_STATUS_PAIRED 1).set R.PAIR_STATUS_PAIRED 1).set R.PAIR_STATUS_LINK 2).set R.PAIR_STATUS_ROLE 0, by decide +kernel⟩,
   ⟨1, ex fun d => d.set R.PAIR_STATUS_PAIRED 1, by decide +kernel⟩,
   ⟨1, ex fun d => d.set R.PAIR_STATUS_PAIRED 1, by decide +kernel⟩,
   ⟨1, 0, ex fun d => ({ d with pair := { d.pair with lanes := [0] } } : Dev).set R.PAIR_STATUS_PAIRED 1, by decide +kernel⟩,
   ⟨0, ex fun d => ({ d with pair := { d.pair with lanes := [0] } } : Dev).set R.PAIR_STATUS_PAIRED 1, by decide +kernel⟩,
   ⟨1, 0, ex fun d => ({ d with pair := { d.pair with lanes := [1, 0] } } : Dev).set R.PAIR_STATUS_PAIRED 1, by decide +kernel⟩,
   ⟨true, ex fun d => d, by decide +kernel⟩,
   ⟨false, ex fun d => ({ d with sys := { d.sys with ran := false } } : Dev), by decide +kernel⟩,
   ⟨ex fun d => d.set R.PAIR_STATUS_PAIRED 1, by decide +kernel⟩,
   ⟨true, ex fun d => (((({ d with pair := { d.pair with started := some 5, hello := true, helloSent := true, theta := true } } : Dev).set R.PAIR_STATUS_PAIRED 1).set R.PAIR_STATUS_PAIRED 1).set R.PAIR_STATUS_ROLE 0).set R.PAIR_STATUS_LINK 2, by decide +kernel⟩,
   ⟨ex fun d => (((({ d with pair := { d.pair with started := some 5, hello := true, helloSent := true, theta := true } } : Dev).set R.PAIR_STATUS_PAIRED 1).set R.PAIR_STATUS_PAIRED 1).set R.PAIR_STATUS_ROLE 0).set R.PAIR_STATUS_LINK 2, by decide +kernel⟩,
   ⟨0, ex fun d => ({ d with pair := { d.pair with claimAt := some 0 } } : Dev), by decide +kernel⟩,
   ⟨0, ex fun d => ({ d with pair := { d.pair with claimAt := some 0 } } : Dev), by decide +kernel⟩,
   ⟨dbFr 7 0 0 0 ([]), [], ((ex fun d => (((({ d with pair := { d.pair with claimAt := some 5 } } : Dev).set R.PAIR_STATUS_PAIRED 1).set R.PAIR_STATUS_PAIRED 1).set R.PAIR_STATUS_LINK 2).set R.ID_DEV_DEV 5).dev.dbTake ((dbFr 7 0 0 0 ([]))) 7).2, ex fun d => (((({ d with pair := { d.pair with claimAt := some 5 } } : Dev).set R.PAIR_STATUS_PAIRED 1).set R.PAIR_STATUS_PAIRED 1).set R.PAIR_STATUS_LINK 2).set R.ID_DEV_DEV 5, by decide +kernel⟩,
   ⟨dbFr 7 0 0 0 ([]), [], ((ex fun d => ((d.set R.PAIR_STATUS_PAIRED 1).set R.PAIR_STATUS_PAIRED 1).set R.PAIR_STATUS_LINK 2).dev.dbTake ((dbFr 7 0 0 0 ([]))) 7).2, ex fun d => ((d.set R.PAIR_STATUS_PAIRED 1).set R.PAIR_STATUS_PAIRED 1).set R.PAIR_STATUS_LINK 2, by decide +kernel⟩,
   ⟨false, 0, ex fun d => (((({ d with pair := { d.pair with started := some 0 }, rad := { d.rad with cellBcn := 0 } } : Dev).set R.PAIR_STATUS_PAIRED 1).set R.PAIR_CFG_SOLO_T 1).set R.PAIR_STATUS_ROLE 0).set R.TIME_STATUS_SRC 1, by decide +kernel⟩,
   ⟨0, ex fun d => (((({ d with pair := { d.pair with started := some 0 }, rad := { d.rad with cellBcn := 0 } } : Dev).set R.PAIR_STATUS_PAIRED 1).set R.PAIR_CFG_SOLO_T 1).set R.PAIR_STATUS_ROLE 0).set R.TIME_STATUS_SRC 1, by decide +kernel⟩,
   ⟨0, ex fun d => (((({ d with pair := { d.pair with started := some 0 }, rad := { d.rad with cellBcn := 0 } } : Dev).set R.PAIR_STATUS_PAIRED 1).set R.PAIR_CFG_SOLO_T 1).set R.PAIR_STATUS_ROLE 0).set R.TIME_STATUS_SRC 1, by decide +kernel⟩,
   ⟨false, ex fun d => d.set R.PAIR_CFG_SOLO_T 0, by decide +kernel⟩⟩

/-- The hypotheses of every clause of `CopiesAndLease` can be met. -/
theorem test_CopiesAndLease_met :
    (∃ (f : List Byte) (b : List Byte) (e : Dev) (s : State), s.dev.runs .bar = true ∧ s.dev.dbTake f 3 = (some b, e) ∧ e.reins = false ∧ e.get R.PAIR_STATUS_ROLE ≠ 3 ∧ e.pair.rx = none ∧ fld f 12 6 = s.dev.pair.rxFcnt ∧ bitOf (fld f 1 1) 0 = true ∧ e.now ≤ fld b 8 8 + 5 * ms ∧ (bitOf (fld f 1 1) 1 = true ∨ e.pair.held.map (fun h => h.no) = some (fld b 0 4))) ∧
    (∃ (f : List Byte) (b : List Byte) (e : Dev) (s : State), s.dev.runs .bar = true ∧ s.dev.dbTake f 3 = (some b, e) ∧ e.reins = false ∧ e.get R.PAIR_STATUS_ROLE ≠ 3 ∧ e.pair.rx = none ∧ fld f 12 6 = s.dev.pair.rxFcnt ∧ bitOf (fld f 1 1) 0 = true ∧ e.now ≤ fld b 8 8 + 5 * ms ∧ bitOf (fld f 1 1) 1 = false ∧ e.pair.held.map (fun h => h.no) ≠ some (fld b 0 4)) ∧
    (∃ (x : CopyRx) (s : State), s.dev.runs .bar = true ∧ s.dev.pair.rx = some x) ∧
    (∃ (s : State), s.dev.pair.rx = none) ∧
    (∃ (f : List Byte) (b : List Byte) (e : Dev) (s : State), s.dev.runs .bar = true ∧ s.dev.dbTake f 2 = (some b, e) ∧ e.reins = false ∧ e.get R.PAIR_STATUS_ROLE ≠ 3) ∧
    (∃ (f : List Byte) (b : List Byte) (t3 : Nat) (th : Int) (e : Dev) (s : State), s.dev.runs .bar = true ∧ s.dev.dbTake f 2 = (some b, e) ∧ e.reins = false ∧ e.get R.PAIR_STATUS_ROLE ≠ 3 ∧ e.pair.t3 = some t3 ∧ fld b 12 8 ≠ 0 ∧ th = Int.tdiv (((e.pair.t2 : Int) - e.pair.t1) - ((fld b 12 8 : Nat) - (t3 : Int))) 2 ∧ th.natAbs < 2 ^ 31) ∧
    (∃ (f : List Byte) (b : List Byte) (e : Dev) (s : State), s.dev.runs .bar = true ∧ s.dev.dbTake f 4 = (some b, e) ∧ e.reins = true) ∧
    (∃ (f : List Byte) (b : List Byte) (e : Dev) (s : State), s.dev.runs .bar = true ∧ s.dev.dbTake f 4 = (some b, e) ∧ e.reins = true ∧ fld b 8 1 = 1) ∧
    (∃ (f : List Byte) (b : List Byte) (e : Dev) (s : State), s.dev.runs .bar = true ∧ s.dev.dbTake f 4 = (some b, e) ∧ e.reins = true ∧ fld b 8 1 = 0 ∧ e.get R.PAIR_ACKED_COPY_NO ≤ fld f 20 4 ∧ fld f 20 4 ≤ e.get R.PAIR_COPY_COPY_NO) ∧
    (∃ (f : List Byte) (b : List Byte) (e : Dev) (s : State), s.dev.runs .bar = true ∧ s.dev.dbTake f 4 = (some b, e) ∧ e.reins = true ∧ fld b 8 1 ≠ 0) ∧
    (∃ (f : List Byte) (b : List Byte) (e : Dev) (s : State), s.dev.runs .bar = true ∧ s.dev.dbTake f 6 = (some b, e) ∧ e.reins = false ∧ e.get R.PAIR_STATUS_ROLE ≠ 3) :=
  ⟨⟨dbFr 3 3 9 0 (u32 0 ++ zeros 4 ++ u64 (3 * superframe)), u32 0 ++ zeros 4 ++ u64 (3 * superframe), ((ex fun d => (((d.set R.PAIR_STATUS_PAIRED 1).set R.PAIR_STATUS_PAIRED 1).set R.PAIR_STATUS_LINK 2).set R.PAIR_STATUS_ROLE 2).dev.dbTake ((dbFr 3 3 9 0 (u32 0 ++ zeros 4 ++ u64 (3 * superframe)))) 3).2, ex fun d => (((d.set R.PAIR_STATUS_PAIRED 1).set R.PAIR_STATUS_PAIRED 1).set R.PAIR_STATUS_LINK 2).set R.PAIR_STATUS_ROLE 2, by decide +kernel⟩,
   ⟨dbFr 3 1 9 0 (u32 4 ++ zeros 4 ++ u64 (3 * superframe)), u32 4 ++ zeros 4 ++ u64 (3 * superframe), ((ex fun d => (((d.set R.PAIR_STATUS_PAIRED 1).set R.PAIR_STATUS_PAIRED 1).set R.PAIR_STATUS_LINK 2).set R.PAIR_STATUS_ROLE 2).dev.dbTake ((dbFr 3 1 9 0 (u32 4 ++ zeros 4 ++ u64 (3 * superframe)))) 3).2, ex fun d => (((d.set R.PAIR_STATUS_PAIRED 1).set R.PAIR_STATUS_PAIRED 1).set R.PAIR_STATUS_LINK 2).set R.PAIR_STATUS_ROLE 2, by decide +kernel⟩,
   ⟨{}, ex fun d => ({ d with pair := { d.pair with rx := some ({}) } } : Dev).set R.PAIR_STATUS_PAIRED 1, by decide +kernel⟩,
   ⟨ex fun d => d, by decide +kernel⟩,
   ⟨dbFr 2 0 0 0 (zeros 20), zeros 20, ((ex fun d => (((d.set R.PAIR_STATUS_PAIRED 1).set R.PAIR_STATUS_PAIRED 1).set R.PAIR_STATUS_LINK 2).set R.PAIR_STATUS_ROLE 2).dev.dbTake ((dbFr 2 0 0 0 (zeros 20))) 2).2, ex fun d => (((d.set R.PAIR_STATUS_PAIRED 1).set R.PAIR_STATUS_PAIRED 1).set R.PAIR_STATUS_LINK 2).set R.PAIR_STATUS_ROLE 2, by decide +kernel⟩,
   ⟨dbFr 2 0 0 0 (zeros 12 ++ u64 7), zeros 12 ++ u64 7, 5, -1, ((ex fun d => (((({ d with pair := { d.pair with t3 := some 5 } } : Dev).set R.PAIR_STATUS_PAIRED 1).set R.PAIR_STATUS_PAIRED 1).set R.PAIR_STATUS_LINK 2).set R.PAIR_STATUS_ROLE 2).dev.dbTake ((dbFr 2 0 0 0 (zeros 12 ++ u64 7))) 2).2, ex fun d => (((({ d with pair := { d.pair with t3 := some 5 } } : Dev).set R.PAIR_STATUS_PAIRED 1).set R.PAIR_STATUS_PAIRED 1).set R.PAIR_STATUS_LINK 2).set R.PAIR_STATUS_ROLE 2, by decide +kernel⟩,
   ⟨dbFr 4 0 0 0 (zeros 16), zeros 16, ((ex fun d => ((d.set R.PAIR_STATUS_PAIRED 1).set R.PAIR_STATUS_PAIRED 1).set R.PAIR_STATUS_LINK 2).dev.dbTake ((dbFr 4 0 0 0 (zeros 16))) 4).2, ex fun d => ((d.set R.PAIR_STATUS_PAIRED 1).set R.PAIR_STATUS_PAIRED 1).set R.PAIR_STATUS_LINK 2, by decide +kernel⟩,
   ⟨dbFr 4 0 0 0 (u64 0 ++ u8 1 ++ zeros 7), u64 0 ++ u8 1 ++ zeros 7, ((ex fun d => ((d.set R.PAIR_STATUS_PAIRED 1).set R.PAIR_STATUS_PAIRED 1).set R.PAIR_STATUS_LINK 2).dev.dbTake ((dbFr 4 0 0 0 (u64 0 ++ u8 1 ++ zeros 7))) 4).2, ex fun d => ((d.set R.PAIR_STATUS_PAIRED 1).set R.PAIR_STATUS_PAIRED 1).set R.PAIR_STATUS_LINK 2, by decide +kernel⟩,
   ⟨dbFr 4 0 0 0 (zeros 16), zeros 16, ((ex fun d => ((d.set R.PAIR_STATUS_PAIRED 1).set R.PAIR_STATUS_PAIRED 1).set R.PAIR_STATUS_LINK 2).dev.dbTake ((dbFr 4 0 0 0 (zeros 16))) 4).2, ex fun d => ((d.set R.PAIR_STATUS_PAIRED 1).set R.PAIR_STATUS_PAIRED 1).set R.PAIR_STATUS_LINK 2, by decide +kernel⟩,
   ⟨dbFr 4 0 0 0 (u64 0 ++ u8 2 ++ zeros 7), u64 0 ++ u8 2 ++ zeros 7, ((ex fun d => ((d.set R.PAIR_STATUS_PAIRED 1).set R.PAIR_STATUS_PAIRED 1).set R.PAIR_STATUS_LINK 2).dev.dbTake ((dbFr 4 0 0 0 (u64 0 ++ u8 2 ++ zeros 7))) 4).2, ex fun d => ((d.set R.PAIR_STATUS_PAIRED 1).set R.PAIR_STATUS_PAIRED 1).set R.PAIR_STATUS_LINK 2, by decide +kernel⟩,
   ⟨dbFr 6 0 0 0 (u64 9 ++ zeros 8), u64 9 ++ zeros 8, ((ex fun d => (((d.set R.PAIR_STATUS_PAIRED 1).set R.PAIR_STATUS_PAIRED 1).set R.PAIR_STATUS_LINK 2).set R.PAIR_STATUS_ROLE 2).dev.dbTake ((dbFr 6 0 0 0 (u64 9 ++ zeros 8))) 6).2, ex fun d => (((d.set R.PAIR_STATUS_PAIRED 1).set R.PAIR_STATUS_PAIRED 1).set R.PAIR_STATUS_LINK 2).set R.PAIR_STATUS_ROLE 2, by decide +kernel⟩⟩

/-- The hypotheses of every clause of `ReinsChangeHands` can be met. -/
theorem test_ReinsChangeHands_met :
    (∃ (t0 : Nat) (s : State), s.dev.runs .safe = true ∧ s.dev.pair.lease = some t0 ∧ s.dev.paired = true ∧ s.dev.reins = true) ∧
    (∃ (s : State), (s.dev.paired = false ∨ s.dev.reins = false ∨ s.dev.pair.lease = none)) ∧
    (∃ (s : State), s.dev.runs .safe = true ∧ s.dev.get R.PAIR_STATUS_ROLE = 3) ∧
    (∃ (s : State), s.dev.get R.PAIR_STATUS_ROLE ≠ 3) ∧
    (∃ (t0 : Nat) (s : State), s.dev.runs .safe = true ∧ s.dev.pair.leaseAt = some t0 ∧ s.dev.get R.PAIR_STATUS_ROLE = 2) ∧
    (∃ (t0 : Nat) (s : State), s.dev.runs .safe = true ∧ s.dev.pair.leaseAt = some t0 ∧ s.dev.get R.PAIR_STATUS_ROLE = 2) ∧
    (∃ (y : Bool) (s : State), (s.dev.pair.leaseAt = none ∨ s.dev.get R.PAIR_STATUS_ROLE ≠ 2)) ∧
    (∃ (t0 : Nat) (s : State), s.dev.runs .safe = true ∧ s.dev.pair.leaseAt = some t0 ∧ s.dev.get R.PAIR_STATUS_ROLE = 2 ∧ s.dev.pair.expired = true ∧ s.dev.on R.PAIR_STATUS_YOKE = true ∧ s.dev.pair.lapsed = true) ∧
    (∃ (s : State), s.dev.runs .safe = true ∧ s.dev.timeGoes = true ∧ s.dev.get R.PAIR_STATUS_ROLE = 2 ∧ s.dev.pair.expired = true ∧ s.dev.on R.PAIR_STATUS_YOKE = true ∧ s.dev.pair.lapsed = false) ∧
    (∃ (s : State), s.dev.pair.expired = false) ∧
    (∃ (f : List Byte) (b : List Byte) (e : Dev) (s : State), s.dev.runs .bar = true ∧ s.dev.get R.PAIR_STATUS_ROLE = 2 ∧ s.dev.dbTake f 5 = (some b, e)) ∧
    (∃ (q : Desc) (s : State), Ready 0x11 1 q s.dev ∧ resvOk q.area [(0, 1)] = true ∧ s.dev.partnerReady = true ∧ s.dev.get R.IMG_STATUS_TRIAL_PART = 7 ∧ s.dev.pair.sw = none) ∧
    (∃ (q : Desc) (s : State), Ready 0x11 1 q s.dev ∧ resvOk q.area [(0, 1)] = true ∧ s.dev.reins = false) ∧
    (∃ (q : Desc) (s : State), Ready 0x11 1 q s.dev ∧ resvOk q.area [(0, 1)] = true ∧ s.dev.reins = true ∧ (s.dev.partnerReady = false ∨ s.dev.get R.IMG_STATUS_TRIAL_PART ≠ 7 ∨ s.dev.pair.sw.isSome = true)) ∧
    (∃ (q : Option Desc) (s : State), s.dev.runs .safe = true ∧ s.dev.timeGoes = true ∧ s.dev.pair.sw = some (q, none) ∧ s.dev.reins = true) ∧
    (∃ (q : Option Desc) (t0 : Nat) (s : State), s.dev.runs .safe = true ∧ s.dev.pair.sw = some (q, some t0)) ∧
    (∃ (q : Option Desc) (t0 : Nat) (s : State), s.dev.runs .safe = true ∧ s.dev.pair.sw = some (q, some t0)) ∧
    (∃ (x : Desc) (t0 : Nat) (s : State), Awaits x s.dev ∧ s.dev.runs .safe = true ∧ s.dev.pair.sw = some (some x, some t0)) ∧
    (∃ (f : List Byte) (b : List Byte) (q : Option Desc) (t0 : Nat) (e : Dev) (s : State), s.dev.runs .bar = true ∧ s.dev.pair.sw = some (q, some t0) ∧ s.dev.dbTake f 9 = (some b, e)) ∧
    (∃ (f : List Byte) (b : List Byte) (x : Desc) (t0 : Nat) (e : Dev) (s : State), Awaits x s.dev ∧ s.dev.runs .bar = true ∧ s.dev.pair.sw = some (some x, some t0) ∧ s.dev.dbTake f 9 = (some b, e) ∧ s.dev.taking.all (fun y => y.no != x.no) = true) ∧
    (∃ (f : List Byte) (b : List Byte) (e : Dev) (s : State), s.dev.runs .bar = true ∧ s.dev.pair.sw = none ∧ s.dev.get R.PAIR_STATUS_ROLE = 3 ∧ s.dev.dbTake f 9 = (some b, e)) :=
  ⟨⟨0, ex fun d => ({ d with pair := { d.pair with lease := some 0 } } : Dev).set R.PAIR_STATUS_PAIRED 1, by decide +kernel⟩,
   ⟨ex fun d => d, by decide +kernel⟩,
   ⟨ex fun d => d.set R.PAIR_STATUS_ROLE 3, by decide +kernel⟩,
   ⟨ex fun d => d.set R.PAIR_STATUS_ROLE 0, by decide +kernel⟩,
   ⟨0, ex fun d => ({ d with pair := { d.pair with leaseAt := some 0 } } : Dev).set R.PAIR_STATUS_ROLE 2, by decide +kernel⟩,
   ⟨0, ex fun d => ({ d with pair := { d.pair with leaseAt := some 0 } } : Dev).set R.PAIR_STATUS_ROLE 2, by decide +kernel⟩,
   ⟨false, ex fun d => d, by decide +kernel⟩,
   ⟨0, ex fun d => (({ d with pair := { d.pair with leaseAt := some 0, expired := true, lapsed := true } } : Dev).set R.PAIR_STATUS_YOKE 1).set R.PAIR_STATUS_ROLE 2, by decide +kernel⟩,
   ⟨ex fun d => (({ d with pair := { d.pair with expired := true } } : Dev).set R.PAIR_STATUS_YOKE 1).set R.PAIR_STATUS_ROLE 2, by decide +kernel⟩,
   ⟨ex fun d => d, by decide +kernel⟩,
   ⟨dbFr 5 0 0 0 (u64 9 ++ zeros 8), u64 9 ++ zeros 8, ((ex fun d => (((d.set R.PAIR_STATUS_PAIRED 1).set R.PAIR_STATUS_ROLE 2).set R.PAIR_STATUS_PAIRED 1).set R.PAIR_STATUS_LINK 2).dev.dbTake ((dbFr 5 0 0 0 (u64 9 ++ zeros 8))) 5).2, ex fun d => (((d.set R.PAIR_STATUS_PAIRED 1).set R.PAIR_STATUS_ROLE 2).set R.PAIR_STATUS_PAIRED 1).set R.PAIR_STATUS_LINK 2, by decide +kernel⟩,
   ⟨dq 0x11 1 [], ex fun d => hand (dq 0x11 1 []) (((d.set R.IMG_STATUS_TRIAL_PART 7).set R.PAIR_STATUS_PAIRED 1).set R.PAIR_STATUS_PARTNER_READY 1), ready_of (by decide +kernel), by decide +kernel⟩,
   ⟨dq 0x11 1 [], ex fun d => hand (dq 0x11 1 []) (d.set R.PAIR_STATUS_ROLE 2), ready_of (by decide +kernel), by decide +kernel⟩,
   ⟨dq 0x11 1 [], ex fun d => hand (dq 0x11 1 []) (d), ready_of (by decide +kernel), by decide +kernel⟩,
   ⟨none, ex fun d => ({ d with pair := { d.pair with sw := some (none, none) } } : Dev), by decide +kernel⟩,
   ⟨none, 0, ex fun d => ({ d with pair := { d.pair with sw := some (none, some 0) } } : Dev), by decide +kernel⟩,
   ⟨none, 0, ex fun d => ({ d with pair := { d.pair with sw := some (none, some 0) } } : Dev), by decide +kernel⟩,
   ⟨dq 0x11 1 [], 5, ex fun d => (({ d with pair := { d.pair with sw := some (some (dq 0x11 1 []), some 5) } } : Dev) |> await (dq 0x11 1 [])), awaits_of (by decide +kernel), by decide +kernel⟩,
   ⟨dbFr 9 0 0 0 (u64 9 ++ zeros 8), u64 9 ++ zeros 8, some (dq 0x11 1 []), 5, ((ex fun d => ((({ d with pair := { d.pair with sw := some ((some (dq 0x11 1 [])), some 5) } } : Dev).set R.PAIR_STATUS_PAIRED 1).set R.PAIR_STATUS_PAIRED 1).set R.PAIR_STATUS_LINK 2).dev.dbTake ((dbFr 9 0 0 0 (u64 9 ++ zeros 8))) 9).2, ex fun d => ((({ d with pair := { d.pair with sw := some ((some (dq 0x11 1 [])), some 5) } } : Dev).set R.PAIR_STATUS_PAIRED 1).set R.PAIR_STATUS_PAIRED 1).set R.PAIR_STATUS_LINK 2, by decide +kernel⟩,
   ⟨dbFr 9 0 0 0 (u64 9 ++ zeros 8), u64 9 ++ zeros 8, dq 0x11 1 [], 5, ((ex fun d => (((({ d with pair := { d.pair with sw := some (some (dq 0x11 1 []), some 5) } } : Dev).set R.PAIR_STATUS_PAIRED 1).set R.PAIR_STATUS_PAIRED 1).set R.PAIR_STATUS_LINK 2 |> await (dq 0x11 1 []))).dev.dbTake ((dbFr 9 0 0 0 (u64 9 ++ zeros 8))) 9).2, ex fun d => (((({ d with pair := { d.pair with sw := some (some (dq 0x11 1 []), some 5) } } : Dev).set R.PAIR_STATUS_PAIRED 1).set R.PAIR_STATUS_PAIRED 1).set R.PAIR_STATUS_LINK 2 |> await (dq 0x11 1 [])), awaits_of (by decide +kernel), by decide +kernel⟩,
   ⟨dbFr 9 0 0 0 (u64 9 ++ zeros 8), u64 9 ++ zeros 8, ((ex fun d => (((d.set R.PAIR_STATUS_PAIRED 1).set R.PAIR_STATUS_ROLE 3).set R.PAIR_STATUS_PAIRED 1).set R.PAIR_STATUS_LINK 2).dev.dbTake ((dbFr 9 0 0 0 (u64 9 ++ zeros 8))) 9).2, ex fun d => (((d.set R.PAIR_STATUS_PAIRED 1).set R.PAIR_STATUS_ROLE 3).set R.PAIR_STATUS_PAIRED 1).set R.PAIR_STATUS_LINK 2, by decide +kernel⟩⟩

end Sys2Proof.Tests
end

section
/-!
PROOFS. Host register writes (R6-R9, R616): which copies stand at an address, what one write does to each of them and to all
others, and what a write of a register that only holds its fields comes to.
-/

namespace Sys2Proof.Machine

/-! ### The copies at an address -/

theorem Fld.key_eq_addr (f : Fld) (i j : Nat) : f.key i j = 32 * f.addr i j + f.lsb := rfl

/-- The copies the map lists at an address are those that lie there. -/
theorem mem_fieldsAt {a i j : Nat} {f : Fld} : (f, i, j) ∈ fieldsAt a ↔ f ∈ regMap ∧ f.has i j = true ∧ f.addr i j = a := by
  simp only [fieldsAt, List.mem_filterMap]
  constructor
  · rintro ⟨g, hg, e⟩
    split at e
    · next hb =>
      split at e
      · next hc =>
        cases e
        simp only [Bool.and_eq_true, decide_eq_true_eq, beq_iff_eq] at hc
        obtain ⟨⟨hi, hj⟩, h0⟩ := hc
        have h1 := Nat.div_add_mod (a - f.base) f.s1
        have h2 := Nat.div_add_mod ((a - f.base) % f.s1) f.s2
        exact ⟨hg, by simp [Fld.has, hi, hj], by simp only [Fld.addr]; omega⟩
      · cases e
    · cases e
  · rintro ⟨hf, hij, rfl⟩
    refine ⟨f, hf, ?_⟩
    have hin := List.all_eq_true.1 regMap_inner f hf
    simp only [Fld.inner, Bool.and_eq_true, decide_eq_true_eq] at hin
    obtain ⟨⟨h2, h1⟩, -⟩ := hin
    simp only [Fld.has, Bool.and_eq_true, decide_eq_true_eq] at hij
    have hj : f.s2 * j ≤ f.s2 * (f.n2 - 1) := Nat.mul_le_mul_left _ (by omega)
    have ho : f.addr i j - f.base = f.s1 * i + f.s2 * j := by simp only [Fld.addr]; omega
    have hd : (f.s1 * i + f.s2 * j) / f.s1 = i := by
      rw [Nat.mul_add_div (by omega), Nat.div_eq_of_lt (by omega), Nat.add_zero]
    have hm : (f.s1 * i + f.s2 * j) % f.s1 = f.s2 * j := by
      rw [Nat.mul_add_mod, Nat.mod_eq_of_lt (by omega)]
    rw [if_pos (show f.base ≤ f.addr i j by simp only [Fld.addr]; omega)]
    simp only [ho, hd, hm, Nat.mul_div_cancel_left j h2, Nat.mul_mod_right]
    simp [hij]

/-- A field's register, as the field that starts at its lowest bit. -/
def Fld.atBit0 (f : Fld) : Fld := { f with lsb := 0 }

theorem regMap_registers_apart : (List.range 0x15).all (fun b =>
    (regMap.filter fun f => f.block == b).all fun f =>
      (regMap.filter fun f => f.block == b).all fun g => f.base == g.base || f.atBit0.apart g.atBit0) = true := by
  decide +kernel

theorem regMap_aligned : regMap.all (fun f => f.base % 4 == 0 && f.s1 % 4 == 0 && f.s2 % 4 == 0) = true := by decide +kernel

theorem Fld.block_eq_addr_div {f : Fld} (hf : f ∈ regMap) {i j : Nat} (a : f.has i j = true) : f.block = f.addr i j / 0x10000 := by
  have hb := f.block_of_key i j a (List.all_eq_true.1 regMap_tight f hf)
  have hl := regMap_lsb hf
  rw [f.key_eq_addr] at hb
  omega

/-- Copies at one address belong to one register, so their fields start at one base. -/
theorem base_eq_of_addr_eq {f g : Fld} (hf : f ∈ regMap) (hg : g ∈ regMap) {i j k l : Nat} (a : f.has i j = true) (b : g.has k l = true)
    (e : f.addr i j = g.addr k l) : f.base = g.base := by
  have hblock : f.block = g.block := by rw [Fld.block_eq_addr_div hf a, Fld.block_eq_addr_div hg b, e]
  have hlt : f.block < 0x15 := by simpa using List.all_eq_true.1 regMap_block f hf
  have hall := List.all_eq_true.1 regMap_registers_apart f.block (List.mem_range.2 hlt)
  have hpair := List.all_eq_true.1 (List.all_eq_true.1 hall f (List.mem_filter.2 ⟨hf, by simp⟩)) g (List.mem_filter.2 ⟨hg, by simp [hblock]⟩)
  rcases (Bool.or_eq_true _ _).mp hpair with h | h
  · exact beq_iff_eq.1 h
  · have hkey : 32 * f.addr i j ≠ 32 * g.addr k l :=
      Fld.key_ne_of_apart h (by decide : 0 < 32) (by decide : 0 < 32) (i := i) (j := j) (i' := k) (j' := l) a b
    exact absurd (by rw [e]) hkey

theorem addr_mod_four {f : Fld} (hf : f ∈ regMap) (i j : Nat) : f.addr i j % 4 = 0 := by
  have h := List.all_eq_true.1 regMap_aligned f hf
  simp only [Bool.and_eq_true, beq_iff_eq] at h
  obtain ⟨⟨hb, h1⟩, h2⟩ := h
  simp [Fld.addr, Nat.add_mod, Nat.mul_mod, hb, h1, h2]

theorem key_ne_of_addr_ne {f g : Fld} (hf : f ∈ regMap) (hg : g ∈ regMap) {i j k l : Nat} (h : f.addr i j ≠ g.addr k l) :
    f.key i j ≠ g.key k l := by
  have h1 := regMap_lsb hf
  have h2 := regMap_lsb hg
  rw [f.key_eq_addr, g.key_eq_addr]
  omega

/-- Two listed copies that are not the same have different keys. -/
theorem key_ne_of_copy_ne {f g : Fld} (hf : f ∈ regMap) (hg : g ∈ regMap) {i j k l : Nat} (a : f.has i j = true) (b : g.has k l = true)
    (n : (g, k, l) ≠ (f, i, j)) : f.key i j ≠ g.key k l := by
  by_cases e : f = g
  · subst e
    intro hk
    obtain ⟨rfl, rfl⟩ := Fld.key_inj_of_inner (List.all_eq_true.1 regMap_inner f hf) a b hk
    exact n rfl
  · exact regMap_key_ne hf hg e a b

/-! ### One field's write (R7-R9) -/

theorem writeField_rw_listed (d : Dev) {f : Fld} {i j v : Nat} (h : f.acc = .rw) (l : f.lists i (bits v f.lsb f.width) = true) :
    d.writeField f i j v = d.set f (Nat.land (bits v f.lsb f.width) (f.named i j)) i j := by
  simp [Dev.writeField, h, l]

theorem writeField_rw_unlisted (d : Dev) {f : Fld} {i j v : Nat} (h : f.acc = .rw) (l : f.lists i (bits v f.lsb f.width) = false) :
    d.writeField f i j v = d := by
  simp [Dev.writeField, h, l]

theorem writeField_ro (d : Dev) {f : Fld} {i j v : Nat} (h : f.acc = .ro) : d.writeField f i j v = d := by
  simp [Dev.writeField, h]

/-- The three things a field's write can come to: nothing, its copy set, or its copy set and the block's interrupt bit dropped. -/
theorem writeField_cases (d : Dev) (f : Fld) (i j v : Nat) : d.writeField f i j v = d ∨
    ∃ x, d.writeField f i j v = d.set f x i j ∨ d.writeField f i j v = (d.set f x i j).dropIrq f.block := by
  unfold Dev.writeField
  dsimp only
  split
  · split
    · exact .inr ⟨_, .inl rfl⟩
    · exact .inl rfl
  · exact .inl rfl
  · exact .inr ⟨_, .inr rfl⟩
  · exact .inl rfl
  · split
    · exact .inr ⟨_, .inl rfl⟩
    · exact .inl rfl

/-- A value cut to a field's width and less its reserved bits still fits the field. -/
theorem land_bits_lt (v lo w m : Nat) : Nat.land (bits v lo w) m < 2 ^ w :=
  Nat.lt_of_le_of_lt Nat.and_le_left (Nat.mod_lt _ (Nat.two_pow_pos w))

theorem get_writeField_listed (d : Dev) {f : Fld} {i j v : Nat} (a : f.has i j = true) (h : f.acc = .rw)
    (l : f.lists i (bits v f.lsb f.width) = true) :
    (d.writeField f i j v).get f i j = Nat.land (bits v f.lsb f.width) (f.named i j) := by
  rw [writeField_rw_listed d h l, Dev.get_set_self _ _ _ _ _ a, Nat.mod_eq_of_lt (land_bits_lt _ _ _ _)]

/-- Dropping a block's bit of RING_DEV_IRQ changes no other field. -/
theorem get_dropIrq (d : Dev) (b : Nat) {h : Fld} (hh : h ∈ regMap) (n : h ≠ R.RING_DEV_IRQ_BLOCK) (k l : Nat) :
    (d.dropIrq b).get h k l = d.get h k l := by
  unfold Dev.dropIrq
  split
  · exact Dev.get_set_fld d hh (mem_regMap (by decide +kernel)) n _ _ _ _ _
  · rfl

theorem get_writeField_of_key_ne (d : Dev) {f h : Fld} (hh : h ∈ regMap) (n : h ≠ R.RING_DEV_IRQ_BLOCK) {i j k l : Nat}
    (hk : h.key k l ≠ f.key i j) (v : Nat) : (d.writeField f i j v).get h k l = d.get h k l := by
  rcases writeField_cases d f i j v with e | ⟨x, e | e⟩
  · rw [e]
  · rw [e, Dev.get_set_ne d x (.inr hk)]
  · rw [e, get_dropIrq _ _ hh n, Dev.get_set_ne d x (.inr hk)]

theorem dropIrq_eq_regs (d : Dev) (b : Nat) : d.dropIrq b = { d with regs := (d.dropIrq b).regs } := by
  unfold Dev.dropIrq
  split <;> rfl

/-- A field's write touches registers alone. -/
theorem writeField_eq_regs (d : Dev) (f : Fld) (i j v : Nat) : d.writeField f i j v = { d with regs := (d.writeField f i j v).regs } := by
  rcases writeField_cases d f i j v with e | ⟨x, e | e⟩
  · rw [e]
  · rw [e]; rfl
  · rw [e]; exact dropIrq_eq_regs _ _

/-! ### A register's write (R7, R8) -/

theorem writeAddr_eq_regs (d : Dev) (a v : Nat) : d.writeAddr a v = { d with regs := (d.writeAddr a v).regs } := by
  unfold Dev.writeAddr
  refine List.foldlRecOn (motive := fun x : Dev => x = { d with regs := x.regs }) _ _ rfl fun x hx g _ => ?_
  exact (writeField_eq_regs x g.1 g.2.1 g.2.2 v).trans (congrArg (fun y : Dev => { y with regs := (x.writeField g.1 g.2.1 g.2.2 v).regs }) hx)

/-- A register's write leaves every other register, but for the interrupt bits that follow cleared causes. -/
theorem get_writeAddr_of_addr_ne (d : Dev) {h : Fld} (hh : h ∈ regMap) (n : h ≠ R.RING_DEV_IRQ_BLOCK) {k l a : Nat}
    (ha : h.addr k l ≠ a) (v : Nat) : (d.writeAddr a v).get h k l = d.get h k l := by
  unfold Dev.writeAddr
  refine List.foldlRecOn (motive := fun x : Dev => x.get h k l = d.get h k l) _ _ rfl fun x hx g hg => ?_
  obtain ⟨f, i, j⟩ := g
  obtain ⟨hf, -, rfl⟩ := mem_fieldsAt.1 hg
  rw [get_writeField_of_key_ne x hh n (key_ne_of_addr_ne hh hf ha), hx]

/-- A register's write stores a listed value of each RW field in it: the other fields' writes leave that copy. -/
theorem get_writeAddr_listed (d : Dev) {f : Fld} {i j v : Nat} (hf : f ∈ regMap) (a : f.has i j = true) (h : f.acc = .rw)
    (l : f.lists i (bits v f.lsb f.width) = true) :
    (d.writeAddr (f.addr i j) v).get f i j = Nat.land (bits v f.lsb f.width) (f.named i j) := by
  have hmem : (f, i, j) ∈ fieldsAt (f.addr i j) := mem_fieldsAt.2 ⟨hf, a, rfl⟩
  have hirq : f ≠ R.RING_DEV_IRQ_BLOCK := by rintro rfl; exact absurd h (by decide)
  obtain ⟨pre, post, hl⟩ := List.append_of_mem hmem
  unfold Dev.writeAddr
  rw [hl, List.foldl_append, List.foldl_cons]
  refine List.foldlRecOn (motive := fun x : Dev => x.get f i j = Nat.land (bits v f.lsb f.width) (f.named i j)) _ _
    (get_writeField_listed _ a h l) fun x hx q hq => ?_
  by_cases e : q = (f, i, j)
  · subst e
    exact get_writeField_listed x a h l
  · obtain ⟨g, k, m⟩ := q
    obtain ⟨hg, b, -⟩ := mem_fieldsAt.1 (show (g, k, m) ∈ fieldsAt (f.addr i j) by rw [hl]; simp [hq])
    rw [get_writeField_of_key_ne x hf hirq (key_ne_of_copy_ne hf hg a b e), hx]

/-! ### Registers that only hold their fields -/

theorem plainReg_congr {f g : Fld} (e : f.base = g.base) : plainReg f = plainReg g := by
  simp only [plainReg, loopConfig, e]

theorem writable_congr (d : Dev) {f g : Fld} (e : f.base = g.base) : d.writable f = d.writable g := by
  simp only [Dev.writable, Fld.block, e]

theorem regWrite_of_plain (d : Dev) {f : Fld} (p : plainReg f = true) (i j a v : Nat) : d.regWrite f i j a v = d.writeAddr a v := by
  simp only [plainReg, Bool.and_eq_true, Bool.not_eq_true', actingBases, List.cons_append, List.nil_append,
    List.contains_cons, List.contains_nil, Bool.or_eq_false_iff, beq_eq_false_iff_ne, ne_eq] at p
  simp only [Dev.regWrite, p, if_false, Bool.or_self, decide_false, Bool.false_eq_true]

/-- A write that reaches a register which only holds its fields, and is not barred as a copied setting (R616), stores them and
counts as a trial's write of one of them. -/
theorem hostWrite_of_plain (d : Dev) {f : Fld} {i j : Nat} (v : Nat) (hf : f ∈ regMap) (a : f.has i j = true) (h : f.acc = .rw)
    (p : plainReg f = true) (w : d.writable f = true)
    (c : d.paired = false ∨ d.reins = true ∨ ∀ g ∈ fieldsAt (f.addr i j), copiedSetting g.1 = false) :
    ∃ g : Fld, d.hostWrite (f.addr i j) v =
      ((if f.block = R.YRD_CTRL_EN.block then (d.writeAddr (f.addr i j) v).yrdView else d.writeAddr (f.addr i j) v).countTrial g).settle := by
  have hmem : (f, i, j) ∈ fieldsAt (f.addr i j) := mem_fieldsAt.2 ⟨hf, a, rfl⟩
  unfold Dev.hostWrite
  split
  · next f0 i0 j0 rest hl =>
    obtain ⟨hf0, a0, e0⟩ := mem_fieldsAt.1 (show (f0, i0, j0) ∈ fieldsAt (f.addr i j) by simp [hl])
    have hbase : f0.base = f.base := base_eq_of_addr_eq hf0 hf a0 a e0
    have hblock : f0.block = f.block := congrArg (· / 0x10000) hbase
    have hopen : ¬ (!d.writable f0 || (d.paired && !d.reins && copiedSetting f0)) = true := by
      rcases c with c | c | c
      · simp [writable_congr d hbase, w, c]
      · simp [writable_congr d hbase, w, c]
      · simp [writable_congr d hbase, w, c (f0, i0, j0) (by simp [hl])]
    obtain ⟨q, hq⟩ := Option.isSome_iff_exists.1
      (List.find?_isSome.2 ⟨(f, i, j), hl ▸ hmem, by simp [h]⟩ : (((f0, i0, j0) :: rest).find? fun x => x.1.acc == .rw).isSome = true)
    refine ⟨q.1, ?_⟩
    rw [if_neg hopen]
    simp only [hq, regWrite_of_plain d ((plainReg_congr hbase).trans p), hblock]
  · next hl => simp [hl] at hmem

/-- A 32-bit write at the address of such a register is the host's write of that address. -/
theorem exec_registerWrite_of_plain {f : Fld} {i j : Nat} (v : Word32) (s : State) (hf : f ∈ regMap) (a : f.has i j = true)
    (p : plainReg f = true) :
    exec (.registerWrite (f.addr i j) 32 v) s = .next { s with dev := s.dev.hostWrite (f.addr i j) v.toNat } := by
  have hlc : f.addr i j ≠ R.LC_CMD_COMMIT.addr := by
    intro e
    have hbase := base_eq_of_addr_eq hf (mem_regMap (by decide +kernel) : R.LC_CMD_COMMIT ∈ regMap) a (by decide) e
    rw [plainReg_congr hbase] at p
    exact absurd p (by decide)
  simp [exec, execRegisterWrite, addr_mod_four hf, hlc, onDev_next]

/-- A write of another width or off a 4-byte boundary is discarded (R6). -/
theorem exec_registerWrite_discarded {addr w : Nat} (v : Word32) (s : State) (h : w ≠ 32 ∨ addr % 4 ≠ 0) :
    exec (.registerWrite addr w v) s = .next s := by
  have hc : (w != 32 || addr % 4 != 0) = true := by simpa using h
  simp [exec, execRegisterWrite, hc]

/-- Settles O5: a field's write by its access type, and a register's write as the fold of its fields' writes, whose copies are apart. -/
theorem hostWriteByAccessType : Obligations.HostWriteByAccessType := by
  unfold Obligations.HostWriteByAccessType
  refine ⟨?_, ?_, ?_, ?_, ?_⟩
  · intro d f i j v _ a h l
    exact get_writeField_listed d a h l
  · intro d f i j v _ h l
    exact writeField_rw_unlisted d h l
  · intro d f i j v h
    exact writeField_ro d h
  · intro addr w v s h
    exact ⟨s, exec_registerWrite_discarded v s h, rfl⟩
  · intro f i j v s hf a h p w c l
    obtain ⟨g, hg⟩ := hostWrite_of_plain s.dev v.toNat hf a h p w c
    refine ⟨_, exec_registerWrite_of_plain v s hf a p, s.dev.writeAddr (f.addr i j) v.toNat, g, ?_, ?_, ?_, ?_⟩
    · rw [hg]
    · exact get_writeAddr_listed s.dev hf a h l
    · exact writeAddr_eq_regs _ _ _
    · intro h' hh n k m _ ha
      exact get_writeAddr_of_addr_ne s.dev hh n ha v.toNat

end Sys2Proof.Machine
end

section
/-!
PROOFS. What the radio sends in its own slots (R20, R33, R34, R175, R249, R251, R264, R345): the frames of the device on the air, the
clock at a slot, beacons and correction frames, and drag frames.
-/

namespace Sys2Proof.Machine

/-! ### The fields that these proofs read or write -/

/-- Fields that the proofs of the cell's site guarantees tell apart, beside those of an item and of supervision. -/
def siteFlds : List Fld :=
  [R.SYS_BOOT_STATUS_REF_ABSENT, R.SYS_BOOT_STATUS_NO_SAFE, R.SYS_LEVEL_LEVEL, R.SYS_LEVEL_LAST_FALL, R.SYS_LEVEL_FALLS,
    R.SYS_LEVEL_HOLDOVER, R.PWR_STATUS_STATE, R.IMG_PART_STAT_SELF_OK, R.WB_COUNTS_REPEATS, R.BRK_LAT_LAST_US, R.BRK_LAT_MAX_US,
    R.BRK_SRC_SRC, R.BRK_STATUS_DRAG_OUT, R.PAIR_STATUS_ROLE, R.PAIR_STATUS_PAIRED, R.PAIR_STATUS_PARTNER_READY, R.PAIR_STATUS_LINK,
    R.RING_DEV_IRQ_FAULT, R.EVT_COUNTS_LOST, R.EVT_STATUS_OVERRUN, R.EVT_CLASS_STAT_TOKENS, R.EVT_CLASS_STAT_PENDING]

theorem siteFlds_elem : siteFlds.all (fun g => regMap.elem g) = true := by decide +kernel

theorem elem_of_siteFlds {g : Fld} (h : g ∈ siteFlds) : regMap.elem g = true := List.all_eq_true.1 siteFlds_elem g h

theorem mem_of_siteFlds {g : Fld} (h : g ∈ siteFlds) : g ∈ regMap := mem_regMap (elem_of_siteFlds h)

/-! ### A frame on the air -/

theorem Dev.air_sends (d : Dev) (n ch code typ src dst key : Nat) (site : Bool) (payload : List Byte) :
    ∃ a : AirFrame, d.air n ch code typ src dst key site payload = d.emit (.air a) ∧
      a.slot = n ∧ a.typ = typ ∧ a.key = key ∧ a.fcnt = d.fcntOf n ∧ a.payload = payload :=
  ⟨_, rfl, rfl, rfl, rfl, rfl, rfl⟩

/-- With a cell key, a frame of the cell goes out (R240). -/
theorem Dev.airCell_sends (d : Dev) (n typ src dst : Nat) (payload : List Byte) (h : d.cellSlot.isSome = true) :
    ∃ a : AirFrame, d.airCell n typ src dst payload = d.emit (.air a) ∧
      a.slot = n ∧ a.typ = typ ∧ a.fcnt = d.fcntOf n ∧ a.payload = payload := by
  obtain ⟨k, hk⟩ := Option.isSome_iff_exists.1 h
  obtain ⟨a, ha, hslot, htyp, -, hfcnt, hpay⟩ :=
    d.air_sends n (d.get R.RAD_CELL_CFG_CELL_CH) (d.get R.RAD_CELL_CFG_CODE) typ src dst k false payload
  exact ⟨a, by rw [Dev.airCell, hk]; exact ha, hslot, htyp, hfcnt, hpay⟩

theorem Dev.cellTx_iff (d : Dev) :
    d.cellTx = true ↔ d.reins = true ∧ d.level ≠ 0 ∧ d.radTx = true ∧ d.cellSlot.isSome = true := by
  simp only [Dev.cellTx, Bool.and_eq_true, decide_eq_true_eq, Nat.one_le_iff_ne_zero, and_assoc]

/-- Without the reins, at L0, or with a radio that may not transmit, the device is silent on its cell (R20, R58). -/
theorem Dev.cellTx_eq_false (d : Dev) (h : d.reins = false ∨ d.level = 0 ∨ d.radTx = false) : d.cellTx = false := by
  rw [← Bool.not_eq_true, Dev.cellTx_iff]
  rintro ⟨hreins, hlevel, htx, -⟩
  rcases h with h | h | h
  · simp [h] at hreins
  · exact hlevel h
  · simp [h] at htx

/-! ### The clock at a slot -/

theorem Dev.timeGoes_of_runs_rad {d : Dev} (h : d.runs .rad = true) : d.timeGoes = true := by
  simp only [Dev.runs, Dev.timed, Bool.and_eq_true] at h
  obtain ⟨-, ⟨-, hfield⟩, -⟩ := h
  simp only [Bool.not_eq_true'] at hfield
  simp [Dev.timeGoes, hfield]

theorem Dev.yard_passTo {d : Dev} (h : d.timeGoes = true) (t : Nat) : (d.passTo t).clk.yard = max d.clk.yard t := by
  simp only [Dev.passTo, Dev.pass, h, if_true]
  omega

/-- A slot lies before the end of its superframe. -/
theorem Dev.slotStart_lt (d : Dev) {n : Nat} (h : n < 400) : d.slotStart n < d.slotStart 400 :=
  Nat.add_lt_add_left (Nat.mul_lt_mul_of_pos_right h (by decide)) _

/-- The later of two moments, of which one lies in a period and the other before its end, lies in that period. -/
theorem max_div_eq {y t p : Nat} (hp : 0 < p) (ht : t < y / p * p + p) : max y t / p = y / p := by
  have hle : y / p * p ≤ y := Nat.div_mul_le_self y p
  have hlt : y < y / p * p + p := Nat.lt_div_mul_add hp
  refine Nat.div_eq_of_lt_le (by omega) ?_
  rw [Nat.add_mul, Nat.one_mul]
  omega

/-- Time that comes to a moment before the end of the superframe stays in the superframe. -/
theorem Dev.sfn_passTo {d : Dev} (h : d.timeGoes = true) {t : Nat} (ht : t < d.slotStart 400) : (d.passTo t).sfn = d.sfn := by
  unfold Dev.sfn
  rw [Dev.yard_passTo h]
  exact max_div_eq (by decide) ht

/-- A command of a running region answers the state with its effect. -/
theorem onRun_next {r : Region} {f : Dev → Dev} {s : State} (h : s.dev.runs r = true) :
    onRun r f s = .next { s with dev := f s.dev } := by
  simp [onRun, onDev, h]

/-- A command whose effect leaves the device as it is leaves the state as it is. -/
theorem onRun_next_same {r : Region} {f : Dev → Dev} {s : State} (h : f s.dev = s.dev) : onRun r f s = .next s := by
  simp [onRun, onDev, h]

theorem Answers.of_onRun {c : Instr} {r : Region} {f : Dev → Dev} {s : State} {P : State → Prop} (e : exec c s = onRun r f s)
    (h : s.dev.runs r = true) (p : P { s with dev := f s.dev }) : Answers c s P :=
  ⟨_, e.trans (onRun_next h), p⟩

theorem Answers.of_onRun_same {c : Instr} {r : Region} {f : Dev → Dev} {s : State} {P : State → Prop} (e : exec c s = onRun r f s)
    (h : f s.dev = s.dev) (p : P s) : Answers c s P :=
  ⟨_, e.trans (onRun_next_same h), p⟩

/-! ### The cell beacon (R249) -/

/-- What the beacon of a superframe clears and marks. -/
def Rad.beaconSent (r : Rad) (sfn : Nat) : Rad := { r with bcnSf := sfn + 1, ulAck := [], rep := [], resync := [], tcorr := [] }

theorem Dev.selfOk_eq_regs (d : Dev) (p : Nat) : d.selfOk p = { d with regs := (d.selfOk p).regs } := by
  unfold Dev.selfOk
  split <;> rfl

theorem KeepRegs.selfOk {ws : List Nat} {fs : List Fld} (d : Dev) (p : Nat) (h : R.IMG_PART_STAT_SELF_OK ∈ fs) :
    KeepRegs ws fs d (d.selfOk p) := by
  unfold Dev.selfOk
  split
  · exact .set d _ _ _ (mem_of_siteFlds (by decide)) (.inl h)
  · exact .refl _ _ _

/-- A cell beacon that is due goes out; beside it only the radio's state and two counts of the registers change. -/
theorem Dev.beaconTx_sends {d : Dev} (tx : d.cellTx = true) (start : d.slot = 0) (due : d.rad.bcnSf ≠ d.sfn + 1)
    (hfrom : d.pair.bcnFrom ≤ d.now) :
    ∃ (a : AirFrame) (rf : RegFile), d.beaconTx = { d.emit (.air a) with rad := d.rad.beaconSent d.sfn, regs := rf } ∧
      KeepRegs [] [R.IMG_PART_STAT_SELF_OK, R.WB_COUNTS_REPEATS] d d.beaconTx ∧
      a.slot = 0 ∧ a.typ = 0 ∧ a.fcnt = d.fcntOf 0 ∧ a.payload = d.beaconPayload := by
  obtain ⟨-, -, -, hkey⟩ := d.cellTx_iff.1 tx
  obtain ⟨a, ha, hframe⟩ := d.airCell_sends 0 0 0xF0 0xFF d.beaconPayload hkey
  have hgo : ¬ (!d.cellTx || d.slot != 0 || decide (d.rad.bcnSf = d.sfn + 1) || decide (d.now < d.pair.bcnFrom)) = true := by
    simp [tx, start, due, hfrom]
  have hrep : R.WB_COUNTS_REPEATS ∈ regMap := mem_of_siteFlds (by decide)
  unfold Dev.beaconTx
  rw [if_neg hgo]
  simp only [ha]
  split
  · exact ⟨a, _, Dev.selfOk_eq_regs _ _,
      ((KeepRegs.set (d.emit (.air a)) _ 0 0 hrep (.inl (by simp))).upd rfl).trans (.selfOk _ _ (by simp)), hframe⟩
  · exact ⟨a, _, Dev.selfOk_eq_regs _ _, .selfOk _ _ (by simp), hframe⟩

theorem Dev.beaconTx_silent {d : Dev} (h : d.cellTx = false) : d.beaconTx = d := by simp [Dev.beaconTx, h]

/-! ### The site beacon (R264) -/

/-- The slots of site beacons are the last four of a superframe. -/
theorem Dev.siteSlotNo_lt {d : Dev} {n : Nat} (h : d.siteSlotNo = some n) : n < 400 := by
  unfold Dev.siteSlotNo at h
  split at h <;> split at h <;> cases h <;> omega

theorem Dev.siteTx_sends {d : Dev} {n k : Nat} (slot : d.siteSlotNo = some n) (key : d.siteSlot = some k) (hreins : d.reins = true)
    (hlevel : d.level ≠ 0) (hdup : d.on R.RAD_STATUS_DUP_ID = false) (hinh : d.rad.inhibit = false)
    (tx : d.radTx = true ∨ d.master = true) (due : d.rad.siteSf ≠ d.sfn + 1) (time : d.now < d.slotStart (n + 1)) :
    ∃ a : AirFrame, d.siteTx = { (d.passTo (d.slotStart n)).emit (.air a) with
        rad := { d.rad with siteSf := (d.passTo (d.slotStart n)).sfn + 1 } } ∧
      a.slot = n ∧ a.typ = 7 ∧ a.key = k ∧ a.payload = d.sitePayload n := by
  obtain ⟨a, ha, hslot, htyp, hkey, -, hpay⟩ := (d.passTo (d.slotStart n)).air_sends n (d.get R.RAD_CELL_CFG_SITE_CH)
    (d.get R.RAD_CELL_CFG_SITE_CODE) 7 0xF0 0xFF k true (d.sitePayload n)
  have hgo : ¬ (!d.reins || decide (d.level = 0) || d.on R.RAD_STATUS_DUP_ID || d.rad.inhibit || !(d.radTx || d.master) ||
      decide (d.rad.siteSf = d.sfn + 1) || decide (d.slotStart (n + 1) ≤ d.now)) = true := by
    simpa [hreins, hlevel, hdup, hinh, due, time, or_iff_not_imp_left] using tx
  refine ⟨a, ?_, hslot, htyp, hkey, hpay⟩
  simp only [Dev.siteTx, slot, key, if_neg hgo, ha]
  rfl

/-- Without the reins, or at L0, no site beacon goes out (R20, R58). -/
theorem Dev.siteTx_silent {d : Dev} (h : d.reins = false ∨ d.level = 0) : d.siteTx = d := by
  unfold Dev.siteTx
  split
  · rcases h with h | h <;> simp [h]
  · rfl

/-! ### Correction frames (R175) -/

/-- Corrections take at most 36 slots, from slot 5 on. -/
theorem Dev.corrPieces_le (d : Dev) : d.corrPieces ≤ 36 := by
  unfold Dev.corrPieces
  split
  · exact Nat.zero_le _
  · exact Nat.min_le_left _ _

/-- What stands behind the first byte of a filled-up payload is what was put there, filled up. -/
theorem fit_u8_content (v : Nat) (b : List Byte) : ((fit 31 (u8 v ++ b)).drop 1).take 30 = fit 30 b := by
  have h : fit 31 (u8 v ++ b) = BitVec.ofNat 8 v :: (b ++ (zeros 30 ++ [0])).take 30 := rfl
  rw [h, List.drop_one, List.tail_cons, List.take_take, ← List.append_assoc, List.take_append_of_le_length (by simp [zeros])]
  rfl

theorem Dev.corrTx_sends {d : Dev} {k : Nat} (hk : (if d.rad.corrSf = d.sfn + 1 then d.rad.corrNext else 0) = k) (tx : d.cellTx = true)
    (en : d.on R.RAD_CTRL_EN = true) (mac : d.img.macSf ≠ d.sfn + 1) (more : k < d.corrPieces) (time : d.now < d.slotStart (5 + k) + slotLen) :
    ∃ a : AirFrame, d.corrTx = { (d.passTo (d.slotStart (5 + k))).emit (.air a) with
        rad := { d.rad with corrSf := (d.passTo (d.slotStart (5 + k))).sfn + 1, corrNext := k + 1 } } ∧
      a.slot = 5 + k ∧ a.typ = 2 ∧ (a.payload.drop 1).take 30 = fit 30 ((d.tim.block.drop (30 * k)).take 30) := by
  obtain ⟨-, -, -, hkey⟩ := d.cellTx_iff.1 tx
  have hgo : ¬ (!d.cellTx || !d.on R.RAD_CTRL_EN || decide (d.img.macSf = d.sfn + 1) || decide (d.corrPieces ≤ k) ||
      decide (d.slotStart (5 + k) + slotLen ≤ d.now)) = true := by
    simp [tx, en, mac, more, time]
  obtain ⟨a, ha, hslot, htyp, -, hpay⟩ := (d.passTo (d.slotStart (5 + k))).airCell_sends (5 + k) 2 0xF0 0xFF
    (fit 31 (u8 (k + 128 * b2n (k + 1 == d.corrPieces)) ++ (d.tim.block.drop (30 * k)).take 30)) hkey
  refine ⟨a, ?_, hslot, htyp, by rw [hpay, fit_u8_content]⟩
  simp only [Dev.corrTx, hk, if_neg hgo, Dev.passTo_tim, ha]
  rfl

theorem Dev.corrTx_silent {d : Dev} (h : d.cellTx = false) : d.corrTx = d := by simp [Dev.corrTx, h]

/-- Settles O30: what each of the three sends is its own lemma; the superframe stays the same up to the slot. -/
theorem beaconsAndCorrections : Obligations.BeaconsAndCorrections := by
  unfold Obligations.BeaconsAndCorrections
  refine ⟨?_, ?_, ?_, ?_, ?_, ?_⟩
  · intro s hrun tx start due hfrom
    obtain ⟨a, rf, he, hregs, hframe⟩ := Dev.beaconTx_sends tx start due hfrom
    refine .of_onRun rfl hrun ⟨⟨a, by rw [he]; rfl, hframe⟩, by rw [he]; rfl, rfl, rfl, ?_, hregs⟩
    simp only [he]; rfl
  · intro n k s hrun slot key hreins hlevel hdup hinh tx due time
    obtain ⟨a, he, hframe⟩ := Dev.siteTx_sends slot key hreins hlevel hdup hinh tx due time
    have hlt := Dev.siteSlotNo_lt slot
    have hsfn : (s.dev.passTo (s.dev.slotStart n)).sfn = s.dev.sfn :=
      Dev.sfn_passTo (Dev.timeGoes_of_runs_rad hrun) (s.dev.slotStart_lt (by omega))
    rw [hsfn] at he
    refine .of_onRun rfl hrun ⟨⟨a, by rw [he]; rfl, hframe⟩, by rw [he], rfl, rfl, ?_, .of_regs ?_⟩ <;> simp only [he] <;> rfl
  · intro k s hk hrun tx en mac more time
    obtain ⟨a, he, hframe⟩ := Dev.corrTx_sends hk.symm tx en mac more time
    have hle := s.dev.corrPieces_le
    have hsfn : (s.dev.passTo (s.dev.slotStart (5 + k))).sfn = s.dev.sfn :=
      Dev.sfn_passTo (Dev.timeGoes_of_runs_rad hrun) (s.dev.slotStart_lt (by omega))
    rw [hsfn] at he
    refine .of_onRun rfl hrun ⟨⟨a, by rw [he]; rfl, hframe⟩, by rw [he], by rw [he], rfl, rfl, ?_, .of_regs ?_⟩ <;> simp only [he] <;> rfl
  · intro s h
    exact .of_onRun_same rfl (Dev.beaconTx_silent (s.dev.cellTx_eq_false h)) rfl
  · intro s h
    exact .of_onRun_same rfl (Dev.siteTx_silent h) rfl
  · intro s h
    exact .of_onRun_same rfl (Dev.corrTx_silent (s.dev.cellTx_eq_false h)) rfl

end Sys2Proof.Machine
end

section
/-!
PROOFS. Drag frames (R33, R34, R251, R345): the drag slot that comes next, the whole-cell frame, and the bytes of the individual stops.
-/

namespace Sys2Proof.Machine

/-! ### Bits of bytes -/

theorem bitOf_eq_testBit (v i : Nat) : bitOf v i = v.testBit i := by
  rw [Nat.testBit_eq_decide_div_mod_eq]
  rfl

/-- Bit `i` of byte `j` of a number. -/
theorem bitOf_byte (v j : Nat) {i : Nat} (h : i < 8) : bitOf (BitVec.ofNat 8 (v / 256 ^ j)).toNat i = bitOf v (8 * j + i) := by
  have h256 : 256 ^ j = 2 ^ (8 * j) := by rw [Nat.pow_mul]
  rw [bitOf_eq_testBit, bitOf_eq_testBit, BitVec.toNat_ofNat, Nat.testBit_mod_two_pow, h256, Nat.testBit_div_two_pow]
  rw [Nat.add_comm, decide_eq_true h, Bool.true_and]

theorem length_toLe (n v : Nat) : (toLe n v).length = n := by
  induction n generalizing v with
  | zero => rfl
  | succ n ih => simp [toLe, ih]

theorem getElem?_toLe {n j : Nat} (h : j < n) (v : Nat) : (toLe n v)[j]? = some (BitVec.ofNat 8 (v / 256 ^ j)) := by
  induction n generalizing v j with
  | zero => omega
  | succ n ih =>
    cases j with
    | zero => simp [toLe]
    | succ j => rw [toLe, List.getElem?_cons_succ, ih (by omega), Nat.div_div_eq_div_mul, Nat.pow_succ']

theorem fld_one {b : List Byte} {k : Nat} {x : Byte} (h : b[k]? = some x) : fld b k 1 = x.toNat := by
  obtain ⟨hk, rfl⟩ := List.getElem?_eq_some_iff.1 h
  rw [fld, List.drop_eq_getElem_cons hk, List.take_succ_cons, List.take_zero]
  rfl

/-- The place of an element in a list of pieces of one length. -/
theorem getElem?_flatMap {α β : Type} {f : α → List β} {c j : Nat} (hf : ∀ x, (f x).length = c) (hj : j < c) {x : α} {l : List α} {w : Nat}
    (h : l[w]? = some x) : (l.flatMap f)[c * w + j]? = (f x)[j]? := by
  induction l generalizing w with
  | nil => simp at h
  | cons y l ih =>
    rw [List.flatMap_cons]
    cases w with
    | zero =>
      obtain rfl : y = x := by simpa using h
      rw [Nat.mul_zero, Nat.zero_add, List.getElem?_append_left (by rw [hf]; exact hj)]
    | succ w =>
      rw [List.getElem?_append_right (by rw [hf, Nat.mul_succ]; omega), hf, Nat.mul_succ, Nat.add_right_comm, Nat.add_sub_cancel]
      exact ih (by simpa using h)

/-! ### The individual stops (R251, R339) -/

/-- The bytes of the stop registers, one bit a machine. -/
def Dev.stopBytes (d : Dev) : List Byte := (List.range 8).flatMap fun w => u32 (d.get R.BRK_STOP_STOP w)

/-- A machine's stop stands in the frame of individual stops at its bit (R251). -/
theorem Dev.stopBytes_bit {d : Dev} {m : Nat} (hm : m < 240) (h : d.stopped m = true) :
    ∃ x : Byte, (d.stopBytes.take 30)[m / 8]? = some x ∧ bitOf x.toNat (m % 8) = true := by
  have hw : (List.range 8)[m / 32]? = some (m / 32) := List.getElem?_range (by omega)
  have hbyte : d.stopBytes[m / 8]? = some (BitVec.ofNat 8 (d.get R.BRK_STOP_STOP (m / 32) / 256 ^ (m / 8 % 4))) := by
    have hk : m / 8 = 4 * (m / 32) + m / 8 % 4 := by omega
    have hpiece := getElem?_flatMap (f := fun w => u32 (d.get R.BRK_STOP_STOP w)) (fun _ => length_toLe 4 _)
      (show m / 8 % 4 < 4 by omega) hw
    rw [Dev.stopBytes, hk, hpiece, ← hk]
    exact getElem?_toLe (by omega) _
  refine ⟨_, (List.getElem?_take_of_lt (by omega)).trans hbyte, ?_⟩
  rw [bitOf_byte _ _ (by omega), show 8 * (m / 8 % 4) + m % 8 = m % 32 by omega]
  exact h

/-- Without an individual stop every byte of the frame is 0. -/
theorem Dev.stopBytes_zero {d : Dev} (h : ∀ w < 8, d.get R.BRK_STOP_STOP w = 0) : (d.stopBytes.take 30).all (· == 0) = true := by
  refine List.all_eq_true.2 fun x hx => ?_
  obtain ⟨w, hw, hxw⟩ := List.mem_flatMap.1 (List.mem_of_mem_take hx)
  rw [h w (List.mem_range.1 hw)] at hxw
  simpa [u32, toLe] using hxw

/-! ### The drag slot that comes next (R235, R345) -/

theorem Dev.dragNext_some {d : Dev} {ofs n : Nat} (h : d.dragNext ofs = some n) : d.now ≤ d.slotStart n + ofs := by
  have hp := List.find?_some h
  simp only [Bool.and_eq_true, decide_eq_true_eq] at hp
  exact hp.1

/-- The device at its decision for drag slot `n`, at yard time `t`. -/
def Dev.atDrag (d : Dev) (n t : Nat) : Dev :=
  let d := d.passTo t
  { d with rad := { d.rad with dragAt := 400 * d.sfn + n + 1 } }

/-- The decision falls exactly at its moment. -/
theorem Dev.yard_atDrag {d : Dev} {t : Nat} (run : d.runs .rad = true) (h : d.now ≤ t) (n : Nat) : (d.atDrag n t).clk.yard = t :=
  (Dev.yard_passTo (Dev.timeGoes_of_runs_rad run) t).trans (Nat.max_eq_right h)

/-! ### The whole-cell frame (R33, R34, R345, R346) -/

/-- The latency of a drag input's frame touches its two registers and forgets the input (R346). -/
theorem Dev.dragLat_eq (d : Dev) (rest : Nat) : ∃ (b : Brk) (rf : RegFile), d.dragLat rest = { d with brk := b, regs := rf } := by
  unfold Dev.dragLat
  split
  · exact ⟨_, _, rfl⟩
  · exact ⟨_, _, rfl⟩

theorem KeepRegs.dragLat (d : Dev) (rest : Nat) : KeepRegs [] [R.BRK_LAT_LAST_US, R.BRK_LAT_MAX_US] d (d.dragLat rest) := by
  have last : R.BRK_LAT_LAST_US ∈ regMap := mem_of_siteFlds (by decide)
  have mx : R.BRK_LAT_MAX_US ∈ regMap := mem_of_siteFlds (by decide)
  unfold Dev.dragLat
  split
  · exact ((KeepRegs.set d _ 0 0 last (.inl (by simp))).trans (.set _ _ 0 0 mx (.inl (by simp)))).upd rfl
  · exact .refl _ _ _

/-- The whole-cell frame in slot `n`, as holder and standby send it. -/
def Dev.wholeCellTx (d : Dev) (n rest : Nat) : Dev :=
  let d := (d.airCellDrag n).dragLat rest
  { d with rad := { d.rad with stopAir := d.rad.stopAir - 1 } }

theorem Dev.wholeCellTx_sends {d : Dev} (key : d.cellSlot.isSome = true) (n rest : Nat) :
    ∃ (a : AirFrame) (b : Brk) (rf : RegFile), d.wholeCellTx n rest =
        { d.emit (.air a) with brk := b, regs := rf, rad := { d.rad with stopAir := d.rad.stopAir - 1 } } ∧
      KeepRegs [] [R.BRK_LAT_LAST_US, R.BRK_LAT_MAX_US] d (d.wholeCellTx n rest) ∧
      a.slot = n ∧ a.typ = 1 ∧ a.payload = u8 1 ++ List.replicate 30 0xFF := by
  obtain ⟨a, ha, hslot, htyp, -, hpay⟩ := d.airCell_sends n 1 0xF1 0xFF (u8 1 ++ List.replicate 30 0xFF) key
  obtain ⟨b, rf, hlat⟩ := (d.emit (.air a)).dragLat_eq rest
  have he : d.wholeCellTx n rest = { (d.emit (.air a)).dragLat rest with rad := { d.rad with stopAir := d.rad.stopAir - 1 } } := by
    simp only [Dev.wholeCellTx, Dev.airCellDrag, ha]
    rw [hlat]
    rfl
  refine ⟨a, b, rf, by rw [he, hlat], ?_, hslot, htyp, hpay⟩
  rw [he]
  exact ((KeepRegs.of_regs (b := d.emit (.air a)) rfl).trans (.dragLat _ rest)).upd rfl

/-! ### The two decisions (R33, R34) -/

/-- The holder's decision in a drag slot (R34, R345). -/
theorem Dev.dragDecision_eq {d : Dev} {n : Nat} (hreins : d.reins = true) (next : d.dragNext 15000 = some n) :
    d.dragDecision =
      if !d.cellTx then d.atDrag n (d.slotStart n + 15000)
      else if d.wholeCell || d.on R.BRK_IN_A || d.on R.BRK_IN_B then (d.atDrag n (d.slotStart n + 15000)).wholeCellTx n 233000
      else if (d.stopBytes.take 30).all (· == 0) then d.atDrag n (d.slotStart n + 15000)
      else (d.atDrag n (d.slotStart n + 15000)).airCell n 1 0xF0 0xFF (u8 0 ++ d.stopBytes.take 30) := by
  have hr : ¬ (!d.reins) = true := by simp [hreins]
  unfold Dev.dragDecision
  rw [if_neg hr]
  simp only [next]
  rfl

/-- The standby's decision in a drag slot (R33). -/
theorem Dev.standbyDrag_eq {d : Dev} {n : Nat} (role : d.get R.PAIR_STATUS_ROLE = 2) (sound : d.standbyFault = false)
    (next : d.dragNext 0 = some n) :
    d.standbyDrag =
      if d.radTx && d.cellSlot.isSome && (d.on R.BRK_IN_A || d.on R.BRK_IN_B || d.rad.copyDrag || d.rad.stopAir != 0) then
        (d.atDrag n (d.slotStart n)).wholeCellTx n 248000
      else d.atDrag n (d.slotStart n) := by
  have hr : ¬ (d.get R.PAIR_STATUS_ROLE != 2 || d.standbyFault) = true := by simp [role, sound]
  unfold Dev.standbyDrag
  rw [if_neg hr]
  simp only [next]
  rfl

/-- Settles O31: each clause is one branch of the holder's or the standby's decision. -/
theorem dragFrames : Obligations.DragFrames := by
  unfold Obligations.DragFrames
  refine ⟨?_, ?_, ?_, ?_, ?_⟩
  · intro n s run hreins next tx drag
    obtain ⟨-, -, -, hkey⟩ := s.dev.cellTx_iff.1 tx
    have he : s.dev.dragDecision = (s.dev.atDrag n (s.dev.slotStart n + 15000)).wholeCellTx n 233000 := by
      rw [Dev.dragDecision_eq hreins next, if_neg (by simp [tx]), if_pos (by simpa [or_assoc] using drag)]
    obtain ⟨a, b, rf, hw, hregs, hframe⟩ := Dev.wholeCellTx_sends (d := s.dev.atDrag n (s.dev.slotStart n + 15000)) hkey n 233000
    rw [← he] at hw hregs
    refine .of_onRun rfl run ⟨⟨a, by rw [hw]; rfl, hframe⟩, by rw [hw]; exact Dev.yard_atDrag run (Dev.dragNext_some next) n, rfl, rfl, ?_,
      (KeepRegs.of_regs (b := s.dev.atDrag n (s.dev.slotStart n + 15000)) rfl).trans hregs⟩
    simp only [hw]
    rfl
  · intro n m s run hreins next tx hcell hA hB hm hstop
    obtain ⟨-, -, -, hkey⟩ := s.dev.cellTx_iff.1 tx
    obtain ⟨x, hx, hbit⟩ := Dev.stopBytes_bit hm hstop
    have hsome : ¬ ((s.dev.stopBytes.take 30).all (· == 0)) = true := by
      intro hall
      obtain rfl : x = 0 := by simpa using List.all_eq_true.1 hall x (List.mem_of_getElem? hx)
      simp [bitOf] at hbit
    have he : s.dev.dragDecision = (s.dev.atDrag n (s.dev.slotStart n + 15000)).airCell n 1 0xF0 0xFF (u8 0 ++ s.dev.stopBytes.take 30) := by
      rw [Dev.dragDecision_eq hreins next, if_neg (by simp [tx]), if_neg (by simp [hcell, hA, hB]), if_neg hsome]
    obtain ⟨a, ha, hslot, htyp, -, hpay⟩ :=
      (s.dev.atDrag n (s.dev.slotStart n + 15000)).airCell_sends n 1 0xF0 0xFF (u8 0 ++ s.dev.stopBytes.take 30) hkey
    have hbyte : fld a.payload (1 + m / 8) 1 = x.toNat := by
      refine fld_one ?_
      rw [hpay, Nat.add_comm]
      exact hx
    rw [ha] at he
    refine .of_onRun rfl run ⟨⟨a, by rw [he]; rfl, hslot, htyp, by rw [hpay]; rfl, by rw [hbyte]; exact hbit⟩,
      by rw [he]; exact Dev.yard_atDrag run (Dev.dragNext_some next) n, rfl, rfl, ?_, .of_regs ?_⟩ <;> simp only [he] <;> rfl
  · intro n s run hreins next hcell hA hB hstop
    have he : s.dev.dragDecision = s.dev.atDrag n (s.dev.slotStart n + 15000) := by
      rw [Dev.dragDecision_eq hreins next, if_pos (Dev.stopBytes_zero hstop)]
      simp [hcell, hA, hB]
    refine .of_onRun rfl run ⟨by rw [he]; rfl, by rw [he]; exact Dev.yard_atDrag run (Dev.dragNext_some next) n, rfl, rfl, ?_, .of_regs ?_⟩ <;>
      simp only [he] <;> rfl
  · intro n s run role sound next tx key drag
    have he : s.dev.standbyDrag = (s.dev.atDrag n (s.dev.slotStart n)).wholeCellTx n 248000 := by
      rw [Dev.standbyDrag_eq role sound next, if_pos (by simp only [tx, key]; rcases drag with h | h | h <;> simp [h])]
    obtain ⟨a, b, rf, hw, -, hframe⟩ := Dev.wholeCellTx_sends (d := s.dev.atDrag n (s.dev.slotStart n)) key n 248000
    rw [← he] at hw
    exact .of_onRun rfl run ⟨⟨a, by rw [hw]; rfl, hframe⟩, by rw [hw]; exact Dev.yard_atDrag run (by simpa using Dev.dragNext_some next) n⟩
  · intro n s run role sound next hA hB hcopy hair
    have he : s.dev.standbyDrag = s.dev.atDrag n (s.dev.slotStart n) := by
      rw [Dev.standbyDrag_eq role sound next, if_neg (by simp [hA, hB, hcopy, hair])]
    exact .of_onRun rfl run ⟨by rw [he]; rfl, by rw [he]; exact Dev.yard_atDrag run (by simpa using Dev.dragNext_some next) n⟩

end Sys2Proof.Machine
end

section
/-!
PROOFS. Exact frames of reports and of supervision: an item touches five fields of RING, ring state and the output; a record touches the
recorder beside; voiding and showing authorities touches what BRK shows of them.
-/

namespace Sys2Proof.Machine

/-- What holds of the fields alone holds of their windows. -/
theorem KeepRegs.of_fields {ws : List Nat} {fs gs : List Fld} {a b : Dev} (h : KeepRegs [] gs a b) (m : ∀ g ∈ gs, g ∈ fs ∨ g.block ∈ ws) :
    KeepRegs ws fs a b :=
  fun f hf hw hn i j => h f hf (by simp) (fun c => (m f c).elim hn hw) i j

/-! ### Items (R410, R420-R423, R433) -/

/-- The fields of RING that an item may write. -/
def itemFlds : List Fld := [R.RING_DEV_IRQ_BLOCK, R.RING_PROD_P, R.RING_STATUS_FULL, R.RING_DROP_ITEMS, R.RING_ERR_TOO_LONG]

theorem itemFlds_mem : itemFlds.all (fun g => regMap.elem g) = true := by decide +kernel

/-- A step of the rings: ring state, the output and the fields of an item alone. -/
structure RingStep (a b : Dev) : Prop where
  only : b = { a with ring := b.ring, regs := b.regs, out := b.out }
  regs : KeepRegs [] itemFlds a b

namespace RingStep

theorem refl (d : Dev) : RingStep d d := ⟨rfl, .refl _ _ _⟩

theorem trans {a b c : Dev} (h : RingStep a b) (k : RingStep b c) : RingStep a c :=
  ⟨k.only.trans (congrArg (fun x : Dev => { x with ring := c.ring, regs := c.regs, out := c.out }) h.only), h.regs.trans k.regs⟩

/-- An update of ring state and output. -/
theorem upd {a b c : Dev} (h : RingStep a b) (o : c = { b with ring := c.ring, out := c.out }) : RingStep a c := by
  have hregs : c.regs = b.regs := (congrArg Dev.regs o :)
  exact h.trans ⟨by rw [hregs]; exact o, .of_regs hregs⟩

theorem then_set {a b : Dev} (h : RingStep a b) {g : Fld} {v i j : Nat} (m : itemFlds.elem g = true) : RingStep a (b.set g v i j) :=
  have hg : g ∈ itemFlds := List.elem_iff.1 m
  h.trans ⟨rfl, .set b v i j (mem_regMap (List.all_eq_true.1 itemFlds_mem g hg)) (.inl hg)⟩

theorem ite {a b c : Dev} {p : Prop} [Decidable p] (h : RingStep a b) (k : RingStep a c) : RingStep a (if p then b else c) := by
  split
  · exact h
  · exact k

/-- The interrupt of a block, not the fault's own. -/
theorem devIrq (d : Dev) {b : Nat} (hb : b ≠ 0) : RingStep d (d.devIrq b) := by
  unfold Dev.devIrq
  simp only [hb, if_false]
  have hbit : RingStep d (d.setBit R.RING_DEV_IRQ_BLOCK (b - 1) true) := (refl d).then_set (by decide)
  exact .ite (hbit.upd rfl) hbit

theorem raise (d : Dev) {f : Fld} (i v : Nat) (m : itemFlds.elem f = true) (hb : f.block ≠ 0) :
    RingStep d (d.raise f i v) :=
  ((refl d).then_set m).trans (.devIrq _ hb)

theorem ringIrq (d : Dev) (r : Nat) : RingStep d (d.ringIrq r) := by
  unfold Dev.ringIrq
  extract_lets q c t due cond
  exact .ite ((refl d).upd rfl) (.refl d)

theorem entriesWritten (d : Dev) (r n : Nat) (now : Bool) : RingStep d (d.entriesWritten r n now) := by
  unfold Dev.entriesWritten
  extract_lets q q' d1 ring d2
  have h1 : RingStep d d1 := (refl d).then_set (by decide)
  have h2 : RingStep d d2 := h1.upd rfl
  exact (h2.then_set (by decide)).trans (.ringIrq _ r)

theorem putEntries (d : Dev) (r : Nat) (b : List Byte) (n : Nat) (x : ItemRef) : RingStep d (d.putEntries r b n x) := by
  unfold Dev.putEntries
  extract_lets p ring d1
  have h1 : RingStep d d1 := (refl d).upd rfl
  exact h1.trans (.entriesWritten _ _ _ _)

theorem putPad (d : Dev) (r n : Nat) : RingStep d (d.putPad r n) := by
  unfold Dev.putPad
  exact .ite (.refl d) (.putEntries d _ _ _ _)

theorem putItem (d : Dev) (r src seq fl t : Nat) (b : List Byte) (k : Nat) : RingStep d (d.putItem r src seq fl t b k) :=
  (putPad d r _).trans (.putEntries _ _ _ _ _)

theorem putGap (d : Dev) (src : Nat) (g : Gap) : RingStep d (d.putGap src g) := by
  unfold Dev.putGap
  extract_lets d1 ring
  have h1 : RingStep d d1 := .putItem d _ _ _ _ _ _ _
  exact h1.upd rfl

theorem nextSeq (d : Dev) (src : Nat) : RingStep d (d.nextSeq src).2 := (refl d).upd rfl

theorem dropItem (d : Dev) (r src seq t : Nat) : RingStep d (d.dropItem r src seq t) := by
  unfold Dev.dropItem
  refine .then_set ?_ (by decide)
  exact (refl d).upd rfl

/-- An item, written or dropped. -/
theorem item (d : Dev) (r src t : Nat) (b : List Byte) : RingStep d (d.item r src t b) := by
  have hseq : RingStep d (d.nextSeq src).2 := .nextSeq d src
  have hdrop : ∀ n seq, RingStep d ((if (d.nextSeq src).2.tooLong r n then (d.nextSeq src).2.raise R.RING_ERR_TOO_LONG r else
      (d.nextSeq src).2).dropItem r src seq t) := fun n seq =>
    (RingStep.ite (hseq.trans (.raise _ _ _ (by decide) (by decide))) hseq).trans (.dropItem _ _ _ _ _)
  unfold Dev.item
  dsimp only
  split
  · exact .ite ((hseq.trans (.putGap _ _ _)).trans (.putItem _ _ _ _ _ _ _ _)) (hdrop _ _)
  · exact .ite (hseq.trans (.putItem _ _ _ _ _ _ _ _)) (hdrop _ _)

/-- No item changes the recorder. -/
theorem evt {a b : Dev} (h : RingStep a b) : b.evt = a.evt := by rw [h.only]

end RingStep

/-! ### Records (R636-R644) -/

theorem RingStep.keepRegs {a b : Dev} (h : RingStep a b) : KeepRegs [0x12] itemFlds a b := h.regs.of_fields fun _ hg => .inl hg

theorem KeepRegs.recLost_exact (d : Dev) : KeepRegs [0x12] itemFlds d d.recLost := by
  unfold Dev.recLost
  extract_lets d1 evt
  have h1 : KeepRegs [0x12] itemFlds d d1 := by
    refine .trans ?_ (RingStep.devIrq _ (b := R.EVT_STATUS_OVERRUN.block) (by decide)).keepRegs
    exact ((KeepRegs.refl _ _ d).then_set _ _ _ (elem_of_siteFlds (by decide)) (by decide)).then_set _ _ _ (elem_of_siteFlds (by decide)) (by decide)
  exact h1.upd rfl

/-- The registers a record may write: the recorder's window and the fields of its item. -/
theorem KeepRegs.pushRec_exact (d : Dev) (t c : Nat) (x : List Byte) : KeepRegs [0x12] itemFlds d (d.pushRec t c x) := by
  unfold Dev.pushRec
  extract_lets r full d1 buf evt d2 d3
  have h1 : KeepRegs [0x12] itemFlds d d1 := by
    unfold d1
    split
    · exact .recLost_exact d
    · exact .refl _ _ _
  have h3 : KeepRegs [0x12] itemFlds d d3 := (h1.upd (c := d2) rfl).trans (.evtStatus (by decide) _)
  split
  · exact h3.trans (RingStep.item _ _ _ _ _).keepRegs
  · exact h3

theorem KeepRegs.record_exact (d : Dev) (c : Nat) (x : List Byte) : KeepRegs [0x12] itemFlds d (d.record c x) := by
  unfold Dev.record
  extract_lets k c' due d1 evt d2 first evt' d3
  split
  · exact .pushRec_exact d _ _ _
  · split
    · have h1 : KeepRegs [0x12] itemFlds d d1 := (KeepRegs.refl _ _ d).then_set _ _ _ (elem_of_siteFlds (by decide)) (by decide)
      exact (h1.upd (c := d2) rfl).trans (.pushRec_exact _ _ _ _)
    · exact ((KeepRegs.refl _ _ d).upd (c := d3) rfl).then_set _ _ _ (elem_of_siteFlds (by decide)) (by decide)

theorem Dev.evt_evtStatus (d : Dev) : d.evtStatus.evt = d.evt := by
  unfold Dev.evtStatus
  extract_lets d1
  split <;> rfl

theorem Dev.flushWant_recLost (d : Dev) : d.recLost.evt.flushWant = d.evt.flushWant := by
  unfold Dev.recLost
  extract_lets d1 evt
  have h1 : d1.evt = d.evt :=
    (RingStep.devIrq ((d.inc R.EVT_COUNTS_LOST).set R.EVT_STATUS_OVERRUN _) (b := R.EVT_STATUS_OVERRUN.block) (by decide)).evt
  change d1.evt.flushWant = d.evt.flushWant
  rw [h1]

/-- The recorder after a record: one more in the buffer, whose time and code are the record's, and a flush asked for stays so. -/
theorem Dev.evt_pushRec (d : Dev) (t c : Nat) (x : List Byte) :
    (∃ (l : List Rec) (r : Rec), (d.pushRec t c x).evt.buf = l ++ [r] ∧ r.t = t ∧ r.code = c) ∧
      (d.evt.flushWant = true → (d.pushRec t c x).evt.flushWant = true) := by
  unfold Dev.pushRec
  extract_lets r full d1 buf evt d2 d3
  have hflush : d1.evt.flushWant = d.evt.flushWant := by
    unfold d1
    split
    · exact d.flushWant_recLost
    · rfl
  have he : (if d3.on R.EVT_CFG_STREAM_EN then d3.item (d3.get R.EVT_CFG_RING) 0x1201 t (recBytes r) else d3).evt = d2.evt := by
    split
    · exact (RingStep.item _ _ _ _ _).evt.trans (Dev.evt_evtStatus d2)
    · exact Dev.evt_evtStatus d2
  rw [he]
  refine ⟨⟨_, r, rfl, rfl, rfl⟩, fun h => ?_⟩
  simp [d2, hflush, h]

theorem Dev.flushWant_record {d : Dev} (h : d.evt.flushWant = true) (c : Nat) (x : List Byte) : (d.record c x).evt.flushWant = true := by
  unfold Dev.record
  extract_lets k c' due d1 evt d2 first evt' d3
  split
  · exact (d.evt_pushRec _ _ _).2 h
  · split
    · exact (d2.evt_pushRec _ _ _).2 h
    · exact h

/-! ### Supervision (R324-R326, R341) -/

/-- The fields of BRK that show authorities, whole-cell drag and DRAG_OUT. -/
def brkFlds : List Fld :=
  [R.BRK_MACH_VOID, R.BRK_MACH_HOLD, R.BRK_MACH_WITHHELD, R.BRK_STATUS_AUTHS, R.BRK_STATUS_CELL_DRAG, R.BRK_STATUS_DRAG_OUT]

theorem brkFlds_mem : brkFlds.all (fun g => regMap.elem g) = true := by decide +kernel

/-- A step of supervision: its state and what shows it alone. -/
structure BrkStep (a b : Dev) : Prop where
  only : b = { a with brk := b.brk, regs := b.regs }
  regs : KeepRegs [] brkFlds a b

namespace BrkStep

theorem refl (d : Dev) : BrkStep d d := ⟨rfl, .refl _ _ _⟩

theorem trans {a b c : Dev} (h : BrkStep a b) (k : BrkStep b c) : BrkStep a c :=
  ⟨k.only.trans (congrArg (fun x : Dev => { x with brk := c.brk, regs := c.regs }) h.only), h.regs.trans k.regs⟩

theorem upd {a b c : Dev} (h : BrkStep a b) (o : c = { b with brk := c.brk }) : BrkStep a c := by
  have hregs : c.regs = b.regs := (congrArg Dev.regs o :)
  exact h.trans ⟨by rw [hregs]; exact o, .of_regs hregs⟩

theorem then_set {a b : Dev} (h : BrkStep a b) {g : Fld} {v i j : Nat} (m : brkFlds.elem g = true) : BrkStep a (b.set g v i j) :=
  have hg : g ∈ brkFlds := List.elem_iff.1 m
  h.trans ⟨rfl, .set b v i j (mem_regMap (List.all_eq_true.1 brkFlds_mem g hg)) (.inl hg)⟩

theorem ite {a b c : Dev} {p : Prop} [Decidable p] (h : BrkStep a b) (k : BrkStep a c) : BrkStep a (if p then b else c) := by
  split
  · exact h
  · exact k

theorem foldl {α : Type} {f : Dev → α → Dev} (hf : ∀ d x, BrkStep d (f d x)) (l : List α) (d : Dev) : BrkStep d (l.foldl f d) :=
  List.foldlRecOn (motive := BrkStep d) l f (refl d) fun b hb x _ => hb.trans (hf b x)

theorem brkView (d : Dev) (m : Nat) : BrkStep d (d.brkView m) :=
  refl d |>.then_set (by decide) |>.then_set (by decide) |>.then_set (by decide) |>.then_set (by decide)

theorem brkSet (d : Dev) (m : Nat) (b : BrkM) : BrkStep d (d.brkSet m b) := by
  refine .trans ?_ (.brkView _ m)
  exact (refl d).upd rfl

theorem brkViewAll (d : Dev) : BrkStep d d.brkViewAll := by
  unfold Dev.brkViewAll
  exact .foldl (fun _ _ => .brkView _ _) _ _

theorem voidAuth (d : Dev) (m : Nat) : BrkStep d (d.voidAuth m) := by
  unfold Dev.voidAuth
  exact .ite (.refl d) (.brkSet d m _)

theorem voidAll (d : Dev) : BrkStep d d.voidAll := by
  unfold Dev.voidAll
  exact .trans (.foldl (fun _ _ => .voidAuth _ _) _ _) (.brkViewAll _)

theorem callAuth (d : Dev) (m : Nat) (c : Call) : BrkStep d (d.callAuth m c) := by
  unfold Dev.callAuth
  refine .trans ?_ (.brkSet _ m _)
  exact (refl d).upd rfl

end BrkStep

/-! ### Drag sources (R341, R343) -/

/-- The sources once source `k` is set or released. -/
def Dev.srcNew (d : Dev) (k : Nat) (b : Bool) : Nat := putBit (d.get R.BRK_SRC_SRC) k b

/-- A change of the drag sources: none, or the new set with its record, and then supervision follows. -/
theorem Dev.setSrc_cases (d : Dev) (k : Nat) (b : Bool) :
    (d.srcNew k b = d.get R.BRK_SRC_SRC ∧ d.setSrc k b = d) ∨
      BrkStep ((d.set R.BRK_SRC_SRC (d.srcNew k b)).record 0x0901 (u8 (d.get R.BRK_SRC_SRC) ++ u8 (d.srcNew k b))) (d.setSrc k b) := by
  unfold Dev.setSrc
  extract_lets old new d1 d1' brk d2 d3 copy
  by_cases hn : new = old
  · exact .inl ⟨hn, if_pos hn⟩
  · rw [if_neg hn]
    have h1' : BrkStep d1 d1' := (BrkStep.refl d1).then_set (by decide)
    have h2 : BrkStep d1 d2 := h1'.upd rfl
    have h3 : BrkStep d1 d3 := .ite (h2.then_set (by decide)) h2
    refine .inr (.ite (h3.trans (.voidAll _)) (.ite (.trans ?_ (.brkViewAll _)) (.refl d1)))
    exact ((BrkStep.refl d1).then_set (g := R.BRK_STATUS_CELL_DRAG) (v := 0) (i := 0) (j := 0) (by decide)).upd rfl

end Sys2Proof.Machine
end

section
/-!
PROOFS. What the blocks do to one another when a fault or a loss runs through them: reports, supervision, reservation, axes, metering,
sky and waybills leave the fault state of the device, its radio and its role in the pair as they are.
-/

namespace Sys2Proof.Machine

/-- The windows of all blocks but SYS (0x01) and PAIR (0x11). -/
def blockWs : List Nat := [0x02, 0x03, 0x04, 0x05, 0x06, 0x07, 0x08, 0x09, 0x0A, 0x0B, 0x0C, 0x0D, 0x0E, 0x0F, 0x10, 0x12, 0x13, 0x14]

/-- The field lies in one of those windows, with all its copies. -/
def Fld.inBlocks (f : Fld) : Bool := f.tight && blockWs.elem f.block

/-- A write of a field leaves the fields of all other windows as they are. -/
theorem KeepRegs.set_tight {ws : List Nat} {fs : List Fld} (d : Dev) {g : Fld} (v i j : Nat) (ht : g.tight = true) (h : g.block ∈ ws) :
    KeepRegs ws fs d (d.set g v i j) := by
  intro f hf hw _ k l
  by_cases b : g.has i j = true
  · by_cases a : f.has k l = true
    · refine Dev.get_set_ne d v (.inr fun e => hw ?_)
      rw [← f.block_of_key k l a (List.all_eq_true.1 regMap_tight f hf), e, g.block_of_key i j b ht]
      exact h
    · simp [Dev.get, a]
  · simp [Dev.get, Dev.set, b]

/-- A step within the blocks: the fault state, the radio and the pair stay, and of the windows SYS and PAIR at most HOLDOVER is
written. -/
structure BlockStep (a b : Dev) : Prop where
  sys : b.sys = a.sys
  rad : b.rad = a.rad
  pair : b.pair = a.pair
  regs : KeepRegs blockWs [R.SYS_LEVEL_HOLDOVER] a b

namespace BlockStep

theorem refl (d : Dev) : BlockStep d d := ⟨rfl, rfl, rfl, .refl _ _ _⟩

theorem trans {a b c : Dev} (h : BlockStep a b) (k : BlockStep b c) : BlockStep a c :=
  ⟨k.sys.trans h.sys, k.rad.trans h.rad, k.pair.trans h.pair, h.regs.trans k.regs⟩

/-- A record update outside the registers, the fault state, the radio and the pair. -/
theorem upd {a b c : Dev} (h : BlockStep a b) (o : c = { c with sys := b.sys, rad := b.rad, pair := b.pair, regs := b.regs }) :
    BlockStep a c :=
  h.trans ⟨(congrArg Dev.sys o :), (congrArg Dev.rad o :), (congrArg Dev.pair o :), .of_regs (congrArg Dev.regs o :)⟩

theorem then_set {a b : Dev} (h : BlockStep a b) {g : Fld} {v i j : Nat} (m : g.inBlocks = true) :
    BlockStep a (b.set g v i j) := by
  obtain ⟨ht, hwin⟩ := (Bool.and_eq_true _ _).mp m
  exact h.trans ⟨rfl, rfl, rfl, .set_tight b v i j ht (List.elem_iff.1 hwin)⟩

/-- What no report touches is more than what a step within the blocks keeps. -/
theorem of_rest {a b : Dev} (h : b.rest = a.rest) (k : KeepRegs blockWs [R.SYS_LEVEL_HOLDOVER] a b) : BlockStep a b :=
  ⟨Dev.rest_sys h, Dev.rest_rad h, Dev.rest_pair h, k⟩

theorem foldl {α : Type} {f : Dev → α → Dev} (hf : ∀ d x, BlockStep d (f d x)) (l : List α) (d : Dev) : BlockStep d (l.foldl f d) :=
  List.foldlRecOn (motive := BlockStep d) l f (refl d) fun b hb x _ => hb.trans (hf b x)

theorem ite {a b c : Dev} {p : Prop} [Decidable p] (h : BlockStep a b) (k : BlockStep a c) : BlockStep a (if p then b else c) := by
  split
  · exact h
  · exact k

/-! ### Reports -/

theorem record (d : Dev) (c : Nat) (x : List Byte) : BlockStep d (d.record c x) :=
  .of_rest (Dev.rest_record d c x) (.record (by decide) (by decide) d c x)

theorem pushRec (d : Dev) (t c : Nat) (x : List Byte) : BlockStep d (d.pushRec t c x) :=
  .of_rest (Dev.rest_pushRec d t c x) (.pushRec (by decide) (by decide) d t c x)

theorem complete (d : Dev) (q : Desc) (st : Status) : BlockStep d (d.complete q st) :=
  .of_rest (Dev.rest_complete d q st) (.complete (by decide) d q st)

theorem completeAll (d : Dev) (qs : List Desc) (st : Status) : BlockStep d (d.completeAll qs st) :=
  .of_rest (Dev.rest_completeAll d qs st) (.completeAll (by decide) d qs st)

theorem raise (d : Dev) {f : Fld} (i v : Nat) (m : f.inBlocks = true) : BlockStep d (d.raise f i v) := by
  obtain ⟨ht, hwin⟩ := (Bool.and_eq_true _ _).mp m
  exact .of_rest (Dev.rest_raise d f i v) ((KeepRegs.set_tight d _ _ _ ht (List.elem_iff.1 hwin)).trans (.devIrq (by decide) _ _))

theorem toHost (d : Dev) (x : Nat) (b : List Byte) : BlockStep d (d.toHost x b) := by
  refine .of_rest (Dev.rest_toHost d x b) ?_
  unfold Dev.toHost
  split <;> exact .of_regs rfl

/-! ### Supervision (R324, R325, R339, R341) -/

/-- A step of supervision is a step within the blocks. -/
theorem of_brk {a b : Dev} (h : BrkStep a b) : BlockStep a b := by
  refine ⟨?_, ?_, ?_, h.regs.of_fields fun g hg => .inr ?_⟩
  · rw [h.only]
  · rw [h.only]
  · rw [h.only]
  · exact List.elem_iff.1 (List.all_eq_true.1 (show brkFlds.all (fun g => blockWs.elem g.block) = true by decide) g hg)

theorem brkView (d : Dev) (m : Nat) : BlockStep d (d.brkView m) := .of_brk (.brkView d m)

theorem brkViewAll (d : Dev) : BlockStep d d.brkViewAll := .of_brk (.brkViewAll d)

theorem voidAuth (d : Dev) (m : Nat) : BlockStep d (d.voidAuth m) := .of_brk (.voidAuth d m)

theorem callAuth (d : Dev) (m : Nat) (c : Call) : BlockStep d (d.callAuth m c) := .of_brk (.callAuth d m c)

theorem setStop (d : Dev) (m cause speed : Nat) : BlockStep d (d.setStop m cause speed) := by
  unfold Dev.setStop
  extract_lets perm d1 d2
  have h2 : BlockStep d d2 := refl d |>.then_set (by decide) |>.then_set (by decide) |>.then_set (by decide)
  exact .ite (.refl d) (((h2.trans (.voidAuth _ m)).trans (.brkView _ m)).trans (.record _ _ _))

theorem setSrc (d : Dev) (k : Nat) (b : Bool) : BlockStep d (d.setSrc k b) := by
  rcases d.setSrc_cases k b with ⟨-, he⟩ | hstep
  · rw [he]
    exact .refl d
  · exact (((refl d).then_set (by decide)).trans (.record _ _ _)).trans (.of_brk hstep)

/-! ### Reservation (R291, R295, R304) -/

theorem rsvCounts (d : Dev) : BlockStep d d.rsvCounts := refl d |>.then_set (by decide) |>.then_set (by decide)

theorem syncLocks (d : Dev) : BlockStep d d.syncLocks := by
  unfold Dev.syncLocks
  exact .foldl (fun d _ => refl d |>.then_set (by decide) |>.then_set (by decide)) _ _

theorem segTake (d : Dev) (s m st rid : Nat) : BlockStep d (d.segTake s m st rid) := by
  unfold Dev.segTake
  extract_lets d1 d2
  have h1 : BlockStep d d1 := refl d |>.then_set (by decide) |>.then_set (by decide) |>.then_set (by decide) |>.then_set (by decide)
  have h2 : BlockStep d d2 := h1.trans (.foldl (fun d _ => refl d |>.then_set (by decide) |>.then_set (by decide)) _ _)
  refine .trans ?_ (.syncLocks _)
  exact h2.upd rfl

theorem grant (d : Dev) (q : Req) : BlockStep d (d.grant q) := by
  unfold Dev.grant
  extract_lets rid last rsv d1 d2 d3 brk d4
  have h1 : BlockStep d d1 := (refl d).upd rfl
  have h2 : BlockStep d d2 := h1.trans (.foldl (fun d p => .ite (.segTake d _ _ _ _) ((refl d).then_set (by decide))) _ _)
  have h3 : BlockStep d d3 := h2.then_set (by decide)
  have h4 : BlockStep d d4 := h3.upd rfl
  exact .ite (h4.trans (.callAuth _ _ _)) h4

theorem reqEnd (d : Dev) (q : Req) (st : Status) (rid : Nat) (v : Verdict) : BlockStep d (d.reqEnd q st rid v) := by
  unfold Dev.reqEnd
  extract_lets d1 out wb
  have h1 : BlockStep d d1 := .ite ((refl d).then_set (by decide)) (.refl d)
  split
  · exact .trans (.ite (h1.trans (.toHost _ _ _)) h1) (.complete _ _ _)
  · exact h1.upd rfl
  · exact h1

theorem reqDecide (d : Dev) (q : Req) (v : Verdict) (fresh : Bool) : BlockStep d (d.reqDecide q v fresh) := by
  unfold Dev.reqDecide
  extract_lets rid q1 q2 rsv
  refine .ite ((grant d q).trans (.reqEnd _ _ _ _ _)) (.ite ?_ (.reqEnd d q _ _ v))
  exact (refl d).upd rfl

theorem parkedPass (d : Dev) : BlockStep d d.parkedPass := by
  unfold Dev.parkedPass
  extract_lets l rsv d1
  have h1 : BlockStep d d1 := (refl d).upd rfl
  exact .ite (.refl d) ((h1.trans (.foldl (fun d q => .reqDecide d q _ _) _ _)).trans (.rsvCounts _))

theorem confLost (d : Dev) (a w cause : Nat) : BlockStep d (d.confLost a w cause) := by
  unfold Dev.confLost
  extract_lets l d1 d2
  have h1 : BlockStep d d1 := .foldl (fun d _ => (refl d).then_set (by decide)) _ _
  have h2 : BlockStep d d2 := h1.trans (.record _ _ _)
  exact .ite (.refl d) (.ite h2 (h2.trans (.foldl (fun _ _ => .setStop _ _ _ _) _ _)))

theorem confBack (d : Dev) (a w : Nat) : BlockStep d (d.confBack a w) := by
  unfold Dev.confBack
  extract_lets l d1
  have h1 : BlockStep d d1 := .foldl (fun d _ => (refl d).then_set (by decide)) _ _
  exact .trans (.ite h1 (h1.trans (.record _ _ _))) (.parkedPass _)

/-- A window's confirmation, passed on to waybills and segments (R536). -/
theorem confEval (d : Dev) (a cause : Nat) : BlockStep d (d.confEval a cause) := by
  unfold Dev.confEval
  extract_lets old new d1
  have h1 : BlockStep d d1 := (refl d).then_set (by decide)
  refine .ite (.refl d) (h1.trans (.foldl (fun d w => .ite (.refl d) ?_) _ _))
  extract_lets wb e
  have he : BlockStep d e := (refl d).upd rfl
  exact .ite (he.trans (.confBack _ _ _)) (he.trans (.confLost _ _ _ _))

/-! ### Axes (R517-R545) -/

theorem axSet (d : Dev) (a : Nat) (x : Axis) : BlockStep d (d.axSet a x) := by
  unfold Dev.axSet
  extract_lets chop start x' axs d1
  have h1 : BlockStep d d1 := (refl d).upd rfl
  exact h1 |>.then_set (by decide) |>.then_set (by decide)

theorem axSync (d : Dev) (a : Nat) : BlockStep d (d.axSync a) := refl d |>.then_set (by decide) |>.then_set (by decide) |>.then_set (by decide)

theorem axStand (d : Dev) (a : Nat) : BlockStep d (d.axStand a) := by
  unfold Dev.axStand
  exact (BlockStep.axSync d a).trans (.axSet _ _ _) |>.then_set (by decide) |>.then_set (by decide)

theorem moveOver (d : Dev) (desc : Option Desc) (wb : Option Nat) (st : Status) : BlockStep d (d.moveOver desc wb st) := by
  unfold Dev.moveOver
  extract_lets d1
  have h1 : BlockStep d d1 := by
    unfold d1
    split
    · exact .complete d _ st
    · exact .refl d
  split
  · exact h1.upd rfl
  · exact h1

theorem grpSet (d : Dev) (g : Nat) (x : Group) : BlockStep d (d.grpSet g x) := (refl d).upd rfl

theorem groupBrake (d : Dev) (g dec : Nat) : BlockStep d (d.groupBrake g dec) := by
  unfold Dev.groupBrake
  exact .ite (.refl d) (.trans (.grpSet d g _) (.foldl (fun _ _ => .axSet _ _ _) _ _))

theorem profPut (d : Dev) (a : Nat) (p : Prof) : BlockStep d (d.profPut a p) :=
  refl d |>.then_set (by decide) |>.then_set (by decide) |>.then_set (by decide) |>.then_set (by decide)
    |>.then_set (by decide) |>.then_set (by decide) |>.then_set (by decide)

theorem profApply (d : Dev) (a : Nat) : BlockStep d (d.profApply a) := by
  unfold Dev.profApply
  exact .ite (BlockStep.profPut d a _ |>.then_set (by decide)) (.refl d)

theorem groupStart (d : Dev) (g : Nat) (q : Desc) (tg : List (Nat × Int)) : BlockStep d (d.groupStart g q tg) := by
  unfold Dev.groupStart
  extract_lets d1 mem dmax lead red lp p d2 d3
  have h1 : BlockStep d d1 := .foldl (fun _ _ => .profApply _ _) _ _
  have h2 : BlockStep d d2 := h1.trans (.grpSet _ _ _)
  have h3 : BlockStep d d3 := h2 |>.then_set (by decide) |>.then_set (by decide)
  refine h3.trans (.foldl (fun d x => ?_) _ _)
  exact (BlockStep.axSet d _ _ |>.then_set (by decide) |>.then_set (by decide)).trans (.confEval _ _ _)

theorem groupNext (d : Dev) (g : Nat) : BlockStep d (d.groupNext g) := by
  unfold Dev.groupNext
  extract_lets x
  split
  · refine .ite (.refl d) (.ite ?_ ?_)
    · exact (BlockStep.grpSet d g _).trans (.groupStart _ _ _ _)
    · exact (BlockStep.grpSet d g _).trans (.complete _ _ _)
  · exact .refl d

theorem groupOver (d : Dev) (g : Nat) (st : Status) : BlockStep d (d.groupOver g st) := by
  unfold Dev.groupOver
  extract_lets x d1 d2
  have h1 : BlockStep d d1 := .foldl (fun d _ => .ite (.axStand d _) (.refl d)) _ _
  have h2 : BlockStep d d2 := h1.trans (.grpSet _ _ _)
  refine .trans ?_ (.groupNext _ g)
  split
  · exact (h2.then_set (by decide)).trans (.complete _ _ _)
  · exact h2.then_set (by decide)

theorem axDrop (d : Dev) (a fault : Nat) : BlockStep d (d.axDrop a fault) := by
  unfold Dev.axDrop
  extract_lets d1 x d2 d3 d4 d5 x5 d6 d7 d8
  have h1 : BlockStep d d1 := .axSync d a
  have h2 : BlockStep d d2 := by
    unfold d2
    split
    · exact h1.trans (.groupBrake _ _ _)
    · exact h1
  have h4 : BlockStep d d4 := h2 |>.then_set (by decide) |>.then_set (by decide) |>.then_set (by decide) |>.then_set (by decide)
  have h5 : BlockStep d d5 := h4.trans (.axStand _ a)
  have h6 : BlockStep d d6 := h5.trans (.axSet _ a _)
  have h7 : BlockStep d d7 := .ite (h6.trans (.record _ _ _)) h6
  have h8 : BlockStep d d8 := (h7.trans (.moveOver _ _ _ _)).trans (.moveOver _ _ _ _)
  exact (h8.trans (.confEval _ a _)).trans (.foldl (fun _ _ => .groupNext _ _) _ _)

/-- The loss of the gate drives (R40). -/
theorem axRegionLost (d : Dev) : BlockStep d d.axRegionLost := by
  unfold Dev.axRegionLost
  refine .trans (.foldl (fun _ _ => .axDrop _ _ _) _ _) (.foldl (fun d g => ?_) _ _)
  extract_lets x d1
  have h1 : BlockStep d d1 := by
    unfold d1
    split
    · exact .complete d _ _
    · exact .refl d
  exact .ite ((h1.trans (.grpSet _ g _)).trans (.groupOver _ g _)) (h1.trans (.grpSet _ g _))

/-- Axes frozen where they stand (R29). -/
theorem axesFreeze (d : Dev) : BlockStep d d.axesFreeze := by
  unfold Dev.axesFreeze
  refine .foldl (fun d a => .ite (.refl d) ?_) _ _
  exact (((BlockStep.axStand d a).trans (.axSet _ a _)).trans (.moveOver _ _ _ _)).trans (.moveOver _ _ _ _)

end BlockStep

end Sys2Proof.Machine
end

section
/-!
PROOFS. Steps within the blocks, continued: metering intervals, bands and searches, the time source, and the waybills' rounds.
-/

namespace Sys2Proof.Machine
namespace BlockStep

/-! ### Metering (R473) -/

theorem acctMod (d : Dev) (a : Nat) (f : Acct → Acct) : BlockStep d (d.acctMod a f) := (refl d).upd rfl

theorem gapBound (d : Dev) (srcs : Nat) : BlockStep d (d.gapBound srcs) := by
  unfold Dev.gapBound
  exact .foldl (fun d _ => .ite (.acctMod d _ _) (.refl d)) _ _

theorem ivBegin (d : Dev) (k srcs : Nat) : BlockStep d (d.ivBegin k srcs) := by
  unfold Dev.ivBegin
  extract_lets d1 mtr
  have h1 : BlockStep d d1 := .gapBound d _
  exact h1.upd rfl

/-- The loss of the metering region begins an interval. -/
theorem meterLost (d : Dev) : BlockStep d d.meterLost := .ivBegin d _ _

/-! ### Bands and searches (R104, R105) -/

theorem modChan (d : Dev) (ch : Nat) (f : Chan → Chan) : BlockStep d (d.modChan ch f) := (refl d).upd rfl

theorem chState (d : Dev) (ch st : Nat) : BlockStep d (d.chState ch st) := by
  unfold Dev.chState
  extract_lets old d1 d2
  have h1 : BlockStep d d1 := ((refl d).then_set (by decide)).trans (.modChan _ _ _)
  have h2 : BlockStep d d2 := .ite (h1.then_set (by decide)) h1
  exact h2.then_set (by decide)

theorem bandLost (d : Dev) (b : Nat) : BlockStep d (d.bandLost b) := by
  unfold Dev.bandLost
  refine .foldl (fun d ch => ?_) _ _
  extract_lets st
  refine .ite (.ite (.chState d _ _) (.ite ?_ (.refl d))) (.refl d)
  exact (BlockStep.chState d ch stLost).trans (.modChan _ _ _)

theorem dropSearches (d : Dev) (p : Search → Bool) (st : Status) : BlockStep d (d.dropSearches p st) := by
  unfold Dev.dropSearches
  extract_lets out sky d1
  have h1 : BlockStep d d1 := by
    refine .then_set ?_ (by decide)
    exact (refl d).upd rfl
  refine h1.trans (.foldl (fun d x => ?_) _ _)
  extract_lets e
  have he : BlockStep d e := by
    unfold e
    split
    · exact .complete d _ st
    · exact .refl d
  split
  · exact .ite ((he.trans (.chState _ _ _)).trans (.raise _ _ _ (by decide))) he
  · exact he

theorem rfLost (d : Dev) (b : Nat) : BlockStep d (d.rfLost b) := by
  unfold Dev.rfLost
  extract_lets own sky d1
  have h1 : BlockStep d d1 := by
    refine .then_set ?_ (by decide)
    exact (refl d).upd rfl
  exact (h1.trans (.dropSearches _ _ _)).trans (.bandLost _ b)

theorem bandFault (d : Dev) (b cause : Nat) : BlockStep d (d.bandFault b cause) := by
  unfold Dev.bandFault
  extract_lets d1 d2 sky
  have h1 : BlockStep d d1 := (rfLost d b |>.then_set (by decide)).trans (.raise _ _ _ (by decide))
  have h2 : BlockStep d d2 := h1.trans (.record _ _ _)
  exact h2.upd rfl

/-- The sky input is gone (R40, R105). -/
theorem skyLost (d : Dev) : BlockStep d d.skyLost := by
  unfold Dev.skyLost
  exact .foldl (fun _ _ => .bandFault _ _ _) _ _

/-! ### The time source (R181, R182, R184) -/

/-- HOLDOVER is the one field of SYS that a step within the blocks may write. -/
theorem then_holdover {a b : Dev} (h : BlockStep a b) (x : Bool) : BlockStep a (b.put R.SYS_LEVEL_HOLDOVER x) :=
  h.trans ⟨rfl, rfl, rfl, .set b _ 0 0 (mem_of_siteFlds (by decide)) (.inl (List.mem_singleton.2 rfl))⟩

theorem setHoldover (d : Dev) (b : Bool) : BlockStep d (d.setHoldover b) := by
  unfold Dev.setHoldover
  refine .then_holdover ?_ b
  exact (refl d).upd rfl

theorem timeStatus (d : Dev) : BlockStep d d.timeStatus := by
  unfold Dev.timeStatus
  extract_lets src ho was d1 d2
  have h1 : BlockStep d d1 := (refl d).then_set (by decide)
  have h2 : BlockStep d d2 := h1.trans (.setHoldover _ _) |>.then_set (by decide)
  exact .ite (h2.trans (.record _ _ _)) h2

theorem timeError (d : Dev) (e : Int) : BlockStep d (d.timeError e) := by
  unfold Dev.timeError
  extract_lets d1 d2 t
  have h1 : BlockStep d d1 := (refl d).then_set (by decide)
  have h2 : BlockStep d d2 := h1.then_set (by decide)
  exact .ite h1 (.ite (h2.upd (by rfl)) (h1.upd (by rfl)))

theorem timeSource (d : Dev) : BlockStep d d.timeSource := by
  unfold Dev.timeSource
  extract_lets old new u d1 l d2 clk tim d3 tim' d4 d5 d6
  have h1 : BlockStep d d1 := (refl d).then_set (by decide)
  have h2 : BlockStep d d2 := .ite h1 (h1.then_set (by decide))
  have h3 : BlockStep d d3 := h2.upd rfl
  have h4 : BlockStep d d4 := h1.upd rfl
  have h5 : BlockStep d d5 := .ite (h3.then_set (by decide)) (.ite (h4.trans (.timeError _ _)) h1)
  have h6 : BlockStep d d6 := h5.then_set (by decide)
  exact .ite (.timeStatus d) ((h6.trans (.record _ _ _)).trans (.timeStatus _))

/-! ### Waybills (R374-R389) -/

theorem wbPut (d : Dev) (i : Nat) (w : Waybill) : BlockStep d (d.wbPut i w) := (refl d).upd rfl

theorem wbUnbind (d : Dev) (w : Waybill) : BlockStep d (d.wbUnbind w) := by
  unfold Dev.wbUnbind
  split
  · exact refl d |>.then_set (by decide) |>.then_set (by decide) |>.then_set (by decide)
  · exact .refl d

theorem wbWithdraw (d : Dev) (i : Nat) : BlockStep d (d.wbWithdraw i) := by
  unfold Dev.wbWithdraw
  refine .trans ?_ (.rsvCounts _)
  exact (refl d).upd rfl

theorem bindLater (d : Dev) (mask lot : Nat) : BlockStep d (d.bindLater mask lot) := (refl d).upd rfl

theorem wbEnd (d : Dev) (i status detail result : Nat) : BlockStep d (d.wbEnd i status detail result) := by
  unfold Dev.wbEnd
  split
  · exact .refl d
  · extract_lets d1 axs d2 d3 d4 d5 wb
    have h1 : BlockStep d d1 := (wbUnbind d _).trans (.wbWithdraw _ i)
    have h2 : BlockStep d d2 := h1.upd rfl
    have h3 : BlockStep d d3 := .ite (h2.trans (.bindLater _ _ _)) h2
    have h4 : BlockStep d d4 := h3.trans (.wbPut _ i _)
    have h5 : BlockStep d d5 := h4.then_set (by decide)
    exact .ite (.refl d) (h5.upd rfl)

theorem wbFire (d : Dev) (i : Nat) (w : Waybill) : BlockStep d (d.wbFire i w) := by
  unfold Dev.wbFire
  refine .trans ?_ (.wbPut _ _ _)
  exact (refl d).upd rfl

theorem armOp (d : Dev) (i : Nat) (w : Waybill) (j : Nat) (o : WbOp) : BlockStep d (d.armOp i w j o) := by
  unfold Dev.armOp
  extract_lets put
  have hput : ∀ o, BlockStep d (put d o) := fun o => .wbPut d i _
  split
  · exact hput _
  · exact .ite ((hput _).trans (.wbEnd _ _ _ _ _)) (hput _)
  · exact hput _
  · exact hput _
  · refine .trans ?_ (.wbPut _ _ _)
    exact (refl d).upd rfl
  · exact hput _
  · exact hput _

theorem wbAdvance (d : Dev) (i : Nat) : BlockStep d (d.wbAdvance i) := by
  unfold Dev.wbAdvance
  extract_lets d1
  have h1 : BlockStep d d1 := by
    refine .foldl (fun d j => ?_) _ _
    split
    · exact .ite (.armOp d _ _ _ _) (.refl d)
    · exact .refl d
  split
  · exact .ite (h1.trans (.wbEnd _ _ _ _ _)) (.ite (h1.trans (.wbFire _ _ _)) h1)
  · exact h1

theorem wbEach (d : Dev) (f : Waybill → WbOp → WbOp) : BlockStep d (d.wbEach f) := by
  unfold Dev.wbEach
  refine .foldl (fun d p => ?_) _ _
  split
  · exact .ite (.trans (.wbPut d _ _) (.wbAdvance _ _)) (.refl d)
  · exact .refl d

theorem wbRoute (d : Dev) (i no out reason : Nat) : BlockStep d (d.wbRoute i no out reason) := by
  unfold Dev.wbRoute
  split
  · exact .refl d
  · split
    · exact .refl d
    · refine .ite (.refl d) ?_
      split
      · exact .trans (.wbPut d _ _) (.wbAdvance _ _)
      · exact .ite (.wbPut d _ _) (.wbEnd d _ _ _ _)
      · exact .wbEnd d _ _ _ _
      · exact .wbEnd d _ _ _ _

theorem sendCancel (d : Dev) (i : Nat) : BlockStep d (d.sendCancel i) := by
  unfold Dev.sendCancel
  split
  · refine .trans ?_ (.wbPut _ _ _)
    exact (refl d).upd rfl
  · exact .refl d

theorem wbLost (d : Dev) (m cause : Nat) : BlockStep d (d.wbLost m cause) := by
  unfold Dev.wbLost
  split
  · exact ((BlockStep.ite (.sendCancel d _) (.refl d)).trans (.record _ _ _)).trans (.wbEnd _ _ _ _ _)
  · exact .refl d

theorem portTake (d : Dev) (x : WbIn) : BlockStep d (d.portTake x) := by
  cases x with
  | route i no out reason => exact .wbRoute d i no out reason
  | axis a w on => exact .wbEach d _
  | pulse n => exact .wbEach d _
  | moveEnd i status detail =>
    unfold Dev.portTake
    dsimp only
    split
    · exact .ite (.wbEnd d _ _ _ _) (.refl d)
    · exact .refl d
  | ended id status => exact .wbEach d _
  | lost m cause => exact .wbLost d m cause

theorem bindOne {d e : Dev} (h : d.bindOne = some e) : BlockStep d e := by
  unfold Dev.bindOne at h
  dsimp only at h
  split at h
  · obtain rfl := Option.some.inj h
    refine .trans ?_ (.wbAdvance _ _)
    exact .ite (BlockStep.wbPut d _ _ |>.then_set (by decide) |>.then_set (by decide) |>.then_set (by decide))
      ((BlockStep.wbPut d _ _).then_set (by decide))
  · cases h

/-- Every round of the waybills' port, and of binding, is such a step. -/
theorem settleN (n : Nat) (d : Dev) : BlockStep d (d.settleN n) := by
  induction n generalizing d with
  | zero => exact .refl d
  | succ n ih =>
    unfold Dev.settleN
    split
    · refine .trans ?_ (ih _)
      refine .trans ?_ (.portTake _ _)
      exact (refl d).upd rfl
    · split
      · next h => exact (bindOne h).trans (ih _)
      · exact .refl d

theorem dockBind (d : Dev) : BlockStep d d.dockBind := by
  unfold Dev.dockBind
  refine .foldl (fun d k => .ite (.refl d) ?_) _ _
  extract_lets l
  exact .ite (.refl d) ((refl d).upd rfl)

theorem wbView (d : Dev) : BlockStep d d.wbView := by
  unfold Dev.wbView
  extract_lets d1 d2 d3 d4
  have h3 : BlockStep d d3 :=
    refl d |>.then_set (by decide) |>.then_set (by decide) |>.then_set (by decide)
      |>.then_set (by decide) |>.then_set (by decide) |>.then_set (by decide)
  have h4 : BlockStep d d4 := h3.trans (.foldl (fun d _ => refl d |>.then_set (by decide) |>.then_set (by decide)) _ _)
  exact h4.trans (.foldl (fun d _ => (refl d).then_set (by decide)) _ _)

/-- The waybills settle (R368-R389). -/
theorem settle (d : Dev) : BlockStep d d.settle := ((settleN _ d).trans (.dockBind _)).trans (.wbView _)

theorem wbRelease (d : Dev) : BlockStep d d.wbRelease := by
  unfold Dev.wbRelease
  extract_lets l wb d1
  have h1 : BlockStep d d1 := (refl d).upd rfl
  exact h1.trans (.foldl (fun d _ => .trans (.ite (.refl d) (.toHost d _ _)) (.complete _ _ _)) _ _)

/-- What waited for the standby goes on (R295, R307, R394). -/
theorem copyGate (d : Dev) : BlockStep d d.copyGate := ((wbRelease d).trans (.brkViewAll _)).trans (.settle _)

end BlockStep
end Sys2Proof.Machine
end

section
/-!
PROOFS. The reaction to a fault (R27, R29, R30): the host is told, the cell is dragged or handed over, and a package fault freezes the axes
first.
-/

namespace Sys2Proof.Machine

/-! ### Drag sources, read back (R341) -/

theorem bitOf_putBit_true (v i : Nat) : bitOf (putBit v i true) i = true := by
  unfold putBit
  split
  · next h => exact h
  · next h =>
    rw [bitOf_eq_testBit] at h
    simp only [if_true, bitOf_eq_testBit, Nat.add_comm v, Nat.testBit_two_pow_add_eq, h, Bool.not_false]

theorem mem_BRK_SRC_SRC : R.BRK_SRC_SRC ∈ regMap := mem_of_siteFlds (by decide)

/-- The sources after a change are the new set. -/
theorem Dev.get_setSrc_src (d : Dev) (k : Nat) (b : Bool) : (d.setSrc k b).get R.BRK_SRC_SRC = d.srcNew k b % 2 ^ 6 := by
  rcases d.setSrc_cases k b with ⟨hsame, he⟩ | hstep
  · rw [he, hsame]
    exact (Nat.mod_eq_of_lt (d.get_lt R.BRK_SRC_SRC 0 0)).symm
  · rw [hstep.regs _ mem_BRK_SRC_SRC (by simp) (by decide), KeepRegs.record_exact _ _ _ _ mem_BRK_SRC_SRC (by decide) (by decide),
      Dev.get_set_self _ _ _ _ _ (by decide)]
    rfl

theorem Dev.bit_setSrc_true (d : Dev) {k : Nat} (hk : k < 6) : (d.setSrc k true).bit R.BRK_SRC_SRC k = true := by
  unfold Dev.bit
  rw [d.get_setSrc_src, bitOf_eq_testBit, Nat.testBit_mod_two_pow, ← bitOf_eq_testBit, Dev.srcNew, bitOf_putBit_true]
  simp [hk]

/-- What neither the recorder, nor an item, nor supervision writes stays through a change of the sources. -/
theorem Dev.get_setSrc (d : Dev) (k : Nat) (b : Bool) {f : Fld} (hf : f ∈ regMap) (hsrc : f ≠ R.BRK_SRC_SRC) (hevt : f.block ≠ 0x12)
    (hitem : f ∉ itemFlds) (hbrk : f ∉ brkFlds) (i j : Nat) : (d.setSrc k b).get f i j = d.get f i j := by
  rcases d.setSrc_cases k b with ⟨-, he⟩ | hstep
  · rw [he]
  · rw [hstep.regs _ hf (by simp) hbrk, KeepRegs.record_exact _ _ _ _ hf (by simpa using hevt) hitem,
      Dev.get_set_fld _ hf mem_BRK_SRC_SRC hsrc]

theorem Dev.flushWant_setSrc {d : Dev} (h : d.evt.flushWant = true) (k : Nat) (b : Bool) : (d.setSrc k b).evt.flushWant = true := by
  rcases d.setSrc_cases k b with ⟨-, he⟩ | hstep
  · rw [he]
    exact h
  · have hevt := congrArg Dev.evt hstep.only
    rw [hevt]
    exact Dev.flushWant_record (d := d.set R.BRK_SRC_SRC (d.srcNew k b)) h _ _

/-! ### The host is told (R27) -/

theorem Dev.get_faultIrq (d : Dev) : d.faultIrq.get R.RING_DEV_IRQ_FAULT = 1 := by
  have hset : (d.set R.RING_DEV_IRQ_FAULT 1).get R.RING_DEV_IRQ_FAULT = 1 := Dev.get_set_self _ _ _ _ _ (by decide)
  unfold Dev.faultIrq Dev.devIrq
  extract_lets was d1
  split <;> exact hset

/-- The host is told of a fault: its interrupt and a flush of the log. -/
def Dev.told (d : Dev) : Dev := d.faultIrq.wantFlush

theorem Dev.get_told (d : Dev) {f : Fld} (hf : f ∈ regMap) (h : f.block ≠ 0x0B) (i j : Nat) : d.told.get f i j = d.get f i j :=
  KeepRegs.devIrq (ws := [0x0B]) (fs := []) (by decide) d 0 f hf (by simpa using h) (by simp) i j

theorem mem_PAIR_STATUS_ROLE : R.PAIR_STATUS_ROLE ∈ regMap := mem_of_siteFlds (by decide)

theorem mem_PAIR_STATUS_PAIRED : R.PAIR_STATUS_PAIRED ∈ regMap := mem_of_siteFlds (by decide)

@[simp] theorem Dev.reins_told (d : Dev) : d.told.reins = d.reins := by
  simp only [Dev.reins, d.get_told mem_PAIR_STATUS_ROLE (by decide)]

@[simp] theorem Dev.paired_told (d : Dev) : d.told.paired = d.paired := by
  simp only [Dev.paired, Dev.on, d.get_told mem_PAIR_STATUS_PAIRED (by decide)]

@[simp] theorem Dev.partnerReady_told (d : Dev) : d.told.partnerReady = d.partnerReady := by
  have hmem : R.PAIR_STATUS_PARTNER_READY ∈ regMap := mem_of_siteFlds (by decide)
  simp only [Dev.partnerReady, Dev.on, Dev.reins_told, d.get_told mem_PAIR_STATUS_PAIRED (by decide), d.get_told hmem (by decide)]

/-- What the host sees of a fault. -/
def Dev.Alarm (d : Dev) : Prop := d.get R.RING_DEV_IRQ_FAULT = 1 ∧ d.evt.flushWant = true

theorem Dev.alarm_told (d : Dev) : d.told.Alarm := ⟨d.get_faultIrq, rfl⟩

/-! ### The reaction, by its four rows (R30) -/

/-- Without the reins the device counts as faulty and stays silent. -/
theorem Dev.react_of_not_reins {d : Dev} {alone hand : Bool} (hreins : d.reins = false) (h : hand = true ∨ alone = false) :
    d.react alone hand =
      ({ d.told with pair := { d.told.pair with ownFault := true }, rad := { d.told.rad with faulted := true } } : Dev).readyEval := by
  have hr : (!d.told.reins) = true := by simp [hreins]
  have hnot : ¬ (alone && !hand) = true := by rcases h with h | h <;> simp [h]
  unfold Dev.react
  exact (if_pos hr).trans (if_neg hnot)

/-- With the reins and a ready standby it hands over. -/
theorem Dev.react_of_standby {d : Dev} {alone hand : Bool} (hreins : d.reins = true) (hpaired : d.paired = true)
    (hready : d.partnerReady = true) (h : hand = true ∨ alone = false) : d.react alone hand = d.told.lapse 2 := by
  have hr : ¬ (!d.told.reins) = true := by simp [hreins]
  have hgo : (d.told.paired && (hand || !alone) && d.told.partnerReady) = true := by
    rcases h with h | h <;> simp [hpaired, hready, h]
  unfold Dev.react
  exact (if_neg hr).trans (if_pos hgo)

/-- Alone, it carries on where the fault lets it, and drags the whole cell where not. -/
theorem Dev.react_of_unpaired {d : Dev} (alone hand : Bool) (hreins : d.reins = true) (hpaired : d.paired = false) :
    d.react alone hand = if alone then d.told else d.told.dragAll := by
  have hr : ¬ (!d.told.reins) = true := by simp [hreins]
  have hgo : ¬ (d.told.paired && (hand || !alone) && d.told.partnerReady) = true := by simp [hpaired]
  unfold Dev.react
  exact (if_neg hr).trans (if_neg hgo)

/-- Drag of the whole cell, with its source and DRAG_OUT; an alarm stands through it. -/
theorem Dev.dragAll_asserts {d : Dev} (h : d.Alarm) :
    d.dragAll.bit R.BRK_SRC_SRC 3 = true ∧ d.dragAll.get R.BRK_STATUS_DRAG_OUT = 1 ∧ d.dragAll.Alarm := by
  have hout : R.BRK_STATUS_DRAG_OUT ∈ regMap := mem_of_siteFlds (by decide)
  have hirq : R.RING_DEV_IRQ_FAULT ∈ regMap := mem_of_siteFlds (by decide)
  refine ⟨?_, Dev.get_set_self _ _ _ _ _ (by decide), ?_, Dev.flushWant_setSrc h.2 3 true⟩
  · have hsrc : d.dragAll.get R.BRK_SRC_SRC = (d.setSrc 3 true).get R.BRK_SRC_SRC :=
      Dev.get_set_fld _ mem_BRK_SRC_SRC hout (by decide) _ _ _ _ _
    rw [Dev.bit, hsrc]
    exact d.bit_setSrc_true (by decide)
  · refine (Dev.get_set_fld _ hirq hout (by decide) _ _ _ _ _).trans ?_
    rw [d.get_setSrc 3 true hirq (by decide) (by decide) (by decide) (by decide)]
    exact h.1

/-- Either way the host is told. -/
theorem Dev.alarm_react_unpaired {d : Dev} (alone hand : Bool) (hreins : d.reins = true) (hpaired : d.paired = false) :
    (d.react alone hand).Alarm := by
  obtain ⟨-, -, hdrag⟩ := Dev.dragAll_asserts d.alarm_told
  rw [Dev.react_of_unpaired alone hand hreins hpaired]
  split
  · exact d.alarm_told
  · exact hdrag

/-- Readiness is shown in a register and a record: no state of the pair or the radio follows it. -/
theorem Dev.readyEval_pair_rad (d : Dev) : d.readyEval.pair = d.pair ∧ d.readyEval.rad = d.rad := by
  unfold Dev.readyEval
  extract_lets r
  split
  · exact ⟨rfl, rfl⟩
  · simp

/-! ### The package fault (R29, R30) -/

/-- A package fault noted, with the outputs AOUT, PWM, PULSE_OUT and AX_G frozen. -/
def Dev.pkgNoted (d : Dev) : Dev :=
  { d with sys := { d.sys with pkg := true }, pair := { d.pair with frozen := true, gates := d.allLegs } }

/-- The device that a package fault leaves to the reaction: the axes stand, the record is written. -/
def Dev.pkgFrozen (d : Dev) : Dev := d.pkgNoted.axesFreeze.pushRec d.pkgNoted.axesFreeze.now (sysCode 2) (u64 d.pkgNoted.axesFreeze.now)

theorem Dev.pkgFault_eq (d : Dev) : d.pkgFault = d.pkgFrozen.react false true := by
  unfold Dev.pkgFault Dev.pkgFrozen Dev.pkgNoted
  rfl

/-- Freezing is a step within the blocks once the fault is noted. -/
theorem Dev.pkgFrozen_step (d : Dev) : BlockStep d.pkgNoted d.pkgFrozen := by
  unfold Dev.pkgFrozen
  exact (BlockStep.axesFreeze _).trans (.pushRec _ _ _ _)

theorem Dev.pkgFrozen_noted (d : Dev) : d.pkgFrozen.sys.pkg = true ∧ d.pkgFrozen.pair.frozen = true := by
  obtain ⟨hsys, -, hpair, -⟩ := d.pkgFrozen_step
  rw [hsys, hpair]
  exact ⟨rfl, rfl⟩

/-- The roles of the pair stay through a step within the blocks. -/
theorem BlockStep.reins_eq {a b : Dev} (h : BlockStep a b) : b.reins = a.reins := by
  simp only [Dev.reins, h.regs _ mem_PAIR_STATUS_ROLE (by decide) (by decide)]

theorem BlockStep.paired_eq {a b : Dev} (h : BlockStep a b) : b.paired = a.paired := by
  simp only [Dev.paired, Dev.on, h.regs _ mem_PAIR_STATUS_PAIRED (by decide) (by decide)]

/-- A fault that stands is told, alone with the reins. -/
theorem Dev.alarm_faultSeen {d : Dev} {f : SysFault} (stands : d.faultStands f = true) (hreins : d.reins = true) (hpaired : d.paired = false) :
    (d.faultSeen f).Alarm := by
  have hcarry := fun hand => Dev.alarm_react_unpaired true hand hreins hpaired
  cases f with
  | package =>
    have hstep := d.pkgFrozen_step
    exact Dev.alarm_react_unpaired (d := d.pkgFrozen) false true (hstep.reins_eq.trans hreins) (hstep.paired_eq.trans hpaired)
  | yardCluster =>
    simp only [Dev.faultStands, Bool.not_eq_true'] at stands
    simpa [Dev.faultSeen, stands] using hcarry true
  | fftEngines =>
    simp only [Dev.faultStands, beq_iff_eq] at stands
    simpa [Dev.faultSeen, stands] using hcarry true
  | resEngine =>
    simp only [Dev.faultStands, Bool.not_eq_true'] at stands
    simpa [Dev.faultSeen, stands] using hcarry true
  | hostLink peer =>
    simp only [Dev.faultStands, Bool.not_eq_true'] at stands
    simpa [Dev.faultSeen, stands] using hcarry peer

/-- A fault that does not stand changes nothing. -/
theorem Dev.faultSeen_of_not_stands {d : Dev} {f : SysFault} (h : d.faultStands f = false) : d.faultSeen f = d := by
  cases f with
  | package => simp [Dev.faultStands] at h
  | yardCluster => simp_all [Dev.faultStands, Dev.faultSeen]
  | fftEngines => simp_all [Dev.faultStands, Dev.faultSeen]
  | resEngine => simp_all [Dev.faultStands, Dev.faultSeen]
  | hostLink peer => simp_all [Dev.faultStands, Dev.faultSeen]

/-- Settles O13: the reaction's rows, and the two commands that run it. -/
theorem faultReaction : Obligations.FaultReaction := by
  unfold Obligations.FaultReaction
  refine ⟨?_, ?_, ?_, ?_, ?_, ?_⟩
  · intro d hand hreins hpaired
    rw [Dev.react_of_unpaired false hand hreins hpaired]
    exact Dev.dragAll_asserts d.alarm_told
  · intro d alone hand hreins hpaired hready h
    exact Dev.react_of_standby hreins hpaired hready h
  · intro d alone hand hreins h
    rw [Dev.react_of_not_reins hreins h]
    obtain ⟨hpair, hrad⟩ := Dev.readyEval_pair_rad
      { d.told with pair := { d.told.pair with ownFault := true }, rad := { d.told.rad with faulted := true } }
    rw [hpair, hrad]
    exact ⟨rfl, rfl⟩
  · intro f s run stands hreins hpaired
    obtain ⟨hirq, hflush⟩ := Dev.alarm_faultSeen stands hreins hpaired
    refine ⟨{ s with dev := s.dev.faultSeen f }, ?_, hirq, hflush, rfl⟩
    simp [exec, execFaultDetected, onDev, run]
  · intro f s h
    refine ⟨s, ?_, rfl⟩
    simp [exec, execFaultDetected, onDev, Dev.faultSeen_of_not_stands h]
  · intro s run
    obtain ⟨hpkg, hfrozen⟩ := s.dev.pkgFrozen_noted
    refine ⟨{ s with dev := s.dev.pkgFault }, ?_, s.dev.pkgFrozen, by rw [Dev.pkgFault_eq], hpkg, hfrozen⟩
    simp [exec, execSafeWatchdogExpiry, onDev, run]

end Sys2Proof.Machine
end

section
/-!
PROOFS. Lost regions (R26, R27, R39, R40): the record and the list of a loss, the retries of the die-to-die link, and what is left once the
field die is gone.
-/

namespace Sys2Proof.Machine

/-! ### The loss of a region (R27) -/

/-- The record of a loss. -/
def Dev.lossRec (d : Dev) (r : Region) (c : RegionCause) : Dev :=
  d.pushRec d.now (sysCode 1)
    (u8 (Config.argCode (sysCode 1) (regionCode r)) ++ u8 (Config.argCode (sysCode 1) (16 + regionCauseCode c)) ++ u64 d.now)

/-- The device once a loss is recorded and counted, before its effect. -/
def Dev.lossNoted (d : Dev) (r : Region) (c : RegionCause) : Dev :=
  { d.lossRec r c with sys := { (d.lossRec r c).sys with lost := (d.lossRec r c).sys.lost ++ [regionCode r] } }

theorem Dev.regionLost_eq {d : Dev} {r : Region} (run : d.running = true) (fresh : regionCode r ∉ d.sys.lost) (c : RegionCause) (peer : Bool) :
    d.regionLost r c peer = (d.lossNoted r c).regionEffect peer r := by
  have hgo : ¬ (!d.running || d.sys.lost.contains (regionCode r)) = true := by simp [run, fresh]
  unfold Dev.regionLost
  rw [if_neg hgo]
  rfl

theorem Dev.lossNoted_lost (d : Dev) (r : Region) (c : RegionCause) : (d.lossNoted r c).sys.lost = d.sys.lost ++ [regionCode r] := by
  change (d.pushRec _ _ _).sys.lost ++ _ = _
  rw [Dev.pushRec_sys]

theorem Dev.lossNoted_regs (d : Dev) (r : Region) (c : RegionCause) : KeepRegs [0x12] itemFlds d (d.lossNoted r c) := by
  have hrec : KeepRegs [0x12] itemFlds d (d.lossRec r c) := by
    unfold Dev.lossRec
    exact .pushRec_exact d _ _ _
  unfold Dev.lossNoted
  generalize d.lossRec r c = x at hrec ⊢
  exact hrec.upd rfl

/-- The last record of the buffer is the loss, at the time of its detection. -/
theorem Dev.lossNoted_last (d : Dev) (r : Region) (c : RegionCause) :
    ((d.lossNoted r c).evt.buf.getLast?.map fun y => (y.t, y.code)) = some (d.now, sysCode 1) := by
  obtain ⟨⟨l, x, hbuf, ht, hcode⟩, -⟩ := d.evt_pushRec d.now (sysCode 1)
    (u8 (Config.argCode (sysCode 1) (regionCode r)) ++ u8 (Config.argCode (sysCode 1) (16 + regionCauseCode c)) ++ u64 d.now)
  have hb : (d.lossNoted r c).evt.buf = l ++ [x] := hbuf
  rw [hb, List.getLast?_concat]
  simp [ht, hcode]

/-! ### The field die (R39, R40, R187) -/

theorem mem_REF_ABSENT : R.SYS_BOOT_STATUS_REF_ABSENT ∈ regMap := mem_of_siteFlds (by decide)

/-- The fault state that a loss keeps: which regions are lost, whether the field die is, whether the reference is absent. -/
structure LossKept (a b : Dev) : Prop where
  field : b.sys.field = a.sys.field
  lost : b.sys.lost = a.sys.lost
  ref : b.get R.SYS_BOOT_STATUS_REF_ABSENT = a.get R.SYS_BOOT_STATUS_REF_ABSENT

namespace LossKept

theorem trans {a b c : Dev} (h : LossKept a b) (k : LossKept b c) : LossKept a c :=
  ⟨k.field.trans h.field, k.lost.trans h.lost, k.ref.trans h.ref⟩

theorem of_block {a b : Dev} (h : BlockStep a b) : LossKept a b :=
  ⟨congrArg Sys.field h.sys, congrArg Sys.lost h.sys, h.regs _ mem_REF_ABSENT (by decide) (by decide) 0 0⟩

theorem then_set {a b : Dev} (h : LossKept a b) {g : Fld} {v i j : Nat} (m : g ∈ siteFlds)
    (n : R.SYS_BOOT_STATUS_REF_ABSENT ≠ g) : LossKept a (b.set g v i j) :=
  h.trans ⟨rfl, rfl, Dev.get_set_fld b mem_REF_ABSENT (mem_of_siteFlds m) n _ _ _ _ _⟩

theorem refl (d : Dev) : LossKept d d := ⟨rfl, rfl, rfl⟩

end LossKept

/-- The field die is noted as gone, and with it every time source. -/
def Dev.fieldNoted (d : Dev) : Dev :=
  { d with sys := { d.sys with field := true }, tim := { d.tim with gnss := false, ppsOk := false, beaconOk := false } }

theorem Dev.get_fieldNoted (d : Dev) (f : Fld) (i j : Nat) : d.fieldNoted.get f i j = d.get f i j := rfl

theorem Dev.field_fieldNoted (d : Dev) : d.fieldNoted.sys.field = true := rfl

/-- The lanes of the drawbar and the standby are gone with it (R630). -/
def Dev.lanesLost (d : Dev) : Dev := { d with pair := { d.pair with lanes := [] } }.linkView.partnerSet false

/-- What the loss of the field die leaves of the blocks: radio, metering, sky, gate drives, time. -/
def Dev.dieLost (d : Dev) : Dev := (d.fieldNoted.lanesLost.radLost.meterLost.skyLost.axRegionLost).timeSource

/-- The device that the loss of the field die leaves to the reaction: at L1 or below. -/
def Dev.fieldGone (d : Dev) : Dev :=
  if 2 ≤ d.dieLost.level then d.dieLost.fallTo 1 2
  else if d.dieLost.level = 1 then d.dieLost.set R.SYS_LEVEL_LAST_FALL 2 else d.dieLost

theorem Dev.fieldLost_eq (d : Dev) : d.fieldLost = (d.fieldGone.react false true).settle := by
  unfold Dev.fieldLost Dev.fieldGone Dev.dieLost Dev.lanesLost Dev.fieldNoted
  rfl

theorem Dev.partnerSet_kept (d : Dev) (r : Bool) : LossKept d (d.partnerSet r) := by
  unfold Dev.partnerSet
  split
  · exact .refl d
  · exact ((LossKept.refl d).then_set (by decide) (by decide)).trans (.of_block (.copyGate _))

theorem Dev.lanesLost_kept (d : Dev) : LossKept d d.lanesLost := by
  unfold Dev.lanesLost
  refine .trans ?_ (Dev.partnerSet_kept _ false)
  refine .then_set ?_ (by decide) (by decide)
  exact ⟨rfl, rfl, rfl⟩

theorem Dev.dropDownlink_kept (d : Dev) : LossKept d d.dropDownlink ∧ d.dropDownlink.rad.inhibit = d.rad.inhibit := by
  unfold Dev.dropDownlink
  extract_lets sends shorts rad yrd wb rsv brk d1
  have h1 : LossKept d d1 := ⟨rfl, rfl, rfl⟩
  have h2 : BlockStep d1 (d1.completeAll (sends ++ shorts) .aborted).brkViewAll := (BlockStep.completeAll _ _ _).trans (.brkViewAll _)
  exact ⟨h1.trans (.of_block h2), (congrArg Rad.inhibit h2.rad :)⟩

theorem Dev.radLost_kept (d : Dev) : LossKept d d.radLost ∧ d.radLost.rad.inhibit = true := by
  obtain ⟨hkept, hinh⟩ := Dev.dropDownlink_kept { d with rad := { d.rad with inhibit := true } }
  exact ⟨⟨hkept.field, hkept.lost, hkept.ref⟩, hinh⟩

/-- Once the field die is gone, the blocks lose what hangs on it, and nothing of the fault state is taken back. -/
theorem Dev.dieLost_kept (d : Dev) : LossKept d.fieldNoted d.dieLost ∧ d.dieLost.rad.inhibit = true := by
  obtain ⟨hrad, hinh⟩ := d.fieldNoted.lanesLost.radLost_kept
  have hblocks : BlockStep d.fieldNoted.lanesLost.radLost d.dieLost :=
    (((BlockStep.meterLost _).trans (.skyLost _)).trans (.axRegionLost _)).trans (.timeSource _)
  exact ⟨(d.fieldNoted.lanesLost_kept.trans hrad).trans (.of_block hblocks), (congrArg Rad.inhibit hblocks.rad).trans hinh⟩

theorem mem_SYS_LEVEL_LEVEL : R.SYS_LEVEL_LEVEL ∈ regMap := mem_of_siteFlds (by decide)

theorem BlockStep.levelDrag (d : Dev) : BlockStep d d.levelDrag := by
  unfold Dev.levelDrag
  exact .ite (.setSrc d _ _) (.refl d)

/-- A fall of the level sets it, and leaves the fault state and the radio as they are (R60). -/
theorem Dev.fallTo_kept (d : Dev) (l cause : Nat) :
    LossKept d (d.fallTo l cause) ∧ (d.fallTo l cause).rad = d.rad ∧ (d.fallTo l cause).level = l % 2 ^ 2 := by
  unfold Dev.fallTo
  extract_lets old d1 sys brk d2
  have hset : LossKept d (((d.set R.SYS_LEVEL_LEVEL l).set R.SYS_LEVEL_LAST_FALL cause).inc R.SYS_LEVEL_FALLS) :=
    LossKept.refl d |>.then_set (by decide) (by decide) |>.then_set (by decide) (by decide) |>.then_set (by decide) (by decide)
  have hlevel : (((d.set R.SYS_LEVEL_LEVEL l).set R.SYS_LEVEL_LAST_FALL cause).inc R.SYS_LEVEL_FALLS).level = l % 2 ^ 2 := by
    refine (Dev.get_set_fld _ mem_SYS_LEVEL_LEVEL (mem_of_siteFlds (by decide)) (by decide) _ _ _ _ _).trans ?_
    refine (Dev.get_set_fld _ mem_SYS_LEVEL_LEVEL (mem_of_siteFlds (by decide)) (by decide) _ _ _ _ _).trans ?_
    exact Dev.get_set_self _ _ _ _ _ (by decide)
  have hrec : BlockStep (((d.set R.SYS_LEVEL_LEVEL l).set R.SYS_LEVEL_LAST_FALL cause).inc R.SYS_LEVEL_FALLS) d1 := .pushRec _ _ _ _
  have hdrag : BlockStep d2 d2.levelDrag := .levelDrag d2
  clear_value d1
  have h1 : LossKept d d1 := hset.trans (.of_block hrec)
  have h2 : LossKept d d2 := ⟨h1.field, h1.lost, h1.ref⟩
  have hrad : d2.rad = d.rad := hrec.rad
  have hlevel2 : d2.level = l % 2 ^ 2 := (hrec.regs _ mem_SYS_LEVEL_LEVEL (by decide) (by decide) 0 0).trans hlevel
  exact ⟨h2.trans (.of_block hdrag), hdrag.rad.trans hrad, (hdrag.regs _ mem_SYS_LEVEL_LEVEL (by decide) (by decide) 0 0).trans hlevel2⟩

/-- The device without its field die: what is noted of the loss stays, the radio is silent, the level at most L1. -/
theorem Dev.fieldGone_kept (d : Dev) : LossKept d.fieldNoted d.fieldGone ∧ d.fieldGone.rad.inhibit = true ∧ d.fieldGone.level ≤ 1 := by
  obtain ⟨hdie, hinh⟩ := d.dieLost_kept
  unfold Dev.fieldGone
  split
  · obtain ⟨hfall, hrad, hlevel⟩ := d.dieLost.fallTo_kept 1 2
    exact ⟨hdie.trans hfall, (congrArg Rad.inhibit hrad).trans hinh, by rw [hlevel]; decide⟩
  · next hlow =>
    split
    · have hcause : R.SYS_LEVEL_LAST_FALL ∈ regMap := mem_of_siteFlds (by decide)
      have hsame : (d.dieLost.set R.SYS_LEVEL_LAST_FALL 2).level = d.dieLost.level :=
        Dev.get_set_fld _ mem_SYS_LEVEL_LEVEL hcause (by decide) _ _ _ _ _
      exact ⟨(hdie.then_set (by decide) (by decide)), by rw [Dev.set_rad]; exact hinh, by omega⟩
    · exact ⟨hdie, hinh, by omega⟩

/-- What the loss of a region comes to where its effect is that of the field die. -/
theorem Dev.regionLost_field {d : Dev} {r : Region} (run : d.running = true) (fresh : regionCode r ∉ d.sys.lost) (c : RegionCause) (peer : Bool)
    (hr : r = .field ∨ r = .time) :
    ∃ x : Dev, d.regionLost r c peer = (x.react false true).settle ∧ x.sys.field = true ∧ regionCode r ∈ x.sys.lost ∧ x.level ≤ 1 ∧
      x.rad.inhibit = true ∧ x.get R.SYS_BOOT_STATUS_REF_ABSENT = d.get R.SYS_BOOT_STATUS_REF_ABSENT := by
  obtain ⟨⟨hfield, hlost, href⟩, hinh, hlevel⟩ := (d.lossNoted r c).fieldGone_kept
  have heff : (d.lossNoted r c).regionEffect peer r = (d.lossNoted r c).fieldLost := by
    rcases hr with rfl | rfl <;> rfl
  rw [Dev.field_fieldNoted] at hfield
  rw [Dev.get_fieldNoted, d.lossNoted_regs r c _ mem_REF_ABSENT (by decide) (by decide)] at href
  refine ⟨(d.lossNoted r c).fieldGone, ?_, hfield, ?_, hlevel, hinh, href⟩
  · rw [Dev.regionLost_eq run fresh, heff, Dev.fieldLost_eq]
  · have hmem : (d.lossNoted r c).fieldNoted.sys.lost = d.sys.lost ++ [regionCode r] := d.lossNoted_lost r c
    rw [hlost, hmem]
    simp

/-! ### The commands (R26, R27, R187) -/

/-- Whether the device runs is told by its fault state and three registers beside the absent reference. -/
theorem Dev.running_set_refAbsent (d : Dev) (v : Nat) : (d.set R.SYS_BOOT_STATUS_REF_ABSENT v).running = d.running := by
  have hstate : (d.set R.SYS_BOOT_STATUS_REF_ABSENT v).get R.PWR_STATUS_STATE = d.get R.PWR_STATUS_STATE :=
    Dev.get_set_fld d (mem_of_siteFlds (by decide)) mem_REF_ABSENT (by decide) _ _ _ _ _
  have hsafe : (d.set R.SYS_BOOT_STATUS_REF_ABSENT v).get R.SYS_BOOT_STATUS_NO_SAFE = d.get R.SYS_BOOT_STATUS_NO_SAFE :=
    Dev.get_set_fld d (mem_of_siteFlds (by decide)) mem_REF_ABSENT (by decide) _ _ _ _ _
  simp only [Dev.running, Dev.imaged, Dev.powered, Dev.on, hstate, hsafe, Dev.set_sys, Dev.set_boot]

/-- A failed transfer that is no third failed retry in a row is only counted (R26). -/
theorem exec_d2dCrcFail_counted {retry : Bool} {s : State} (h : retry = false ∨ s.dev.sys.retries < 2) :
    exec (.d2dCrcFail retry) s =
      .next { s with dev := { s.dev with sys := { s.dev.sys with retries := if retry then s.dev.sys.retries + 1 else 0 } } } := by
  have hlt : (if retry then s.dev.sys.retries + 1 else 0) < 3 := by
    rcases h with rfl | h
    · simp
    · split <;> omega
  simp only [exec, execD2dCrcFail, onDev, if_pos hlt]

/-- The third failed retry in a row loses the field die. -/
theorem exec_d2dCrcFail_third {s : State} (h : 2 ≤ s.dev.sys.retries) :
    exec (.d2dCrcFail true) s =
      .next { s with dev := ({ s.dev with sys := { s.dev.sys with retries := 0 } } : Dev).regionLost .field .link false } := by
  have hge : ¬ s.dev.sys.retries + 1 < 3 := by omega
  simp only [exec, execD2dCrcFail, onDev, if_true, if_neg hge]

/-- Settles O14: a loss is recorded and counted before its effect, and the three losses of the field die come to one. -/
theorem regionsLost : Obligations.RegionsLost := by
  unfold Obligations.RegionsLost
  refine ⟨?_, ?_, ?_, ?_, ?_⟩
  · intro r c p s run fresh
    refine ⟨{ s with dev := s.dev.regionLost r c p }, rfl, s.dev.lossNoted r c, ?_, s.dev.lossNoted_lost r c, s.dev.lossNoted_last r c⟩
    exact Dev.regionLost_eq run fresh c p
  · intro retry s h
    exact ⟨_, exec_d2dCrcFail_counted h, rfl, rfl, rfl, rfl, .of_regs rfl⟩
  · intro s h run fresh
    obtain ⟨x, he, hfield, hlost, hlevel, hinh, -⟩ :=
      Dev.regionLost_field (d := { s.dev with sys := { s.dev.sys with retries := 0 } }) (r := .field) run fresh .link false (.inl rfl)
    exact ⟨_, exec_d2dCrcFail_third h, x, he, hfield, hlost, hlevel, hinh⟩
  · intro s run fresh
    obtain ⟨x, he, hfield, hlost, hlevel, hinh, -⟩ :=
      Dev.regionLost_field (d := s.dev.pass ms) (r := .field) run fresh .link false (.inl rfl)
    refine ⟨{ s with dev := (s.dev.pass ms).regionLost .field .link false }, ?_, x, he, hfield, hlost, hlevel, hinh⟩
    simp [exec, execD2dLinkTimeout, onDev, run]
  · intro s run fresh
    obtain ⟨x, he, hfield, hlost, hlevel, -, href⟩ := Dev.regionLost_field (d := s.dev.set R.SYS_BOOT_STATUS_REF_ABSENT 1) (r := .time)
      ((s.dev.running_set_refAbsent 1).trans run) fresh .clock false (.inr rfl)
    refine ⟨{ s with dev := (s.dev.set R.SYS_BOOT_STATUS_REF_ABSENT 1).regionLost .time .clock false }, ?_, x, he, hfield, hlost, hlevel, ?_⟩
    · simp [exec, execTimeRefLoss, onDev, run]
    · rw [href]
      exact Dev.get_set_self _ _ _ _ _ (by decide)

end Sys2Proof.Machine
end

section
/-!
PROOFS. The fuses (R54, R64, R66, R554, R557, R590): what each command can do to them, and that every step keeps them on their path.
-/

namespace Sys2Proof.Machine

/-! ### Paths of the life cycle (R64) -/

/-- A transition leads to a state of a higher code. -/
theorem code_lt_of_lcMay {a b : Lc} (h : lcMay a b = true) : a.code < b.code := by
  revert h
  cases a <;> cases b <;> decide

theorem LcReach.code_le {a b : Lc} (h : LcReach a b) : a.code ≤ b.code := by
  induction h with
  | same => exact Nat.le_refl _
  | step _ _ _ hmay ih => exact Nat.le_of_lt (Nat.lt_of_le_of_lt ih (code_lt_of_lcMay hmay))

theorem LcReach.trans {a b c : Lc} (h : LcReach a b) (k : LcReach b c) : LcReach a c := by
  induction k with
  | same => exact h
  | step _ _ _ hmay ih => exact .step _ _ _ ih hmay

theorem Lc.code_injective {a b : Lc} (h : a.code = b.code) : a = b := by
  revert h
  cases a <;> cases b <;> decide

/-! ### What the fuses may become -/

namespace FuseAfter

theorem refl (f : Fuse) : FuseAfter f f := ⟨.same _, fun _ h => h, fun _ => rfl, fun _ => Nat.le_refl _, rfl⟩

/-- No state of the life cycle comes again once left, so WIPE_DONE stays where the state is the same at both ends. -/
theorem trans {a b c : Fuse} (h : FuseAfter a b) (k : FuseAfter b c) : FuseAfter a c where
  lc := h.lc.trans k.lc
  wipe := fun same done => by
    have hle := h.lc.code_le
    have kle := k.lc.code_le
    rw [same] at kle
    have hab : b.lc = a.lc := Lc.code_injective (Nat.le_antisymm kle hle)
    exact k.wipe (same.trans hab.symm) (h.wipe hab done)
  root := fun burned => by
    have hroot := h.root burned
    exact (k.root (hroot ▸ burned)).trans hroot
  epochs := fun p => (h.epochs p).trans (k.epochs p)
  serial := k.serial.trans h.serial

/-- A root is burned where there was none (R557). -/
theorem burnRoot (f : Fuse) (r : Option (List Byte)) : FuseAfter f { f with root := f.root.or r } where
  lc := .same _
  wipe := fun _ h => h
  root := fun burned => Option.or_of_isSome burned
  epochs := fun _ => Nat.le_refl _
  serial := rfl

/-- A security epoch is raised to what a confirmed part carries (R590). -/
theorem raiseEpoch (f : Fuse) (p n : Nat) : FuseAfter f { f with epochs := tabPut f.epochs p (max (tabGet f.epochs p) n) } where
  lc := .same _
  wipe := fun _ h => h
  root := fun _ => rfl
  epochs := fun q => by
    by_cases e : q = p
    · subst e
      simp only [tabGet, tabFind_put_self]
      exact Nat.le_max_left _ _
    · simp only [tabGet, tabFind_put_ne _ _ e]
      exact Nat.le_refl _
  serial := rfl

/-- A boot may only set WIPE_DONE (R66). -/
theorem bootFuse (f : Fuse) (d : Dev) : FuseAfter f (Machine.bootFuse f d) where
  lc := .same _
  wipe := fun _ done => by simp [Machine.bootFuse, done]
  root := fun _ => rfl
  epochs := fun _ => Nat.le_refl _
  serial := rfl

/-- A transition of R64 burns the state and clears WIPE_DONE. -/
theorem transition {f : Fuse} {a : Lc} (h : lcMay f.lc a = true) : FuseAfter f { f with lc := a, wipeDone := false } where
  lc := .step _ _ _ (.same _) h
  wipe := fun same _ => absurd (congrArg Lc.code same) (Nat.ne_of_gt (code_lt_of_lcMay h))
  root := fun _ => rfl
  epochs := fun _ => Nat.le_refl _
  serial := rfl

end FuseAfter

/-! ### The commands that reach the fuses -/

/-- The commands that may burn a fuse: a boot, a commit of the life cycle, a commissioning, a confirmed image. -/
def reachesFuses : Instr → Bool
  | .registerWrite .. | .resetRelease .. | .refAbsentRecheck .. | .lcCommit .. | .keyCommission .. | .imgConfirm => true
  | _ => false

/-- Every other command acts on the device alone. -/
theorem exec_acts_on_dev {c : Instr} (s : State) (h : reachesFuses c = false) : ∃ d : Dev, exec c s = .next { s with dev := d } := by
  cases c
  case registerWrite | resetRelease | refAbsentRecheck | lcCommit | keyCommission | imgConfirm => cases h
  all_goals exact ⟨_, rfl⟩

/-- A commit of a transition leaves the fuses, or burns an allowed one (R66-R68). -/
theorem fuseAfter_lcCommit (s : State) (v : Nat) : FuseAfter s.fuse (lcCommit s v).fuse := by
  unfold lcCommit
  extract_lets d x
  split
  · exact .refl _
  · split
    · exact .refl _
    · split
      · exact .refl _
      · next ok =>
        simp only [Bool.not_eq_true, Bool.not_eq_false', Dev.lcOk, Bool.and_eq_true] at ok
        exact .transition ok.1

/-- The commands that reach the fuses keep them on their path. -/
theorem fuseAfter_exec_of_reaches {c : Instr} {s t : State} (reaches : reachesFuses c = true) (h : exec c s = .next t) : FuseAfter s.fuse t.fuse := by
  cases c
  case registerWrite addr width v =>
    simp only [exec, execRegisterWrite] at h
    split at h
    · cases h
      exact .refl _
    · split at h
      · rw [← Host.Outcome.next.inj h]
        exact fuseAfter_lcCommit s _
      · cases h
        exact .refl _
  case resetRelease b =>
    simp only [exec, execResetRelease] at h
    split at h
    · cases h
      exact .refl _
    · cases h
      exact .bootFuse _ _
  case refAbsentRecheck b =>
    simp only [exec, execRefAbsentRecheck] at h
    split at h
    · cases h
      exact .refl _
    · cases h
      exact .bootFuse _ _
  case lcCommit v =>
    simp only [exec, execLcCommit] at h
    cases h
    split
    · exact fuseAfter_lcCommit s _
    · exact .refl _
  case keyCommission mem =>
    simp only [exec, execKeyCommission] at h
    split at h
    · cases h
      exact .refl _
    · cases h
      exact .burnRoot _ _
  case imgConfirm =>
    simp only [exec, execImgConfirm] at h
    split at h
    · cases h
      exact .refl _
    · split at h
      · cases h
        exact .refl _
      · split at h
        · cases h
          exact .refl _
        · cases h
          exact .raiseEpoch _ _ _
  all_goals cases reaches

/-- Every command keeps the fuses on their path. -/
theorem fuseAfter_exec {c : Instr} {s t : State} (h : exec c s = .next t) : FuseAfter s.fuse t.fuse := by
  by_cases reaches : reachesFuses c = true
  · exact fuseAfter_exec_of_reaches reaches h
  · obtain ⟨d, hd⟩ := exec_acts_on_dev s (Bool.not_eq_true _ ▸ reaches)
    rw [hd] at h
    cases h
    exact .refl _

/-- Settles O3: each command is one of the ways the fuses may go on, and those compose. -/
theorem fusesOnlyGoForward : Obligations.FusesOnlyGoForward := by
  unfold Obligations.FusesOnlyGoForward
  intro f s t path h
  refine path.trans ?_
  unfold step at h
  split at h
  · have kept := fuseAfter_exec h
    exact kept
  · cases h
    exact .refl _

/-- Settles O4: the shipped fuses are the default ones, no step from which they start. -/
theorem fusesAsShipped : Obligations.FusesAsShipped := by
  unfold Obligations.FusesAsShipped
  exact ⟨rfl, rfl, rfl, .refl _⟩

end Sys2Proof.Machine
end

section
/-!
PROOFS. The device ID (R75), and what the proofs of resets, power states and the life cycle share: the fields they tell apart, commands whose effect
stays within the registers.
-/

namespace Sys2Proof.Machine

/-! ### The fields that these proofs read or write -/

/-- Fields that the proofs of resets, supplies, power states and the life cycle tell apart. -/
def lifeFlds : List Fld :=
  [R.SYS_DEV_ID_NEXT_ID, R.SYS_DEV_ID_PENDING, R.SYS_DEV_ID_REFUSED, R.SYS_LEVEL_LEVEL, R.SYS_LEVEL_LAST_FALL, R.SYS_LEVEL_FALLS,
    R.SYS_BOOT_STATUS_REF_ABSENT, R.PWR_CTRL_TARGET, R.PWR_CTRL_GO, R.PWR_STATUS_STATE, R.PWR_STATUS_WAKE_SRC, R.PWR_STATUS_REFUSED,
    R.PWR_STATUS_REFUSE_WHY, R.PWR_DOMAIN_RUNNING, R.PAIR_STATUS_ROLE, R.PAIR_STATUS_PAIRED, R.PAIR_STATUS_READY, R.BRK_STATUS_DRAG_OUT, R.BRK_SRC_SRC,
    R.TLB_STATUS_READY, R.TLB_STATUS_CONSUMED, R.TLB_CUT_LO_T_CUT, R.TLB_CUT_HI_T_CUT, R.TLB_SAVE_SAVE_ID, R.TLB_LAST_LINES, R.TLB_LAST_T_US,
    R.LC_STATE_STATE, R.LC_STATE_WIPE_DONE, R.LC_STATE_DEBUG_OPEN, R.LC_CMD_TARGET, R.LC_CMD_DEBUG, R.LC_CMD_FAIL, R.LC_CHAL_CHAL,
    R.RING_BOOT_BOOT, R.RING_DEV_IRQ_BLOCK, R.RING_DEV_IRQ_FAULT, R.ID_DEV_DEV, R.ID_SERIAL_LO_SERIAL, R.ID_SERIAL_HI_SERIAL, R.KEY_STATUS_ROOT_SET,
    R.IMG_EPOCH_SEC_EPOCH, R.BRK_IN_A, R.BRK_IN_B, R.KEY_NV_HWM_HWM, R.KEY_ATTR_STATE,
    R.LC_RESP_RESP]

theorem lifeFlds_elem : lifeFlds.all (fun g => regMap.elem g) = true := by decide +kernel

theorem mem_of_lifeFlds {g : Fld} (h : g ∈ lifeFlds) : g ∈ regMap := mem_regMap (List.all_eq_true.1 lifeFlds_elem g h)

theorem Dev.get_set_life (d : Dev) {f g : Fld} (hf : f ∈ lifeFlds) (hg : g ∈ lifeFlds) (n : f ≠ g) (v i j i' j' : Nat) :
    (d.set g v i' j').get f i j = d.get f i j := d.get_set_fld (mem_of_lifeFlds hf) (mem_of_lifeFlds hg) n v i j i' j'

theorem Dev.get_put_life (d : Dev) {f g : Fld} (hf : f ∈ lifeFlds) (hg : g ∈ lifeFlds) (n : f ≠ g) (b : Bool) (i j i' j' : Nat) :
    (d.put g b i' j').get f i j = d.get f i j := d.get_set_life hf hg n _ i j i' j'

theorem KeepRegs.set_life {ws : List Nat} {fs : List Fld} (d : Dev) {g : Fld} (v i j : Nat) (m : g ∈ lifeFlds) (h : g ∈ fs ∨ g.block ∈ ws) :
    KeepRegs ws fs d (d.set g v i j) := .set d v i j (mem_of_lifeFlds m) h

theorem Dev.get_put_self (d : Dev) {f : Fld} (b : Bool) {i j : Nat} (h : f.has i j = true) : (d.put f b i j).get f i j = b2n b % 2 ^ f.width :=
  d.get_set_self f _ i j h

/-! ### Interrupts -/

/-- A rise of a block's bit changes no other field than RING_DEV_IRQ. -/
theorem Dev.get_devIrq (d : Dev) {b : Nat} (hb : b ≠ 0) {h : Fld} (hh : h ∈ regMap) (n : h ≠ R.RING_DEV_IRQ_BLOCK) (k l : Nat) :
    (d.devIrq b).get h k l = d.get h k l := by
  have hset : (d.setBit R.RING_DEV_IRQ_BLOCK (b - 1) true).get h k l = d.get h k l :=
    d.get_set_fld hh (mem_of_lifeFlds (by decide)) n _ _ _ _ _
  unfold Dev.devIrq
  simp only [if_neg hb]
  split <;> exact hset

/-- A cause raised touches registers and what leaves the device. -/
theorem Dev.raise_eq_regs_out (d : Dev) (f : Fld) (i v : Nat) : d.raise f i v = { d with regs := (d.raise f i v).regs, out := (d.raise f i v).out } := by
  unfold Dev.raise Dev.devIrq
  dsimp only
  split <;> split <;> rfl

/-- A cause raised reads 1 after a one-bit W1C field is set. -/
theorem Dev.get_raise_self (d : Dev) {f : Fld} (hf : f ∈ regMap) (n : f ≠ R.RING_DEV_IRQ_BLOCK) (hb : f.block ≠ 0) (hw : f.width = 1)
    (a : f.has 0 0 = true) : (d.raise f).get f = 1 := by
  unfold Dev.raise
  rw [Dev.get_devIrq _ hb hf n, Dev.get_set_self _ _ _ _ _ a, hw]
  have hlor : Nat.lor (d.get f) 1 = d.get f ||| 1 := rfl
  rw [hlor]
  exact Nat.or_mod_two_eq_one.2 (.inr rfl)

/-! ### A command whose effect stays within the registers -/

theorem onReg_next {f : Fld} {g : Dev → Dev} {s : State} (h : s.dev.writable f = true) : onReg f g s = .next { s with dev := g s.dev } := by
  simp [onReg, onDev, h]

theorem Answers.of_onReg {c : Instr} {f : Fld} {g : Dev → Dev} {s : State} {P : State → Prop} (e : exec c s = onReg f g s)
    (h : s.dev.writable f = true) (p : P { s with dev := g s.dev }) : Answers c s P := ⟨_, e.trans (onReg_next h), p⟩

/-- The frame of an effect that changes registers alone. -/
theorem Frame.of_regs {ws : List Nat} {fs : List Fld} {s : State} {d : Dev} (e : d = { s.dev with regs := d.regs }) (h : KeepRegs ws fs s.dev d) :
    Frame [] ws fs s { s with dev := d } := ⟨rfl, rfl, by rw [e]; rfl, h⟩

/-- The write of a field of `fs`, with the block's interrupt bit that may drop. -/
theorem KeepRegs.writeField {ws : List Nat} {fs : List Fld} (m : 0x0B ∈ ws) (d : Dev) {f : Fld} (hf : f ∈ regMap) (h : f ∈ fs) (i j v : Nat) :
    KeepRegs ws fs d (d.writeField f i j v) := by
  have hset : ∀ x, KeepRegs ws fs d (d.set f x i j) := fun x => .set d x i j hf (.inl h)
  rcases writeField_cases d f i j v with e | ⟨x, e | e⟩
  · rw [e]
    exact .refl _ _ _
  · rw [e]
    exact hset x
  · rw [e]
    refine (hset x).trans fun g hg nw _ k l => get_dropIrq _ _ hg (fun c => ?_) k l
    exact nw (c ▸ (by exact m))

/-! ### SYS_DEV_ID (R75) -/

theorem mem_DEV_ID_REFUSED : R.SYS_DEV_ID_REFUSED ∈ regMap := mem_of_lifeFlds (by decide)

/-- REFUSED is cleared by a write of its bit. -/
theorem get_writeField_refused (d : Dev) {v : Nat} (h : bitOf v 13 = true) : (d.writeField R.SYS_DEV_ID_REFUSED 0 0 v).get R.SYS_DEV_ID_REFUSED = 0 := by
  have hbit : bits v 13 1 = 1 := by simpa [bitOf, bits] using h
  have hlt : d.get R.SYS_DEV_ID_REFUSED < 2 := d.get_lt _ _ _
  simp only [Dev.writeField, show R.SYS_DEV_ID_REFUSED.acc = .w1c from rfl]
  rw [get_dropIrq _ _ mem_DEV_ID_REFUSED (by decide), Dev.get_set_self _ _ _ _ _ (by decide)]
  simp only [show R.SYS_DEV_ID_REFUSED.lsb = 13 from rfl, show R.SYS_DEV_ID_REFUSED.width = 1 from rfl, hbit]
  interval_cases d.get R.SYS_DEV_ID_REFUSED <;> rfl

/-- The accepted write. -/
def Dev.nextIdSet (d : Dev) (v : Nat) : Dev := (d.writeField R.SYS_DEV_ID_REFUSED 0 0 v).set R.SYS_DEV_ID_NEXT_ID v

theorem Dev.devIdWrite_accepted {d : Dev} {v : Nat} (key : bits v 16 16 = 0xD1D0) (free : d.authorityHeld = false) :
    d.devIdWrite v = (d.nextIdSet v).put R.SYS_DEV_ID_PENDING ((d.nextIdSet v).get R.SYS_DEV_ID_NEXT_ID != (d.nextIdSet v).id) := by
  unfold Dev.authorityHeld at free
  simp [Dev.devIdWrite, key, free, Dev.nextIdSet]

theorem Dev.devIdWrite_refused {d : Dev} {v : Nat} (key : bits v 16 16 = 0xD1D0) (held : d.authorityHeld = true) :
    d.devIdWrite v = d.raise R.SYS_DEV_ID_REFUSED := by
  unfold Dev.authorityHeld at held
  simp [Dev.devIdWrite, key, held]

theorem Dev.devIdWrite_no_key {d : Dev} {v : Nat} (key : bits v 16 16 ≠ 0xD1D0) :
    d.devIdWrite v = if bitOf v 13 then d.writeField R.SYS_DEV_ID_REFUSED 0 0 v else d := by
  simp [Dev.devIdWrite, key]

theorem Dev.get_nextIdSet (d : Dev) (v : Nat) :
    (d.nextIdSet v).get R.SYS_DEV_ID_NEXT_ID = v % 2 ^ 10 ∧ (d.nextIdSet v).id = d.get R.ID_DEV_DEV := by
  refine ⟨Dev.get_set_self _ _ _ _ _ (by decide), ?_⟩
  have hid : (d.writeField R.SYS_DEV_ID_REFUSED 0 0 v).get R.ID_DEV_DEV = d.get R.ID_DEV_DEV :=
    get_writeField_of_key_ne d (mem_of_lifeFlds (by decide)) (by decide) (by decide) v
  exact (Dev.get_set_life _ (by decide) (by decide) (by decide) _ _ _ _ _).trans hid

theorem Dev.nextIdSet_eq_regs (d : Dev) (v : Nat) : d.nextIdSet v = { d with regs := (d.nextIdSet v).regs } :=
  congrArg (fun x : Dev => x.set R.SYS_DEV_ID_NEXT_ID v) (writeField_eq_regs d R.SYS_DEV_ID_REFUSED 0 0 v)

theorem exec_sysDevIdWrite (v : Word32) (s : State) :
    exec (.sysDevIdWrite v) s = onReg R.SYS_DEV_ID_NEXT_ID (fun d => d.devIdWrite v.toNat) s := rfl

/-- Settles O8, case by case of the KEY and of the authority held. -/
theorem deviceIdWrite : Obligations.DeviceIdWrite := by
  unfold Obligations.DeviceIdWrite
  refine ⟨fun v s key open_ free => ?_, fun v s key open_ held => ?_, fun v s key open_ => ?_⟩
  · refine .of_onReg (exec_sysDevIdWrite v s) open_ ?_
    obtain ⟨hnext, hid⟩ := s.dev.get_nextIdSet v.toNat
    rw [Dev.devIdWrite_accepted key free, hnext, hid]
    refine ⟨?_, ?_, .of_regs ?_ ?_⟩
    · exact (Dev.get_put_life _ (by decide) (by decide) (by decide) _ _ _ _ _).trans hnext
    · rw [Dev.get_put_self _ _ (by decide)]
      cases v.toNat % 2 ^ 10 != s.dev.get R.ID_DEV_DEV <;> rfl
    · exact congrArg (fun x : Dev => x.put R.SYS_DEV_ID_PENDING (v.toNat % 2 ^ 10 != s.dev.get R.ID_DEV_DEV)) (s.dev.nextIdSet_eq_regs v.toNat)
    · have hfield : KeepRegs [0x0B] [R.SYS_DEV_ID_NEXT_ID, R.SYS_DEV_ID_PENDING, R.SYS_DEV_ID_REFUSED] s.dev
          (s.dev.writeField R.SYS_DEV_ID_REFUSED 0 0 v.toNat) := .writeField (by decide) _ mem_DEV_ID_REFUSED (by decide) _ _ _
      exact (hfield.trans (.set_life _ _ _ _ (by decide) (.inl (by decide)))).trans (.set_life _ _ _ _ (by decide) (.inl (by decide)))
  · refine .of_onReg (exec_sysDevIdWrite v s) open_ ?_
    rw [Dev.devIdWrite_refused key held]
    refine ⟨Dev.get_raise_self _ mem_DEV_ID_REFUSED (by decide) (by decide) rfl (by decide), rfl, rfl, ?_,
      .raise (by decide) _ mem_DEV_ID_REFUSED (.inl (by decide)) _ _⟩
    exact (congrArg (fun x : Dev => x.without [.out]) (s.dev.raise_eq_regs_out R.SYS_DEV_ID_REFUSED 0 1)).trans rfl
  · refine .of_onReg (exec_sysDevIdWrite v s) open_ ?_
    rw [Dev.devIdWrite_no_key key]
    by_cases clears : bitOf v.toNat 13 = true
    · rw [if_pos clears]
      exact ⟨fun _ => get_writeField_refused _ clears, fun h => by simp [clears] at h,
        .of_regs (writeField_eq_regs _ _ _ _ _) (.writeField (by decide) _ mem_DEV_ID_REFUSED (by decide) _ _ _)⟩
    · rw [if_neg clears]
      exact ⟨fun h => absurd h clears, fun _ => rfl, .of_regs rfl (.refl _ _ _)⟩

end Sys2Proof.Machine
end

section
/-!
PROOFS. Resets (R10, R53, R65, R663): what they wipe and keep, and the final flush before a reset the device carries out itself.
-/

namespace Sys2Proof.Machine

/-! ### Reports and the recorder's marks -/

/-- The loss of the NVM region and the mark of the final flush, which no record changes. -/
def Evt.marks (e : Evt) : Bool × Bool := (e.nvmLost, e.finalMark)

theorem Evt.finalMark_of_marks {a b : Evt} (h : a.marks = b.marks) : a.finalMark = b.finalMark := congrArg Prod.snd h

/-- A completion touches the rings, their registers and what leaves the device. -/
theorem Dev.evt_unlive (d : Dev) (q : Desc) : (d.unlive q).evt = d.evt := by
  unfold Dev.unlive
  dsimp only
  split <;> rfl

theorem Dev.evt_writeCompl (d : Dev) (q : Desc) (a b c : Nat) : (d.writeCompl q a b c).evt = d.evt := by
  unfold Dev.writeCompl
  dsimp only
  split
  · exact d.evt_unlive q
  · rw [(RingStep.entriesWritten _ _ _ _).evt]
    exact d.evt_unlive q

theorem Dev.evt_complete (d : Dev) (q : Desc) (st : Status) : (d.complete q st).evt = d.evt := by
  unfold Dev.complete
  split
  · rfl
  · split
    · rfl
    · exact d.evt_writeCompl _ _ _ _

theorem Dev.evt_completeAll (d : Dev) (l : List Desc) (st : Status) : (d.completeAll l st).evt = d.evt :=
  List.foldlRecOn (motive := fun e : Dev => e.evt = d.evt) l _ rfl fun e he q _ => (e.evt_complete q st).trans he

theorem Dev.marks_recLost (d : Dev) : d.recLost.evt.marks = d.evt.marks := by
  have h : (Dev.raise (d.inc R.EVT_COUNTS_LOST) R.EVT_STATUS_OVERRUN).evt = d.evt := by rw [Dev.raise_eq_regs_out]; rfl
  unfold Dev.recLost Evt.marks
  dsimp only
  rw [h]

theorem Dev.marks_pushRec (d : Dev) (t c : Nat) (x : List Byte) : (d.pushRec t c x).evt.marks = d.evt.marks := by
  unfold Dev.pushRec
  extract_lets r full d1 buf evt d2 d3
  have h1 : d1.evt.marks = d.evt.marks := by
    unfold d1
    split
    · exact d.marks_recLost
    · rfl
  have h3 : d3.evt.marks = d.evt.marks := (congrArg Evt.marks (Dev.evt_evtStatus d2)).trans h1
  split
  · exact (congrArg Evt.marks (RingStep.item _ _ _ _ _).evt).trans h3
  · exact h3

theorem Dev.marks_record (d : Dev) (c : Nat) (x : List Byte) : (d.record c x).evt.marks = d.evt.marks := by
  unfold Dev.record
  extract_lets k c' due d1 evt d2 first evt' d3
  split
  · exact d.marks_pushRec _ _ _
  · split
    · exact d2.marks_pushRec _ _ _
    · rfl

/-! ### Before a reset (R53, R567) -/

theorem Dev.evt_mirror (d : Dev) (n : Nat) (c : NvCopy) : (d.mirror n c).evt = d.evt := by simp [Dev.mirror, Dev.fillSlot]

theorem Dev.marks_nvCommit (d : Dev) : d.nvCommit.evt.marks = d.evt.marks := by
  unfold Dev.nvCommit
  split
  · rfl
  · next u _ =>
    extract_lets sl sl' k d1 d2 d3
    have h2 : d2.evt = d.evt := by simp [d2, d1, Dev.evt_mirror]
    rw [Dev.evt_complete]
    unfold d3
    split
    · rw [Dev.marks_record, h2]
    · rw [h2]

theorem Dev.marks_endEpisode (d : Dev) : d.endEpisode.evt.marks = d.evt.marks := by
  unfold Dev.endEpisode
  split
  · rw [Dev.marks_record]
    rfl
  · rfl

/-- The log after a flush, before the status registers follow it (R643). -/
def Dev.recsCommitted (d : Dev) (final : Bool) : Dev :=
  let all := d.evt.nv ++ d.evt.buf
  { d with evt := { d.evt with
    nv := all.drop (all.length - 8192), buf := [], committed := some d.evt.next, finalMark := final, flushWant := false } }

theorem Dev.flushCommit_eq (d : Dev) (final : Bool) : d.flushCommit final = (d.recsCommitted final).evtStatus := rfl

theorem Dev.finalMark_recsCommitted (d : Dev) (final : Bool) : (d.recsCommitted final).evt.finalMark = final := rfl

theorem Dev.finalMark_flushCommit (d : Dev) (final : Bool) : (d.flushCommit final).evt.finalMark = final := by
  rw [Dev.flushCommit_eq, Dev.evt_evtStatus, Dev.finalMark_recsCommitted]

/-- The descriptors of the flush are forgotten. -/
def Dev.flushDone (d : Dev) : Dev := { d with evt := { d.evt with flushDescs := [] } }

theorem Dev.finalMark_flushDone (d : Dev) : d.flushDone.evt.finalMark = d.evt.finalMark := rfl

theorem Dev.flush_eq {d : Dev} (h : d.evt.nvmLost = false) (final : Bool) :
    d.flush final = (d.flushCommit final).flushDone.endEpisode.completeAll d.evt.flushDescs .done := by
  unfold Dev.flush
  rw [if_neg (by simp [h])]
  rfl

/-- A final flush that commits leaves its mark. -/
theorem Dev.finalMark_flush {d : Dev} (h : d.evt.nvmLost = false) : (d.flush true).evt.finalMark = true := by
  rw [Dev.flush_eq h, Dev.evt_completeAll, Evt.finalMark_of_marks (Dev.marks_endEpisode _), Dev.finalMark_flushDone,
    Dev.finalMark_flushCommit]

theorem Dev.finalMark_beforeReset {d : Dev} (h : d.evt.nvmLost = false) : d.beforeReset.evt.finalMark = true := by
  unfold Dev.beforeReset
  extract_lets x
  have hx : x.evt.nvmLost = false := by
    unfold x
    split
    · exact (congrArg Prod.fst d.marks_nvCommit).trans h
    · exact h
  rw [if_neg (by simp [hx])]
  exact Dev.finalMark_flush hx

/-! ### A reset (R10, R53, R65, R428) -/

theorem mem_BOOT : R.RING_BOOT_BOOT ∈ regMap := mem_of_lifeFlds (by decide)
theorem mem_WAKE_SRC : R.PWR_STATUS_WAKE_SRC ∈ regMap := mem_of_lifeFlds (by decide)

/-- The registers after a reset, as far as the boot count: SRAM is wiped. -/
def Dev.regsReset (d : Dev) : Dev := { d with regs := { d.regs with vol := [] } }

/-- A field of SRAM reads its reset value after the wipe, any other what it read. -/
theorem Dev.get_regsReset (d : Dev) (f : Fld) (i j : Nat) :
    d.regsReset.get f i j = if f.store = .vol then f.reset i j % 2 ^ f.width else d.get f i j := by
  unfold Dev.regsReset Dev.get
  cases hs : f.store <;> simp [RegFile.sel]

/-- The registers after a reset. -/
def Dev.wakeSet (d : Dev) (wake : Option Nat) : Dev := match wake with | some k => d.set R.PWR_STATUS_WAKE_SRC k | none => d

theorem Dev.get_wakeSet_ne (d : Dev) (wake : Option Nat) {f : Fld} (hf : f ∈ regMap) (n : f ≠ R.PWR_STATUS_WAKE_SRC) (i j : Nat) :
    (d.wakeSet wake).get f i j = d.get f i j := by
  cases wake with
  | none => rfl
  | some k => exact d.get_set_fld hf mem_WAKE_SRC n k i j 0 0

theorem Dev.get_wakeSet_self (d : Dev) (wake : Option Nat) :
    (d.wakeSet wake).get R.PWR_STATUS_WAKE_SRC = wake.getD (d.get R.PWR_STATUS_WAKE_SRC) % 16 := by
  cases wake with
  | none => exact (Nat.mod_eq_of_lt (d.get_lt _ _ _)).symm
  | some k => exact d.get_set_self _ _ _ _ (by decide)

theorem Dev.get_sysReset (d : Dev) (wake : Option Nat) (f : Fld) (i j : Nat) :
    (d.sysReset wake).get f i j = ((d.regsReset.set R.RING_BOOT_BOOT (d.get R.RING_BOOT_BOOT + 1)).wakeSet wake).get f i j := by
  cases wake <;> rfl

/-- What a reset does to a device. -/
theorem Dev.afterReset_sysReset (d : Dev) (wake : Option Nat) : AfterReset wake d (d.sysReset wake) where
  sram := fun f hf hv i j => by
    have hboot : f ≠ R.RING_BOOT_BOOT := fun e => by rw [e] at hv; exact absurd hv (by decide)
    have hwake : f ≠ R.PWR_STATUS_WAKE_SRC := fun e => by rw [e] at hv; exact absurd hv (by decide)
    rw [Dev.get_sysReset, Dev.get_wakeSet_ne _ _ hf hwake, Dev.get_set_fld _ hf mem_BOOT hboot, Dev.get_regsReset, if_pos hv]
  kept := fun f hf hv hboot hwake i j => by
    rw [Dev.get_sysReset, Dev.get_wakeSet_ne _ _ hf hwake, Dev.get_set_fld _ hf mem_BOOT hboot, Dev.get_regsReset, if_neg hv]
  boot := by
    rw [Dev.get_sysReset, Dev.get_wakeSet_ne _ _ mem_BOOT (by decide), Dev.get_set_self _ _ _ _ _ (by decide)]
    rfl
  wake := by
    rw [Dev.get_sysReset, Dev.get_wakeSet_self, Dev.get_set_fld _ mem_WAKE_SRC mem_BOOT (by decide), Dev.get_regsReset, if_neg (by decide)]
  keys := by cases wake <;> rfl
  log := by cases wake <;> exact ⟨rfl, rfl⟩
  stored := by cases wake <;> exact ⟨rfl, rfl, rfl, rfl, rfl, rfl⟩
  idle := by cases wake <;> exact ⟨rfl, rfl, rfl, rfl, rfl, rfl, rfl, rfl, rfl⟩
  stopped := by cases wake <;> exact ⟨rfl, rfl, rfl⟩

theorem Dev.sysReset_sys (d : Dev) (wake : Option Nat) : (d.sysReset wake).sys =
    { supplies := d.sys.supplies, vaon := d.sys.vaon, vaonLost := d.sys.vaonLost, xo := d.sys.xo, vin := d.sys.vin } := by
  cases wake <;> rfl

/-- A reset of a device that differs from `d` in its supplies and clocks alone is a reset of `d`. -/
theorem AfterReset.of_supplies {wake : Option Nat} {d e : Dev} (x : Sys) (c : Clk)
    (h : AfterReset wake { d with sys := x, clk := c } e) : AfterReset wake d e :=
  ⟨h.sram, h.kept, h.boot, h.wake, h.keys, h.log, h.stored, h.idle, h.stopped⟩

theorem exec_suppliesValid {s : State} (gone : s.dev.sys.supplies = false) (vin : s.dev.sys.vin = true) :
    exec .suppliesValid s = .next { s with dev :=
      (({ s.dev with sys := { s.dev.sys with supplies := true } } : Dev).pass (3 * ms)).sysReset (some (s.dev.sys.wake.getD 0)) } := by
  simp [exec, execSuppliesValid, onDev, gone, vin, Dev.pass]

theorem exec_vinMonRelease {s : State} (tripped : s.dev.sys.vin = false) (supplies : s.dev.sys.supplies = true) :
    exec .vinMonRelease s = .next { s with dev :=
      ({ s.dev with sys := { s.dev.sys with vin := true } } : Dev).sysReset (some (if s.dev.sys.saved then 6 else 0)) } := by
  simp [exec, execVinMonRelease, onDev, tripped, supplies]

theorem exec_sysResetWrite (v : Word32) (s : State) :
    exec (.sysResetWrite v) s = onReg R.SYS_RESET_KEY (fun d => d.resetWrite v.toNat) s := rfl

/-- Settles O6: each of the three resets is one `Dev.sysReset`. -/
theorem resetsWipeSram : Obligations.ResetsWipeSram := by
  unfold Obligations.ResetsWipeSram
  refine ⟨fun s gone vin => ?_, fun s tripped supplies => ?_, fun v s key open_ => ?_, fun v s key => ?_, fun s h => Dev.finalMark_beforeReset h⟩
  · refine ⟨_, exec_suppliesValid gone vin, ?_, ?_, rfl⟩
    · exact (Dev.afterReset_sysReset _ _).of_supplies _ _
    · exact congrArg Sys.supplies (Dev.sysReset_sys _ _)
  · refine ⟨_, exec_vinMonRelease tripped supplies, ?_, ?_, rfl⟩
    · exact (Dev.afterReset_sysReset _ _).of_supplies _ s.dev.clk
    · exact congrArg Sys.vin (Dev.sysReset_sys _ _)
  · refine .of_onReg (exec_sysResetWrite v s) open_ ⟨?_, rfl⟩
    rw [Dev.resetWrite, if_pos key]
    exact Dev.afterReset_sysReset _ _
  · refine ⟨s, ?_, rfl⟩
    simp [exec_sysResetWrite, onReg, onDev, Dev.resetWrite, key]

end Sys2Proof.Machine
end

section
/-!
PROOFS. Supplies and the AON island (R49, R52, R55, R466, R650, R664, R665).
-/

namespace Sys2Proof.Machine

/-! ### PWR_DOMAIN (R72) -/

theorem mem_PWR_DOMAIN : R.PWR_DOMAIN_RUNNING ∈ regMap := mem_of_lifeFlds (by decide)

theorem KeepRegs.domains {ws : List Nat} {fs : List Fld} (d : Dev) (h : R.PWR_DOMAIN_RUNNING ∈ fs) : KeepRegs ws fs d d.domains :=
  .set d _ _ _ mem_PWR_DOMAIN (.inl h)

theorem Dev.get_domains (d : Dev) {f : Fld} (hf : f ∈ lifeFlds) (n : f ≠ R.PWR_DOMAIN_RUNNING) (i j : Nat) : d.domains.get f i j = d.get f i j :=
  d.get_set_life hf (by decide) n _ _ _ _ _

theorem Dev.without_set (d : Dev) (f : Fld) (v i j : Nat) (ps : List Part) : (d.set f v i j).without ps = d.without ps := rfl
theorem Dev.without_domains (d : Dev) (ps : List Part) : d.domains.without ps = d.without ps := d.without_set _ _ _ _ _
theorem Dev.sys_domains (d : Dev) : d.domains.sys = d.sys := d.set_sys _ _ _ _
theorem Dev.tlb_domains (d : Dev) : d.domains.tlb = d.tlb := d.set_tlb _ _ _ _
theorem Dev.clk_domains (d : Dev) : d.domains.clk = d.clk := d.set_clk _ _ _ _
theorem Dev.boot_domains (d : Dev) : d.domains.boot = d.boot := d.set_boot _ _ _ _

/-- A word made of flags has them as its bits. -/
theorem bitOf_bitsOf (l : List Bool) (n : Nat) : bitOf (bitsOf l) n = l.getD n false := by
  induction l generalizing n with
  | nil => simp [bitsOf, bitOf]
  | cons b l ih =>
    have hcons : bitsOf (b :: l) = b2n b + 2 * bitsOf l := rfl
    have hb : b2n b < 2 := by cases b <;> decide
    rw [bitOf_eq_testBit, hcons]
    cases n with
    | zero => cases b <;> simp [Nat.testBit_zero, b2n]
    | succ n =>
      have hhalf : (b2n b + 2 * bitsOf l) / 2 = bitsOf l := by omega
      rw [Nat.testBit_succ, hhalf, ← bitOf_eq_testBit, ih]
      rfl

theorem Dev.bit_domains (d : Dev) {n : Nat} (h : n < 14) : d.domains.bit R.PWR_DOMAIN_RUNNING n = d.domainsNow.getD n false := by
  unfold Dev.bit Dev.domains
  rw [Dev.get_set_self _ _ _ _ _ (by decide), ← bitOf_bitsOf, bitOf_eq_testBit, bitOf_eq_testBit, Nat.testBit_mod_two_pow]
  simp [show R.PWR_DOMAIN_RUNNING.width = 14 from rfl, h]

/-! ### The tailboard's save (R650) -/

/-- The fields a save writes. -/
def tailFlds : List Fld :=
  [R.TLB_STATUS_CONSUMED, R.TLB_CUT_LO_T_CUT, R.TLB_CUT_HI_T_CUT, R.TLB_SAVE_SAVE_ID, R.TLB_LAST_LINES, R.TLB_LAST_T_US]

/-- The line of a key update uses up a free value at most. -/
theorem Dev.keyjLine_eq (d : Dev) : d.keyjLine.2 = { d with free := d.keyjLine.2.free } := by
  unfold Dev.keyjLine
  split <;> rfl

theorem Dev.regs_keyjLine (d : Dev) : d.keyjLine.2.regs = d.regs := by rw [Dev.keyjLine_eq]

/-- A save that power does not let finish its header. -/
def Dev.tailBegun (d : Dev) (m : Manifest) : Dev := { d with tlb := { d.tlb with headerOk := false, manifest := m } }.set R.TLB_STATUS_CONSUMED 0

/-- A save with its header. -/
def Dev.tailSaved (d : Dev) (m : Manifest) : Dev :=
  let d := { d with tlb := { d.tlb with headerOk := true, manifest := m } }.set R.TLB_STATUS_CONSUMED 0
  let d := ((d.set R.TLB_CUT_LO_T_CUT m.tCut).set R.TLB_CUT_HI_T_CUT (m.tCut / 2 ^ 32)).set R.TLB_SAVE_SAVE_ID m.saveId
  (d.set R.TLB_LAST_LINES m.lines.length).set R.TLB_LAST_T_US (120 + 160 * m.lines.length)

/-- The cases of a save: nothing while a manifest waits, no header, a header. -/
theorem Dev.saveTail_cases (d : Dev) (n : Option Nat) :
    ((d.on R.TLB_STATUS_READY = false ∨ d.on R.TLB_STATUS_CONSUMED = false) ∧ d.saveTail n = d) ∨
      (n.isSome = false ∧ ∃ m, d.saveTail n = d.tailBegun m) ∨ (n.isSome = true ∧ ∃ m, d.saveTail n = d.keyjLine.2.tailSaved m) := by
  unfold Dev.saveTail
  split
  · next h =>
    refine .inl ⟨?_, rfl⟩
    simp only [Bool.or_eq_true, Bool.not_eq_true', Bool.and_eq_true] at h
    exact h.imp_right And.left
  · cases n with
    | none => exact .inr (.inl ⟨rfl, _, rfl⟩)
    | some k => exact .inr (.inr ⟨rfl, _, rfl⟩)

theorem KeepRegs.tailBegun (d : Dev) (m : Manifest) : KeepRegs [] tailFlds d (d.tailBegun m) :=
  KeepRegs.trans (.of_regs rfl) (.set_life _ _ _ _ (by decide) (.inl (by decide)))

theorem KeepRegs.tailSaved (d : Dev) (m : Manifest) : KeepRegs [] tailFlds d (d.tailSaved m) := by
  unfold Dev.tailSaved
  refine KeepRegs.trans ?_ (.set_life _ _ _ _ (by decide) (.inl (by decide)))
  refine KeepRegs.trans ?_ (.set_life _ _ _ _ (by decide) (.inl (by decide)))
  refine KeepRegs.trans ?_ (.set_life _ _ _ _ (by decide) (.inl (by decide)))
  refine KeepRegs.trans ?_ (.set_life _ _ _ _ (by decide) (.inl (by decide)))
  refine KeepRegs.trans ?_ (.set_life _ _ _ _ (by decide) (.inl (by decide)))
  exact KeepRegs.trans (.of_regs rfl) (.set_life _ _ _ _ (by decide) (.inl (by decide)))

theorem KeepRegs.saveTail (d : Dev) (n : Option Nat) : KeepRegs [] tailFlds d (d.saveTail n) := by
  rcases d.saveTail_cases n with ⟨-, e⟩ | ⟨-, m, e⟩ | ⟨-, m, e⟩
  · rw [e]
    exact .refl _ _ _
  · rw [e]
    exact .tailBegun d m
  · rw [e]
    exact KeepRegs.trans (.of_regs d.regs_keyjLine) (.tailSaved _ m)

theorem Dev.get_saveTail (d : Dev) (n : Option Nat) {f : Fld} (hf : f ∈ lifeFlds) (h : f ∉ tailFlds) : (d.saveTail n).get f = d.get f :=
  KeepRegs.saveTail d n f (mem_of_lifeFlds hf) (by simp) h 0 0

/-- A save that is made finishes the header, or not even that. -/
theorem Dev.headerOk_saveTail {d : Dev} (ready : d.on R.TLB_STATUS_READY = true) (consumed : d.on R.TLB_STATUS_CONSUMED = true) (n : Option Nat) :
    (d.saveTail n).tlb.headerOk = n.isSome := by
  rcases d.saveTail_cases n with ⟨h, -⟩ | ⟨hn, m, e⟩ | ⟨hn, m, e⟩
  · simp [ready, consumed] at h
  · rw [e, hn]
    rfl
  · rw [e, hn]
    rfl

/-- A save leaves the state of SYS. -/
theorem Dev.sys_saveTail (d : Dev) (n : Option Nat) : (d.saveTail n).sys = d.sys := by
  rcases d.saveTail_cases n with ⟨-, e⟩ | ⟨-, m, e⟩ | ⟨-, m, e⟩
  · rw [e]
  · rw [e]
    rfl
  · rw [e]
    exact (congrArg Dev.sys d.keyjLine_eq).trans rfl

/-! ### VIN_MON (R650) -/

/-- The device runs when VIN_MON trips, so that there is something to save. -/
def Dev.cutRuns (d : Dev) : Bool := d.sys.supplies && d.sys.ran && d.get R.PWR_STATUS_STATE != 2

/-- What the trip saves. -/
def Dev.cutSaved (d : Dev) (n : Option Nat) : Dev := if d.cutRuns then (d.set R.BRK_STATUS_DRAG_OUT 1).saveTail n else d

/-- The power state after the trip: no service, no change under way. -/
def Dev.cutDark (d : Dev) (run : Bool) : Dev :=
  ((({ d with sys := { d.sys with vin := false, up := false, target := none, saved := d.sys.saved || run } } : Dev).set R.PWR_STATUS_STATE 2).set
    R.PWR_CTRL_GO 0).domains

theorem Dev.vinTrip_eq {d : Dev} (vin : d.sys.vin = true) (n : Option Nat) : d.vinTrip n = (d.cutSaved n).cutDark d.cutRuns := by
  unfold Dev.vinTrip
  rw [if_neg (by simp [vin])]
  rfl

theorem Dev.tlb_cutDark (d : Dev) (run : Bool) : (d.cutDark run).tlb = d.tlb := Dev.tlb_domains _

theorem Dev.get_cutDark (d : Dev) (run : Bool) {f : Fld} (hf : f ∈ lifeFlds) (h : f ∉ [R.PWR_STATUS_STATE, R.PWR_CTRL_GO, R.PWR_DOMAIN_RUNNING]) :
    (d.cutDark run).get f = d.get f := by
  simp only [List.mem_cons, List.not_mem_nil, or_false, not_or] at h
  obtain ⟨hstate, hgo, hdomain⟩ := h
  unfold Dev.cutDark
  rw [Dev.get_domains _ hf hdomain, Dev.get_set_life _ hf (by decide) hgo, Dev.get_set_life _ hf (by decide) hstate]
  rfl

theorem Dev.cutDark_dark (d : Dev) (run : Bool) :
    (d.cutDark run).sys.vin = false ∧ (d.cutDark run).sys.up = false ∧ (d.cutDark run).get R.PWR_STATUS_STATE = 2 ∧
      (d.cutDark run).get R.PWR_CTRL_GO = 0 := by
  unfold Dev.cutDark
  refine ⟨congrArg Sys.vin (Dev.sys_domains _), congrArg Sys.up (Dev.sys_domains _), ?_, ?_⟩
  · rw [Dev.get_domains _ (by decide) (by decide), Dev.get_set_life _ (by decide) (by decide) (by decide), Dev.get_set_self _ _ _ _ _ (by decide)]
    rfl
  · rw [Dev.get_domains _ (by decide) (by decide), Dev.get_set_self _ _ _ _ _ (by decide)]
    rfl

/-- A device that ran asserts DRAG_OUT and writes the tailboard as far as power lasts. -/
theorem Dev.vinTrip_saved {d : Dev} (vin : d.sys.vin = true) (run : d.cutRuns = true) (n : Option Nat) :
    (d.vinTrip n).get R.BRK_STATUS_DRAG_OUT = 1 ∧
      (d.on R.TLB_STATUS_READY = true → d.on R.TLB_STATUS_CONSUMED = true → (d.vinTrip n).tlb.headerOk = n.isSome) := by
  have hsaved : d.cutSaved n = (d.set R.BRK_STATUS_DRAG_OUT 1).saveTail n := by rw [Dev.cutSaved, if_pos run]
  refine ⟨?_, fun ready consumed => ?_⟩
  · rw [Dev.vinTrip_eq vin, Dev.get_cutDark _ _ (by decide) (by decide), hsaved, Dev.get_saveTail _ _ (by decide) (by decide),
      Dev.get_set_self _ _ _ _ _ (by decide)]
    rfl
  · have hsets : (d.set R.BRK_STATUS_DRAG_OUT 1).on R.TLB_STATUS_READY = true ∧ (d.set R.BRK_STATUS_DRAG_OUT 1).on R.TLB_STATUS_CONSUMED = true := by
      simp only [Dev.on, Dev.get_set_life d (f := R.TLB_STATUS_READY) (g := R.BRK_STATUS_DRAG_OUT) (by decide) (by decide) (by decide),
        Dev.get_set_life d (f := R.TLB_STATUS_CONSUMED) (g := R.BRK_STATUS_DRAG_OUT) (by decide) (by decide) (by decide)]
      exact ⟨ready, consumed⟩
    rw [Dev.vinTrip_eq vin, Dev.tlb_cutDark, hsaved]
    exact Dev.headerOk_saveTail hsets.1 hsets.2 n

/-! ### Supplies that go (R44, R55) -/

/-- The supplies gone, VAON still there. -/
def Dev.supplyGone (d : Dev) : Dev :=
  { d with sys := { d.sys with supplies := false, up := false, ran := false, target := none } }.set R.PWR_STATUS_STATE 2

/-- The AON island without its supply. -/
def Dev.vaonGone (d : Dev) : Dev :=
  { d with aon := {}, regs := { d.regs with aon := [] }, sys := { d.sys with vaon := false, vaonLost := true, xo := false, wake := none } }

theorem exec_suppliesLost {s : State} (h : s.dev.sys.supplies = true) (vaon : Bool) :
    exec (.suppliesLost vaon) s =
      .next { s with dev := if (vaon && s.dev.sys.vaon) = true then s.dev.supplyGone else s.dev.supplyGone.vaonGone } := by
  simp only [exec, execSuppliesLost, onDev, h]
  rfl

theorem Dev.get_supplyGone_state (d : Dev) : d.supplyGone.get R.PWR_STATUS_STATE = 2 := Dev.get_set_self _ _ _ _ _ (by decide)

/-- A register outside the AON island does not see its loss. -/
theorem Dev.get_vaonGone (d : Dev) {f : Fld} (h : f.store ≠ .aon) (i j : Nat) : d.vaonGone.get f i j = d.get f i j := by
  unfold Dev.get Dev.vaonGone
  cases hs : f.store <;> simp_all [RegFile.sel]

/-! ### The AON island (R52, R466, R664, R665) -/

/-- The island afresh. -/
def Dev.aonFresh (d : Dev) : Dev :=
  { d with aon := {}, regs := { d.regs with aon := [] }, sys := { d.sys with vaon := true, vaonLost := true, xo := false, wake := none } }

theorem Dev.get_aonFresh (d : Dev) {f : Fld} (h : f.store = .aon) (i j : Nat) : d.aonFresh.get f i j = f.reset i j % 2 ^ f.width := by
  unfold Dev.get Dev.aonFresh
  simp [h, RegFile.sel]

/-- AON on its crystal. -/
def Dev.onCrystal (d : Dev) : Dev := { d with sys := { d.sys with xo := true } }

theorem exec_xo32CrystalStart {s : State} (vaon : s.dev.sys.vaon = true) (rc : s.dev.sys.xo = false) :
    exec .xo32CrystalStart s = .next { s with dev := if s.dev.onCrystal.powered = true then s.dev.onCrystal.domains else s.dev.onCrystal } := by
  have heffect : exec .xo32CrystalStart s = onDev (fun d =>
      if (d.sys.xo || !d.sys.vaon) = true then d else if d.onCrystal.powered = true then d.onCrystal.domains else d.onCrystal) s := rfl
  rw [heffect, onDev_next]
  simp only [vaon, rc, Bool.not_true, Bool.or_self, Bool.false_eq_true, if_false]

theorem tabGet_put_self {α : Type} [Inhabited α] (t : Tab α) (k : Nat) (v : α) : tabGet (tabPut t k v) k = v := by
  simp [tabGet]

theorem tabGet_put_ne {α : Type} [Inhabited α] (t : Tab α) {k j : Nat} (v : α) (h : j ≠ k) : tabGet (tabPut t k v) j = tabGet t j := by
  simp [tabGet, tabFind_put_ne t v h]

/-- A pulse counted in DEEP. -/
def Aon.counted (a : Aon) (n : Nat) : Aon := { cnt := tabPut a.cnt n (tabGet a.cnt n + 1), cmp := tabPut a.cmp n (tabGet a.cmp n + 1) }

theorem exec_deepPulseCount {n : Nat} {s : State} (hn : n < 4) (deep : s.dev.get R.PWR_STATUS_STATE = 2) (vaon : s.dev.sys.vaon = true) :
    exec (.deepPulseCount n) s = .next { s with dev := { s.dev with aon := s.dev.aon.counted n } } := by
  simp [exec, execDeepPulseCount, onDev, hn, deep, vaon, Aon.counted]

/-- Settles O9, event by event. -/
theorem suppliesAndIsland : Obligations.SuppliesAndIsland := by
  unfold Obligations.SuppliesAndIsland
  refine ⟨fun n s vin => ?_, fun s supplies => ?_, fun s supplies vaon => ?_, fun s => ?_, fun s vaon rc => ?_, fun s vaon rc pow field up => ?_,
    fun n s hn deep vaon => ?_⟩
  · obtain ⟨hvin, hup, hstate, hgo⟩ := (s.dev.cutSaved n).cutDark_dark s.dev.cutRuns
    rw [← Dev.vinTrip_eq vin] at hvin hup hstate hgo
    refine ⟨{ s with dev := s.dev.vinTrip n }, rfl, hvin, hup, hstate, hgo, fun supplies ran awake => ?_⟩
    exact Dev.vinTrip_saved vin (by simp [Dev.cutRuns, supplies, ran, awake]) n
  · refine ⟨_, exec_suppliesLost supplies false, rfl, rfl, rfl, rfl, ?_⟩
    exact (Dev.get_vaonGone _ (by decide) _ _).trans s.dev.get_supplyGone_state
  · refine ⟨_, exec_suppliesLost supplies true, ?_⟩
    simp only [vaon, Bool.and_self, if_true]
    exact ⟨rfl, vaon, rfl, rfl, rfl, .trans (.of_regs rfl) (.set_life _ _ _ _ (by decide) (.inl (by decide)))⟩
  · refine ⟨{ s with dev := s.dev.aonFresh }, rfl, rfl, rfl, ?_, ?_, ?_, ?_, ?_, fun n => ?_⟩
    all_goals exact s.dev.get_aonFresh rfl _ _
  · have hkept : KeepRegs [] [R.PWR_DOMAIN_RUNNING] s.dev s.dev.onCrystal.domains :=
      KeepRegs.trans (b := s.dev.onCrystal) (.of_regs rfl) (.domains _ (by decide))
    refine ⟨_, exec_xo32CrystalStart vaon rc, ?_⟩
    split
    · exact ⟨Dev.sys_domains _, rfl, rfl, s.dev.onCrystal.without_domains _, hkept⟩
    · exact ⟨rfl, rfl, rfl, rfl, .of_regs rfl⟩
  · refine ⟨_, exec_xo32CrystalStart vaon rc, ?_⟩
    have hpow : s.dev.onCrystal.powered = true := pow
    rw [if_pos hpow]
    refine ⟨congrArg Sys.xo (Dev.sys_domains _), ?_⟩
    rw [Dev.bit_domains _ (by decide)]
    have hmeter : s.dev.onCrystal.domainsNow.getD 10 false =
        (s.dev.onCrystal.powered && true && !s.dev.sys.field && !s.dev.sys.lost.contains (regionCode .meter)) := rfl
    rw [hmeter, hpow]
    simp [field, regionCode, up]
  · refine ⟨_, exec_deepPulseCount hn deep vaon, ?_, ?_, fun m hm => ?_, rfl, rfl, rfl, .of_regs rfl⟩
    · exact tabGet_put_self _ _ _
    · exact tabGet_put_self _ _ _
    · exact tabGet_put_ne _ _ hm

end Sys2Proof.Machine
end

section
/-!
PROOFS. Life-cycle transitions and debug (R64-R69).
-/

namespace Sys2Proof.Machine

/-! ### Words of four registers -/

theorem le_lt (b : List Byte) : le b < 256 ^ b.length := by
  induction b with
  | nil => simp [le]
  | cons x l ih =>
    have hx : x.toNat < 256 := x.isLt
    have hpow : 256 ^ (x :: l).length = 256 ^ l.length * 256 := Nat.pow_succ _ _
    rw [hpow, le]
    omega

/-- The bytes of a little-endian number. -/
theorem toLe_le (b : List Byte) : toLe b.length (le b) = b := by
  induction b with
  | nil => rfl
  | cons x l ih =>
    have hx : x.toNat < 256 := x.isLt
    have hrest : (x.toNat + 256 * le l) / 256 = le l := by omega
    have hfirst : BitVec.ofNat 8 (x.toNat + 256 * le l) = x := by
      apply BitVec.eq_of_toNat_eq
      rw [BitVec.toNat_ofNat]
      omega
    rw [List.length_cons, le, toLe, hrest, hfirst, ih]

theorem length_fit (n : Nat) (b : List Byte) : (fit n b).length = n := by
  simp [fit, zeros]

/-- Four bytes of a list, through a register word. -/
theorem u32_fld {b : List Byte} {o : Nat} (h : o + 4 ≤ b.length) : u32 (fld b o 4 % 2 ^ 32) = (b.drop o).take 4 := by
  have hlen : ((b.drop o).take 4).length = 4 := by
    rw [List.length_take, List.length_drop]
    omega
  have hlt : le ((b.drop o).take 4) < 2 ^ 32 := by
    have := le_lt ((b.drop o).take 4)
    rwa [hlen] at this
  rw [fld, Nat.mod_eq_of_lt hlt]
  have := toLe_le ((b.drop o).take 4)
  rwa [hlen] at this

/-- Sixteen bytes written to four registers read back. -/
theorem Dev.words16_putWords16 (d : Dev) {f : Fld} (hf : f ∈ regMap) (hw : f.width = 32) (a : ∀ i < 4, f.has i 0 = true)
    {b : List Byte} (hb : b.length = 16) :
    (d.putWords16 f b).words16 f = b := by
  have hother : ∀ (d : Dev) (v : Nat) {i k : Nat}, i ≠ k → (d.set f v k).get f i = d.get f i :=
    fun d v _ _ h => d.get_set_copy hf (.inl h) v
  have hself : ∀ (d : Dev) (v i : Nat), i < 4 → (d.set f v i).get f i = v % 2 ^ 32 := fun d v i h => by
    rw [Dev.get_set_self _ _ _ _ _ (a i h), hw]
  unfold Dev.words16 Dev.putWords16
  rw [hother _ _ (show 0 ≠ 3 by decide), hother _ _ (show 0 ≠ 2 by decide), hother _ _ (show 0 ≠ 1 by decide), hself _ _ 0 (by decide),
    hother _ _ (show 1 ≠ 3 by decide), hother _ _ (show 1 ≠ 2 by decide), hself _ _ 1 (by decide),
    hother _ _ (show 2 ≠ 3 by decide), hself _ _ 2 (by decide), hself _ _ 3 (by decide),
    u32_fld (by omega), u32_fld (by omega), u32_fld (by omega), u32_fld (by omega)]
  have hdrop : ∀ o, (b.drop o).take 4 ++ b.drop (o + 4) = b.drop o := fun o => by
    rw [← List.drop_drop]
    exact List.take_append_drop 4 _
  have hnil : b.drop 16 = [] := List.drop_eq_nil_of_le (by omega)
  have h12 : (b.drop 12).take 4 = b.drop 12 := by
    have := hdrop 12
    rwa [hnil, List.append_nil] at this
  rw [h12, List.append_assoc, List.append_assoc, hdrop 8, hdrop 4]
  exact hdrop 0

theorem KeepRegs.putWords16 {ws : List Nat} {fs : List Fld} (d : Dev) {f : Fld} (hf : f ∈ lifeFlds) (h : f ∈ fs) (b : List Byte) :
    KeepRegs ws fs d (d.putWords16 f b) :=
  (((KeepRegs.set_life d _ _ _ hf (.inl h)).trans (.set_life _ _ _ _ hf (.inl h))).trans (.set_life _ _ _ _ hf (.inl h))).trans
    (.set_life _ _ _ _ hf (.inl h))

/-! ### A write of LC_CMD (R7, R76) -/

/-- The fields of LC_CMD that a write changes: REQ and COMMIT only act. -/
def lcCmdFlds : List Fld := [R.LC_CMD_TARGET, R.LC_CMD_DEBUG, R.LC_CMD_FAIL]

theorem fieldsAt_LC_CMD : fieldsAt R.LC_CMD_REQ.addr =
    [(R.LC_CMD_TARGET, 0, 0), (R.LC_CMD_REQ, 0, 0), (R.LC_CMD_COMMIT, 0, 0), (R.LC_CMD_DEBUG, 0, 0), (R.LC_CMD_FAIL, 0, 0)] := by decide +kernel

/-- The device after a write of LC_CMD has stored its fields. -/
def Dev.lcCmd (d : Dev) (v : Nat) : Dev := d.writeAddr R.LC_CMD_REQ.addr v

theorem Dev.lcCmd_eq (d : Dev) (v : Nat) :
    d.lcCmd v = ((d.writeField R.LC_CMD_TARGET 0 0 v).writeField R.LC_CMD_DEBUG 0 0 v).writeField R.LC_CMD_FAIL 0 0 v := by
  unfold Dev.lcCmd Dev.writeAddr
  rw [fieldsAt_LC_CMD]
  rfl

theorem Dev.lcCmd_eq_regs (d : Dev) (v : Nat) : d.lcCmd v = { d with regs := (d.lcCmd v).regs } := writeAddr_eq_regs d _ v

theorem Dev.without_regs (d : Dev) (rf : RegFile) (ps : List Part) : ({ d with regs := rf } : Dev).without ps = d.without ps := rfl

theorem Dev.without_lcCmd (d : Dev) (v : Nat) (ps : List Part) : (d.lcCmd v).without ps = d.without ps := by
  rw [Dev.lcCmd_eq_regs, Dev.without_regs]

theorem Dev.lcCmd_regs (d : Dev) (v : Nat) : KeepRegs [0x0B] lcCmdFlds d (d.lcCmd v) := by
  rw [Dev.lcCmd_eq]
  exact ((KeepRegs.writeField (by decide) _ (mem_of_lifeFlds (by decide)) (by decide) _ _ _).trans
    (.writeField (by decide) _ (mem_of_lifeFlds (by decide)) (by decide) _ _ _)).trans
    (.writeField (by decide) _ (mem_of_lifeFlds (by decide)) (by decide) _ _ _)

theorem Dev.on_lcCmd_debug (d : Dev) (v : Nat) : (d.lcCmd v).on R.LC_CMD_DEBUG = bitOf v 10 := by
  have hget : (d.lcCmd v).get R.LC_CMD_DEBUG = Nat.land (bits v 10 1) 1 :=
    get_writeAddr_listed d (f := R.LC_CMD_DEBUG) (mem_of_lifeFlds (by decide)) (by decide) rfl rfl
  rw [Dev.on, hget]
  have hlt : bits v 10 1 < 2 := Nat.mod_lt _ (by decide)
  unfold bitOf
  unfold bits at hlt ⊢
  generalize v / 2 ^ 10 % 2 = n at hlt ⊢
  interval_cases n <;> rfl

theorem Lc.code_of_ofCode {n : Nat} {a : Lc} (h : Lc.ofCode n = some a) : a.code = n := by
  unfold Lc.ofCode at h
  split at h <;> cases h <;> rfl

theorem Lc.ofCode_code (a : Lc) : Lc.ofCode a.code = some a := by cases a <;> rfl

/-- TARGET takes the code of a state. -/
theorem Dev.get_lcCmd_target (d : Dev) {v : Nat} {a : Lc} (h : Lc.ofCode (v % 8) = some a) : (d.lcCmd v).get R.LC_CMD_TARGET = a.code := by
  have hcode : a.code = v % 8 := Lc.code_of_ofCode h
  have hbits : bits v R.LC_CMD_TARGET.lsb R.LC_CMD_TARGET.width = a.code := by
    rw [hcode]
    simp [bits, show R.LC_CMD_TARGET.lsb = 0 from rfl, show R.LC_CMD_TARGET.width = 3 from rfl]
  have hget : (d.lcCmd v).get R.LC_CMD_TARGET = Nat.land (bits v R.LC_CMD_TARGET.lsb R.LC_CMD_TARGET.width) 7 :=
    get_writeAddr_listed d (f := R.LC_CMD_TARGET) (mem_of_lifeFlds (by decide)) (by decide) rfl (by
      rw [hbits]
      cases a <;> rfl)
  rw [hget, hbits]
  cases a <;> rfl

/-! ### What a COMMIT asks of the device, the same after the write of LC_CMD -/

theorem Dev.get_lcCmd (d : Dev) (v : Nat) {f : Fld} (hf : f ∈ regMap) (hb : f.block ≠ 0x0B) (h : f ∉ lcCmdFlds) (i j : Nat) :
    (d.lcCmd v).get f i j = d.get f i j := d.lcCmd_regs v f hf (by simpa using hb) h i j

theorem Dev.evt_lcCmd (d : Dev) (v : Nat) : (d.lcCmd v).evt = d.evt := by rw [Dev.lcCmd_eq_regs]
theorem Dev.rsv_lcCmd (d : Dev) (v : Nat) : (d.lcCmd v).rsv = d.rsv := by rw [Dev.lcCmd_eq_regs]
theorem Dev.key_lcCmd (d : Dev) (v : Nat) : (d.lcCmd v).key = d.key := by rw [Dev.lcCmd_eq_regs]
theorem Dev.sys_lcCmd (d : Dev) (v : Nat) : (d.lcCmd v).sys = d.sys := by rw [Dev.lcCmd_eq_regs]
theorem Dev.brk_lcCmd (d : Dev) (v : Nat) : (d.lcCmd v).brk = d.brk := by rw [Dev.lcCmd_eq_regs]
theorem Dev.boot_lcCmd (d : Dev) (v : Nat) : (d.lcCmd v).boot = d.boot := by rw [Dev.lcCmd_eq_regs]

theorem Dev.reins_lcCmd (d : Dev) (v : Nat) : (d.lcCmd v).reins = d.reins := by
  simp only [Dev.reins, Dev.get_lcCmd d v (f := R.PAIR_STATUS_ROLE) (mem_of_lifeFlds (by decide)) (by decide) (by decide)]

theorem Dev.authorityHeld_lcCmd (d : Dev) (v : Nat) : (d.lcCmd v).authorityHeld = d.authorityHeld := by
  simp only [Dev.authorityHeld, Dev.reins_lcCmd, Dev.brk_lcCmd]

theorem Dev.words16_lcCmd (d : Dev) (v : Nat) {f : Fld} (hf : f ∈ regMap) (hb : f.block ≠ 0x0B) (h : f ∉ lcCmdFlds) :
    (d.lcCmd v).words16 f = d.words16 f := by
  simp only [Dev.words16, Dev.get_lcCmd d v hf hb h]

theorem Dev.lcAnswer_lcCmd (d : Dev) (v t : Nat) : (d.lcCmd v).lcAnswer t = d.lcAnswer t := by
  have hkey : (d.lcCmd v).keyOf 61 = d.keyOf 61 := by
    simp only [Dev.keyOf, Dev.key_lcCmd, Dev.get_lcCmd d v (f := R.KEY_ATTR_STATE) (mem_of_lifeFlds (by decide)) (by decide) (by decide)]
  have hid : (d.lcCmd v).id = d.id := Dev.get_lcCmd d v (f := R.ID_DEV_DEV) (mem_of_lifeFlds (by decide)) (by decide) (by decide) 0 0
  simp only [Dev.lcAnswer, hkey, hid, Dev.sys_lcCmd, Dev.words16_lcCmd d v (f := R.LC_CHAL_CHAL) (mem_of_lifeFlds (by decide)) (by decide) (by decide),
    Dev.words16_lcCmd d v (f := R.LC_RESP_RESP) (mem_of_lifeFlds (by decide)) (by decide) (by decide)]

theorem Dev.lcOk_lcCmd (d : Dev) (v : Nat) (lc t : Lc) : (d.lcCmd v).lcOk lc t = d.lcOk lc t := by
  simp only [Dev.lcOk, Dev.on, Dev.lcAnswer_lcCmd,
    Dev.get_lcCmd d v (f := R.KEY_STATUS_ROOT_SET) (mem_of_lifeFlds (by decide)) (by decide) (by decide)]

/-! ### Reports beside the registers -/

theorem Dev.without_recLost (d : Dev) : d.recLost.without reports = d.without reports := by
  have h := (d.inc R.EVT_COUNTS_LOST).raise_eq_regs_out R.EVT_STATUS_OVERRUN 0 1
  unfold Dev.recLost
  dsimp only
  exact (congrArg (fun x : Dev => x.without reports) h).trans rfl

theorem RingStep.without_reports {a b : Dev} (h : RingStep a b) : b.without reports = a.without reports :=
  (congrArg (fun x : Dev => x.without reports) h.only).trans rfl

theorem Dev.without_evtStatus (d : Dev) (ps : List Part) : d.evtStatus.without ps = d.without ps := by
  unfold Dev.evtStatus
  dsimp only
  split
  · exact (Dev.without_set _ _ _ _ _ _).trans ((Dev.without_set _ _ _ _ _ _).trans (Dev.without_set _ _ _ _ _ _))
  · exact (Dev.without_set _ _ _ _ _ _).trans ((Dev.without_set _ _ _ _ _ _).trans (Dev.without_set _ _ _ _ _ _))

/-- A record touches reports alone. -/
theorem Dev.without_pushRec (d : Dev) (t c : Nat) (x : List Byte) : (d.pushRec t c x).without reports = d.without reports := by
  unfold Dev.pushRec
  extract_lets r full d1 buf evt d2 d3
  have h1 : d1.without reports = d.without reports := by
    unfold d1
    split
    · exact d.without_recLost
    · rfl
  have h3 : d3.without reports = d.without reports := (d2.without_evtStatus reports).trans h1
  split
  · exact (RingStep.item _ _ _ _ _).without_reports.trans h3
  · exact h3

/-! ### A challenge (R67, R69) -/

theorem mem_LC_CHAL : R.LC_CHAL_CHAL ∈ regMap := mem_of_lifeFlds (by decide)

/-- A challenge that stands from now on. -/
def Dev.chalStands (d : Dev) (b : Bool) : Dev := { d with sys := { d.sys with chal := some (d.clk.mono, b) } }

/-- A free value used up. -/
def Dev.freeUsed (d : Dev) : Dev := { d with free := d.free + 1 }

theorem Dev.lcChal_eq (d : Dev) (b : Bool) :
    d.lcChal b = (d.putWords16 R.LC_CHAL_CHAL (fit 16 (Config.fresh16 d.free))).freeUsed.chalStands b := rfl

theorem Dev.regs_chalStands (d : Dev) (b : Bool) : (d.freeUsed.chalStands b).regs = d.regs := rfl
theorem Dev.words16_chalStands (d : Dev) (b : Bool) (f : Fld) : (d.freeUsed.chalStands b).words16 f = d.words16 f := by
  simp only [Dev.words16, Dev.get, Dev.regs_chalStands]
theorem Dev.chal_chalStands (d : Dev) (b : Bool) : (d.freeUsed.chalStands b).sys.chal = some (d.clk.mono, b) := rfl
theorem Dev.free_chalStands (d : Dev) (b : Bool) : (d.freeUsed.chalStands b).free = d.free + 1 := rfl
theorem Dev.without_chalStands (d : Dev) (b : Bool) : (d.freeUsed.chalStands b).without [.sys, .free] = d.without [.sys, .free] := by
  cases d
  rfl
theorem Dev.clk_putWords16 (d : Dev) (f : Fld) (b : List Byte) : (d.putWords16 f b).clk = d.clk := by simp [Dev.putWords16]
theorem Dev.free_putWords16 (d : Dev) (f : Fld) (b : List Byte) : (d.putWords16 f b).free = d.free := by simp [Dev.putWords16]
theorem Dev.without_putWords16 (d : Dev) (f : Fld) (b : List Byte) (ps : List Part) : (d.putWords16 f b).without ps = d.without ps := by
  simp [Dev.putWords16, Dev.without_set]

theorem KeepRegs.lcChal {ws : List Nat} {fs : List Fld} (d : Dev) (b : Bool) (h : R.LC_CHAL_CHAL ∈ fs) : KeepRegs ws fs d (d.lcChal b) := by
  rw [Dev.lcChal_eq]
  exact (KeepRegs.putWords16 d (by decide) h _).upd (Dev.regs_chalStands _ _)

/-- What a challenge places and uses up. -/
theorem Dev.lcChal_places (d : Dev) (b : Bool) :
    (d.lcChal b).sys.chal = some (d.clk.mono, b) ∧ (d.lcChal b).words16 R.LC_CHAL_CHAL = fit 16 (Config.fresh16 d.free) ∧
      (d.lcChal b).free = d.free + 1 ∧ (d.lcChal b).without [.sys, .free] = d.without [.sys, .free] := by
  rw [Dev.lcChal_eq, Dev.chal_chalStands, Dev.words16_chalStands, Dev.free_chalStands, Dev.without_chalStands, Dev.clk_putWords16,
    Dev.free_putWords16, Dev.without_putWords16]
  exact ⟨rfl, d.words16_putWords16 mem_LC_CHAL rfl (by decide) (length_fit _ _), rfl, rfl⟩

theorem Dev.lcReq_eq (d : Dev) {v : Nat} (req : bitOf v 8 = true) : d.lcReq v = (d.lcCmd v).lcChal (bitOf v 10) := by
  rw [← d.on_lcCmd_debug v]
  exact if_pos req

/-- What a request does: a fresh challenge of the kind DEBUG tells, and the fields of LC_CMD stored. -/
theorem Dev.lcReq_places (s : State) {v : Nat} (req : bitOf v 8 = true) :
    (s.dev.lcReq v).sys.chal = some (s.dev.clk.mono, bitOf v 10) ∧
      (s.dev.lcReq v).words16 R.LC_CHAL_CHAL = fit 16 (Config.fresh16 s.dev.free) ∧ (s.dev.lcReq v).free = s.dev.free + 1 ∧
      Frame [.sys, .free] [0x0B] [R.LC_CHAL_CHAL, R.LC_CMD_TARGET, R.LC_CMD_DEBUG, R.LC_CMD_FAIL] s { s with dev := s.dev.lcReq v } := by
  have hclk : (s.dev.lcCmd v).clk = s.dev.clk := by rw [Dev.lcCmd_eq_regs]
  have hfree : (s.dev.lcCmd v).free = s.dev.free := by rw [Dev.lcCmd_eq_regs]
  obtain ⟨hchal, hwords, hused, hrest⟩ := (s.dev.lcCmd v).lcChal_places (bitOf v 10)
  rw [hclk] at hchal
  rw [hfree] at hwords hused
  rw [Dev.lcReq_eq _ req]
  refine ⟨hchal, hwords, hused, rfl, rfl, hrest.trans (Dev.without_lcCmd _ _ _), ?_⟩
  exact ((s.dev.lcCmd_regs v).mono (by simp) (by decide)).trans (.lcChal _ _ (by decide))

/-! ### A COMMIT (R66-R69) -/

/-- The challenge, answered or not, is over. -/
def Dev.chalOver (d : Dev) : Dev := { d with sys := { d.sys with chal := none } }

theorem Dev.get_chalOver (d : Dev) (f : Fld) (i j : Nat) : d.chalOver.get f i j = d.get f i j := rfl
theorem Dev.chal_chalOver (d : Dev) : d.chalOver.sys.chal = none := rfl

/-- The device once LC_CMD is stored and the challenge is over. -/
def Dev.lcOver (d : Dev) (v : Nat) : Dev := (d.lcCmd v).chalOver

theorem Dev.get_lcOver (d : Dev) (v : Nat) {f : Fld} (hf : f ∈ regMap) (hb : f.block ≠ 0x0B) (h : f ∉ lcCmdFlds) (i j : Nat) :
    (d.lcOver v).get f i j = d.get f i j := (Dev.get_chalOver _ f i j).trans (d.get_lcCmd v hf hb h i j)

theorem mem_LC_FAIL : R.LC_CMD_FAIL ∈ regMap := mem_of_lifeFlds (by decide)

/-- A refused COMMIT sets FAIL. -/
theorem Dev.get_lcFail_fail (d : Dev) (t : Nat) : (d.lcFail t).get R.LC_CMD_FAIL = 1 := by
  unfold Dev.lcFail
  rw [KeepRegs.pushRec (ws := reportWs) (fs := []) (by decide) (by decide) _ _ _ _ _ mem_LC_FAIL (by decide) (by simp)]
  exact Dev.get_raise_self _ mem_LC_FAIL (by decide) (by decide) rfl (by decide)

/-- A refused COMMIT leaves the other fields of the life cycle. -/
theorem Dev.get_lcFail (d : Dev) (t : Nat) {f : Fld} (hf : f ∈ regMap) (hb : f.block ∉ reportWs) (n : f ≠ R.LC_CMD_FAIL) :
    (d.lcFail t).get f = d.get f := by
  unfold Dev.lcFail
  rw [KeepRegs.pushRec (ws := reportWs) (fs := []) (by decide) (by decide) _ _ _ _ _ hf hb (by simp)]
  exact KeepRegs.raise (ws := reportWs) (fs := [R.LC_CMD_FAIL]) (by decide) d mem_LC_FAIL (.inl (by simp)) 0 1 f hf hb (by simpa using n) 0 0

theorem Dev.sys_lcFail (d : Dev) (t : Nat) : (d.lcFail t).sys = d.sys := by
  have hraise : (d.raise R.LC_CMD_FAIL).sys = d.sys := by rw [Dev.raise_eq_regs_out]
  exact (Dev.rest_sys (Dev.rest_pushRec _ _ _ _)).trans hraise

/-- The device at a granted transition. -/
def Dev.lcEntry (d : Dev) (v : Nat) (a : Lc) : Dev := ((d.lcOver v).set R.LC_STATE_STATE a.code).set R.LC_STATE_WIPE_DONE 0

/-- The device after a granted transition, before the wipe. -/
def Dev.lcEntered (d : Dev) (v : Nat) (a : Lc) : Dev := (d.lcEntry v a).sysReset none

theorem lcCommit_eq (s : State) {v : Nat} {a : Lc} (h : Lc.ofCode (v % 8) = some a) :
    lcCommit s v =
      if ((a == .ret || a == .scrapped) && s.dev.authorityHeld) = true then { s with dev := (s.dev.lcOver v).raise R.LC_CMD_FAIL }
      else if (!s.dev.lcOk s.fuse.lc a) = true then { s with dev := (s.dev.lcOver v).lcFail a.code }
      else { s with
        fuse := { s.fuse with lc := a, wipeDone := false }
        dev := if (a == .ret || a == .scrapped) = true then (s.dev.lcEntered v a).wipeMram else s.dev.lcEntered v a } := by
  have htarget : Lc.ofCode ((s.dev.lcCmd v).get R.LC_CMD_TARGET) = some a := by rw [Dev.get_lcCmd_target _ h, Lc.ofCode_code]
  have haddr : s.dev.writeAddr R.LC_CMD_COMMIT.addr v = s.dev.lcCmd v := rfl
  unfold lcCommit
  simp only [haddr, htarget, Dev.authorityHeld_lcCmd, Dev.lcOk_lcCmd]
  rfl

theorem Dev.entry_kept (d : Dev) (v : Nat) (a : Lc) :
    (d.lcEntry v a).evt = d.evt ∧ (d.lcEntry v a).rsv = d.rsv ∧ (d.lcEntry v a).key = d.key := by
  have hover : ∀ x : Dev, ((x.chalOver.set R.LC_STATE_STATE a.code).set R.LC_STATE_WIPE_DONE 0).evt = x.evt ∧
      ((x.chalOver.set R.LC_STATE_STATE a.code).set R.LC_STATE_WIPE_DONE 0).rsv = x.rsv ∧
      ((x.chalOver.set R.LC_STATE_STATE a.code).set R.LC_STATE_WIPE_DONE 0).key = x.key := fun _ => ⟨rfl, rfl, rfl⟩
  obtain ⟨hevt, hrsv, hkey⟩ := hover (d.lcCmd v)
  unfold Dev.lcEntry Dev.lcOver
  rw [hevt, hrsv, hkey, Dev.evt_lcCmd, Dev.rsv_lcCmd, Dev.key_lcCmd]
  exact ⟨rfl, rfl, rfl⟩

theorem Dev.get_lcEntry (d : Dev) (v : Nat) (a : Lc) :
    (d.lcEntry v a).get R.LC_STATE_STATE = a.code ∧ (d.lcEntry v a).get R.LC_STATE_WIPE_DONE = 0 := by
  unfold Dev.lcEntry
  refine ⟨?_, ?_⟩
  · rw [Dev.get_set_life _ (by decide) (by decide) (by decide), Dev.get_set_self _ _ _ _ _ (by decide)]
    cases a <;> rfl
  · rw [Dev.get_set_self _ _ _ _ _ (by decide)]
    rfl

/-- What stands after the reset of a transition, before the wipe. -/
theorem Dev.lcEntered_after (d : Dev) (v : Nat) (a : Lc) :
    (d.lcEntered v a).get R.LC_STATE_STATE = a.code ∧ (d.lcEntered v a).get R.LC_STATE_WIPE_DONE = 0 ∧
      (d.lcEntered v a).sys.ran = false ∧ (d.lcEntered v a).key = { nv := d.key.nv } ∧ (d.lcEntered v a).evt.nv = d.evt.nv ∧
      (d.lcEntered v a).rsv.map = d.rsv.map := by
  have h : AfterReset none (d.lcEntry v a) (d.lcEntered v a) := Dev.afterReset_sysReset _ _
  obtain ⟨hstate, hdone⟩ := d.get_lcEntry v a
  obtain ⟨hevt, hrsv, hkey⟩ := d.entry_kept v a
  refine ⟨?_, ?_, h.stopped.1, ?_, ?_, ?_⟩
  · rw [h.kept _ (mem_of_lifeFlds (by decide)) (by decide) (by decide) (by decide), hstate]
  · rw [h.kept _ (mem_of_lifeFlds (by decide)) (by decide) (by decide) (by decide), hdone]
  · rw [h.keys, hkey]
  · rw [h.log.1, hevt]
  · rw [h.stored.1, hrsv]

/-! ### The wipe of MRAM (R65) -/

/-- A field that the wipe of MRAM leaves: not in MRAM, nor a setting of a part. -/
def Fld.outsideWipe (f : Fld) : Bool :=
  match f.store with
  | .mram => false
  | .part _ => false
  | _ => true

theorem Dev.wipeKeys_eq (d : Dev) : d.wipeKeys = { d with regs := d.wipeKeys.regs, key := { d.key with nv := [], up := none } } := by
  have hfold : ∀ l : List Nat, l.foldl (fun d i => d.set R.KEY_NV_HWM_HWM 0 i) d =
      { d with regs := (l.foldl (fun d i => d.set R.KEY_NV_HWM_HWM 0 i) d).regs } := fun l =>
    List.foldlRecOn (motive := fun e : Dev => e = { d with regs := e.regs }) l _ rfl fun e he i _ =>
      congrArg (fun x : Dev => x.set R.KEY_NV_HWM_HWM 0 i) he
  exact congrArg (fun x : Dev => { x with key := { x.key with nv := [], up := none } }) (hfold _)

theorem KeepRegs.wipeKeys (d : Dev) : KeepRegs [] [R.KEY_NV_HWM_HWM] d d.wipeKeys := by
  refine KeepRegs.upd (b := (List.range 16).foldl (fun d i => d.set R.KEY_NV_HWM_HWM 0 i) d) ?_ rfl
  exact List.foldlRecOn (motive := fun e : Dev => KeepRegs [] [R.KEY_NV_HWM_HWM] d e) _ _ (.refl _ _ _) fun e he i _ =>
    he.trans (.set e _ _ _ (mem_of_lifeFlds (by decide)) (.inl (by simp)))

/-- The wipe, once the non-volatile keys are gone. -/
def Dev.mramGone (d : Dev) : Dev :=
  let slots := keyIn fun f => [R.IMG_PART_STAT_RUN_SLOT, R.IMG_PART_STAT_STATE_A, R.IMG_PART_STAT_STATE_B, R.IMG_VER_VERSION, R.IMG_EPOCH_SEC_EPOCH,
    R.IMG_EPOCH_IF_EPOCH].contains f
  { d with
    regs := { d.regs with mram := d.regs.mram.filter fun p => slots p.1, parts := [] }
    evt := {}
    tlb := {}
    tim := { d.tim with stored := none, arpH := 0 }
    mtr := {}
    rsv := { d.rsv with map := [], mapBad := false, bound := [] }
    wb := { d.wb with templates := [] }
    ctl := { d.ctl with banks := [], tables := [] }
    img := { d.img with stores := [], stage := [], writes := 0, writeLast := 0 } }

theorem Dev.wipeMram_eq (d : Dev) : d.wipeMram = d.wipeKeys.mramGone := rfl

theorem Dev.get_mramGone (d : Dev) {f : Fld} (h : f.outsideWipe = true) (i j : Nat) : d.mramGone.get f i j = d.get f i j := by
  unfold Fld.outsideWipe at h
  unfold Dev.get Dev.mramGone
  cases hs : f.store <;> simp_all [RegFile.sel]

theorem Dev.get_wipeMram (d : Dev) {f : Fld} (hf : f ∈ regMap) (h : f.outsideWipe = true) (i j : Nat) : d.wipeMram.get f i j = d.get f i j := by
  rw [Dev.wipeMram_eq, Dev.get_mramGone _ h]
  refine KeepRegs.wipeKeys d f hf (by simp) (fun c => ?_) i j
  rw [List.mem_singleton.1 c] at h
  exact absurd h (by decide)

/-- What the wipe empties. -/
theorem Dev.mramGone_empty (d : Dev) :
    d.mramGone.evt.nv = [] ∧ d.mramGone.rsv.map = [] ∧ d.mramGone.wb.templates = [] ∧ d.mramGone.tlb.headerOk = false :=
  ⟨rfl, rfl, rfl, rfl⟩

theorem Dev.sys_mramGone (d : Dev) : d.mramGone.sys = d.sys := rfl
theorem Dev.key_mramGone (d : Dev) : d.mramGone.key = d.key := rfl
theorem Dev.sys_wipeMram (d : Dev) : d.wipeMram.sys = d.sys := by rw [Dev.wipeMram_eq, Dev.sys_mramGone, Dev.wipeKeys_eq]
theorem Dev.bytes_wipeMram (d : Dev) : d.wipeMram.key.bytes = d.key.bytes := by rw [Dev.wipeMram_eq, Dev.key_mramGone, Dev.wipeKeys_eq]

/-! ### Debug (R69) -/

theorem Dev.sys_pushRec (d : Dev) (t c : Nat) (x : List Byte) : (d.pushRec t c x).sys = d.sys := Dev.rest_sys (d.rest_pushRec t c x)

/-- What a debug COMMIT asks. -/
def Dev.debugMay (d : Dev) : Bool := (d.boot.lc == .provisioned || d.boot.lc == .ret) && !d.reins && d.lcAnswer 0xD0

theorem Dev.debugMay_lcCmd (d : Dev) (v : Nat) : (d.lcCmd v).debugMay = d.debugMay := by
  simp only [Dev.debugMay, Dev.boot_lcCmd, Dev.reins_lcCmd, Dev.lcAnswer_lcCmd]

/-- Debug open, before its record. -/
def Dev.debugOpened (d : Dev) (v : Nat) : Dev := (d.lcOver v).set R.LC_STATE_DEBUG_OPEN 1

theorem Dev.lcDebug_eq (d : Dev) (v : Nat) :
    d.lcDebug v = if d.debugMay = true then (d.debugOpened v).pushRec (d.lcCmd v).now (lcCode 2) (u8 (d.lcCmd v).boot.lc.code)
      else (d.lcOver v).lcFail 0xD0 := by
  have haddr : d.writeAddr R.LC_CMD_COMMIT.addr v = d.lcCmd v := rfl
  rw [← d.debugMay_lcCmd v]
  unfold Dev.lcDebug
  simp only [haddr]
  rfl

theorem Dev.without_sys_reports (d : Dev) : d.without ([.sys] ++ reports) = { d.without reports with sys := {} } := by
  cases d
  rfl

theorem Dev.without_chalOver (d : Dev) : d.chalOver.without ([.sys] ++ reports) = d.without ([.sys] ++ reports) := by
  cases d
  rfl

theorem Dev.without_debugOpened (d : Dev) (v : Nat) : (d.debugOpened v).without ([.sys] ++ reports) = d.without ([.sys] ++ reports) := by
  unfold Dev.debugOpened Dev.lcOver
  rw [Dev.without_set, Dev.without_chalOver, Dev.without_lcCmd]

theorem KeepRegs.debugOpened (d : Dev) (v : Nat) :
    KeepRegs reportWs [R.LC_STATE_DEBUG_OPEN, R.LC_CMD_TARGET, R.LC_CMD_DEBUG, R.LC_CMD_FAIL] d (d.debugOpened v) := by
  have hcmd : KeepRegs reportWs [R.LC_STATE_DEBUG_OPEN, R.LC_CMD_TARGET, R.LC_CMD_DEBUG, R.LC_CMD_FAIL] d (d.lcOver v) :=
    fun f hf nw nf i j => d.get_lcOver v hf (fun c => nw (by simp [c, reportWs])) (fun c => nf (List.mem_cons_of_mem _ c)) i j
  exact hcmd.trans (.set_life _ _ _ _ (by decide) (.inl (by simp)))

/-- An accepted debug COMMIT opens debug and writes a record. -/
theorem Dev.lcDebug_opens (s : State) (v : Nat) (may : s.dev.debugMay = true) :
    (s.dev.lcDebug v).get R.LC_STATE_DEBUG_OPEN = 1 ∧ (s.dev.lcDebug v).sys.chal = none ∧
      Frame ([.sys] ++ reports) reportWs [R.LC_STATE_DEBUG_OPEN, R.LC_CMD_TARGET, R.LC_CMD_DEBUG, R.LC_CMD_FAIL] s
        { s with dev := s.dev.lcDebug v } := by
  have hrec : ∀ (x : Dev) (t c : Nat) (l : List Byte),
      KeepRegs reportWs [R.LC_STATE_DEBUG_OPEN, R.LC_CMD_TARGET, R.LC_CMD_DEBUG, R.LC_CMD_FAIL] x (x.pushRec t c l) :=
    fun x t c l => .pushRec (by decide) (by decide) x t c l
  have hopen : (s.dev.debugOpened v).get R.LC_STATE_DEBUG_OPEN = 1 := Dev.get_set_self _ _ _ _ _ (by decide)
  have hchal : (s.dev.debugOpened v).sys.chal = none := (s.dev.lcCmd v).chal_chalOver
  rw [Dev.lcDebug_eq, if_pos may]
  have hkept := (KeepRegs.debugOpened s.dev v).trans (hrec _ (s.dev.lcCmd v).now (lcCode 2) (u8 (s.dev.lcCmd v).boot.lc.code))
  refine ⟨?_, ?_, rfl, rfl, ?_, ?_⟩
  · rw [KeepRegs.pushRec (ws := reportWs) (fs := []) (by decide) (by decide) _ _ _ _ _ (mem_of_lifeFlds (by decide)) (by decide) (by simp), hopen]
  · rw [Dev.sys_pushRec, hchal]
  · rw [Dev.without_sys_reports, Dev.without_pushRec, ← Dev.without_sys_reports, Dev.without_debugOpened]
  · dsimp only
    exact hkept

/-! ### The end of a challenge (R67) -/

theorem Dev.mono_passToMono (d : Dev) (t : Nat) : (d.passToMono t).clk.mono = max d.clk.mono t := by
  unfold Dev.passToMono Dev.passMono
  split
  all_goals
    dsimp only
    omega

theorem Dev.without_passToMono (d : Dev) (t : Nat) : (d.passToMono t).without [.clk, .sys] = d.without [.clk, .sys] := by
  cases d
  rfl

theorem Dev.without_clk_chalOver (d : Dev) : d.chalOver.without [.clk, .sys] = d.without [.clk, .sys] := by
  cases d
  rfl

/-! ### The life cycle as a whole -/

theorem exec_lcReq (v : Word32) (s : State) :
    exec (.lcReq v) s = onDev (fun d => if (bitOf v.toNat 10 || !d.writable R.LC_CMD_REQ) = true then d else d.lcReq v.toNat) s := rfl

theorem exec_lcDebugReq (v : Word32) (s : State) :
    exec (.lcDebugReq v) s = onDev (fun d => if (bitOf v.toNat 10 && d.writable R.LC_CMD_REQ) = true then d.lcReq v.toNat else d) s := rfl

theorem exec_lcCommit {v : Word32} {s : State} (open_ : s.dev.writable R.LC_CMD_COMMIT = true) (commit : bitOf v.toNat 9 = true)
    (life : bitOf v.toNat 10 = false) : exec (.lcCommit v) s = .next (lcCommit s v.toNat) := by
  simp [exec, execLcCommit, open_, commit, life]

theorem exec_lcDebugCommit {v : Word32} {s : State} (open_ : s.dev.writable R.LC_CMD_COMMIT = true) (commit : bitOf v.toNat 9 = true)
    (debug : bitOf v.toNat 10 = true) : exec (.lcDebugCommit v) s = .next { s with dev := s.dev.lcDebug v.toNat } := by
  simp [exec, execLcDebugCommit, onDev, open_, commit, debug]

theorem exec_lcChallengeExpiry {s : State} {t : Nat} {b : Bool} (h : s.dev.sys.chal = some (t, b)) :
    exec .lcChallengeExpiry s = .next { s with dev := (s.dev.passToMono (t + 60 * second)).chalOver } := by
  have heffect : exec .lcChallengeExpiry s = .next { s with dev := match s.dev.sys.chal with
    | some (t, _) => (s.dev.passToMono (t + 60 * second)).chalOver
    | none => s.dev } := rfl
  rw [heffect, h]

/-- A granted transition. -/
theorem lcCommit_granted {s : State} {v : Nat} {a : Lc} (h : Lc.ofCode (v % 8) = some a) (ok : s.dev.lcOk s.fuse.lc a = true)
    (free : (a = .ret ∨ a = .scrapped) → s.dev.authorityHeld = false) :
    lcCommit s v = { s with
      fuse := { s.fuse with lc := a, wipeDone := false }
      dev := if (a == .ret || a == .scrapped) = true then (s.dev.lcEntered v a).wipeMram else s.dev.lcEntered v a } := by
  have hfree : ((a == .ret || a == .scrapped) && s.dev.authorityHeld) = false := by
    by_cases hwipe : a = .ret ∨ a = .scrapped
    · rw [free hwipe, Bool.and_false]
    · simp only [not_or] at hwipe
      simp [hwipe]
  rw [lcCommit_eq s h, if_neg (by simp [hfree]), if_neg (by simp [ok])]

/-- A refused transition. -/
theorem lcCommit_refused {s : State} {v : Nat} {a : Lc} (h : Lc.ofCode (v % 8) = some a)
    (refused : s.dev.lcOk s.fuse.lc a = false ∨ ((a = .ret ∨ a = .scrapped) ∧ s.dev.authorityHeld = true)) :
    lcCommit s v = { s with dev := (s.dev.lcOver v).raise R.LC_CMD_FAIL } ∨ lcCommit s v = { s with dev := (s.dev.lcOver v).lcFail a.code } := by
  rw [lcCommit_eq s h]
  split
  · exact .inl rfl
  · next hfree =>
    refine .inr (if_pos ?_)
    rcases refused with hbad | ⟨hwipe, held⟩
    · simp [hbad]
    · rcases hwipe with rfl | rfl <;> simp [held] at hfree

/-- What a refused COMMIT shows. -/
theorem Dev.lcOver_refused (d : Dev) (v t : Nat) {e : Dev} (h : e = (d.lcOver v).raise R.LC_CMD_FAIL ∨ e = (d.lcOver v).lcFail t) :
    e.get R.LC_CMD_FAIL = 1 ∧ e.sys.chal = none ∧
      ∀ f ∈ regMap, f.block ∉ reportWs → f ∉ lcCmdFlds → e.get f = d.get f := by
  have hchal : (d.lcOver v).sys.chal = none := (d.lcCmd v).chal_chalOver
  have hover : ∀ f ∈ regMap, f.block ∉ reportWs → f ∉ lcCmdFlds → (d.lcOver v).get f = d.get f := fun f hf nw nf =>
    d.get_lcOver v hf (fun c => nw (by simp [c, reportWs])) nf 0 0
  have hfail : ∀ f ∉ lcCmdFlds, f ≠ R.LC_CMD_FAIL := fun f nf c => nf (by simp [c, lcCmdFlds])
  rcases h with rfl | rfl
  · refine ⟨Dev.get_raise_self _ mem_LC_FAIL (by decide) (by decide) rfl (by decide), ?_, fun f hf nw nf => ?_⟩
    · rw [Dev.raise_eq_regs_out]
      exact hchal
    · refine Eq.trans ?_ (hover f hf nw nf)
      exact KeepRegs.raise (ws := reportWs) (fs := [R.LC_CMD_FAIL]) (by decide) _ mem_LC_FAIL (.inl (by simp)) 0 1 f hf nw
        (by simpa using hfail f nf) 0 0
  · refine ⟨Dev.get_lcFail_fail _ _, ?_, fun f hf nw nf => ?_⟩
    · rw [Dev.sys_lcFail, hchal]
    · exact (Dev.get_lcFail _ _ hf nw (hfail f nf)).trans (hover f hf nw nf)

/-- Settles O11, command by command. -/
theorem lifeCycleAndDebug : Obligations.LifeCycleAndDebug := by
  unfold Obligations.LifeCycleAndDebug
  refine ⟨fun v s open_ req life => ?_, fun v s a open_ commit life target ok free => ?_, fun v s a open_ commit life target refused => ?_,
    fun v s open_ req debug => ?_, fun v s open_ commit debug lc away answer => ?_, fun v s open_ commit debug refused => ?_, fun s t b stands => ?_⟩
  · have heffect : exec (.lcReq v) s = .next { s with dev := s.dev.lcReq v.toNat } := by
      rw [exec_lcReq, onDev_next, if_neg (by simp [life, open_])]
    have hplaces := Dev.lcReq_places s req
    rw [life] at hplaces
    exact ⟨_, heffect, hplaces⟩
  · obtain ⟨hstate, hdone, hran, hkey, hlog, hmap⟩ := s.dev.lcEntered_after v.toNat a
    refine ⟨_, exec_lcCommit open_ commit life, ?_⟩
    rw [lcCommit_granted target ok free]
    by_cases hwipe : a = .ret ∨ a = .scrapped
    · have hcond : (a == .ret || a == .scrapped) = true := by simpa using hwipe
      rw [if_pos hcond]
      refine ⟨rfl, ?_, ?_, ?_, ?_, fun _ => Dev.mramGone_empty _, fun hret hscr => (hwipe.elim hret hscr).elim⟩
      · exact (Dev.get_wipeMram _ (mem_of_lifeFlds (by decide)) (by decide) _ _).trans hstate
      · exact (Dev.get_wipeMram _ (mem_of_lifeFlds (by decide)) (by decide) _ _).trans hdone
      · rw [Dev.sys_wipeMram, hran]
      · rw [Dev.bytes_wipeMram, hkey]
    · have hcond : ¬ (a == .ret || a == .scrapped) = true := by simpa using hwipe
      rw [if_neg hcond]
      refine ⟨rfl, hstate, hdone, hran, ?_, fun h => (hwipe h).elim, fun _ _ => ⟨hlog, hmap, ?_⟩⟩
      · rw [hkey]
      · rw [hkey]
  · refine ⟨_, exec_lcCommit open_ commit life, ?_⟩
    rcases lcCommit_refused target refused with e | e
    · obtain ⟨hfail, hchal, hkept⟩ := s.dev.lcOver_refused v.toNat a.code (.inl rfl)
      rw [e]
      exact ⟨rfl, hfail, hchal, hkept _ (mem_of_lifeFlds (by decide)) (by decide) (by decide)⟩
    · obtain ⟨hfail, hchal, hkept⟩ := s.dev.lcOver_refused v.toNat a.code (.inr rfl)
      rw [e]
      exact ⟨rfl, hfail, hchal, hkept _ (mem_of_lifeFlds (by decide)) (by decide) (by decide)⟩
  · have heffect : exec (.lcDebugReq v) s = .next { s with dev := s.dev.lcReq v.toNat } := by
      rw [exec_lcDebugReq, onDev_next, if_pos (by simp [debug, open_])]
    obtain ⟨hchal, hwords, -, hframe⟩ := Dev.lcReq_places s req
    rw [debug] at hchal
    exact ⟨_, heffect, hchal, hwords, hframe⟩
  · have may : s.dev.debugMay = true := by
      rcases lc with h | h <;> simp [Dev.debugMay, h, away, answer]
    refine ⟨_, exec_lcDebugCommit open_ commit debug, ?_⟩
    dsimp only
    exact Dev.lcDebug_opens s v.toNat may
  · have may : ¬ s.dev.debugMay = true := by
      rcases refused with ⟨h, h'⟩ | h | h <;> simp [Dev.debugMay, *]
    have hrefused : s.dev.lcDebug v.toNat = (s.dev.lcOver v.toNat).lcFail 0xD0 := by rw [Dev.lcDebug_eq, if_neg may]
    obtain ⟨hfail, -, hkept⟩ := s.dev.lcOver_refused v.toNat 0xD0 (.inr hrefused)
    refine ⟨_, exec_lcDebugCommit open_ commit debug, ?_⟩
    dsimp only
    exact ⟨hfail, hkept _ (mem_of_lifeFlds (by decide)) (by decide) (by decide)⟩
  · have hmono : t + 60 * second ≤ (s.dev.passToMono (t + 60 * second)).clk.mono := by
      rw [Dev.mono_passToMono]
      exact Nat.le_max_right _ _
    refine ⟨_, exec_lcChallengeExpiry stands, Dev.chal_chalOver _, hmono, rfl, rfl, ?_, .of_regs rfl⟩
    exact (Dev.without_clk_chalOver _).trans (Dev.without_passToMono _ _)

end Sys2Proof.Machine
end

section
/-!
PROOFS. What the blocks leave alone.
-/

namespace Sys2Proof.Machine

/-- The fields of the power state, the level and the pair that the blocks leave alone. -/
def coreFlds : List Fld :=
  [R.PWR_CTRL_GO, R.PWR_STATUS_STATE, R.PWR_STATUS_WAKE_SRC, R.PWR_STATUS_REFUSE_WHY, R.SYS_LEVEL_LEVEL, R.SYS_LEVEL_LAST_FALL,
    R.SYS_BOOT_STATUS_REF_ABSENT, R.PAIR_STATUS_PAIRED, R.PAIR_STATUS_ROLE]

/-- A field that shares no bit with those, nor with CAP and the drag sources. -/
def Fld.outsideCore (f : Fld) : Bool :=
  (R.SYS_LEVEL_CFG_CAP :: R.BRK_SRC_SRC :: coreFlds).all (fun g => g.apart f) && f.lsb < 32

/-- What the blocks leave alone: the clocks but for the slew, the fuses as read, the tailboard, the state of SYS, the radio's fault, CAP, the drag
sources, and the fields of `coreFlds`. -/
structure Core where
  clk : Clk
  boot : Fuse
  tlb : Tlb
  sys : Sys
  faulted : Bool
  cap : Nat
  src : Nat
  regs : List Nat

/-- The clocks less the slew. -/
def Clk.face (c : Clk) : Clk := { c with slew := 0, slewAcc := 0 }

/-- The state of SYS less the parts that do not run and the note of a lost VAON. -/
def Sys.face (y : Sys) : Sys := { y with down := [], vaonLost := false }

def Dev.core (d : Dev) : Core :=
  { clk := d.clk.face, boot := d.boot, tlb := d.tlb, sys := d.sys.face, faulted := d.rad.faulted
    cap := d.get R.SYS_LEVEL_CFG_CAP, src := d.get R.BRK_SRC_SRC, regs := coreFlds.map fun f => d.get f }

/-- The slew of the yard clock, with the state of TIME. -/
theorem Dev.core_slewed (d : Dev) (z : Int) (acc : Nat) (t : Tim) :
    ({ d with clk := { d.clk with slew := z, slewAcc := acc }, tim := t } : Dev).core = d.core := rfl

/-- The state of the radio but for its fault. -/
theorem Dev.core_rad (d : Dev) {r : Rad} (h : r.faulted = d.rad.faulted) : ({ d with rad := r } : Dev).core = d.core := by
  simp only [Dev.core, h]
  rfl

/-- An update of the parts outside the core. -/
theorem Dev.core_with (x : Dev) (ring : Ring) (evt : Evt) (key : Key) (sky : Sky) (trk : Trk) (tim : Tim) (mtr : Mtr) (aon : Aon)
    (rsv : Rsv) (brk : Brk) (axs : Axs) (wb : Wb) (ctl : Ctl) (yrd : Yrd) (img : Img) (pair : Pair) (out : List Out) (free : Nat) :
    (Dev.mk x.clk x.boot x.regs ring evt x.tlb key sky trk tim mtr aon rsv brk axs wb ctl yrd x.rad img pair x.sys out free).core = x.core := rfl

theorem Dev.core_set (d : Dev) {f : Fld} (h : f.outsideCore = true) (v i j : Nat) : (d.set f v i j).core = d.core := by
  simp only [Fld.outsideCore, Bool.and_eq_true, decide_eq_true_eq, List.all_eq_true] at h
  obtain ⟨hapart, hlsb⟩ := h
  have hget : ∀ g ∈ R.SYS_LEVEL_CFG_CAP :: R.BRK_SRC_SRC :: coreFlds, (d.set f v i j).get g = d.get g := by
    intro g hg
    by_cases b : f.has i j = true
    · have hg' : g.has 0 0 = true ∧ g.lsb < 32 := by
        revert g
        decide
      exact Dev.get_set_ne d v (.inr (Fld.key_ne_of_apart (hapart g hg) hg'.2 hlsb hg'.1 b))
    · simp [Dev.get, Dev.set, b]
  simp only [Dev.core, hget _ List.mem_cons_self, hget _ (List.mem_cons_of_mem _ List.mem_cons_self)]
  congr 1
  exact List.map_congr_left fun g hg => hget g (List.mem_cons_of_mem _ (List.mem_cons_of_mem _ hg))

theorem Dev.core_put (d : Dev) {f : Fld} (h : f.outsideCore = true) (b : Bool) (i j : Nat) : (d.put f b i j).core = d.core := d.core_set h _ i j
theorem Dev.core_sat (d : Dev) {f : Fld} (h : f.outsideCore = true) (v i j : Nat) : (d.sat f v i j).core = d.core := d.core_set h _ i j
theorem Dev.core_inc (d : Dev) {f : Fld} (h : f.outsideCore = true) (i j : Nat) : (d.inc f i j).core = d.core := d.core_set h _ i j
theorem Dev.core_seti (d : Dev) {f : Fld} (h : f.outsideCore = true) (z : Int) (i j : Nat) : (d.seti f z i j).core = d.core := d.core_set h _ i j
theorem Dev.core_sati (d : Dev) {f : Fld} (h : f.outsideCore = true) (z : Int) (i j : Nat) : (d.sati f z i j).core = d.core := d.core_set h _ i j
theorem Dev.core_setBit (d : Dev) {f : Fld} (h : f.outsideCore = true) (n : Nat) (b : Bool) (i j : Nat) : (d.setBit f n b i j).core = d.core :=
  d.core_set h _ i j

theorem coreFlds_outside_reports :
    (R.SYS_LEVEL_CFG_CAP :: R.BRK_SRC_SRC :: coreFlds).all (fun f => regMap.elem f && !reportWs.elem f.block) = true := by decide +kernel

/-- What keeps the rest of the device and all registers but those of reports keeps the core. -/
theorem Dev.core_of_rest {a b : Dev} (h : b.rest = a.rest) (k : KeepRegs reportWs [] a b) : b.core = a.core := by
  have hget : ∀ g ∈ R.SYS_LEVEL_CFG_CAP :: R.BRK_SRC_SRC :: coreFlds, b.get g = a.get g := by
    intro g hg
    have hside := List.all_eq_true.1 coreFlds_outside_reports g hg
    simp only [Bool.and_eq_true, Bool.not_eq_true'] at hside
    exact k g (List.elem_iff.1 hside.1) (fun c => by simp [c] at hside) (by simp) 0 0
  simp only [Dev.core, Dev.rest_clk h, Dev.rest_boot h, Dev.rest_tlb h, Dev.rest_sys h, Dev.rest_rad h, hget _ List.mem_cons_self,
    hget _ (List.mem_cons_of_mem _ List.mem_cons_self)]
  congr 1
  exact List.map_congr_left fun g hg => hget g (List.mem_cons_of_mem _ (List.mem_cons_of_mem _ hg))

theorem Dev.core_record (d : Dev) (c : Nat) (x : List Byte) : (d.record c x).core = d.core :=
  core_of_rest (d.rest_record c x) (.record (by decide) (by decide) d c x)
theorem Dev.core_pushRec (d : Dev) (t c : Nat) (x : List Byte) : (d.pushRec t c x).core = d.core :=
  core_of_rest (d.rest_pushRec t c x) (.pushRec (by decide) (by decide) d t c x)
theorem Dev.core_item (d : Dev) (r src t : Nat) (b : List Byte) : (d.item r src t b).core = d.core :=
  core_of_rest (d.rest_item r src t b) (.item (by decide) d r src t b)
theorem Dev.core_complete (d : Dev) (q : Desc) (st : Status) : (d.complete q st).core = d.core :=
  core_of_rest (d.rest_complete q st) (.complete (by decide) d q st)
theorem Dev.core_completeAll (d : Dev) (l : List Desc) (st : Status) : (d.completeAll l st).core = d.core :=
  core_of_rest (d.rest_completeAll l st) (.completeAll (by decide) d l st)
theorem Dev.core_writeCompl (d : Dev) (q : Desc) (a b c : Nat) : (d.writeCompl q a b c).core = d.core :=
  core_of_rest (d.rest_writeCompl q a b c) (.writeCompl (by decide) d q a b c)
theorem Dev.core_evtStatus (d : Dev) : d.evtStatus.core = d.core := core_of_rest d.rest_evtStatus (.evtStatus (by decide) d)
theorem Dev.core_emit (d : Dev) (o : Out) : (d.emit o).core = d.core := rfl
theorem Dev.core_toHost (d : Dev) (a : Nat) (b : List Byte) : (d.toHost a b).core = d.core := by
  unfold Dev.toHost
  split <;> rfl
theorem Dev.core_raise (d : Dev) {f : Fld} (h : f.outsideCore = true) (i v : Nat) : (d.raise f i v).core = d.core :=
  (core_of_rest (Dev.rest_devIrq _ _) (.devIrq (by decide) _ _)).trans (d.core_set h _ i 0)

theorem Dev.core_foldl {α : Type} {f : Dev → α → Dev} (h : ∀ d x, (f d x).core = d.core) (l : List α) (d : Dev) :
    (l.foldl f d).core = d.core :=
  List.foldlRecOn (motive := fun e : Dev => e.core = d.core) l f rfl fun e he x _ => (h e x).trans he

/-- The laws of the core, as one set of rules. -/
theorem Dev.core_laws :
    (∀ (d : Dev) {f : Fld}, f.outsideCore = true → ∀ v i j, (d.set f v i j).core = d.core) ∧
    (∀ (d : Dev) {f : Fld}, f.outsideCore = true → ∀ b i j, (d.put f b i j).core = d.core) ∧
    (∀ (d : Dev) {f : Fld}, f.outsideCore = true → ∀ v i j, (d.sat f v i j).core = d.core) ∧
    (∀ (d : Dev) {f : Fld}, f.outsideCore = true → ∀ i j, (d.inc f i j).core = d.core) ∧
    (∀ (d : Dev) {f : Fld}, f.outsideCore = true → ∀ z i j, (d.seti f z i j).core = d.core) ∧
    (∀ (d : Dev) {f : Fld}, f.outsideCore = true → ∀ z i j, (d.sati f z i j).core = d.core) ∧
    (∀ (d : Dev) {f : Fld}, f.outsideCore = true → ∀ n b i j, (d.setBit f n b i j).core = d.core) ∧
    (∀ (d : Dev) {f : Fld}, f.outsideCore = true → ∀ i v, (d.raise f i v).core = d.core) ∧
    (∀ (d : Dev) c x, (d.record c x).core = d.core) ∧ (∀ (d : Dev) t c x, (d.pushRec t c x).core = d.core) ∧
    (∀ (d : Dev) r src t b, (d.item r src t b).core = d.core) ∧ (∀ (d : Dev) q st, (d.complete q st).core = d.core) ∧
    (∀ (d : Dev) l st, (d.completeAll l st).core = d.core) ∧ (∀ (d : Dev) o, (d.emit o).core = d.core) ∧
    (∀ (d : Dev) a b, (d.toHost a b).core = d.core) ∧ (∀ d : Dev, d.evtStatus.core = d.core) ∧
    (∀ (x : Dev) ring evt key sky trk tim mtr aon rsv brk axs wb ctl yrd img pair out free,
      (Dev.mk x.clk x.boot x.regs ring evt x.tlb key sky trk tim mtr aon rsv brk axs wb ctl yrd x.rad img pair x.sys out free).core = x.core) ∧
    (∀ (p : Prop) [Decidable p] (a b : Dev), (if p then a else b).core = if p then a.core else b.core) :=
  ⟨core_set, core_put, core_sat, core_inc, core_seti, core_sati, core_setBit, core_raise, core_record, core_pushRec, core_item, core_complete,
    core_completeAll, core_emit, core_toHost, core_evtStatus, core_with, fun p _ a b => apply_ite Dev.core p a b⟩

end Sys2Proof.Machine
end

section
/-!
PROOFS. The blocks leave the core alone (1): the recorder, searches and channels, waybills, time.
-/

namespace Sys2Proof.Machine

/-! ### The recorder, searches, channels -/

theorem Dev.core_flushCommit (d : Dev) (final : Bool) : (d.flushCommit final).core = d.core := by
  simp (disch := decide) only [Dev.flushCommit, Dev.core_laws]
theorem Dev.core_endEpisode (d : Dev) : d.endEpisode.core = d.core := by
  unfold Dev.endEpisode
  split <;> simp (disch := decide) only [Dev.core_laws]
theorem Dev.core_flush (d : Dev) (final : Bool) : (d.flush final).core = d.core := by
  simp (disch := decide) only [Dev.flush, Dev.core_laws, Dev.core_flushCommit, Dev.core_endEpisode, ite_self]
theorem Dev.core_saveCommit (d : Dev) : d.saveCommit.core = d.core := by
  unfold Dev.saveCommit
  split <;> simp (disch := decide) only [Dev.core_laws]
theorem Dev.core_acqCount (d : Dev) : (d.acqCount).core = d.core := by
  simp (disch := decide) only [Dev.acqCount, Dev.core_laws]
theorem Dev.core_modChan (d : Dev) (ch : Nat) (f : Chan → Chan) : (d.modChan ch f).core = d.core := rfl
theorem Dev.core_chState (d : Dev) (ch st : Nat) : (d.chState ch st).core = d.core := by
  simp (disch := decide) only [Dev.core_laws, Dev.chState, Dev.core_modChan, ite_self]
theorem Dev.core_dropSearches (d : Dev) (p : Search → Bool) (st : Status) : (d.dropSearches p st).core = d.core := by
  refine (Dev.core_foldl (fun d x => ?_) _ _).trans (by simp (disch := decide) only [Dev.core_laws, Dev.core_acqCount])
  dsimp only
  split <;> split <;> simp (disch := decide) only [Dev.core_laws, Dev.core_chState, ite_self]
theorem Dev.core_bandLost (d : Dev) (b : Nat) : (d.bandLost b).core = d.core := by
  refine Dev.core_foldl (fun d ch => ?_) _ _
  simp (disch := decide) only [Dev.core_laws, Dev.core_chState, Dev.core_modChan, ite_self]
theorem Dev.core_rfLost (d : Dev) (b : Nat) : (d.rfLost b).core = d.core := by
  simp (disch := decide) only [Dev.rfLost, Dev.core_laws, Dev.core_dropSearches, Dev.core_bandLost]

/-! ### Waybills -/

theorem Dev.core_wbPut (d : Dev) (i : Nat) (w : Waybill) : (d.wbPut i w).core = d.core := by
  simp (disch := decide) only [Dev.wbPut, Dev.core_laws]
theorem Dev.core_wbUnbind (d : Dev) (w : Waybill) : (d.wbUnbind w).core = d.core := by
  unfold Dev.wbUnbind
  split <;> simp (disch := decide) only [Dev.core_laws]
theorem Dev.core_rsvCounts (d : Dev) : (d.rsvCounts).core = d.core := by
  simp (disch := decide) only [Dev.rsvCounts, Dev.core_laws]
theorem Dev.core_wbWithdraw (d : Dev) (i : Nat) : (d.wbWithdraw i).core = d.core := by
  simp (disch := decide) only [Dev.wbWithdraw, Dev.core_laws, Dev.core_rsvCounts]
theorem Dev.core_bindLater (d : Dev) (mask lot : Nat) : (d.bindLater mask lot).core = d.core := by
  simp (disch := decide) only [Dev.bindLater, Dev.core_laws]
theorem Dev.core_wbEnd (d : Dev) (i status detail result : Nat) : (d.wbEnd i status detail result).core = d.core := by
  unfold Dev.wbEnd
  split <;> simp (disch := decide) only [Dev.core_laws, Dev.core_wbUnbind, Dev.core_wbWithdraw, Dev.core_bindLater, Dev.core_wbPut, ite_self]
theorem Dev.core_armOp (d : Dev) (i : Nat) (w : Waybill) (j : Nat) (o : WbOp) : (d.armOp i w j o).core = d.core := by
  unfold Dev.armOp
  dsimp only
  split <;> simp (disch := decide) only [Dev.core_laws, Dev.wbStamp, Dev.core_wbPut, Dev.core_wbEnd, ite_self]
theorem Dev.core_wbFire (d : Dev) (i : Nat) (w : Waybill) : (d.wbFire i w).core = d.core := by
  simp (disch := decide) only [Dev.core_laws, Dev.wbFire, Dev.wbStamp, Dev.core_wbPut]
theorem Dev.core_wbAdvance (d : Dev) (i : Nat) : (d.wbAdvance i).core = d.core := by
  unfold Dev.wbAdvance
  extract_lets e
  have he : e.core = d.core := Dev.core_foldl (fun d j => by split <;> simp (disch := decide) only [Dev.core_laws, Dev.core_armOp, ite_self]) _ _
  split <;> simp (disch := decide) only [Dev.core_laws, Dev.core_wbEnd, Dev.core_wbFire, he, ite_self]
theorem Dev.core_wbRoute (d : Dev) (i no out reason : Nat) : (d.wbRoute i no out reason).core = d.core := by
  unfold Dev.wbRoute
  split
  · rfl
  · split
    · rfl
    · split
      · rfl
      · split <;> simp (disch := decide) only [Dev.core_laws, Dev.core_wbPut, Dev.core_wbAdvance, Dev.core_wbEnd, ite_self]
theorem Dev.core_wbEach (d : Dev) (f : Waybill → WbOp → WbOp) : (d.wbEach f).core = d.core := by
  refine Dev.core_foldl (fun d p => ?_) _ _
  split <;> simp (disch := decide) only [Dev.core_laws, Dev.core_wbPut, Dev.core_wbAdvance, ite_self]
theorem Dev.core_sendCancel (d : Dev) (i : Nat) : (d.sendCancel i).core = d.core := by
  unfold Dev.sendCancel
  split <;> simp (disch := decide) only [Dev.core_laws, Dev.wbStamp, Dev.core_wbPut]
theorem Dev.core_wbLost (d : Dev) (m cause : Nat) : (d.wbLost m cause).core = d.core := by
  unfold Dev.wbLost
  split <;> simp (disch := decide) only [Dev.core_laws, Dev.core_sendCancel, Dev.core_wbEnd, ite_self]
theorem Dev.core_portTake (d : Dev) (x : WbIn) : (d.portTake x).core = d.core := by
  cases x with
  | route i no out reason => exact d.core_wbRoute i no out reason
  | axis a w on => exact d.core_wbEach _
  | pulse n => exact d.core_wbEach _
  | moveEnd i status detail =>
    unfold Dev.portTake
    dsimp only
    split <;> simp (disch := decide) only [Dev.core_laws, Dev.core_wbEnd, ite_self]
  | ended id status => exact d.core_wbEach _
  | lost m cause => exact d.core_wbLost m cause
theorem Dev.core_bindOne {d e : Dev} (h : d.bindOne = some e) : e.core = d.core := by
  unfold Dev.bindOne at h
  dsimp only at h
  split at h
  · obtain rfl := Option.some.inj h
    simp (disch := decide) only [Dev.core_laws, Dev.core_wbAdvance, Dev.core_wbPut, ite_self]
  · cases h
theorem Dev.core_settleN (n : Nat) (d : Dev) : (d.settleN n).core = d.core := by
  induction n generalizing d with
  | zero => rfl
  | succ n ih =>
    unfold Dev.settleN
    split
    · simp (disch := decide) only [Dev.core_laws, ih, Dev.core_portTake]
    · split
      · next h => exact (ih _).trans (Dev.core_bindOne h)
      · rfl
theorem Dev.core_dockBind (d : Dev) : d.dockBind.core = d.core := by
  refine Dev.core_foldl (fun d k => ?_) _ _
  simp (disch := decide) only [Dev.core_laws, Dev.core_bindLater, ite_self]
theorem Dev.core_wbView (d : Dev) : d.wbView.core = d.core := by
  refine (Dev.core_foldl (fun d p => ?_) _ _).trans ((Dev.core_foldl (fun d r => ?_) _ _).trans ?_)
  all_goals simp (disch := decide) only [Dev.core_laws]
theorem Dev.core_settle (d : Dev) : d.settle.core = d.core := by
  simp (disch := decide) only [Dev.settle, Dev.core_settleN, Dev.core_dockBind, Dev.core_wbView]

/-! ### Bands and channels -/

theorem Dev.core_chainOff (d : Dev) (b : Nat) : (d.chainOff b).core = d.core := by
  simp (disch := decide) only [Dev.chainOff, Dev.core_laws, Dev.core_rfLost]
theorem Dev.core_skyStop (d : Dev) : (d.skyStop).core = d.core := by
  simp (disch := decide) only [Dev.skyStop, Dev.core_laws, Dev.core_chainOff]
theorem Dev.core_corrStop (d : Dev) : d.corrStop.core = d.core := by
  refine (Dev.core_foldl (fun d ch => ?_) _ _).trans rfl
  simp (disch := decide) only [Dev.core_laws, Dev.core_chState, Dev.core_modChan, ite_self]
theorem Dev.core_spareFails (d : Dev) (cl cause : Nat) : (d.spareFails cl cause).core = d.core := by
  simp (disch := decide) only [Dev.spareFails, Dev.core_laws, ite_self]
theorem Dev.core_waitChan (d : Dev) (c : Cand) : (d.waitChan c).core = d.core := by
  simp (disch := decide) only [Dev.waitChan, Dev.core_laws]
theorem Dev.core_startPullin (d : Dev) (ch sat sig : Nat) (handover : Bool) (elev code dopp : Int) :
    (d.startPullin ch sat sig handover elev code dopp).core = d.core := by
  simp (disch := decide) only [Dev.startPullin, Dev.core_laws, Dev.core_chState]
theorem Dev.core_startHandover (d : Dev) (ch sat sig : Nat) (elev : Int) : (d.startHandover ch sat sig elev).core = d.core := by
  unfold Dev.startHandover
  split <;> simp (disch := decide) only [Dev.core_startPullin]
theorem Dev.core_startOn (d : Dev) (ch : Nat) (c : Cand) : (d.startOn ch c).core = d.core := by
  simp (disch := decide) only [Dev.startOn, Dev.core_laws, Dev.core_waitChan, Dev.core_startHandover, Dev.core_startPullin, ite_self]
theorem Dev.core_spareTakeover (d : Dev) (ch : Nat) : (d.spareTakeover ch).core = d.core := by
  unfold Dev.spareTakeover
  split
  · rfl
  · extract_lets cl t d1 arg d2 d3 sat sig st c code d4 x
    have h1 : d1.core = d.core := by simp (disch := decide) only [Dev.core_laws, d1]
    have h4 : d4.core = d.core := by simp (disch := decide) only [Dev.core_laws, d4, Dev.core_chState, h1]
    split
    · simp (disch := decide) only [Dev.core_laws, d3, d2, Dev.core_modChan, h1]
    · split
      · split <;> simp (disch := decide) only [Dev.core_laws, Dev.core_startOn, Dev.core_waitChan, h4, ite_self]
      · exact h4
theorem Dev.core_patternTest (d : Dev) (l : List (Nat × Nat)) : (d.patternTest l).core = d.core := by
  refine (Dev.core_foldl (fun (d : Dev) (x : Nat × Nat) => d.core_spareTakeover x.1) _ _).trans ?_
  refine Eq.trans rfl (Dev.core_foldl (fun d x => ?_) l d)
  simp (disch := decide) only [Dev.core_laws, Dev.core_spareFails, ite_self]

/-! ### The rings -/

theorem Dev.core_submitFull (d : Dev) (c : Nat) : (d.submitFull c).core = d.core := by
  refine Dev.core_foldl (fun d r => ?_) _ _
  simp (disch := decide) only [Dev.core_laws, ite_self]
theorem Dev.core_pruneItems (d : Dev) (r : Nat) : (d.pruneItems r).core = d.core := by
  simp (disch := decide) only [Dev.pruneItems, Dev.core_laws]
theorem Dev.core_ringIrq (d : Dev) (r : Nat) : (d.ringIrq r).core = d.core :=
  Dev.core_of_rest (Dev.rest_ringIrq d r) (.ringIrq d r)
theorem Dev.core_rearmIrq (d : Dev) (r : Nat) : (d.rearmIrq r).core = d.core := by
  simp (disch := decide) only [Dev.core_laws, Dev.rearmIrq, Dev.core_ringIrq]
theorem Dev.core_doorbell (d : Dev) (r v : Nat) : (d.doorbell r v).core = d.core := by
  simp (disch := decide) only [Dev.doorbell, Dev.core_laws, Dev.core_submitFull, Dev.core_pruneItems, Dev.core_rearmIrq, ite_self]
theorem Dev.core_ringsGo (d : Dev) : d.ringsGo.core = d.core := by
  unfold Dev.ringsGo
  split
  · rfl
  · refine (Dev.core_foldl (fun (d : Dev) (x : Nat × Nat) => d.core_doorbell x.1 x.2) _ _).trans ((Dev.core_foldl (fun d x => ?_) _ _).trans rfl)
    simp (disch := decide) only [Dev.core_laws, Dev.core_writeCompl, ite_self]

/-! ### The time source and the site radio -/

theorem Dev.core_setHoldover (d : Dev) (b : Bool) : (d.setHoldover b).core = d.core := by
  simp (disch := decide) only [Dev.setHoldover, Dev.core_laws]
theorem Dev.core_timeStatus (d : Dev) : (d.timeStatus).core = d.core := by
  simp (disch := decide) only [Dev.timeStatus, Dev.core_laws, Dev.core_setHoldover, ite_self]
theorem Dev.core_timeError (d : Dev) (e : Int) : (d.timeError e).core = d.core := by
  unfold Dev.timeError
  extract_lets d1 d2 t
  have h1 : d1.core = d.core := by simp (disch := decide) only [Dev.core_laws, d1]
  have h2 : d2.core = d.core := by simp (disch := decide) only [Dev.core_laws, d2, h1]
  split
  · exact h1
  · split
    · exact (d2.core_slewed _ _ _).trans h2
    · exact (d1.core_slewed _ _ _).trans h1
theorem Dev.core_timeSource (d : Dev) : d.timeSource.core = d.core := by
  unfold Dev.timeSource
  extract_lets old new u d1 l d2 clk tim d3 tim' d4 d5 d6
  have h1 : d1.core = d.core := by simp (disch := decide) only [Dev.core_laws, d1]
  have h2 : d2.core = d.core := by simp (disch := decide) only [Dev.core_laws, d2, h1, ite_self]
  have h3 : d3.core = d.core := (d2.core_slewed _ _ _).trans h2
  have h4 : d4.core = d.core := by simp (disch := decide) only [Dev.core_laws, d4, h1]
  have h5 : d5.core = d.core := by simp (disch := decide) only [Dev.core_laws, d5, Dev.core_timeError, h3, h4, h1, ite_self]
  have h6 : d6.core = d.core := by simp (disch := decide) only [Dev.core_laws, d6, h5]
  simp (disch := decide) only [Dev.core_laws, Dev.core_timeStatus, h6, ite_self]
theorem Dev.core_unmaster (d : Dev) : d.unmaster.core = d.core := by
  simp (disch := decide) only [Dev.core_laws, Dev.unmaster]
  rfl
theorem Dev.core_radRole (d : Dev) : (d.radRole).core = d.core := by
  simp (disch := decide) only [Dev.radRole, Dev.core_laws, Dev.core_unmaster, ite_self]
theorem Dev.core_dragOutFollow (d : Dev) : (d.dragOutFollow).core = d.core := by
  simp (disch := decide) only [Dev.dragOutFollow, Dev.core_laws, ite_self]

end Sys2Proof.Machine
end

section
/-!
PROOFS. Changes of power state and wake sources (R49-R51, R60, R73).
-/

namespace Sys2Proof.Machine

/-! ### What a core tells -/

/-- A field of the core reads the same where the cores are. -/
theorem Dev.get_of_core {a b : Dev} (h : a.core = b.core) {f : Fld} (hf : f ∈ coreFlds) : a.get f = b.get f := by
  have hlist : coreFlds.map (fun f => a.get f) = coreFlds.map fun f => b.get f := congrArg Core.regs h
  exact List.map_inj_left.1 hlist f hf

theorem Dev.face_of_core {a b : Dev} (h : a.core = b.core) : a.sys.face = b.sys.face := (congrArg Core.sys h :)

theorem Dev.level_of_core {a b : Dev} (h : a.core = b.core) : a.level = b.level := Dev.get_of_core h (by decide)

/-- A core without the drag sources. -/
def Core.unsrc (c : Core) : Core := { c with src := 0 }

theorem Dev.get_of_unsrc {a b : Dev} (h : a.core.unsrc = b.core.unsrc) {f : Fld} (hf : f ∈ coreFlds) : a.get f = b.get f := by
  have hlist : coreFlds.map (fun f => a.get f) = coreFlds.map fun f => b.get f := congrArg Core.regs h
  exact List.map_inj_left.1 hlist f hf

theorem Dev.face_of_unsrc {a b : Dev} (h : a.core.unsrc = b.core.unsrc) : a.sys.face = b.sys.face := (congrArg Core.sys h :)

theorem wake_of_face {a b : Sys} (h : a.face = b.face) : a.wake = b.wake := (congrArg Sys.wake h :)

theorem Dev.core_domains (d : Dev) : d.domains.core = d.core := d.core_set (by decide) _ _ _

/-! ### Supervision and the drag sources (R341) -/

theorem Dev.core_brkView (d : Dev) (m : Nat) : (d.brkView m).core = d.core := by
  simp (disch := decide) only [Dev.core_laws, Dev.brkView]

theorem Dev.core_brkSet (d : Dev) (m : Nat) (b : BrkM) : (d.brkSet m b).core = d.core := by
  simp (disch := decide) only [Dev.core_laws, Dev.brkSet, Dev.core_brkView]

theorem Dev.core_brkViewAll (d : Dev) : d.brkViewAll.core = d.core := 
  Dev.core_foldl (fun (d : Dev) (x : Nat × BrkM) => d.core_brkView x.1) _ _

theorem Dev.core_voidAuth (d : Dev) (m : Nat) : (d.voidAuth m).core = d.core := by
  simp (disch := decide) only [Dev.core_laws, Dev.voidAuth, Dev.core_brkSet, ite_self]

theorem Dev.core_voidAll (d : Dev) : d.voidAll.core = d.core := by
  refine (Dev.core_brkViewAll _).trans (Dev.core_foldl (fun (d : Dev) (x : Nat × BrkM) => d.core_voidAuth x.1) _ _)

theorem Dev.unsrc_set_src (d : Dev) (v : Nat) : (d.set R.BRK_SRC_SRC v).core.unsrc = d.core.unsrc := by
  have hget : ∀ g ∈ R.SYS_LEVEL_CFG_CAP :: coreFlds, (d.set R.BRK_SRC_SRC v).get g = d.get g := by
    intro g hg
    have hmem : R.BRK_SRC_SRC ∈ lifeFlds ∧ g ∈ R.SYS_LEVEL_CFG_CAP :: coreFlds := ⟨by decide, hg⟩
    refine Dev.get_set_ne d v (.inr (Fld.key_ne_of_apart ?_ ?_ (by decide) ?_ (by decide)))
    all_goals
      revert g
      decide
  simp only [Core.unsrc, Dev.core, hget _ List.mem_cons_self]
  congr 1
  exact List.map_congr_left fun g hg => hget g (List.mem_cons_of_mem _ hg)

/-- A change of the sources leaves the rest of the core. -/
theorem Dev.unsrc_setSrc (d : Dev) (k : Nat) (b : Bool) : (d.setSrc k b).core.unsrc = d.core.unsrc := by
  unfold Dev.setSrc
  extract_lets old new d1 c1 brk1 d2 d3 c d4
  have h1 : d1.core.unsrc = d.core.unsrc := (congrArg Core.unsrc (Dev.core_record _ _ _)).trans (d.unsrc_set_src new)
  split
  · rfl
  · refine Eq.trans (congrArg Core.unsrc ?_) h1
    simp (disch := decide) only [Dev.core_laws, c1, d2, d3, d4, Dev.core_voidAll, Dev.core_brkViewAll, ite_self]

/-! ### RUN is left (R50, R55, R60) -/

/-- The change of ROLE leaves the state of SYS. -/
theorem Dev.face_roleSet (d : Dev) (r : Nat) : (d.roleSet r).sys.face = d.sys.face := by
  unfold Dev.roleSet
  dsimp only
  split
  · rfl
  · refine (Dev.face_of_core ((Dev.core_radRole _).trans (Dev.core_record _ _ _))).trans rfl

/-- The fall to L0. -/
theorem Dev.fallDark_level (d : Dev) : d.fallDark.level = 0 ∧ d.fallDark.sys.wake = d.sys.wake := by
  unfold Dev.fallDark
  split
  · next h => exact ⟨h, rfl⟩
  · have hfalls : R.SYS_LEVEL_FALLS.outsideCore = true := by decide
    have hset : (d.set R.SYS_LEVEL_LEVEL 0).level = 0 := Dev.get_set_self _ _ _ _ _ (by decide)
    have hsys : (d.set R.SYS_LEVEL_LEVEL 0).sys = d.sys := rfl
    generalize d.set R.SYS_LEVEL_LEVEL 0 = x at hset hsys ⊢
    have hinc : (x.inc R.SYS_LEVEL_FALLS).core = x.core := x.core_inc hfalls 0 0
    generalize x.inc R.SYS_LEVEL_FALLS = y at hinc ⊢
    extract_lets d1
    have h1 : d1.core = x.core := (Dev.core_pushRec y _ _ _).trans hinc
    clear_value d1
    exact ⟨(Dev.level_of_core h1).trans hset, (wake_of_face (Dev.face_of_core h1)).trans (congrArg Sys.wake hsys)⟩

/-- The roles given up: no reins, no readiness. -/
def Dev.rolesLeft (d : Dev) : Dev :=
  if d.paired then
    let d := if d.reins then { d.letGo with pair := { d.letGo.pair with frozen := false, hiZ := true } } else d
    let d := ((if d.get R.PAIR_STATUS_ROLE = 3 then d else d.roleSet 0).put R.PAIR_STATUS_PARTNER_READY false).put R.PAIR_STATUS_READY false
    { d with pair := { d.pair with lanes := [], hello := false, helloSent := false, rx := none, leaseAt := none, claimAt := none } }.linkView
  else d.set R.PAIR_STATUS_ROLE 0

theorem Dev.face_rolesLeft (d : Dev) : d.rolesLeft.sys.face = d.sys.face := by
  unfold Dev.rolesLeft
  split
  · extract_lets a p d1 d2 q
    have h1 : d1.sys = d.sys := by
      unfold d1
      split <;> rfl
    clear_value d1
    have h2 : d2.sys.face = d1.sys.face := by
      unfold d2
      split
      · rfl
      · exact d1.face_roleSet 0
    exact h2.trans (congrArg Sys.face h1)
  · rfl

/-- Without discipline and without transmission. -/
theorem Dev.core_untimed (d : Dev) :
    ({ d with rad := { d.rad with inhibit := true }, tim := { d.tim with gnss := false, ppsOk := false, beaconOk := false } } : Dev).core = d.core := rfl

/-- RUN is left at L0; a wake event latched stays so. -/
theorem Dev.leaveService_dark (d : Dev) : d.leaveService.level = 0 ∧ d.leaveService.sys.wake = d.sys.wake := by
  have hroles := d.face_rolesLeft
  unfold Dev.rolesLeft at hroles
  unfold Dev.leaveService
  generalize (if d.paired = true then _ else _ : Dev) = d3 at hroles ⊢
  obtain ⟨hlevel, hwake⟩ := d3.fallDark_level
  extract_lets e d4 tim rad d5 tim' aon d6
  have hstop : d4.core = (e.fallDark.setSrc 2 true).core := (Dev.core_corrStop _).trans (Dev.core_skyStop _)
  clear_value d4
  have h5 : d5.core = d4.core := (Dev.core_radRole _).trans ((Dev.core_timeSource _).trans d4.core_untimed)
  clear_value d5
  have h6 : (if d6.paired = true then d6.dragOutFollow else d6.set R.BRK_STATUS_DRAG_OUT 1).core = d5.core := by
    simp (disch := decide) only [Dev.core_laws, Dev.core_dragOutFollow, d6, ite_self]
  have hend := (congrArg Core.unsrc (h6.trans (h5.trans hstop))).trans (d3.fallDark.unsrc_setSrc 2 true)
  exact ⟨(Dev.get_of_unsrc hend (by decide)).trans hlevel, (wake_of_face (Dev.face_of_unsrc hend)).trans (hwake.trans (wake_of_face hroles))⟩

/-! ### A power state is entered (R49, R51) -/

/-- The flush and the save done, RUN left where it was on, the tailboard written for DEEP. -/
def Dev.entryDone (d : Dev) (t : Nat) : Dev :=
  let d := d.flush.saveCommit
  let d := (if d.get R.PWR_STATUS_STATE = 0 then d.leaveService else d).set R.PWR_CTRL_GO 0
  if t = 2 then d.saveTail (some 16) else d

/-- The state itself. -/
def Dev.stateSet (d : Dev) (t : Nat) : Dev :=
  { d.set R.PWR_STATUS_STATE t with sys := { d.sys with target := none, wake := none, up := d.sys.up && t != 2 } }.domains

theorem Dev.stateEntered_quiet {d : Dev} {t : Nat} (h : d.sys.target = some t) (quiet : (d.entryDone t).sys.wake = none) :
    d.stateEntered = (d.entryDone t).stateSet t := by
  unfold Dev.stateEntered
  split
  · next none => rw [h] at none; cases none
  · next u hu =>
    obtain rfl : t = u := Option.some.inj (h.symm.trans hu)
    extract_lets e x y w sys z
    have hy : d.entryDone t = y := rfl
    rw [hy] at quiet ⊢
    clear_value y
    have hw : w = none := quiet
    clear_value w
    subst hw
    rfl

theorem Dev.sys_stateSet (d : Dev) (t : Nat) : (d.stateSet t).sys.target = none :=
  congrArg Sys.target (Dev.sys_domains _)

theorem Dev.get_stateSet (d : Dev) (t : Nat) {f : Fld} (hf : f ∈ lifeFlds) (h : f ∉ [R.PWR_STATUS_STATE, R.PWR_DOMAIN_RUNNING]) :
    (d.stateSet t).get f = d.get f := by
  simp only [List.mem_cons, List.not_mem_nil, or_false, not_or] at h
  unfold Dev.stateSet
  rw [Dev.get_domains _ hf h.2]
  exact Dev.get_set_life _ hf (by decide) h.1 _ _ _ _ _

theorem Dev.get_stateSet_state (d : Dev) (t : Nat) : (d.stateSet t).get R.PWR_STATUS_STATE = t % 4 := by
  unfold Dev.stateSet
  rw [Dev.get_domains _ (by decide) (by decide)]
  exact Dev.get_set_self _ _ _ _ _ (by decide)

theorem Dev.core_committed (d : Dev) : d.flush.saveCommit.core = d.core := (Dev.core_saveCommit _).trans (d.core_flush false)

theorem Dev.entryDone_kept (d : Dev) (t : Nat) :
    (d.entryDone t).sys.wake = d.sys.wake ∧ (d.get R.PWR_STATUS_STATE = 0 → (d.entryDone t).level = 0) := by
  unfold Dev.entryDone
  extract_lets e x
  have he : e.core = d.core := d.core_committed
  have hstate : e.get R.PWR_STATUS_STATE = d.get R.PWR_STATUS_STATE := Dev.get_of_core he (by decide)
  clear_value e
  have hgo : ∀ y : Dev, (y.set R.PWR_CTRL_GO 0).sys = y.sys ∧ (y.set R.PWR_CTRL_GO 0).level = y.level :=
    fun y => ⟨rfl, Dev.get_set_life y (by decide) (by decide) (by decide) 0 0 0 0 0⟩
  have hwake : e.sys.wake = d.sys.wake := wake_of_face (Dev.face_of_core he)
  have hx : x.sys.wake = d.sys.wake ∧ (d.get R.PWR_STATUS_STATE = 0 → x.level = 0) := by
    unfold x
    rw [hstate, (hgo _).1, (hgo _).2]
    obtain ⟨hdark, hkept⟩ := e.leaveService_dark
    by_cases run : d.get R.PWR_STATUS_STATE = 0
    · rw [if_pos run]
      exact ⟨hkept.trans hwake, fun _ => hdark⟩
    · rw [if_neg run]
      exact ⟨hwake, fun h => absurd h run⟩
  clear_value x
  split
  · exact ⟨(congrArg Sys.wake (x.sys_saveTail _)).trans hx.1, fun h => (x.get_saveTail _ (by decide) (by decide)).trans (hx.2 h)⟩
  · exact hx

/-- What an entry without a wake event shows. -/
theorem Dev.stateEntered_shows {d : Dev} {t : Nat} (h : d.sys.target = some t) (quiet : d.sys.wake = none) :
    d.stateEntered.get R.PWR_STATUS_STATE = t % 4 ∧ d.stateEntered.sys.target = none ∧
      (d.get R.PWR_STATUS_STATE = 0 → d.stateEntered.get R.SYS_LEVEL_LEVEL = 0) := by
  obtain ⟨hwake, hlevel⟩ := d.entryDone_kept t
  rw [Dev.stateEntered_quiet h (hwake.trans quiet)]
  exact ⟨Dev.get_stateSet_state _ _, Dev.sys_stateSet _ _, fun run => (Dev.get_stateSet _ _ (by decide) (by decide)).trans (hlevel run)⟩

/-! ### WATCH is left (R49, R52) -/

/-- The registers of the change. -/
def Dev.awake (d : Dev) (k : Nat) : Dev :=
  ((d.set R.PWR_STATUS_STATE 0).set R.PWR_STATUS_WAKE_SRC k).set R.SYS_LEVEL_LEVEL (min 1 (d.get R.SYS_LEVEL_CFG_CAP))

/-- The role of an unpaired device follows. -/
def Dev.roleAwake (d : Dev) : Dev := if d.paired then d else (d.set R.PAIR_STATUS_ROLE d.level).radRole

/-- SKY, the domains and the rings follow. -/
def Dev.blocksAwake (d : Dev) : Dev :=
  let d := d.set R.SKY_STATUS_PLL_LOCK (if d.sys.down.contains 2 || !d.runs .sky then 0 else d.get R.SKY_CTRL_BAND_EN)
  ((d.patternTest []).domains).ringsGo

theorem Dev.core_blocksAwake (d : Dev) : d.blocksAwake.core = d.core := by
  simp (disch := decide) only [Dev.core_laws, Dev.blocksAwake, Dev.core_ringsGo, Dev.core_domains, Dev.core_patternTest]

theorem Dev.get_roleAwake (d : Dev) {f : Fld} (hf : f ∈ coreFlds) (hl : f ∈ lifeFlds) (h : f ≠ R.PAIR_STATUS_ROLE) : d.roleAwake.get f = d.get f := by
  unfold Dev.roleAwake
  split
  · rfl
  · exact (Dev.get_of_core (Dev.core_radRole _) hf).trans (Dev.get_set_life _ hl (by decide) h _ _ _ _ _)

theorem Dev.get_leaveWatch (d : Dev) (k : Nat) {f : Fld} (hf : f ∈ coreFlds) (hl : f ∈ lifeFlds) (h : f ≠ R.PAIR_STATUS_ROLE) :
    (d.leaveWatch k).get f = (d.awake k).get f := by
  unfold Dev.leaveWatch
  extract_lets a rad pair sys d2 d3 d4 d5 ring
  have ha : d.awake k = a := rfl
  rw [ha]
  clear_value a
  have h2 : d2.get f = a.get f := rfl
  clear_value d2
  have h3 : d3.get f = a.get f := (d2.get_roleAwake hf hl h).trans h2
  clear_value d3
  have h5 : d5.get f = a.get f := (Dev.get_of_core d3.core_blocksAwake hf).trans h3
  clear_value d5
  split
  · exact h5
  · exact h5

/-- WATCH left: RUN, with what woke the device. -/
theorem Dev.leaveWatch_shows (d : Dev) (k : Nat) : (d.leaveWatch k).get R.PWR_STATUS_STATE = 0 ∧ (d.leaveWatch k).get R.PWR_STATUS_WAKE_SRC = k % 16 := by
  rw [Dev.get_leaveWatch d k (by decide) (by decide) (by decide), Dev.get_leaveWatch d k (by decide) (by decide) (by decide)]
  unfold Dev.awake
  refine ⟨?_, ?_⟩
  · rw [Dev.get_set_life _ (by decide) (by decide) (by decide), Dev.get_set_life _ (by decide) (by decide) (by decide),
      Dev.get_set_self _ _ _ _ _ (by decide)]
    rfl
  · rw [Dev.get_set_life _ (by decide) (by decide) (by decide), Dev.get_set_self _ _ _ _ _ (by decide)]
    rfl

theorem Dev.wakeUp_watch {d : Dev} (watch : d.get R.PWR_STATUS_STATE = 1) (still : d.sys.target = none) (k : Nat) : d.wakeUp k = d.leaveWatch k := by
  unfold Dev.wakeUp
  rw [watch]
  simp [still]

theorem Dev.wakeUp_deep {d : Dev} (deep : d.get R.PWR_STATUS_STATE = 2) (vaon : d.sys.vaon = true) (vin : d.sys.vin = true)
    (supplies : d.sys.supplies = true) (k : Nat) : d.wakeUp k = d.sysReset (some k) := by
  unfold Dev.wakeUp
  rw [deep]
  simp [vaon, vin, supplies]

/-! ### GO (R49, R50) -/

/-- TARGET stored. -/
def Dev.goTarget (d : Dev) (v : Nat) : Dev := d.writeAddr R.PWR_CTRL_TARGET.addr v

theorem Dev.get_goTarget_target (d : Dev) {v : Nat} (h : v % 4 = 1 ∨ v % 4 = 2) : (d.goTarget v).get R.PWR_CTRL_TARGET = v % 4 := by
  have hbits : bits v R.PWR_CTRL_TARGET.lsb R.PWR_CTRL_TARGET.width = v % 4 := by
    simp [bits, show R.PWR_CTRL_TARGET.lsb = 0 from rfl, show R.PWR_CTRL_TARGET.width = 2 from rfl]
  have hget : (d.goTarget v).get R.PWR_CTRL_TARGET = Nat.land (bits v R.PWR_CTRL_TARGET.lsb R.PWR_CTRL_TARGET.width) 3 :=
    get_writeAddr_listed d (f := R.PWR_CTRL_TARGET) (mem_of_lifeFlds (by decide)) (by decide) rfl (by
      rw [hbits]
      rcases h with h | h <;> rw [h] <;> rfl)
  rw [hget, hbits]
  rcases h with h | h <;> rw [h] <;> rfl

theorem Dev.get_goTarget_state (d : Dev) (v : Nat) : (d.goTarget v).get R.PWR_STATUS_STATE = d.get R.PWR_STATUS_STATE :=
  get_writeAddr_of_addr_ne d (mem_of_lifeFlds (by decide)) (by decide) (by decide) v

theorem Dev.sys_goTarget (d : Dev) (v : Nat) : (d.goTarget v).sys = d.sys := by rw [Dev.goTarget, writeAddr_eq_regs]

/-- GO taken: the registers. -/
def Dev.goShown (d : Dev) : Dev := (d.set R.PWR_CTRL_GO 1).set R.PWR_STATUS_REFUSE_WHY 0

/-- The change under way. -/
def Dev.goChange (d : Dev) (t : Nat) : Dev := { d with sys := { d.sys with target := some t, wake := none } }.saveStart.wantFlush

theorem Dev.pwrGo_of_run {d : Dev} {v : Nat} (go : bitOf v 8 = true) (still : d.sys.target = none) (ran : d.sys.ran = true)
    (run : d.get R.PWR_STATUS_STATE = 0) (h : v % 4 = 1 ∨ v % 4 = 2) :
    d.pwrGo v = if (d.goTarget v).stayWhy ≠ 0 then ((d.goTarget v).raise R.PWR_STATUS_REFUSED).set R.PWR_STATUS_REFUSE_WHY (d.goTarget v).stayWhy
      else (if v % 4 = 2 then (d.goTarget v).goShown.meterDeep else (d.goTarget v).goShown).goChange (v % 4) := by
  have hstate := (d.get_goTarget_state v).trans run
  have htarget := d.get_goTarget_target h
  have hne : v % 4 ≠ 0 := by omega
  unfold Dev.pwrGo
  extract_lets e t st why x y sys
  have he : d.goTarget v = e := rfl
  have hsys : e.sys = d.sys := d.sys_goTarget v
  rw [he] at hstate htarget ⊢
  clear_value e
  have ht : t = v % 4 := htarget
  have hst : st = 0 := hstate
  have hwhy : why = e.stayWhy := if_pos hst
  have hrun : (!bitOf v 8 || e.sys.target.isSome || decide (st = 2) || !e.sys.ran || decide (t = st)) = false := by
    simp [hst, ht, hsys, go, still, ran, hne]
  have hy : y.goChange t = (if v % 4 = 2 then e.goShown.meterDeep else e.goShown).goChange (v % 4) := by
    rw [ht]
    unfold y
    rw [ht]
    rfl
  rw [hrun, if_neg (by decide), if_neg (ht ▸ hne), hwhy, ← hy]
  simp only [bne_iff_ne]
  rfl

theorem Dev.regs_gapBound (d : Dev) (srcs : Nat) : (d.gapBound srcs).regs = d.regs := by
  unfold Dev.gapBound
  generalize List.range 26 = l
  refine List.foldlRecOn (motive := fun e : Dev => e.regs = d.regs) l _ rfl fun e he n _ => ?_
  split
  · exact he
  · exact he

/-- The interval of DEEP, open. -/
def Dev.deepOpened (d : Dev) : Dev := { d with mtr := { d.mtr with ivOpen := tabPut d.mtr.ivOpen ivDeep (d.now, deepSrcs) } }

theorem Dev.regs_deepOpened (d : Dev) : d.deepOpened.regs = d.regs := rfl

theorem Dev.meterDeep_eq (d : Dev) : d.meterDeep = (d.gapBound (d.gapMask deepSrcs)).deepOpened := rfl

theorem Dev.regs_meterDeep (d : Dev) : d.meterDeep.regs = d.regs := by
  rw [Dev.meterDeep_eq, Dev.regs_deepOpened, Dev.regs_gapBound]

theorem Dev.stayWhy_lt (d : Dev) : d.stayWhy < 2 ^ R.PWR_STATUS_REFUSE_WHY.width := by
  unfold Dev.stayWhy
  split_ifs <;> decide

/-- What the change shows. -/
theorem Dev.goChange_shows (d : Dev) (t : Nat) :
    (d.goChange t).sys.target = some t ∧ (d.goChange t).regs = d.regs ∧ (d.goChange t).evt.flushWant = true ∧ (d.goChange t).mtr.saving.isSome = true :=
  ⟨rfl, rfl, rfl, rfl⟩

theorem Dev.get_of_regs {a b : Dev} (h : a.regs = b.regs) (f : Fld) (i j : Nat) : a.get f i j = b.get f i j := by
  rw [Dev.get, h]
  rfl

theorem Dev.goShown_shows (d : Dev) : d.goShown.get R.PWR_CTRL_GO = 1 ∧ d.goShown.get R.PWR_STATUS_REFUSE_WHY = 0 :=
  ⟨(Dev.get_set_life _ (by decide) (by decide) (by decide) _ _ _ _ _).trans (Dev.get_set_self _ _ _ _ _ (by decide)),
    Dev.get_set_self _ _ _ _ _ (by decide)⟩

/-- A device whose power registers take a write has come past its reset. -/
theorem Dev.ran_of_writable {d : Dev} {f : Fld} (h : d.writable f = true) : d.sys.ran = true := by
  simp only [Dev.writable, Dev.powered, Bool.and_eq_true] at h
  exact h.1.1.1.1.1.1.1.1

theorem exec_pwrGo (v : Word32) (s : State) : exec (.pwrGo v) s = onReg R.PWR_CTRL_GO (fun d => d.pwrGo v.toNat) s := rfl

theorem exec_rtcAlarmWake {s : State} (alarm : s.dev.get R.PWR_RTC_ALARM_ALARM_S ≠ 0) (en : s.dev.on R.PWR_WAKE_CFG_RTC_EN = true) :
    ∃ t, exec .rtcAlarmWake s = .next { s with dev := (s.dev.passTo t).wakeUp 1 } := by
  simp only [exec, execRtcAlarmWake, onDev, decide_eq_false alarm, en, Bool.not_true, Bool.or_self, Bool.false_eq_true, if_false]
  exact ⟨_, rfl⟩

theorem exec_perstWake {s : State} (en : s.dev.on R.PWR_WAKE_CFG_PERST_EN = true) :
    exec .perstWake s = .next { s with dev := s.dev.wakeUp 2 } := by
  simp [exec, execPerstWake, onDev, en]

theorem exec_pcntCompareWake {n : Nat} {s : State} (hn : n < 4) (en : s.dev.bit R.PWR_WAKE_CFG_PCNT_EN n = true)
    (reached : s.dev.get R.PWR_PCNT_CMP_CMP n ≤ tabGet s.dev.aon.cmp n) :
    exec (.pcntCompareWake n) s = .next { s with dev := s.dev.wakeUp 3 } := by
  simp [exec, execPcntCompareWake, onDev, hn, en, reached]

theorem exec_watchListen {frame p : List Byte} {e : Dev} {i : Nat} {s : State} (hi : i < 4) (watch : s.dev.get R.PWR_STATUS_STATE = 1)
    (timed : s.dev.timed = true) (rad : 11 ∉ s.dev.sys.lost)
    (heard : (s.dev.passTo ((if s.dev.now % second ≤ 396 * slotLen then s.dev.gpsSec else s.dev.gpsSec + 1) * second + 396 * slotLen)).receiveSite frame
      (fType frame == 7 && siteDst frame) = (some p, e))
    (en : e.on R.PWR_WAKE_CFG_RADIO_EN = true) (named : fld p (22 + 2 * i) 2 = e.id) (other : fld p 0 2 % 1024 ≠ e.id) :
    exec (.watchListen frame) s = .next { s with dev := e.wakeUp 4 } := by
  have hany : ((List.range 4).any fun i => fld p (22 + 2 * i) 2 == e.id) = true := List.any_eq_true.2 ⟨i, List.mem_range.2 hi, by simp [named]⟩
  have hlost : s.dev.sys.lost.contains (regionCode .rad) = false := by simpa [regionCode] using rad
  simp only [exec, execWatchListen, onDev]
  rw [watch, timed, hlost, if_neg (by decide), heard]
  simp only [if_neg other, en, hany, Bool.and_self, if_true]

/-- Settles O10, clause by clause: GO taken and refused, the state entered, the four wake sources. -/
theorem powerStateChanges : Obligations.PowerStateChanges := by
  unfold Obligations.PowerStateChanges
  refine ⟨fun v s open_ still run go h stay => ?_, fun v s open_ still run go h stay => ?_, fun s k target hk quiet => ?_, fun s alarm en watch still => ?_,
    fun s en watch still => ?_, fun n s hn en reached deep vaon vin supplies => ?_, fun frame p e i s hi watch timed rad heard en named other => ?_⟩
  · refine .of_onReg (exec_pwrGo v s) open_ ?_
    have stay' : (s.dev.goTarget v.toNat).stayWhy = 0 := stay
    dsimp only
    rw [Dev.pwrGo_of_run go still (Dev.ran_of_writable open_) run h, if_neg (not_not.2 stay')]
    generalize s.dev.goTarget v.toNat = x
    obtain ⟨hgo, hwhy⟩ := x.goShown_shows
    have hregs : (if v.toNat % 4 = 2 then x.goShown.meterDeep else x.goShown).regs = x.goShown.regs := by
      split
      · exact Dev.regs_meterDeep _
      · rfl
    generalize (if v.toNat % 4 = 2 then x.goShown.meterDeep else x.goShown) = y at hregs
    obtain ⟨htarget, hkept, hflush, hsave⟩ := y.goChange_shows (v.toNat % 4)
    have hget := Dev.get_of_regs (hkept.trans hregs)
    exact ⟨htarget, (hget _ 0 0).trans hgo, (hget _ 0 0).trans hwhy, hflush, hsave⟩
  · refine .of_onReg (exec_pwrGo v s) open_ ?_
    have stay' : (s.dev.goTarget v.toNat).stayWhy ≠ 0 := stay
    dsimp only
    rw [Dev.pwrGo_of_run go still (Dev.ran_of_writable open_) run h, if_pos stay']
    have hsys := s.dev.sys_goTarget v.toNat
    change _ ∧ _ ∧ _ = (s.dev.goTarget v.toNat).stayWhy
    generalize s.dev.goTarget v.toNat = x at hsys
    refine ⟨?_, ?_, ?_⟩
    · exact (Dev.get_set_life _ (by decide) (by decide) (by decide) _ _ _ _ _).trans
        (x.get_raise_self (mem_of_lifeFlds (by decide)) (by decide) (by decide) rfl (by decide))
    · rw [Dev.set_sys, Dev.raise_eq_regs_out]
      exact (congrArg Sys.target hsys).trans still
    · exact (Dev.get_set_self _ _ _ _ _ (by decide)).trans (Nat.mod_eq_of_lt x.stayWhy_lt)
  · obtain ⟨hstate, htarget, hlevel⟩ := Dev.stateEntered_shows target quiet
    refine ⟨{ s with dev := s.dev.stateEntered }, rfl, hstate.trans ?_, htarget, hlevel⟩
    omega
  · obtain ⟨t, ht⟩ := exec_rtcAlarmWake alarm en
    refine ⟨_, ht, ?_⟩
    dsimp only
    rw [Dev.wakeUp_watch (d := s.dev.passTo t) watch still]
    exact Dev.leaveWatch_shows _ _
  · refine ⟨_, exec_perstWake en, ?_⟩
    dsimp only
    rw [Dev.wakeUp_watch watch still]
    exact Dev.leaveWatch_shows _ _
  · refine ⟨_, exec_pcntCompareWake hn en reached, ?_⟩
    dsimp only
    rw [Dev.wakeUp_deep deep vaon vin supplies]
    have hreset := s.dev.afterReset_sysReset (some 3)
    exact ⟨hreset, hreset.sram R.PWR_STATUS_STATE (mem_of_lifeFlds (by decide)) (by decide) 0 0⟩
  · exact ⟨_, exec_watchListen hi watch timed rad heard en named other, rfl⟩

end Sys2Proof.Machine
end

section
/-!
PROOFS. The blocks leave the core alone (2): epochs of tracking, time and corrections, and ranging.
-/

namespace Sys2Proof.Machine

/-! ### Tracking and time -/

theorem Dev.core_combEpoch (d : Dev) (ch : Nat) : (d.combEpoch ch).core = d.core := rfl
theorem Dev.core_tapsEpoch (d : Dev) (ch : Nat) : (d.tapsEpoch ch).core = d.core := rfl
theorem Dev.core_selfOk (d : Dev) (p : Nat) : (d.selfOk p).core = d.core := by
  simp (disch := decide) only [Dev.selfOk, Dev.core_laws, ite_self]
theorem Dev.core_trkEpoch (d : Dev) : d.trkEpoch.core = d.core := by
  unfold Dev.trkEpoch
  extract_lets d1 d2
  have h1 : d1.core = d.core := Dev.core_foldl (fun d ch => (Dev.core_tapsEpoch _ ch).trans (d.core_combEpoch ch)) _ _
  have h2 : d2.core = d.core := by simp (disch := decide) only [Dev.core_laws, d2, h1, ite_self]
  split <;> simp (disch := decide) only [Dev.core_laws, Dev.core_selfOk, h2]
theorem Dev.core_gnssEpoch (d : Dev) (e : EpochIn) : (d.gnssEpoch e).core = d.core := by
  unfold Dev.gnssEpoch
  extract_lets g err t d1 d2 t2
  have h1 : d1.core = d.core := by simp (disch := decide) only [Dev.core_laws, d1]
  have h2 : d2.core = d.core := by simp (disch := decide) only [Dev.core_laws, d2, h1, ite_self]
  exact (Dev.core_timeSource _).trans h2
theorem Dev.core_isbEpoch (d : Dev) (e : EpochIn) (s : Nat) : (d.isbEpoch e s).core = d.core := by
  unfold Dev.isbEpoch
  extract_lets tau l mean n old diff few run steps jump val t d1 oldReg d2 ok d3
  have h3 : d3.core = d.core := by simp (disch := decide) only [Dev.core_laws, d3, d2, d1]
  split <;> simp (disch := decide) only [Dev.core_laws, h3]
theorem Dev.core_ifbEpoch (d : Dev) (e : EpochIn) (k : Nat) : (d.ifbEpoch e k).core = d.core := by
  unfold Dev.ifbEpoch
  split <;> simp (disch := decide) only [Dev.core_laws]
theorem Dev.core_putBase (d : Dev) (v : Vec3) : (d.putBase v).core = d.core := by
  simp (disch := decide) only [Dev.putBase, Dev.core_laws]
theorem Dev.core_rtcmOut (d : Dev) (msgs : List (List Byte)) : (d.rtcmOut msgs).core = d.core := by
  unfold Dev.rtcmOut
  extract_lets d1 sent fill n t
  have h1 : d1.core = d.core := by
    unfold d1
    split
    · exact Dev.core_foldl (fun d m => d.core_item _ _ _ m) _ _
    · rfl
  simp (disch := decide) only [Dev.core_laws, h1, ite_self]
theorem Dev.core_basePos (d : Dev) (v : Option Vec3) : (d.basePos v).core = d.core := by
  simp (disch := decide) only [Dev.basePos, Dev.core_laws, Dev.core_rtcmOut, ite_self]
theorem Dev.core_baseState (d : Dev) (st why : Nat) : (d.baseState st why).core = d.core := by
  simp (disch := decide) only [Dev.baseState, Dev.core_laws, ite_self]
theorem Dev.core_surveyEpoch (d : Dev) (p : Vec3) : (d.surveyEpoch p).core = d.core := by
  simp (disch := decide) only [Dev.surveyEpoch, Dev.core_laws, Dev.core_putBase, Dev.core_basePos, Dev.core_baseState, ite_self]
theorem Dev.core_surveyStart (d : Dev) : (d.surveyStart).core = d.core := by
  simp (disch := decide) only [Dev.surveyStart, Dev.core_laws, Dev.core_baseState]
theorem Dev.core_baseFailed (d : Dev) (why : Nat) : (d.baseFailed why).core = d.core := by
  simp (disch := decide) only [Dev.baseFailed, Dev.core_laws, Dev.core_baseState, Dev.core_surveyStart, ite_self]
theorem Dev.core_verifyEpoch (d : Dev) (p : Vec3) : (d.verifyEpoch p).core = d.core := by
  simp (disch := decide) only [Dev.verifyEpoch, Dev.core_laws, Dev.core_baseState, Dev.core_baseFailed, ite_self]
theorem Dev.core_movedEpoch (d : Dev) (v : Vec3) : (d.movedEpoch v).core = d.core := by
  simp (disch := decide) only [Dev.movedEpoch, Dev.core_laws, Dev.core_baseFailed, ite_self]
theorem Dev.core_baseEpoch (d : Dev) (pos disp : Vec3) : (d.baseEpoch pos disp).core = d.core := by
  unfold Dev.baseEpoch
  dsimp only
  split <;> simp (disch := decide) only [Dev.core_laws, Dev.core_surveyEpoch, Dev.core_verifyEpoch, Dev.core_movedEpoch, ite_self]
theorem Dev.core_corrLocks (d : Dev) (e : EpochIn) : (d.corrLocks e).core = d.core := by
  refine (Dev.core_foldl (fun d ch => ?_) _ _).trans ?_
  all_goals simp (disch := decide) only [Dev.core_laws]
theorem Dev.core_corrEpoch (d : Dev) (e : EpochIn) : (d.corrEpoch e).core = d.core := by
  simp (disch := decide) only [Dev.corrEpoch, Dev.core_laws, Dev.core_corrLocks, ite_self]
theorem Dev.core_timeEpoch (d : Dev) (e : EpochIn) : (d.timeEpoch e).core = d.core := by
  unfold Dev.timeEpoch
  extract_lets d1 d2 d3 d4
  have h2 : d2.core = d.core := (Dev.core_foldl (fun d s => d.core_isbEpoch e s) _ _).trans (d.core_gnssEpoch e)
  have h3 : d3.core = d.core := (Dev.core_foldl (fun d k => d.core_ifbEpoch e k) _ _).trans h2
  exact (Dev.core_corrEpoch _ _).trans ((Dev.core_baseEpoch _ _ _).trans h3)
theorem Dev.core_allotWaiting (d : Dev) : d.allotWaiting.core = d.core := by
  unfold Dev.allotWaiting
  extract_lets t d1 l best
  have h1 : d1.core = d.core := by simp (disch := decide) only [Dev.core_laws, d1]
  split <;> simp (disch := decide) only [Dev.core_laws, Dev.core_startOn, h1]
theorem Dev.core_freeChan (d : Dev) (ch : Nat) : (d.freeChan ch).core = d.core := (d.chState ch stIdle).core_allotWaiting.trans (d.core_chState ch stIdle)
theorem Dev.core_trkAfter (d : Dev) : d.trkAfter.core = d.core := by
  refine (Dev.core_foldl (fun d ch => ?_) _ _).trans ?_
  all_goals simp (disch := decide) only [Dev.core_laws, Dev.core_freeChan, Dev.rotate, ite_self]

/-! ### Ranging -/

theorem Dev.core_calView (d : Dev) (a : Nat) : (d.calView a).core = d.core := by
  simp (disch := decide) only [Dev.calView, Dev.core_laws, ite_self]
theorem Dev.core_yrdView (d : Dev) : d.yrdView.core = d.core := by
  unfold Dev.yrdView
  extract_lets was d1 cal self ok d2
  have h1 : d1.core = d.core := Dev.core_foldl (fun d a => d.core_calView a) _ _
  simp (disch := decide) only [Dev.core_laws, d2, h1, ite_self]

end Sys2Proof.Machine
end

section
/-!
PROOFS. The blocks leave the core alone (3): parts that switch, radio, braking, waybills, and the pair.
-/

namespace Sys2Proof.Machine

/-! ### A part switches (R599) -/

theorem coreFlds_parts {p : Nat} (h : p ≠ 1) : ∀ g ∈ R.SYS_LEVEL_CFG_CAP :: R.BRK_SRC_SRC :: coreFlds, g.store ≠ .part p := by
  have hside : ∀ g ∈ R.SYS_LEVEL_CFG_CAP :: R.BRK_SRC_SRC :: coreFlds, g.store = .part 1 ∨ g.store = .vol ∨ g.store = .mram ∨ g.store = .aon := by
    decide
  intro g hg c
  have hg' := hside g hg
  simp only [c, Store.part.injEq, reduceCtorEq, or_false] at hg'
  exact h hg'

/-- The settings of a part other than SAFE. -/
theorem Dev.core_upd (d : Dev) {p : Nat} (h : p ≠ 1) (t : Tab Nat) : ({ d with regs := d.regs.upd (.part p) t } : Dev).core = d.core := by
  have hget : ∀ g ∈ R.SYS_LEVEL_CFG_CAP :: R.BRK_SRC_SRC :: coreFlds, ({ d with regs := d.regs.upd (.part p) t } : Dev).get g = d.get g := by
    intro g hg
    simp only [Dev.get, RegFile.sel_upd_ne d.regs t (coreFlds_parts h g hg)]
  simp only [Dev.core, hget _ List.mem_cons_self, hget _ (List.mem_cons_of_mem _ List.mem_cons_self)]
  congr 1

theorem Dev.core_storePut (d : Dev) {p : Nat} (h : p ≠ 1) (x : PartStore) : (d.storePut p x).core = d.core := by
  unfold Dev.storePut
  extract_lets d1
  have h1 : d1.core = d.core := d.core_upd h x.regs
  clear_value d1
  split <;> simp (disch := decide) only [Dev.core_laws, h1]

/-- The two parts that switch at superframe starts. -/
def trkOrMac (p : Nat) : Prop := p = 2 ∨ p = 3

theorem Dev.core_storeSwap (d : Dev) {p : Nat} (h : trkOrMac p) (x : PartStore) : (d.storeSwap p x).core = d.core := by
  have h0 : p ≠ 0 := by rcases h with h | h <;> omega
  have h1 : p ≠ 1 := by rcases h with h | h <;> omega
  have h4 : p ≠ 4 := by rcases h with h | h <;> omega
  unfold Dev.storeSwap
  rw [if_neg h0, if_neg h4]
  split
  · rfl
  · exact d.core_storePut h1 x

theorem Dev.core_slotSet (d : Dev) (p s v : Nat) : (d.slotSet p s v).core = d.core := by
  simp (disch := decide) only [Dev.core_laws, Dev.slotSet, ite_self]
theorem Dev.core_runSlot (d : Dev) (p s : Nat) : (d.runSlot p s).core = d.core := by
  simp (disch := decide) only [Dev.runSlot, Dev.core_laws]
theorem Dev.core_fallEvent (d : Dev) (p cause : Nat) : (d.fallEvent p cause).core = d.core := by
  simp (disch := decide) only [Dev.fallEvent, Dev.core_laws]
theorem Dev.core_fallBack (d : Dev) {p : Nat} (h : trkOrMac p) (cause : Nat) : (d.fallBack p cause).core = d.core := by
  unfold Dev.fallBack
  extract_lets t s d1 d2 d3 now d4 img
  have h3 : d3.core = d.core := by simp (disch := decide) only [Dev.core_laws, d3, d2, d1, Dev.core_fallEvent, Dev.core_runSlot, Dev.core_slotSet]
  have h4 : d4.core = d.core := (d3.core_storeSwap h _).trans h3
  simp (disch := decide) only [Dev.core_laws, h4]
theorem Dev.core_startTrial (d : Dev) {p : Nat} (h : trkOrMac p) (s conv : Nat) : (d.startTrial p s conv).core = d.core := by
  unfold Dev.startTrial
  extract_lets r k d1 d2 d3 img d4
  have h1 : d1.core = d.core := by simp (disch := decide) only [Dev.core_laws, d1, Dev.core_slotSet, ite_self]
  have h4 : d4.core = d.core := by simp (disch := decide) only [Dev.core_laws, d4, d3, d2, Dev.core_runSlot, h1]
  split
  · exact (Dev.core_record _ _ _).trans ((d4.core_storeSwap h _).trans h4)
  · exact h4
theorem Dev.core_switchPart (d : Dev) {a : ImgAct} (h : trkOrMac a.part) : (d.switchPart a).core = d.core := by
  unfold Dev.switchPart
  extract_lets img d1 d2 d3
  have h4 : a.part ≠ 4 := by rcases h with h | h <;> omega
  have h2 : d2.core = d.core := by
    unfold d2
    rw [if_neg h4]
    simp (disch := decide) only [Dev.core_laws, d1]
  have h3 : d3.core = d.core := by
    unfold d3
    split
    · exact (d2.core_fallBack h _).trans h2
    · exact (d2.core_startTrial h _ _).trans h2
  split
  · next c => rcases h with h | h <;> omega
  · simp (disch := decide) only [Dev.core_laws, h3]
  · simp (disch := decide) only [Dev.core_laws, h3]
  · exact h3
theorem Dev.core_partBoundary (d : Dev) {p : Nat} (h : trkOrMac p) : (d.partBoundary p).core = d.core := by
  unfold Dev.partBoundary
  split
  · next a _ =>
    split
    · next c =>
      simp only [Bool.and_eq_true, decide_eq_true_eq] at c
      exact d.core_switchPart (c.1 ▸ h)
    · rfl
  · rfl

/-! ### The radio -/

theorem Dev.unsrc_keyCheck (d : Dev) : d.keyCheck.core.unsrc = d.core.unsrc := by
  unfold Dev.keyCheck
  split
  · exact congrArg Core.unsrc (d.core_set (by decide) 0 0 0)
  · extract_lets d1
    have h1 : d1.core = d.core := by simp (disch := decide) only [Dev.core_laws, d1, ite_self]
    split
    · exact (d1.unsrc_setSrc 4 true).trans (congrArg Core.unsrc h1)
    · exact congrArg Core.unsrc h1
theorem Dev.unsrc_keySwitch (d : Dev) : d.keySwitch.core.unsrc = d.core.unsrc := by
  unfold Dev.keySwitch
  split
  · extract_lets c d1 rad
    have h1 : d1.core = d.core := by simp (disch := decide) only [Dev.core_laws, d1]
    refine (Dev.unsrc_keyCheck _).trans (congrArg Core.unsrc ((Dev.core_record _ _ _).trans ?_))
    exact (d1.core_rad rfl).trans h1
  · rfl
theorem Dev.core_heardPrune (d : Dev) : d.heardPrune.core = d.core := (Dev.core_sat _ (by decide) _ _ _).trans (d.core_rad rfl)
theorem Dev.core_autoSet (d : Dev) (m : Nat) (x : YAuto) : (d.autoSet m x).core = d.core := by
  simp (disch := decide) only [Dev.autoSet, Dev.core_laws]
theorem Dev.core_autoRound (d : Dev) (k : Nat) : (d.autoRound k).core = d.core := by
  refine Dev.core_foldl (fun d m => ?_) _ _
  dsimp only
  split <;> simp (disch := decide) only [Dev.core_autoSet]
theorem Dev.core_autoView (d : Dev) : (d.autoView).core = d.core := by
  simp (disch := decide) only [Dev.autoView, Dev.core_laws]
theorem Dev.core_autoAllot (d : Dev) : d.autoAllot.core = d.core := by
  unfold Dev.autoAllot
  extract_lets gone d1 d2 full d3
  have h1 : d1.core = d.core := by
    refine Dev.core_foldl (fun d x => ?_) _ _
    simp (disch := decide) only [Dev.core_laws]
  have h2 : d2.core = d.core := by
    unfold d2
    split
    · exact (Dev.core_foldl (fun d k => d.core_autoRound k) _ _).trans h1
    · exact h1
  have h3 : d3.core = d.core := by
    refine (Dev.core_foldl (fun d x => ?_) _ _).trans h2
    simp (disch := decide) only [Dev.core_laws, ite_self]
  exact (Dev.core_autoView _).trans h3
theorem Dev.core_yardView (d : Dev) : d.yardView.core = d.core := by
  refine Dev.core_foldl (fun d k => ?_) _ _
  simp (disch := decide) only [Dev.core_laws, ite_self]

theorem Dev.core_radSuperframe (d : Dev) : d.radSuperframe.core = d.keySwitch.core := by
  unfold Dev.radSuperframe
  extract_lets d1 t rad
  have h1 : d1.core = d.keySwitch.core := Dev.core_heardPrune _
  rw [Dev.core_yardView, Dev.core_autoAllot, Dev.core_radRole, ← h1]
  exact d1.core_rad (r := { d1.rad with inelAt := t }) rfl

/-! ### Braking, waybills, metering -/

theorem Dev.core_joinAll (d : Dev) : d.joinAll.core = d.core := Dev.core_foldl (fun (d : Dev) (p : Nat × Upl) => d.core_put (by decide) _ _ 0) _ _
theorem Dev.core_callAuth (d : Dev) (m : Nat) (c : Call) : (d.callAuth m c).core = d.core := by simp (disch := decide) only [Dev.core_laws,
  Dev.callAuth, Dev.core_brkSet]
theorem Dev.core_fallIssue (d : Dev) (m : Nat) : (d.fallIssue m).core = d.core := by
  unfold Dev.fallIssue
  split <;> simp (disch := decide) only [Dev.core_laws, Dev.core_brkSet, Dev.core_callAuth, ite_self]
theorem Dev.core_riseIssue (d : Dev) (m : Nat) : (d.riseIssue m).core = d.core := by
  unfold Dev.riseIssue
  dsimp only
  split <;> simp (disch := decide) only [Dev.core_laws, Dev.core_brkSet, Dev.core_callAuth, ite_self]
theorem Dev.core_brkSuperframe (d : Dev) : d.brkSuperframe.core = d.core := by
  unfold Dev.brkSuperframe
  extract_lets k brk d1 ms d2
  have h1 : d1.core = d.core := by simp (disch := decide) only [Dev.core_laws, d1]
  have h2 : d2.core = d.core := by
    unfold d2
    split_ifs
    · exact (Dev.core_foldl (fun d m => d.core_fallIssue m) _ _).trans h1
    · exact (Dev.core_foldl (fun d m => d.core_riseIssue m) _ _).trans h1
    · exact h1
  exact (Dev.core_brkViewAll _).trans h2
theorem Dev.core_wbSuperframe (d : Dev) : d.wbSuperframe.core = d.core := d.core_wbEach _
theorem Dev.core_meterStream (d : Dev) : (d.meterStream).core = d.core := by
  simp (disch := decide) only [Dev.meterStream, Dev.core_laws, ite_self]

/-! ### Engines and the pair -/

theorem Dev.core_engLost (d : Dev) (cause word : Nat) : (d.engLost cause word).core = d.core := by
  simp (disch := decide) only [Dev.engLost, Dev.core_laws, ite_self]
theorem Dev.core_engCompare (d : Dev) (e : EngObs) : (d.engCompare e).core = d.core := by
  cases e <;> simp (disch := decide) only [Dev.core_laws, Dev.engCompare, Dev.core_engLost]
theorem Dev.core_dragOutBoundary (d : Dev) : (d.dragOutBoundary).core = d.core := by
  simp (disch := decide) only [Dev.dragOutBoundary, Dev.core_laws, ite_self]
theorem Dev.core_dbSend (d : Dev) (typ flags copyNo : Nat) (body : List Byte) : (d.dbSend typ flags copyNo body).core = d.core := by
  unfold Dev.dbSend
  split <;> simp (disch := decide) only [Dev.core_laws, ite_self]
theorem Dev.core_copyFrames (no full : Nat) (n : Nat) (d : Dev) (b : List Byte) : (d.copyFrames no full n b).core = d.core := by
  induction n generalizing d b with
  | zero => exact d.core_dbSend _ _ _ _
  | succ n ih =>
    unfold Dev.copyFrames
    split
    · exact d.core_dbSend _ _ _ _
    · exact (ih _ _).trans (d.core_dbSend _ _ _ _)
theorem Dev.core_sendCopy (d : Dev) : (d.sendCopy).core = d.core := by
  simp (disch := decide) only [Dev.sendCopy, Dev.core_laws, Dev.core_copyFrames, ite_self]
theorem Dev.core_leaseView (d : Dev) : d.leaseView.core = d.core := by
  unfold Dev.leaseView
  dsimp only
  split <;> simp (disch := decide) only [Dev.core_laws]
theorem Dev.core_readyEval (d : Dev) : (d.readyEval).core = d.core := by
  simp (disch := decide) only [Dev.readyEval, Dev.core_laws, ite_self]
theorem Dev.core_pairBoundary (d : Dev) : d.pairBoundary.core = d.core := by
  unfold Dev.pairBoundary
  split
  · rfl
  · extract_lets pair d1 lease d2 d3
    have h1 : d1.core = d.core := by simp (disch := decide) only [Dev.core_laws, d1]
    have h3 : d3.core = d.core := by
      unfold d3
      split <;> simp (disch := decide) only [Dev.core_laws, Dev.core_sendCopy, Dev.core_dbSend, d2, Dev.sendLapsed, h1, ite_self]
    exact (Dev.core_readyEval _).trans ((Dev.core_leaseView _).trans h3)

/-! ### The GPS second -/

theorem Dev.core_confirmLeft (d : Dev) : d.confirmLeft.core = d.core := by
  unfold Dev.confirmLeft
  split <;> simp (disch := decide) only [Dev.core_laws]
theorem Dev.core_anchApply (d : Dev) (a : Nat) : (d.anchApply a).core = d.core := by
  simp (disch := decide) only [Dev.core_laws, Dev.anchApply, Dev.calReset]
theorem Dev.core_yrdSecond (d : Dev) : d.yrdSecond.core = d.core := by
  unfold Dev.yrdSecond
  extract_lets plan d1 l yrd d2
  have h1 : d1.core = d.core := by simp (disch := decide) only [Dev.core_laws, d1, ite_self]
  have h2 : d2.core = d.core := (Dev.core_foldl (fun d a => d.core_anchApply a) _ _).trans (Eq.trans rfl h1)
  exact (Dev.core_yrdView _).trans h2
/-- The GPS second with no step due. -/
theorem Dev.core_timeSecond {d : Dev} (h : d.tim.stepAt = none) : d.timeSecond.core = d.core := by
  unfold Dev.timeSecond
  simp only [h, Bool.false_eq_true, if_false]
  simp (disch := decide) only [Dev.core_laws, ite_self]

end Sys2Proof.Machine
end

section
/-!
PROOFS. How the service level moves (R58-R61, R648).
-/

namespace Sys2Proof.Machine

/-! ### What a core tells of clocks, tailboard and level -/

theorem Core.clk_of_unsrc {a b : Dev} (h : a.core.unsrc = b.core.unsrc) : a.clk.face = b.clk.face := (congrArg Core.clk h :)

theorem Dev.tlb_of_unsrc {a b : Dev} (h : a.core.unsrc = b.core.unsrc) : a.tlb = b.tlb := (congrArg Core.tlb h :)

theorem Dev.hold_of_unsrc {a b : Dev} (h : a.core.unsrc = b.core.unsrc) : a.sys.hold = b.sys.hold := (congrArg (fun c => c.sys.hold) h :)

theorem Dev.src_of_core {a b : Dev} (h : a.core = b.core) (k : Nat) : a.bit R.BRK_SRC_SRC k = b.bit R.BRK_SRC_SRC k :=
  congrArg (fun v => bitOf v k) (congrArg Core.src h :)

theorem Dev.unsrc_levelDrag (d : Dev) : d.levelDrag.core.unsrc = d.core.unsrc := by
  unfold Dev.levelDrag
  split
  · exact d.unsrc_setSrc _ _
  · rfl

theorem bitOf_two_putBit_four : ∀ v < 2 ^ 6, bitOf v 2 = true → bitOf (putBit v 4 true) 2 = true := by decide

/-- The drag of L1 stays through that of the key (R248). -/
theorem Dev.bit_setSrc_key {d : Dev} (h : d.bit R.BRK_SRC_SRC 2 = true) : (d.setSrc 4 true).bit R.BRK_SRC_SRC 2 = true := by
  have hnew : bitOf (d.srcNew 4 true) 2 = true := bitOf_two_putBit_four _ (d.get_lt R.BRK_SRC_SRC 0 0) h
  unfold Dev.bit
  rw [d.get_setSrc_src, bitOf_eq_testBit, Nat.testBit_mod_two_pow, ← bitOf_eq_testBit, hnew]
  rfl

/-! ### A fall (R60) -/

theorem Dev.levelWhys_lt (d : Dev) (l : Nat) : ∀ c ∈ d.levelWhys l, c < 2 ^ 4 := by
  intro c hc
  have hif : ∀ (b : Bool) (k : Nat), c ∈ (if b = true then [k] else []) → c = k := by
    intro b k h
    cases b
    · cases h
    · exact List.mem_singleton.1 h
  simp only [Dev.levelWhys, List.mem_append] at hc
  rcases hc with (((((hc | hc) | hc) | hc) | hc) | hc) | hc <;> rw [hif _ _ hc] <;> decide

/-- A field of SYS other than HOLDOVER stays through the drag of L1. -/
theorem Dev.get_levelDrag (d : Dev) {f : Fld} (hf : f ∈ regMap) (hb : f.block ∉ blockWs) (h : f ≠ R.SYS_LEVEL_HOLDOVER) : d.levelDrag.get f = d.get f :=
  (BlockStep.levelDrag d).regs f hf hb (by simpa using h) 0 0

/-- The registers of a fall. -/
def Dev.fallShown (d : Dev) (l cause : Nat) : Dev := ((d.set R.SYS_LEVEL_LEVEL l).set R.SYS_LEVEL_LAST_FALL cause).inc R.SYS_LEVEL_FALLS

theorem Dev.fallShown_shows (d : Dev) (l cause : Nat) :
    (d.fallShown l cause).get R.SYS_LEVEL_LAST_FALL = cause % 2 ^ 4 ∧
      (d.fallShown l cause).get R.SYS_LEVEL_FALLS = min (d.get R.SYS_LEVEL_FALLS + 1) 0xFFFF := by
  unfold Dev.fallShown
  refine ⟨?_, ?_⟩
  · exact (Dev.get_set_fld _ (mem_of_siteFlds (by decide)) (mem_of_siteFlds (by decide)) (by decide) _ _ _ _ _).trans (Dev.get_set_self _ _ _ _ _ (by decide))
  · have hkept : ((d.set R.SYS_LEVEL_LEVEL l).set R.SYS_LEVEL_LAST_FALL cause).get R.SYS_LEVEL_FALLS = d.get R.SYS_LEVEL_FALLS :=
      (Dev.get_set_fld _ (mem_of_siteFlds (by decide)) (mem_of_siteFlds (by decide)) (by decide) _ _ _ _ _).trans
        (Dev.get_set_fld _ (mem_of_siteFlds (by decide)) (mem_of_siteFlds (by decide)) (by decide) _ _ _ _ _)
    refine (Dev.get_set_self _ R.SYS_LEVEL_FALLS _ 0 0 (by decide)).trans ?_
    rw [hkept]
    exact Nat.mod_eq_of_lt (Nat.lt_of_le_of_lt (Nat.min_le_right _ _) (by decide))

theorem Dev.fallShown_level (d : Dev) (l cause : Nat) : (d.fallShown l cause).level = l % 2 ^ 2 := by
  unfold Dev.fallShown
  refine (Dev.get_set_fld _ mem_SYS_LEVEL_LEVEL (mem_of_siteFlds (by decide)) (by decide) _ _ _ _ _).trans ?_
  refine (Dev.get_set_fld _ mem_SYS_LEVEL_LEVEL (mem_of_siteFlds (by decide)) (by decide) _ _ _ _ _).trans ?_
  exact Dev.get_set_self _ _ _ _ _ (by decide)

theorem Dev.fallShown_reins (d : Dev) (l cause : Nat) : (d.fallShown l cause).reins = d.reins := by
  unfold Dev.fallShown Dev.reins
  rw [Dev.inc, Dev.sat, Dev.get_set_fld _ (mem_of_siteFlds (by decide)) (mem_of_siteFlds (by decide)) (by decide),
    Dev.get_set_fld _ (mem_of_siteFlds (by decide)) (mem_of_siteFlds (by decide)) (by decide),
    Dev.get_set_fld _ (mem_of_siteFlds (by decide)) mem_SYS_LEVEL_LEVEL (by decide)]

theorem Dev.levelDrag_asserts {d : Dev} (h : d.reins = true) (low : d.level < 2) : d.levelDrag.bit R.BRK_SRC_SRC 2 = true := by
  unfold Dev.levelDrag
  rw [if_pos h, decide_eq_true low]
  exact d.bit_setSrc_true (by decide)

/-- The state of SYS and of supervision after a fall. -/
def Dev.fallNoted (d : Dev) (l : Nat) : Dev :=
  { d with sys := { d.sys with hold := 0 }, brk := { d.brk with reissue := if l = 2 then 1 else d.brk.reissue } }

/-- What a fall leaves for the drag of L1. -/
def Dev.fallDone (d : Dev) (l cause : Nat) : Dev :=
  ((d.fallShown l cause).pushRec (d.fallShown l cause).now (sysCode 0) (u8 d.level ++ u8 l ++ u8 cause)).fallNoted l

theorem Dev.fallTo_eq (d : Dev) (l cause : Nat) : d.fallTo l cause = (d.fallDone l cause).levelDrag := by
  have hshown : ((d.set R.SYS_LEVEL_LEVEL l).set R.SYS_LEVEL_LAST_FALL cause).inc R.SYS_LEVEL_FALLS = d.fallShown l cause := rfl
  unfold Dev.fallTo Dev.fallDone
  rw [hshown]
  extract_lets old d1
  have h1 : (d.fallShown l cause).pushRec (d.fallShown l cause).now (sysCode 0) (u8 d.level ++ u8 l ++ u8 cause) = d1 := rfl
  rw [h1]
  clear_value d1
  rfl

theorem Dev.fallDone_kept (d : Dev) (l cause : Nat) :
    (∀ f ∈ regMap, f.block ∉ blockWs → f ≠ R.SYS_LEVEL_HOLDOVER → (d.fallDone l cause).get f = (d.fallShown l cause).get f) ∧
      (d.fallDone l cause).clk.face = (d.fallShown l cause).clk.face ∧ (d.fallDone l cause).tlb = (d.fallShown l cause).tlb := by
  have hcore := (d.fallShown l cause).core_pushRec (d.fallShown l cause).now (sysCode 0) (u8 d.level ++ u8 l ++ u8 cause)
  have hstep := BlockStep.pushRec (d.fallShown l cause) (d.fallShown l cause).now (sysCode 0) (u8 d.level ++ u8 l ++ u8 cause)
  unfold Dev.fallDone
  generalize (d.fallShown l cause).pushRec (d.fallShown l cause).now (sysCode 0) (u8 d.level ++ u8 l ++ u8 cause) = x at hcore hstep ⊢
  exact ⟨fun f hf hb h => hstep.regs f hf hb (by simpa using h) 0 0, (congrArg Core.clk hcore :), (congrArg Core.tlb hcore :)⟩

/-- A fall: what it shows, and the clocks and the tailboard it leaves. -/
theorem Dev.fallTo_shows (d : Dev) (l cause : Nat) :
    (d.fallTo l cause).get R.SYS_LEVEL_LAST_FALL = cause % 2 ^ 4 ∧
      (d.fallTo l cause).get R.SYS_LEVEL_FALLS = min (d.get R.SYS_LEVEL_FALLS + 1) 0xFFFF ∧
      (d.fallTo l cause).clk.face = d.clk.face ∧ (d.fallTo l cause).tlb = d.tlb ∧
      (l < 2 → d.reins = true → (d.fallTo l cause).bit R.BRK_SRC_SRC 2 = true) := by
  obtain ⟨hcause, hfalls⟩ := d.fallShown_shows l cause
  obtain ⟨hkept, hclk, htlb⟩ := d.fallDone_kept l cause
  have hdrag := (d.fallDone l cause).unsrc_levelDrag
  rw [Dev.fallTo_eq]
  refine ⟨?_, ?_, (Core.clk_of_unsrc hdrag).trans hclk, (Dev.tlb_of_unsrc hdrag).trans htlb, fun low reins => ?_⟩
  · rw [Dev.get_levelDrag _ (mem_of_siteFlds (by decide)) (by decide) (by decide), hkept _ (mem_of_siteFlds (by decide)) (by decide) (by decide), hcause]
  · rw [Dev.get_levelDrag _ (mem_of_siteFlds (by decide)) (by decide) (by decide), hkept _ (mem_of_siteFlds (by decide)) (by decide) (by decide), hfalls]
  · refine Dev.levelDrag_asserts ?_ ?_
    · rw [← reins, ← d.fallShown_reins l cause, Dev.reins, hkept _ (mem_of_siteFlds (by decide)) (by decide) (by decide)]
      rfl
    · rw [Dev.level, hkept _ mem_SYS_LEVEL_LEVEL (by decide) (by decide)]
      refine Nat.lt_of_le_of_lt ((d.fallShown_level l cause).le.trans (Nat.mod_le _ _)) low

/-! ### The level at a boundary (R59, R60) -/

/-- The level kept, with the cycles for which the next level's conditions have held. -/
def Dev.levelKept (d : Dev) (hold : Nat) : Dev := { d with sys := { d.sys with hold := hold } }.levelDrag

theorem Dev.level_levelKept (d : Dev) (hold : Nat) : (d.levelKept hold).level = d.level :=
  Dev.get_levelDrag _ mem_SYS_LEVEL_LEVEL (by decide) (by decide)

theorem Dev.levelKept_rest (d : Dev) (hold : Nat) : (d.levelKept hold).clk.face = d.clk.face ∧ (d.levelKept hold).tlb = d.tlb :=
  ⟨(Core.clk_of_unsrc (Dev.unsrc_levelDrag _)).trans rfl, (Dev.tlb_of_unsrc (Dev.unsrc_levelDrag _)).trans rfl⟩

theorem Dev.levelBoundary_of_nil {d : Dev} (h : d.levelWhys d.level = []) : ∃ hold, d.levelBoundary = d.levelKept hold := by
  unfold Dev.levelBoundary
  rw [h]
  exact ⟨_, rfl⟩

theorem Dev.levelBoundary_of_low {d : Dev} {c : Nat} {l : List Nat} (h : d.levelWhys d.level = c :: l) (low : d.level = 1) :
    d.levelBoundary = (d.set R.SYS_LEVEL_LAST_FALL c).levelKept 0 := by
  unfold Dev.levelBoundary
  rw [h]
  exact if_pos low

theorem Dev.levelBoundary_of_cons {d : Dev} {c : Nat} {l : List Nat} (h : d.levelWhys d.level = c :: l) (high : d.level ≠ 1) :
    d.levelBoundary = d.fallTo (if d.level = 3 && (d.levelWhys 2).isEmpty then 2 else 1) c := by
  unfold Dev.levelBoundary
  rw [h]
  exact if_neg high

/-- A boundary judges the level with the clocks and the tailboard as they are. -/
theorem Dev.levelBoundary_rest (d : Dev) : d.levelBoundary.clk.face = d.clk.face ∧ d.levelBoundary.tlb = d.tlb := by
  cases h : d.levelWhys d.level with
  | nil =>
    obtain ⟨hold, he⟩ := Dev.levelBoundary_of_nil h
    rw [he]
    exact d.levelKept_rest hold
  | cons c l =>
    by_cases low : d.level = 1
    · rw [Dev.levelBoundary_of_low h low]
      exact (d.set R.SYS_LEVEL_LAST_FALL c).levelKept_rest 0
    · obtain ⟨-, -, hclk, htlb, -⟩ := d.fallTo_shows (if d.level = 3 && (d.levelWhys 2).isEmpty then 2 else 1) c
      rw [Dev.levelBoundary_of_cons h low]
      exact ⟨hclk, htlb⟩

/-- The level falls to `n`, with the first condition that fails. -/
theorem Dev.levelBoundary_falls {d : Dev} {c n : Nat} {l : List Nat} (h : d.levelWhys d.level = c :: l) (high : d.level ≠ 1) (hn : n < 4)
    (floor : (if d.level = 3 && (d.levelWhys 2).isEmpty then 2 else 1) = n) :
    d.levelBoundary.level = n ∧ d.levelBoundary.get R.SYS_LEVEL_LAST_FALL = c ∧
      d.levelBoundary.get R.SYS_LEVEL_FALLS = min (d.get R.SYS_LEVEL_FALLS + 1) 0xFFFF ∧ (n < 2 → d.reins = true → d.levelBoundary.bit R.BRK_SRC_SRC 2 = true) := by
  obtain ⟨-, -, hlevel⟩ := d.fallTo_kept n c
  obtain ⟨hcause, hfalls, -, -, hbit⟩ := d.fallTo_shows n c
  rw [Dev.levelBoundary_of_cons h high, floor]
  exact ⟨hlevel.trans (Nat.mod_eq_of_lt hn), hcause.trans (Nat.mod_eq_of_lt (d.levelWhys_lt _ c (h ▸ List.mem_cons_self))), hfalls, hbit⟩

/-- The lowest level of service does not fall. -/
theorem Dev.levelBoundary_low {d : Dev} (low : d.level = 1) : d.levelBoundary.level = 1 := by
  cases h : d.levelWhys d.level with
  | nil =>
    obtain ⟨hold, he⟩ := Dev.levelBoundary_of_nil h
    rw [he]
    exact (d.level_levelKept hold).trans low
  | cons c l =>
    rw [Dev.levelBoundary_of_low h low]
    refine (Dev.level_levelKept _ 0).trans ((Dev.get_set_fld _ mem_SYS_LEVEL_LEVEL (mem_of_siteFlds (by decide)) (by decide) _ _ _ _ _).trans low)

/-! ### Boundaries of yard time -/

theorem nextIdx_bounds (y l : Nat) {p : Nat} (hp : 0 < p) : y ≤ nextIdx y p l * p ∧ nextIdx y p l * p ≤ y + p := by
  have hdiv : y / p * p + y % p = y := Nat.div_add_mod' y p
  have hlt : y % p < p := Nat.mod_lt y hp
  unfold nextIdx
  split
  · next h =>
    simp only [Bool.and_eq_true, decide_eq_true_eq] at h
    omega
  · rw [Nat.succ_mul]
    omega

theorem Dev.timeGoes_of_timed {d : Dev} (h : d.timed = true) : d.timeGoes = true := by
  simp only [Dev.timed, Bool.and_eq_true, Bool.not_eq_true'] at h
  simp [Dev.timeGoes, h.2]

/-- The yard clock at a boundary that lies ahead. -/
theorem Dev.yard_passTo_boundary {d : Dev} (h : d.timed = true) (l : Nat) {p : Nat} (hp : 0 < p) :
    (d.passTo (nextIdx d.clk.yard p l * p)).clk.yard = nextIdx d.clk.yard p l * p := by
  rw [Dev.yard_passTo (Dev.timeGoes_of_timed h)]
  exact Nat.max_eq_right (nextIdx_bounds _ _ hp).1

theorem yard_of_face {a b : Clk} (h : a.face = b.face) : a.yard = b.yard := (congrArg Clk.yard h :)
theorem fc_of_face {a b : Clk} (h : a.face = b.face) : a.fc = b.fc := (congrArg Clk.fc h :)
theorem sf_of_face {a b : Clk} (h : a.face = b.face) : a.sf = b.sf := (congrArg Clk.sf h :)
theorem sec_of_face {a b : Clk} (h : a.face = b.face) : a.sec = b.sec := (congrArg Clk.sec h :)

/-! ### The fleet cycle boundary -/

/-- The boundary taken, with the count of fleet cycles. -/
def Dev.fcBegun (d : Dev) : Dev :=
  let x := d.passTo (nextIdx d.clk.yard fleetCycle d.clk.fc * fleetCycle)
  { x with clk := { x.clk with fc := nextIdx d.clk.yard fleetCycle d.clk.fc + 1 } }

theorem Dev.fcBegun_yard {d : Dev} (h : d.timed = true) : d.fcBegun.clk.yard = nextIdx d.clk.yard fleetCycle d.clk.fc * fleetCycle := by
  unfold Dev.fcBegun
  exact Dev.yard_passTo_boundary h _ (by decide)
theorem Dev.fcBegun_fc (d : Dev) : d.fcBegun.clk.fc = nextIdx d.clk.yard fleetCycle d.clk.fc + 1 := rfl

/-- The level judged, where there is one. -/
def Dev.levelJudged (d : Dev) : Dev := if d.level = 0 then d else d.levelBoundary

/-- The last allotment no longer stands. -/
def Dev.oldGone (d : Dev) : Dev := { d with tlb := { d.tlb with old := none } }

theorem Dev.fleetBoundary_of_timed {d : Dev} (h : d.timed = true) (e : EngObs) :
    d.fleetBoundary e = (((d.fcBegun.yrdView.levelJudged).engCompare e).dragOutBoundary.pairBoundary).oldGone := by
  unfold Dev.fleetBoundary
  rw [h, if_neg (by decide)]
  rfl

theorem Dev.levelJudged_rest (d : Dev) : d.levelJudged.clk.face = d.clk.face ∧ d.levelJudged.tlb = d.tlb := by
  unfold Dev.levelJudged
  split
  · exact ⟨rfl, rfl⟩
  · exact d.levelBoundary_rest

theorem Dev.core_afterLevel (d : Dev) (e : EngObs) : ((d.engCompare e).dragOutBoundary.pairBoundary).core = d.core := by
  rw [Dev.core_pairBoundary, Dev.core_dragOutBoundary, Dev.core_engCompare]

/-- A fleet cycle boundary: the clocks, the tailboard, and the level as judged. -/
theorem Dev.fleetBoundary_shows {d : Dev} (h : d.timed = true) (e : EngObs) :
    (d.fleetBoundary e).clk.face = d.fcBegun.clk.face ∧ (d.fleetBoundary e).tlb = { d.tlb with old := none } ∧
      (∀ f ∈ coreFlds, (d.fleetBoundary e).get f = d.fcBegun.yrdView.levelJudged.get f) ∧
      (d.fleetBoundary e).sys.hold = d.fcBegun.yrdView.levelJudged.sys.hold := by
  rw [Dev.fleetBoundary_of_timed h]
  have hview : d.fcBegun.yrdView.core = d.fcBegun.core := Dev.core_yrdView _
  have htlb : d.fcBegun.tlb = d.tlb := rfl
  obtain ⟨hclk, hlevel⟩ := d.fcBegun.yrdView.levelJudged_rest
  have hafter := d.fcBegun.yrdView.levelJudged.core_afterLevel e
  generalize d.fcBegun.yrdView.levelJudged = y at hclk hlevel hafter ⊢
  generalize d.fcBegun.yrdView = x at hview hclk hlevel
  generalize (y.engCompare e).dragOutBoundary.pairBoundary = z at hafter ⊢
  refine ⟨?_, ?_, fun f hf => Dev.get_of_core hafter hf, (congrArg (fun c => c.sys.hold) hafter :)⟩
  · exact (congrArg Core.clk hafter :).trans (hclk.trans (congrArg Core.clk hview :))
  · have hz : z.tlb = d.tlb := (congrArg Core.tlb hafter :).trans (hlevel.trans ((congrArg Core.tlb hview :).trans htlb))
    rw [← hz]
    rfl

/-! ### The superframe start -/

/-- The boundary taken, with the count of superframes. -/
def Dev.sfBegun (d : Dev) : Dev :=
  let x := d.passTo (nextIdx d.clk.yard superframe d.clk.sf * superframe)
  { x with clk := { x.clk with sf := nextIdx d.clk.yard superframe d.clk.sf + 1 } }

theorem Dev.sfBegun_yard {d : Dev} (h : d.timed = true) : d.sfBegun.clk.yard = nextIdx d.clk.yard superframe d.clk.sf * superframe := by
  unfold Dev.sfBegun
  exact Dev.yard_passTo_boundary h _ (by decide)
theorem Dev.sfBegun_sf (d : Dev) : d.sfBegun.clk.sf = nextIdx d.clk.yard superframe d.clk.sf + 1 := rfl

/-- The epoch of tracking, time and corrections, and the parts that switch. -/
def Dev.sfEpoch (d : Dev) (e : EpochIn) : Dev :=
  let d := if d.runs .corr then d.trkEpoch else d
  let d := (d.timeEpoch e).yrdView
  let d := if d.runs .corr then d.trkAfter else d
  (d.partBoundary 2).partBoundary 3

/-- Braking, waybills and metering. -/
def Dev.sfBlocks (d : Dev) : Dev :=
  let d := d.joinAll.brkSuperframe
  let d := if d.runs .sup then d.wbSuperframe else d
  let d := if d.runs .meter then d.meterStream else d
  let d := if d.on R.RSV_STATUS_COMPARE_OK then d.selfOk 1 else d
  d.settle

/-- The radio. -/
def Dev.sfRadio (d : Dev) : Dev := if d.runs .rad then d.radSuperframe else d

theorem Dev.superframeStart_eq (d : Dev) (e : EpochIn) : d.superframeStart e = (d.sfBegun.sfEpoch e).riseToL1.sfRadio.sfBlocks := rfl

theorem Dev.core_sfEpoch (d : Dev) (e : EpochIn) : (d.sfEpoch e).core = d.core := by
  unfold Dev.sfEpoch
  extract_lets d1 d2 d3
  have h1 : d1.core = d.core := by simp only [d1, Dev.core_laws, Dev.core_trkEpoch, ite_self]
  have h2 : d2.core = d.core := (Dev.core_yrdView _).trans ((Dev.core_timeEpoch _ _).trans h1)
  have h3 : d3.core = d.core := by simp only [d3, Dev.core_laws, Dev.core_trkAfter, ite_self, h2]
  exact (Dev.core_partBoundary _ (.inr rfl)).trans ((Dev.core_partBoundary _ (.inl rfl)).trans h3)

theorem Dev.core_sfBlocks (d : Dev) : d.sfBlocks.core = d.core := by
  simp (disch := decide) only [Dev.sfBlocks, Dev.core_laws, Dev.core_settle, Dev.core_selfOk, Dev.core_meterStream, Dev.core_wbSuperframe,
    Dev.core_brkSuperframe, Dev.core_joinAll, ite_self]

theorem Dev.unsrc_sfRadio (d : Dev) : d.sfRadio.core.unsrc = d.core.unsrc := by
  unfold Dev.sfRadio
  split
  · exact (congrArg Core.unsrc d.core_radSuperframe).trans d.unsrc_keySwitch
  · rfl

/-- The drag of L1 stays through the key check. -/
theorem Dev.bit_keyCheck {d : Dev} (h : d.bit R.BRK_SRC_SRC 2 = true) : d.keyCheck.bit R.BRK_SRC_SRC 2 = true := by
  unfold Dev.keyCheck
  split
  · exact (Dev.src_of_core (d.core_set (by decide) 0 0 0) 2).trans h
  · extract_lets d1
    have h1 : d1.core = d.core := by simp (disch := decide) only [d1, Dev.core_laws, ite_self]
    have hbit : d1.bit R.BRK_SRC_SRC 2 = true := (Dev.src_of_core h1 2).trans h
    split
    · exact Dev.bit_setSrc_key hbit
    · exact hbit

theorem Dev.bit_keySwitch {d : Dev} (h : d.bit R.BRK_SRC_SRC 2 = true) : d.keySwitch.bit R.BRK_SRC_SRC 2 = true := by
  unfold Dev.keySwitch
  split
  · extract_lets c d1 rad
    have h1 : d1.core = d.core := by simp (disch := decide) only [d1, Dev.core_laws]
    refine Dev.bit_keyCheck ((Dev.src_of_core ((Dev.core_record _ _ _).trans ?_) 2).trans h)
    exact (d1.core_rad rfl).trans h1
  · exact h

theorem Dev.bit_sfRadio {d : Dev} (h : d.bit R.BRK_SRC_SRC 2 = true) : d.sfRadio.bit R.BRK_SRC_SRC 2 = true := by
  unfold Dev.sfRadio
  split
  · exact (Dev.src_of_core d.core_radSuperframe 2).trans (Dev.bit_keySwitch h)
  · exact h

/-! ### The rise from L0 (R57, R59) -/

/-- The registers of the rise, and the key an unpaired device finds with the reins it takes. -/
def Dev.risen (d : Dev) : Dev := if (d.set R.SYS_LEVEL_LEVEL 1).paired then d.set R.SYS_LEVEL_LEVEL 1
  else (((d.set R.SYS_LEVEL_LEVEL 1).set R.PAIR_STATUS_ROLE 1).radRole).keyCheck

/-- The drag of a radio that is not enabled. -/
def Dev.radioDrag (d : Dev) : Dev := if d.reins && !d.on R.RAD_CTRL_EN then d.setSrc 4 true else d

/-- Whether the rise waits. -/
def Dev.l1Waits (d : Dev) : Bool :=
  d.level != 0 || !d.sys.up || d.capNow = 0 || d.sys.pkg || d.rad.faulted || (d.paired && d.reins && d.now < d.pair.bcnFrom)

theorem Dev.riseToL1_eq (d : Dev) : d.riseToL1 = if d.l1Waits = true then d else d.risen.radioDrag.levelDrag := rfl

theorem Dev.riseToL1_of_level {d : Dev} (h : d.level ≠ 0) : d.riseToL1 = d := by
  rw [Dev.riseToL1_eq, if_pos]
  simp [Dev.l1Waits, h]

theorem Dev.unsrc_radioDrag (d : Dev) : d.radioDrag.core.unsrc = d.core.unsrc := by
  unfold Dev.radioDrag
  split
  · exact d.unsrc_setSrc _ _
  · rfl

theorem Dev.clk_risen (d : Dev) : d.risen.clk.face = d.clk.face := by
  unfold Dev.risen
  split
  · rfl
  · exact (Core.clk_of_unsrc (Dev.unsrc_keyCheck _)).trans ((congrArg Core.clk (Dev.core_radRole _) :).trans rfl)

theorem Dev.clk_riseToL1 (d : Dev) : d.riseToL1.clk.face = d.clk.face := by
  rw [Dev.riseToL1_eq]
  split
  · rfl
  · exact (Core.clk_of_unsrc ((Dev.unsrc_levelDrag _).trans (Dev.unsrc_radioDrag _))).trans d.clk_risen

/-- An unpaired device that rises holds the reins at L1, with the drag of L1. -/
theorem Dev.riseToL1_shows {d : Dev} (h : d.l1Waits = false) (alone : d.paired = false) :
    d.riseToL1.level = 1 ∧ d.riseToL1.reins = true ∧ d.riseToL1.bit R.BRK_SRC_SRC 2 = true := by
  have hpaired : (d.set R.SYS_LEVEL_LEVEL 1).paired = false := by
    rw [← alone, Dev.paired, Dev.on, Dev.get_set_fld _ (mem_of_siteFlds (by decide)) mem_SYS_LEVEL_LEVEL (by decide)]
    rfl
  have hrisen : d.risen = (((d.set R.SYS_LEVEL_LEVEL 1).set R.PAIR_STATUS_ROLE 1).radRole).keyCheck := by
    unfold Dev.risen
    rw [hpaired]
    rfl
  have hkept : d.risen.core.unsrc = ((d.set R.SYS_LEVEL_LEVEL 1).set R.PAIR_STATUS_ROLE 1).core.unsrc := by
    rw [hrisen]
    exact (Dev.unsrc_keyCheck _).trans (congrArg Core.unsrc (Dev.core_radRole _))
  have hdrag := (Dev.unsrc_radioDrag d.risen).trans hkept
  have hlevel : d.risen.radioDrag.level = 1 := by
    refine (Dev.get_of_unsrc hdrag (by decide)).trans ?_
    rw [Dev.get_set_fld _ mem_SYS_LEVEL_LEVEL (mem_of_siteFlds (by decide)) (by decide), Dev.get_set_self _ _ _ _ _ (by decide)]
    rfl
  have hrole : d.risen.radioDrag.get R.PAIR_STATUS_ROLE = 1 := by
    refine (Dev.get_of_unsrc hdrag (by decide)).trans ?_
    rw [Dev.get_set_self _ _ _ _ _ (by decide)]
    rfl
  have hreins : d.risen.radioDrag.reins = true := by rw [Dev.reins, hrole]; rfl
  have hlast := Dev.unsrc_levelDrag d.risen.radioDrag
  have hrise : d.riseToL1 = d.risen.radioDrag.levelDrag := by rw [Dev.riseToL1_eq, h]; rfl
  rw [hrise]
  refine ⟨(Dev.get_of_unsrc hlast (by decide)).trans hlevel, ?_, Dev.levelDrag_asserts hreins (by rw [hlevel]; decide)⟩
  rw [Dev.reins, Dev.get_of_unsrc hlast (by decide), hrole]
  rfl

/-! ### What the superframe start shows -/

theorem Dev.superframeStart_clk (d : Dev) (e : EpochIn) : (d.superframeStart e).clk.face = d.sfBegun.clk.face := by
  rw [Dev.superframeStart_eq]
  refine (Core.clk_of_unsrc ((congrArg Core.unsrc (Dev.core_sfBlocks _)).trans (Dev.unsrc_sfRadio _))).trans ?_
  exact (Dev.clk_riseToL1 _).trans (congrArg Core.clk (Dev.core_sfEpoch _ _) :)

theorem Dev.superframeStart_level {d : Dev} (h : d.level ≠ 0) (e : EpochIn) : (d.superframeStart e).level = d.level := by
  have hepoch : (d.sfBegun.sfEpoch e).level = d.level := (Dev.level_of_core (Dev.core_sfEpoch _ _)).trans rfl
  rw [Dev.superframeStart_eq, Dev.riseToL1_of_level (by rw [hepoch]; exact h)]
  exact (Dev.get_of_unsrc ((congrArg Core.unsrc (Dev.core_sfBlocks _)).trans (Dev.unsrc_sfRadio _)) (by decide)).trans hepoch

/-- What decides whether the rise waits is in the core. -/
theorem Dev.l1Waits_of_core {a b : Dev} (h : a.core = b.core) (alone : b.paired = false) : a.l1Waits = b.l1Waits := by
  have hpaired : a.paired = false := by rw [← alone, Dev.paired, Dev.paired, Dev.on, Dev.on, Dev.get_of_core h (by decide)]
  have hlevel : a.level = b.level := Dev.level_of_core h
  have hup : a.sys.up = b.sys.up := (congrArg (fun c => c.sys.up) h :)
  have hcap : a.capNow = b.capNow := by
    have hc : a.get R.SYS_LEVEL_CFG_CAP = b.get R.SYS_LEVEL_CFG_CAP := (congrArg Core.cap h :)
    have hl : a.boot = b.boot := (congrArg Core.boot h :)
    rw [Dev.capNow, Dev.capNow, hc, hl]
  have hpkg : a.sys.pkg = b.sys.pkg := (congrArg (fun c => c.sys.pkg) h :)
  have hrad : a.rad.faulted = b.rad.faulted := (congrArg Core.faulted h :)
  simp only [Dev.l1Waits, hlevel, hup, hcap, hpkg, hrad, hpaired, alone, Bool.false_and]

theorem Dev.superframeStart_rises {d : Dev} (h : d.l1Waits = false) (alone : d.paired = false) (e : EpochIn) :
    (d.superframeStart e).level = 1 ∧ (d.superframeStart e).reins = true ∧ (d.superframeStart e).bit R.BRK_SRC_SRC 2 = true := by
  have hepoch := d.sfBegun.core_sfEpoch e
  have hbegun : d.sfBegun.paired = false := alone
  have hwaits : d.sfBegun.l1Waits = false := by
    rw [← h]
    simp only [Dev.l1Waits, alone, hbegun, Bool.false_and]
    rfl
  have hwaits' := (Dev.l1Waits_of_core hepoch hbegun).trans hwaits
  have halone : (d.sfBegun.sfEpoch e).paired = false := by
    rw [← hbegun, Dev.paired, Dev.paired, Dev.on, Dev.on, Dev.get_of_core hepoch (by decide)]
  rw [Dev.superframeStart_eq]
  generalize d.sfBegun.sfEpoch e = x at hwaits' halone
  obtain ⟨hlevel, hreins, hbit⟩ := Dev.riseToL1_shows hwaits' halone
  have hblocks := Dev.core_sfBlocks x.riseToL1.sfRadio
  have hend := (congrArg Core.unsrc hblocks).trans (Dev.unsrc_sfRadio _)
  refine ⟨(Dev.get_of_unsrc hend (by decide)).trans hlevel, ?_, (Dev.src_of_core hblocks 2).trans (Dev.bit_sfRadio hbit)⟩
  rw [← hreins, Dev.reins, Dev.get_of_unsrc hend (by decide)]
  rfl

/-! ### The GPS second -/

/-- The boundary taken, with the count of seconds. -/
def Dev.secBegun (d : Dev) : Dev :=
  let x := d.passTo (nextIdx d.clk.yard second d.clk.sec * second)
  { x with clk := { x.clk with sec := nextIdx d.clk.yard second d.clk.sec + 1 } }

theorem Dev.secBegun_yard {d : Dev} (h : d.timed = true) : d.secBegun.clk.yard = nextIdx d.clk.yard second d.clk.sec * second := by
  unfold Dev.secBegun
  exact Dev.yard_passTo_boundary h _ (by decide)
theorem Dev.secBegun_sec (d : Dev) : d.secBegun.clk.sec = nextIdx d.clk.yard second d.clk.sec + 1 := rfl

/-- The second's own part. -/
def Dev.secondBoundary (d : Dev) : Dev := (d.secBegun.timeSecond.yrdSecond).confirmLeft

theorem Dev.clk_secondBoundary {d : Dev} (h : d.tim.stepAt = none) : d.secondBoundary.clk.face = d.secBegun.clk.face := by
  have hstep : d.secBegun.tim.stepAt = none := h
  have hcore : d.secondBoundary.core = d.secBegun.core := (Dev.core_confirmLeft _).trans ((Dev.core_yrdSecond _).trans (Dev.core_timeSecond hstep))
  exact (congrArg Core.clk hcore :)

theorem exec_gpsSecondBoundary {s : State} (run : s.dev.running = true) (timed : s.dev.timed = true) :
    exec .gpsSecondBoundary s = .next { s with dev := s.dev.secondBoundary } := by
  simp only [exec, execGpsSecondBoundary, onDev, run, timed, Bool.not_true, Bool.or_self, Bool.false_eq_true, if_false]
  rfl

theorem exec_superframeStart {s : State} (run : s.dev.running = true) (timed : s.dev.timed = true) (e : EpochIn) :
    exec (.superframeStart e) s = .next { s with dev := s.dev.superframeStart e } := by
  simp only [exec, execSuperframeStart, onDev, run, timed, Bool.and_self, if_true]

theorem exec_fleetCycleBoundary {s : State} (run : s.dev.running = true) (e : EngObs) :
    exec (.fleetCycleBoundary e) s = .next { s with dev := s.dev.fleetBoundary e } := by
  simp only [exec, execFleetCycleBoundary, onDev, run, if_true]

/-! ### The rise by one (R59, R61) -/

/-- What a record touches, and the parts a rise touches. -/
theorem Dev.without_record (d : Dev) (c : Nat) (x : List Byte) : (d.record c x).without reports = d.without reports := by
  unfold Dev.record
  extract_lets k c' due d1 evt d2 first evt' d3
  split
  · exact d.without_pushRec _ _ _
  · split
    · exact (d2.without_pushRec _ _ _).trans rfl
    · exact (Dev.without_set _ _ _ _ _ _).trans rfl

/-- The parts a rise touches. -/
def riseParts : List Part := [.clk, .sys, .brk] ++ reports

theorem Dev.without_riseParts (d : Dev) : d.without riseParts = { d.without reports with clk := {}, sys := {}, brk := {} } := by
  cases d
  rfl

theorem Dev.without_rise_of {a b : Dev} (h : a.without reports = b.without reports) : a.without riseParts = b.without riseParts := by
  rw [Dev.without_riseParts, Dev.without_riseParts, h]

theorem BrkStep.without_rise {a b : Dev} (h : BrkStep a b) : b.without riseParts = a.without riseParts := by
  rw [h.only]
  cases a
  rfl

theorem Dev.without_setSrc (d : Dev) (k : Nat) (b : Bool) : (d.setSrc k b).without riseParts = d.without riseParts := by
  rcases d.setSrc_cases k b with ⟨-, he⟩ | hstep
  · rw [he]
  · exact hstep.without_rise.trans ((Dev.without_rise_of (Dev.without_record _ _ _)).trans (Dev.without_set _ _ _ _ _ _))

theorem KeepRegs.setSrc (d : Dev) (k : Nat) (b : Bool) (fs : List Fld) : KeepRegs (reportWs ++ [0x09]) fs d (d.setSrc k b) := by
  rcases d.setSrc_cases k b with ⟨-, he⟩ | hstep
  · rw [he]
    exact .refl _ _ _
  · have hbrk : ∀ g ∈ brkFlds, g ∈ fs ∨ g.block ∈ reportWs ++ [0x09] := fun g hg => .inr (by revert g; decide)
    refine .trans (.trans ?_ (.record (by decide) (by decide) _ _ _)) (.of_fields hstep.regs hbrk)
    exact .set d _ _ _ mem_BRK_SRC_SRC (.inr (by decide))

theorem Dev.without_levelDrag (d : Dev) : d.levelDrag.without riseParts = d.without riseParts := by
  unfold Dev.levelDrag
  split
  · exact d.without_setSrc _ _
  · rfl

theorem KeepRegs.levelDrag (d : Dev) (fs : List Fld) : KeepRegs (reportWs ++ [0x09]) fs d d.levelDrag := by
  unfold Dev.levelDrag
  split
  · exact .setSrc d _ _ fs
  · exact .refl _ _ _

theorem Dev.without_readyEval (d : Dev) : d.readyEval.without reports = d.without reports := by
  unfold Dev.readyEval
  extract_lets r
  split
  · rfl
  · exact (Dev.without_record _ _ _).trans (Dev.without_set _ _ _ _ _ _)

theorem KeepRegs.readyEval (d : Dev) {fs : List Fld} (h : R.PAIR_STATUS_READY ∈ fs) : KeepRegs (reportWs ++ [0x09]) fs d d.readyEval := by
  unfold Dev.readyEval
  extract_lets r
  split
  · exact .refl _ _ _
  · exact .trans (.set_life d _ _ _ (by decide) (.inl h)) (.record (by decide) (by decide) _ _ _)

/-- The level one up, its count of cycles over. -/
def Dev.riseShown (d : Dev) : Dev :=
  let x := d.set R.SYS_LEVEL_LEVEL (d.level + 1)
  { x with sys := { x.sys with hold := 0 }, brk := { x.brk with reissue := if d.level + 1 = 3 then 2 else x.brk.reissue } }

theorem Dev.rise_eq (d : Dev) : d.rise = d.riseShown.levelDrag.readyEval := rfl

theorem Dev.without_riseShown (d : Dev) : d.riseShown.without riseParts = d.without riseParts := by
  cases d
  rfl

theorem KeepRegs.riseShown (d : Dev) {ws : List Nat} {fs : List Fld} (h : R.SYS_LEVEL_LEVEL ∈ fs) : KeepRegs ws fs d d.riseShown := by
  unfold Dev.riseShown
  extract_lets x sys brk
  have hset : KeepRegs ws fs d x := .set d _ _ _ mem_SYS_LEVEL_LEVEL (.inl h)
  clear_value x
  exact hset.trans (.of_regs rfl)

theorem Dev.rise_shows {d : Dev} (h : d.level < 3) : d.rise.level = d.level + 1 ∧ d.rise.sys.hold = 0 ∧ d.rise.clk.face = d.clk.face := by
  have hend := (congrArg Core.unsrc d.riseShown.levelDrag.core_readyEval).trans d.riseShown.unsrc_levelDrag
  have hlevel : d.riseShown.level = d.level + 1 := by
    refine (Dev.get_set_self d R.SYS_LEVEL_LEVEL (d.level + 1) 0 0 (by decide)).trans (Nat.mod_eq_of_lt ?_)
    exact Nat.lt_of_lt_of_le (Nat.succ_lt_succ h) (by decide)
  have hhold : d.riseShown.sys.hold = 0 := rfl
  have hclk : d.riseShown.clk = d.clk := rfl
  rw [Dev.rise_eq]
  exact ⟨(Dev.get_of_unsrc hend (by decide)).trans hlevel, (Dev.hold_of_unsrc hend).trans hhold, (Core.clk_of_unsrc hend).trans (congrArg Clk.face hclk)⟩

/-- A rise keeps all but what a level change reports. -/
theorem Dev.rise_frame (s : State) (t : Nat) :
    Frame riseParts (reportWs ++ [0x09]) [R.SYS_LEVEL_LEVEL, R.PAIR_STATUS_READY] s { s with dev := (s.dev.passTo t).rise } where
  queue := rfl
  fuse := rfl
  parts := by
    have hpass : (s.dev.passTo t).without riseParts = s.dev.without riseParts := by
      cases s.dev
      rfl
    change (s.dev.passTo t).rise.without riseParts = _
    rw [Dev.rise_eq, Dev.without_rise_of (Dev.without_readyEval _), Dev.without_levelDrag, Dev.without_riseShown, hpass]
  regs := by
    change KeepRegs _ _ _ (s.dev.passTo t).rise
    rw [Dev.rise_eq]
    have hpass : KeepRegs (reportWs ++ [0x09]) [R.SYS_LEVEL_LEVEL, R.PAIR_STATUS_READY] s.dev (s.dev.passTo t) := .of_regs rfl
    exact ((hpass.trans (.riseShown _ (by decide))).trans (.levelDrag _ _)).trans (.readyEval _ (by decide))

/-- The next multiple of a period. -/
theorem nextMultiple_bounds (y : Nat) {p : Nat} (hp : 0 < p) : y ≤ (y + p - 1) / p * p ∧ (y + p - 1) / p * p < y + p := by
  have hdiv : (y + p - 1) / p * p + (y + p - 1) % p = y + p - 1 := Nat.div_add_mod' _ _
  have hlt : (y + p - 1) % p < p := Nat.mod_lt _ hp
  omega

theorem exec_levelRise {s : State} (run : s.dev.running = true) (timed : s.dev.timed = true) (served : 1 ≤ s.dev.level) (below : s.dev.level < 3)
    (held : 10 ≤ s.dev.sys.hold) (ok : s.dev.levelWhys (s.dev.level + 1) = []) :
    exec .levelRise s = .next { s with dev := (s.dev.passTo ((s.dev.now + fleetCycle - 1) / fleetCycle * fleetCycle)).rise } := by
  simp only [exec, execLevelRise, onDev, run, timed, decide_eq_true served, decide_eq_true below, decide_eq_true held, ok, List.isEmpty_nil,
    Bool.and_self, if_true]

theorem exec_levelRise_waits {s : State} (h : s.dev.level = 3 ∨ s.dev.sys.hold < 10) : exec .levelRise s = .next s := by
  have hcond : (decide (s.dev.level < 3) && decide (10 ≤ s.dev.sys.hold)) = false := by
    rcases h with h | h
    · simp [h]
    · simp [Nat.not_le.2 h]
  simp only [exec, execLevelRise, onDev]
  rw [if_neg]
  intro c
  simp only [Bool.and_eq_true, decide_eq_true_eq] at c
  simp [c.1.1.2, c.1.2] at hcond

theorem exec_skyReinsPass {s : State} (run : s.dev.runs .safe = true) (reins : s.dev.reins = true) (higher : 10 ≤ s.dev.pair.higher)
    (ready : s.dev.partnerReady = true) (trial : s.dev.get R.IMG_STATUS_TRIAL_PART = 7) (sw : s.dev.pair.sw = none) :
    exec .skyReinsPass s = .next { s with dev := { s.dev with pair := { s.dev.pair with sw := some (none, none) } } } := by
  simp only [exec, execSkyReinsPass, onRun, onDev, run, reins, higher, ready, trial, sw, Option.isNone_none, decide_true, Bool.and_self, if_true]

/-! ### Settled -/

/-- Settles O12: the level at a boundary, the rise, and the three boundaries of yard time. -/
theorem levelMoves : Obligations.LevelMoves := by
  unfold Obligations.LevelMoves
  refine ⟨fun d c l three fails two => ?_, fun d c l two fails => ?_, fun d ok => ?_, fun d low => Dev.levelBoundary_low low,
    fun s run timed served below held ok => ?_, fun s h => ⟨s, exec_levelRise_waits h, rfl⟩, fun e s run timed => ?_, fun e s run timed served => ?_,
    fun e s run lost => ?_, fun e s run timed => ?_, fun e s run timed dark up cap pkg rad alone => ?_, fun e s run timed served => ?_,
    fun s run timed step => ?_, fun s run reins higher ready trial sw => ?_⟩
  · obtain ⟨hlevel, hcause, hfalls, -⟩ :=
      Dev.levelBoundary_falls (d := d) (by rw [three]; exact fails) (by omega) (n := 2) (by decide) (by simp [three, two])
    exact ⟨hlevel, hcause, hfalls⟩
  · obtain ⟨hlevel, hcause, hfalls, hbit⟩ := Dev.levelBoundary_falls (d := d) (by rw [two]; exact fails) (by omega) (n := 1) (by decide) (by simp [two])
    exact ⟨hlevel, hcause, hfalls, hbit (by decide)⟩
  · obtain ⟨hold, he⟩ := Dev.levelBoundary_of_nil ok
    rw [he]
    exact d.level_levelKept hold
  · refine ⟨_, exec_levelRise run timed served below held ok, ?_⟩
    have hnow := nextMultiple_bounds s.dev.now (p := fleetCycle) (by decide)
    have hmod : (s.dev.now + fleetCycle - 1) / fleetCycle * fleetCycle % fleetCycle = 0 := Nat.mul_mod_left _ _
    have hframe := Dev.rise_frame s ((s.dev.now + fleetCycle - 1) / fleetCycle * fleetCycle)
    generalize (s.dev.now + fleetCycle - 1) / fleetCycle * fleetCycle = t at hnow hmod hframe ⊢
    obtain ⟨hlevel, hhold, hclk⟩ := Dev.rise_shows (d := s.dev.passTo t) below
    have hyard : (s.dev.passTo t).rise.clk.yard = t :=
      (yard_of_face hclk).trans ((Dev.yard_passTo (Dev.timeGoes_of_timed timed) t).trans (Nat.max_eq_right hnow.1))
    refine ⟨hlevel, hhold, ?_, ?_, ?_, hframe⟩
    all_goals
      dsimp only
      rw [hyard]
    · exact hmod
    · exact hnow.1
    · exact hnow.2
  · obtain ⟨hclk, htlb, -, -⟩ := Dev.fleetBoundary_shows timed e
    obtain ⟨hlow, hhigh⟩ := nextIdx_bounds s.dev.clk.yard s.dev.clk.fc (p := fleetCycle) (by decide)
    have hyard : (s.dev.fleetBoundary e).clk.yard = nextIdx s.dev.clk.yard fleetCycle s.dev.clk.fc * fleetCycle :=
      (yard_of_face hclk).trans (Dev.fcBegun_yard timed)
    refine ⟨_, exec_fleetCycleBoundary run e, ?_⟩
    dsimp only
    refine ⟨htlb, (fc_of_face hclk).trans (Dev.fcBegun_fc _), ?_, ?_, ?_⟩
    all_goals rw [hyard]
    · exact Nat.mul_mod_left _ _
    · exact hlow
    · exact hhigh
  · obtain ⟨-, -, hget, hhold⟩ := Dev.fleetBoundary_shows timed e
    have hview : s.dev.fcBegun.yrdView.level ≠ 0 := by
      rw [Dev.level_of_core (Dev.core_yrdView _)]
      exact served
    have hjudged : s.dev.fcBegun.yrdView.levelJudged = s.dev.fcBegun.yrdView.levelBoundary := if_neg hview
    rw [hjudged] at hget hhold
    refine ⟨_, exec_fleetCycleBoundary run e, ?_⟩
    beta_reduce
    extract_lets k x clk y
    have hy : s.dev.fcBegun.yrdView.levelBoundary = y := rfl
    rw [hy] at hget hhold
    clear_value y
    exact ⟨hget _ (by decide), hget _ (by decide), hhold⟩
  · refine ⟨_, exec_fleetCycleBoundary run e, ?_⟩
    dsimp only
    unfold Dev.fleetBoundary
    rw [lost]
    rfl
  · have hclk := s.dev.superframeStart_clk e
    obtain ⟨hlow, hhigh⟩ := nextIdx_bounds s.dev.clk.yard s.dev.clk.sf (p := superframe) (by decide)
    have hyard : (s.dev.superframeStart e).clk.yard = nextIdx s.dev.clk.yard superframe s.dev.clk.sf * superframe :=
      (yard_of_face hclk).trans (Dev.sfBegun_yard timed)
    refine ⟨_, exec_superframeStart run timed e, ?_⟩
    dsimp only
    refine ⟨(sf_of_face hclk).trans (Dev.sfBegun_sf _), ?_, ?_, ?_⟩
    all_goals rw [hyard]
    · exact Nat.mul_mod_left _ _
    · exact hlow
    · exact hhigh
  · have hwaits : s.dev.l1Waits = false := by simp [Dev.l1Waits, dark, up, cap, pkg, rad, alone]
    refine ⟨_, exec_superframeStart run timed e, ?_⟩
    dsimp only
    exact Dev.superframeStart_rises hwaits alone e
  · refine ⟨_, exec_superframeStart run timed e, ?_⟩
    dsimp only
    exact Dev.superframeStart_level served e
  · have hclk := Dev.clk_secondBoundary step
    have hyard : s.dev.secondBoundary.clk.yard = nextIdx s.dev.clk.yard second s.dev.clk.sec * second :=
      (yard_of_face hclk).trans (Dev.secBegun_yard timed)
    refine ⟨_, exec_gpsSecondBoundary run timed, ?_⟩
    dsimp only
    refine ⟨(sec_of_face hclk).trans (Dev.secBegun_sec _), ?_⟩
    rw [hyard]
    exact Nat.mul_mod_left _ _
  · exact ⟨_, exec_skyReinsPass run reins higher ready trial sw, rfl, ⟨rfl, rfl, by cases s.dev; rfl, .of_regs rfl⟩⟩

end Sys2Proof.Machine
end

section
/-!
PROOFS. What the boot leaves alone of what it has come to: the reset released, the reference found (R47, R54).
-/

namespace Sys2Proof.Machine

/-- What the boot has come to: reset release, the reference, and REF_ABSENT. -/
def Dev.came (d : Dev) : Bool × Bool × Nat := (d.sys.ran, d.sys.refOk, d.get R.SYS_BOOT_STATUS_REF_ABSENT)

theorem Dev.came_of_face {a b : Dev} (h : a.sys.face = b.sys.face) (g : a.get R.SYS_BOOT_STATUS_REF_ABSENT = b.get R.SYS_BOOT_STATUS_REF_ABSENT) :
    a.came = b.came := by
  have hran : a.sys.ran = b.sys.ran := (congrArg Sys.ran h :)
  have href : a.sys.refOk = b.sys.refOk := (congrArg Sys.refOk h :)
  rw [Dev.came, Dev.came, hran, href, g]

theorem Dev.came_of_core {a b : Dev} (h : a.core = b.core) : a.came = b.came :=
  Dev.came_of_face (Dev.face_of_core h) (Dev.get_of_core h (by decide))

theorem Dev.came_of_unsrc {a b : Dev} (h : a.core.unsrc = b.core.unsrc) : a.came = b.came :=
  Dev.came_of_face (Dev.face_of_unsrc h) (Dev.get_of_unsrc h (by decide))

theorem Dev.came_of_block {a b : Dev} (h : BlockStep a b) : b.came = a.came :=
  Dev.came_of_face (congrArg Sys.face h.sys) (h.regs _ (mem_of_siteFlds (by decide)) (by decide) (by decide) 0 0)

/-- An update outside SYS and the registers. -/
theorem Dev.came_with (x : Dev) (clk : Clk) (boot : Fuse) (ring : Ring) (evt : Evt) (tlb : Tlb) (key : Key) (sky : Sky) (trk : Trk) (tim : Tim) (mtr : Mtr)
    (aon : Aon) (rsv : Rsv) (brk : Brk) (axs : Axs) (wb : Wb) (ctl : Ctl) (yrd : Yrd) (rad : Rad) (img : Img) (pair : Pair) (out : List Out) (free : Nat) :
    (Dev.mk clk boot x.regs ring evt tlb key sky trk tim mtr aon rsv brk axs wb ctl yrd rad img pair x.sys out free).came = x.came := rfl

/-- The rules for what every block does. -/
theorem Dev.came_laws :
    (∀ (d : Dev) {f : Fld}, f.outsideCore = true → ∀ v i j, (d.set f v i j).came = d.came) ∧
    (∀ (d : Dev) {f : Fld}, f.outsideCore = true → ∀ b i j, (d.put f b i j).came = d.came) ∧
    (∀ (d : Dev) {f : Fld}, f.outsideCore = true → ∀ v i j, (d.sat f v i j).came = d.came) ∧
    (∀ (d : Dev) {f : Fld}, f.outsideCore = true → ∀ z i j, (d.seti f z i j).came = d.came) ∧
    (∀ (d : Dev) {f : Fld}, f.outsideCore = true → ∀ n b i j, (d.setBit f n b i j).came = d.came) ∧
    (∀ (d : Dev) {f : Fld}, f.outsideCore = true → ∀ i v, (d.raise f i v).came = d.came) ∧
    (∀ (d : Dev) c x, (d.record c x).came = d.came) ∧ (∀ (d : Dev) q st, (d.complete q st).came = d.came) ∧
    (∀ (x : Dev) clk boot ring evt tlb key sky trk tim mtr aon rsv brk axs wb ctl yrd rad img pair out free,
      (Dev.mk clk boot x.regs ring evt tlb key sky trk tim mtr aon rsv brk axs wb ctl yrd rad img pair x.sys out free).came = x.came) ∧
    (∀ (p : Prop) [Decidable p] (a b : Dev), (if p then a else b).came = if p then a.came else b.came) :=
  ⟨fun d _ h v i j => came_of_core (d.core_set h v i j), fun d _ h b i j => came_of_core (d.core_put h b i j),
    fun d _ h v i j => came_of_core (d.core_sat h v i j), fun d _ h z i j => came_of_core (d.core_seti h z i j),
    fun d _ h n b i j => came_of_core (d.core_setBit h n b i j), fun d _ h i v => came_of_core (d.core_raise h i v),
    fun d c x => came_of_core (d.core_record c x), fun d q st => came_of_core (d.core_complete q st), came_with,
      fun p _ a b => apply_ite Dev.came p a b⟩

theorem Dev.came_foldl {α : Type} {f : Dev → α → Dev} (h : ∀ d x, (f d x).came = d.came) (l : List α) (d : Dev) :
    (l.foldl f d).came = d.came :=
  List.foldlRecOn (motive := fun e : Dev => e.came = d.came) l f rfl fun e he x _ => (h e x).trans he

/-- A host write elsewhere. -/
theorem Dev.came_writeAddr (d : Dev) {a : Nat} (h : R.SYS_BOOT_STATUS_REF_ABSENT.addr ≠ a) (v : Nat) : (d.writeAddr a v).came = d.came := by
  refine Dev.came_of_face ?_ (get_writeAddr_of_addr_ne d (mem_of_siteFlds (by decide)) (by decide) h v)
  rw [writeAddr_eq_regs]

/-! ### Metering -/

theorem Dev.came_acctMod (d : Dev) (a : Nat) (f : Acct → Acct) : (d.acctMod a f).came = d.came := rfl
theorem Dev.came_acctAdd (d : Dev) (a s n : Nat) : (d.acctAdd a s n).came = d.came := rfl
theorem Dev.came_gapBound (d : Dev) (srcs : Nat) : (d.gapBound srcs).came = d.came := came_of_block (.gapBound d srcs)
theorem Dev.came_ivBegin (d : Dev) (k srcs : Nat) : (d.ivBegin k srcs).came = d.came := came_of_block (.ivBegin d k srcs)
theorem Dev.came_mtrOff (d : Dev) : d.mtrOff.came = d.came := by
  unfold Dev.mtrOff
  dsimp only
  split <;> simp (disch := decide) only [Dev.came_laws, Dev.came_ivBegin]
theorem Dev.came_unread (d : Dev) : (d.unread).came = d.came := by
  simp (disch := decide) only [Dev.unread, Dev.came_laws]
theorem Dev.came_interval (d : Dev) (cause srcs t0 t1 : Nat) : (d.interval cause srcs t0 t1).came = d.came := by
  simp (disch := decide) only [Dev.interval, Dev.came_laws, Dev.came_unread]
theorem Dev.came_ivEnd (d : Dev) (k cause : Nat) : (d.ivEnd k cause).came = d.came := by
  unfold Dev.ivEnd
  split <;> simp (disch := decide) only [Dev.came_laws, Dev.came_interval]
theorem Dev.came_mtrCtrlWrite (d : Dev) (v : Nat) : (d.mtrCtrlWrite v).came = d.came := by
  simp (disch := decide) only [Dev.came_laws, Dev.mtrCtrlWrite, Dev.came_mtrOff, Dev.came_ivEnd, Dev.came_writeAddr, ite_self]
theorem Dev.came_acctRestore (d : Dev) : d.acctRestore.came = d.came := by
  refine (Dev.came_foldl (fun d s => ?_) _ _).trans ?_
  all_goals simp (disch := decide) only [Dev.came_laws]
theorem Dev.came_mtrRestart (d : Dev) (meter lots : Tab (List Byte)) (tCut : Nat) (vaon cut deep : Bool) :
    (d.mtrRestart meter lots tCut vaon cut deep).came = d.came := by
  unfold Dev.mtrRestart
  extract_lets d1 no meter' lots' tCut' ds d2 missing tail es d3 d4 whole d5 d6 offSrcs d7 mtr d8
  have h1 : d1.came = d.came := d.came_acctRestore
  clear_value d1
  have h2 : d2.came = d.came := by
    refine (Dev.came_foldl (fun d p => ?_) _ _).trans h1
    simp (disch := decide) only [Dev.came_laws]
  clear_value d2
  have h3 : d3.came = d.came := (Dev.came_foldl (fun (d : Dev) (e : Nat × Nat × Nat) => d.came_acctAdd e.1 e.2.1 e.2.2) _ _).trans h2
  clear_value d3
  have h4 : d4.came = d.came := (Dev.came_foldl (fun (d : Dev) (p : Nat × Nat) => d.came_acctAdd acctUnattr p.1 _) _ _).trans h3
  clear_value d4
  have h5 : d5.came = d.came := by
    refine (Dev.came_foldl (fun d l => ?_) _ _).trans h4
    simp (disch := decide) only [Dev.came_laws, Dev.came_acctMod, ite_self]
  clear_value d5
  have h6 : d6.came = d.came := by simp (disch := decide) only [Dev.came_laws, d6, Dev.came_gapBound, Dev.came_interval, h5, ite_self]
  clear_value d6
  have h7 : d7.came = d.came := (d6.came_gapBound _).trans h6
  clear_value d7
  have h8 : d8.came = d.came := by simp (disch := decide) only [Dev.came_laws, d8, h7]
  split
  · exact (Dev.came_unread _).trans h1
  · split <;> simp (disch := decide) only [Dev.came_laws, Dev.came_unread, h8]
theorem Dev.came_pulseDue (d : Dev) (o : Nat) (z : Int) : (d.pulseDue o z).came = d.came := by
  simp (disch := decide) only [Dev.pulseDue, Dev.came_laws, ite_self]
theorem Dev.came_accumulate (d : Dev) (s : Nat) (shares : List (Nat × Int)) (extrap : Bool) : (d.accumulate s shares extrap).came = d.came := by
  unfold Dev.accumulate
  extract_lets total mtr d1 mtr' d2 d3
  have h2 : d2.came = d.came := by simp (disch := decide) only [Dev.came_laws, d2, d1, ite_self]
  have h3 : d3.came = d2.came := by
    refine Dev.came_foldl (fun d p => ?_) _ _
    simp (disch := decide) only [Dev.came_acctMod]
  refine (Dev.came_foldl (fun d o => ?_) _ _).trans (h3.trans h2)
  simp (disch := decide) only [Dev.came_laws, Dev.came_pulseDue, ite_self]
theorem Dev.came_addAonCounts (d : Dev) : d.addAonCounts.came = d.came := by
  refine Dev.came_foldl (fun d n => ?_) _ _
  simp (disch := decide) only [Dev.came_laws, Dev.came_accumulate, ite_self]

/-! ### Axes and loops -/

theorem Dev.came_axSync (d : Dev) (a : Nat) : (d.axSync a).came = d.came := came_of_block (.axSync d a)
theorem Dev.came_axSet (d : Dev) (a : Nat) (x : Axis) : (d.axSet a x).came = d.came := came_of_block (.axSet d a x)
theorem Dev.came_moveOver (d : Dev) (desc : Option Desc) (wb : Option Nat) (st : Status) : (d.moveOver desc wb st).came = d.came :=
  came_of_block (.moveOver d desc wb st)
theorem Dev.came_confEval (d : Dev) (a cause : Nat) : (d.confEval a cause).came = d.came := came_of_block (.confEval d a cause)
theorem Dev.came_profApply (d : Dev) (a : Nat) : (d.profApply a).came = d.came := came_of_block (.profApply d a)
theorem Dev.came_ctlView (d : Dev) (l : Nat) : (d.ctlView l).came = d.came := by
  refine (Dev.came_foldl (fun d g => ?_) _ _).trans ?_
  all_goals simp (disch := decide) only [Dev.came_laws]
theorem Dev.came_modeSet (d : Dev) (l m cause : Nat) : (d.modeSet l m cause).came = d.came := by
  simp (disch := decide) only [Dev.modeSet, Dev.came_laws, Dev.came_ctlView, ite_self]
theorem Dev.came_blockTake (d : Dev) (l : Nat) : (d.blockTake l).came = d.came := by
  simp (disch := decide) only [Dev.blockTake, Dev.came_laws, ite_self]
theorem Dev.came_outShow (d : Dev) (ls : List Nat) (u : BF) : (d.outShow ls u).came = d.came := by
  refine Dev.came_foldl (fun d l => ?_) _ _
  simp (disch := decide) only [Dev.came_laws, Dev.loopSet]
theorem Dev.came_retarget (d : Dev) (a owner : Nat) (tgt : Int) (desc : Option Desc) : (d.retarget a owner tgt desc).came = d.came := by
  unfold Dev.retarget
  extract_lets d1 x d2 d3 d4
  have h2 : d2.came = d.came := (Dev.came_moveOver _ _ _ _).trans (d.came_axSync a)
  have h3 : d3.came = d.came := by
    unfold d3
    split <;> simp (disch := decide) only [Dev.came_laws, h2]
  have h4 : d4.came = d.came := by simp (disch := decide) only [Dev.came_laws, d4, h3]
  split
  · exact h4
  · simp (disch := decide) only [Dev.came_laws, Dev.came_axSet, h4, ite_self]
theorem Dev.came_startMove (d : Dev) (a owner : Nat) (tgt : Int) (desc : Option Desc) (wb : Option Nat) : (d.startMove a owner tgt desc wb).came = d.came := by
  simp (disch := decide) only [Dev.startMove, Dev.came_laws, Dev.came_profApply, Dev.came_axSet, Dev.came_confEval]
theorem Dev.came_loopMove (d : Dev) (a : Nat) (tgt : Int) : (d.loopMove a tgt).came = d.came := by
  simp (disch := decide) only [Dev.loopMove, Dev.came_laws, Dev.came_retarget, Dev.came_axSync, Dev.came_startMove, ite_self]
theorem Dev.came_applyOut (d : Dev) (l : Nat) (u : BF) : (d.applyOut l u).came = d.came := by
  unfold Dev.applyOut
  dsimp only
  split <;> simp (disch := decide) only [Dev.came_laws, Dev.came_loopMove, ite_self]
theorem Dev.came_manPut (d : Dev) (l : Nat) : (d.manPut l).came = d.came := by
  simp (disch := decide) only [Dev.manPut, Dev.came_laws, Dev.came_blockTake, Dev.came_outShow, Dev.came_applyOut, ite_self]
theorem Dev.came_manApply (d : Dev) (l : Nat) : (d.manApply l).came = d.came := by
  simp (disch := decide) only [Dev.manApply, Dev.came_laws, Dev.came_manPut, ite_self]
theorem ref_addr_ne_loop (l : Nat) : R.SYS_BOOT_STATUS_REF_ABSENT.addr ≠ R.CTL_LOOP_CFG_EN.addr l := by
  have hloop : R.CTL_LOOP_CFG_EN.base ≤ R.CTL_LOOP_CFG_EN.addr l := by
    unfold Fld.addr
    omega
  have hlow : R.SYS_BOOT_STATUS_REF_ABSENT.addr < R.CTL_LOOP_CFG_EN.base := by decide
  omega
theorem Dev.came_loopOn (d : Dev) (l v : Nat) : (d.loopOn l v).came = d.came := by
  unfold Dev.loopOn
  extract_lets d1
  have h1 : d1.came = d.came := d.came_writeAddr (ref_addr_ne_loop l) v
  simp (disch := decide) only [Dev.came_laws, Dev.came_ctlView, Dev.came_modeSet, Dev.came_manApply, h1, ite_self]
theorem Dev.came_loopOff (d : Dev) (l : Nat) : (d.loopOff l).came = d.came := by
  simp (disch := decide) only [Dev.came_laws, Dev.loopOff, Dev.loopSet, Dev.came_ctlView, Dev.came_modeSet]
theorem Dev.came_loopSwap (old d : Dev) (l : Nat) : (Dev.loopSwap old d l).came = d.came := by
  simp (disch := decide) only [Dev.came_laws, Dev.loopSwap, Dev.came_loopOn, Dev.came_loopOff, ite_self]
theorem Dev.came_axPins (d : Dev) (a : Nat) : (d.axPins a).came = d.came := by
  simp (disch := decide) only [Dev.axPins, Dev.came_laws]
theorem Dev.came_grpView (d : Dev) : d.grpView.came = d.came := by
  refine Dev.came_foldl (fun d g => ?_) _ _
  simp (disch := decide) only [Dev.came_laws]

/-! ### Parts -/

theorem Dev.came_upd_part (d : Dev) (p : Nat) (t : Tab Nat) : ({ d with regs := d.regs.upd (.part p) t } : Dev).came = d.came := by
  have hsel : (d.regs.upd (.part p) t).sel .vol = d.regs.sel .vol := RegFile.sel_upd_ne d.regs t (by simp)
  refine Dev.came_of_face rfl ?_
  simp only [Dev.get, show R.SYS_BOOT_STATUS_REF_ABSENT.store = .vol from rfl, hsel]
theorem Dev.came_storePut (d : Dev) (p : Nat) (x : PartStore) : (d.storePut p x).came = d.came := by
  unfold Dev.storePut
  extract_lets d1
  have h1 : d1.came = d.came := d.came_upd_part p x.regs
  clear_value d1
  split <;> simp (disch := decide) only [Dev.came_laws, h1]
theorem Dev.came_storeSwap (d : Dev) (p : Nat) (x : PartStore) : (d.storeSwap p x).came = d.came := by
  unfold Dev.storeSwap
  extract_lets w e
  have he : e.came = d.came := (Dev.came_foldl (fun e l => Dev.came_loopSwap d e l) _ _).trans (d.came_storePut 4 x)
  have hax : ((List.range 16).foldl (fun (e : Dev) (a : Nat) => (e.axPins a).confEval a 1) e).came = d.came := by
    refine (Dev.came_foldl (fun e a => ?_) _ _).trans he
    simp (disch := decide) only [Dev.came_axPins, Dev.came_confEval]
  simp (disch := decide) only [Dev.came_laws, Dev.came_storePut, Dev.came_mtrCtrlWrite, Dev.came_grpView, hax, ite_self]
theorem Dev.came_slotSet (d : Dev) (p s v : Nat) : (d.slotSet p s v).came = d.came := came_of_core (d.core_slotSet p s v)
theorem Dev.came_runSlot (d : Dev) (p s : Nat) : (d.runSlot p s).came = d.came := came_of_core (d.core_runSlot p s)
theorem Dev.came_fallBack (d : Dev) (p cause : Nat) : (d.fallBack p cause).came = d.came := by
  simp (disch := decide) only [Dev.came_laws, Dev.fallBack, Dev.fallEvent, Dev.came_slotSet, Dev.came_runSlot, Dev.came_storeSwap]
theorem Dev.came_slotFill (d : Dev) (p s st : Nat) (b : List Byte) : (d.slotFill p s st b).came = d.came := by
  simp (disch := decide) only [Dev.slotFill, Dev.came_laws, Dev.came_slotSet]
theorem Dev.came_bootPart (d : Dev) (b : BootIn) (p : Nat) : (d.bootPart b p).came = d.came := by
  unfold Dev.bootPart
  extract_lets ship d1 r d2 run other down
  have hship : ∀ (d : Dev) (s : Nat), (ship d s).came = d.came := by
    intro d s
    unfold ship
    split <;> simp (disch := decide) only [Dev.came_laws, Dev.came_slotFill, ite_self]
  have h2 : d2.came = d.came := by simp (disch := decide) only [Dev.came_laws, d2, d1, Dev.came_fallBack, hship, ite_self]
  have hdown : ∀ d : Dev, (down d).came = d.came := fun _ => rfl
  clear_value d2 run other down ship
  split
  · split
    · simp (disch := decide) only [Dev.came_laws, Dev.came_runSlot, Dev.came_slotSet, h2]
    · split
      · simp (disch := decide) only [Dev.came_laws, Dev.came_runSlot, Dev.came_slotSet, Dev.came_storePut, h2]
      · simp (disch := decide) only [Dev.came_laws, hdown, Dev.came_slotSet, h2]
  · simp (disch := decide) only [Dev.came_laws, Dev.came_runSlot, Dev.came_slotSet, h2]
  · exact (hdown d2).trans h2

/-! ### Keys, the recorder, the manifest -/

theorem Dev.came_fillSlot (d : Dev) (n : Nat) (a : KeyAttr) (k : List Byte) : (d.fillSlot n a k).came = d.came := by
  simp (disch := decide) only [Dev.fillSlot, Dev.came_laws]
theorem Dev.came_stdKeys (d : Dev) (root : List Byte) : (d.stdKeys root).came = d.came := by
  simp (disch := decide) only [Dev.stdKeys, Dev.came_laws, Dev.came_fillSlot]
theorem Dev.came_mirror (d : Dev) (n : Nat) (c : NvCopy) : (d.mirror n c).came = d.came := by
  simp (disch := decide) only [Dev.mirror, Dev.came_fillSlot]
theorem Dev.came_nvLoad (d : Dev) (n : Nat) (sl : NvSlot) : (d.nvLoad n sl).came = d.came := by
  simp (disch := decide) only [Dev.came_laws, Dev.nvLoad, Dev.came_mirror, ite_self]
theorem Dev.came_bootKeys (d : Dev) (afterSave : Bool) (line : Option (List Byte)) : (d.bootKeys afterSave line).came = d.came := by
  unfold Dev.bootKeys
  extract_lets key d1 d2 d3 o d4
  have h1 : d1.came = d.came := rfl
  clear_value d1
  have h2 : d2.came = d.came := by
    unfold d2
    split <;> simp (disch := decide) only [Dev.came_laws, Dev.came_stdKeys, h1, ite_self]
  have h3 : d3.came = d.came := (Dev.came_foldl (fun (d : Dev) (p : Nat × NvSlot) => d.came_nvLoad p.1 p.2) _ _).trans h2
  simp (disch := decide) only [Dev.came_laws, d4, h3, ite_self]
theorem Dev.came_fillBuckets (d : Dev) : d.fillBuckets.came = d.came := by
  refine Dev.came_foldl (fun d k => ?_) _ _
  simp (disch := decide) only [Dev.came_laws]
theorem Dev.came_fresh (d : Dev) : d.fresh.2.came = d.came := rfl
theorem Dev.came_evtRestart (d : Dev) : d.evtRestart.came = d.came := by
  unfold Dev.evtRestart
  extract_lets next base rs rs' take ok all evt d1 d2 x y
  have h1 : d1.came = d.came := by simp (disch := decide) only [Dev.came_laws, d1]
  have h2 : d2.came = d.came := (Dev.came_of_core ((Dev.core_evtStatus _).trans (Dev.core_set _ (by decide) _ _ _))).trans h1
  clear_value d2
  have hy : y.2.came = d2.came := (Dev.came_fresh _).trans d2.came_fresh
  simp (disch := decide) only [Dev.came_laws, hy, h2, ite_self]
theorem Dev.came_wbRestart (d : Dev) (line : Option (List Byte)) : (d.wbRestart line).came = d.came := by
  unfold Dev.wbRestart
  split
  · next l =>
    extract_lets d1
    have h1 : d1.came = d.came := by
      refine Dev.came_foldl (fun d n => ?_) _ _
      simp (disch := decide) only [Dev.came_laws]
    simp (disch := decide) only [Dev.came_laws, h1]
  · simp (disch := decide) only [Dev.came_laws]
theorem Dev.came_takeManifest (d : Dev) : d.takeManifest.came = d.came := by
  unfold Dev.takeManifest
  extract_lets take d1 deep meter lots d2 d3 d4 sys d5 d6 ok mask d7
  have h3 : d3.came = d.came := by simp (disch := decide) only [Dev.came_laws, d3, d2, d1, Dev.came_mtrRestart, Dev.came_bootKeys, ite_self]
  clear_value d3
  have h4 : d4.came = d.came := (Dev.came_ivEnd _ _ _).trans ((Dev.came_addAonCounts _).trans h3)
  clear_value d4
  have h5 : d5.came = d4.came := rfl
  clear_value d5
  have h7 : d7.came = d.came := by simp (disch := decide) only [Dev.came_laws, d7, d6, Dev.came_wbRestart, h5, h4]
  simp (disch := decide) only [Dev.came_laws, h7, ite_self]

/-! ### The blocks start -/

theorem Dev.came_baseMode (d : Dev) (v : Option Vec3) : (d.baseMode v).came = d.came := by
  unfold Dev.baseMode
  split
  · exact came_of_core ((Dev.core_baseState _ _ _).trans (d.core_basePos _))
  · exact came_of_core d.core_surveyStart
  · split <;> exact came_of_core ((Dev.core_baseState _ _ _).trans (d.core_basePos _))
theorem Dev.came_syncBound (d : Dev) : d.syncBound.came = d.came := by
  unfold Dev.syncBound
  extract_lets l d1 d2
  have h1 : d1.came = d.came := by
    refine Dev.came_foldl (fun d p => ?_) _ _
    split <;> rfl
  have h2 : d2.came = d1.came := by
    refine Dev.came_foldl (fun d p => ?_) _ _
    simp (disch := decide) only [Dev.came_laws, ite_self]
  refine (Dev.came_foldl (fun d i => ?_) _ _).trans (h2.trans h1)
  split <;> simp (disch := decide) only [Dev.came_laws]
theorem Dev.came_rsvBoot (d : Dev) : (d.rsvBoot).came = d.came := by
  simp (disch := decide) only [Dev.rsvBoot, Dev.came_laws, Dev.came_syncBound]
theorem Dev.came_ctlBoot (d : Dev) : d.ctlBoot.came = d.came := by
  refine (Dev.came_foldl (fun d l => ?_) _ _).trans ?_
  all_goals simp (disch := decide) only [Dev.came_laws, Dev.came_ctlView, Dev.came_manPut, ite_self]
theorem Dev.came_yrdBoot (d : Dev) : d.yrdBoot.came = d.came :=
  (Dev.came_foldl (fun d a => came_of_core (d.core_anchApply a)) _ _).trans rfl
theorem Dev.came_radBoot (d : Dev) : d.radBoot.came = d.came :=
  (came_of_unsrc (Dev.unsrc_keyCheck _)).trans ((came_of_core (Dev.core_radRole _)).trans rfl)
theorem Dev.came_startBlocks (d : Dev) : d.startBlocks.came = d.came := by
  unfold Dev.startBlocks
  extract_lets d1 d2 ctl d3 d4
  have h1 : d1.came = d.came := (came_of_core (Dev.core_timeStatus _)).trans (d.came_baseMode _)
  have h3 : d3.came = d.came := by simp (disch := decide) only [Dev.came_laws, d3, d2, Dev.came_yrdBoot, Dev.came_ctlBoot, Dev.came_rsvBoot, h1]
  have h4 : d4.came = d.came := by
    unfold d4
    split
    · exact (Dev.came_foldl (fun d c => came_of_core (d.core_chState c _)) _ _).trans h3
    · exact h3
  simp (disch := decide) only [Dev.came_laws, Dev.came_radBoot, h4]

end Sys2Proof.Machine
end

section
/-!
PROOFS. The boot from reset release to the end of listening (R47, R54).
-/

namespace Sys2Proof.Machine

/-! ### The fuses and the identity are read (R54, R75) -/

/-- The state of the device at reset release. -/
def Dev.released (d : Dev) (f : Fuse) (rtc : Nat) : Dev := { d with boot := f, clk := { yard := rtc }, sys := { d.sys with ran := true } }

/-- The life-cycle state and the identity. -/
def Dev.identRead (d : Dev) (f : Fuse) : Dev :=
  let d := ((d.set R.LC_STATE_STATE f.lc.code).put R.LC_STATE_WIPE_DONE f.wipeDone).set R.ID_DEV_DEV (d.get R.SYS_DEV_ID_NEXT_ID)
  ((d.set R.ID_SERIAL_LO_SERIAL f.serial).set R.ID_SERIAL_HI_SERIAL (f.serial / 2 ^ 32)).put R.KEY_STATUS_ROOT_SET f.root.isSome

/-- The security epochs. -/
def Dev.epochsRead (d : Dev) (f : Fuse) : Dev := (List.range 5).foldl (fun (d : Dev) (p : Nat) => d.set R.IMG_EPOCH_SEC_EPOCH (tabGet f.epochs p) p) d

/-- The drag inputs and PAIR_PRESENT_N. -/
def Dev.pinsRead (d : Dev) (b : BootIn) : Dev :=
  let d := (d.put R.BRK_IN_A b.dragA).put R.BRK_IN_B b.dragB
  let d := (d.setBit R.BRK_SRC_SRC 0 (b.dragA || b.dragB)).put R.PAIR_STATUS_PAIRED d.pair.present
  d.put R.BRK_STATUS_DRAG_OUT (!d.pair.present || b.dragA || b.dragB)

theorem Dev.readFuses_eq (d : Dev) (f : Fuse) (b : BootIn) : d.readFuses f b = (((d.released f b.rtc).identRead f).epochsRead f).pinsRead b := rfl

theorem Dev.epochsRead_eq_regs (d : Dev) (f : Fuse) : d.epochsRead f = { d with regs := (d.epochsRead f).regs } := by
  unfold Dev.epochsRead
  exact List.foldlRecOn (motive := fun x : Dev => x = { d with regs := x.regs }) _ _ rfl
    fun x hx p _ => congrArg (fun y : Dev => { y with regs := (x.set R.IMG_EPOCH_SEC_EPOCH (tabGet f.epochs p) p).regs }) hx

theorem KeepRegs.epochsRead (d : Dev) (f : Fuse) : KeepRegs [] [R.IMG_EPOCH_SEC_EPOCH] d (d.epochsRead f) := by
  unfold Dev.epochsRead
  exact List.foldlRecOn (motive := fun x : Dev => KeepRegs [] [R.IMG_EPOCH_SEC_EPOCH] d x) _ _ (.refl _ _ _)
    fun x hx p _ => hx.trans (.set_life _ _ _ _ (by decide) (.inl (by decide)))

/-- The fields the drag inputs and PAIR_PRESENT_N set. -/
def pinFlds : List Fld := [R.BRK_IN_A, R.BRK_IN_B, R.BRK_SRC_SRC, R.PAIR_STATUS_PAIRED, R.BRK_STATUS_DRAG_OUT]

theorem KeepRegs.pinsRead (d : Dev) (b : BootIn) : KeepRegs [] pinFlds d (d.pinsRead b) :=
  ((((KeepRegs.set_life d _ _ _ (by decide) (.inl (by decide))).trans (.set_life _ _ _ _ (by decide) (.inl (by decide)))).trans
    (.set_life _ _ _ _ (by decide) (.inl (by decide)))).trans (.set_life _ _ _ _ (by decide) (.inl (by decide)))).trans
    (.set_life _ _ _ _ (by decide) (.inl (by decide)))

/-- The fields of the identity. -/
def identFlds : List Fld :=
  [R.LC_STATE_STATE, R.LC_STATE_WIPE_DONE, R.ID_DEV_DEV, R.ID_SERIAL_LO_SERIAL, R.ID_SERIAL_HI_SERIAL, R.KEY_STATUS_ROOT_SET]

theorem KeepRegs.identRead (d : Dev) (f : Fuse) : KeepRegs [] identFlds d (d.identRead f) :=
  (((((KeepRegs.set_life d _ _ _ (by decide) (.inl (by decide))).trans (.set_life _ _ _ _ (by decide) (.inl (by decide)))).trans
    (.set_life _ _ _ _ (by decide) (.inl (by decide)))).trans (.set_life _ _ _ _ (by decide) (.inl (by decide)))).trans
    (.set_life _ _ _ _ (by decide) (.inl (by decide)))).trans (.set_life _ _ _ _ (by decide) (.inl (by decide)))

theorem Dev.identRead_shows (d : Dev) (f : Fuse) :
    (d.identRead f).get R.LC_STATE_STATE = f.lc.code ∧ (d.identRead f).get R.ID_DEV_DEV = d.get R.SYS_DEV_ID_NEXT_ID := by
  unfold Dev.identRead
  refine ⟨?_, ?_⟩
  · have hcode : f.lc.code % 2 ^ R.LC_STATE_STATE.width = f.lc.code := by cases f.lc <;> rfl
    rw [Dev.get_put_life _ (by decide) (by decide) (by decide), Dev.get_set_life _ (by decide) (by decide) (by decide),
      Dev.get_set_life _ (by decide) (by decide) (by decide), Dev.get_set_life _ (by decide) (by decide) (by decide),
      Dev.get_put_life _ (by decide) (by decide) (by decide), Dev.get_set_self _ _ _ _ _ (by decide), hcode]
  · rw [Dev.get_put_life _ (by decide) (by decide) (by decide), Dev.get_set_life _ (by decide) (by decide) (by decide),
      Dev.get_set_life _ (by decide) (by decide) (by decide), Dev.get_set_self _ _ _ _ _ (by decide)]
    exact Nat.mod_eq_of_lt (d.get_lt R.SYS_DEV_ID_NEXT_ID 0 0)

theorem Dev.get_pinsRead_dragOut (d : Dev) (b : BootIn) :
    (d.pinsRead b).get R.BRK_STATUS_DRAG_OUT = b2n (!d.pair.present || b.dragA || b.dragB) := by
  refine (Dev.get_put_self _ _ (by decide)).trans ?_
  change b2n (!d.pair.present || b.dragA || b.dragB) % 2 ^ R.BRK_STATUS_DRAG_OUT.width = _
  cases !d.pair.present || b.dragA || b.dragB <;> rfl

theorem Dev.readFuses_shows (d : Dev) (f : Fuse) (b : BootIn) :
    (d.readFuses f b).sys.ran = true ∧ (d.readFuses f b).boot = f ∧ (d.readFuses f b).get R.LC_STATE_STATE = f.lc.code ∧
      (d.readFuses f b).get R.ID_DEV_DEV = d.get R.SYS_DEV_ID_NEXT_ID ∧ (d.readFuses f b).get R.SYS_LEVEL_LEVEL = d.get R.SYS_LEVEL_LEVEL ∧
      (d.readFuses f b).get R.BRK_STATUS_DRAG_OUT = b2n (!d.pair.present || b.dragA || b.dragB) := by
  rw [Dev.readFuses_eq]
  obtain ⟨hlc, hid⟩ := (d.released f b.rtc).identRead_shows f
  have hkept := KeepRegs.identRead (d.released f b.rtc) f
  have hsys : ((d.released f b.rtc).identRead f).sys.ran = true := rfl
  have hboot : ((d.released f b.rtc).identRead f).boot = f := rfl
  have hpair : ((d.released f b.rtc).identRead f).pair = d.pair := rfl
  have hlevel := hkept R.SYS_LEVEL_LEVEL (mem_of_lifeFlds (by decide)) (by decide) (by decide) 0 0
  generalize (d.released f b.rtc).identRead f = x at hlc hid hsys hboot hpair hlevel
  have hepochs := x.epochsRead_eq_regs f
  have hregs := KeepRegs.epochsRead x f
  generalize x.epochsRead f = y at hepochs hregs
  have hpins := KeepRegs.pinsRead y b
  have hget : ∀ g ∈ lifeFlds, g ∉ pinFlds → g ≠ R.IMG_EPOCH_SEC_EPOCH → (y.pinsRead b).get g = x.get g := fun g hg hp he =>
    (hpins g (mem_of_lifeFlds hg) (by simp) hp 0 0).trans (hregs g (mem_of_lifeFlds hg) (by simp) (by simpa using he) 0 0)
  refine ⟨?_, ?_, (hget _ (by decide) (by decide) (by decide)).trans hlc, (hget _ (by decide) (by decide) (by decide)).trans hid,
    (hget _ (by decide) (by decide) (by decide)).trans hlevel, ?_⟩
  · exact (congrArg (fun z : Dev => z.sys.ran) hepochs).trans hsys
  · exact (congrArg Dev.boot hepochs).trans hboot
  · rw [Dev.get_pinsRead_dragOut, congrArg Dev.pair hepochs]
    change b2n (!x.pair.present || b.dragA || b.dragB) = _
    rw [hpair]

/-! ### Without the reference (R47) -/

/-- The boot waits for its reference. -/
def Dev.refAbsent (d : Dev) : Dev := (d.set R.SYS_BOOT_STATUS_REF_ABSENT 1).domains

theorem Dev.bootFrom_of_absent (d : Dev) {b : BootIn} (h : b.ref = false) : d.bootFrom b = d.refAbsent := by
  unfold Dev.bootFrom
  rw [h]
  rfl

theorem Dev.refAbsent_rest (d : Dev) : d.refAbsent.sys = d.sys ∧ d.refAbsent.boot = d.boot ∧ d.refAbsent.clk = d.clk :=
  ⟨(Dev.sys_domains _).trans (d.set_sys _ _ _ _), (Dev.boot_domains _).trans (d.set_boot _ _ _ _), (Dev.clk_domains _).trans (d.set_clk _ _ _ _)⟩

theorem KeepRegs.refAbsent (d : Dev) : KeepRegs [] [R.SYS_BOOT_STATUS_REF_ABSENT, R.PWR_DOMAIN_RUNNING] d d.refAbsent :=
  (KeepRegs.set_life d _ _ _ (by decide) (.inl (by decide))).trans (.domains _ (by decide))

theorem Dev.get_refAbsent_self (d : Dev) : d.refAbsent.get R.SYS_BOOT_STATUS_REF_ABSENT = 1 :=
  (Dev.get_domains (f := R.SYS_BOOT_STATUS_REF_ABSENT) _ (by decide) (by decide) 0 0).trans (Dev.get_set_self _ _ _ _ _ (by decide))

/-- The fuses stand where the boot has read them as they are. -/
theorem bootFuse_self {f : Fuse} {d : Dev} (h : d.boot = f) : bootFuse f d = f := by
  cases f
  simp [bootFuse, h]

/-! ### With the reference (R54) -/

theorem Dev.came_domains (d : Dev) : d.domains.came = d.came := came_of_core d.core_domains

theorem Dev.came_boot (d : Dev) (f : Fuse) : ({ d with boot := f } : Dev).came = d.came := rfl

theorem Dev.came_passToMono (d : Dev) (t : Nat) : (d.passToMono t).came = d.came := rfl

theorem Dev.came_wipeMram (d : Dev) : d.wipeMram.came = d.came :=
  came_of_face (congrArg Sys.face d.sys_wipeMram) (d.get_wipeMram (mem_of_lifeFlds (by decide)) (by decide) 0 0)

/-- The boot with a reference has found it, and clears REF_ABSENT. -/
theorem Dev.came_bootRun (d : Dev) (b : BootIn) : (d.bootRun b).came = (d.sys.ran, true, 0) := by
  unfold Dev.bootRun
  extract_lets lc done wipe d1 sys d2 d3 d4 x fuse d6 d7 t
  have h2 : d2.came = (d.sys.ran, true, 0) := by
    have hget : d1.get R.SYS_BOOT_STATUS_REF_ABSENT = 0 := Dev.get_set_self d _ 0 0 0 (by decide)
    exact congrArg (fun v => (d.sys.ran, true, v)) hget
  clear_value d2
  have h4 : d4.came = (d.sys.ran, true, 0) := by
    refine (Dev.came_evtRestart _).trans (Eq.trans ?_ h2)
    unfold d3
    split
    · exact d2.came_wipeMram
    · rfl
  clear_value d4
  have h6 : d6.came = (d.sys.ran, true, 0) := by
    unfold d6
    split
    · exact h4
    · have hx : x.came = d4.came := Dev.came_of_core (d4.core_set (by decide) _ _ _)
      clear_value x
      exact (Dev.came_of_core (Dev.core_pushRec _ _ _ _)).trans ((x.came_boot _).trans (hx.trans h4))
  clear_value d6
  have h7 : d7.came = (d.sys.ran, true, 0) := (Dev.came_foldl (fun (d : Dev) (p : Nat) => d.came_bootPart b p) _ _).trans h6
  clear_value d7
  split
  · exact d6.came_domains.trans h6
  · split
    · refine (Dev.came_domains _).trans ((Dev.came_of_core (Dev.core_set _ (by decide) _ _ _)).trans ?_)
      exact (d7.came_bootKeys _ _).trans h7
    · refine (Dev.came_domains _).trans ((Dev.came_of_core (Dev.core_patternTest _ _)).trans ((Dev.came_startBlocks _).trans ?_))
      exact (Dev.came_passToMono _ _).trans ((Dev.came_takeManifest _).trans ((Dev.came_fillBuckets _).trans h7))

theorem Dev.bootFrom_of_ref (d : Dev) {b : BootIn} (h : b.ref = true) :
    (d.bootFrom b).sys.ran = d.sys.ran ∧ (d.bootFrom b).sys.refOk = true ∧ (d.bootFrom b).get R.SYS_BOOT_STATUS_REF_ABSENT = 0 := by
  have hboot : d.bootFrom b = d.bootRun b := if_pos h
  have hcame := d.came_bootRun b
  rw [hboot]
  exact ⟨congrArg (·.1) hcame, congrArg (·.2.1) hcame, congrArg (·.2.2) hcame⟩

/-! ### The end of listening (R54) -/

theorem mono_of_core {a b : Dev} (h : a.core = b.core) : a.clk.mono = b.clk.mono := (congrArg (fun c => c.clk.mono) h :)

/-- The device serves. -/
def Dev.served (d : Dev) : Dev := { d with sys := { d.sys with up := true }, pair := { d.pair with started := some d.clk.mono } }

theorem exec_bootListenEnd {s : State} {t : Nat} (listens : s.dev.rad.listenTo = some t) (up : s.dev.sys.up = false) (imaged : s.dev.imaged = true)
    (run : s.dev.get R.PWR_STATUS_STATE = 0) :
    exec .bootListenEnd s = .next { s with dev := ((s.dev.passToMono t).served.timeSource).radRole } := by
  simp only [exec, execBootListenEnd, onDev, listens]
  rw [up, imaged, run]
  rfl

theorem exec_resetRelease {s : State} (supplies : s.dev.sys.supplies = true) (vin : s.dev.sys.vin = true) (held : s.dev.sys.ran = false) (b : BootIn) :
    exec (.resetRelease b) s =
      .next { s with dev := (s.dev.readFuses s.fuse b).bootFrom b, fuse := bootFuse s.fuse ((s.dev.readFuses s.fuse b).bootFrom b) } := by
  simp only [exec, execResetRelease]
  rw [supplies, vin, held]
  rfl

theorem exec_refAbsentRecheck {s : State} (absent : s.dev.on R.SYS_BOOT_STATUS_REF_ABSENT = true) (ref : s.dev.sys.refOk = false)
    (powered : s.dev.powered = true) (b : BootIn) :
    exec (.refAbsentRecheck b) s = .next { s with dev := (s.dev.pass second).bootFrom b, fuse := bootFuse s.fuse ((s.dev.pass second).bootFrom b) } := by
  simp only [exec, execRefAbsentRecheck]
  rw [absent, ref, powered]
  rfl

/-- Settles O7, command by command: reset release, the later check of the reference, the end of listening. -/
theorem bootSequence : Obligations.BootSequence := by
  unfold Obligations.BootSequence
  refine ⟨fun b s supplies vin held none => ?_, fun b s supplies vin held some => ?_, fun b s absent ref powered none => ?_,
    fun b s absent ref powered some => ?_, fun s t listens up imaged run => ?_⟩
  · obtain ⟨hran, hboot, hlc, hid, hlevel, hdrag⟩ := s.dev.readFuses_shows s.fuse b
    refine ⟨_, exec_resetRelease supplies vin held b, ?_⟩
    dsimp only
    rw [Dev.bootFrom_of_absent _ none]
    generalize s.dev.readFuses s.fuse b = x at hran hboot hlc hid hlevel hdrag
    obtain ⟨hsys, hfuse, -⟩ := x.refAbsent_rest
    have hget := KeepRegs.refAbsent x
    have hkept : ∀ f ∈ lifeFlds, f ∉ [R.SYS_BOOT_STATUS_REF_ABSENT, R.PWR_DOMAIN_RUNNING] → x.refAbsent.get f = x.get f :=
      fun f hf hn => hget f (mem_of_lifeFlds hf) (by simp) hn 0 0
    refine ⟨(congrArg Sys.ran hsys).trans hran, hfuse.trans hboot, bootFuse_self (hfuse.trans hboot), ?_, ?_, x.get_refAbsent_self, ?_, ?_⟩
    · exact (hkept _ (by decide) (by decide)).trans hlc
    · exact (hkept _ (by decide) (by decide)).trans hid
    · exact (hkept _ (by decide) (by decide)).trans hlevel
    · exact (hkept _ (by decide) (by decide)).trans hdrag
  · obtain ⟨hran, -⟩ := s.dev.readFuses_shows s.fuse b
    obtain ⟨hkept, href, -⟩ := (s.dev.readFuses s.fuse b).bootFrom_of_ref some
    exact ⟨_, exec_resetRelease supplies vin held b, hkept.trans hran, href⟩
  · refine ⟨_, exec_refAbsentRecheck absent ref powered b, ?_⟩
    dsimp only
    rw [Dev.bootFrom_of_absent _ none]
    have hwithout : (s.dev.pass second).without [.clk] = s.dev.without [.clk] := by
      cases s.dev
      rfl
    have hregs : KeepRegs [] [R.SYS_BOOT_STATUS_REF_ABSENT, R.PWR_DOMAIN_RUNNING] s.dev (s.dev.pass second) := .of_regs rfl
    generalize s.dev.pass second = x at hwithout hregs
    obtain ⟨-, -, hclk⟩ := x.refAbsent_rest
    have hparts : x.refAbsent.without [.clk] = x.without [.clk] := (Dev.without_domains _ _).trans (Dev.without_set _ _ _ _ _ _)
    exact ⟨hclk, ⟨rfl, rfl, hparts.trans hwithout, hregs.trans (.refAbsent x)⟩, x.get_refAbsent_self⟩
  · obtain ⟨-, href, hclear⟩ := (s.dev.pass second).bootFrom_of_ref some
    exact ⟨_, exec_refAbsentRecheck absent ref powered b, href, hclear⟩
  · refine ⟨_, exec_bootListenEnd listens up imaged run, ?_⟩
    dsimp only
    have hmono := s.dev.mono_passToMono t
    generalize s.dev.passToMono t = x at hmono
    have hcore : (x.served.timeSource.radRole).core = x.served.core := (Dev.core_radRole _).trans (Dev.core_timeSource _)
    have hup : x.served.sys.up = true := rfl
    have hclk : x.served.clk = x.clk := rfl
    refine ⟨(congrArg (fun c => c.sys.up) hcore :).trans hup, ?_⟩
    have hend : (x.served.timeSource.radRole).clk.mono = x.clk.mono := (mono_of_core hcore).trans (congrArg Clk.mono hclk)
    rw [hend, hmono]
    exact Nat.le_max_right _ _

end Sys2Proof.Machine
end


section
/-!
PROOFS. The sky front (R77-R114), what its proofs share: frames put together step by step, the fields they tell apart, bits of small fields.
-/

namespace Sys2Proof.Machine

/-! ### The fields that these proofs read or write -/

/-- Fields that the proofs of the sky front and of acquisition tell apart. -/
def skyFlds : List Fld :=
  [R.SKY_CTRL_BAND_EN, R.SKY_CTRL_ACQ_EN, R.SKY_CTRL_AUTO_SKY, R.SKY_STATUS_PLL_LOCK, R.SKY_STATUS_RF_LOCK, R.SKY_STATUS_BAND_FAULT,
    R.SKY_STATUS_BIAS_FAULT, R.SKY_STATUS_JAM_MAX, R.SKY_BIAS_CFG_ILIM, R.SKY_BIAS_CFG_OPEN_MA, R.SKY_BIAS_STAT_CURRENT, R.SKY_BIAS_STAT_STATE,
    R.SKY_AGC_CFG_TARGET, R.SKY_AGC_CFG_MODE, R.SKY_AGC_STAT_GAIN, R.SKY_AGC_STAT_BASE, R.SKY_AGC_STAT_BASE_VALID, R.SKY_AGC_STAT_SETTLED,
    R.SKY_AGC_STAT_BLANK_RATE, R.SKY_JAM_JAM_IND, R.SKY_JAM_STATE, R.SKY_JAM_PEAK_BIN, R.SKY_JAM_PEAK_DB, R.SKY_NOTCH_CFG_MODE,
    R.SKY_NOTCH_CFG_ACTIVE, R.SKY_NOTCH_FREQ_FREQ, R.ACQ_STATUS_ENGINE_OK, R.ACQ_STATUS_QUEUE, R.ACQ_STATUS_SKY_DONE, R.ACQ_STATUS_DROPPED,
    R.TRK_CH_STAT_STATE, R.TRK_CH_STAT_TINT, R.TRK_CH_CMD_FAIL, R.TRK_CH_SEL_SAT, R.TRK_CH_SEL_SIG, R.TRK_STATUS_TRACKING, R.TRK_STATUS_OOS,
    R.RING_DEV_IRQ_BLOCK, R.RING_GLB_STATUS_PAUSED, R.RING_GLB_STATUS_LINK_UP, R.RING_CTRL_EN, R.RING_STATUS_RESERVED, R.RING_STATUS_STATE,
    R.RING_LINK_DROP_CPL, R.RING_JOURNAL_JOURNAL, R.PWR_STATUS_STATE, R.SYS_BOOT_STATUS_NO_SAFE]

theorem skyFlds_elem : skyFlds.all (fun g => regMap.elem g) = true := by decide +kernel

theorem mem_of_skyFlds {g : Fld} (h : g ∈ skyFlds) : g ∈ regMap := mem_regMap (List.all_eq_true.1 skyFlds_elem g h)

theorem Dev.get_set_sky (d : Dev) {f g : Fld} (hf : f ∈ skyFlds) (hg : g ∈ skyFlds) (n : f ≠ g) (v i j i' j' : Nat) :
    (d.set g v i' j').get f i j = d.get f i j := d.get_set_fld (mem_of_skyFlds hf) (mem_of_skyFlds hg) n v i j i' j'

/-! ### Parts left alone -/

theorem Dev.clear_comm (d : Dev) (p q : Part) : (d.clear p).clear q = (d.clear q).clear p := by
  cases p <;> cases q <;> rfl

theorem Dev.foldl_clear_clear {p : Part} {ps : List Part} (h : p ∈ ps) (d : Dev) : ps.foldl Dev.clear (d.clear p) = ps.foldl Dev.clear d := by
  induction ps generalizing d with
  | nil => cases h
  | cons q ps ih =>
    rw [List.foldl_cons, List.foldl_cons]
    rcases List.mem_cons.1 h with rfl | h
    · exact congrArg (ps.foldl Dev.clear) (by cases p <;> rfl)
    · rw [d.clear_comm, ih h]

/-- Clearing some of the parts first makes no difference. -/
theorem Dev.foldl_clear_without {qs ps : List Part} (h : ∀ p ∈ qs, p ∈ ps) (d : Dev) : ps.foldl Dev.clear (d.without qs) = d.without ps := by
  unfold Dev.without
  refine List.foldlRecOn (motive := fun x : Dev => ps.foldl Dev.clear x = ps.foldl Dev.clear { d with regs := {} }) qs _ rfl fun x hx p hp => ?_
  exact (foldl_clear_clear (h p hp) x).trans hx

theorem Dev.without_mono {qs ps : List Part} (h : ∀ p ∈ qs, p ∈ ps) {a b : Dev} (e : a.without qs = b.without qs) : a.without ps = b.without ps := by
  rw [← foldl_clear_without h a, e, foldl_clear_without h]

/-! ### Frames of a device -/

/-- What a step of an effect leaves alone: every part but `ps`, every field but `fs` and those of the windows `ws`. -/
structure DevFrame (ps : List Part) (ws : List Nat) (fs : List Fld) (a b : Dev) : Prop where
  parts : b.without ps = a.without ps
  regs : KeepRegs ws fs a b

/-- The second frame allows all that the first one does. -/
abbrev FrameLe (ps : List Part) (ws : List Nat) (fs : List Fld) (ps' : List Part) (ws' : List Nat) (fs' : List Fld) : Prop :=
  (∀ p ∈ ps, p ∈ ps') ∧ (∀ w ∈ ws, w ∈ ws') ∧ ∀ g ∈ fs, g ∈ fs' ∨ g.block ∈ ws'

/-- A field of `skyFlds` outside a frame. -/
abbrev Outside (ws : List Nat) (fs : List Fld) (f : Fld) : Prop := f ∈ skyFlds ∧ f.block ∉ ws ∧ f ∉ fs

theorem KeepRegs.read {ws : List Nat} {fs : List Fld} {a b : Dev} (h : KeepRegs ws fs a b) {f : Fld} (o : Outside ws fs f) (i j : Nat) :
    b.get f i j = a.get f i j := by
  obtain ⟨hf, hw, hn⟩ := o
  exact h f (mem_of_skyFlds hf) hw hn i j

namespace DevFrame

theorem refl (ps : List Part) (ws : List Nat) (fs : List Fld) (d : Dev) : DevFrame ps ws fs d d := ⟨rfl, .refl _ _ _⟩

theorem mono {ps ps' : List Part} {ws ws' : List Nat} {fs fs' : List Fld} {a b : Dev} (h : DevFrame ps ws fs a b)
    (le : FrameLe ps ws fs ps' ws' fs') : DevFrame ps' ws' fs' a b := by
  obtain ⟨hp, hw, hf⟩ := le
  refine ⟨Dev.without_mono hp h.parts, fun f m w n => h.regs f m (fun c => w (hw _ c)) fun c => ?_⟩
  exact (hf f c).elim n w

theorem trans {ps : List Part} {ws : List Nat} {fs : List Fld} {a b c : Dev} (h : DevFrame ps ws fs a b) (k : DevFrame ps ws fs b c) :
    DevFrame ps ws fs a c := ⟨k.parts.trans h.parts, h.regs.trans k.regs⟩

/-- One more step, of a frame within the first one's. -/
theorem next {ps ps' : List Part} {ws ws' : List Nat} {fs fs' : List Fld} {a b c : Dev} (h : DevFrame ps ws fs a b) (k : DevFrame ps' ws' fs' b c)
    (le : FrameLe ps' ws' fs' ps ws fs) : DevFrame ps ws fs a c := h.trans (k.mono le)

theorem ite {ps : List Part} {ws : List Nat} {fs : List Fld} {a b c : Dev} {p : Prop} [Decidable p] (h : DevFrame ps ws fs a b)
    (k : DevFrame ps ws fs a c) : DevFrame ps ws fs a (if p then b else c) := by
  split
  · exact h
  · exact k

theorem foldl {α : Type} {ps : List Part} {ws : List Nat} {fs : List Fld} {f : Dev → α → Dev} (h : ∀ d x, DevFrame ps ws fs d (f d x))
    (l : List α) (d : Dev) : DevFrame ps ws fs d (l.foldl f d) :=
  List.foldlRecOn (motive := DevFrame ps ws fs d) l f (refl _ _ _ d) fun e he x _ => he.trans (h e x)

/-- A read of a field outside the frame. -/
theorem read {ps : List Part} {ws : List Nat} {fs : List Fld} {a b : Dev} (h : DevFrame ps ws fs a b) {f : Fld} (o : Outside ws fs f)
    (i j : Nat) : b.get f i j = a.get f i j := h.regs.read o i j

/-- The frame of a command whose effect is on the device. -/
theorem frame {ps : List Part} {ws : List Nat} {fs : List Fld} {s : State} {d : Dev} (h : DevFrame ps ws fs s.dev d) :
    Frame ps ws fs s { s with dev := d } := ⟨rfl, rfl, h.parts, h.regs⟩

/-! ### The steps -/

theorem set (d : Dev) {g : Fld} (hg : g ∈ skyFlds) (v i j : Nat) : DevFrame [] [] [g] d (d.set g v i j) :=
  ⟨rfl, .set d v i j (mem_of_skyFlds hg) (.inl (List.mem_singleton.2 rfl))⟩

/-- An update of sky front and acquisition state. -/
theorem sky (d : Dev) (x : Sky) : DevFrame [.sky] [] [] d { d with sky := x } := ⟨rfl, .of_regs rfl⟩

theorem passToMono (d : Dev) (t : Nat) : DevFrame [.clk] [] [] d (d.passToMono t) := by
  refine ⟨?_, .of_regs rfl⟩
  cases d
  rfl

theorem passTo (d : Dev) (t : Nat) : DevFrame [.clk] [] [] d (d.passTo t) := by
  refine ⟨?_, .of_regs rfl⟩
  cases d
  rfl

theorem record (d : Dev) (c : Nat) (x : List Byte) : DevFrame reports reportWs [] d (d.record c x) :=
  ⟨d.without_record c x, .record (by decide) (by decide) d c x⟩

theorem devIrq (d : Dev) {b : Nat} (hb : b ≠ 0) : DevFrame [.out] [] [R.RING_DEV_IRQ_BLOCK] d (d.devIrq b) := by
  refine ⟨?_, fun f hf _ n i j => d.get_devIrq hb hf (by simpa using n) i j⟩
  unfold Dev.devIrq
  dsimp only
  split <;> split <;> rfl

theorem raise (d : Dev) {f : Fld} (hf : f ∈ skyFlds) (hb : f.block ≠ 0) (i v : Nat) :
    DevFrame [.out] [] [f, R.RING_DEV_IRQ_BLOCK] d (d.raise f i v) := by
  have hset : DevFrame [.out] [] [f, R.RING_DEV_IRQ_BLOCK] d (d.set f (Nat.lor (d.get f i) v) i) :=
    (DevFrame.set d hf _ i 0).mono (by simp [FrameLe])
  exact hset.next (.devIrq _ hb) (by simp [FrameLe])

end DevFrame

/-! ### Bits of the small fields -/

theorem bitOf_putBit_small : ∀ v < 8, ∀ i < 3, ∀ j < 3, ∀ b : Bool, bitOf (putBit v i b % 8) j = if j = i then b else bitOf v j := by decide

/-- A bit of a field of three bits after one of them is written. -/
theorem Dev.bit_setBit (d : Dev) {f : Fld} (hw : f.width = 3) (a : f.has 0 0 = true) {i j : Nat} (hi : i < 3) (hj : j < 3) (b : Bool) :
    (d.setBit f i b).bit f j = if j = i then b else d.bit f j := by
  have hlt : d.get f < 8 := by
    have h := d.get_lt f 0 0
    rwa [hw] at h
  unfold Dev.bit Dev.setBit
  rw [Dev.get_set_self _ _ _ _ _ a, hw]
  exact bitOf_putBit_small _ hlt _ hi _ hj b

end Sys2Proof.Machine
end

section
/-!
PROOFS. Antenna bias (R80): a change of the bias state, and the five commands.
-/

namespace Sys2Proof.Machine

/-! ### A change of the bias state -/

theorem Dev.biasState_self {d : Dev} {st : Nat} (h : d.get R.SKY_BIAS_STAT_STATE = st) : d.biasState st = d := if_pos h

theorem Dev.biasState_ne {d : Dev} {st : Nat} (h : d.get R.SKY_BIAS_STAT_STATE ≠ st) :
    d.biasState st = (d.set R.SKY_BIAS_STAT_STATE st).raise R.SKY_STATUS_BIAS_FAULT := if_neg h

theorem DevFrame.biasState (d : Dev) (st : Nat) :
    DevFrame [.out] [0x0B] [R.SKY_BIAS_STAT_STATE, R.SKY_STATUS_BIAS_FAULT] d (d.biasState st) := by
  have hset := (DevFrame.refl [.out] [0x0B] [R.SKY_BIAS_STAT_STATE, R.SKY_STATUS_BIAS_FAULT] d).next
    (.set d (g := R.SKY_BIAS_STAT_STATE) (by decide) st 0 0) (by decide)
  exact .ite (.refl _ _ _ d) (hset.next (.raise _ (by decide) (by decide) _ _) (by decide))

theorem Dev.get_biasState (d : Dev) {st : Nat} (hst : st < 4) : (d.biasState st).get R.SKY_BIAS_STAT_STATE = st := by
  by_cases h : d.get R.SKY_BIAS_STAT_STATE = st
  · rw [Dev.biasState_self h, h]
  · rw [Dev.biasState_ne h, (DevFrame.raise _ (by decide) (by decide) _ _).read (by decide), Dev.get_set_self _ _ _ _ _ (by decide)]
    exact Nat.mod_eq_of_lt hst

theorem Dev.biasFault_biasState {d : Dev} {st : Nat} (h : d.get R.SKY_BIAS_STAT_STATE ≠ st) :
    (d.biasState st).get R.SKY_STATUS_BIAS_FAULT = 1 := by
  rw [Dev.biasState_ne h]
  exact Dev.get_raise_self _ (mem_of_skyFlds (by decide)) (by decide) (by decide) rfl (by decide)

/-- A change of the bias state that the device itself finds, with its record. -/
def Dev.biasFound (d : Dev) (st : Nat) : Dev := (d.biasState st).record 0x0303 (u8 st ++ u8 (d.get R.SKY_BIAS_STAT_CURRENT))

theorem DevFrame.biasFound (d : Dev) (st : Nat) :
    DevFrame reports reportWs [R.SKY_BIAS_STAT_STATE, R.SKY_STATUS_BIAS_FAULT] d (d.biasFound st) :=
  ((DevFrame.biasState d st).mono (by decide)).next (.record _ _ _) (by decide)

/-- It shows the new state and sets BIAS_FAULT. -/
theorem Dev.biasFound_shows {d : Dev} {st : Nat} (hst : st < 4) (h : d.get R.SKY_BIAS_STAT_STATE ≠ st) :
    (d.biasFound st).get R.SKY_BIAS_STAT_STATE = st ∧ (d.biasFound st).get R.SKY_STATUS_BIAS_FAULT = 1 :=
  ⟨((DevFrame.record _ _ _).read (by decide) 0 0).trans (d.get_biasState hst),
    ((DevFrame.record _ _ _).read (by decide) 0 0).trans (Dev.biasFault_biasState h)⟩

theorem Dev.clk_biasFound (d : Dev) (st : Nat) : (d.biasFound st).clk = d.clk := by
  unfold Dev.biasFound Dev.biasState
  split <;> simp

/-! ### The commands -/

/-- A sample while the bias is on: CURRENT, and the two counts. -/
def Dev.biasCounted (d : Dev) (ma : Nat) : Dev :=
  { d.sat R.SKY_BIAS_STAT_CURRENT ma with sky := { d.sky with
    biasLim := if (d.get R.SKY_BIAS_CFG_ILIM + 1) * 10 ≤ ma then d.sky.biasLim + 1 else 0
    biasLow := if ma < d.get R.SKY_BIAS_CFG_OPEN_MA then d.sky.biasLow + 1 else 0 } }

theorem DevFrame.biasCounted (d : Dev) (ma : Nat) : DevFrame [.sky] [] [R.SKY_BIAS_STAT_CURRENT] d (d.biasCounted ma) :=
  ((DevFrame.set d (g := R.SKY_BIAS_STAT_CURRENT) (by decide) _ 0 0).mono (by decide)).next (.sky _ _) (by decide)

theorem Dev.biasSample_on {d : Dev} (ma : Nat) (on : d.get R.SKY_BIAS_CFG_VSEL ≠ 0) (st : d.get R.SKY_BIAS_STAT_STATE = 1) :
    d.biasSample ma = d.biasCounted ma := by
  have hst : (d.biasCounted ma).get R.SKY_BIAS_STAT_STATE = 1 := ((DevFrame.biasCounted d ma).read (by decide) 0 0).trans st
  have hset := DevFrame.set d (g := R.SKY_BIAS_STAT_CURRENT) (by decide) (min ma (2 ^ R.SKY_BIAS_STAT_CURRENT.width - 1)) 0 0
  have hlim : (d.sat R.SKY_BIAS_STAT_CURRENT ma).get R.SKY_BIAS_CFG_ILIM = d.get R.SKY_BIAS_CFG_ILIM := hset.read (by decide) 0 0
  have hopen : (d.sat R.SKY_BIAS_STAT_CURRENT ma).get R.SKY_BIAS_CFG_OPEN_MA = d.get R.SKY_BIAS_CFG_OPEN_MA := hset.read (by decide) 0 0
  have hcount : ({ d.sat R.SKY_BIAS_STAT_CURRENT ma with sky := { (d.sat R.SKY_BIAS_STAT_CURRENT ma).sky with
      biasLim := if ((d.sat R.SKY_BIAS_STAT_CURRENT ma).get R.SKY_BIAS_CFG_ILIM + 1) * 10 ≤ ma then (d.sat R.SKY_BIAS_STAT_CURRENT ma).sky.biasLim + 1 else 0,
      biasLow := if ma < (d.sat R.SKY_BIAS_STAT_CURRENT ma).get R.SKY_BIAS_CFG_OPEN_MA then (d.sat R.SKY_BIAS_STAT_CURRENT ma).sky.biasLow + 1 else 0 } } : Dev) =
      d.biasCounted ma := by
    rw [hlim, hopen]
    rfl
  unfold Dev.biasSample
  rw [if_neg on, if_neg (by rw [st]; decide)]
  simp only [hcount, hst]
  simp

theorem Dev.get_biasSample_off {d : Dev} (ma : Nat) (off : d.get R.SKY_BIAS_CFG_VSEL = 0) :
    (d.biasSample ma).get R.SKY_BIAS_STAT_STATE = 0 ∧ (d.biasSample ma).get R.SKY_BIAS_STAT_CURRENT = 0 := by
  unfold Dev.biasSample
  rw [if_pos off]
  refine ⟨(d.set R.SKY_BIAS_STAT_CURRENT 0).get_biasState (by decide : 0 < 4), ?_⟩
  refine ((DevFrame.biasState (d.set R.SKY_BIAS_STAT_CURRENT 0) 0).read (f := R.SKY_BIAS_STAT_CURRENT) (by decide) 0 0).trans ?_
  exact Dev.get_set_self _ _ _ _ _ (by decide)

/-- The bias switched off at the limit. -/
def Dev.biasOff (d : Dev) : Dev := { d.biasFound 3 with sky := { (d.biasFound 3).sky with biasLim := 0, biasLow := 0, shortAt := (d.biasFound 3).clk.mono } }

theorem exec_biasSample {s : State} (run : s.dev.runs .sky = true) (ma : Nat) :
    exec (.biasSample ma) s = .next { s with dev := s.dev.biasSample ma } :=
  onRun_next (f := fun d => d.biasSample ma) run

theorem exec_biasShort {s : State} (run : s.dev.runs .sky = true) (lim : 10 ≤ s.dev.sky.biasLim) :
    exec .biasShort s = .next { s with dev := s.dev.biasOff } := by
  simp only [exec, execBiasShort, onRun, onDev, run, lim, if_true, Dev.biasOff, Dev.biasFound]

theorem exec_biasRetry {s : State} (run : s.dev.runs .sky = true) (short : s.dev.get R.SKY_BIAS_STAT_STATE = 3) :
    exec .biasRetry s = .next { s with dev := (s.dev.passToMono (s.dev.sky.shortAt + second)).biasFound 1 } := by
  simp only [exec, execBiasRetry, onRun, onDev, run, short, if_true, Dev.biasFound]

theorem exec_biasOpen {s : State} (run : s.dev.runs .sky = true) (low : 1000 ≤ s.dev.sky.biasLow) (st : s.dev.get R.SKY_BIAS_STAT_STATE ≠ 2) :
    exec .biasOpen s = .next { s with dev := s.dev.biasFound 2 } := by
  simp only [exec, execBiasOpen, onRun, onDev, run, low, bne_iff_ne.2 st, decide_true, Bool.and_self, if_true, Dev.biasFound]

/-- Settles O16, command by command: a sample, the switch-off, the retry, the open antenna. -/
theorem antennaBias : Obligations.AntennaBias := by
  unfold Obligations.AntennaBias
  refine ⟨fun ma s run on st => ?_, fun ma s run off => ?_, fun s run lim st => ?_, fun s run short => ?_, fun s run low st => ?_⟩
  · refine ⟨_, exec_biasSample run ma, ?_⟩
    rw [Dev.biasSample_on ma on st]
    have hframe := DevFrame.biasCounted s.dev ma
    refine ⟨?_, (hframe.read (by decide) 0 0).trans st, rfl, rfl, hframe.frame⟩
    refine (Dev.get_set_self s.dev R.SKY_BIAS_STAT_CURRENT (min ma 255) 0 0 (by decide)).trans (Nat.mod_eq_of_lt ?_)
    exact Nat.lt_of_le_of_lt (Nat.min_le_right _ _) (by decide)
  · exact ⟨_, exec_biasSample run ma, Dev.get_biasSample_off ma off⟩
  · obtain ⟨hstate, hfault⟩ := Dev.biasFound_shows (d := s.dev) (by decide) st
    have hoff : DevFrame ([.sky] ++ reports) reportWs [R.SKY_BIAS_STAT_STATE, R.SKY_STATUS_BIAS_FAULT] s.dev s.dev.biasOff :=
      ((DevFrame.biasFound s.dev 3).mono (by decide)).next (.sky _ _) (by decide)
    exact ⟨_, exec_biasShort run lim, hstate, hfault, congrArg Clk.mono (s.dev.clk_biasFound 3), hoff.frame⟩
  · have hpass := DevFrame.passToMono s.dev (s.dev.sky.shortAt + second)
    have hmono := s.dev.mono_passToMono (s.dev.sky.shortAt + second)
    refine ⟨_, exec_biasRetry run short, ?_⟩
    dsimp only
    generalize s.dev.passToMono (s.dev.sky.shortAt + second) = x at hpass hmono
    have hst : x.get R.SKY_BIAS_STAT_STATE ≠ 1 := by rw [hpass.read (by decide), short]; decide
    obtain ⟨hstate, hfault⟩ := Dev.biasFound_shows (d := x) (by decide) hst
    refine ⟨hstate, hfault, ?_, ((hpass.mono (by decide)).next (.biasFound x 1) (by decide)).frame⟩
    rw [x.clk_biasFound, hmono]
    exact Nat.le_max_right _ _
  · obtain ⟨hstate, hfault⟩ := Dev.biasFound_shows (d := s.dev) (by decide) st
    exact ⟨_, exec_biasOpen run low st, hstate, hfault, (DevFrame.biasFound s.dev 2).frame⟩

end Sys2Proof.Machine
end

section
/-!
PROOFS. Steps of the acquisition (R94-R105, R130, R132): completions and what the queue, the channels and the bands touch.
-/

namespace Sys2Proof.Machine

/-! ### Completions (R414, R424-R432) -/

/-- The fields that a completion may write. -/
def complFlds : List Fld :=
  [R.RING_STATUS_RESERVED, R.RING_STATUS_STATE, R.RING_LINK_DROP_CPL, R.RING_JOURNAL_JOURNAL] ++ itemFlds

/-- A completion: ring state, the output and its fields alone. -/
structure ComplStep (a b : Dev) : Prop where
  only : b = { a with ring := b.ring, regs := b.regs, out := b.out }
  regs : KeepRegs [] complFlds a b

namespace ComplStep

theorem refl (d : Dev) : ComplStep d d := ⟨rfl, .refl _ _ _⟩

theorem trans {a b c : Dev} (h : ComplStep a b) (k : ComplStep b c) : ComplStep a c :=
  ⟨k.only.trans (congrArg (fun x : Dev => { x with ring := c.ring, regs := c.regs, out := c.out }) h.only), h.regs.trans k.regs⟩

theorem upd {a b c : Dev} (h : ComplStep a b) (o : c = { b with ring := c.ring, out := c.out }) : ComplStep a c := by
  have hregs : c.regs = b.regs := (congrArg Dev.regs o :)
  exact h.trans ⟨by rw [hregs]; exact o, .of_regs hregs⟩

theorem then_set {a b : Dev} (h : ComplStep a b) {g : Fld} {v i j : Nat} (m : g ∈ complFlds) (hg : g ∈ skyFlds) : ComplStep a (b.set g v i j) :=
  h.trans ⟨rfl, .set b v i j (mem_of_skyFlds hg) (.inl m)⟩

theorem of_ring {a b : Dev} (h : RingStep a b) : ComplStep a b :=
  ⟨h.only, h.regs.of_fields fun _ hg => .inl (List.mem_append_right _ hg)⟩

theorem unlive (d : Dev) (q : Desc) : ComplStep d (d.unlive q) := by
  unfold Dev.unlive
  extract_lets ring d1 d2
  have h1 : ComplStep d d1 := (refl d).upd rfl
  have h2 : ComplStep d d2 := h1.then_set (by decide) (by decide)
  split
  · exact h2.then_set (by decide) (by decide)
  · exact h2

theorem writeCompl (d : Dev) (q : Desc) (src st t : Nat) : ComplStep d (d.writeCompl q src st t) := by
  have hlive := unlive d q
  unfold Dev.writeCompl
  dsimp only
  generalize d.unlive q = x at hlive ⊢
  split
  · exact hlive.then_set (by decide) (by decide)
  · have hset : ComplStep d (x.set R.RING_JOURNAL_JOURNAL ((x.get R.RING_JOURNAL_JOURNAL + 1) % 2 ^ 32)) := hlive.then_set (by decide) (by decide)
    generalize x.set R.RING_JOURNAL_JOURNAL ((x.get R.RING_JOURNAL_JOURNAL + 1) % 2 ^ 32) = y at hset ⊢
    refine (hset.upd ?_).trans (.of_ring (.entriesWritten _ _ _ _))
    rfl

/-- A completion written now, later or not at all. -/
theorem complete (d : Dev) (q : Desc) (st : Status) : ComplStep d (d.complete q st) := by
  unfold Dev.complete
  split
  · exact .refl d
  · split
    · exact (refl d).upd rfl
    · exact .writeCompl d _ _ _ _

theorem frame {a b : Dev} (h : ComplStep a b) : DevFrame reports [0x0B] [] a b where
  parts := (congrArg (fun x : Dev => x.without reports) h.only).trans rfl
  regs := h.regs.of_fields fun g hg => .inr (by revert g; decide)

end ComplStep

/-! ### Descriptors that await their completion (R414, R415) -/

theorem Dev.live_unlive (d : Dev) (q : Desc) : (d.unlive q).ring.live = d.ring.live.filter fun x => x.no != q.no := by
  unfold Dev.unlive
  dsimp only
  split <;> rfl

/-- Interrupts and entries written change neither the descriptors that wait nor Bus Master Enable. -/
theorem Dev.ring_ringIrq (d : Dev) (r : Nat) : (d.ringIrq r).ring.live = d.ring.live := by
  unfold Dev.ringIrq
  dsimp only
  split <;> split <;> rfl

theorem Dev.live_entriesWritten (d : Dev) (r n : Nat) (now : Bool) : (d.entriesWritten r n now).ring.live = d.ring.live :=
  (Dev.ring_ringIrq _ _).trans rfl

theorem Dev.live_writeCompl (d : Dev) (q : Desc) (src st t : Nat) :
    (d.writeCompl q src st t).ring.live = d.ring.live.filter fun x => x.no != q.no := by
  have hlive := d.live_unlive q
  unfold Dev.writeCompl
  dsimp only
  split
  · exact hlive
  · exact (Dev.live_entriesWritten _ _ _ _).trans hlive

theorem Dev.isLive_complete_of_not {d : Dev} {p : Desc} (h : d.isLive p = false) (q : Desc) (st : Status) : (d.complete q st).isLive p = false := by
  unfold Dev.complete
  split
  · exact h
  · split
    · exact h
    · unfold Dev.isLive at h ⊢
      rw [Dev.live_writeCompl]
      simp only [List.any_eq_false] at h ⊢
      exact fun x hx => h x (List.mem_filter.1 hx).1

/-- While the rings are not held, a descriptor that completes awaits nothing more. -/
theorem Dev.isLive_complete_self {d : Dev} (run : d.ringsHeld = false) (q : Desc) (st : Status) : (d.complete q st).isLive q = false := by
  unfold Dev.complete
  split
  · next h => simpa using h
  · simp only [run, Bool.false_eq_true, if_false, Dev.isLive, Dev.live_writeCompl, List.any_eq_false]
    intro x hx
    simpa using (List.mem_filter.1 hx).2

/-- The fields that tell whether the rings are held. -/
def heldFlds : List Fld := [R.RING_GLB_STATUS_PAUSED, R.PWR_STATUS_STATE, R.SYS_BOOT_STATUS_NO_SAFE]

theorem Dev.ringsHeld_congr {a b : Dev} (sys : b.sys = a.sys) (boot : b.boot = a.boot) (regs : ∀ f ∈ heldFlds, b.get f = a.get f) :
    b.ringsHeld = a.ringsHeld := by
  simp only [Dev.ringsHeld, Dev.runs, Dev.timed, Dev.imaged, Dev.powered, Dev.on, sys, boot, regs _ (show R.RING_GLB_STATUS_PAUSED ∈ heldFlds by decide),
    regs _ (show R.PWR_STATUS_STATE ∈ heldFlds by decide), regs _ (show R.SYS_BOOT_STATUS_NO_SAFE ∈ heldFlds by decide)]

/-- Neither the link nor what holds the rings changes. -/
structure SameLink (a b : Dev) : Prop where
  sys : b.sys = a.sys
  boot : b.boot = a.boot
  master : b.ring.busMaster = a.ring.busMaster
  regs : ∀ f ∈ R.RING_GLB_STATUS_LINK_UP :: R.RING_CTRL_EN :: heldFlds, ∀ i, b.get f i = a.get f i

theorem SameLink.ringsHeld {a b : Dev} (h : SameLink a b) : b.ringsHeld = a.ringsHeld :=
  Dev.ringsHeld_congr h.sys h.boot fun f hf => h.regs f (List.mem_cons_of_mem _ (List.mem_cons_of_mem _ hf)) 0

theorem SameLink.linkUp {a b : Dev} (h : SameLink a b) : b.linkUp = a.linkUp := by
  simp only [Dev.linkUp, Dev.on, h.sys, h.master, h.regs R.RING_GLB_STATUS_LINK_UP (by decide) 0]

theorem SameLink.ringOn {a b : Dev} (h : SameLink a b) (r : Nat) : b.on R.RING_CTRL_EN r = a.on R.RING_CTRL_EN r := by
  simp only [Dev.on, h.regs R.RING_CTRL_EN (by decide) r]

theorem Awaits.of_same {q : Desc} {a b : Dev} (h : Awaits q a) (k : SameLink a b) (live : b.ring.live = a.ring.live) : Awaits q b where
  bytes := h.bytes
  live := by rw [Dev.isLive, live]; exact h.live
  run := k.ringsHeld.trans h.run
  link := k.linkUp.trans h.link
  ring := (k.ringOn _).trans h.ring

theorem SameLink.unlive (d : Dev) (q : Desc) : SameLink d (d.unlive q) where
  sys := Dev.rest_sys (d.rest_unlive q)
  boot := Dev.rest_boot (d.rest_unlive q)
  master := by
    unfold Dev.unlive
    dsimp only
    split <;> rfl
  regs f hf i := (ComplStep.unlive d q).regs.read (by revert f; decide) i 0

/-! ### The entry of a completion -/

theorem complBytes_tag {q : Desc} (h : q.bytes.length = 64) (t journal seq src st hold phase : Nat) :
    (complBytes q t journal seq src st hold phase).take 8 = (q.bytes.drop 8).take 8 := by
  have hlen : ((q.bytes.drop 8).take 8).length = 8 := by simp [h]
  simp only [complBytes, List.append_assoc]
  exact List.take_left' hlen

theorem complBytes_status {q : Desc} (h : q.bytes.length = 64) (t journal seq src st hold phase : Nat) :
    (complBytes q t journal seq src st hold phase).getD 28 0 = BitVec.ofNat 8 st := by
  have hlen : ((q.bytes.drop 8).take 8 ++ u64 t ++ u32 journal ++ u32 seq ++ u16 src ++ u16 q.idx).length = 28 := by
    simp [h, u64, u32, u16, length_toLe]
  rw [complBytes, List.append_assoc, List.append_assoc, List.append_assoc, List.getD_eq_getElem?_getD, List.getElem?_append_right (by omega), hlen]
  rfl

theorem Dev.out_ringIrq (d : Dev) (r : Nat) : ∃ l, (d.ringIrq r).out = d.out ++ l := by
  unfold Dev.ringIrq
  extract_lets q c t due cond
  by_cases h : (cond && !q.waitDb) = true
  · rw [if_pos h]
    exact ⟨[.msix r], rfl⟩
  · rw [if_neg h]
    exact ⟨[], (List.append_nil _).symm⟩

theorem Dev.out_entriesWritten (d : Dev) (r n : Nat) (now : Bool) : ∃ l, (d.entriesWritten r n now).out = d.out ++ l :=
  Dev.out_ringIrq _ r

theorem Dev.out_unlive (d : Dev) (q : Desc) : (d.unlive q).out = d.out := by
  unfold Dev.unlive
  dsimp only
  split <;> rfl

/-- With the link up a completion is put out as its entry (R414). -/
theorem Dev.writeCompl_eq {q : Desc} {d : Dev} (link : d.linkUp = true) (ring : d.on R.RING_CTRL_EN q.compl = true) (src st t : Nat) :
    ∃ (x : Dev) (p j n hold phase : Nat), x.out = d.out ∧
      d.writeCompl q src st t = (x.emit (.entry q.compl p (complBytes q t j n src st hold phase))).entriesWritten q.compl 1 (bitOf q.flags 0) := by
  have hsame := SameLink.unlive d q
  have hgo : ¬ (!(d.unlive q).linkUp || !(d.unlive q).on R.RING_CTRL_EN q.compl) = true := by
    simp [hsame.linkUp, hsame.ringOn, link, ring]
  unfold Dev.writeCompl
  dsimp only
  rw [if_neg hgo]
  refine ⟨_, _, _, _, _, _, ?_, rfl⟩
  exact d.out_unlive q

theorem Dev.out_complete {q : Desc} {d : Dev} (h : Awaits q d) (st : Status) :
    ∃ o l, (d.complete q st).out = d.out ++ o :: l ∧ complOut q st o = true := by
  obtain ⟨x, p, j, n, hold, phase, hx, he⟩ := Dev.writeCompl_eq h.link h.ring (descSrc q) st.code d.now
  have hc : d.complete q st = d.writeCompl q (descSrc q) st.code d.now := by simp [Dev.complete, h.live, h.run]
  obtain ⟨l, hl⟩ := (x.emit (.entry q.compl p (complBytes q d.now j n (descSrc q) st.code hold phase))).out_entriesWritten q.compl 1 (bitOf q.flags 0)
  refine ⟨.entry q.compl p (complBytes q d.now j n (descSrc q) st.code hold phase), l, ?_, ?_⟩
  · rw [hc, he, hl, ← hx]
    exact List.append_assoc _ _ _
  · simp only [complOut, complBytes_tag h.bytes, complBytes_status h.bytes, beq_self_eq_true, Bool.and_self]

/-- It completes its descriptor, whatever the effect has put out before it. -/
theorem Completes.of_complete {q : Desc} {d : Dev} (h : Awaits q d) (st : Status) {s : State} {l : List Out} (out : d.out = s.dev.out ++ l) :
    Completes q st s { s with dev := d.complete q st } := by
  obtain ⟨o, l', ho, hc⟩ := Dev.out_complete h st
  refine ⟨Dev.isLive_complete_self h.run q st, ?_⟩
  simp [ho, out, List.append_assoc, hc]

theorem Ready.awaits {b op : Nat} {q : Desc} {d : Dev} (h : Ready b op q d) : Awaits q d := ⟨h.bytes, h.live, h.run, h.link, h.ring⟩

/-- The block takes the descriptor that is ready for it (R413). -/
theorem Dev.take_ready {b op : Nat} {q : Desc} {d : Dev} (h : Ready b op q d) : d.take b op = some (q, d.taken q) := by
  have hsup : d.runs .sup = true := by
    have hrun := h.run
    simp only [Dev.ringsHeld, Bool.or_eq_false_iff, Bool.not_eq_false'] at hrun
    exact hrun.2
  simp only [Dev.take, hsup, Bool.not_true, Bool.false_eq_true, if_false, h.front, Dev.taken]

theorem Dev.awaits_taken {q : Desc} {d : Dev} (h : Awaits q d) : Awaits q (d.taken q) := h.of_same ⟨rfl, rfl, rfl, fun _ _ _ => rfl⟩ rfl

end Sys2Proof.Machine
end

section
/-!
PROOFS. Steps of the acquisition, continued: the queue (R95), channels (R120, R121, R130, R132), RF lock gained and lost (R82, R104, R105).
-/

namespace Sys2Proof.Machine

/-! ### What searches and channels touch -/

/-- The fields beside those of TRK that searches and channels may write. -/
def searchFlds : List Fld := R.ACQ_STATUS_QUEUE :: complFlds

/-- A step of the acquisition: the queue, the candidates, tracking, and what a completion touches. -/
structure SearchStep (a b : Dev) : Prop where
  only : b = { a with
    ring := b.ring, trk := b.trk, regs := b.regs, out := b.out,
    sky := { a.sky with queue := b.sky.queue, nextNo := b.sky.nextNo, cands := b.sky.cands, requeue := b.sky.requeue } }
  regs : KeepRegs [0x04] searchFlds a b

namespace SearchStep

theorem refl (d : Dev) : SearchStep d d := ⟨rfl, .refl _ _ _⟩

theorem trans {a b c : Dev} (h : SearchStep a b) (k : SearchStep b c) : SearchStep a c := by
  refine ⟨k.only.trans ?_, h.regs.trans k.regs⟩
  exact (congrArg (fun x : Dev => { x with
    ring := c.ring, trk := c.trk, regs := c.regs, out := c.out,
    sky := { x.sky with queue := c.sky.queue, nextNo := c.sky.nextNo, cands := c.sky.cands, requeue := c.sky.requeue } }) h.only).trans rfl

/-- An update outside the registers. -/
theorem upd {a b c : Dev} (h : SearchStep a b) (o : c = { b with
    ring := c.ring, trk := c.trk, out := c.out,
    sky := { b.sky with queue := c.sky.queue, nextNo := c.sky.nextNo, cands := c.sky.cands, requeue := c.sky.requeue } }) : SearchStep a c := by
  have hregs : c.regs = b.regs := (congrArg Dev.regs o :)
  exact h.trans ⟨by rw [hregs]; exact o, .of_regs hregs⟩

theorem then_set {a b : Dev} (h : SearchStep a b) {g : Fld} {v i j : Nat} (m : g ∈ skyFlds ∧ (g ∈ searchFlds ∨ g.block ∈ [0x04])) :
    SearchStep a (b.set g v i j) := h.trans ⟨rfl, .set b v i j (mem_of_skyFlds m.1) m.2⟩

theorem of_compl {a b : Dev} (h : ComplStep a b) : SearchStep a b := by
  have hsky : b.sky = a.sky := by rw [h.only]
  have htrk : b.trk = a.trk := by rw [h.only]
  refine ⟨?_, h.regs.of_fields fun _ hg => .inl (List.mem_cons_of_mem _ hg)⟩
  rw [hsky, htrk]
  exact h.only

theorem ite {a b c : Dev} {p : Prop} [Decidable p] (h : SearchStep a b) (k : SearchStep a c) : SearchStep a (if p then b else c) := by
  split
  · exact h
  · exact k

theorem foldl {α : Type} {f : Dev → α → Dev} (h : ∀ d x, SearchStep d (f d x)) (l : List α) (d : Dev) : SearchStep d (l.foldl f d) :=
  List.foldlRecOn (motive := SearchStep d) l f (refl d) fun e he x _ => he.trans (h e x)

theorem clk {a b : Dev} (h : SearchStep a b) : b.clk = a.clk := by rw [h.only]

theorem ringsHeld {a b : Dev} (h : SearchStep a b) : b.ringsHeld = a.ringsHeld :=
  Dev.ringsHeld_congr (by rw [h.only]) (by rw [h.only]) fun f hf => h.regs.read (by revert f; decide) 0 0

/-! ### Channels (R120, R121, R130) -/

/-- FAIL of a channel. -/
theorem raiseFail (d : Dev) (ch : Nat) : SearchStep d (d.raise R.TRK_CH_CMD_FAIL ch) := by
  have hset : SearchStep d (d.set R.TRK_CH_CMD_FAIL (Nat.lor (d.get R.TRK_CH_CMD_FAIL ch) 1) ch) := (refl d).then_set (by decide)
  exact hset.trans (.of_compl (.of_ring (.devIrq _ (by decide))))

theorem modChan (d : Dev) (ch : Nat) (f : Chan → Chan) : SearchStep d (d.modChan ch f) := (refl d).upd rfl

theorem chState (d : Dev) (ch st : Nat) : SearchStep d (d.chState ch st) := by
  unfold Dev.chState
  extract_lets old d1 d2
  have h1 : SearchStep d d1 := ((refl d).then_set (by decide)).trans (.modChan _ _ _)
  have h2 : SearchStep d d2 := .ite (h1.then_set (by decide)) h1
  exact h2.then_set (by decide)

theorem bandLost (d : Dev) (b : Nat) : SearchStep d (d.bandLost b) := by
  unfold Dev.bandLost
  refine .foldl (fun d ch => ?_) _ _
  extract_lets st
  exact .ite (.ite (.chState d _ _) (.ite ((SearchStep.chState d ch stLost).trans (.modChan _ _ _)) (.refl d))) (.refl d)

theorem waitChan (d : Dev) (c : Cand) : SearchStep d (d.waitChan c) := (refl d).upd rfl

theorem startPullin (d : Dev) (ch sat sig : Nat) (handover : Bool) (elev code dopp : Int) :
    SearchStep d (d.startPullin ch sat sig handover elev code dopp) := by
  unfold Dev.startPullin
  extract_lets d1 c trk d2
  have h1 : SearchStep d d1 := ((refl d).then_set (by decide)).then_set (by decide)
  have h2 : SearchStep d d2 := h1.upd rfl
  exact (h2.then_set (by decide)).trans (.chState _ _ _)

theorem startHandover (d : Dev) (ch sat sig : Nat) (elev : Int) : SearchStep d (d.startHandover ch sat sig elev) := by
  unfold Dev.startHandover
  split
  · exact .startPullin d _ _ _ _ _ _ _
  · exact .refl d

theorem startOn (d : Dev) (ch : Nat) (c : Cand) : SearchStep d (d.startOn ch c) := by
  unfold Dev.startOn
  extract_lets d1
  have h1 : SearchStep d d1 := .ite (.waitChan d _) (.refl d)
  exact .ite (h1.trans (.startHandover _ _ _ _ _)) (h1.trans (.startPullin _ _ _ _ _ _ _ _))

theorem startHandovers (d : Dev) (sat sig : Nat) (elev : Int) : SearchStep d (d.startHandovers sat sig elev) := by
  unfold Dev.startHandovers
  refine .ite (.refl d) (.foldl (fun d g => .ite (.refl d) ?_) _ _)
  extract_lets c
  split
  · exact .startOn d _ _
  · exact .ite (.waitChan d _) (.refl d)

/-! ### The queue (R95, R103-R105) -/

theorem acqCount (d : Dev) : SearchStep d d.acqCount := (refl d).then_set (by decide)

theorem enqueue (d : Dev) (x : Search) : SearchStep d (d.enqueue x) := by
  unfold Dev.enqueue
  refine .ite (.refl d) (.trans ?_ (.acqCount _))
  exact (refl d).upd rfl

end SearchStep

/-- What becomes of a search that is dropped: a host's completes, and a channel that waited for it goes back to IDLE. -/
def Dev.searchDropped (st : Status) (d : Dev) (x : Search) : Dev :=
  let d := match x.desc with | some q => d.complete q st | none => d
  match x.chan with
  | some ch => if d.get R.TRK_CH_STAT_STATE ch == stWait then (d.chState ch stIdle).raise R.TRK_CH_CMD_FAIL ch else d
  | none => d

/-- The queue without the searches that are dropped. -/
def Dev.queueLess (d : Dev) (p : Search → Bool) : Dev := { d with sky := { d.sky with queue := d.sky.queue.filter fun x => !p x } }

theorem Dev.dropSearches_eq (d : Dev) (p : Search → Bool) (st : Status) :
    d.dropSearches p st = (d.sky.queue.filter p).foldl (Dev.searchDropped st) (d.queueLess p).acqCount := rfl

theorem SearchStep.searchDropped (st : Status) (d : Dev) (x : Search) : SearchStep d (Dev.searchDropped st d x) := by
  unfold Dev.searchDropped
  extract_lets e
  have he : SearchStep d e := by
    unfold e
    split
    · exact .of_compl (.complete d _ st)
    · exact .refl d
  split
  · exact .ite ((he.trans (.chState _ _ _)).trans (.raiseFail _ _)) he
  · exact he

theorem SearchStep.dropSearches (d : Dev) (p : Search → Bool) (st : Status) : SearchStep d (d.dropSearches p st) := by
  have hless : SearchStep d (d.queueLess p) := (refl d).upd rfl
  rw [Dev.dropSearches_eq]
  exact (hless.trans (.acqCount _)).trans (.foldl (.searchDropped st) _ _)

theorem Dev.sky_chState (d : Dev) (ch st : Nat) : (d.chState ch st).sky = d.sky := by
  unfold Dev.chState
  dsimp only
  split <;> rfl

theorem Dev.sky_searchDropped (st : Status) (d : Dev) (x : Search) : (Dev.searchDropped st d x).sky = d.sky := by
  unfold Dev.searchDropped
  extract_lets e
  have he : e.sky = d.sky := by
    unfold e
    split
    · exact Dev.rest_sky (d.rest_complete _ st)
    · rfl
  split
  · split
    · rw [Dev.raise_sky, Dev.sky_chState, he]
    · exact he
  · exact he

/-- Of sky front and acquisition state, searches dropped change the queue alone. -/
theorem Dev.sky_dropSearches (d : Dev) (p : Search → Bool) (st : Status) :
    (d.dropSearches p st).sky = { d.sky with queue := d.sky.queue.filter fun x => !p x } := by
  rw [Dev.dropSearches_eq]
  exact List.foldlRecOn (motive := fun e : Dev => e.sky = (d.queueLess p).sky) _ _ rfl fun e he x _ => (Dev.sky_searchDropped st e x).trans he

theorem Dev.ring_chState (d : Dev) (ch st : Nat) : (d.chState ch st).ring = d.ring := by
  unfold Dev.chState
  dsimp only
  split <;> rfl

/-- A search that is dropped touches the rings as far as its descriptor completes. -/
theorem Dev.ring_searchDropped (st : Status) (d : Dev) (x : Search) :
    (Dev.searchDropped st d x).ring = (x.desc.elim d fun q => d.complete q st).ring := by
  have he : (match x.desc with | some q => d.complete q st | none => d) = x.desc.elim d fun q => d.complete q st := by cases x.desc <;> rfl
  unfold Dev.searchDropped
  rw [he]
  dsimp only
  split
  · split
    · rw [Dev.raise_eq_regs_out]
      exact Dev.ring_chState _ _ _
    · rfl
  · rfl

theorem Dev.isLive_searchDropped_of_not {d : Dev} {q : Desc} (h : d.isLive q = false) (st : Status) (x : Search) :
    (Dev.searchDropped st d x).isLive q = false := by
  rw [Dev.isLive, Dev.ring_searchDropped]
  cases x.desc with
  | none => exact h
  | some p => exact Dev.isLive_complete_of_not h p st

theorem Dev.isLive_searchDropped_self {d : Dev} {q : Desc} (run : d.ringsHeld = false) {x : Search} (hx : x.desc = some q) (st : Status) :
    (Dev.searchDropped st d x).isLive q = false := by
  rw [Dev.isLive, Dev.ring_searchDropped, hx]
  exact Dev.isLive_complete_self run q st

/-- While the rings are not held, no descriptor of a dropped search awaits its completion any more. -/
theorem Dev.isLive_dropSearches {d : Dev} (run : d.ringsHeld = false) {p : Search → Bool} (st : Status) {x : Search} {q : Desc}
    (hx : x ∈ d.sky.queue.filter p) (hq : x.desc = some q) : (d.dropSearches p st).isLive q = false := by
  obtain ⟨l, r, hl⟩ := List.append_of_mem hx
  rw [Dev.dropSearches_eq, hl, List.foldl_append, List.foldl_cons]
  have hless : SearchStep d (d.queueLess p) := (SearchStep.refl d).upd rfl
  have hrun : SearchStep d (l.foldl (Dev.searchDropped st) (d.queueLess p).acqCount) := (hless.trans (.acqCount _)).trans (.foldl (.searchDropped st) _ _)
  refine List.foldlRecOn (motive := fun e : Dev => e.isLive q = false) r _ ?_ fun e he y _ => Dev.isLive_searchDropped_of_not he st y
  exact Dev.isLive_searchDropped_self (hrun.ringsHeld.trans run) hq st

/-! ### RF lock (R82, R104, R105, R132) -/

/-- Without RF lock: that bit, and then a step of the acquisition. -/
theorem SearchStep.rfLost (d : Dev) (b : Nat) : SearchStep (d.setBit R.SKY_STATUS_RF_LOCK b false) (d.rfLost b) := by
  unfold Dev.rfLost
  extract_lets own sky d1
  have h1 : SearchStep (d.setBit R.SKY_STATUS_RF_LOCK b false) d1 := (refl _).upd rfl
  exact (h1.trans (.dropSearches _ _ _)).trans (.bandLost _ b)

/-- RF lock gained: nothing, or that bit and then a step of the acquisition. -/
theorem Dev.rfLock_cases (d : Dev) (b : Nat) : d.rfLock b = d ∨ SearchStep (d.setBit R.SKY_STATUS_RF_LOCK b true) (d.rfLock b) := by
  unfold Dev.rfLock
  extract_lets d1 again sky d2 d3
  split
  · have h1 : SearchStep d1 d1 := .refl _
    have h2 : SearchStep d1 d2 := h1.upd rfl
    have h3 : SearchStep d1 d3 := h2.trans (.foldl (fun d x => .enqueue d _) _ _)
    exact .inr (h3.trans (.foldl (fun d ch => .ite (.startHandovers d _ _ _) (.refl d)) _ _))
  · exact .inl rfl

end Sys2Proof.Machine
end

section
/-!
PROOFS. Gain control (R81, R82), the average gain (R89), and the start of the sky search (R96).
-/

namespace Sys2Proof.Machine

/-! ### Searches queued (R95) -/

/-- Searches are queued: the queue and its count alone. -/
structure EnqStep (a b : Dev) : Prop where
  sky : b.sky = { a.sky with queue := b.sky.queue, nextNo := b.sky.nextNo }
  frame : DevFrame [.sky] [] [R.ACQ_STATUS_QUEUE] a b

namespace EnqStep

theorem refl (d : Dev) : EnqStep d d := ⟨rfl, .refl _ _ _ d⟩

theorem trans {a b c : Dev} (h : EnqStep a b) (k : EnqStep b c) : EnqStep a c :=
  ⟨k.sky.trans (congrArg (fun x : Sky => { x with queue := c.sky.queue, nextNo := c.sky.nextNo }) h.sky), h.frame.trans k.frame⟩

theorem enqueue (d : Dev) (x : Search) : EnqStep d (d.enqueue x) := by
  unfold Dev.enqueue
  split
  · exact .refl d
  · exact ⟨rfl, ((DevFrame.sky d _).mono (by decide)).next (.set _ (g := R.ACQ_STATUS_QUEUE) (by decide) _ 0 0) (by decide)⟩

theorem ite {a b c : Dev} {p : Prop} [Decidable p] (h : EnqStep a b) (k : EnqStep a c) : EnqStep a (if p then b else c) := by
  split
  · exact h
  · exact k

theorem foldl {α : Type} {f : Dev → α → Dev} (h : ∀ d x, EnqStep d (f d x)) (l : List α) (d : Dev) : EnqStep d (l.foldl f d) :=
  List.foldlRecOn (motive := EnqStep d) l f (refl d) fun e he x _ => he.trans (h e x)

end EnqStep

/-! ### The three bands -/

/-- A command runs over the three bands, and its step of one band leaves what the other bands show: then each band shows what its own step, taken from a state
that shows of the band what the first one does, makes of it. -/
theorem face_of_bands {α : Type} {f : Fin 3 → Dev → Dev} {face : Fin 3 → Dev → α} (other : ∀ b c d, c ≠ b → face c (f b d) = face c d) (b : Fin 3)
    (d : Dev) : ∃ x, face b x = face b d ∧ face b (f 2 (f 1 (f 0 d))) = face b (f b x) :=
  match b with
  | 0 => ⟨d, rfl, (other 2 0 _ (by decide)).trans (other 1 0 _ (by decide))⟩
  | 1 => ⟨f 0 d, other 0 1 d (by decide), other 2 1 _ (by decide)⟩
  | 2 => ⟨f 1 (f 0 d), (other 1 2 _ (by decide)).trans (other 0 2 d (by decide)), rfl⟩

/-! ### One millisecond of a band's gain control (R81, R82) -/

/-- What a band's gain control works on: its enable, configuration, gain, SETTLED and the count towards it. -/
structure AgcFace where
  on : Bool
  target : Nat
  mode : Nat
  gain : Nat
  settled : Nat
  count : Nat

def Dev.agcFace (d : Dev) (b : Nat) : AgcFace :=
  { on := d.bit R.SKY_CTRL_BAND_EN b, target := d.get R.SKY_AGC_CFG_TARGET b, mode := d.get R.SKY_AGC_CFG_MODE b, gain := d.get R.SKY_AGC_STAT_GAIN b,
    settled := d.get R.SKY_AGC_STAT_SETTLED b, count := tabGet d.sky.settle b }

/-- The gain after the step. -/
def Dev.agcGain (d : Dev) (b rms : Nat) : Nat :=
  match d.get R.SKY_AGC_CFG_MODE b with
  | 0 => agcNext (d.get R.SKY_AGC_STAT_GAIN b) (agcError rms (d.get R.SKY_AGC_CFG_TARGET b))
  | 1 => d.get R.SKY_AGC_STAT_GAIN b
  | _ => d.get R.SKY_AGC_CFG_MAN_GAIN b

/-- The milliseconds within ±1 dB after the step. -/
def Dev.agcCount (d : Dev) (b rms : Nat) : Nat :=
  if agcNear rms (d.get R.SKY_AGC_CFG_TARGET b) then tabGet d.sky.settle b + 1 else 0

/-- The step's gain and SETTLED are shown. -/
def Dev.agcShown (d : Dev) (b rms : Nat) : Dev :=
  (d.set R.SKY_AGC_STAT_GAIN (d.agcGain b rms) b).put R.SKY_AGC_STAT_SETTLED (10 ≤ d.agcCount b rms) b

theorem DevFrame.agcShown (d : Dev) (b rms : Nat) : DevFrame [] [] [R.SKY_AGC_STAT_GAIN, R.SKY_AGC_STAT_SETTLED] d (d.agcShown b rms) :=
  ((DevFrame.set d (g := R.SKY_AGC_STAT_GAIN) (by decide) _ b 0).mono (by decide)).next
    (.set _ (g := R.SKY_AGC_STAT_SETTLED) (by decide) (b2n (10 ≤ d.agcCount b rms)) b 0) (by decide)

theorem Dev.agcBand_off {d : Dev} {b : Nat} (h : d.bit R.SKY_CTRL_BAND_EN b = false) (rms : Nat) : d.agcBand b rms = d := by
  simp [Dev.agcBand, h]

/-- The step without what it means for RF lock: the count towards SETTLED, and the sums of R89. -/
def Dev.agcNoted (d : Dev) (b rms : Nat) : Dev :=
  let g := d.agcGain b rms
  let x := d.agcShown b rms
  let clear := x.get R.SKY_JAM_STATE b == 0 && !((List.range 6).any fun k =>
    x.get R.SKY_NOTCH_CFG_MODE b k == 2 && (tabGet x.sky.notch (6 * b + k)).placed)
  { x with sky := { x.sky with
    settle := tabPut x.sky.settle b (d.agcCount b rms)
    learnSum := tabPut x.sky.learnSum b (if clear then tabGet x.sky.learnSum b + g else 0)
    learnN := tabPut x.sky.learnN b (if clear then tabGet x.sky.learnN b + 1 else 0) } }

theorem Dev.agcBand_on_eq {d : Dev} {b : Nat} (h : d.bit R.SKY_CTRL_BAND_EN b = true) (rms : Nat) :
    d.agcBand b rms = if 10 ≤ d.agcCount b rms then (d.agcNoted b rms).rfLock b
      else if (d.agcNoted b rms).bit R.SKY_STATUS_RF_LOCK b then (d.agcNoted b rms).rfLost b else d.agcNoted b rms := by
  unfold Dev.agcBand
  rw [if_neg (by simp [h])]
  rfl

/-- A change of RF lock leaves the count towards SETTLED, and of the registers beside TRK those outside the lock and the queue. -/
theorem SearchStep.lock_kept {x y : Dev} {b : Nat} {v : Bool} (h : SearchStep (x.setBit R.SKY_STATUS_RF_LOCK b v) y) :
    y.sky.settle = x.sky.settle ∧ KeepRegs [0x04] (R.SKY_STATUS_RF_LOCK :: searchFlds) x y := by
  have hset : KeepRegs [0x04] (R.SKY_STATUS_RF_LOCK :: searchFlds) x (x.setBit R.SKY_STATUS_RF_LOCK b v) :=
    .set x _ 0 0 (mem_of_skyFlds (by decide)) (.inl List.mem_cons_self)
  exact ⟨by rw [h.only]; rfl, hset.trans (h.regs.mono (fun _ hw => hw) fun _ hf => List.mem_cons_of_mem _ hf)⟩

theorem Dev.agcBand_on {d : Dev} {b : Nat} (h : d.bit R.SKY_CTRL_BAND_EN b = true) (rms : Nat) :
    (d.agcBand b rms).sky.settle = tabPut d.sky.settle b (d.agcCount b rms) ∧
      KeepRegs [0x04] (R.SKY_STATUS_RF_LOCK :: searchFlds) (d.agcShown b rms) (d.agcBand b rms) := by
  have hcount : (d.agcNoted b rms).sky.settle = tabPut d.sky.settle b (d.agcCount b rms) := rfl
  have hregs : KeepRegs [0x04] (R.SKY_STATUS_RF_LOCK :: searchFlds) (d.agcShown b rms) (d.agcNoted b rms) := .of_regs rfl
  rw [Dev.agcBand_on_eq h]
  generalize d.agcNoted b rms = x at hcount hregs ⊢
  split
  · rcases x.rfLock_cases b with he | hstep
    · rw [he]
      exact ⟨hcount, hregs⟩
    · obtain ⟨hc, hr⟩ := hstep.lock_kept
      exact ⟨hc.trans hcount, hregs.trans hr⟩
  · split
    · obtain ⟨hc, hr⟩ := (SearchStep.rfLost x b).lock_kept
      exact ⟨hc.trans hcount, hregs.trans hr⟩
    · exact ⟨hcount, hregs⟩

/-- The step of a band leaves what the others work on. -/
theorem Dev.agcFace_agcBand_ne (d : Dev) {b c : Nat} (n : c ≠ b) (rms : Nat) : (d.agcBand b rms).agcFace c = d.agcFace c := by
  by_cases h : d.bit R.SKY_CTRL_BAND_EN b = true
  · obtain ⟨hcount, hregs⟩ := Dev.agcBand_on h rms
    have hframe := DevFrame.agcShown d b rms
    have hgain : (d.agcShown b rms).get R.SKY_AGC_STAT_GAIN c = d.get R.SKY_AGC_STAT_GAIN c :=
      (Dev.get_set_sky _ (by decide) (by decide) (by decide) _ _ _ _ _).trans (d.get_set_copy (mem_of_skyFlds (by decide)) (.inl n) _)
    have hsettled : (d.agcShown b rms).get R.SKY_AGC_STAT_SETTLED c = d.get R.SKY_AGC_STAT_SETTLED c :=
      (Dev.get_set_copy _ (mem_of_skyFlds (by decide)) (.inl n) _).trans (d.get_set_sky (by decide) (by decide) (by decide) _ _ _ _ _)
    simp only [Dev.agcFace, Dev.bit, hcount, tabGet_put_ne _ _ n, hregs.read (f := R.SKY_CTRL_BAND_EN) (by decide),
      hregs.read (f := R.SKY_AGC_CFG_TARGET) (by decide), hregs.read (f := R.SKY_AGC_CFG_MODE) (by decide), hregs.read (f := R.SKY_AGC_STAT_GAIN) (by decide),
      hregs.read (f := R.SKY_AGC_STAT_SETTLED) (by decide), hframe.read (f := R.SKY_CTRL_BAND_EN) (by decide),
      hframe.read (f := R.SKY_AGC_CFG_TARGET) (by decide), hframe.read (f := R.SKY_AGC_CFG_MODE) (by decide), hgain, hsettled]
  · rw [Dev.agcBand_off (Bool.eq_false_iff.2 h)]

theorem agcNext_lt {g : Nat} (h : g < 256) (e : Int) : agcNext g e < 256 := by
  unfold agcNext
  split
  · omega
  · split <;> omega

/-- In AUTO the step changes the gain as R81 gives it, and SETTLED shows ten milliseconds within ±1 dB. -/
theorem Dev.agcFace_agcBand_self {d : Dev} {b : Nat} (hb : b < 3) (on : (d.agcFace b).on = true) (auto : (d.agcFace b).mode = 0) (rms : Nat) :
    ((d.agcBand b rms).agcFace b).gain = agcNext (d.agcFace b).gain (agcError rms (d.agcFace b).target) ∧
      ((d.agcBand b rms).agcFace b).settled = b2n (agcNear rms (d.agcFace b).target && 9 ≤ (d.agcFace b).count) := by
  obtain ⟨-, hregs⟩ := Dev.agcBand_on on rms
  have hgain : d.agcGain b rms = agcNext (d.get R.SKY_AGC_STAT_GAIN b) (agcError rms (d.get R.SKY_AGC_CFG_TARGET b)) := by
    have hmode : d.get R.SKY_AGC_CFG_MODE b = 0 := auto
    simp only [Dev.agcGain, hmode]
  have hsettled : decide (10 ≤ d.agcCount b rms) = (agcNear rms (d.agcFace b).target && 9 ≤ (d.agcFace b).count) := by
    unfold Dev.agcCount Dev.agcFace
    dsimp only
    cases agcNear rms (d.get R.SKY_AGC_CFG_TARGET b) <;> simp
  constructor
  · refine (hregs.read (by decide) b 0).trans ((Dev.get_set_sky _ (by decide) (by decide) (by decide) _ _ _ _ _).trans ?_)
    rw [Dev.get_set_self _ _ _ _ _ (by interval_cases b <;> decide), hgain]
    exact Nat.mod_eq_of_lt (agcNext_lt (d.get_lt R.SKY_AGC_STAT_GAIN b 0) _)
  · refine (hregs.read (by decide) b 0).trans ?_
    rw [Dev.agcShown, Dev.get_put_self _ _ (by interval_cases b <;> decide), hsettled]
    generalize (agcNear rms (d.agcFace b).target && decide (9 ≤ (d.agcFace b).count)) = v
    cases v <;> rfl

theorem exec_agcStep {s : State} (run : s.dev.runs .sky = true) (ra rb rc : Nat) :
    exec (.agcStep ra rb rc) s = .next { s with dev := ((s.dev.agcBand 0 ra).agcBand 1 rb).agcBand 2 rc } :=
  onRun_next (f := fun d => ((d.agcBand 0 ra).agcBand 1 rb).agcBand 2 rc) run

/-! ### The average gain (R89) -/

/-- The average becomes BASE, and the count starts anew. -/
def Dev.baseLearnt (d : Dev) (b : Nat) : Dev :=
  let n := tabGet d.sky.learnN b
  let d' := (d.set R.SKY_AGC_STAT_BASE ((2 * tabGet d.sky.learnSum b + n) / (2 * n)) b).set R.SKY_AGC_STAT_BASE_VALID 1 b
  { d' with sky := { d'.sky with learnSum := tabPut d'.sky.learnSum b 0, learnN := tabPut d'.sky.learnN b 0 } }

theorem DevFrame.baseLearnt (d : Dev) (b : Nat) :
    DevFrame [.sky] [] [R.SKY_AGC_STAT_BASE, R.SKY_AGC_STAT_BASE_VALID] d (d.baseLearnt b) :=
  (((DevFrame.set d (g := R.SKY_AGC_STAT_BASE) (by decide) _ b 0).mono (by decide)).next
    (.set _ (g := R.SKY_AGC_STAT_BASE_VALID) (by decide) 1 b 0) (by decide)).next (.sky _ _) (by decide)

theorem exec_baseGainLearn {s : State} {b : Nat} (run : s.dev.runs .sky = true) (due : 60000 ≤ tabGet s.dev.sky.learnN b) :
    exec (.baseGainLearn b) s = .next { s with dev := s.dev.baseLearnt b } := by
  simp only [exec, execBaseGainLearn, onRun, onDev, run, due, if_true, Dev.baseLearnt]

theorem Dev.baseLearnt_shows (d : Dev) {b : Nat} (hb : b < 3) :
    (d.baseLearnt b).get R.SKY_AGC_STAT_BASE_VALID b = 1 ∧ (d.baseLearnt b).get R.SKY_AGC_STAT_BASE b =
      (2 * tabGet d.sky.learnSum b + tabGet d.sky.learnN b) / (2 * tabGet d.sky.learnN b) % 256 ∧ tabGet (d.baseLearnt b).sky.learnN b = 0 := by
  have hbase : R.SKY_AGC_STAT_BASE.has b 0 = true := by interval_cases b <;> decide
  have hvalid : R.SKY_AGC_STAT_BASE_VALID.has b 0 = true := by interval_cases b <;> decide
  refine ⟨Dev.get_set_self _ _ _ _ _ hvalid, ?_, tabGet_put_self _ _ _⟩
  exact (Dev.get_set_sky _ (by decide) (by decide) (by decide) _ _ _ _ _).trans (Dev.get_set_self _ _ _ _ _ hbase)

/-! ### The start of the sky search (R96) -/

/-- The start is noted and recorded. -/
def Dev.startNoted (d : Dev) (i : StartInfo) : Dev :=
  ({ d with sky := { d.sky with started := true, repeatAt := d.clk.mono, known := i } } : Dev).record 0x0306 (u8 (Config.argCode 0x0306 (d.startType i)))

theorem DevFrame.startNoted (d : Dev) (i : StartInfo) : DevFrame ([.sky] ++ reports) reportWs [] d (d.startNoted i) :=
  ((DevFrame.sky d _).mono (by decide)).next (.record _ _ _) (by decide)

theorem Dev.sky_startNoted (d : Dev) (i : StartInfo) :
    (d.startNoted i).sky = { d.sky with started := true, repeatAt := d.clk.mono, known := i } := Dev.record_sky _ _ _

/-- The start then queues the searches of its type. -/
theorem Dev.enqStep_skyStart (d : Dev) (i : StartInfo) : EnqStep (d.startNoted i) (d.skyStart i) := by
  unfold Dev.skyStart
  extract_lets t sky d1 d2
  change EnqStep d2 _
  refine .ite (.refl _) (.ite (.foldl (fun d x => .ite (.enqueue d _) (.refl d)) _ _) (.foldl (fun d x => ?_) _ _))
  exact .enqueue d _

theorem exec_rfLockAcquired {s : State} (run : s.dev.runs .sky = true) (lock : s.dev.get R.SKY_STATUS_RF_LOCK = 7) (fresh : s.dev.sky.started = false)
    (i : StartInfo) : exec (.rfLockAcquired i) s = .next { s with dev := s.dev.skyStart i } := by
  have hland : ∀ v < 8, Nat.land v 7 = v := by decide
  have hall : Nat.land (s.dev.get R.SKY_CTRL_BAND_EN) (s.dev.get R.SKY_STATUS_RF_LOCK) = s.dev.get R.SKY_CTRL_BAND_EN := by
    rw [lock]
    exact hland _ (s.dev.get_lt R.SKY_CTRL_BAND_EN 0 0)
  simp only [exec, execRfLockAcquired, onRun, onDev, run, hall, fresh, decide_true, Bool.not_false, Bool.and_self, if_true]

/-- Settles O17: a millisecond of gain control, band by band; the average gain; the start. -/
theorem gainAndStart : Obligations.GainAndStart := by
  unfold Obligations.GainAndStart
  refine ⟨fun r b e s run on auto he => ?_, fun b s run hb due => ?_, fun i s run lock fresh => ?_⟩
  · refine ⟨_, exec_agcStep run (r 0) (r 1) (r 2), ?_⟩
    obtain ⟨x, hx, hend⟩ := face_of_bands (f := fun (b : Fin 3) d => d.agcBand b (r b)) (face := fun (b : Fin 3) d => d.agcFace b)
      (fun b c d n => d.agcFace_agcBand_ne (fun h => n (Fin.ext h)) _) b s.dev
    have hxon : (x.agcFace b).on = true := (congrArg AgcFace.on hx).trans on
    have hxauto : (x.agcFace b).mode = 0 := (congrArg AgcFace.mode hx).trans auto
    obtain ⟨hgain, hsettled⟩ := Dev.agcFace_agcBand_self b.isLt hxon hxauto (r b)
    have hg := (congrArg AgcFace.gain hend).trans hgain
    have hs := (congrArg AgcFace.settled hend).trans hsettled
    rw [hx] at hg hs
    have hg' : (((s.dev.agcBand 0 (r 0)).agcBand 1 (r 1)).agcBand 2 (r 2)).get R.SKY_AGC_STAT_GAIN b =
        agcNext (s.dev.get R.SKY_AGC_STAT_GAIN b) e := hg.trans (by rw [← he]; rfl)
    refine ⟨fun h => ?_, fun h => ?_, fun h => ?_, hs⟩
    · rw [hg', agcNext, if_pos h]
    · rw [hg', agcNext, if_neg (by omega), if_pos h]
    · rw [hg', h]
      rfl
  · obtain ⟨hvalid, hbase, hcount⟩ := s.dev.baseLearnt_shows hb
    exact ⟨_, exec_baseGainLearn run due, hvalid, hbase, hcount, (DevFrame.baseLearnt s.dev b).frame⟩
  · have hstep := s.dev.enqStep_skyStart i
    have hsky := hstep.sky
    rw [s.dev.sky_startNoted i] at hsky
    refine ⟨_, exec_rfLockAcquired run lock fresh i, ?_, ?_, (((DevFrame.startNoted s.dev i).mono (by decide)).next hstep.frame (by decide)).frame⟩
    · exact congrArg Sky.started hsky
    · exact congrArg Sky.repeatAt hsky

end Sys2Proof.Machine
end

section
/-!
PROOFS. The jamming indicator (R88, R90, R91) and the notches (R84-R86).
-/

namespace Sys2Proof.Machine

/-- A write of one copy leaves what the fields' other copies show. -/
theorem Dev.get_set_other (d : Dev) {f g : Fld} (hf : f ∈ skyFlds) (hg : g ∈ skyFlds) {b c : Nat} (n : c ≠ b) (v : Nat) :
    (d.set g v b).get f c = d.get f c := by
  by_cases h : f = g
  · subst h
    exact d.get_set_copy (mem_of_skyFlds hf) (.inl n) v
  · exact d.get_set_sky hf hg h v c 0 b 0

/-! ### A change of STATE (R90) -/

/-- The bit of RING_DEV_IRQ for a block stands after its interrupt. -/
theorem Dev.bit_devIrq_self (d : Dev) {b : Nat} (hb : b ≠ 0) (hw : b - 1 < R.RING_DEV_IRQ_BLOCK.width) :
    (d.devIrq b).bit R.RING_DEV_IRQ_BLOCK (b - 1) = true := by
  have hset : (d.setBit R.RING_DEV_IRQ_BLOCK (b - 1) true).bit R.RING_DEV_IRQ_BLOCK (b - 1) = true := by
    unfold Dev.bit Dev.setBit
    rw [Dev.get_set_self _ _ _ _ _ (by decide), bitOf_eq_testBit, Nat.testBit_mod_two_pow, ← bitOf_eq_testBit, bitOf_putBit_true, decide_eq_true hw]
    rfl
  unfold Dev.devIrq
  simp only [if_neg hb]
  split <;> exact hset

/-- The new STATE, the highest of the three bands, and the event. -/
def Dev.jamTold (d : Dev) (b st : Nat) : Dev :=
  (d.set R.SKY_JAM_STATE st b).jamMax.record 0x0301 (u8 b ++ u8 (d.get R.SKY_JAM_STATE b) ++ u8 st ++ u8 (d.get R.SKY_JAM_JAM_IND b))

theorem Dev.jamState_eq (d : Dev) (b st : Nat) : d.jamState b st =
    { (d.jamTold b st).devIrq 3 with sky := { ((d.jamTold b st).devIrq 3).sky with jamLow := tabPut ((d.jamTold b st).devIrq 3).sky.jamLow b 0 } } := rfl

theorem DevFrame.jamMax (d : Dev) : DevFrame [] [] [R.SKY_STATUS_JAM_MAX] d d.jamMax := .set d (by decide) _ 0 0

theorem DevFrame.jamState (d : Dev) (b st : Nat) :
    DevFrame ([.sky] ++ reports) reportWs [R.SKY_JAM_STATE, R.SKY_STATUS_JAM_MAX] d (d.jamState b st) := by
  have hset := DevFrame.set d (g := R.SKY_JAM_STATE) (by decide) st b 0
  have hmax := ((DevFrame.refl ([.sky] ++ reports) reportWs [R.SKY_JAM_STATE, R.SKY_STATUS_JAM_MAX] d).next hset (by decide)).next (.jamMax _) (by decide)
  have htold : DevFrame ([.sky] ++ reports) reportWs [R.SKY_JAM_STATE, R.SKY_STATUS_JAM_MAX] d (d.jamTold b st) := hmax.next (.record _ _ _) (by decide)
  rw [Dev.jamState_eq]
  exact (htold.next (.devIrq _ (b := 3) (by decide)) (by decide)).next (.sky _ _) (by decide)

/-- It is shown, the count below the threshold starts anew, and the SKY interrupt stands. -/
theorem Dev.jamState_shows (d : Dev) {b st : Nat} (hb : b < 3) (hst : st < 4) :
    (d.jamState b st).get R.SKY_JAM_STATE b = st ∧ tabGet (d.jamState b st).sky.jamLow b = 0 ∧ (d.jamState b st).bit R.RING_DEV_IRQ_BLOCK 2 = true := by
  have hmax := DevFrame.jamMax (d.set R.SKY_JAM_STATE st b)
  have hset : (d.set R.SKY_JAM_STATE st b).get R.SKY_JAM_STATE b = st :=
    (Dev.get_set_self _ _ _ _ _ (by interval_cases b <;> decide)).trans (Nat.mod_eq_of_lt hst)
  have htold : (d.jamTold b st).get R.SKY_JAM_STATE b = st :=
    ((DevFrame.record _ _ _).read (by decide) b 0).trans ((hmax.read (by decide) b 0).trans hset)
  have hirq : ((d.jamTold b st).devIrq 3).bit R.RING_DEV_IRQ_BLOCK 2 = true := Dev.bit_devIrq_self _ (by decide) (by decide)
  rw [Dev.jamState_eq]
  refine ⟨?_, tabGet_put_self _ _ _, hirq⟩
  · exact ((DevFrame.devIrq (d.jamTold b st) (b := 3) (by decide)).read (by decide) b 0).trans htold

theorem exec_jamStateFall {s : State} {b : Nat} (run : s.dev.runs .sky = true) (low : 100 ≤ tabGet s.dev.sky.jamLow b)
    (st : s.dev.get R.SKY_JAM_STATE b ≠ 0) :
    exec (.jamStateFall b) s = .next { s with dev := s.dev.jamState b (s.dev.get R.SKY_JAM_STATE b - 1) } := by
  simp only [exec, execJamStateFall, onRun, onDev, run, low, bne_iff_ne.2 st, decide_true, Bool.and_self, if_true]

/-! ### Notches (R85, R86) -/

theorem DevFrame.notchPend (d : Dev) (b n : Nat) : DevFrame [.sky] [] [] d (d.notchPend b n) := .sky d _

/-- An auto notch quiet for long enough, released. -/
def Dev.notchReleased (d : Dev) (b n : Nat) : Dev :=
  { d with sky := { d.sky with notch := tabPut d.sky.notch (6 * b + n) { (tabGet d.sky.notch (6 * b + n)) with placed := false, quiet := 0 } } }

/-- Its change then waits for the tick, and is recorded. -/
def Dev.notchLetGo (d : Dev) (b n : Nat) : Dev :=
  ((d.notchReleased b n).notchPend b n).record 0x0302 (u8 b ++ u8 n ++ u24 ((d.notchReleased b n).get R.SKY_NOTCH_FREQ_FREQ b n))

theorem DevFrame.notchLetGo (d : Dev) (b n : Nat) : DevFrame ([.sky] ++ reports) reportWs [] d (d.notchLetGo b n) := by
  have hsky : DevFrame [.sky] [] [] d (d.notchReleased b n) := .sky d _
  exact ((hsky.trans (.notchPend _ b n)).mono (by decide)).next (.record _ _ _) (by decide)

theorem Dev.sky_notchLetGo (d : Dev) (b n : Nat) : (d.notchLetGo b n).sky = ((d.notchReleased b n).notchPend b n).sky := Dev.record_sky _ _ _

theorem exec_autoNotchRelease {s : State} {b n : Nat} (run : s.dev.runs .sky = true) (hn : n < 6)
    (placed : (tabGet s.dev.sky.notch (6 * b + n)).placed = true) (quiet : 100 ≤ (tabGet s.dev.sky.notch (6 * b + n)).quiet) :
    exec (.autoNotchRelease b n) s = .next { s with dev := s.dev.notchLetGo b n } := by
  simp only [exec, execAutoNotchRelease, onRun, onDev, run, hn, placed, quiet, decide_true, Bool.and_self, if_true, Dev.notchLetGo, Dev.notchReleased]

/-! ### One band's spectrum (R83, R85, R88, R91) -/

/-- What the rest of a spectrum touches, beside the indicator. -/
abbrev jamFlds : List Fld := [R.SKY_JAM_STATE, R.SKY_STATUS_JAM_MAX, R.SKY_NOTCH_FREQ_FREQ, R.ACQ_STATUS_QUEUE]

abbrev JamFrame (a b : Dev) : Prop := DevFrame ([.sky] ++ reports) reportWs jamFlds a b

theorem JamFrame.sky (d : Dev) (x : Sky) : JamFrame d { d with sky := x } := (DevFrame.sky d x).mono (by decide)

theorem JamFrame.notchPlace (d : Dev) (b n : Nat) (h : HotBin) : JamFrame d (d.notchPlace b n h) := by
  unfold Dev.notchPlace
  extract_lets sky x
  have hx : JamFrame d x := .sky d x.sky
  have hset := hx.next (.set _ (g := R.SKY_NOTCH_FREQ_FREQ) (by decide) h.freq b n) (by decide)
  exact (hset.next (.notchPend _ b n) (by decide)).next (.record _ 0x0302 _) (by decide)

theorem JamFrame.notchFor (d : Dev) (b : Nat) (h : HotBin) : JamFrame d (d.notchFor b h) := by
  unfold Dev.notchFor
  dsimp only
  split
  · exact .notchPlace d b _ h
  · split
    · exact .ite (JamFrame.notchPlace d b _ h) (.refl _ _ _ d)
    · exact .refl _ _ _ d

theorem JamFrame.hotBin (d : Dev) (b : Nat) (h : HotBin) : JamFrame d (d.hotBin b h) := by
  unfold Dev.hotBin
  extract_lets key n sky x
  have hx : JamFrame d x := .sky d x.sky
  exact .ite (.refl _ _ _ d) (.ite (hx.trans (JamFrame.notchFor x b h)) hx)

theorem EnqStep.jamSearch (d : Dev) : EnqStep d d.jamSearch := by
  unfold Dev.jamSearch
  refine .ite (.refl d) (.foldl (fun d x => ?_) _ d)
  extract_lets onC
  exact .ite (.enqueue d _) (.refl d)

/-- The peak, the share blanked and the indicator are shown. -/
def Dev.jamPeak (d : Dev) (b : Nat) (x : BandSpec) : Dev :=
  ((d.set R.SKY_JAM_PEAK_BIN x.peakBin b).sat R.SKY_JAM_PEAK_DB x.peakDb b).sat R.SKY_AGC_STAT_BLANK_RATE
    (if d.get R.SKY_AGC_CFG_BLANK_THR b = 0 then 0 else x.blank) b

def Dev.jamLevel (d : Dev) (b : Nat) : Nat :=
  jamInd (d.on R.SKY_AGC_STAT_BASE_VALID b) (d.get R.SKY_AGC_STAT_BASE b) (d.get R.SKY_AGC_STAT_GAIN b) (d.get R.SKY_JAM_PEAK_DB b)

def Dev.jamShown (d : Dev) (b : Nat) (x : BandSpec) : Dev := (d.jamPeak b x).set R.SKY_JAM_JAM_IND ((d.jamPeak b x).jamLevel b) b

theorem Dev.spectrumBand_off {d : Dev} {b : Nat} (h : d.bit R.SKY_CTRL_BAND_EN b = false) (x : BandSpec) : d.spectrumBand b x = d := by
  simp [Dev.spectrumBand, h]

theorem JamFrame.spectrumBand {d : Dev} {b : Nat} (h : d.bit R.SKY_CTRL_BAND_EN b = true) (x : BandSpec) :
    JamFrame (d.jamShown b x) (d.spectrumBand b x) := by
  unfold Dev.spectrumBand
  rw [if_neg (by simp [h])]
  extract_lets d1 ind d2 st up step low sky1 d3 d4 thr hot sky2 d5 d6
  have h3 : JamFrame d2 d3 := .sky d2 d3.sky
  have h4 : JamFrame d2 d4 := .ite (h3.next (.jamState d3 b up) (by decide)) h3
  have h5 : JamFrame d2 d5 := h4.trans (JamFrame.sky d4 d5.sky)
  have h6 : JamFrame d2 d6 := h5.trans (.foldl (fun d y => JamFrame.hotBin d b y) hot d5)
  exact .ite (h6.next (EnqStep.jamSearch d6).frame (by decide)) h6

/-- What a band's indicator is computed from, and what it shows. -/
structure JamFace where
  on : Bool
  valid : Bool
  base : Nat
  gain : Nat
  bin : Nat
  db : Nat
  ind : Nat

def Dev.jamFace (d : Dev) (b : Nat) : JamFace :=
  { on := d.bit R.SKY_CTRL_BAND_EN b, valid := d.on R.SKY_AGC_STAT_BASE_VALID b, base := d.get R.SKY_AGC_STAT_BASE b, gain := d.get R.SKY_AGC_STAT_GAIN b,
    bin := d.get R.SKY_JAM_PEAK_BIN b, db := d.get R.SKY_JAM_PEAK_DB b, ind := d.get R.SKY_JAM_JAM_IND b }

theorem JamFrame.jamFace {a b : Dev} (h : JamFrame a b) (c : Nat) : b.jamFace c = a.jamFace c := by
  simp only [Dev.jamFace, Dev.bit, Dev.on, h.read (f := R.SKY_CTRL_BAND_EN) (by decide), h.read (f := R.SKY_AGC_STAT_BASE_VALID) (by decide),
    h.read (f := R.SKY_AGC_STAT_BASE) (by decide), h.read (f := R.SKY_AGC_STAT_GAIN) (by decide), h.read (f := R.SKY_JAM_PEAK_BIN) (by decide),
    h.read (f := R.SKY_JAM_PEAK_DB) (by decide), h.read (f := R.SKY_JAM_JAM_IND) (by decide)]

theorem DevFrame.jamShown (d : Dev) (b : Nat) (x : BandSpec) :
    DevFrame [] [] [R.SKY_JAM_PEAK_BIN, R.SKY_JAM_PEAK_DB, R.SKY_AGC_STAT_BLANK_RATE, R.SKY_JAM_JAM_IND] d (d.jamShown b x) :=
  ((((DevFrame.refl _ _ _ d).next (.set _ (g := R.SKY_JAM_PEAK_BIN) (by decide) _ b 0) (by decide)).next
    (.set _ (g := R.SKY_JAM_PEAK_DB) (by decide) _ b 0) (by decide)).next (.set _ (g := R.SKY_AGC_STAT_BLANK_RATE) (by decide) _ b 0) (by decide)).next
    (.set _ (g := R.SKY_JAM_JAM_IND) (by decide) _ b 0) (by decide)

theorem Dev.get_jamShown_other (d : Dev) {b c : Nat} (n : c ≠ b) (x : BandSpec) {f : Fld} (hf : f ∈ skyFlds) : (d.jamShown b x).get f c = d.get f c :=
  (Dev.get_set_other _ hf (by decide) n _).trans ((Dev.get_set_other _ hf (by decide) n _).trans
    ((Dev.get_set_other _ hf (by decide) n _).trans (Dev.get_set_other _ hf (by decide) n _)))

theorem Dev.jamFace_spectrumBand_ne (d : Dev) {b c : Nat} (n : c ≠ b) (x : BandSpec) : (d.spectrumBand b x).jamFace c = d.jamFace c := by
  by_cases h : d.bit R.SKY_CTRL_BAND_EN b = true
  · rw [(JamFrame.spectrumBand h x).jamFace]
    have other := @Dev.get_jamShown_other d b c n x
    simp only [Dev.jamFace, Dev.bit, Dev.on, (DevFrame.jamShown d b x).read (f := R.SKY_CTRL_BAND_EN) (by decide),
      other (f := R.SKY_AGC_STAT_BASE_VALID) (by decide), other (f := R.SKY_AGC_STAT_BASE) (by decide), other (f := R.SKY_AGC_STAT_GAIN) (by decide), other (f := R.SKY_JAM_PEAK_BIN) (by decide),
      other (f := R.SKY_JAM_PEAK_DB) (by decide), other (f := R.SKY_JAM_JAM_IND) (by decide)]
  · rw [Dev.spectrumBand_off (Bool.eq_false_iff.2 h)]

theorem Dev.get_jamPeak (d : Dev) {b : Nat} (hb : b < 3) (x : BandSpec) :
    (d.jamPeak b x).get R.SKY_JAM_PEAK_BIN b = x.peakBin % 1024 ∧ (d.jamPeak b x).get R.SKY_JAM_PEAK_DB b = min x.peakDb 255 := by
  have hbin : R.SKY_JAM_PEAK_BIN.has b 0 = true := by interval_cases b <;> decide
  have hdb : R.SKY_JAM_PEAK_DB.has b 0 = true := by interval_cases b <;> decide
  constructor
  · exact (Dev.get_set_sky _ (by decide) (by decide) (by decide) _ _ _ _ _).trans
      ((Dev.get_set_sky _ (by decide) (by decide) (by decide) _ _ _ _ _).trans (Dev.get_set_self _ _ _ _ _ hbin))
  · refine (Dev.get_set_sky _ (by decide) (by decide) (by decide) _ _ _ _ _).trans ((Dev.get_set_self _ _ _ _ _ hdb).trans ?_)
    exact Nat.mod_eq_of_lt (Nat.lt_of_le_of_lt (Nat.min_le_right _ _) (by decide))

/-- A band's own spectrum shows its peak, and the indicator of R88. -/
theorem Dev.jamFace_spectrumBand_self {d : Dev} {b : Nat} (hb : b < 3) (h : (d.jamFace b).on = true) (x : BandSpec) :
    ((d.spectrumBand b x).jamFace b).bin = x.peakBin % 1024 ∧ ((d.spectrumBand b x).jamFace b).db = min x.peakDb 255 ∧
      ((d.spectrumBand b x).jamFace b).ind = jamInd (d.jamFace b).valid (d.jamFace b).base (d.jamFace b).gain (min x.peakDb 255) := by
  obtain ⟨hbin, hdb⟩ := d.get_jamPeak hb x
  have hframe : DevFrame [] [] [R.SKY_JAM_PEAK_BIN, R.SKY_JAM_PEAK_DB, R.SKY_AGC_STAT_BLANK_RATE] d (d.jamPeak b x) :=
    (((DevFrame.refl _ _ _ d).next (.set _ (g := R.SKY_JAM_PEAK_BIN) (by decide) _ b 0) (by decide)).next
      (.set _ (g := R.SKY_JAM_PEAK_DB) (by decide) _ b 0) (by decide)).next (.set _ (g := R.SKY_AGC_STAT_BLANK_RATE) (by decide) _ b 0) (by decide)
  have hind : (d.jamPeak b x).jamLevel b = jamInd (d.jamFace b).valid (d.jamFace b).base (d.jamFace b).gain (min x.peakDb 255) := by
    simp only [Dev.jamLevel, Dev.jamFace, Dev.on, hdb, hframe.read (f := R.SKY_AGC_STAT_BASE_VALID) (by decide),
      hframe.read (f := R.SKY_AGC_STAT_BASE) (by decide), hframe.read (f := R.SKY_AGC_STAT_GAIN) (by decide)]
  have hlt : (d.jamPeak b x).jamLevel b < 256 := Nat.lt_of_le_of_lt (Nat.min_le_left _ _) (by decide)
  rw [(JamFrame.spectrumBand h x).jamFace]
  refine ⟨?_, ?_, ?_⟩
  · exact (Dev.get_set_sky _ (by decide) (by decide) (by decide) _ _ _ _ _).trans hbin
  · exact (Dev.get_set_sky _ (by decide) (by decide) (by decide) _ _ _ _ _).trans hdb
  · exact (Dev.get_set_self _ _ _ _ _ (by interval_cases b <;> decide)).trans ((Nat.mod_eq_of_lt hlt).trans hind)

theorem exec_spectrumUpdate {s : State} (run : s.dev.runs .sky = true) (xa xb xc : BandSpec) :
    exec (.spectrumUpdate xa xb xc) s = .next { s with dev := ((s.dev.spectrumBand 0 xa).spectrumBand 1 xb).spectrumBand 2 xc } :=
  onRun_next (f := fun d => ((d.spectrumBand 0 xa).spectrumBand 1 xb).spectrumBand 2 xc) run

/-! ### The tick at which waiting notch changes act (R86) -/

/-- The notch itself: ACTIVE and what it now acts on. -/
def Dev.notchSet (d : Dev) (k : Nat) : Dev :=
  let d' := d.put R.SKY_NOTCH_CFG_ACTIVE (d.notchActs (k / 6) (k % 6)) (k / 6) (k % 6)
  { d' with sky := { d'.sky with notch := tabPut d'.sky.notch k { (tabGet d.sky.notch k) with
    isOn := d.notchActs (k / 6) (k % 6), freqNow := d.get R.SKY_NOTCH_FREQ_FREQ (k / 6) (k % 6) } } }

theorem DevFrame.notchSet (d : Dev) (k : Nat) : DevFrame [.sky] [] [R.SKY_NOTCH_CFG_ACTIVE] d (d.notchSet k) :=
  ((DevFrame.set d (g := R.SKY_NOTCH_CFG_ACTIVE) (by decide) _ _ _).mono (by decide)).next (.sky _ _) (by decide)

theorem DevFrame.modChan (d : Dev) (ch : Nat) (f : Chan → Chan) : DevFrame [.trk] [] [] d (d.modChan ch f) := ⟨rfl, .of_regs rfl⟩

/-- Then the channels that it flags: tracking alone. -/
structure Flagged (a b : Dev) : Prop where
  clk : b.clk = a.clk
  sky : b.sky = a.sky
  frame : DevFrame [.trk] [] [] a b

theorem Dev.notchTick_flags (d : Dev) (k : Nat) : Flagged (d.notchSet k) (d.notchTick k) := by
  unfold Dev.notchTick
  extract_lets b n y isOn f d1 sky d2
  refine List.foldlRecOn (motive := Flagged d2) skyChans _ ⟨rfl, rfl, .refl _ _ _ d2⟩ fun e he ch _ => ?_
  extract_lets st
  split
  · exact ⟨he.clk, he.sky, he.frame.trans (.modChan e ch _)⟩
  · exact he

theorem DevFrame.notchTick (d : Dev) (k : Nat) : DevFrame [.sky, .trk] [] [R.SKY_NOTCH_CFG_ACTIVE] d (d.notchTick k) :=
  ((DevFrame.notchSet d k).mono (by decide)).next (d.notchTick_flags k).frame (by decide)

theorem Dev.notchTick_pending (d : Dev) (k : Nat) : (d.notchTick k).sky.pending = d.sky.pending :=
  (congrArg Sky.pending (d.notchTick_flags k).sky).trans rfl

/-- What acts depends on modes and placed notches, which a tick leaves. -/
theorem Dev.notchActs_notchTick (d : Dev) (k b n : Nat) : (d.notchTick k).notchActs b n = d.notchActs b n := by
  have hplaced : (tabGet (d.notchTick k).sky.notch (6 * b + n)).placed = (tabGet d.sky.notch (6 * b + n)).placed := by
    rw [(d.notchTick_flags k).sky]
    change (tabGet (tabPut d.sky.notch k _) (6 * b + n)).placed = _
    by_cases h : 6 * b + n = k
    · rw [h, tabGet_put_self]
    · rw [tabGet_put_ne _ _ h]
  simp only [Dev.notchActs, hplaced, (DevFrame.notchTick d k).read (f := R.SKY_NOTCH_CFG_MODE) (by decide)]

theorem Dev.active_notchTick_self (d : Dev) {k : Nat} (h : k < 18) :
    (d.notchTick k).get R.SKY_NOTCH_CFG_ACTIVE (k / 6) (k % 6) = b2n (d.notchActs (k / 6) (k % 6)) := by
  refine ((d.notchTick_flags k).frame.read (by decide) _ _).trans ?_
  refine (Dev.get_put_self _ _ (by interval_cases k <;> decide)).trans ?_
  cases d.notchActs (k / 6) (k % 6) <;> rfl

theorem Dev.active_notchTick_ne (d : Dev) {j k : Nat} (h : j ≠ k) :
    (d.notchTick k).get R.SKY_NOTCH_CFG_ACTIVE (j / 6) (j % 6) = d.get R.SKY_NOTCH_CFG_ACTIVE (j / 6) (j % 6) :=
  ((d.notchTick_flags k).frame.read (by decide) _ _).trans (d.get_set_copy (mem_of_skyFlds (by decide)) (by omega) _)

/-- Every change of the list acts as the notch stood before it. -/
theorem Dev.active_notchTicks (l : List Nat) (d : Dev) {k : Nat} (h : k < 18)
    (now : k ∈ l ∨ d.get R.SKY_NOTCH_CFG_ACTIVE (k / 6) (k % 6) = b2n (d.notchActs (k / 6) (k % 6))) :
    (l.foldl (fun d k => d.notchTick k) d).get R.SKY_NOTCH_CFG_ACTIVE (k / 6) (k % 6) = b2n (d.notchActs (k / 6) (k % 6)) := by
  induction l generalizing d with
  | nil => exact now.resolve_left (by simp)
  | cons j l ih =>
    rw [List.foldl_cons, ← d.notchActs_notchTick j]
    refine ih _ ?_
    rw [d.notchActs_notchTick]
    by_cases hj : k = j
    · subst hj
      exact .inr (d.active_notchTick_self h)
    · rw [d.active_notchTick_ne hj]
      exact now.imp_left fun hm => (List.mem_cons.1 hm).resolve_left hj

/-- The waiting changes, taken at the tick. -/
def Dev.notchesDue (d : Dev) : Dev :=
  let x := d.passTo ((d.clk.yard + ms - 1) / ms * ms)
  { x with sky := { x.sky with pending := [] } }

theorem exec_notchApply {s : State} (run : s.dev.runs .sky = true) (h : s.dev.sky.pending ≠ []) :
    exec .notchApply s = .next { s with dev := s.dev.sky.pending.foldl (fun d k => d.notchTick k) s.dev.notchesDue } := by
  have hpend : ∀ t, (s.dev.passTo t).sky.pending = s.dev.sky.pending := fun _ => rfl
  simp only [exec, execNotchApply, onRun, onDev, run, List.isEmpty_eq_false_iff.2 h, Bool.false_eq_true, if_true, if_false, hpend, Dev.notchesDue]

theorem Dev.timeGoes_of_runs_sky {d : Dev} (h : d.runs .sky = true) : d.timeGoes = true := by
  simp only [Dev.runs, Dev.timed, Bool.and_eq_true] at h
  obtain ⟨-, ⟨-, hfield⟩, -⟩ := h
  simp only [Bool.not_eq_true'] at hfield
  simp [Dev.timeGoes, hfield]

/-- The ticks leave the clocks and the list of waiting changes. -/
theorem Dev.clk_notchTicks (l : List Nat) (d : Dev) :
    (l.foldl (fun d k => d.notchTick k) d).clk = d.clk ∧ (l.foldl (fun d k => d.notchTick k) d).sky.pending = d.sky.pending := by
  refine List.foldlRecOn (motive := fun e : Dev => e.clk = d.clk ∧ e.sky.pending = d.sky.pending) l _ ⟨rfl, rfl⟩ fun e he k _ => ?_
  obtain ⟨hclk, hpend⟩ := he
  have hkept : (e.notchTick k).clk = e.clk := (e.notchTick_flags k).clk.trans rfl
  exact ⟨hkept.trans hclk, (e.notchTick_pending k).trans hpend⟩

/-- Settles O18: the indicator and the peak from a band's spectrum; STATE one step down; a quiet notch released; the waiting changes at the next tick. -/
theorem jammingAndNotches : Obligations.JammingAndNotches := by
  unfold Obligations.JammingAndNotches
  refine ⟨fun x b s run on => ?_, fun b s run hb low st lim => ?_, fun b n s run hb hn placed quiet => ?_, fun s run h => ?_⟩
  · refine ⟨_, exec_spectrumUpdate run (x 0) (x 1) (x 2), ?_⟩
    obtain ⟨y, hy, hend⟩ := face_of_bands (f := fun (b : Fin 3) d => d.spectrumBand b (x b)) (face := fun (b : Fin 3) d => d.jamFace b)
      (fun b c d n => d.jamFace_spectrumBand_ne (fun h => n (Fin.ext h)) _) b s.dev
    obtain ⟨hbin, hdb, hind⟩ := Dev.jamFace_spectrumBand_self b.isLt ((congrArg JamFace.on hy).trans on) (x b)
    rw [hy] at hind
    exact ⟨(congrArg JamFace.bin hend).trans hbin, (congrArg JamFace.db hend).trans hdb, (congrArg JamFace.ind hend).trans hind⟩
  · obtain ⟨hstate, hlow, hirq⟩ := s.dev.jamState_shows hb (st := s.dev.get R.SKY_JAM_STATE b - 1) (by omega)
    exact ⟨_, exec_jamStateFall run low (by omega), hstate, hlow, hirq, (DevFrame.jamState _ _ _).frame⟩
  · have hsky := s.dev.sky_notchLetGo b n
    refine ⟨_, exec_autoNotchRelease run hn placed quiet, ?_, ?_, (DevFrame.notchLetGo s.dev b n).frame⟩ <;> dsimp only <;> rw [hsky]
    · exact congrArg NotchSt.placed (tabGet_put_self _ _ _)
    · exact List.mem_append_right _ (List.mem_singleton.2 rfl)
  · obtain ⟨hclk, hpend⟩ := Dev.clk_notchTicks s.dev.sky.pending s.dev.notchesDue
    have hdue : DevFrame [.clk, .sky] [] [] s.dev s.dev.notchesDue := ((DevFrame.passTo s.dev _).mono (by decide)).next (.sky _ _) (by decide)
    obtain ⟨hle, hlt⟩ := nextMultiple_bounds s.dev.clk.yard (p := ms) (by decide)
    have hyard : s.dev.notchesDue.clk.yard = (s.dev.clk.yard + ms - 1) / ms * ms :=
      (Dev.yard_passTo (Dev.timeGoes_of_runs_sky run) _).trans (Nat.max_eq_right hle)
    refine ⟨_, exec_notchApply run h, ?_, ?_, ?_, ?_, fun k hk hlt => ?_, ?_⟩
    · exact hpend
    · dsimp only
      rw [hclk, hyard]
      exact Nat.mul_mod_left _ _
    · dsimp only
      rw [hclk, hyard]
      exact hle
    · dsimp only
      rw [hclk, hyard]
      exact hlt
    · refine (Dev.active_notchTicks _ _ hlt (.inl hk)).trans (congrArg b2n ?_)
      simp only [Dev.notchActs, hdue.read (f := R.SKY_NOTCH_CFG_MODE) (by decide)]
      rfl
    · have hticks := DevFrame.foldl DevFrame.notchTick s.dev.sky.pending s.dev.notchesDue
      exact ((hdue.mono (by decide)).next hticks (by decide)).frame

end Sys2Proof.Machine
end

section
/-!
PROOFS. The search queue and its engines (R94, R95, R99, R101-R103).
-/

namespace Sys2Proof.Machine

/-! ### A descriptor's search (R101, R103) -/

/-- The search that a SKY_SEARCH asks for. -/
def Dev.searchOf (d : Dev) (q : Desc) : Search :=
  { kind := if bitOf (fld q.area 7 1) 1 then .hostPrio else .host, cls := fld q.area 1 1, band := fld q.area 2 1, sat := fld q.area 4 2,
    sig := classSig (fld q.area 1 1) (fld q.area 4 2), tcoh := d.tcohOf q, k := d.kOf q,
    thr := if fld q.area 14 1 = 0 then d.get R.ACQ_CLASS_CFG_THR (fld q.area 1 1) else fld q.area 14 1,
    track := bitOf (fld q.area 7 1) 0, doppC := sfld q.area 8 4,
    nbins :=
      if fld q.area 12 2 = 0 then
        nbinsOf (d.get R.ACQ_DOPP_CFG_SPAN) (d.get R.ACQ_DOPP_CFG_REF_UNC) (carrierHz (classSig (fld q.area 1 1) (fld q.area 4 2)) (fld q.area 4 2)) (d.tcohOf q)
      else nbinsOf (fld q.area 12 2) 0 (carrierHz (classSig (fld q.area 1 1) (fld q.area 4 2)) (fld q.area 4 2)) (d.tcohOf q),
    desc := some q }

/-- While the queue has room the descriptor is taken; it completes for the first of the three reasons that applies, or joins the queue. -/
theorem Dev.skySearch_ready {d : Dev} {q : Desc} (h : Ready 3 1 q d) (room : d.sky.queue.length < 256) : d.skySearch =
    if !searchOk q.area (d.tcohOf q) (d.kOf q) then (d.taken q).complete q .badDescriptor
    else if !q.gate then (d.taken q).complete q .refusedState
    else if !d.on R.SKY_CTRL_ACQ_EN || !d.bit R.SKY_STATUS_RF_LOCK (fld q.area 2 1) then (d.taken q).complete q .aborted
    else (d.taken q).enqueue (d.searchOf q) := by
  unfold Dev.skySearch
  rw [if_neg (Nat.not_le.2 room), Dev.take_ready h]
  rfl

theorem DevFrame.taken (d : Dev) (q : Desc) : DevFrame [.ring] [] [] d (d.taken q) := ⟨rfl, .of_regs rfl⟩

/-- A descriptor taken and completed. -/
theorem Completes.of_taken {q : Desc} {s : State} (h : Awaits q s.dev) (st : Status) :
    Completes q st s { s with dev := (s.dev.taken q).complete q st } ∧ Frame reports [0x0B] [] s { s with dev := (s.dev.taken q).complete q st } := by
  refine ⟨.of_complete (l := []) (Dev.awaits_taken h) st (List.append_nil _).symm, ?_⟩
  exact (((DevFrame.taken s.dev q).mono (by decide)).next (ComplStep.complete _ q st).frame (by decide)).frame

/-- While there is room and acquisition is enabled, a search joins the queue at its end. -/
theorem Dev.enqueue_room {d : Dev} (room : d.sky.queue.length < 256) (on : d.on R.SKY_CTRL_ACQ_EN = true) (x : Search) :
    (d.enqueue x).sky.queue = d.sky.queue ++ [{ x with no := d.sky.nextNo }] ∧ (d.enqueue x).get R.ACQ_STATUS_QUEUE = d.sky.queue.length + 1 := by
  have hno : ¬ (decide (256 ≤ d.sky.queue.length) || !d.on R.SKY_CTRL_ACQ_EN) = true := by
    simp [on, room]
  unfold Dev.enqueue
  rw [if_neg hno]
  refine ⟨rfl, (Dev.get_set_self _ _ _ _ _ (by decide)).trans ?_⟩
  rw [List.length_append, List.length_singleton]
  exact Nat.mod_eq_of_lt (Nat.lt_of_le_of_lt (Nat.succ_le_of_lt room) (by decide))

/-! ### Captures and bins (R94, R95) -/

/-- A search served by a capture of a class and band. -/
def Search.served (c b : Nat) (x : Search) : Search := if x.cls = c && x.band = b then { x with captured := true } else x

theorem Search.captured_served {c b : Nat} {x : Search} (hc : (x.served c b).cls = c) (hb : (x.served c b).band = b) :
    (x.served c b).captured = true := by
  unfold Search.served at hc hb ⊢
  split at hc
  · next h => rw [if_pos h]
  · next h => simp_all

def Dev.captured (d : Dev) (c b : Nat) : Dev := { d with sky := { d.sky with queue := d.sky.queue.map (Search.served c b) } }

theorem exec_acqCaptureDone {s : State} (run : s.dev.runs .acq = true) (c b : Nat) :
    exec (.acqCaptureDone c b) s = .next { s with dev := s.dev.captured c b } :=
  onRun_next (f := fun d => d.captured c b) run

/-- A search of whose bins one more is finished, if it is the one that is meant. -/
def Search.binned (no : Nat) (x : Search) : Search := if x.no = no then { x with bins := min x.nbins (x.bins + 1) } else x

/-- What an engine that runs a search makes of the queue. -/
theorem Dev.queue_binDone {d : Dev} {e no : Nat} (ok : d.bit R.ACQ_STATUS_ENGINE_OK e = true) (h : tabFind d.sky.engine e = some no) :
    (d.binDone e).sky.queue = d.sky.queue.map (Search.binned no) := by
  unfold Dev.binDone
  rw [if_neg (by simp [ok])]
  simp only [h]
  rfl

theorem DevFrame.binDone (d : Dev) (e : Nat) : DevFrame [.sky] [] [] d (d.binDone e) := by
  unfold Dev.binDone
  exact .ite (.refl _ _ _ d) (.sky d _)

theorem exec_acqBinDone {s : State} {e : Nat} (run : s.dev.runs .acq = true) (he : e < 2) :
    exec (.acqBinDone e) s = .next { s with dev := s.dev.binDone e } := by
  simp only [exec, execAcqBinDone, onRun, onDev, run, he, if_true]

/-! ### The end of a search (R98, R99, R102, R103) -/

/-- A search leaves the queue. -/
def Dev.searchGone (d : Dev) (i : Nat) : Dev := { d with sky := { d.sky with queue := d.sky.queue.eraseIdx i } }.acqCount

/-- A host's search for no channel, that has found nothing and has no second pass, puts out its result and completes. -/
theorem Dev.searchDone_none {d : Dev} {i : Nat} {x : Search} {q : Desc} (hx : d.sky.queue[i]? = some x) (desc : x.desc = some q) (chan : x.chan = none)
    (pass : x.pass ≠ 1) : d.searchDone i none =
      ((d.searchGone i).toHost (fld q.area 16 8) (searchResult false ⟨0, 0, 0, 0, 0⟩ 0xFFFF x.nbins)).complete q .done := by
  unfold Dev.searchDone
  simp only [hx, desc, chan, pass, Option.isSome_none, Bool.false_and, Bool.not_false, Bool.true_and, Bool.false_eq_true, if_false, decide_false,
    Option.getD_none, Dev.searchGone]

theorem DevFrame.searchGone (d : Dev) (i : Nat) : DevFrame [.sky] [] [R.ACQ_STATUS_QUEUE] d (d.searchGone i) :=
  ((DevFrame.sky d _).mono (by decide)).next (.set _ (g := R.ACQ_STATUS_QUEUE) (by decide) _ 0 0) (by decide)

/-- A result put out, or not while the link is down. -/
structure ToHost (a b : Dev) : Prop where
  only : b = { a with out := b.out }
  out : ∃ l, b.out = a.out ++ l

theorem Dev.toHost_puts (d : Dev) (n : Nat) (b : List Byte) : ToHost d (d.toHost n b) := by
  unfold Dev.toHost
  split
  · exact ⟨rfl, _, rfl⟩
  · exact ⟨rfl, [], (List.append_nil _).symm⟩

theorem ToHost.sameLink {a b : Dev} (h : ToHost a b) : SameLink a b := by
  obtain ⟨he, -⟩ := h
  rw [he]
  exact ⟨rfl, rfl, rfl, fun _ _ _ => rfl⟩

theorem ToHost.frame {a b : Dev} (h : ToHost a b) : DevFrame [.out] [] [] a b := by
  obtain ⟨he, -⟩ := h
  rw [he]
  exact ⟨rfl, .of_regs rfl⟩

theorem SameLink.trans {a b c : Dev} (h : SameLink a b) (k : SameLink b c) : SameLink a c :=
  ⟨k.sys.trans h.sys, k.boot.trans h.boot, k.master.trans h.master, fun f hf i => (k.regs f hf i).trans (h.regs f hf i)⟩

theorem SameLink.searchGone (d : Dev) (i : Nat) : SameLink d (d.searchGone i) :=
  ⟨rfl, rfl, rfl, fun f hf j => (DevFrame.searchGone d i).read (by revert f; decide) j 0⟩

theorem exec_searchDone {s : State} (run : s.dev.runs .acq = true) (i : Nat) (hit : Option Hit) :
    exec (.searchDone i hit) s = .next { s with dev := s.dev.searchDone i hit } :=
  onRun_next (f := fun d => d.searchDone i hit) run

/-! ### Candidates held too long (R99) -/

/-- The candidate, its second over, is dropped and counted. -/
def Dev.candDropped (d : Dev) (c : Cand) : Dev :=
  let x := d.passToMono (c.t + second)
  { x with sky := { x.sky with cands := x.sky.cands.erase c } }.inc R.ACQ_STATUS_DROPPED

theorem exec_candidateDrop {s : State} {c : Cand} (run : s.dev.runs .corr = true) (h : s.dev.sky.cands.find? (fun c => !c.handover) = some c) :
    exec .candidateDrop s = .next { s with dev := s.dev.candDropped c } := by
  simp only [exec, execCandidateDrop, onRun, onDev, run, h, if_true, Dev.candDropped]

theorem DevFrame.candDropped (d : Dev) (c : Cand) : DevFrame [.clk, .sky] [] [R.ACQ_STATUS_DROPPED] d (d.candDropped c) :=
  (((DevFrame.passToMono d _).mono (by decide)).next (.sky _ _) (by decide)).next (.set _ (g := R.ACQ_STATUS_DROPPED) (by decide) _ 0 0) (by decide)

theorem Dev.get_candDropped (d : Dev) (c : Cand) :
    (d.candDropped c).get R.ACQ_STATUS_DROPPED = min (d.get R.ACQ_STATUS_DROPPED + 1) 255 :=
  (Dev.get_set_self _ _ _ _ _ (by decide)).trans (Nat.mod_eq_of_lt (Nat.lt_of_le_of_lt (Nat.min_le_right _ _) (by decide)))

/-- Settles O19: the four answers to a descriptor; a capture; a bin; the end of a host's search; a candidate dropped. -/
theorem searches : Obligations.Searches := by
  unfold Obligations.Searches
  refine ⟨fun q s h ok gate on lock room => ?_, fun q s h bad room => ?_, fun q s h ok room gate => ?_, fun q s h ok room gate off => ?_,
    fun c b s run => ?_, fun e no i x s run he ok hno hx hn => ?_, fun i x q s run hx desc chan pass hq => ?_, fun c s run h => ?_⟩
  · have hsearch : s.dev.skySearch = (s.dev.taken q).enqueue (s.dev.searchOf q) := by
      simp [Dev.skySearch_ready h room, ok, gate, on, lock]
    have hstep := EnqStep.enqueue (s.dev.taken q) (s.dev.searchOf q)
    obtain ⟨hqueue, hcount⟩ := Dev.enqueue_room (d := s.dev.taken q) room on (s.dev.searchOf q)
    rw [← hsearch] at hstep hqueue hcount
    exact ⟨_, rfl, ⟨_, hqueue, rfl, rfl, rfl, rfl, rfl, rfl⟩, hcount,
      (((DevFrame.taken s.dev q).mono (by decide)).next hstep.frame (by decide)).frame⟩
  · have hsearch : s.dev.skySearch = (s.dev.taken q).complete q .badDescriptor := by simp [Dev.skySearch_ready h room, bad]
    have hend := Completes.of_taken h.awaits .badDescriptor
    rw [← hsearch] at hend
    exact ⟨_, rfl, hend⟩
  · have hsearch : s.dev.skySearch = (s.dev.taken q).complete q .refusedState := by simp [Dev.skySearch_ready h room, ok, gate]
    have hend := Completes.of_taken h.awaits .refusedState
    rw [← hsearch] at hend
    exact ⟨_, rfl, hend⟩
  · have hoff : (!s.dev.on R.SKY_CTRL_ACQ_EN || !s.dev.bit R.SKY_STATUS_RF_LOCK (fld q.area 2 1)) = true := by simpa using off
    have hsearch : s.dev.skySearch = (s.dev.taken q).complete q .aborted := by
      rw [Dev.skySearch_ready h room, if_neg (by simp [ok]), if_neg (by simp [gate]), if_pos hoff]
    have hend := Completes.of_taken h.awaits .aborted
    rw [← hsearch] at hend
    exact ⟨_, rfl, hend⟩
  · refine ⟨_, exec_acqCaptureDone run c b, fun x hx hc hb => ?_, List.length_map _, (DevFrame.sky s.dev _).frame⟩
    obtain ⟨y, -, rfl⟩ := List.mem_map.1 hx
    exact Search.captured_served hc hb
  · refine ⟨_, exec_acqBinDone run he, ?_, (DevFrame.binDone s.dev e).frame⟩
    dsimp only
    rw [Dev.queue_binDone ok hno, List.getElem?_map, hx]
    simp [Search.binned, hn]
  · have hput := (s.dev.searchGone i).toHost_puts (fld q.area 16 8) (searchResult false ⟨0, 0, 0, 0, 0⟩ 0xFFFF x.nbins)
    have hframe := DevFrame.searchGone s.dev i
    have hlink := SameLink.searchGone s.dev i
    refine ⟨_, exec_searchDone run i none, ?_⟩
    rw [Dev.searchDone_none hx desc chan pass]
    generalize (s.dev.searchGone i).toHost (fld q.area 16 8) (searchResult false ⟨0, 0, 0, 0, 0⟩ 0xFFFF x.nbins) = y at hput
    have hsky : y.sky = (s.dev.searchGone i).sky := by rw [hput.only]
    have hring : y.ring.live = s.dev.ring.live := by
      rw [hput.only]
      rfl
    obtain ⟨l, hl⟩ := hput.out
    have hawaits : Awaits q y := hq.of_same (hlink.trans hput.sameLink) hring
    refine ⟨(congrArg Sky.queue ((Dev.rest_sky (y.rest_complete q .done)).trans hsky)).trans rfl, .of_complete hawaits .done hl, ?_⟩
    exact (((hframe.mono (by decide)).next hput.frame (by decide)).next (ComplStep.complete y q .done).frame (by decide)).frame
  · refine ⟨_, exec_candidateDrop run h, rfl, ?_, s.dev.get_candDropped c, (DevFrame.candDropped s.dev c).frame⟩
    exact Nat.le_trans (Nat.le_max_right _ _) (Nat.le_of_eq (s.dev.mono_passToMono (c.t + second)).symm)

end Sys2Proof.Machine
end

section
/-!
PROOFS. The sky search started again (R96) and repeated (R98).
-/

namespace Sys2Proof.Machine

theorem EnqStep.clk {a b : Dev} (h : EnqStep a b) : b.clk = a.clk := (congrArg Dev.clk h.frame.parts :)

/-! ### RESTART (R96) -/

/-- While AUTO_SKY is off a start is noted and no more. -/
theorem Dev.skyStart_of_off {d : Dev} (off : d.on R.SKY_CTRL_AUTO_SKY = false) (i : StartInfo) : d.skyStart i = d.startNoted i := by
  have hoff : (d.startNoted i).on R.SKY_CTRL_AUTO_SKY = false := by
    rwa [Dev.on, (DevFrame.startNoted d i).read (by decide)]
  unfold Dev.skyStart
  extract_lets n sky x y
  have hy : y.on R.SKY_CTRL_AUTO_SKY = false := hoff
  rw [if_pos (by simp [hy])]
  rfl

/-- The device's own searches and candidates discarded. -/
def Dev.ownDropped (d : Dev) : Dev :=
  let x := d.dropSearches (fun x => x.kind == .auto) .aborted
  { x with sky := { x.sky with cands := x.sky.cands.filter fun c => c.handover, requeue := [] } }.set R.ACQ_STATUS_SKY_DONE 0

theorem SearchStep.on_autoSky {a b : Dev} (h : SearchStep a b) : b.on R.SKY_CTRL_AUTO_SKY = a.on R.SKY_CTRL_AUTO_SKY :=
  congrArg (· != 0) (h.regs.read (by decide) 0 0)

theorem Dev.on_ownDropped (d : Dev) : d.ownDropped.on R.SKY_CTRL_AUTO_SKY = d.on R.SKY_CTRL_AUTO_SKY := by
  have hset : d.ownDropped.get R.SKY_CTRL_AUTO_SKY = (d.dropSearches (fun x => x.kind == .auto) .aborted).get R.SKY_CTRL_AUTO_SKY :=
    Dev.get_set_sky _ (by decide) (by decide) (by decide) _ _ _ _ _
  rw [← (SearchStep.dropSearches d (fun x => x.kind == .auto) .aborted).on_autoSky, Dev.on, hset, Dev.on]

theorem Dev.sky_ownDropped (d : Dev) : d.ownDropped.sky =
    { d.sky with queue := d.sky.queue.filter fun x => !(x.kind == .auto), cands := d.sky.cands.filter fun c => c.handover, requeue := [] } := by
  have hsky := d.sky_dropSearches (fun x => x.kind == .auto) .aborted
  exact (congrArg (fun x : Sky => { x with cands := x.cands.filter fun c => c.handover, requeue := [] }) hsky)

theorem Dev.acqCtrlWrite_restart {d : Dev} {v : Nat} (h : bitOf v 4 = true) (i : StartInfo) :
    d.acqCtrlWrite v i = (d.writeAddr R.ACQ_CTRL_RESTART.addr v).ownDropped.skyStart i := if_pos h

theorem exec_acqRestart {s : State} (w : s.dev.writable R.ACQ_CTRL_RESTART = true) (v : Word32) (i : StartInfo) :
    exec (.acqRestart v i) s = .next { s with dev := s.dev.acqCtrlWrite v.toNat i } :=
  onReg_next (g := fun d => d.acqCtrlWrite v.toNat i) w

/-! ### The repeat (R98) -/

/-- The second pass for an identifier. -/
def Dev.repeatSearch (d : Dev) (x : Nat × Nat × Nat) : Search :=
  { d.classSearch .auto x.1 x.2.1 x.2.2 with pass := 2, k := (d.classSearch .auto x.1 x.2.1 x.2.2).k * d.get R.ACQ_CLASS_CFG_P2_MULT x.1 }

/-- It is queued, unless a channel holds the identifier or its band has no RF lock. -/
def Dev.repeatStep (d : Dev) (x : Nat × Nat × Nat) : Dev :=
  if d.onChannel x.2.2 (classSig x.1 x.2.2) || !d.bit R.SKY_STATUS_RF_LOCK x.2.1 then d else d.enqueue (d.repeatSearch x)

theorem EnqStep.repeatStep (d : Dev) (x : Nat × Nat × Nat) : EnqStep d (d.repeatStep x) := .ite (.refl d) (.enqueue d _)

/-- The time of the repeat is come, and noted. -/
def Dev.repeatDue (d : Dev) : Dev :=
  let x := d.passToMono (d.sky.repeatAt + 10 * second)
  { x with sky := { x.sky with repeatAt := x.clk.mono } }

theorem exec_autoSkyRepeat {s : State} (run : s.dev.runs .sky = true) (auto : s.dev.on R.SKY_CTRL_AUTO_SKY = true) (on : s.dev.on R.SKY_CTRL_ACQ_EN = true)
    (done : s.dev.on R.ACQ_STATUS_SKY_DONE = true) :
    exec .autoSkyRepeat s = .next { s with dev := coldList.foldl Dev.repeatStep s.dev.repeatDue } := by
  have hall : (s.dev.on R.SKY_CTRL_AUTO_SKY && s.dev.on R.SKY_CTRL_ACQ_EN && s.dev.on R.ACQ_STATUS_SKY_DONE) = true := by
    rw [auto, on, done]
    rfl
  simp only [exec, execAutoSkyRepeat, onRun, onDev, run, hall, if_true]
  rfl

/-- Acquisition is enabled, every band has RF lock, and no sky channel is taken. -/
structure SkyFree (d : Dev) : Prop where
  on : d.on R.SKY_CTRL_ACQ_EN = true
  lock : d.get R.SKY_STATUS_RF_LOCK = 7
  idle : ∀ ch < 180, d.get R.TRK_CH_STAT_STATE ch = 0

theorem SkyFree.of_frame {ps : List Part} {fs : List Fld} {a b : Dev} (h : SkyFree a) (k : DevFrame ps [] fs a b)
    (n : ∀ f ∈ [R.SKY_CTRL_ACQ_EN, R.SKY_STATUS_RF_LOCK, R.TRK_CH_STAT_STATE], f ∉ fs) : SkyFree b where
  on := by rw [Dev.on, k.read ⟨by decide, by decide, n _ (by decide)⟩]; exact h.on
  lock := (k.read ⟨by decide, by decide, n _ (by decide)⟩ 0 0).trans h.lock
  idle ch hch := (k.read ⟨by decide, by decide, n _ (by decide)⟩ ch 0).trans (h.idle ch hch)

theorem SkyFree.onChannel {d : Dev} (h : SkyFree d) (sat sig : Nat) : d.onChannel sat sig = false := by
  unfold Dev.onChannel
  rw [List.any_eq_false]
  intro ch hch
  simp [h.idle ch (List.mem_range.1 hch)]

/-- While there is room the second pass of an identifier on band A or C is queued. -/
theorem SkyFree.queue_repeatStep {d : Dev} (h : SkyFree d) (room : d.sky.queue.length < 256) {x : Nat × Nat × Nat} (band : bitOf 7 x.2.1 = true) :
    (d.repeatStep x).sky.queue = d.sky.queue ++ [{ d.repeatSearch x with no := d.sky.nextNo }] := by
  have hgo : (d.onChannel x.2.2 (classSig x.1 x.2.2) || !d.bit R.SKY_STATUS_RF_LOCK x.2.1) = false := by
    rw [h.onChannel, Dev.bit, h.lock, band]
    rfl
  unfold Dev.repeatStep
  rw [hgo]
  exact (Dev.enqueue_room room h.on _).1

/-- A queued second pass for an identifier. -/
abbrev SecondPass (x : Nat × Nat × Nat) (y : Search) : Prop := y.cls = x.1 ∧ y.band = x.2.1 ∧ y.sat = x.2.2 ∧ y.pass = 2

theorem SkyFree.repeatSteps (l : List (Nat × Nat × Nat)) {d : Dev} (h : SkyFree d) (room : d.sky.queue.length + l.length ≤ 256)
    (bands : ∀ x ∈ l, bitOf 7 x.2.1 = true) :
    ∃ ys, (l.foldl Dev.repeatStep d).sky.queue = d.sky.queue ++ ys ∧ ∀ x ∈ l, ∃ y ∈ ys, SecondPass x y := by
  induction l generalizing d with
  | nil => exact ⟨[], (List.append_nil _).symm, by simp⟩
  | cons x l ih =>
    rw [List.length_cons] at room
    have hqueue := h.queue_repeatStep (by omega) (bands x List.mem_cons_self)
    have hfree : SkyFree (d.repeatStep x) := h.of_frame (EnqStep.repeatStep d x).frame (by decide)
    have hlen : (d.repeatStep x).sky.queue.length = d.sky.queue.length + 1 := by rw [hqueue, List.length_append, List.length_singleton]
    obtain ⟨ys, hys, hall⟩ := ih hfree (by omega) fun y hy => bands y (List.mem_cons_of_mem _ hy)
    refine ⟨{ d.repeatSearch x with no := d.sky.nextNo } :: ys, by rw [List.foldl_cons, hys, hqueue, List.append_assoc]; rfl, fun y hy => ?_⟩
    rcases List.mem_cons.1 hy with rfl | hy
    · exact ⟨_, List.mem_cons_self, rfl, rfl, rfl, rfl⟩
    · obtain ⟨z, hz, hp⟩ := hall y hy
      exact ⟨z, List.mem_cons_of_mem _ hz, hp⟩

theorem coldList_length : coldList.length = 169 := by simp [coldList]

/-- The signals of a cold start are on the bands A and C. -/
theorem coldList_band : ∀ x ∈ coldList, bitOf 7 x.2.1 = true := by
  have hband : bitOf 7 0 = true ∧ bitOf 7 2 = true := by decide
  intro x hx
  simp only [coldList, List.mem_append, List.mem_map] at hx
  rcases hx with ((((⟨_, -, rfl⟩ | ⟨_, -, rfl⟩) | ⟨_, -, rfl⟩) | ⟨_, -, rfl⟩) | ⟨_, -, rfl⟩) | ⟨_, -, rfl⟩ <;> simp only [hband]

theorem DevFrame.repeatDue (d : Dev) : DevFrame [.clk, .sky] [] [] d d.repeatDue :=
  ((DevFrame.passToMono d _).mono (by decide)).next (.sky _ _) (by decide)

/-- Settles O20: RESTART, while AUTO_SKY is off; the repeat, while no channel is taken and the queue is empty. -/
theorem skySearchRepeats : Obligations.SkySearchRepeats := by
  unfold Obligations.SkySearchRepeats
  refine ⟨fun v i s w restart off => ?_, fun s run auto on done empty idle lock => ?_⟩
  · refine ⟨_, exec_acqRestart w v i, ?_⟩
    rw [Dev.acqCtrlWrite_restart restart]
    have hoff : (s.dev.writeAddr R.ACQ_CTRL_RESTART.addr v.toNat).on R.SKY_CTRL_AUTO_SKY = false := by
      rw [Dev.on, get_writeAddr_of_addr_ne s.dev (mem_of_skyFlds (by decide)) (by decide) (by decide)]
      exact off
    generalize s.dev.writeAddr R.ACQ_CTRL_RESTART.addr v.toNat = d at hoff
    rw [Dev.skyStart_of_off (d.on_ownDropped.trans hoff)]
    have hsky := (d.ownDropped.sky_startNoted i).trans
      (congrArg (fun x : Sky => { x with started := true, repeatAt := d.ownDropped.clk.mono, known := i }) d.sky_ownDropped)
    have hdone : (d.ownDropped.startNoted i).get R.ACQ_STATUS_SKY_DONE = 0 :=
      ((DevFrame.startNoted d.ownDropped i).read (by decide) 0 0).trans (Dev.get_set_self _ _ _ _ _ (by decide))
    dsimp only
    rw [hsky]
    refine ⟨fun x hx => ?_, rfl, hdone, rfl, fun c hc => (List.mem_filter.1 hc).2⟩
    simpa using (List.mem_filter.1 hx).2
  · have hdue := DevFrame.repeatDue s.dev
    have hfree : SkyFree s.dev.repeatDue := (SkyFree.mk on lock idle).of_frame hdue (by decide)
    have hroom : s.dev.repeatDue.sky.queue.length + coldList.length ≤ 256 := by
      have hq : s.dev.repeatDue.sky.queue = [] := empty
      rw [hq, coldList_length]
      decide
    obtain ⟨ys, hys, hall⟩ := hfree.repeatSteps coldList hroom coldList_band
    have hstep : EnqStep s.dev.repeatDue (coldList.foldl Dev.repeatStep s.dev.repeatDue) := .foldl .repeatStep _ _
    have hat : s.dev.repeatDue.sky.repeatAt = s.dev.repeatDue.clk.mono := rfl
    have hmono : s.dev.sky.repeatAt + 10 * second ≤ s.dev.repeatDue.clk.mono :=
      Nat.le_trans (Nat.le_max_right _ _) (Nat.le_of_eq (s.dev.mono_passToMono _).symm)
    refine ⟨_, exec_autoSkyRepeat run auto on done, ?_⟩
    dsimp only
    generalize coldList.foldl Dev.repeatStep s.dev.repeatDue = y at hys hstep
    refine ⟨?_, ?_, fun x hx => ?_, ((hdue.mono (by decide)).next hstep.frame (by decide)).frame⟩
    · rw [hstep.clk]
      exact hmono
    · rw [hstep.clk, hstep.sky]
      exact hat
    · obtain ⟨z, hz, hp⟩ := hall x hx
      exact ⟨z, hys ▸ List.mem_append_right _ hz, hp⟩

end Sys2Proof.Machine
end

section
/-!
PROOFS. The sky front disabled and faulted (R104-R106).
-/

namespace Sys2Proof.Machine

/-! ### A band without its lock (R82, R104, R105) -/

/-- A band loses RF lock, and its synthesizer shows none. -/
def Dev.bandCut (d : Dev) (b : Nat) : Dev := (d.rfLost b).setBit R.SKY_STATUS_PLL_LOCK b false

/-- The bits of a band: its enable, RF lock and synthesizer lock. -/
structure BandFace where
  on : Bool
  rf : Bool
  pll : Bool

def Dev.bandFace (d : Dev) (b : Nat) : BandFace :=
  { on := d.bit R.SKY_CTRL_BAND_EN b, rf := d.bit R.SKY_STATUS_RF_LOCK b, pll := d.bit R.SKY_STATUS_PLL_LOCK b }

theorem KeepRegs.bandFace {ws : List Nat} {fs : List Fld} {x y : Dev} (h : KeepRegs ws fs x y)
    (n : ∀ f ∈ [R.SKY_CTRL_BAND_EN, R.SKY_STATUS_RF_LOCK, R.SKY_STATUS_PLL_LOCK], Outside ws fs f) (b : Nat) : y.bandFace b = x.bandFace b := by
  simp only [Dev.bandFace, Dev.bit, h.read (n R.SKY_CTRL_BAND_EN (by decide)), h.read (n R.SKY_STATUS_RF_LOCK (by decide)),
    h.read (n R.SKY_STATUS_PLL_LOCK (by decide))]

theorem SearchStep.bandFace {x y : Dev} (h : SearchStep x y) (b : Nat) : y.bandFace b = x.bandFace b := h.regs.bandFace (by decide) b

/-- What a write of a bit of RF_LOCK shows. -/
theorem Dev.bandFace_setRf (d : Dev) {b c : Nat} (hb : b < 3) (hc : c < 3) (v : Bool) : (d.setBit R.SKY_STATUS_RF_LOCK b v).bandFace c =
    { d.bandFace c with rf := if c = b then v else (d.bandFace c).rf } := by
  have hframe := DevFrame.set d (g := R.SKY_STATUS_RF_LOCK) (by decide) (putBit (d.get R.SKY_STATUS_RF_LOCK) b v) 0 0
  have hbit := d.bit_setBit (f := R.SKY_STATUS_RF_LOCK) (by decide) (by decide) hb hc v
  unfold Dev.bandFace
  rw [hbit]
  congr 1
  · exact congrArg (bitOf · c) (hframe.read (by decide) 0 0)
  · exact congrArg (bitOf · c) (hframe.read (by decide) 0 0)

/-- What a write of a bit of PLL_LOCK shows. -/
theorem Dev.bandFace_setPll (d : Dev) {b c : Nat} (hb : b < 3) (hc : c < 3) (v : Bool) : (d.setBit R.SKY_STATUS_PLL_LOCK b v).bandFace c =
    { d.bandFace c with pll := if c = b then v else (d.bandFace c).pll } := by
  have hframe := DevFrame.set d (g := R.SKY_STATUS_PLL_LOCK) (by decide) (putBit (d.get R.SKY_STATUS_PLL_LOCK) b v) 0 0
  have hbit := d.bit_setBit (f := R.SKY_STATUS_PLL_LOCK) (by decide) (by decide) hb hc v
  unfold Dev.bandFace
  rw [hbit]
  congr 1
  · exact congrArg (bitOf · c) (hframe.read (by decide) 0 0)
  · exact congrArg (bitOf · c) (hframe.read (by decide) 0 0)

/-- A band that is cut shows neither lock; the others show what they did. -/
theorem Dev.bandFace_bandCut (d : Dev) {b c : Nat} (hb : b < 3) (hc : c < 3) :
    (d.bandCut b).bandFace c = if c = b then ⟨(d.bandFace c).on, false, false⟩ else d.bandFace c := by
  unfold Dev.bandCut
  rw [Dev.bandFace_setPll _ hb hc, (SearchStep.rfLost d b).bandFace, Dev.bandFace_setRf _ hb hc]
  split <;> rfl

theorem Dev.clk_bandCut (d : Dev) (b : Nat) : (d.bandCut b).clk = d.clk := by
  have hset : ∀ (x : Dev) f n v, (x.setBit f n v).clk = x.clk := fun _ _ _ _ => rfl
  rw [Dev.bandCut, hset, (SearchStep.rfLost d b).clk, hset]

/-! ### A write of SKY_CTRL (R104) -/

/-- What a write does to a band: one that is disabled is cut, one that is enabled starts its synthesizer. -/
def Dev.bandStep (d : Dev) (old b : Nat) : Dev :=
  if bitOf old b && !d.bit R.SKY_CTRL_BAND_EN b then d.chainOff b
  else if !bitOf old b && d.bit R.SKY_CTRL_BAND_EN b then d.setBit R.SKY_STATUS_PLL_LOCK b true
  else d

/-- The fields written, and then the three bands. -/
def Dev.bandsWritten (d : Dev) (v : Nat) : Dev :=
  (List.range 3).foldl (fun x b => x.bandStep (d.get R.SKY_CTRL_BAND_EN) b) (d.writeAddr R.SKY_CTRL_BAND_EN.addr v)

theorem Dev.skyCtrlWrite_eq (d : Dev) (v : Nat) : d.skyCtrlWrite v =
    if d.on R.SKY_CTRL_ACQ_EN && !(d.bandsWritten v).on R.SKY_CTRL_ACQ_EN then (d.bandsWritten v).acqDisable else d.bandsWritten v := rfl

theorem Dev.bandFace_chainOff (d : Dev) {b c : Nat} (hb : b < 3) (hc : c < 3) :
    (d.chainOff b).bandFace c = if c = b then ⟨(d.bandFace c).on, false, false⟩ else d.bandFace c := by
  rw [← d.bandFace_bandCut hb hc]
  have hset : KeepRegs [] [R.SKY_AGC_STAT_SETTLED] (d.bandCut b) (d.chainOff b) := (DevFrame.set _ (by decide) 0 b 0).regs.upd rfl
  exact hset.bandFace (by decide) c

theorem Dev.bandFace_bandStep_ne (d : Dev) (old : Nat) {b c : Nat} (hb : b < 3) (hc : c < 3) (n : c ≠ b) :
    (d.bandStep old b).bandFace c = d.bandFace c := by
  unfold Dev.bandStep
  split
  · rw [d.bandFace_chainOff hb hc, if_neg n]
  · split
    · rw [d.bandFace_setPll hb hc, if_neg n]
    · rfl

/-- A band that was enabled, and is no more, is cut. -/
theorem Dev.bandFace_bandStep_off {d : Dev} {old b : Nat} (hb : b < 3) (was : bitOf old b = true) (off : (d.bandFace b).on = false) :
    (d.bandStep old b).bandFace b = ⟨false, false, false⟩ := by
  have hoff : d.bit R.SKY_CTRL_BAND_EN b = false := off
  unfold Dev.bandStep
  rw [if_pos (by simp [was, hoff]), d.bandFace_chainOff hb hb, if_pos rfl, off]

/-- No band is cut that the write leaves enabled. -/
theorem DevFrame.bandStep_up {d : Dev} {old b : Nat} (up : bitOf old b = true → d.bit R.SKY_CTRL_BAND_EN b = true) :
    DevFrame [] [] [R.SKY_STATUS_PLL_LOCK] d (d.bandStep old b) := by
  have hno : ¬ (bitOf old b && !d.bit R.SKY_CTRL_BAND_EN b) = true := by
    cases hold : bitOf old b
    · simp
    · simp [up hold]
  unfold Dev.bandStep
  rw [if_neg hno]
  exact .ite (.set d (by decide) _ 0 0) (.refl _ _ _ d)

theorem Dev.bit_writeAddr_bandEn (d : Dev) (v : Nat) {b : Nat} (hb : b < 3) :
    (d.writeAddr R.SKY_CTRL_BAND_EN.addr v).bit R.SKY_CTRL_BAND_EN b = bitOf v b := by
  have hsmall : ∀ n < 2 ^ 3, ∀ b < 3, bitOf (Nat.land n 7) b = bitOf n b := by decide
  have hread : (d.writeAddr R.SKY_CTRL_BAND_EN.addr v).get R.SKY_CTRL_BAND_EN = Nat.land (v / 2 ^ 0 % 2 ^ 3) 7 :=
    get_writeAddr_listed d (i := 0) (j := 0) (mem_of_skyFlds (by decide)) (by decide) (by decide) rfl
  rw [Dev.bit, hread, hsmall _ (Nat.mod_lt _ (by decide)) b hb, bitOf_eq_testBit, bitOf_eq_testBit, Nat.testBit_mod_two_pow, Nat.pow_zero, Nat.div_one,
    decide_eq_true hb, Bool.true_and]

theorem Dev.get_writeAddr_acqEn (d : Dev) {v : Nat} (h : bitOf v 4 = false) :
    (d.writeAddr R.SKY_CTRL_BAND_EN.addr v).get R.SKY_CTRL_ACQ_EN = 0 := by
  have hread : (d.writeAddr R.SKY_CTRL_BAND_EN.addr v).get R.SKY_CTRL_ACQ_EN = Nat.land (v / 2 ^ 4 % 2 ^ 1) 1 :=
    get_writeAddr_listed d (i := 0) (j := 0) (mem_of_skyFlds (by decide)) (by decide) (by decide) rfl
  have hbit : v / 2 ^ 4 % 2 ^ 1 = 0 := by
    have hne : v / 2 ^ 4 % 2 ≠ 1 := by simpa [bitOf] using h
    omega
  rw [hread, hbit]
  rfl

/-- A write that clears no bit of BAND_EN cuts no band. -/
theorem Dev.bandsWritten_up {d : Dev} {v : Nat} (h : Nat.land (d.get R.SKY_CTRL_BAND_EN) v = d.get R.SKY_CTRL_BAND_EN) :
    DevFrame [] [] [R.SKY_STATUS_PLL_LOCK] (d.writeAddr R.SKY_CTRL_BAND_EN.addr v) (d.bandsWritten v) := by
  have hstays : ∀ b, bitOf (d.get R.SKY_CTRL_BAND_EN) b = true → bitOf v b = true := by
    intro b hb
    have hand : d.get R.SKY_CTRL_BAND_EN &&& v = d.get R.SKY_CTRL_BAND_EN := h
    rw [bitOf_eq_testBit, ← hand, Nat.testBit_and, Bool.and_eq_true] at hb
    rw [bitOf_eq_testBit]
    exact hb.2
  refine List.foldlRecOn (motive := DevFrame [] [] [R.SKY_STATUS_PLL_LOCK] (d.writeAddr R.SKY_CTRL_BAND_EN.addr v)) (List.range 3) _ (.refl _ _ _ _)
    fun x hx b hb => hx.trans (.bandStep_up fun was => ?_)
  rw [Dev.bit, hx.read (by decide)]
  exact (d.bit_writeAddr_bandEn v (List.mem_range.1 hb)).trans (hstays b was)

/-- A band that the write disables is cut. -/
theorem Dev.bandFace_bandsWritten {d : Dev} {v b : Nat} (hb : b < 3) (was : d.bit R.SKY_CTRL_BAND_EN b = true) (off : bitOf v b = false) :
    (d.bandsWritten v).bandFace b = ⟨false, false, false⟩ := by
  obtain ⟨x, hx, hend⟩ := face_of_bands (f := fun (b : Fin 3) x => x.bandStep (d.get R.SKY_CTRL_BAND_EN) b) (face := fun (b : Fin 3) x => x.bandFace b)
    (fun b c x n => x.bandFace_bandStep_ne _ b.isLt c.isLt fun h => n (Fin.ext h)) ⟨b, hb⟩ (d.writeAddr R.SKY_CTRL_BAND_EN.addr v)
  have hoff : (x.bandFace b).on = false := (congrArg BandFace.on hx).trans ((d.bit_writeAddr_bandEn v hb).trans off)
  exact hend.trans (Dev.bandFace_bandStep_off hb was hoff)

/-! ### Acquisition disabled (R104) -/

theorem Dev.sky_acqDisable (d : Dev) : d.acqDisable.sky.queue = [] ∧ d.acqDisable.sky.engine = [] := by
  have hsky := congrArg Sky.queue (d.sky_dropSearches (fun _ => true) .aborted)
  exact ⟨hsky.trans (List.filter_false _), rfl⟩

theorem KeepRegs.acqDisable (d : Dev) : KeepRegs [0x04] searchFlds d d.acqDisable := by
  have hdrop := SearchStep.dropSearches d (fun _ => true) .aborted
  unfold Dev.acqDisable
  generalize d.dropSearches (fun _ => true) .aborted = x at hdrop
  exact hdrop.regs.upd rfl

theorem Dev.isLive_acqDisable {d : Dev} (run : d.ringsHeld = false) {x : Search} {q : Desc} (hx : x ∈ d.sky.queue) (hq : x.desc = some q) :
    d.acqDisable.isLive q = false :=
  Dev.isLive_dropSearches (p := fun _ => true) run .aborted (List.mem_filter.2 ⟨hx, rfl⟩) hq

theorem DevFrame.eq_regs {ws : List Nat} {fs : List Fld} {x y : Dev} (h : DevFrame [] ws fs x y) : y = { x with regs := y.regs } :=
  congrArg (fun z : Dev => { z with regs := y.regs }) h.parts

/-- Bands written and none cut, the rings are held as before. -/
theorem Dev.ringsHeld_bandsWritten {d : Dev} {v : Nat} (h : Nat.land (d.get R.SKY_CTRL_BAND_EN) v = d.get R.SKY_CTRL_BAND_EN) :
    (d.bandsWritten v).ringsHeld = d.ringsHeld ∧ (d.bandsWritten v).sky = d.sky := by
  have hframe := Dev.bandsWritten_up h
  have hregs : d.bandsWritten v = { d with regs := (d.bandsWritten v).regs } :=
    hframe.eq_regs.trans (congrArg (fun x : Dev => { x with regs := (d.bandsWritten v).regs }) (writeAddr_eq_regs d R.SKY_CTRL_BAND_EN.addr v))
  refine ⟨Dev.ringsHeld_congr (by rw [hregs]) (by rw [hregs]) fun f hf => ?_, by rw [hregs]⟩
  · have hne : f ∈ skyFlds ∧ f ≠ R.RING_DEV_IRQ_BLOCK ∧ f.addr ≠ R.SKY_CTRL_BAND_EN.addr ∧ Outside [] [R.SKY_STATUS_PLL_LOCK] f := by
      revert f
      decide
    obtain ⟨hm, hirq, haddr, hout⟩ := hne
    exact (hframe.read hout 0 0).trans (get_writeAddr_of_addr_ne d (mem_of_skyFlds hm) hirq haddr v)

/-! ### A band faulted and retried (R105) -/

/-- The next attempt is timed from now. -/
def Dev.retryTimed (d : Dev) (b : Nat) : Dev := { d with sky := { d.sky with retryAt := tabPut d.sky.retryAt b d.clk.mono } }

theorem DevFrame.retryTimed (d : Dev) (b : Nat) : DevFrame [.sky] [] [] d (d.retryTimed b) := .sky d _

theorem Dev.retryAt_retryTimed (d : Dev) (b : Nat) : tabFind (d.retryTimed b).sky.retryAt b = some d.clk.mono := tabFind_put_self _ _ _

/-- The fault is set and recorded. -/
def Dev.faultTold (d : Dev) (b cause : Nat) : Dev :=
  (d.raise R.SKY_STATUS_BAND_FAULT 0 (2 ^ b)).record 0x0304 (u8 b ++ u8 (Config.argCode 0x0304 cause))

theorem Dev.bandFault_eq (d : Dev) (b cause : Nat) : d.bandFault b cause = ((d.bandCut b).faultTold b cause).retryTimed b := by
  unfold Dev.bandFault Dev.faultTold Dev.bandCut Dev.retryTimed
  rfl

theorem DevFrame.faultTold (d : Dev) (b cause : Nat) : DevFrame reports reportWs [R.SKY_STATUS_BAND_FAULT] d (d.faultTold b cause) :=
  ((DevFrame.raise d (f := R.SKY_STATUS_BAND_FAULT) (by decide) (by decide) 0 (2 ^ b)).mono (by decide)).next (.record _ _ _) (by decide)

theorem Dev.clk_faultTold (d : Dev) (b cause : Nat) : (d.faultTold b cause).clk = d.clk := by
  rw [Dev.faultTold, Dev.record_clk, Dev.raise_clk]

theorem Dev.bit_faultTold (d : Dev) {b : Nat} (hb : b < 3) (cause : Nat) : (d.faultTold b cause).bit R.SKY_STATUS_BAND_FAULT b = true := by
  have hread : (d.faultTold b cause).get R.SKY_STATUS_BAND_FAULT = (d.get R.SKY_STATUS_BAND_FAULT ||| 2 ^ b) % 2 ^ 3 := by
    refine ((DevFrame.record _ _ _).read (by decide) 0 0).trans ?_
    refine (Dev.get_devIrq _ (by decide) (mem_of_skyFlds (by decide)) (by decide) 0 0).trans ?_
    exact Dev.get_set_self _ _ _ _ _ (by decide)
  rw [Dev.bit, hread, bitOf_eq_testBit, Nat.testBit_mod_two_pow, Nat.testBit_or, Nat.testBit_two_pow_self, decide_eq_true hb, Bool.or_true]
  rfl

theorem exec_bandFault {s : State} {b : Nat} (run : s.dev.runs .sky = true) (hb : b < 3) (c : Nat) :
    exec (.bandFault b c) s = .next { s with dev := s.dev.bandFault b c } := by
  simp only [exec, execBandFault, onRun, onDev, run, hb, if_true]

/-- The synthesizer locks at a retry. -/
def Dev.retryLocked (d : Dev) (b : Nat) : Dev :=
  ({ d with sky := { d.sky with retryAt := tabDel d.sky.retryAt b } }.setBit R.SKY_STATUS_PLL_LOCK b true).record 0x0304 (u8 b ++ u8 (Config.argCode 0x0304 0))

theorem Dev.retryAt_retryLocked (d : Dev) (b : Nat) : (d.retryLocked b).sky.retryAt = tabDel d.sky.retryAt b := by
  rw [Dev.retryLocked, Dev.record_sky]
  rfl

theorem Dev.clk_retryLocked (d : Dev) (b : Nat) : (d.retryLocked b).clk = d.clk := by
  rw [Dev.retryLocked, Dev.record_clk]
  rfl

theorem Dev.pll_retryLocked (d : Dev) {b : Nat} (hb : b < 3) : ((d.retryLocked b).bandFace b).pll = true := by
  rw [Dev.retryLocked, (DevFrame.record _ _ _).regs.bandFace (by decide), Dev.bandFace_setPll _ hb hb]
  exact if_pos rfl

theorem exec_bandRetry {s : State} {b n : Nat} (run : s.dev.runs .sky = true) (h : tabFind s.dev.sky.retryAt b = some n) (locked : Bool) :
    exec (.bandRetry b locked) s = .next { s with dev :=
      if locked then ((s.dev.passToMono (n + 100 * ms)).retryLocked b).rfLock b else (s.dev.passToMono (n + 100 * ms)).retryTimed b } := by
  simp only [exec, execBandRetry, onRun, onDev, run, h, if_true, Dev.retryLocked, Dev.retryTimed]

/-- What RF lock gained leaves: the synthesizer's lock, the times of the attempts and the clocks. -/
theorem Dev.rfLock_keeps (d : Dev) {b c : Nat} (hb : b < 3) (hc : c < 3) :
    ((d.rfLock b).bandFace c).pll = (d.bandFace c).pll ∧ (d.rfLock b).sky.retryAt = d.sky.retryAt ∧ (d.rfLock b).clk = d.clk := by
  rcases d.rfLock_cases b with he | hstep
  · rw [he]
    exact ⟨rfl, rfl, rfl⟩
  · refine ⟨?_, ?_, hstep.clk⟩
    · rw [hstep.bandFace, d.bandFace_setRf hb hc]
    · rw [hstep.only]
      rfl

/-! ### An FFT engine faulted (R106) -/

/-- The engine reads as failed, and runs nothing. -/
def Dev.engineOff (d : Dev) (e : Nat) : Dev :=
  let x := (d.setBit R.ACQ_STATUS_ENGINE_OK e false).record 0x0305 (u8 e)
  { x with sky := { x.sky with engine := tabDel x.sky.engine e } }

theorem exec_fftEngineFault {s : State} {e : Nat} (run : s.dev.runs .acq = true) (he : e < 2) :
    exec (.fftEngineFault e) s = .next { s with dev := s.dev.engineOff e } := by
  simp only [exec, execFftEngineFault, onRun, onDev, run, he, if_true, Dev.engineOff]

theorem DevFrame.engineOff (d : Dev) (e : Nat) : DevFrame ([.sky] ++ reports) reportWs [R.ACQ_STATUS_ENGINE_OK] d (d.engineOff e) :=
  (((DevFrame.set d (g := R.ACQ_STATUS_ENGINE_OK) (by decide) _ 0 0).mono (by decide)).next (.record _ _ _) (by decide)).next (.sky _ _) (by decide)

theorem Dev.bit_engineOff (d : Dev) {e : Nat} (he : e < 2) : (d.engineOff e).bit R.ACQ_STATUS_ENGINE_OK e = false := by
  have hsmall : ∀ n < 4, ∀ e < 2, bitOf (putBit n e false % 4) e = false := by decide
  have hread : (d.engineOff e).get R.ACQ_STATUS_ENGINE_OK = putBit (d.get R.ACQ_STATUS_ENGINE_OK) e false % 4 :=
    ((DevFrame.record _ _ _).read (f := R.ACQ_STATUS_ENGINE_OK) (by decide) 0 0).trans (Dev.get_set_self _ _ _ _ _ (by decide))
  rw [Dev.bit, hread]
  exact hsmall _ (d.get_lt R.ACQ_STATUS_ENGINE_OK 0 0) e he

theorem exec_acqDisable {s : State} {v : Word32} (w : s.dev.writable R.SKY_CTRL_ACQ_EN = true) (h : bitOf v.toNat 4 = false) :
    exec (.acqDisable v) s = .next { s with dev := s.dev.skyCtrlWrite v.toNat } := by
  simp only [exec, execAcqDisable, onReg, onDev, w, h, if_true, Bool.false_eq_true, if_false]

theorem exec_bandDisable {s : State} {v : Word32} (w : s.dev.writable R.SKY_CTRL_BAND_EN = true)
    (h : Nat.land (s.dev.get R.SKY_CTRL_BAND_EN) v.toNat ≠ s.dev.get R.SKY_CTRL_BAND_EN) :
    exec (.bandDisable v) s = .next { s with dev := s.dev.skyCtrlWrite v.toNat } := by
  simp only [exec, execBandDisable, onReg, onDev, w, h, if_true, if_false]

theorem land_ne_of_bit {x v b : Nat} (was : bitOf x b = true) (off : bitOf v b = false) : Nat.land x v ≠ x := by
  intro h
  have hand : x &&& v = x := h
  rw [bitOf_eq_testBit] at was off
  rw [← hand, Nat.testBit_and, off, Bool.and_false] at was
  exact Bool.noConfusion was

/-- Settles O21: acquisition disabled; a band disabled; a band faulted, and retried with and without success; an FFT engine faulted. -/
theorem skyDisabledAndFaulted : Obligations.SkyDisabledAndFaulted := by
  unfold Obligations.SkyDisabledAndFaulted
  refine ⟨fun v s w off on stay run => ?_, fun b v s w hb was off => ?_, fun b c s run hb => ?_, fun b n s run hb h => ?_, fun b n s run hb h => ?_,
    fun e s run he => ?_⟩
  · refine ⟨_, exec_acqDisable w off, ?_⟩
    obtain ⟨hheld, hsky⟩ := Dev.ringsHeld_bandsWritten stay
    have hacq : (s.dev.bandsWritten v.toNat).get R.SKY_CTRL_ACQ_EN = 0 :=
      ((Dev.bandsWritten_up stay).read (by decide) 0 0).trans (s.dev.get_writeAddr_acqEn off)
    have hoff : (s.dev.bandsWritten v.toNat).on R.SKY_CTRL_ACQ_EN = false := by
      rw [Dev.on, hacq]
      rfl
    rw [Dev.skyCtrlWrite_eq, if_pos (by rw [on, hoff]; rfl)]
    generalize s.dev.bandsWritten v.toNat = d at hheld hsky hacq
    obtain ⟨hqueue, hengine⟩ := d.sky_acqDisable
    refine ⟨((KeepRegs.acqDisable d).read (by decide) 0 0).trans hacq, hqueue, hengine, fun x hx q hq => ?_⟩
    exact Dev.isLive_acqDisable (hheld.trans run) (hsky ▸ hx) hq
  · refine ⟨_, exec_bandDisable w (land_ne_of_bit was off), ?_⟩
    have hwritten : (s.dev.bandsWritten v.toNat).bandFace b = ⟨false, false, false⟩ := Dev.bandFace_bandsWritten hb was off
    have hface : (s.dev.skyCtrlWrite v.toNat).bandFace b = ⟨false, false, false⟩ := by
      rw [Dev.skyCtrlWrite_eq]
      split
      · exact ((KeepRegs.acqDisable _).bandFace (by decide) b).trans hwritten
      · exact hwritten
    exact ⟨congrArg BandFace.on hface, congrArg BandFace.rf hface, congrArg BandFace.pll hface⟩
  · refine ⟨_, exec_bandFault run hb c, ?_⟩
    rw [Dev.bandFault_eq]
    have hcut : (s.dev.bandCut b).bandFace b = ⟨(s.dev.bandFace b).on, false, false⟩ := (s.dev.bandFace_bandCut hb hb).trans (if_pos rfl)
    have hface := ((DevFrame.faultTold (s.dev.bandCut b) b c).regs.bandFace (by decide) b).trans hcut
    have hfault := (s.dev.bandCut b).bit_faultTold hb c
    have hclk := ((s.dev.bandCut b).clk_faultTold b c).trans (s.dev.clk_bandCut b)
    generalize (s.dev.bandCut b).faultTold b c = x at hface hfault hclk
    have hend := ((DevFrame.retryTimed x b).regs.bandFace (by decide) b).trans hface
    exact ⟨congrArg BandFace.rf hend, congrArg BandFace.pll hend, hfault, hclk ▸ x.retryAt_retryTimed b⟩
  · refine ⟨_, exec_bandRetry run h true, ?_⟩
    have hmono := s.dev.mono_passToMono (n + 100 * ms)
    dsimp only
    rw [if_pos rfl]
    generalize s.dev.passToMono (n + 100 * ms) = x at hmono
    obtain ⟨hpll, hat, hclk⟩ := (x.retryLocked b).rfLock_keeps hb hb
    refine ⟨hpll.trans (x.pll_retryLocked hb), ?_, ?_⟩
    · rw [hat, x.retryAt_retryLocked]
      exact tabFind_del_self _ _
    · rw [hclk, x.clk_retryLocked, hmono]
      exact Nat.le_max_right _ _
  · have hmono := s.dev.mono_passToMono (n + 100 * ms)
    have hframe : DevFrame [.clk, .sky] [] [] s.dev ((s.dev.passToMono (n + 100 * ms)).retryTimed b) :=
      ((DevFrame.passToMono s.dev _).mono (by decide)).next (.retryTimed _ b) (by decide)
    refine ⟨_, exec_bandRetry run h false, Dev.retryAt_retryTimed _ b, ?_, hframe.frame⟩
    exact Nat.le_trans (Nat.le_max_right _ _) (Nat.le_of_eq hmono.symm)
  · exact ⟨_, exec_fftEngineFault run he, s.dev.bit_engineOff he, tabFind_del_self _ _, (DevFrame.engineOff s.dev e).frame⟩

end Sys2Proof.Machine
end

section
/-!
PROOFS. Tracking channels (R115-R150), what their proofs share: the fields they tell apart, a channel's change of state (R130), a channel started (R121), freed,
and given to a signal that waits (R120).
-/

namespace Sys2Proof.Machine

/-! ### The fields that these proofs read or write -/

/-- Fields that the proofs of the tracking channels tell apart. -/
def trkFlds : List Fld :=
  [R.TRK_CTRL_EN, R.TRK_CTRL_AUTO_ALLOC, R.TRK_CTRL_HANDOVER, R.TRK_CTRL_ELEV_MASK, R.TRK_STATUS_TRACKING, R.TRK_STATUS_OOS, R.TRK_STATUS_SPARES_USED,
    R.TRK_THR_CONF_CN0, R.TRK_THR_LOSS_CN0, R.TRK_THR_LOSS_T, R.TRK_THR_PLI_THR, R.TRK_SPARE_IN_USE, R.TRK_SPARE_REPL, R.TRK_SPARE_FAULTS, R.TRK_SPARE_SCRUB,
    R.TRK_CH_CFG_OWNER, R.TRK_CH_CFG_SPACING, R.TRK_CH_SEL_SAT, R.TRK_CH_SEL_SIG, R.TRK_CH_STAT_STATE, R.TRK_CH_STAT_ON_SPARE, R.TRK_CH_STAT_TINT,
    R.TRK_CH_STAT_CN0, R.TRK_CH_CMD_START, R.TRK_CH_CMD_STOP, R.TRK_CH_CMD_FAIL, R.SKY_CTRL_ACQ_EN, R.SKY_JAM_STATE, R.ACQ_STATUS_QUEUE,
    R.ACQ_STATUS_SKY_DONE]

theorem trkFlds_elem : trkFlds.all (fun g => regMap.elem g) = true := by decide +kernel

theorem mem_of_trkFlds {g : Fld} (h : g ∈ trkFlds) : g ∈ regMap := mem_regMap (List.all_eq_true.1 trkFlds_elem g h)

theorem Fld.has_row {f : Fld} {i : Nat} (hi : i < f.n1) (hj : 0 < f.n2) : f.has i 0 = true := by
  rw [Fld.has, decide_eq_true hi, decide_eq_true hj]
  rfl

/-- A field of `trkFlds` outside a frame. -/
abbrev OutsideTrk (ws : List Nat) (fs : List Fld) (f : Fld) : Prop := f ∈ trkFlds ∧ f.block ∉ ws ∧ f ∉ fs

theorem KeepRegs.readTrk {ws : List Nat} {fs : List Fld} {a b : Dev} (h : KeepRegs ws fs a b) {f : Fld} (o : OutsideTrk ws fs f) (i j : Nat) :
    b.get f i j = a.get f i j := by
  obtain ⟨hf, hw, hn⟩ := o
  exact h f (mem_of_trkFlds hf) hw hn i j

namespace DevFrame

theorem readTrk {ps : List Part} {ws : List Nat} {fs : List Fld} {a b : Dev} (h : DevFrame ps ws fs a b) {f : Fld} (o : OutsideTrk ws fs f)
    (i j : Nat) : b.get f i j = a.get f i j := h.regs.readTrk o i j

theorem setTrk (d : Dev) {g : Fld} (hg : g ∈ trkFlds) (v i j : Nat) : DevFrame [] [] [g] d (d.set g v i j) :=
  ⟨rfl, .set d v i j (mem_of_trkFlds hg) (.inl (List.mem_singleton.2 rfl))⟩

/-- An update of tracking state. -/
theorem trk (d : Dev) (x : Trk) : DevFrame [.trk] [] [] d { d with trk := x } := ⟨rfl, .of_regs rfl⟩

end DevFrame

theorem Dev.chan_modChan_self (d : Dev) (ch : Nat) (f : Chan → Chan) : (d.modChan ch f).chan ch = f (d.chan ch) := tabGet_put_self _ _ _

/-! ### Changes of state (R130) -/

/-- The fields that a channel's change of state writes. -/
def stateFlds : List Fld := [R.TRK_CH_STAT_STATE, R.TRK_STATUS_TRACKING, R.TRK_STATUS_OOS]

/-- The time of the change is noted. -/
def Dev.chSince (d : Dev) (ch : Nat) : Dev := d.modChan ch fun c => { c with since := d.clk.mono }

/-- After STATE is written and the time noted, only the two counts follow. -/
theorem DevFrame.chState_counts (d : Dev) (ch st : Nat) :
    DevFrame [] [] [R.TRK_STATUS_TRACKING, R.TRK_STATUS_OOS] ((d.set R.TRK_CH_STAT_STATE st ch).chSince ch) (d.chState ch st) := by
  unfold Dev.chState
  extract_lets old d1 d2
  have h1 : DevFrame [] [] [R.TRK_STATUS_TRACKING, R.TRK_STATUS_OOS] d1 d2 :=
    .ite ((DevFrame.setTrk d1 (g := R.TRK_STATUS_TRACKING) (by decide) _ 0 0).mono (by decide)) (.refl _ _ _ d1)
  exact h1.next (.setTrk d2 (g := R.TRK_STATUS_OOS) (by decide) _ 0 0) (by decide)

theorem DevFrame.chState (d : Dev) (ch st : Nat) : DevFrame [.trk] [] stateFlds d (d.chState ch st) := by
  have hset : DevFrame [.trk] [] stateFlds d ((d.set R.TRK_CH_STAT_STATE st ch).chSince ch) :=
    ((DevFrame.setTrk d (g := R.TRK_CH_STAT_STATE) (by decide) st ch 0).mono (by decide)).next (.modChan _ _ _) (by decide)
  exact hset.next (.chState_counts d ch st) (by decide)

theorem Dev.state_chState_self (d : Dev) {ch st : Nat} (h : ch < 192) (hst : st < 8) : (d.chState ch st).get R.TRK_CH_STAT_STATE ch = st := by
  have hhas : R.TRK_CH_STAT_STATE.has ch 0 = true := Fld.has_row h Nat.one_pos
  rw [(DevFrame.chState_counts d ch st).readTrk (by decide)]
  exact (Dev.get_set_self d _ st ch 0 hhas).trans (Nat.mod_eq_of_lt hst)

theorem Dev.state_chState_other (d : Dev) {ch k : Nat} (n : k ≠ ch) (st : Nat) :
    (d.chState ch st).get R.TRK_CH_STAT_STATE k = d.get R.TRK_CH_STAT_STATE k := by
  rw [(DevFrame.chState_counts d ch st).readTrk (by decide)]
  exact d.get_set_copy (mem_of_trkFlds (by decide)) (.inl n) st

theorem Dev.trk_chState (d : Dev) (ch st : Nat) : (d.chState ch st).trk = (d.chSince ch).trk := by
  unfold Dev.chState
  dsimp only
  split <;> rfl

theorem Dev.chan_chState_self (d : Dev) (ch st : Nat) : (d.chState ch st).chan ch = { d.chan ch with since := d.clk.mono } := by
  rw [Dev.chan, Dev.trk_chState]
  exact d.chan_modChan_self ch _

theorem Dev.clk_chState (d : Dev) (ch st : Nat) : (d.chState ch st).clk = d.clk := (SearchStep.chState d ch st).clk

/-! ### A channel started (R121) -/

/-- The fields that the start of a channel writes. -/
def pullinFlds : List Fld := [R.TRK_CH_SEL_SAT, R.TRK_CH_SEL_SIG, R.TRK_CH_STAT_TINT] ++ stateFlds

/-- A channel given its signal, before it changes state. -/
def Dev.chGiven (d : Dev) (ch sat sig : Nat) (handover : Bool) (elev code dopp : Int) : Dev :=
  let x := (d.set R.TRK_CH_SEL_SAT sat ch).set R.TRK_CH_SEL_SIG sig ch
  let c : Chan := { handover := handover, elev := elev, at0 := x.clk.mono, code := code * 2 ^ 20, doppler := dopp, taps := x.tapsOf ch }
  ({ x with trk := { x.trk with chan := tabPut x.trk.chan ch c } } : Dev).set R.TRK_CH_STAT_TINT (grainMs sig) ch

section
variable (d : Dev) (ch sat sig : Nat) (handover : Bool) (elev code dopp : Int)

theorem Dev.startPullin_eq : d.startPullin ch sat sig handover elev code dopp = (d.chGiven ch sat sig handover elev code dopp).chState ch stPullin := rfl

theorem DevFrame.chGiven :
    DevFrame [.trk] [] [R.TRK_CH_SEL_SAT, R.TRK_CH_SEL_SIG, R.TRK_CH_STAT_TINT] d (d.chGiven ch sat sig handover elev code dopp) :=
  ((((DevFrame.setTrk d (g := R.TRK_CH_SEL_SAT) (by decide) sat ch 0).mono (by decide)).next
    (.setTrk _ (g := R.TRK_CH_SEL_SIG) (by decide) sig ch 0) (by decide)).next (.trk _ _) (by decide)).next
    (.setTrk _ (g := R.TRK_CH_STAT_TINT) (by decide) _ ch 0) (by decide)

theorem DevFrame.startPullin : DevFrame [.trk] [] pullinFlds d (d.startPullin ch sat sig handover elev code dopp) := by
  rw [Dev.startPullin_eq]
  exact ((DevFrame.chGiven d ch sat sig handover elev code dopp).mono (by decide)).next (.chState _ _ _) (by decide)

variable {ch} in
theorem Dev.state_startPullin_self (h : ch < 192) : (d.startPullin ch sat sig handover elev code dopp).get R.TRK_CH_STAT_STATE ch = stPullin := by
  rw [Dev.startPullin_eq]
  exact Dev.state_chState_self _ h (by decide)

variable {ch} in
theorem Dev.state_startPullin_other {k : Nat} (n : k ≠ ch) :
    (d.startPullin ch sat sig handover elev code dopp).get R.TRK_CH_STAT_STATE k = d.get R.TRK_CH_STAT_STATE k := by
  rw [Dev.startPullin_eq, Dev.state_chState_other _ n]
  exact (DevFrame.chGiven d ch sat sig handover elev code dopp).readTrk (by decide) k 0

variable {ch} in
theorem Dev.sel_startPullin (h : ch < 192) :
    (d.startPullin ch sat sig handover elev code dopp).get R.TRK_CH_SEL_SAT ch = sat % 65536 ∧
      (d.startPullin ch sat sig handover elev code dopp).get R.TRK_CH_SEL_SIG ch = sig % 256 := by
  have hsat : R.TRK_CH_SEL_SAT.has ch 0 = true := Fld.has_row h Nat.one_pos
  have hsig : R.TRK_CH_SEL_SIG.has ch 0 = true := Fld.has_row h Nat.one_pos
  have hkeep : ∀ f, OutsideTrk [] (R.TRK_CH_STAT_TINT :: stateFlds) f → (d.startPullin ch sat sig handover elev code dopp).get f ch =
      ((d.set R.TRK_CH_SEL_SAT sat ch).set R.TRK_CH_SEL_SIG sig ch).get f ch := by
    intro f hf
    refine KeepRegs.readTrk (KeepRegs.trans ?_ ((DevFrame.chState (d.chGiven ch sat sig handover elev code dopp) ch stPullin).mono
      (by decide : FrameLe _ _ _ [.trk] [] (R.TRK_CH_STAT_TINT :: stateFlds))).regs) hf ch 0
    exact .set _ _ _ _ (mem_of_trkFlds (by decide)) (.inl (List.mem_cons_self ..))
  constructor
  · rw [hkeep _ (by decide), Dev.get_set_fld _ (mem_of_trkFlds (by decide)) (mem_of_trkFlds (by decide)) (by decide)]
    exact Dev.get_set_self d _ sat ch 0 hsat
  · rw [hkeep _ (by decide)]
    exact Dev.get_set_self _ _ sig ch 0 hsig

theorem Dev.chan_startPullin : ((d.startPullin ch sat sig handover elev code dopp).chan ch).handover = handover := by
  rw [Dev.startPullin_eq, Dev.chan_chState_self]
  exact congrArg Chan.handover (tabGet_put_self _ _ _)

theorem Dev.retry_startPullin : (d.startPullin ch sat sig handover elev code dopp).trk.retry = d.trk.retry := by
  rw [Dev.startPullin_eq, Dev.trk_chState]
  rfl

theorem Dev.clk_startPullin : (d.startPullin ch sat sig handover elev code dopp).clk = d.clk := (SearchStep.startPullin ..).clk

end

theorem Dev.channelOf_isSome {d : Dev} {sat sig : Nat} (h : d.tracked sat sig = true) : ∃ k, d.channelOf sat sig = some k :=
  Option.isSome_iff_exists.1 (List.find?_isSome.2 (List.any_eq_true.1 h))

/-- While its source is tracked, a handover signal starts. -/
theorem Dev.startHandover_tracked {d : Dev} {sat sig g : Nat} (hs : sourceOf sig = some g) (h : d.tracked sat g = true) (ch : Nat) (elev : Int) :
    ∃ code dopp, d.startHandover ch sat sig elev = d.startPullin ch sat sig true elev code dopp := by
  obtain ⟨k, hk⟩ := d.channelOf_isSome h
  unfold Dev.startHandover
  simp only [hs, Option.bind_some, hk]
  exact ⟨_, _, rfl⟩

/-- A handover signal starts, or its source has gone. -/
theorem Dev.startHandover_cases (d : Dev) (ch sat sig : Nat) (elev : Int) :
    d.startHandover ch sat sig elev = d ∨ ∃ code dopp, d.startHandover ch sat sig elev = d.startPullin ch sat sig true elev code dopp := by
  unfold Dev.startHandover
  split
  · exact .inr ⟨_, _, rfl⟩
  · exact .inl rfl

/-! ### A channel given to a signal (R120) -/

theorem mem_skyChans {ch : Nat} : ch ∈ skyChans ↔ ch < 180 := List.mem_range

theorem Dev.freeAuto_idle {d : Dev} {ch : Nat} (h : d.freeAuto = some ch) : ch < 180 ∧ d.get R.TRK_CH_STAT_STATE ch = stIdle := by
  have hp := List.find?_some h
  simp only [Bool.and_eq_true, beq_iff_eq] at hp
  exact ⟨mem_skyChans.1 (List.mem_of_find?_eq_some h), hp.1.2⟩

theorem Dev.displaced_track {d : Dev} {ch : Nat} (h : d.displaced = some ch) : d.get R.TRK_CH_STAT_STATE ch = stTrack := by
  have hmem : ∀ k ∈ d.displaced, d.get R.TRK_CH_STAT_STATE k = stTrack := by
    unfold Dev.displaced
    refine List.foldlRecOn (motive := fun best : Option Nat => ∀ k ∈ best, d.get R.TRK_CH_STAT_STATE k = stTrack) _ _ (fun k hk => by cases hk)
      fun best hbest x hx => ?_
    have hxs : d.get R.TRK_CH_STAT_STATE x = stTrack := by
      have hp := (List.mem_filter.1 hx).2
      simp only [Bool.and_eq_true, beq_iff_eq] at hp
      exact hp.1.2
    split
    · simpa using hxs
    · split
      · simpa using hxs
      · exact hbest
  exact hmem ch h

/-- A signal is given an idle channel, or, if it is no handover signal, one in TRACK. -/
theorem Dev.allotFor_cases {d : Dev} {c : Cand} {ch : Nat} (h : d.allotFor c = some ch) :
    (ch < 180 ∧ d.get R.TRK_CH_STAT_STATE ch = stIdle) ∨ (c.handover = false ∧ d.get R.TRK_CH_STAT_STATE ch = stTrack) := by
  unfold Dev.allotFor at h
  split at h
  · cases h
  · split at h
    · next k hk =>
      cases h
      exact .inl (Dev.freeAuto_idle hk)
    · split at h
      · next hc =>
        rw [Bool.and_eq_true, Bool.not_eq_true'] at hc
        exact .inr ⟨hc.1, Dev.displaced_track h⟩
      · cases h

theorem DevFrame.waitChan (d : Dev) (c : Cand) : DevFrame [.sky] [] [] d (d.waitChan c) := .sky d _

/-- What is left of `startOn` once the signal that it displaces waits. -/
def Dev.startCand (d : Dev) (ch : Nat) (c : Cand) : Dev :=
  if c.handover then d.startHandover ch c.sat c.sig c.elev else d.startPullin ch c.sat c.sig false c.elev c.codePh (16 * c.dopp)

/-- The start of a candidate is that of a channel, or nothing where a handover signal's source has gone. -/
theorem Dev.startCand_cases (d : Dev) (ch : Nat) (c : Cand) : d.startCand ch c = d ∨
    ∃ handover code dopp, d.startCand ch c = d.startPullin ch c.sat c.sig handover c.elev code dopp := by
  unfold Dev.startCand
  split
  · rcases d.startHandover_cases ch c.sat c.sig c.elev with h | ⟨code, dopp, h⟩
    · exact .inl h
    · exact .inr ⟨_, _, _, h⟩
  · exact .inr ⟨_, _, _, rfl⟩

/-- The handover signal that is displaced from a channel waits for another. -/
def Dev.displace (d : Dev) (ch : Nat) : Dev :=
  if d.get R.TRK_CH_STAT_STATE ch == stTrack then
    d.waitChan { sat := d.get R.TRK_CH_SEL_SAT ch, sig := d.get R.TRK_CH_SEL_SIG ch, t := d.clk.mono, handover := true, elev := (d.chan ch).elev }
  else d

theorem Dev.startOn_eq (d : Dev) (ch : Nat) (c : Cand) : d.startOn ch c = (d.displace ch).startCand ch c := rfl

/-- On a channel that is not in TRACK nothing is displaced. -/
theorem Dev.startOn_of_ne_track {d : Dev} {ch : Nat} (h : d.get R.TRK_CH_STAT_STATE ch ≠ stTrack) (c : Cand) : d.startOn ch c = d.startCand ch c := by
  rw [Dev.startOn_eq, Dev.displace, if_neg (by simpa using h)]

theorem DevFrame.displace (d : Dev) (ch : Nat) : DevFrame [.sky] [] [] d (d.displace ch) := .ite (.waitChan d _) (.refl _ _ _ d)

theorem DevFrame.startCand (d : Dev) (ch : Nat) (c : Cand) : DevFrame [.trk] [] pullinFlds d (d.startCand ch c) := by
  rcases d.startCand_cases ch c with h | ⟨_, _, _, h⟩ <;> rw [h]
  · exact .refl _ _ _ d
  · exact .startPullin d ..

theorem DevFrame.startOn (d : Dev) (ch : Nat) (c : Cand) : DevFrame [.trk, .sky] [] pullinFlds d (d.startOn ch c) :=
  ((DevFrame.displace d ch).mono (by decide)).next (.startCand (d.displace ch) ch c) (by decide)

/-- A start leaves the states of all other channels. -/
theorem Dev.state_startOn_other (d : Dev) {ch k : Nat} (n : k ≠ ch) (c : Cand) :
    (d.startOn ch c).get R.TRK_CH_STAT_STATE k = d.get R.TRK_CH_STAT_STATE k := by
  rw [Dev.startOn_eq, ← (DevFrame.displace d ch).readTrk (by decide) k 0]
  rcases (d.displace ch).startCand_cases ch c with h | ⟨_, _, _, h⟩ <;> rw [h]
  exact Dev.state_startPullin_other _ _ _ _ _ _ _ n

/-! ### A channel freed (R99, R120) -/

/-- While nothing waits for a channel, a free one stays free. -/
theorem Dev.allotWaiting_of_none {d : Dev} (h : d.sky.cands = []) : d.allotWaiting = d := by
  have hfilter : ∀ p : Cand → Bool, ({ d with sky := { d.sky with cands := d.sky.cands.filter p } } : Dev) = d := by
    intro p
    rw [h, List.filter_nil, ← h]
  unfold Dev.allotWaiting
  extract_lets sky x l best
  have hx : x = d := hfilter _
  have hbest : best = none := by
    unfold best l
    rw [hx, h]
    rfl
  rw [hbest]
  split
  · next hc => cases hc
  · exact hx

/-- While nothing waits for a channel, one that is freed goes to IDLE and no more. -/
theorem Dev.freeChan_of_none {d : Dev} (h : d.sky.cands = []) (ch : Nat) : d.freeChan ch = d.chState ch stIdle :=
  Dev.allotWaiting_of_none ((congrArg Sky.cands (d.sky_chState ch stIdle)).trans h)

end Sys2Proof.Machine
end

section
/-!
PROOFS. A host's channel started and stopped (R122).
-/

namespace Sys2Proof.Machine

/-! ### A write of TRK_CH_CMD (R7, R122) -/

/-- A write to an address whose fields are all in `fs`. -/
theorem KeepRegs.writeAddr {ws : List Nat} {fs : List Fld} (m : 0x0B ∈ ws) (d : Dev) {a : Nat} (h : ∀ x ∈ fieldsAt a, x.1 ∈ fs) (v : Nat) :
    KeepRegs ws fs d (d.writeAddr a v) := by
  refine List.foldlRecOn (motive := KeepRegs ws fs d) _ _ (.refl _ _ _) fun x hx g hg => ?_
  obtain ⟨hf, -, -⟩ := mem_fieldsAt.1 hg
  exact hx.trans (.writeField m x hf (h g hg) _ _ _)

/-- The fields of TRK_CH_CMD. -/
def cmdFlds : List Fld := [R.TRK_CH_CMD_START, R.TRK_CH_CMD_STOP, R.TRK_CH_CMD_FAIL]

theorem regMap_cmd : regMap.all (fun f => f.base != R.TRK_CH_CMD_START.base || cmdFlds.elem f) = true := by decide +kernel

theorem fieldsAt_cmd {ch : Nat} (h : ch < 192) : ∀ x ∈ fieldsAt (R.TRK_CH_CMD_START.addr ch), x.1 ∈ cmdFlds := by
  have hhas : R.TRK_CH_CMD_START.has ch 0 = true := Fld.has_row h Nat.one_pos
  intro x hx
  obtain ⟨hf, a, e⟩ := mem_fieldsAt.1 hx
  have hbase := base_eq_of_addr_eq hf (mem_of_trkFlds (by decide)) a hhas e
  have hall := List.all_eq_true.1 regMap_cmd x.1 hf
  rw [hbase, bne_self_eq_false, Bool.false_or] at hall
  exact List.elem_iff.1 hall

/-- TRK_CH_CMD of a channel is written. -/
def Dev.cmdWritten (d : Dev) (ch v : Nat) : Dev := d.writeAddr (R.TRK_CH_CMD_START.addr ch) v

theorem DevFrame.cmdWritten (d : Dev) {ch : Nat} (h : ch < 192) (v : Nat) : DevFrame [] [0x0B] cmdFlds d (d.cmdWritten ch v) := by
  refine ⟨?_, .writeAddr (by decide) d (fieldsAt_cmd h) v⟩
  rw [Dev.cmdWritten, writeAddr_eq_regs]
  rfl

theorem Dev.sky_cmdWritten (d : Dev) (ch v : Nat) : (d.cmdWritten ch v).sky = d.sky := by rw [Dev.cmdWritten, writeAddr_eq_regs]

/-! ### START (R122) -/

/-- The search that a START queues. -/
def Dev.hostSearch (d : Dev) (ch c : Nat) : Search :=
  { d.classSearch .host c (sigBand (d.get R.TRK_CH_SEL_SIG ch)) (d.get R.TRK_CH_SEL_SAT ch) with sig := d.get R.TRK_CH_SEL_SIG ch, chan := some ch }

/-- START of a channel that may start. -/
def Dev.hostStart (d : Dev) (ch : Nat) : Dev :=
  if d.direct (d.get R.TRK_CH_SEL_SIG ch) then
    match sigClass (d.get R.TRK_CH_SEL_SIG ch) with
    | some c =>
      if 256 ≤ d.sky.queue.length || !d.on R.SKY_CTRL_ACQ_EN then d.raise R.TRK_CH_CMD_FAIL ch else (d.enqueue (d.hostSearch ch c)).chState ch stWait
    | none => d.raise R.TRK_CH_CMD_FAIL ch
  else
    match sourceOf (d.get R.TRK_CH_SEL_SIG ch) with
    | some g =>
      if d.tracked (d.get R.TRK_CH_SEL_SAT ch) g then d.startHandover ch (d.get R.TRK_CH_SEL_SAT ch) (d.get R.TRK_CH_SEL_SIG ch) 0
      else d.raise R.TRK_CH_CMD_FAIL ch
    | none => d.raise R.TRK_CH_CMD_FAIL ch

/-- What a write of TRK_CH_CMD reads as before in the channel and its surroundings. -/
theorem Dev.read_cmdWritten (d : Dev) {ch : Nat} (h : ch < 180) (v : Nat) {f : Fld} (o : OutsideTrk [0x0B] cmdFlds f) (i : Nat) :
    (d.cmdWritten ch v).get f i = d.get f i := (DevFrame.cmdWritten d (Nat.lt_trans h (by decide)) v).readTrk o i 0

theorem Dev.chStart_eq {d : Dev} {ch v : Nat} (h : ch < 180) (go : bitOf v 0 = true) (own : d.on R.TRK_CH_CFG_OWNER ch = true)
    (idle : d.get R.TRK_CH_STAT_STATE ch = stIdle) (en : d.on R.TRK_CTRL_EN = true) : d.chStart ch v = (d.cmdWritten ch v).hostStart ch := by
  have hown : (d.cmdWritten ch v).on R.TRK_CH_CFG_OWNER ch = true := by rwa [Dev.on, d.read_cmdWritten h v (by decide)]
  have hidle : (d.cmdWritten ch v).get R.TRK_CH_STAT_STATE ch = stIdle := by rwa [d.read_cmdWritten h v (by decide)]
  have hen : (d.cmdWritten ch v).on R.TRK_CTRL_EN = true := by rwa [Dev.on, d.read_cmdWritten h v (by decide)]
  unfold Dev.chStart
  rw [if_neg (Nat.not_le.2 h)]
  extract_lets x
  have hx : x = d.cmdWritten ch v := rfl
  rw [hx, if_neg (by simp [go, hown, hidle, hen])]
  rfl

theorem Dev.direct_cmdWritten (d : Dev) {ch : Nat} (h : ch < 180) (v g : Nat) : (d.cmdWritten ch v).direct g = d.direct g := by
  simp only [Dev.direct, d.read_cmdWritten h v (f := R.SKY_JAM_STATE) (by decide)]

theorem Dev.tracked_cmdWritten (d : Dev) {ch : Nat} (h : ch < 180) (v sat g : Nat) : (d.cmdWritten ch v).tracked sat g = d.tracked sat g := by
  simp (disch := decide) only [Dev.tracked, d.read_cmdWritten h v]

section
variable {d : Dev} {ch v : Nat} (h : ch < 180) (go : bitOf v 0 = true) (own : d.on R.TRK_CH_CFG_OWNER ch = true)
  (idle : d.get R.TRK_CH_STAT_STATE ch = stIdle) (en : d.on R.TRK_CTRL_EN = true)
include h go own idle en

/-- A direct signal's search joins the queue. -/
theorem Dev.chStart_search {c : Nat} (dir : d.direct (d.get R.TRK_CH_SEL_SIG ch) = true) (hc : sigClass (d.get R.TRK_CH_SEL_SIG ch) = some c)
    (room : d.sky.queue.length < 256) (on : d.on R.SKY_CTRL_ACQ_EN = true) :
    d.chStart ch v = ((d.cmdWritten ch v).enqueue ((d.cmdWritten ch v).hostSearch ch c)).chState ch stWait := by
  have hon : (d.cmdWritten ch v).on R.SKY_CTRL_ACQ_EN = true := by rwa [Dev.on, d.read_cmdWritten h v (by decide)]
  rw [Dev.chStart_eq h go own idle en, Dev.hostStart, d.read_cmdWritten h v (by decide), d.direct_cmdWritten h, if_pos dir]
  simp only [hc]
  rw [if_neg (by simp [d.sky_cmdWritten, hon, room])]

/-- While acquisition is disabled a direct signal's start fails. -/
theorem Dev.chStart_disabled {c : Nat} (dir : d.direct (d.get R.TRK_CH_SEL_SIG ch) = true) (hc : sigClass (d.get R.TRK_CH_SEL_SIG ch) = some c)
    (off : d.on R.SKY_CTRL_ACQ_EN = false) : d.chStart ch v = (d.cmdWritten ch v).raise R.TRK_CH_CMD_FAIL ch := by
  have hoff : (d.cmdWritten ch v).on R.SKY_CTRL_ACQ_EN = false := by rwa [Dev.on, d.read_cmdWritten h v (by decide)]
  rw [Dev.chStart_eq h go own idle en, Dev.hostStart, d.read_cmdWritten h v (by decide), d.direct_cmdWritten h, if_pos dir]
  simp only [hc]
  rw [if_pos (by simp [hoff])]

/-- A handover signal starts while its source is tracked. -/
theorem Dev.chStart_handover {g : Nat} (dir : d.direct (d.get R.TRK_CH_SEL_SIG ch) = false) (hs : sourceOf (d.get R.TRK_CH_SEL_SIG ch) = some g)
    (ht : d.tracked (d.get R.TRK_CH_SEL_SAT ch) g = true) : ∃ code dopp, d.chStart ch v =
      (d.cmdWritten ch v).startPullin ch (d.get R.TRK_CH_SEL_SAT ch) (d.get R.TRK_CH_SEL_SIG ch) true 0 code dopp := by
  have htrack : (d.cmdWritten ch v).tracked (d.get R.TRK_CH_SEL_SAT ch) g = true := by rwa [d.tracked_cmdWritten h]
  rw [Dev.chStart_eq h go own idle en, Dev.hostStart, d.read_cmdWritten h v (by decide), d.direct_cmdWritten h, if_neg (by simp [dir])]
  simp only [hs]
  rw [d.read_cmdWritten h v (by decide), if_pos htrack]
  exact Dev.startHandover_tracked hs htrack ch 0

end

theorem Dev.fail_raise (d : Dev) {ch : Nat} (h : ch < 192) : (d.raise R.TRK_CH_CMD_FAIL ch).get R.TRK_CH_CMD_FAIL ch = 1 := by
  have hhas : R.TRK_CH_CMD_FAIL.has ch 0 = true := Fld.has_row h Nat.one_pos
  unfold Dev.raise
  rw [Dev.get_devIrq _ (by decide) (mem_of_trkFlds (by decide)) (by decide), Dev.get_set_self _ _ _ _ _ hhas]
  exact Nat.or_mod_two_eq_one.2 (.inr rfl)

theorem exec_trkChStart {s : State} {v : Word32} {ch : Nat} (w : s.dev.writable R.TRK_CH_CMD_START = true) :
    exec (.trkChStart ch v) s = .next { s with dev := s.dev.chStart ch v.toNat } := onReg_next (g := fun d => d.chStart ch v.toNat) w

/-! ### STOP (R122) -/

/-- The searches for a channel leave the queue, and its own state is cleared. -/
def Dev.chanDropped (d : Dev) (ch : Nat) : Dev :=
  ({ d with sky := { d.sky with queue := d.sky.queue.filter fun x => x.chan != some ch } } : Dev).acqCount.modChan ch fun _ => {}

theorem Dev.chStop_eq {d : Dev} {ch v : Nat} (h : ch < 180) (stop : bitOf v 1 = true) (idle : d.get R.TRK_CH_STAT_STATE ch ≠ stIdle)
    (oos : d.get R.TRK_CH_STAT_STATE ch ≠ stOos) : d.chStop ch v = ((d.cmdWritten ch v).chanDropped ch).freeChan ch := by
  have hstate : (d.cmdWritten ch v).get R.TRK_CH_STAT_STATE ch = d.get R.TRK_CH_STAT_STATE ch := d.read_cmdWritten h v (by decide) ch
  unfold Dev.chStop
  rw [if_neg (Nat.not_le.2 h)]
  extract_lets x st
  have hst : st = d.get R.TRK_CH_STAT_STATE ch := hstate
  rw [hst, if_neg (by simp [stop, idle, oos])]
  rfl

theorem exec_trkChStop {s : State} {v : Word32} {ch : Nat} (w : s.dev.writable R.TRK_CH_CMD_STOP = true) :
    exec (.trkChStop ch v) s = .next { s with dev := s.dev.chStop ch v.toNat } := onReg_next (g := fun d => d.chStop ch v.toNat) w

end Sys2Proof.Machine
end

section
/-!
PROOFS. What the end of an integration makes of a channel (R127, R129, R130).
-/

namespace Sys2Proof.Machine

/-! ### The loops at the end of an integration (R127, R129) -/

/-- The prompts of the last integrations once one more ends. -/
def Dev.histWith (d : Dev) (ch : Nat) (m : Integ) : List (Int × Int × Nat) := (m.p.1, m.p.2, d.get R.TRK_CH_STAT_TINT ch) :: (d.chan ch).hist

/-- Loops, correlator sums and C/N0. -/
def Dev.integLoops (d : Dev) (ch : Nat) (m : Integ) : Dev :=
  (((d.integTo ch).loopsRun ch m (d.get R.TRK_CH_STAT_TINT ch)).combAdd ch m).sat R.TRK_CH_STAT_CN0
    (Config.cn0 (lastMs (d.histWith ch m) (if d.get R.TRK_CH_STAT_STATE ch = stPullin then 10 else 100))) ch

/-- The time of week that an integration brings. -/
def Dev.towOf (d : Dev) (ch : Nat) (m : Integ) : Option Int :=
  match m.tow with
  | some x => some (x : Int)
  | none => if (d.chan ch).tow then none else d.towFrom ch

/-- It is taken, if there is one. -/
def Dev.towTaken (d : Dev) (ch : Nat) (m : Integ) : Dev :=
  match d.towOf ch m with
  | some x => d.modChan ch fun c => { c with tow := true, code := x * 2 ^ 20 }
  | none => d

/-- Elevation and loss timer, where `st` is the channel's state. -/
def Dev.lossTimed (d : Dev) (ch : Nat) (m : Integ) (st : Nat) : Dev :=
  let low := d.get R.TRK_CH_STAT_CN0 ch < d.get R.TRK_THR_LOSS_CN0 * 25 && st != stPullin
  d.modChan ch fun c => { c with elev := m.elev, lossAt := if low then some (c.lossAt.getD d.clk.mono) else none }

/-- All of an integration's end but the change of state and full sky. -/
def Dev.integrated (d : Dev) (ch : Nat) (m : Integ) : Dev :=
  ((((d.integLoops ch m).lossTimed ch m (d.get R.TRK_CH_STAT_STATE ch)).towTaken ch m).resolveHalf ch m.polarity).sidePeak ch (sideOf m)

theorem Dev.integrationEnd_eq {d : Dev} {ch : Nat} (h : ch < 180) (one : 1 ≤ d.get R.TRK_CH_STAT_STATE ch) (four : d.get R.TRK_CH_STAT_STATE ch ≤ 4)
    (run : d.paused 2 = false) (m : Integ) : d.integrationEnd ch m = ((d.integrated ch m).chAdvance ch m).fullSky m.reach := by
  unfold Dev.integrationEnd
  extract_lets st
  rw [if_neg (by simp [h, run, st, one, four])]
  rfl

/-- A channel without a signal, or a part that pauses, ends no integration. -/
theorem Dev.integrationEnd_still {d : Dev} {ch : Nat}
    (h : 180 ≤ ch ∨ d.get R.TRK_CH_STAT_STATE ch = stIdle ∨ 5 ≤ d.get R.TRK_CH_STAT_STATE ch ∨ d.paused 2 = true) (m : Integ) : d.integrationEnd ch m = d := by
  unfold Dev.integrationEnd
  extract_lets st
  refine if_pos ?_
  simp only [Bool.or_eq_true, Bool.not_eq_true', Bool.and_eq_false_iff, decide_eq_true_eq, decide_eq_false_iff_not]
  rcases h with h | h | h | h
  · exact .inl (.inl h)
  · exact .inl (.inr (.inl (by rw [show st = stIdle from h]; decide)))
  · exact .inl (.inr (.inr (Nat.not_le.2 h)))
  · exact .inr h

/-- A step that leaves the prompts of a channel's integrations and, but for reports, the registers. -/
structure HistKept (ch : Nat) (a b : Dev) : Prop where
  regs : KeepRegs reportWs [] a b
  hist : (b.chan ch).hist = (a.chan ch).hist

namespace HistKept

theorem refl (ch : Nat) (d : Dev) : HistKept ch d d := ⟨.refl _ _ _, rfl⟩

theorem trans {ch : Nat} {a b c : Dev} (h : HistKept ch a b) (k : HistKept ch b c) : HistKept ch a c := ⟨h.regs.trans k.regs, k.hist.trans h.hist⟩

theorem ite {ch : Nat} {a b c : Dev} {p : Prop} [Decidable p] (h : HistKept ch a b) (k : HistKept ch a c) : HistKept ch a (if p then b else c) := by
  split
  · exact h
  · exact k

theorem modChan (d : Dev) (ch : Nat) {f : Chan → Chan} (h : ∀ c, (f c).hist = c.hist) : HistKept ch d (d.modChan ch f) :=
  ⟨.of_regs rfl, (congrArg Chan.hist (d.chan_modChan_self ch f)).trans (h _)⟩

theorem record (d : Dev) (ch c : Nat) (x : List Byte) : HistKept ch d (d.record c x) :=
  ⟨(DevFrame.record d c x).regs, by rw [Dev.chan, Dev.record_trk, Dev.chan]⟩

theorem combAdd (d : Dev) (ch : Nat) (m : Integ) : HistKept ch d (d.combAdd ch m) := .ite (.modChan d ch fun _ => rfl) (.modChan d ch fun _ => rfl)

theorem lossTimed (d : Dev) (ch : Nat) (m : Integ) (st : Nat) : HistKept ch d (d.lossTimed ch m st) := .modChan d ch fun _ => rfl

theorem towTaken (d : Dev) (ch : Nat) (m : Integ) : HistKept ch d (d.towTaken ch m) := by
  unfold Dev.towTaken
  split
  · exact .modChan d ch fun _ => rfl
  · exact .refl ch d

theorem resolveHalf (d : Dev) (ch : Nat) (p : Option Bool) : HistKept ch d (d.resolveHalf ch p) := by
  unfold Dev.resolveHalf
  split
  · exact .ite (.modChan d ch fun _ => rfl) (.refl ch d)
  · exact .refl ch d

theorem sidePeak (d : Dev) (ch : Nat) (side : Int) : HistKept ch d (d.sidePeak ch side) := by
  unfold Dev.sidePeak
  extract_lets c n x
  have hx : HistKept ch d x := .modChan d ch fun _ => rfl
  exact .ite (.refl ch d) (.ite (hx.trans (.record x ch _ _)) (.modChan d ch fun _ => rfl))

end HistKept

/-- After the loops the newest integration heads the prompts kept. -/
theorem Dev.hist_loopsRun (d : Dev) (ch : Nat) (m : Integ) :
    (((d.integTo ch).loopsRun ch m (d.get R.TRK_CH_STAT_TINT ch)).chan ch).hist = lastMs (d.histWith ch m) 100 := by
  unfold Dev.loopsRun
  rw [Dev.chan_modChan_self]
  rfl

/-- What an integration's end has come to before the change of state: C/N0, the prompts, and no other change of these registers. -/
theorem Dev.integrated_shows (d : Dev) {ch : Nat} (h : ch < 180) (m : Integ) :
    KeepRegs reportWs [R.TRK_CH_STAT_CN0] d (d.integrated ch m) ∧
    (d.integrated ch m).get R.TRK_CH_STAT_CN0 ch =
      min (Config.cn0 (lastMs (d.histWith ch m) (if d.get R.TRK_CH_STAT_STATE ch = stPullin then 10 else 100))) 65535 ∧
    ((d.integrated ch m).chan ch).hist = lastMs (d.histWith ch m) 100 := by
  have hhas : R.TRK_CH_STAT_CN0.has ch 0 = true := Fld.has_row (Nat.lt_trans h (by decide)) Nat.one_pos
  have hloops : HistKept ch ((d.integTo ch).loopsRun ch m (d.get R.TRK_CH_STAT_TINT ch))
      (((d.integTo ch).loopsRun ch m (d.get R.TRK_CH_STAT_TINT ch)).combAdd ch m) := .combAdd _ ch m
  have hrest : HistKept ch (d.integLoops ch m) (d.integrated ch m) :=
    (((HistKept.lossTimed _ ch m _).trans (.towTaken _ ch m)).trans (.resolveHalf _ ch m.polarity)).trans (.sidePeak _ ch (sideOf m))
  have hstart : KeepRegs reportWs [R.TRK_CH_STAT_CN0] d ((d.integTo ch).loopsRun ch m (d.get R.TRK_CH_STAT_TINT ch)) := .of_regs rfl
  have hset : KeepRegs reportWs [R.TRK_CH_STAT_CN0] d (d.integLoops ch m) :=
    (hstart.trans (hloops.regs.mono (fun _ h => h) (by simp))).trans (.set _ _ _ _ (mem_of_trkFlds (by decide)) (.inl (List.mem_singleton.2 rfl)))
  refine ⟨hset.trans (hrest.regs.mono (fun _ h => h) (by simp)), ?_, (hrest.hist.trans hloops.hist).trans (d.hist_loopsRun ch m)⟩
  rw [hrest.regs.readTrk (by decide)]
  refine (Dev.get_set_self _ _ _ _ _ hhas).trans (Nat.mod_eq_of_lt ?_)
  exact Nat.lt_of_le_of_lt (Nat.min_le_right _ _) (by decide)

/-! ### The change of state (R130) -/

theorem Dev.chAdvance_pullin {d : Dev} {ch : Nat} (h : d.get R.TRK_CH_STAT_STATE ch = stPullin) (m : Integ) : d.chAdvance ch m =
    if d.get R.TRK_THR_CONF_CN0 * 25 ≤ d.get R.TRK_CH_STAT_CN0 ch && codeClose m.e m.l (d.spacingOf ch) then d.chState ch stFll else d := by
  unfold Dev.chAdvance
  extract_lets sig sat thr st hist
  exact if_pos h

theorem Dev.chAdvance_fll {d : Dev} {ch : Nat} (h : d.get R.TRK_CH_STAT_STATE ch = stFll) (m : Integ) : d.chAdvance ch m =
    if freqClose (d.chan ch).hist (grainMs (d.get R.TRK_CH_SEL_SIG ch)) then d.chState ch stPll else d := by
  unfold Dev.chAdvance
  extract_lets sig sat thr st hist
  have hst : st = stFll := h
  rw [if_neg (by rw [hst]; decide), if_pos hst]

/-- TRACK is entered from PLL: T_int follows, and the handover signals start (R121, R128). -/
def Dev.trackEntered (d : Dev) (ch : Nat) (m : Integ) : Dev :=
  let x := ((d.carrierLock ch (pliOk (d.chan ch).hist 20 (d.get R.TRK_THR_PLI_THR))).modChan ch fun c => { c with sync := true }).chState ch stTrack
  (x.set R.TRK_CH_STAT_TINT (x.tintOf ch) ch).startHandovers (d.get R.TRK_CH_SEL_SAT ch) (d.get R.TRK_CH_SEL_SIG ch) m.elev

theorem Dev.chAdvance_pll {d : Dev} {ch : Nat} (h : d.get R.TRK_CH_STAT_STATE ch = stPll) (m : Integ) : d.chAdvance ch m =
    if pliOk (d.chan ch).hist 20 (d.get R.TRK_THR_PLI_THR) && m.sync == syncOf (d.get R.TRK_CH_SEL_SIG ch) (d.get R.TRK_CH_SEL_SAT ch) then
      d.trackEntered ch m
    else d.carrierLock ch (pliOk (d.chan ch).hist 20 (d.get R.TRK_THR_PLI_THR)) := by
  unfold Dev.chAdvance
  extract_lets sig sat thr st hist
  have hst : st = stPll := h
  rw [if_neg (by rw [hst]; decide), if_neg (by rw [hst]; decide), if_pos hst]
  rfl

/-- Carrier lock lost in TRACK: back to FLL, at one grain. -/
def Dev.trackLost (d : Dev) (ch : Nat) : Dev :=
  (((d.carrierLock ch false).chState ch stFll).set R.TRK_CH_STAT_TINT (grainMs (d.get R.TRK_CH_SEL_SIG ch)) ch).modChan ch fun c => { c with slip := true }

theorem Dev.chAdvance_track_lost {d : Dev} {ch : Nat} (h : d.get R.TRK_CH_STAT_STATE ch = stTrack)
    (low : pliOk (d.chan ch).hist 100 (d.get R.TRK_THR_PLI_THR) = false) (m : Integ) : d.chAdvance ch m = d.trackLost ch := by
  unfold Dev.chAdvance
  extract_lets sig sat thr st hist
  have hst : st = stTrack := h
  have hlow : pliOk hist 100 thr = false := low
  rw [if_neg (by rw [hst]; decide), if_neg (by rw [hst]; decide), if_neg (by rw [hst]; decide), if_pos hst, hlow]
  rfl

theorem DevFrame.carrierLock (d : Dev) (ch : Nat) (lock : Bool) : DevFrame [.trk] [] [] d (d.carrierLock ch lock) := .ite (.refl _ _ _ d) (.modChan d ch _)

theorem Dev.locked_carrierLock (d : Dev) (ch : Nat) (lock : Bool) : ((d.carrierLock ch lock).chan ch).locked = lock := by
  unfold Dev.carrierLock
  split
  · next h => exact beq_iff_eq.1 h
  · exact congrArg Chan.locked (d.chan_modChan_self ch _)

/-- Handover signals start on idle channels, so a channel that is not idle keeps its state. -/
theorem Dev.state_startHandovers {d : Dev} {ch : Nat} (h : d.get R.TRK_CH_STAT_STATE ch ≠ stIdle) (sat sig : Nat) (elev : Int) :
    (d.startHandovers sat sig elev).get R.TRK_CH_STAT_STATE ch = d.get R.TRK_CH_STAT_STATE ch := by
  unfold Dev.startHandovers
  split
  · rfl
  refine List.foldlRecOn (motive := fun x : Dev => x.get R.TRK_CH_STAT_STATE ch = d.get R.TRK_CH_STAT_STATE ch) _ _ rfl fun x hx g _ => ?_
  split
  · exact hx
  extract_lets c
  split
  · next k hk =>
    have hne : ch ≠ k := by
      rintro rfl
      obtain ⟨-, hidle⟩ | ⟨hhand, -⟩ := Dev.allotFor_cases hk
      · exact h (hx.symm.trans hidle)
      · exact Bool.noConfusion hhand
    exact (x.state_startOn_other hne c).trans hx
  · split
    · exact hx
    · exact hx

theorem Dev.state_trackEntered (d : Dev) {ch : Nat} (h : ch < 180) (m : Integ) : (d.trackEntered ch m).get R.TRK_CH_STAT_STATE ch = stTrack := by
  unfold Dev.trackEntered
  extract_lets x
  have hx : (x.set R.TRK_CH_STAT_TINT (x.tintOf ch) ch).get R.TRK_CH_STAT_STATE ch = stTrack :=
    ((DevFrame.setTrk x (g := R.TRK_CH_STAT_TINT) (by decide) _ ch 0).readTrk (by decide) ch 0).trans
      (Dev.state_chState_self _ (Nat.lt_trans h (by decide)) (by decide))
  rw [Dev.state_startHandovers (by rw [hx]; decide), hx]

theorem grainMs_lt (g : Nat) : grainMs g < 32 := by
  unfold grainMs
  split
  · decide
  · split
    · decide
    · split <;> decide

/-- The channel after carrier lock is lost in TRACK. -/
theorem Dev.trackLost_shows (d : Dev) {ch : Nat} (h : ch < 180) :
    (d.trackLost ch).get R.TRK_CH_STAT_STATE ch = stFll ∧ ((d.trackLost ch).chan ch).locked = false ∧ ((d.trackLost ch).chan ch).slip = true ∧
      (d.trackLost ch).get R.TRK_CH_STAT_TINT ch = grainMs (d.get R.TRK_CH_SEL_SIG ch) := by
  have hch : ch < 192 := Nat.lt_trans h (by decide)
  have hhas : R.TRK_CH_STAT_TINT.has ch 0 = true := Fld.has_row hch Nat.one_pos
  refine ⟨?_, ?_, ?_, ?_⟩
  · exact ((DevFrame.setTrk _ (g := R.TRK_CH_STAT_TINT) (by decide) _ ch 0).readTrk (by decide) ch 0).trans (Dev.state_chState_self _ hch (by decide))
  · refine (congrArg Chan.locked (Dev.chan_modChan_self _ ch _)).trans ?_
    exact (congrArg Chan.locked (Dev.chan_chState_self (d.carrierLock ch false) ch stFll)).trans (d.locked_carrierLock ch false)
  · exact congrArg Chan.slip (Dev.chan_modChan_self _ ch _)
  · exact (Dev.get_set_self _ _ _ _ _ hhas).trans (Nat.mod_eq_of_lt (grainMs_lt _))

/-! ### Full sky (R97) -/

theorem DevFrame.fullSky (d : Dev) (reach : Option (List (Nat × Nat))) :
    DevFrame ([.sky] ++ reports) reportWs [R.ACQ_STATUS_SKY_DONE] d (d.fullSky reach) := by
  unfold Dev.fullSky
  split
  · split
    · exact .refl _ _ _ d
    · exact (((DevFrame.setTrk d (g := R.ACQ_STATUS_SKY_DONE) (by decide) 1 0 0).mono (by decide)).next (.record _ _ _) (by decide)).next (.sky _ _) (by decide)
  · exact .refl _ _ _ d

theorem Dev.chan_fullSky (d : Dev) (reach : Option (List (Nat × Nat))) (ch : Nat) : (d.fullSky reach).chan ch = d.chan ch := by
  have htrk : (d.fullSky reach).trk = d.trk := (congrArg Dev.trk (DevFrame.fullSky d reach).parts :)
  rw [Dev.chan, htrk, Dev.chan]

theorem exec_integrationEnd {s : State} (run : s.dev.runs .corr = true) (ch : Nat) (m : Integ) :
    exec (.integrationEnd ch m) s = .next { s with dev := s.dev.integrationEnd ch m } := onRun_next (f := fun d => d.integrationEnd ch m) run

/-! ### A channel after an integration's end -/

section
variable {d : Dev} {ch : Nat} (run : d.paused 2 = false) (h : ch < 180)
include run h

/-- Full sky changes nothing of a channel that has a signal. -/
theorem Dev.integrationEnd_keeps (one : 1 ≤ d.get R.TRK_CH_STAT_STATE ch) (four : d.get R.TRK_CH_STAT_STATE ch ≤ 4) (m : Integ) :
    (∀ f, OutsideTrk reportWs [R.ACQ_STATUS_SKY_DONE] f → (d.integrationEnd ch m).get f ch = ((d.integrated ch m).chAdvance ch m).get f ch) ∧
      (d.integrationEnd ch m).chan ch = ((d.integrated ch m).chAdvance ch m).chan ch := by
  rw [Dev.integrationEnd_eq h one four run]
  exact ⟨fun f hf => (DevFrame.fullSky _ _).readTrk hf ch 0, Dev.chan_fullSky _ _ ch⟩

/-- In PULLIN: C/N0 of the last 10 ms, and FLL once it is confirmed. -/
theorem Dev.integrationEnd_pullin (hst : d.get R.TRK_CH_STAT_STATE ch = stPullin) (m : Integ) :
    (d.integrationEnd ch m).get R.TRK_CH_STAT_CN0 ch = min (Config.cn0 (lastMs (d.histWith ch m) 10)) 65535 ∧
    (d.integrationEnd ch m).get R.TRK_CH_STAT_STATE ch =
      if d.get R.TRK_THR_CONF_CN0 * 25 ≤ (d.integrationEnd ch m).get R.TRK_CH_STAT_CN0 ch ∧ codeClose m.e m.l (d.spacingOf ch) = true then stFll
      else stPullin := by
  obtain ⟨hread, -⟩ := Dev.integrationEnd_keeps run h (by rw [hst]; decide) (by rw [hst]; decide) m
  obtain ⟨hregs, hcn0, -⟩ := d.integrated_shows h m
  have hx := (hregs.readTrk (f := R.TRK_CH_STAT_STATE) (by decide) ch 0).trans hst
  have hspace : (d.integrated ch m).spacingOf ch = d.spacingOf ch := by simp (disch := decide) only [Dev.spacingOf, hregs.readTrk]
  have hkeep : (d.integrationEnd ch m).get R.TRK_CH_STAT_CN0 ch = (d.integrated ch m).get R.TRK_CH_STAT_CN0 ch := by
    rw [hread _ (by decide), Dev.chAdvance_pullin hx]
    split
    · exact (DevFrame.chState _ _ _).readTrk (by decide) ch 0
    · rfl
  rw [if_pos hst] at hcn0
  refine ⟨hkeep.trans hcn0, ?_⟩
  rw [hkeep, hread _ (by decide), Dev.chAdvance_pullin hx, hregs.readTrk (f := R.TRK_THR_CONF_CN0) (by decide), hspace]
  simp only [Bool.and_eq_true, decide_eq_true_eq]
  split
  · exact Dev.state_chState_self _ (Nat.lt_trans h (by decide)) (by decide)
  · exact hx

/-- In FLL: PLL once the frequency is close. -/
theorem Dev.integrationEnd_fll (hst : d.get R.TRK_CH_STAT_STATE ch = stFll) (m : Integ) : (d.integrationEnd ch m).get R.TRK_CH_STAT_STATE ch =
    if freqClose (lastMs (d.histWith ch m) 100) (grainMs (d.get R.TRK_CH_SEL_SIG ch)) = true then stPll else stFll := by
  obtain ⟨hread, -⟩ := Dev.integrationEnd_keeps run h (by rw [hst]; decide) (by rw [hst]; decide) m
  obtain ⟨hregs, -, hhist⟩ := d.integrated_shows h m
  have hx := (hregs.readTrk (f := R.TRK_CH_STAT_STATE) (by decide) ch 0).trans hst
  rw [hread _ (by decide), Dev.chAdvance_fll hx, hhist, hregs.readTrk (f := R.TRK_CH_SEL_SIG) (by decide)]
  split
  · exact Dev.state_chState_self _ (Nat.lt_trans h (by decide)) (by decide)
  · exact hx

/-- In PLL: TRACK once the carrier is locked and the signal synchronized. -/
theorem Dev.integrationEnd_pll (hst : d.get R.TRK_CH_STAT_STATE ch = stPll) (m : Integ) : (d.integrationEnd ch m).get R.TRK_CH_STAT_STATE ch =
    if pliOk (lastMs (d.histWith ch m) 100) 20 (d.get R.TRK_THR_PLI_THR) = true ∧ m.sync = syncOf (d.get R.TRK_CH_SEL_SIG ch) (d.get R.TRK_CH_SEL_SAT ch)
    then stTrack else stPll := by
  obtain ⟨hread, -⟩ := Dev.integrationEnd_keeps run h (by rw [hst]; decide) (by rw [hst]; decide) m
  obtain ⟨hregs, -, hhist⟩ := d.integrated_shows h m
  have hx := (hregs.readTrk (f := R.TRK_CH_STAT_STATE) (by decide) ch 0).trans hst
  rw [hread _ (by decide), Dev.chAdvance_pll hx, hhist, hregs.readTrk (f := R.TRK_CH_SEL_SIG) (by decide), hregs.readTrk (f := R.TRK_CH_SEL_SAT) (by decide),
    hregs.readTrk (f := R.TRK_THR_PLI_THR) (by decide)]
  simp only [Bool.and_eq_true, beq_iff_eq]
  split
  · exact Dev.state_trackEntered _ h m
  · exact ((DevFrame.carrierLock _ _ _).readTrk (by decide) ch 0).trans hx

/-- In TRACK: FLL, with its flags and T_int, once carrier lock is lost. -/
theorem Dev.integrationEnd_track_lost (hst : d.get R.TRK_CH_STAT_STATE ch = stTrack) (m : Integ)
    (low : pliOk (lastMs (d.histWith ch m) 100) 100 (d.get R.TRK_THR_PLI_THR) = false) :
    (d.integrationEnd ch m).get R.TRK_CH_STAT_STATE ch = stFll ∧ ((d.integrationEnd ch m).chan ch).locked = false ∧
      ((d.integrationEnd ch m).chan ch).slip = true ∧ (d.integrationEnd ch m).get R.TRK_CH_STAT_TINT ch = grainMs (d.get R.TRK_CH_SEL_SIG ch) := by
  obtain ⟨hread, hchan⟩ := Dev.integrationEnd_keeps run h (by rw [hst]; decide) (by rw [hst]; decide) m
  obtain ⟨hregs, -, hhist⟩ := d.integrated_shows h m
  have hx := (hregs.readTrk (f := R.TRK_CH_STAT_STATE) (by decide) ch 0).trans hst
  have hlow : pliOk ((d.integrated ch m).chan ch).hist 100 ((d.integrated ch m).get R.TRK_THR_PLI_THR) = false := by
    rwa [hhist, hregs.readTrk (f := R.TRK_THR_PLI_THR) (by decide)]
  rw [Dev.chAdvance_track_lost hx hlow] at hread hchan
  rw [hread _ (by decide), hread _ (by decide), hchan, ← hregs.readTrk (f := R.TRK_CH_SEL_SIG) (by decide)]
  exact (d.integrated ch m).trackLost_shows h

end

/-- Settles O22: three starts, a stop, the four states with a signal, and the integrations that change nothing. -/
theorem channelsRun : Obligations.ChannelsRun := by
  unfold Obligations.ChannelsRun
  refine ⟨fun ch c v s w h go own idle en dir hc room on => ?_, fun ch c v s w h go own idle en dir hc off => ?_,
    fun ch g v s w h go own idle en dir hs ht => ?_, fun ch v s w h stop idle oos none => ?_, fun ch m s run free h hst => ?_,
    fun ch m s run free h hst => ?_, fun ch m s run free h hst => ?_, fun ch m s run free h hst low => ?_, fun ch m s still => ?_⟩
  · have hch : ch < 192 := Nat.lt_trans h (by decide)
    have hon : (s.dev.cmdWritten ch v.toNat).on R.SKY_CTRL_ACQ_EN = true := by rwa [Dev.on, s.dev.read_cmdWritten h _ (by decide)]
    obtain ⟨hqueue, -⟩ := Dev.enqueue_room (by rwa [s.dev.sky_cmdWritten]) hon ((s.dev.cmdWritten ch v.toNat).hostSearch ch c)
    refine ⟨_, exec_trkChStart w, ?_⟩
    dsimp only
    rw [Dev.chStart_search h go own idle en dir hc room on]
    refine ⟨Dev.state_chState_self _ hch (by decide), ⟨{ (s.dev.cmdWritten ch v.toNat).hostSearch ch c with no := (s.dev.cmdWritten ch v.toNat).sky.nextNo },
      ?_, rfl, rfl, s.dev.read_cmdWritten h _ (by decide) ch, s.dev.read_cmdWritten h _ (by decide) ch⟩, ?_⟩
    · rw [Dev.sky_chState, hqueue, s.dev.sky_cmdWritten]
    · exact ((((DevFrame.cmdWritten s.dev hch v.toNat).mono (by decide)).next (EnqStep.enqueue _ _).frame (by decide)).next (.chState _ ch stWait)
        (by decide)).frame
  · refine ⟨_, exec_trkChStart w, ?_⟩
    dsimp only
    rw [Dev.chStart_disabled h go own idle en dir hc off]
    refine ⟨Dev.fail_raise _ (Nat.lt_trans h (by decide)), ((DevFrame.raise _ (by decide) (by decide) ch 1).readTrk (by decide) ch 0).trans ?_⟩
    rw [s.dev.read_cmdWritten h _ (by decide), idle]
  · have hch : ch < 192 := Nat.lt_trans h (by decide)
    obtain ⟨code, dopp, hpull⟩ := Dev.chStart_handover h go own idle en dir hs ht
    refine ⟨_, exec_trkChStart w, ?_⟩
    dsimp only
    rw [hpull]
    obtain ⟨hsat, hsig⟩ := Dev.sel_startPullin (s.dev.cmdWritten ch v.toNat) (s.dev.get R.TRK_CH_SEL_SAT ch) (s.dev.get R.TRK_CH_SEL_SIG ch) true 0 code dopp hch
    exact ⟨Dev.state_startPullin_self _ _ _ _ _ _ _ hch, Dev.chan_startPullin .., hsat.trans (Nat.mod_eq_of_lt (s.dev.get_lt _ ch 0)),
      hsig.trans (Nat.mod_eq_of_lt (s.dev.get_lt _ ch 0)),
      (((DevFrame.cmdWritten s.dev hch v.toNat).mono (by decide)).next (.startPullin ..) (by decide)).frame⟩
  · have hcands : ((s.dev.cmdWritten ch v.toNat).chanDropped ch).sky.cands = [] := (congrArg Sky.cands (s.dev.sky_cmdWritten ch v.toNat)).trans none
    have hstop : s.dev.chStop ch v.toNat = ((s.dev.cmdWritten ch v.toNat).chanDropped ch).chState ch stIdle := by
      rw [Dev.chStop_eq h stop idle oos, Dev.freeChan_of_none hcands]
    refine ⟨_, exec_trkChStop w, ?_⟩
    dsimp only
    rw [hstop]
    refine ⟨Dev.state_chState_self _ (Nat.lt_trans h (by decide)) (by decide), fun x hx => ?_⟩
    rw [Dev.sky_chState] at hx
    simpa using (List.mem_filter.1 hx).2
  · exact ⟨_, exec_integrationEnd run ch m, Dev.integrationEnd_pullin free h hst m⟩
  · exact ⟨_, exec_integrationEnd run ch m, Dev.integrationEnd_fll free h hst m⟩
  · exact ⟨_, exec_integrationEnd run ch m, Dev.integrationEnd_pll free h hst m⟩
  · exact ⟨_, exec_integrationEnd run ch m, Dev.integrationEnd_track_lost free h hst m low⟩
  · exact .of_onRun_same (f := fun d => d.integrationEnd ch m) rfl (Dev.integrationEnd_still still m) rfl

end Sys2Proof.Machine
end

section
/-!
PROOFS. How a channel loses its signal (R121, R130, R131): a pull-in that is not confirmed, a loss, the end of a hold, and a handover signal tried again.
-/

namespace Sys2Proof.Machine

/-! ### A pull-in not confirmed (R130) -/

/-- The 200 ms of a pull-in are over: a handover signal will be tried again, and the channel's own state is cleared. -/
def Dev.pullinOver (d : Dev) (ch : Nat) : Dev :=
  let x := d.passToMono ((d.chan ch).since + 200 * ms)
  (if (d.chan ch).handover then x.retryLater ch else x).modChan ch fun _ => {}

theorem Dev.pullinTimeout_eq {d : Dev} {ch : Nat} (h : ch < 180) (hst : d.get R.TRK_CH_STAT_STATE ch = stPullin) :
    d.pullinTimeout ch = (d.pullinOver ch).freeChan ch := by
  unfold Dev.pullinTimeout
  rw [if_neg (by simp [hst, h])]
  rfl

theorem DevFrame.retryLater (d : Dev) (ch : Nat) : DevFrame [.trk] [] [] d (d.retryLater ch) := .trk d _

theorem DevFrame.pullinOver (d : Dev) (ch : Nat) : DevFrame [.clk, .trk] [] [] d (d.pullinOver ch) := by
  have hpass : DevFrame [.clk, .trk] [] [] d (d.passToMono ((d.chan ch).since + 200 * ms)) := (DevFrame.passToMono d _).mono (by decide)
  exact (DevFrame.ite (hpass.next (.retryLater _ ch) (by decide)) hpass).next (.modChan _ ch _) (by decide)

theorem Dev.clk_pullinOver (d : Dev) (ch : Nat) : (d.pullinOver ch).clk = (d.passToMono ((d.chan ch).since + 200 * ms)).clk := by
  unfold Dev.pullinOver
  dsimp only
  split <;> rfl

theorem exec_pullinTimeout {s : State} (run : s.dev.runs .corr = true) (ch : Nat) :
    exec (.pullinTimeout ch) s = .next { s with dev := s.dev.pullinTimeout ch } := onRun_next (f := fun d => d.pullinTimeout ch) run

/-! ### A signal lost (R100, R130, R131) -/

/-- A channel is LOST, its carrier unlocked and its loss timer stopped. -/
def Dev.signalLost (d : Dev) (ch : Nat) : Dev := (d.chState ch stLost).modChan ch fun x => { x with lossAt := none, locked := false }

/-- The reacquisition of a channel's signal, found by searches of class `c`. -/
def Dev.reacqSearch (d : Dev) (ch c sat sig : Nat) (dopp : Int) : Search :=
  { d.classSearch .reacq c (sigBand sig) sat with
    sig := sig, k := min 4 (24 / d.get R.ACQ_CLASS_CFG_TCOH c), nbins := 7, chan := some ch, doppC := dopp }

/-- The reacquisition joins the queue, and the channel is held for it. -/
def Dev.reacqHeld (d : Dev) (ch c sat sig : Nat) (dopp : Int) : Dev :=
  (d.enqueue (d.reacqSearch ch c sat sig dopp)).modChan ch fun x => { x with holdTo := some (d.clk.mono + 1000 * ms) }

theorem Dev.chanLost_class {d : Dev} {ch c : Nat} (hc : sigClass (d.get R.TRK_CH_SEL_SIG ch) = some c) : d.chanLost ch =
    (d.signalLost ch).reacqHeld ch c (d.get R.TRK_CH_SEL_SAT ch) (d.get R.TRK_CH_SEL_SIG ch) ((d.chan ch).doppler / 16) := by
  unfold Dev.chanLost
  simp only [hc, Dev.reacquire]
  rfl

theorem Dev.chanLost_no_class {d : Dev} {ch : Nat} (hc : sigClass (d.get R.TRK_CH_SEL_SIG ch) = none) : d.chanLost ch = (d.signalLost ch).retryLater ch := by
  unfold Dev.chanLost
  simp only [hc]
  rfl

theorem DevFrame.signalLost (d : Dev) (ch : Nat) : DevFrame [.trk] [] stateFlds d (d.signalLost ch) :=
  (DevFrame.chState d ch stLost).next (.modChan _ ch _) (by decide)

theorem DevFrame.reacqHeld (d : Dev) (ch c sat sig : Nat) (dopp : Int) :
    DevFrame [.sky, .trk] [] [R.ACQ_STATUS_QUEUE] d (d.reacqHeld ch c sat sig dopp) :=
  ((EnqStep.enqueue d _).frame.mono (by decide)).next (.modChan _ ch _) (by decide)

theorem Dev.clk_signalLost (d : Dev) (ch : Nat) : (d.signalLost ch).clk = d.clk := d.clk_chState ch stLost

theorem Dev.state_signalLost (d : Dev) {ch : Nat} (h : ch < 180) : (d.signalLost ch).get R.TRK_CH_STAT_STATE ch = stLost :=
  Dev.state_chState_self d (Nat.lt_trans h (by decide)) (by decide)

/-- A channel that loses its signal is LOST; time stands, and nothing changes beside channels and queue. -/
theorem Dev.chanLost_shows (d : Dev) {ch : Nat} (h : ch < 180) : (d.chanLost ch).get R.TRK_CH_STAT_STATE ch = stLost ∧ (d.chanLost ch).clk = d.clk ∧
    DevFrame [.trk, .sky] [] (R.ACQ_STATUS_QUEUE :: stateFlds) d (d.chanLost ch) := by
  have hrest : DevFrame [.sky, .trk] [] [R.ACQ_STATUS_QUEUE] (d.signalLost ch) (d.chanLost ch) := by
    cases hc : sigClass (d.get R.TRK_CH_SEL_SIG ch) with
    | some c => rw [Dev.chanLost_class hc]; exact .reacqHeld _ ch c _ _ _
    | none => rw [Dev.chanLost_no_class hc]; exact (DevFrame.retryLater _ ch).mono (by decide)
  refine ⟨?_, ?_, ((DevFrame.signalLost d ch).mono (by decide)).next hrest (by decide)⟩
  · exact (hrest.readTrk (by decide) ch 0).trans (d.state_signalLost h)
  · exact (congrArg Dev.clk hrest.parts :).trans (d.clk_signalLost ch)

/-- While the queue has room and acquisition is enabled, the reacquisition is the newest search, and the channel is held for a second. -/
theorem Dev.chanLost_queues {d : Dev} {ch c : Nat} (hc : sigClass (d.get R.TRK_CH_SEL_SIG ch) = some c) (room : d.sky.queue.length < 256)
    (on : d.on R.SKY_CTRL_ACQ_EN = true) : ((d.chanLost ch).chan ch).holdTo = some (d.clk.mono + 1000 * ms) ∧
    ∃ x : Search, (d.chanLost ch).sky.queue = d.sky.queue ++ [x] ∧ x.kind = .reacq ∧ x.chan = some ch ∧ x.nbins = 7 := by
  have hsky : (d.signalLost ch).sky = d.sky := d.sky_chState ch stLost
  have hon : (d.signalLost ch).on R.SKY_CTRL_ACQ_EN = true := by rwa [Dev.on, (DevFrame.signalLost d ch).readTrk (by decide)]
  obtain ⟨hqueue, -⟩ := Dev.enqueue_room (by rwa [hsky]) hon
    ((d.signalLost ch).reacqSearch ch c (d.get R.TRK_CH_SEL_SAT ch) (d.get R.TRK_CH_SEL_SIG ch) ((d.chan ch).doppler / 16))
  rw [Dev.chanLost_class hc]
  refine ⟨?_, _, hqueue.trans (by rw [hsky]), rfl, rfl, rfl⟩
  refine (congrArg Chan.holdTo (Dev.chan_modChan_self _ ch _)).trans ?_
  rw [d.clk_signalLost]

theorem exec_fllTimeout {s : State} {ch : Nat} (run : s.dev.runs .corr = true) (h : ch < 180) (hst : s.dev.get R.TRK_CH_STAT_STATE ch = stFll) :
    exec (.fllTimeout ch) s = .next { s with dev := (s.dev.passToMono ((s.dev.chan ch).since + 500 * ms)).chanLost ch } := by
  simp only [exec, execFllTimeout, onRun, onDev, run, hst, h, if_true, beq_self_eq_true, decide_true, Bool.and_self]

theorem exec_channelLoss {s : State} {ch t : Nat} (run : s.dev.runs .corr = true) (h : ch < 180) (hloss : (s.dev.chan ch).lossAt = some t)
    (two : 2 ≤ s.dev.get R.TRK_CH_STAT_STATE ch) (four : s.dev.get R.TRK_CH_STAT_STATE ch ≤ 4) :
    exec (.channelLoss ch) s = .next { s with dev := (s.dev.passToMono (t + s.dev.get R.TRK_THR_LOSS_T * 10 * ms)).chanLost ch } := by
  simp only [exec, execChannelLoss, onRun, onDev, run, hloss, two, four, h, if_true, decide_true, Bool.and_self]

/-! ### The end of a hold (R131) -/

/-- The channel is held no more. -/
def Dev.holdOver (d : Dev) (ch t : Nat) : Dev := (d.passToMono t).modChan ch fun c => { c with holdTo := none }

theorem exec_reacqHoldExpiry {s : State} {ch t : Nat} (run : s.dev.runs .corr = true) (hold : (s.dev.chan ch).holdTo = some t)
    (hst : s.dev.get R.TRK_CH_STAT_STATE ch = stLost) : exec (.reacqHoldExpiry ch) s = .next { s with dev := (s.dev.holdOver ch t).freeChan ch } := by
  have hlost : (s.dev.holdOver ch t).get R.TRK_CH_STAT_STATE ch = stLost := hst
  simp only [exec, execReacqHoldExpiry, onRun, onDev, run, hold, if_true]
  exact congrArg (fun x : Dev => (.next { s with dev := x } : Res)) (if_pos (beq_iff_eq.2 hlost))

theorem DevFrame.holdOver (d : Dev) (ch t : Nat) : DevFrame [.clk, .trk] [] [] d (d.holdOver ch t) :=
  ((DevFrame.passToMono d t).mono (by decide)).next (.modChan _ ch _) (by decide)

/-! ### A handover signal tried again (R121) -/

/-- The retry is taken up at its time. -/
def Dev.retryTaken (d : Dev) (c : Cand) : Dev :=
  let x := d.passToMono (c.t + 10 * second)
  { x with trk := { x.trk with retry := x.trk.retry.erase c } }

theorem DevFrame.retryTaken (d : Dev) (c : Cand) : DevFrame [.clk, .trk] [] [] d (d.retryTaken c) :=
  ((DevFrame.passToMono d _).mono (by decide)).next (.trk _ _) (by decide)

/-- What a retry that is taken up comes to. -/
def Dev.retryGo (d : Dev) (sat sig : Nat) (c : Cand) : Dev :=
  if !(match sourceOf sig with | some g => d.tracked sat g | none => false) || d.onChannel sat sig || !d.on R.TRK_CTRL_HANDOVER || !d.on R.TRK_CTRL_EN then d
  else match c.chan with
    | some ch =>
      if d.on R.TRK_CH_CFG_OWNER ch && d.get R.TRK_CH_STAT_STATE ch == stIdle && d.get R.TRK_CH_SEL_SAT ch == sat && d.get R.TRK_CH_SEL_SIG ch == sig then
        d.startHandover ch sat sig c.elev
      else d
    | none => match d.allotFor c with
      | some ch => d.startOn ch c
      | none => d.waitChan { c with t := d.clk.mono }

theorem Dev.handoverRetry_eq {d : Dev} {sat sig : Nat} {c : Cand} (h : d.trk.retry.find? (fun c => c.sat == sat && c.sig == sig) = some c) :
    d.handoverRetry sat sig = (d.retryTaken c).retryGo sat sig c := by
  unfold Dev.handoverRetry
  rw [h]
  rfl

/-- While its source is tracked and the signal is on no channel, a retry that is given a channel starts on it. -/
theorem Dev.retryGo_starts {d : Dev} {sat sig g ch : Nat} {c : Cand} (en : d.on R.TRK_CTRL_EN = true) (hchan : c.chan = none)
    (hs : sourceOf sig = some g) (ht : d.tracked sat g = true) (hno : d.onChannel sat sig = false) (hand : d.on R.TRK_CTRL_HANDOVER = true)
    (hallot : d.allotFor c = some ch) : d.retryGo sat sig c = d.startOn ch c := by
  unfold Dev.retryGo
  simp only [hs, hchan, hallot]
  rw [if_neg (by simp [ht, hno, hand, en])]

theorem exec_handoverRetry {s : State} (run : s.dev.runs .corr = true) (sat sig : Nat) :
    exec (.handoverRetry sat sig) s = .next { s with dev := s.dev.handoverRetry sat sig } := onRun_next (f := fun d => d.handoverRetry sat sig) run

/-- Settles O23: a pull-in timed out; FLL timed out; C/N0 low for too long; a hold ended; a handover signal tried again. -/
theorem channelLoss : Obligations.ChannelLoss := by
  unfold Obligations.ChannelLoss
  refine ⟨fun ch s run h hst none => ?_, fun ch c s run on h hst hc room => ?_, fun ch t0 s run h hloss two four => ?_,
    fun ch t0 s run h hold hst none => ?_, fun sat sig g ch c s run en hchan hand hfind hs ht hno hen hallot => ?_⟩
  · have hframe := DevFrame.pullinOver s.dev ch
    have hcands : (s.dev.pullinOver ch).sky.cands = [] := (congrArg (fun x : Dev => x.sky.cands) hframe.parts :).trans none
    have hclk := s.dev.clk_pullinOver ch
    have hmono := s.dev.mono_passToMono ((s.dev.chan ch).since + 200 * ms)
    refine ⟨_, exec_pullinTimeout run ch, ?_⟩
    rw [Dev.pullinTimeout_eq h hst, Dev.freeChan_of_none hcands]
    refine ⟨Dev.state_chState_self _ (Nat.lt_trans h (by decide)) (by decide), ?_, ?_⟩
    · rw [Dev.clk_chState, hclk, hmono]
      exact Nat.le_max_right _ _
    · exact ((hframe.mono (by decide)).next (.chState _ ch stIdle) (by decide)).frame
  · have hmono := s.dev.mono_passToMono ((s.dev.chan ch).since + 500 * ms)
    have hpass := DevFrame.passToMono s.dev ((s.dev.chan ch).since + 500 * ms)
    refine ⟨_, exec_fllTimeout run h hst, ?_⟩
    obtain ⟨hstate, hclk, hlost⟩ := (s.dev.passToMono ((s.dev.chan ch).since + 500 * ms)).chanLost_shows h
    obtain ⟨hhold, hqueue⟩ := Dev.chanLost_queues (d := s.dev.passToMono ((s.dev.chan ch).since + 500 * ms)) (ch := ch) hc room on
    refine ⟨hstate, ?_, ?_, hqueue, ((hpass.mono (by decide)).next hlost (by decide)).frame⟩
    · rw [hclk, hmono]
      exact Nat.le_max_right _ _
    · rw [hclk]
      exact hhold
  · have hmono := s.dev.mono_passToMono (t0 + s.dev.get R.TRK_THR_LOSS_T * 10 * ms)
    have hpass := DevFrame.passToMono s.dev (t0 + s.dev.get R.TRK_THR_LOSS_T * 10 * ms)
    refine ⟨_, exec_channelLoss run h hloss two four, ?_⟩
    obtain ⟨hstate, hclk, hlost⟩ := (s.dev.passToMono (t0 + s.dev.get R.TRK_THR_LOSS_T * 10 * ms)).chanLost_shows h
    refine ⟨hstate, ?_, ((hpass.mono (by decide)).next hlost (by decide)).frame⟩
    rw [hclk, hmono]
    exact Nat.le_max_right _ _
  · have hmono := s.dev.mono_passToMono t0
    refine ⟨_, exec_reacqHoldExpiry run hold hst, ?_⟩
    rw [Dev.freeChan_of_none (d := s.dev.holdOver ch t0) none]
    refine ⟨Dev.state_chState_self _ (Nat.lt_trans h (by decide)) (by decide), ?_, ?_, ?_⟩
    · dsimp only
      rw [Dev.chan_chState_self]
      exact congrArg Chan.holdTo (Dev.chan_modChan_self _ ch _)
    · rw [Dev.clk_chState]
      exact (Nat.le_max_right _ _).trans (Nat.le_of_eq hmono.symm)
    · exact (((DevFrame.holdOver s.dev ch t0).mono (by decide)).next (.chState _ ch stIdle) (by decide)).frame
  · obtain ⟨hch, hidle⟩ : ch < 180 ∧ s.dev.get R.TRK_CH_STAT_STATE ch = stIdle := by
      rcases Dev.allotFor_cases hallot with h | ⟨h, -⟩
      · exact h
      · exact Bool.noConfusion (hand.symm.trans h)
    obtain ⟨hsat, hsig⟩ : c.sat = sat ∧ c.sig = sig := by simpa using List.find?_some hfind
    have hmono := s.dev.mono_passToMono (c.t + 10 * second)
    have hsrc : (s.dev.retryTaken c).tracked c.sat g = true := by rw [hsat]; exact ht
    obtain ⟨code, dopp, hpull⟩ := Dev.startHandover_tracked (hsig ▸ hs) hsrc ch c.elev
    have hidle' : (s.dev.retryTaken c).get R.TRK_CH_STAT_STATE ch ≠ stTrack := fun e => absurd (hidle.symm.trans e) (by decide)
    have hstart : s.dev.handoverRetry sat sig = (s.dev.retryTaken c).startPullin ch c.sat c.sig true c.elev code dopp := by
      rw [Dev.handoverRetry_eq hfind, Dev.retryGo_starts (d := s.dev.retryTaken c) en hchan hs ht hno hen hallot, Dev.startOn_of_ne_track hidle', Dev.startCand, if_pos hand, hpull]
    refine ⟨_, exec_handoverRetry run sat sig, ?_⟩
    rw [hstart]
    refine ⟨Dev.state_startPullin_self _ _ _ _ _ _ _ (Nat.lt_trans hch (by decide)), ?_, ?_, ?_, ?_⟩
    · rw [← hsat]
      exact (Dev.sel_startPullin _ _ _ _ _ _ _ (Nat.lt_trans hch (by decide))).1
    · rw [Dev.clk_startPullin]
      exact (Nat.le_max_right _ _).trans (Nat.le_of_eq hmono.symm)
    · exact Dev.retry_startPullin ..
    · exact (((DevFrame.retryTaken s.dev c).mono (by decide)).next (.startPullin ..) (by decide)).frame

end Sys2Proof.Machine
end

section
/-!
PROOFS. Datapath faults and the spares (R143-R147), and the sky channels stopped (R150).
-/

namespace Sys2Proof.Machine

/-! ### Parts outside a frame -/

namespace DevFrame

section
variable {ws : List Nat} {fs : List Fld} {a b : Dev}

theorem of_regs (e : b = { a with regs := b.regs }) (h : KeepRegs ws fs a b) : DevFrame [] ws fs a b := ⟨by rw [e]; rfl, h⟩

theorem trk_of_regs (h : DevFrame [] ws fs a b) : b.trk = a.trk := (congrArg Dev.trk h.parts :)

theorem trk_of_reports (h : DevFrame reports ws fs a b) : b.trk = a.trk := (congrArg Dev.trk h.parts :)

theorem sky_of_regs (h : DevFrame [] ws fs a b) : b.sky = a.sky := (congrArg Dev.sky h.parts :)

theorem sky_of_trk (h : DevFrame [.trk] ws fs a b) : b.sky = a.sky := (congrArg Dev.sky h.parts :)

end

end DevFrame

/-! ### A dump that fails (R143) -/

/-- A fault waits for its datapath's dump boundary. -/
def Dev.faultWaits (d : Dev) (ch cause : Nat) : Dev := { d with trk := { d.trk with faults := tabPut d.trk.faults ch cause } }

theorem Dev.datapathDump_channel {d : Dev} {ch c : Nat} (h : ch < 192) (hst : d.get R.TRK_CH_STAT_STATE ch ≠ stOos)
    (scrub : c = 3 → d.scrubbed (ch / 12) = some ch) : d.datapathDump ch (some c) = d.faultWaits ch c := by
  have hpass : ¬ (d.get R.TRK_CH_STAT_STATE ch == stOos || (decide (c = 3) && d.scrubbed (ch / 12) != some ch)) = true := by
    simpa [hst] using scrub
  unfold Dev.datapathDump
  dsimp only
  rw [if_neg (by omega), if_neg (by omega), if_neg hpass]
  rfl

theorem Dev.datapathDump_spare {d : Dev} {ch c : Nat} (low : 192 ≤ ch) (high : ch < 208) : d.datapathDump ch (some c) = d.spareFails (ch - 192) c := by
  unfold Dev.datapathDump
  dsimp only
  rw [if_neg (by omega), if_pos low]

theorem exec_datapathDump {s : State} (run : s.dev.runs .corr = true) (ch : Nat) (fault : Option Nat) :
    exec (.datapathDump ch fault) s = .next { s with dev := s.dev.datapathDump ch fault } := onRun_next (f := fun d => d.datapathDump ch fault) run

/-! ### A spare that fails (R146, R147) -/

/-- The cluster's spare counts as failed. -/
def Dev.spareBad (d : Dev) (cl : Nat) : Dev :=
  { d with trk := { d.trk with badSpare := if d.trk.badSpare.contains cl then d.trk.badSpare else d.trk.badSpare ++ [cl] } }

/-- Its rotation check ends, and the fault is counted and recorded. -/
def Dev.spareTold (d : Dev) (cl cause : Nat) : Dev :=
  ((d.set R.TRK_SPARE_SCRUB 0 cl).inc R.TRK_SPARE_FAULTS cl).record 0x0401 (u8 cl ++ u8 12 ++ u8 (Config.argCode 0x0401 cause) ++ u8 0)

theorem Dev.spareFails_eq (d : Dev) (cl cause : Nat) : d.spareFails cl cause =
    if ((d.spareBad cl).spareTold cl cause).on R.TRK_SPARE_IN_USE cl then
      ((d.spareBad cl).spareTold cl cause).faultWaits (12 * cl + ((d.spareBad cl).spareTold cl cause).get R.TRK_SPARE_REPL cl) cause
    else (d.spareBad cl).spareTold cl cause := rfl

theorem Dev.mem_badSpare (d : Dev) (cl : Nat) : cl ∈ (d.spareBad cl).trk.badSpare := by
  unfold Dev.spareBad
  dsimp only
  split
  · next h => simpa using h
  · simp

theorem DevFrame.incTrk (d : Dev) {g : Fld} (hg : g ∈ trkFlds) (i j : Nat) : DevFrame [] [] [g] d (d.inc g i j) := .setTrk d hg _ i j

theorem DevFrame.spareTold (d : Dev) (cl cause : Nat) : DevFrame reports reportWs [R.TRK_SPARE_SCRUB, R.TRK_SPARE_FAULTS] d (d.spareTold cl cause) :=
  (((DevFrame.setTrk d (g := R.TRK_SPARE_SCRUB) (by decide) 0 cl 0).mono (by decide)).next
    (.incTrk _ (g := R.TRK_SPARE_FAULTS) (by decide) cl 0) (by decide)).next (.record _ _ _) (by decide)

theorem Dev.scrub_spareTold (d : Dev) {cl : Nat} (h : cl < 16) (cause : Nat) : (d.spareTold cl cause).get R.TRK_SPARE_SCRUB cl = 0 := by
  have hhas : R.TRK_SPARE_SCRUB.has cl 0 = true := Fld.has_row h Nat.one_pos
  unfold Dev.spareTold
  rw [(DevFrame.record _ _ _).readTrk (by decide), (DevFrame.incTrk _ (by decide) cl 0).readTrk (by decide)]
  exact Dev.get_set_self d _ 0 cl 0 hhas

/-- A spare that fails is listed, checks no more, and beside reports only TRK changes. -/
theorem Dev.spareFails_shows (d : Dev) {cl : Nat} (h : cl < 16) (cause : Nat) : cl ∈ (d.spareFails cl cause).trk.badSpare ∧
    (d.spareFails cl cause).get R.TRK_SPARE_SCRUB cl = 0 ∧
    DevFrame ([.trk] ++ reports) reportWs [R.TRK_SPARE_SCRUB, R.TRK_SPARE_FAULTS] d (d.spareFails cl cause) := by
  have hbad : cl ∈ ((d.spareBad cl).spareTold cl cause).trk.badSpare := by
    have htrk : ((d.spareBad cl).spareTold cl cause).trk = (d.spareBad cl).trk := Dev.record_trk _ _ _
    rw [htrk]
    exact d.mem_badSpare cl
  have hscrub := (d.spareBad cl).scrub_spareTold h cause
  have hframe : DevFrame ([.trk] ++ reports) reportWs [R.TRK_SPARE_SCRUB, R.TRK_SPARE_FAULTS] d ((d.spareBad cl).spareTold cl cause) :=
    ((DevFrame.trk d _).mono (by decide)).next (.spareTold (d.spareBad cl) cl cause) (by decide)
  rw [Dev.spareFails_eq]
  split
  · exact ⟨hbad, hscrub, hframe.next (.trk _ _) (by decide)⟩
  · exact ⟨hbad, hscrub, hframe⟩

/-! ### The spare takes over (R144) -/

/-- The fault that waited is taken up and counted. -/
def Dev.faultTaken (d : Dev) (ch : Nat) : Dev :=
  ({ d with trk := { d.trk with faults := tabDel d.trk.faults ch } } : Dev).inc R.TRK_SPARE_FAULTS (ch / 12)

/-- Registers once the spare of a channel's cluster stands in for it. -/
def Dev.swapShown (d : Dev) (ch : Nat) : Dev :=
  ((((d.set R.TRK_SPARE_IN_USE 1 (ch / 12)).set R.TRK_SPARE_REPL (ch % 12) (ch / 12)).set R.TRK_SPARE_SCRUB 0 (ch / 12)).set
    R.TRK_CH_STAT_ON_SPARE 1 ch).inc R.TRK_STATUS_SPARES_USED

/-- The spare takes the channel over: its next record is flagged, and the fault recorded. -/
def Dev.swapped (d : Dev) (ch cause : Nat) : Dev :=
  ((d.swapShown ch).modChan ch fun c => { c with discont := true }).record 0x0401
    (u8 (ch / 12) ++ u8 (ch % 12) ++ u8 (Config.argCode 0x0401 cause) ++ u8 1)

theorem DevFrame.faultTaken (d : Dev) (ch : Nat) : DevFrame [.trk] [] [R.TRK_SPARE_FAULTS] d (d.faultTaken ch) :=
  ((DevFrame.trk d _).mono (by decide)).next (.incTrk _ (g := R.TRK_SPARE_FAULTS) (by decide) _ 0) (by decide)

/-- The fields that a takeover writes. -/
def swapFlds : List Fld := [R.TRK_SPARE_IN_USE, R.TRK_SPARE_REPL, R.TRK_SPARE_SCRUB, R.TRK_CH_STAT_ON_SPARE, R.TRK_STATUS_SPARES_USED]

theorem DevFrame.swapShown (d : Dev) (ch : Nat) : DevFrame [] [] swapFlds d (d.swapShown ch) :=
  (((((DevFrame.setTrk d (g := R.TRK_SPARE_IN_USE) (by decide) 1 _ 0).mono (by decide)).next
    (.setTrk _ (g := R.TRK_SPARE_REPL) (by decide) _ _ 0) (by decide)).next (.setTrk _ (g := R.TRK_SPARE_SCRUB) (by decide) 0 _ 0) (by decide)).next
    (.setTrk _ (g := R.TRK_CH_STAT_ON_SPARE) (by decide) 1 ch 0) (by decide)).next (.incTrk _ (g := R.TRK_STATUS_SPARES_USED) (by decide) 0 0) (by decide)

theorem Dev.get_set_trk (d : Dev) {f g : Fld} (hf : f ∈ trkFlds) (hg : g ∈ trkFlds) (n : f ≠ g) (v i j i' j' : Nat) :
    (d.set g v i' j').get f i j = d.get f i j := d.get_set_fld (mem_of_trkFlds hf) (mem_of_trkFlds hg) n v i j i' j'

theorem Dev.swapShown_shows (d : Dev) {ch : Nat} (h : ch < 192) : (d.swapShown ch).get R.TRK_SPARE_IN_USE (ch / 12) = 1 ∧
    (d.swapShown ch).get R.TRK_SPARE_REPL (ch / 12) = ch % 12 ∧ (d.swapShown ch).get R.TRK_CH_STAT_ON_SPARE ch = 1 := by
  have hcl : ch / 12 < 16 := by omega
  have hplace : ch % 12 < 2 ^ 4 := by omega
  have hhas : R.TRK_SPARE_IN_USE.has (ch / 12) 0 = true := Fld.has_row hcl Nat.one_pos
  have hspare : R.TRK_CH_STAT_ON_SPARE.has ch 0 = true := Fld.has_row h Nat.one_pos
  unfold Dev.swapShown Dev.inc Dev.sat
  refine ⟨?_, ?_, ?_⟩ <;> simp (disch := decide) only [Dev.get_set_trk]
  · exact Dev.get_set_self d _ 1 _ 0 hhas
  · exact (Dev.get_set_self _ R.TRK_SPARE_REPL _ _ 0 hhas).trans (Nat.mod_eq_of_lt hplace)
  · exact Dev.get_set_self _ R.TRK_CH_STAT_ON_SPARE 1 ch 0 hspare

theorem DevFrame.swapped (d : Dev) (ch cause : Nat) : DevFrame ([.trk] ++ reports) reportWs swapFlds d (d.swapped ch cause) :=
  (((DevFrame.swapShown d ch).mono (by decide)).next (.modChan _ ch _) (by decide)).next (.record _ _ _) (by decide)

theorem Dev.read_swapped (d : Dev) (ch cause : Nat) {f : Fld} (o : OutsideTrk reportWs [] f) (i : Nat) :
    (d.swapped ch cause).get f i = (d.swapShown ch).get f i := (DevFrame.record _ _ _).readTrk o i 0

theorem Dev.trk_swapped (d : Dev) (ch cause : Nat) : (d.swapped ch cause).trk = (d.modChan ch fun c => { c with discont := true }).trk :=
  Dev.record_trk _ _ _

/-! ### No spare takes over (R145) -/

/-- The channel is out of service, and its fault recorded. -/
def Dev.wentOos (d : Dev) (ch cause : Nat) : Dev :=
  ((d.chState ch stOos).record 0x0401 (u8 (ch / 12) ++ u8 (ch % 12) ++ u8 (Config.argCode 0x0401 cause) ++ u8 0)).record 0x0402 (u8 ch)

/-- The signal of a channel that goes out of service, as a candidate at time `t`. -/
def Dev.movedCand (d : Dev) (ch t : Nat) : Cand :=
  { sat := d.get R.TRK_CH_SEL_SAT ch, sig := d.get R.TRK_CH_SEL_SIG ch, t := t, handover := (d.chan ch).handover, elev := (d.chan ch).elev,
    codePh := (d.txCode ch).toNat, dopp := (d.chan ch).doppler / 16 }

/-- A candidate moves to another channel, or waits for one. -/
def Dev.moveCand (d : Dev) (x : Cand) : Dev :=
  match d.allotFor x with
  | some k => d.startOn k x
  | none => if d.mayAllot x.elev then d.waitChan x else d

/-- What becomes of a channel that no spare takes over. -/
def Dev.outOfService (d : Dev) (ch cause : Nat) : Dev :=
  if ch < 180 && !(d.wentOos ch cause).on R.TRK_CH_CFG_OWNER ch && 1 ≤ d.get R.TRK_CH_STAT_STATE ch && d.get R.TRK_CH_STAT_STATE ch ≤ 4 then
    (d.wentOos ch cause).moveCand (d.movedCand ch (d.wentOos ch cause).clk.mono)
  else d.wentOos ch cause

theorem DevFrame.wentOos (d : Dev) (ch cause : Nat) : DevFrame ([.trk] ++ reports) reportWs stateFlds d (d.wentOos ch cause) :=
  (((DevFrame.chState d ch stOos).mono (by decide)).next (.record _ _ _) (by decide)).next (.record _ _ _) (by decide)

theorem Dev.state_wentOos (d : Dev) {ch : Nat} (h : ch < 192) (cause : Nat) : (d.wentOos ch cause).get R.TRK_CH_STAT_STATE ch = stOos := by
  unfold Dev.wentOos
  rw [(DevFrame.record _ _ _).readTrk (by decide), (DevFrame.record _ _ _).readTrk (by decide)]
  exact d.state_chState_self h (by decide)

theorem DevFrame.moveCand (d : Dev) (x : Cand) : DevFrame [.trk, .sky] [] pullinFlds d (d.moveCand x) := by
  unfold Dev.moveCand
  split
  · exact .startOn d _ x
  · exact .ite ((DevFrame.waitChan d x).mono (by decide)) (.refl _ _ _ d)

/-- No signal moves to a channel that is out of service. -/
theorem Dev.state_moveCand {d : Dev} {ch : Nat} (h : d.get R.TRK_CH_STAT_STATE ch = stOos) (x : Cand) :
    (d.moveCand x).get R.TRK_CH_STAT_STATE ch = stOos := by
  unfold Dev.moveCand
  split
  · next k hk =>
    have hne : ch ≠ k := by
      rintro rfl
      obtain ⟨-, hst⟩ | ⟨-, hst⟩ := Dev.allotFor_cases hk <;> exact absurd (h.symm.trans hst) (by decide)
    exact (d.state_startOn_other hne x).trans h
  · split <;> exact h

theorem Dev.state_outOfService (d : Dev) {ch : Nat} (h : ch < 192) (cause : Nat) : (d.outOfService ch cause).get R.TRK_CH_STAT_STATE ch = stOos := by
  unfold Dev.outOfService
  split
  · exact Dev.state_moveCand (d.state_wentOos h cause) _
  · exact d.state_wentOos h cause

theorem DevFrame.outOfService (d : Dev) (ch cause : Nat) : DevFrame ([.trk, .sky] ++ reports) reportWs pullinFlds d (d.outOfService ch cause) := by
  have hout : DevFrame ([.trk, .sky] ++ reports) reportWs pullinFlds d (d.wentOos ch cause) := (DevFrame.wentOos d ch cause).mono (by decide)
  exact .ite (hout.next (.moveCand _ _) (by decide)) hout

/-! ### Which of the two (R144, R145) -/

/-- The cluster's spare is free and good. -/
abbrev Dev.spareFree (d : Dev) (cl : Nat) : Prop := d.on R.TRK_SPARE_IN_USE cl = false ∧ cl ∉ d.trk.badSpare

theorem Dev.spareTakeover_eq {d : Dev} {ch c : Nat} (hf : tabFind d.trk.faults ch = some c) : d.spareTakeover ch =
    if !(d.faultTaken ch).on R.TRK_SPARE_IN_USE (ch / 12) && !(d.faultTaken ch).trk.badSpare.contains (ch / 12) then (d.faultTaken ch).swapped ch c
    else (d.faultTaken ch).outOfService ch c := by
  unfold Dev.spareTakeover
  rw [hf]
  rfl

theorem Dev.spareFree_iff (d : Dev) (ch : Nat) : d.spareFree (ch / 12) ↔
    (!(d.faultTaken ch).on R.TRK_SPARE_IN_USE (ch / 12) && !(d.faultTaken ch).trk.badSpare.contains (ch / 12)) = true := by
  have huse : (d.faultTaken ch).on R.TRK_SPARE_IN_USE (ch / 12) = d.on R.TRK_SPARE_IN_USE (ch / 12) := by
    rw [Dev.on, (DevFrame.faultTaken d ch).readTrk (by decide), Dev.on]
  have hbad : (d.faultTaken ch).trk.badSpare = d.trk.badSpare := rfl
  rw [huse, hbad]
  simp [Dev.spareFree]

theorem Dev.spareTakeover_swap {d : Dev} {ch c : Nat} (hf : tabFind d.trk.faults ch = some c) (free : d.spareFree (ch / 12)) :
    d.spareTakeover ch = (d.faultTaken ch).swapped ch c := by rw [Dev.spareTakeover_eq hf, if_pos ((d.spareFree_iff ch).1 free)]

theorem Dev.spareTakeover_out {d : Dev} {ch c : Nat} (hf : tabFind d.trk.faults ch = some c) (none : ¬ d.spareFree (ch / 12)) :
    d.spareTakeover ch = (d.faultTaken ch).outOfService ch c := by rw [Dev.spareTakeover_eq hf, if_neg (mt (d.spareFree_iff ch).2 none)]

/-- Where the spare is free and good it stands in for the channel, whose state stays and whose next record is flagged. -/
theorem Dev.spareTakeover_swap_shows {d : Dev} {ch c : Nat} (h : ch < 192) (hf : tabFind d.trk.faults ch = some c) (free : d.spareFree (ch / 12)) :
    ((d.spareTakeover ch).get R.TRK_SPARE_IN_USE (ch / 12) = 1 ∧ (d.spareTakeover ch).get R.TRK_SPARE_REPL (ch / 12) = ch % 12 ∧
      (d.spareTakeover ch).get R.TRK_CH_STAT_ON_SPARE ch = 1) ∧
    ((d.spareTakeover ch).chan ch).discont = true ∧ tabFind (d.spareTakeover ch).trk.faults ch = none ∧
    (d.spareTakeover ch).get R.TRK_CH_STAT_STATE ch = d.get R.TRK_CH_STAT_STATE ch ∧
    DevFrame ([.trk] ++ reports) reportWs (R.TRK_SPARE_FAULTS :: swapFlds) d (d.spareTakeover ch) := by
  obtain ⟨huse, hrepl, hspare⟩ := (d.faultTaken ch).swapShown_shows h
  have htrk := (d.faultTaken ch).trk_swapped ch c
  have hframe : DevFrame ([.trk] ++ reports) reportWs (R.TRK_SPARE_FAULTS :: swapFlds) d ((d.faultTaken ch).swapped ch c) :=
    ((DevFrame.faultTaken d ch).mono (by decide)).next (.swapped _ ch c) (by decide)
  rw [Dev.spareTakeover_swap hf free]
  refine ⟨⟨(Dev.read_swapped _ ch c (by decide) _).trans huse, (Dev.read_swapped _ ch c (by decide) _).trans hrepl,
    (Dev.read_swapped _ ch c (by decide) _).trans hspare⟩, ?_, ?_, hframe.readTrk (by decide) ch 0, hframe⟩
  · rw [Dev.chan, htrk]
    exact congrArg Chan.discont (Dev.chan_modChan_self _ ch _)
  · rw [htrk]
    exact tabFind_del_self _ _

/-- Where no spare takes over, the channel ends out of service, and beside reports only tracking and the waiting signals change. -/
theorem Dev.spareTakeover_out_shows {d : Dev} {ch c : Nat} (h : ch < 192) (hf : tabFind d.trk.faults ch = some c) (none : ¬ d.spareFree (ch / 12)) :
    (d.spareTakeover ch).get R.TRK_CH_STAT_STATE ch = stOos ∧
      DevFrame ([.trk, .sky] ++ reports) reportWs (R.TRK_SPARE_FAULTS :: pullinFlds) d (d.spareTakeover ch) := by
  rw [Dev.spareTakeover_out hf none]
  exact ⟨Dev.state_outOfService _ h c, ((DevFrame.faultTaken d ch).mono (by decide)).next (.outOfService _ ch c) (by decide)⟩

/-! ### What yard ranging shows after it (R207, R224) -/

/-- The fields by which calibration is shown. -/
def calFlds : List Fld := [R.YRD_ANCH_CAL_CAL, R.YRD_ANCH_CAL_AGE, R.YRD_ANCH_CAL_RES, R.YRD_STATUS_N_CAL, R.YRD_STATUS_CALIBRATED]

theorem calFlds_elem : calFlds.all (fun g => regMap.elem g && g.block == 0x06) = true := by decide +kernel

theorem DevFrame.setCal (d : Dev) {g : Fld} (hg : g ∈ calFlds) (v i j : Nat) : DevFrame reports ([0x06] ++ reportWs) [] d (d.set g v i j) := by
  have h := List.all_eq_true.1 calFlds_elem g hg
  rw [Bool.and_eq_true, beq_iff_eq] at h
  exact ⟨rfl, .set d v i j (mem_regMap h.1) (.inr (List.mem_cons.2 (.inl h.2)))⟩

theorem DevFrame.calView (d : Dev) (a : Nat) : DevFrame reports ([0x06] ++ reportWs) [] d (d.calView a) := by
  unfold Dev.calView
  extract_lets was ok self at0 age res x cause
  have hx : DevFrame reports ([0x06] ++ reportWs) [] d x := ((DevFrame.setCal d (by decide) _ a 0).trans (.setCal _ (by decide) _ a 0)).trans (.setCal _ (by decide) _ a 0)
  exact .ite (hx.next (.record _ _ _) (by decide)) hx

theorem DevFrame.yrdView (d : Dev) : DevFrame reports ([0x06] ++ reportWs) [] d d.yrdView := by
  unfold Dev.yrdView
  extract_lets was x cal self ok y
  have hx : DevFrame reports ([0x06] ++ reportWs) [] d x := .foldl .calView _ d
  have hy : DevFrame reports ([0x06] ++ reportWs) [] d y := (hx.trans (.setCal x (by decide) _ 0 0)).trans (.setCal _ (by decide) _ 0 0)
  exact .ite (hy.next (.record _ _ _) (by decide)) hy

theorem exec_spareTakeover {s : State} {ch : Nat} (run : s.dev.runs .corr = true) (h : ch < 192) :
    exec (.spareTakeover ch) s = .next { s with dev := (s.dev.spareTakeover ch).yrdView } := by
  simp only [exec, execSpareTakeover, onRun, onDev, run, h, if_true]

/-! ### EN cleared (R150) -/

/-- A channel's own state is cleared, and it goes to IDLE unless it is out of service. -/
def Dev.chanStopped (d : Dev) (ch : Nat) : Dev :=
  let x := d.modChan ch fun _ => {}
  if x.get R.TRK_CH_STAT_STATE ch != stIdle && x.get R.TRK_CH_STAT_STATE ch != stOos then x.chState ch stIdle else x

/-- What waited for a channel is dropped, and the epoch's block with it. -/
def Dev.waitersDropped (d : Dev) : Dev :=
  ({ d with
    sky := { d.sky with cands := [], queue := d.sky.queue.filter fun x => x.chan.isNone }
    trk := { d.trk with retry := [], noBlock := true } } : Dev).acqCount

/-- The rotation checks end. -/
def Dev.scrubsEnded (d : Dev) : Dev := (List.range 15).foldl (fun d c => d.set R.TRK_SPARE_SCRUB 0 c) d

theorem Dev.trkDisable_eq (d : Dev) : d.trkDisable = (skyChans.foldl Dev.chanStopped d.waitersDropped).scrubsEnded := rfl

theorem DevFrame.chanStopped (d : Dev) (ch : Nat) : DevFrame [.trk] [] stateFlds d (d.chanStopped ch) := by
  have hmod : DevFrame [.trk] [] stateFlds d (d.modChan ch fun _ => {}) := (DevFrame.modChan d ch _).mono (by decide)
  exact .ite (hmod.trans (.chState _ ch stIdle)) hmod

theorem Dev.retry_chanStopped (d : Dev) (ch : Nat) : (d.chanStopped ch).trk.retry = d.trk.retry := by
  unfold Dev.chanStopped
  extract_lets x
  split
  · rw [Dev.trk_chState]
    rfl
  · rfl

theorem Dev.state_chanStopped_self {d : Dev} {ch : Nat} (h : ch < 180) (hst : d.get R.TRK_CH_STAT_STATE ch ≠ stOos) :
    (d.chanStopped ch).get R.TRK_CH_STAT_STATE ch = stIdle := by
  have hmod : (d.modChan ch fun _ => {}).get R.TRK_CH_STAT_STATE ch = d.get R.TRK_CH_STAT_STATE ch := rfl
  unfold Dev.chanStopped
  extract_lets x
  split
  · exact Dev.state_chState_self x (Nat.lt_trans h (by decide)) (by decide)
  · next hno =>
    rw [hmod, Bool.and_eq_true, bne_iff_ne, bne_iff_ne] at hno
    rw [hmod]
    exact Decidable.not_not.1 fun e => hno ⟨e, hst⟩

theorem Dev.state_chanStopped_other (d : Dev) {ch k : Nat} (n : k ≠ ch) :
    (d.chanStopped ch).get R.TRK_CH_STAT_STATE k = d.get R.TRK_CH_STAT_STATE k := by
  unfold Dev.chanStopped
  extract_lets x
  split
  · exact x.state_chState_other n stIdle
  · rfl

/-- Once all sky channels are stopped, each one that is not out of service is IDLE. -/
theorem Dev.state_chansStopped {d : Dev} {ch : Nat} (h : ch < 180) (hst : d.get R.TRK_CH_STAT_STATE ch ≠ stOos) :
    (skyChans.foldl Dev.chanStopped d).get R.TRK_CH_STAT_STATE ch = stIdle := by
  obtain ⟨l, r, hl⟩ := List.append_of_mem (mem_skyChans.2 h)
  have hbefore : (l.foldl Dev.chanStopped d).get R.TRK_CH_STAT_STATE ch ≠ stOos := by
    refine List.foldlRecOn (motive := fun x : Dev => x.get R.TRK_CH_STAT_STATE ch ≠ stOos) l _ hst fun x hx k _ => ?_
    by_cases e : ch = k
    · subst e
      rw [Dev.state_chanStopped_self h hx]
      decide
    · rwa [x.state_chanStopped_other e]
  rw [hl, List.foldl_append, List.foldl_cons]
  refine List.foldlRecOn (motive := fun x : Dev => x.get R.TRK_CH_STAT_STATE ch = stIdle) r _ (Dev.state_chanStopped_self h hbefore) fun x hx k _ => ?_
  by_cases e : ch = k
  · subst e
    exact Dev.state_chanStopped_self h (by rw [hx]; decide)
  · rwa [x.state_chanStopped_other e]

theorem DevFrame.waitersDropped (d : Dev) : DevFrame [.sky, .trk] [] [R.ACQ_STATUS_QUEUE] d d.waitersDropped :=
  ⟨rfl, .set _ _ 0 0 (mem_of_trkFlds (by decide)) (.inl (List.mem_singleton.2 rfl))⟩

theorem DevFrame.scrubsEnded (d : Dev) : DevFrame [] [] [R.TRK_SPARE_SCRUB] d d.scrubsEnded := .foldl (fun d c => .setTrk d (by decide) 0 c 0) _ d

/-- What stopping the sky channels leaves: no candidate, no retry, every channel in service IDLE, and the rest. -/
theorem Dev.trkDisable_shows (d : Dev) : d.trkDisable.sky.cands = [] ∧ d.trkDisable.trk.retry = [] ∧
    (∀ ch < 180, d.get R.TRK_CH_STAT_STATE ch ≠ stOos → d.trkDisable.get R.TRK_CH_STAT_STATE ch = stIdle) ∧
    DevFrame [.sky, .trk] [] ([R.ACQ_STATUS_QUEUE, R.TRK_SPARE_SCRUB] ++ stateFlds) d d.trkDisable := by
  have hdrop := DevFrame.waitersDropped d
  have hstop : DevFrame [.trk] [] stateFlds d.waitersDropped (skyChans.foldl Dev.chanStopped d.waitersDropped) := .foldl .chanStopped _ _
  have hend := DevFrame.scrubsEnded (skyChans.foldl Dev.chanStopped d.waitersDropped)
  have hretry : (skyChans.foldl Dev.chanStopped d.waitersDropped).trk.retry = [] :=
    List.foldlRecOn (motive := fun x : Dev => x.trk.retry = []) skyChans _ rfl fun x hx k _ => (x.retry_chanStopped k).trans hx
  rw [Dev.trkDisable_eq]
  refine ⟨?_, ?_, fun ch h hst => ?_, ((hdrop.mono (by decide)).next hstop (by decide)).next hend (by decide)⟩
  · rw [hend.sky_of_regs, hstop.sky_of_trk]
    rfl
  · rw [hend.trk_of_regs, hretry]
  · rw [hend.readTrk (by decide)]
    exact Dev.state_chansStopped h (by rwa [hdrop.readTrk (by decide)])

theorem fieldsAt_TRK_CTRL : (fieldsAt R.TRK_CTRL_EN.addr).all (fun x => decide (x.1.acc = .rw) && decide (x.1.block = 0x04)) = true := by decide +kernel

/-- A write of TRK_CTRL stays within TRK: none of its fields is an interrupt cause. -/
theorem DevFrame.writeTrkCtrl (d : Dev) (v : Nat) : DevFrame [] [0x04] [] d (d.writeAddr R.TRK_CTRL_EN.addr v) := by
  refine .of_regs (writeAddr_eq_regs d _ v) ?_
  refine List.foldlRecOn (motive := KeepRegs [0x04] [] d) _ _ (.refl _ _ _) fun x hx g hg => ?_
  obtain ⟨hf, -, -⟩ := mem_fieldsAt.1 hg
  have hall := List.all_eq_true.1 fieldsAt_TRK_CTRL g hg
  rw [Bool.and_eq_true, decide_eq_true_eq, decide_eq_true_eq] at hall
  obtain ⟨hacc, hblock⟩ := hall
  by_cases hl : g.1.lists g.2.1 (bits v g.1.lsb g.1.width) = true
  · rw [writeField_rw_listed x hacc hl]
    exact hx.trans (.set x _ _ _ hf (.inr (List.mem_singleton.2 hblock)))
  · rw [writeField_rw_unlisted x hacc (Bool.not_eq_true _ ▸ hl)]
    exact hx

theorem Dev.get_writeTrkCtrl_en (d : Dev) {v : Nat} (h : bitOf v 0 = false) : (d.writeAddr R.TRK_CTRL_EN.addr v).get R.TRK_CTRL_EN = 0 := by
  have hread : (d.writeAddr R.TRK_CTRL_EN.addr v).get R.TRK_CTRL_EN = Nat.land (v / 2 ^ 0 % 2 ^ 1) 1 :=
    get_writeAddr_listed d (i := 0) (j := 0) (mem_of_trkFlds (by decide)) (by decide) (by decide) rfl
  have hbit : v / 2 ^ 0 % 2 ^ 1 = 0 := by
    have hne : v / 2 ^ 0 % 2 ≠ 1 := by simpa [bitOf] using h
    omega
  rw [hread, hbit]
  rfl

/-- A write that clears EN stops the sky channels. -/
theorem Dev.trkCtrlWrite_off {d : Dev} {v : Nat} (h : bitOf v 0 = false) (was : d.on R.TRK_CTRL_EN = true) :
    d.trkCtrlWrite v = (d.writeAddr R.TRK_CTRL_EN.addr v).trkDisable := by
  have hoff : (d.writeAddr R.TRK_CTRL_EN.addr v).on R.TRK_CTRL_EN = false := by
    rw [Dev.on, d.get_writeTrkCtrl_en h]
    rfl
  unfold Dev.trkCtrlWrite
  dsimp only
  rw [if_pos (by rw [was, hoff]; rfl)]

theorem exec_trkDisable {s : State} {v : Word32} (w : s.dev.writable R.TRK_CTRL_EN = true) (h : bitOf v.toNat 0 = false) :
    exec (.trkDisable v) s = .next { s with dev := s.dev.trkCtrlWrite v.toNat } := by
  simp only [exec, execTrkDisable, onReg, onDev, w, h, if_true, Bool.false_eq_true, if_false]

/-- Settles O24: a failed dump of a channel, of a spare, and none; the spare takes over, or cannot; EN cleared. -/
theorem datapathFaults : Obligations.DatapathFaults := by
  unfold Obligations.DatapathFaults
  refine ⟨fun ch c s run h hst scrub => ?_, fun ch c s run low high => ?_, fun ch s => ?_, fun ch c s run h hf idle good => ?_,
    fun ch c s run h hf none => ?_, fun v s w off was => ?_⟩
  · refine ⟨_, exec_datapathDump run ch (some c), ?_⟩
    rw [Dev.datapathDump_channel h hst scrub]
    exact ⟨tabFind_put_self _ _ _, (DevFrame.trk s.dev _).frame⟩
  · obtain ⟨hbad, hscrub, hframe⟩ := s.dev.spareFails_shows (cl := ch - 192) (by omega) c
    refine ⟨_, exec_datapathDump run ch (some c), ?_⟩
    rw [Dev.datapathDump_spare low high]
    generalize s.dev.spareFails (ch - 192) c = x at hbad hscrub hframe
    exact ⟨hbad, hscrub, (hframe.mono (by decide)).frame⟩
  · exact .of_onRun_same (f := fun d => d.datapathDump ch none) rfl rfl rfl
  · obtain ⟨⟨huse, hrepl, hspare⟩, hdiscont, hfault, hstate, hframe⟩ := Dev.spareTakeover_swap_shows h hf ⟨idle, good⟩
    have hview := DevFrame.yrdView (s.dev.spareTakeover ch)
    have htrk := hview.trk_of_reports
    refine ⟨_, exec_spareTakeover run h, ?_⟩
    generalize (s.dev.spareTakeover ch).yrdView = x at hview htrk
    refine ⟨(hview.readTrk (by decide) _ 0).trans huse, (hview.readTrk (by decide) _ 0).trans hrepl, (hview.readTrk (by decide) ch 0).trans hspare, ?_, ?_,
      (hview.readTrk (by decide) ch 0).trans hstate, ((hframe.mono (by decide)).next hview (by decide)).frame⟩
    · dsimp only
      rwa [Dev.chan, htrk]
    · dsimp only
      rwa [htrk]
  · have hno : ¬ s.dev.spareFree (ch / 12) := fun ⟨hidle, hgood⟩ => none.elim (fun e => Bool.noConfusion (hidle.symm.trans e)) fun e => hgood e
    obtain ⟨hst, hframe⟩ := Dev.spareTakeover_out_shows h hf hno
    have hview := DevFrame.yrdView (s.dev.spareTakeover ch)
    refine ⟨_, exec_spareTakeover run h, ?_⟩
    generalize (s.dev.spareTakeover ch).yrdView = x at hview
    exact ⟨(hview.readTrk (by decide) ch 0).trans hst, ((hframe.mono (by decide)).next hview (by decide)).frame⟩
  · obtain ⟨hcands, hretry, hidle, hframe⟩ := (s.dev.writeAddr R.TRK_CTRL_EN.addr v.toNat).trkDisable_shows
    have hwrite := DevFrame.writeTrkCtrl s.dev v.toNat
    refine ⟨_, exec_trkDisable w off, ?_⟩
    rw [Dev.trkCtrlWrite_off off was]
    refine ⟨(hframe.readTrk (by decide) 0 0).trans (s.dev.get_writeTrkCtrl_en off), hcands, hretry, fun ch h hst => hidle ch h ?_,
      ((hwrite.mono (by decide)).next hframe (by decide)).frame⟩
    have haddr : R.TRK_CH_STAT_STATE.addr ch ≠ R.TRK_CTRL_EN.addr := by
      have hbase : R.TRK_CTRL_EN.addr < R.TRK_CH_STAT_STATE.base := by decide
      unfold Fld.addr at hbase ⊢
      omega
    rwa [get_writeAddr_of_addr_ne s.dev (mem_of_trkFlds (by decide)) (by decide) haddr]

end Sys2Proof.Machine
end

section
/-!
PROOFS. The step: the command at the front of the queue, or a nanosecond that passes (R187).
-/

namespace Sys2Proof.Machine

theorem Clk.slewIn_of_no_slew {c : Clk} (h : c.slew = 0) (n : Nat) : c.slewIn n = 0 := by
  have hk : (0 : Int) ≤ (c.slewAcc + n) / 5000000 := by omega
  simp only [Clk.slewIn, h, le_refl, if_true, min_eq_right hk]

theorem Clk.slewed_of_no_slew {c : Clk} (h : c.slew = 0) (n : Nat) : c.slewed n = { c with slewAcc := 0 } := by
  simp only [Clk.slewed, Clk.slewIn_of_no_slew h, h, sub_zero, if_true]

/-- Without a slew, time that runs passes alike on both clocks. -/
theorem Dev.pass_of_no_slew {d : Dev} (goes : d.timeGoes = true) (h : d.clk.slew = 0) (n : Nat) :
    d.pass n = { d with clk := { d.clk with yard := d.clk.yard + n, mono := d.clk.mono + n, slewAcc := 0 } } := by
  rw [Dev.pass, if_pos goes, Clk.slewed_of_no_slew h, Clk.slewIn_of_no_slew h, add_zero, Int.toNat_natCast]

/-- Where yard time does not run, only the time since reset passes. -/
theorem Dev.pass_of_stopped {d : Dev} (h : d.timeGoes = false) (n : Nat) :
    d.pass n = { d with clk := { d.clk with mono := d.clk.mono + n } } := by
  rw [Dev.pass, if_neg (by rw [h]; decide)]

theorem step_of_empty {s : State} (h : s.pending = []) : step s = .next s.idle := by
  rw [step, h]

/-- Settles O1, by the queue's two shapes and the clock's two cases. -/
theorem stepRunsTheFrontCommand : Obligations.StepRunsTheFrontCommand := by
  unfold Obligations.StepRunsTheFrontCommand
  refine ⟨fun c rest s h => ?_, fun s h => step_of_empty h, fun d goes h => d.pass_of_no_slew goes h 1, fun d h => d.pass_of_stopped h 1⟩
  rw [step, h]

end Sys2Proof.Machine
end

section
/-!
PROOFS. Time and corrections (R159-R192), what their proofs share: the fields they tell apart, parts outside a frame, the write of a register
that only holds its fields, messages that go out (R173).
-/

namespace Sys2Proof.Machine

/-! ### The fields that these proofs read or write -/

/-- Fields that the proofs of time, base position and corrections tell apart. -/
def timFlds : List Fld :=
  [R.TIME_STATUS_SRC, R.TIME_STATUS_SLEWING, R.TIME_STATUS_STEP_PENDING, R.TIME_UNC_UNC, R.TIME_ERR_ERR, R.TIME_NOW_LO_NS_LO, R.TIME_NOW_HI_NS_HI,
    R.TIME_PPSIN_TOD_GPS_S, R.TIME_FREQ_STEER, R.SYS_LEVEL_HOLDOVER, R.BASE_CTRL_MODE, R.BASE_STATUS_STATE, R.BASE_STATUS_WHY,
    R.BASE_STATUS_SURVEY_S, R.BASE_X_LO_POS_LO, R.BASE_X_HI_POS_HI, R.BASE_Y_LO_POS_LO, R.BASE_Y_HI_POS_HI, R.BASE_Z_LO_POS_LO, R.BASE_Z_HI_POS_HI,
    R.CORR_CFG_YC_EN, R.RTCM_CFG_RTCM_EN, R.RTCM_CFG_UART_EN, R.RTCM_CFG_RING_EN, R.CORR_STATUS_STR_TRUNC, R.CORR_STATUS_UART_DROPPED]

theorem timFlds_elem : timFlds.all (fun g => regMap.elem g) = true := by decide +kernel

theorem mem_of_timFlds {g : Fld} (h : g ∈ timFlds) : g ∈ regMap := mem_regMap (List.all_eq_true.1 timFlds_elem g h)

/-- A field of `timFlds` outside a frame. -/
abbrev OutsideTim (ws : List Nat) (fs : List Fld) (f : Fld) : Prop := f ∈ timFlds ∧ f.block ∉ ws ∧ f ∉ fs

namespace DevFrame

theorem readTim {ps : List Part} {ws : List Nat} {fs : List Fld} {a b : Dev} (h : DevFrame ps ws fs a b) {f : Fld} (o : OutsideTim ws fs f)
    (i j : Nat) : b.get f i j = a.get f i j := by
  obtain ⟨hf, hw, hn⟩ := o
  exact h.regs f (mem_of_timFlds hf) hw hn i j

theorem setTim (d : Dev) {g : Fld} (hg : g ∈ timFlds) (v i j : Nat) : DevFrame [] [] [g] d (d.set g v i j) :=
  ⟨rfl, .set d v i j (mem_of_timFlds hg) (.inl (List.mem_singleton.2 rfl))⟩

/-- An update of the state of time and corrections. -/
theorem tim (d : Dev) (x : Tim) : DevFrame [.tim] [] [] d { d with tim := x } := ⟨rfl, .of_regs rfl⟩

theorem item (d : Dev) (r src t : Nat) (b : List Byte) : DevFrame reports [0x0B] [] d (d.item r src t b) :=
  ⟨(RingStep.item d r src t b).without_reports, .item (by decide) d r src t b⟩

theorem clk_of_tim {ws : List Nat} {fs : List Fld} {a b : Dev} (h : DevFrame ([.tim] ++ reports) ws fs a b) : b.clk = a.clk :=
  (congrArg Dev.clk h.parts :)

end DevFrame

theorem Dev.timed_of_runs_time {d : Dev} (h : d.runs .time = true) : d.timed = true := ((Bool.and_eq_true _ _).mp h).2

/-! ### A register that only holds its fields -/

/-- A write of a register whose fields all stand in one window and are RW stays within that window: none of them is an interrupt cause. -/
theorem DevFrame.writeRw {w a : Nat} (h : (fieldsAt a).all (fun x => decide (x.1.acc = .rw) && decide (x.1.block = w)) = true) (d : Dev) (v : Nat) :
    DevFrame [] [w] [] d (d.writeAddr a v) := by
  refine .of_regs (writeAddr_eq_regs d a v) ?_
  refine List.foldlRecOn (motive := KeepRegs [w] [] d) _ _ (.refl _ _ _) fun x hx g hg => ?_
  obtain ⟨hf, -, -⟩ := mem_fieldsAt.1 hg
  obtain ⟨hacc, hblock⟩ := (Bool.and_eq_true _ _).mp (List.all_eq_true.1 h g hg)
  rw [decide_eq_true_eq] at hacc hblock
  cases hl : g.1.lists g.2.1 (bits v g.1.lsb g.1.width)
  · rwa [writeField_rw_unlisted x hacc hl]
  · rw [writeField_rw_listed x hacc hl]
    exact hx.trans (.set x _ _ _ hf (.inr (List.mem_singleton.2 hblock)))

/-- A one-bit RW field reads 0 after a write of its register with that bit clear. -/
theorem Dev.get_writeAddr_bit_clear (d : Dev) {f : Fld} {v : Nat} (hf : f ∈ regMap) (a : f.has 0 0 = true) (h : f.acc = .rw) (hw : f.width = 1)
    (l : f.listed = .all) (clear : bitOf v f.lsb = false) : (d.writeAddr f.addr v).get f = 0 := by
  have hbit : bits v f.lsb f.width = 0 := by
    have hne : v / 2 ^ f.lsb % 2 ≠ 1 := by simpa [bitOf] using clear
    rw [bits, hw]
    omega
  have hread : (d.writeAddr f.addr v).get f = Nat.land (bits v f.lsb f.width) (f.named 0 0) :=
    get_writeAddr_listed d hf a h (by simp [Fld.lists, l])
  rw [hread, hbit]
  exact Nat.zero_and _

/-! ### Messages go out (R173) -/

/-- The state of time and corrections but for the fill of the UART's buffer. -/
def Tim.uartless (t : Tim) : Tim := { t with uartFill := 0, uartAt := 0 }

/-- The messages given to the ring. -/
def Dev.rtcmItems (d : Dev) (msgs : List (List Byte)) : Dev :=
  if d.on R.RTCM_CFG_RING_EN then msgs.foldl (fun d m => d.item (d.get R.RTCM_CFG_RING) 0x0501 d.now m) d else d

theorem DevFrame.rtcmItems (d : Dev) (msgs : List (List Byte)) : DevFrame reports [0x0B] [] d (d.rtcmItems msgs) :=
  .ite (.foldl (fun d _ => .item d _ _ _ _) msgs d) (.refl _ _ _ d)

/-- What messages do behind the ring: the UART, enabled, drops them all or sends them all. -/
theorem Dev.rtcmOut_cases (d : Dev) (msgs : List (List Byte)) : ∃ t : Tim, t.uartless = (d.rtcmItems msgs).tim.uartless ∧
    (((d.rtcmItems msgs).on R.RTCM_CFG_UART_EN && !msgs.isEmpty) = false ∧ d.rtcmOut msgs = { d.rtcmItems msgs with tim := t } ∨
      d.rtcmOut msgs = ({ d.rtcmItems msgs with tim := t } : Dev).inc R.CORR_STATUS_UART_DROPPED ∨
      d.rtcmOut msgs = ({ d.rtcmItems msgs with tim := t } : Dev).emit (.uart msgs.flatten)) := by
  unfold Dev.rtcmOut
  extract_lets x sent fill n t
  split
  · split
    · exact ⟨{ x.tim with uartFill := fill, uartAt := x.clk.mono }, rfl, .inr (.inl rfl)⟩
    · exact ⟨{ x.tim with uartFill := fill + n, uartAt := x.clk.mono }, rfl, .inr (.inr rfl)⟩
  · next hoff => exact ⟨x.tim, rfl, .inl ⟨Bool.eq_false_iff.2 hoff, rfl⟩⟩

theorem DevFrame.rtcmOut (d : Dev) (msgs : List (List Byte)) :
    DevFrame ([.tim] ++ reports) [0x0B] [R.CORR_STATUS_UART_DROPPED] d (d.rtcmOut msgs) := by
  obtain ⟨t, -, h⟩ := d.rtcmOut_cases msgs
  have hitems : DevFrame ([.tim] ++ reports) [0x0B] [R.CORR_STATUS_UART_DROPPED] d { d.rtcmItems msgs with tim := t } :=
    ((DevFrame.rtcmItems d msgs).mono (by decide)).next (.tim _ t) (by decide)
  rcases h with ⟨-, h⟩ | h | h <;> rw [h]
  · exact hitems
  · exact hitems.next (.setTim _ (g := R.CORR_STATUS_UART_DROPPED) (by decide) _ 0 0) (by decide)
  · exact hitems.trans ⟨rfl, .of_regs rfl⟩

theorem Dev.tim_rtcmItems (d : Dev) (msgs : List (List Byte)) : (d.rtcmItems msgs).tim = d.tim :=
  (congrArg Dev.tim (DevFrame.rtcmItems d msgs).parts :)

/-- Messages that go out change nothing of time and corrections but the UART's buffer. -/
theorem Dev.uartless_rtcmOut (d : Dev) (msgs : List (List Byte)) : (d.rtcmOut msgs).tim.uartless = d.tim.uartless := by
  obtain ⟨t, ht, h⟩ := d.rtcmOut_cases msgs
  rw [d.tim_rtcmItems] at ht
  rcases h with ⟨-, h⟩ | h | h <;> rw [h] <;> exact ht

/-- Counting up, saturating. -/
theorem Dev.get_inc_self (d : Dev) {f : Fld} (a : f.has 0 0 = true) : (d.inc f).get f = min (d.get f + 1) (2 ^ f.width - 1) := by
  have hpos := Nat.two_pow_pos f.width
  rw [Dev.inc, Dev.sat, Dev.get_set_self _ _ _ _ _ a]
  exact Nat.mod_eq_of_lt (by omega)

/-- Messages for the UART alone: sent, or dropped and counted. -/
theorem Dev.rtcmOut_uart {d : Dev} {msgs : List (List Byte)} (uart : d.on R.RTCM_CFG_UART_EN = true) (ring : d.on R.RTCM_CFG_RING_EN = false)
    (any : msgs ≠ []) : (∃ b, (d.rtcmOut msgs).out = d.out ++ [.uart b]) ∨
      (d.rtcmOut msgs).get R.CORR_STATUS_UART_DROPPED = min (d.get R.CORR_STATUS_UART_DROPPED + 1) (2 ^ R.CORR_STATUS_UART_DROPPED.width - 1) := by
  have hitems : d.rtcmItems msgs = d := by rw [Dev.rtcmItems, if_neg (by simp [ring])]
  obtain ⟨t, -, h⟩ := d.rtcmOut_cases msgs
  rw [hitems] at h
  rcases h with ⟨hoff, -⟩ | h | h
  · simp [uart, any] at hoff
  · rw [h]
    exact .inr (Dev.get_inc_self _ (by decide))
  · rw [h]
    exact .inl ⟨_, rfl⟩

end Sys2Proof.Machine
end

section
/-!
PROOFS. Base position and yard time (R159, R162, R181, R190): the base's state and position, GO by MODE, and an edge of PPS_IN up to the choice of the
time source.
-/

namespace Sys2Proof.Machine

/-! ### The base's state and position (R159, R163) -/

/-- The new state, and what verification and the watch gathered cleared; a change is recorded. -/
def Dev.baseShown (d : Dev) (st why : Nat) : Dev :=
  { (d.set R.BASE_STATUS_STATE st).set R.BASE_STATUS_WHY why with tim := { d.tim with verSum := {}, verN := 0, disp := [] } }

theorem Dev.baseState_eq (d : Dev) (st why : Nat) : d.baseState st why = if d.get R.BASE_STATUS_STATE = st then d.baseShown st why else
    (d.baseShown st why).record 0x0505 (u8 (d.get R.BASE_STATUS_STATE) ++ u8 st ++ u8 why) := rfl

theorem DevFrame.baseShown (d : Dev) (st why : Nat) : DevFrame [.tim] [] [R.BASE_STATUS_STATE, R.BASE_STATUS_WHY] d (d.baseShown st why) :=
  (((DevFrame.setTim d (g := R.BASE_STATUS_STATE) (by decide) st 0 0).mono (by decide)).next
    (.setTim _ (g := R.BASE_STATUS_WHY) (by decide) why 0 0) (by decide)).next (.tim _ _) (by decide)

theorem DevFrame.baseState_after (d : Dev) (st why : Nat) : DevFrame reports reportWs [] (d.baseShown st why) (d.baseState st why) :=
  .ite (.refl _ _ _ _) (.record _ _ _)

theorem DevFrame.baseState (d : Dev) (st why : Nat) :
    DevFrame ([.tim] ++ reports) reportWs [R.BASE_STATUS_STATE, R.BASE_STATUS_WHY] d (d.baseState st why) :=
  ((DevFrame.baseShown d st why).mono (by decide)).next (.baseState_after d st why) (by decide)

theorem Dev.tim_baseState (d : Dev) (st why : Nat) : (d.baseState st why).tim = { d.tim with verSum := {}, verN := 0, disp := [] } :=
  (congrArg Dev.tim (DevFrame.baseState_after d st why).parts :)

theorem Dev.get_baseState (d : Dev) {st : Nat} (h : st < 8) (why : Nat) : (d.baseState st why).get R.BASE_STATUS_STATE = st := by
  rw [(DevFrame.baseState_after d st why).readTim (by decide)]
  refine ((DevFrame.setTim _ (g := R.BASE_STATUS_WHY) (by decide) why 0 0).readTim (f := R.BASE_STATUS_STATE) (by decide) 0 0).trans ?_
  exact (Dev.get_set_self d _ st 0 0 (by decide)).trans (Nat.mod_eq_of_lt h)

/-- The position in force, and the one kept: a message may go out, and leaves them. -/
theorem Dev.basePos_shows (d : Dev) (v : Option Vec3) :
    (d.basePos v).tim.base = v ∧ (d.basePos v).tim.stored = if v.isSome then v else d.tim.stored := by
  unfold Dev.basePos
  extract_lets t x
  split
  · have hkept := x.uartless_rtcmOut [x.stationMsg]
    exact ⟨(congrArg Tim.base hkept :), (congrArg Tim.stored hkept :)⟩
  · exact ⟨rfl, rfl⟩

/-- What a survey-in shows at its beginning (R160). -/
theorem Dev.surveyStart_shows (d : Dev) : d.surveyStart.get R.BASE_STATUS_STATE = 1 ∧ d.surveyStart.tim.base = none ∧
    d.surveyStart.get R.BASE_STATUS_SURVEY_S = 0 ∧ d.surveyStart.tim.nPos = 0 := by
  unfold Dev.surveyStart
  extract_lets t x
  have hrec := DevFrame.record ((x.set R.BASE_STATUS_SURVEY_S 0).baseState 1 0) 0x0504 []
  have htim := (x.set R.BASE_STATUS_SURVEY_S 0).tim_baseState 1 0
  refine ⟨(hrec.readTim (by decide) 0 0).trans (Dev.get_baseState _ (by decide) 0), ?_, ?_, ?_⟩
  · rw [Dev.record_tim, htim]
    rfl
  · refine (hrec.readTim (by decide) 0 0).trans (((DevFrame.baseState _ 1 0).readTim (by decide) 0 0).trans ?_)
    exact Dev.get_set_self x _ 0 0 0 (by decide)
  · rw [Dev.record_tim, htim]
    rfl

/-! ### MODE (R159) -/

theorem Dev.baseMode_off {d : Dev} (h : d.get R.BASE_CTRL_MODE = 0) (v : Option Vec3) : d.baseMode v = (d.basePos none).baseState 0 0 := by
  simp only [Dev.baseMode, h]

theorem Dev.baseMode_survey {d : Dev} (h : d.get R.BASE_CTRL_MODE = 2) (v : Option Vec3) : d.baseMode v = d.surveyStart := by
  simp only [Dev.baseMode, h]

theorem Dev.baseMode_fixed {d : Dev} (h : d.get R.BASE_CTRL_MODE = 1 ∨ d.get R.BASE_CTRL_MODE = 3) (p : Vec3) :
    d.baseMode (some p) = (d.basePos (some p)).baseState 2 0 := by
  rcases h with h | h <;> simp only [Dev.baseMode, h]

theorem Dev.baseMode_empty {d : Dev} (h : d.get R.BASE_CTRL_MODE = 3) : d.baseMode none = (d.basePos none).baseState 0 0 := by
  simp only [Dev.baseMode, h]

/-- No base: the position kept stays. -/
theorem Dev.baseGone_shows (d : Dev) : ((d.basePos none).baseState 0 0).get R.BASE_STATUS_STATE = 0 ∧
    ((d.basePos none).baseState 0 0).tim.base = none ∧ ((d.basePos none).baseState 0 0).tim.stored = d.tim.stored := by
  obtain ⟨hbase, hstored⟩ := d.basePos_shows none
  rw [Dev.tim_baseState]
  exact ⟨Dev.get_baseState _ (by decide) 0, hbase, hstored⟩

/-- A position fixed is the one in force, and the one kept. -/
theorem Dev.baseFixed_shows (d : Dev) (p : Vec3) : ((d.basePos (some p)).baseState 2 0).get R.BASE_STATUS_STATE = 2 ∧
    ((d.basePos (some p)).baseState 2 0).tim.base = some p ∧ ((d.basePos (some p)).baseState 2 0).tim.stored = some p := by
  obtain ⟨hbase, hstored⟩ := d.basePos_shows (some p)
  rw [Dev.tim_baseState]
  exact ⟨Dev.get_baseState _ (by decide) 0, hbase, hstored⟩

/-! ### GO (R159, R164) -/

/-- BASE_CTRL written, and the ARP height in force. -/
def Dev.goWritten (d : Dev) (v : Nat) : Dev :=
  let x := d.writeAddr R.BASE_CTRL_GO.addr v
  { x with tim := { x.tim with arpH := x.get R.BASE_ARP_H_HEIGHT } }

theorem DevFrame.goWritten (d : Dev) (v : Nat) : DevFrame [.tim] [] [] (d.writeAddr R.BASE_CTRL_GO.addr v) (d.goWritten v) := .tim _ _

theorem Dev.mode_goWritten (d : Dev) (v : Nat) : (d.goWritten v).get R.BASE_CTRL_MODE = v % 4 := by
  have hread : (d.writeAddr R.BASE_CTRL_GO.addr v).get R.BASE_CTRL_MODE = Nat.land (v / 2 ^ 0 % 2 ^ 2) 3 :=
    get_writeAddr_listed d (f := R.BASE_CTRL_MODE) (i := 0) (j := 0) (mem_of_timFlds (by decide)) (by decide) (by decide) rfl
  have hsmall : ∀ n < 4, Nat.land n 3 = n := by decide
  rw [(DevFrame.goWritten d v).readTim (by decide), hread, pow_zero, Nat.div_one]
  exact hsmall _ (Nat.mod_lt _ (by decide))

theorem Dev.stored_goWritten (d : Dev) (v : Nat) : (d.goWritten v).tim.stored = d.tim.stored := by
  unfold Dev.goWritten
  rw [writeAddr_eq_regs]

/-- The words of the position. -/
def posFlds : List Fld :=
  [R.BASE_X_LO_POS_LO, R.BASE_X_HI_POS_HI, R.BASE_Y_LO_POS_LO, R.BASE_Y_HI_POS_HI, R.BASE_Z_LO_POS_LO, R.BASE_Z_HI_POS_HI]

theorem posFlds_apart : ∀ f ∈ posFlds, OutsideTim [] [] f ∧ f ≠ R.RING_DEV_IRQ_BLOCK ∧ f.addr ≠ R.BASE_CTRL_GO.addr := by decide

/-- The write of BASE_CTRL leaves them. -/
theorem Dev.pos_goWritten (d : Dev) (v : Nat) {f : Fld} (h : f ∈ posFlds) : (d.goWritten v).get f = d.get f := by
  obtain ⟨hout, hirq, haddr⟩ := posFlds_apart f h
  exact ((DevFrame.goWritten d v).readTim hout 0 0).trans (get_writeAddr_of_addr_ne d (mem_of_timFlds hout.1) hirq haddr v)

theorem Dev.baseRegs_goWritten (d : Dev) (v : Nat) : (d.goWritten v).baseRegs = d.baseRegs := by
  simp (disch := decide) only [Dev.baseRegs, Dev.coord, Dev.pos_goWritten]

/-- GO applies MODE: with the position written where MODE says so, else with the one kept. -/
theorem exec_baseGo {s : State} {v : Word32} (w : s.dev.writable R.BASE_CTRL_GO = true) (go : bitOf v.toNat 4 = true) :
    exec (.baseGo v) s = .next { s with
      dev := (s.dev.goWritten v.toNat).baseMode (if v.toNat % 4 = 1 then some s.dev.baseRegs else s.dev.tim.stored) } := by
  have hgo : (s.dev.writeAddr R.BASE_CTRL_GO.addr v.toNat).baseGo = (s.dev.goWritten v.toNat).baseMode
      (if (s.dev.goWritten v.toNat).get R.BASE_CTRL_MODE = 1 then some (s.dev.goWritten v.toNat).baseRegs
        else (s.dev.goWritten v.toNat).tim.stored) := rfl
  rw [Dev.mode_goWritten, Dev.baseRegs_goWritten, Dev.stored_goWritten] at hgo
  simp only [exec, execBaseGo, onReg, onDev, w, go, if_true, hgo]

/-! ### The sky lost (R162) -/

theorem exec_baseSkyLostTimeout {s : State} {t : Nat} (run : s.dev.runs .time = true) (lost : s.dev.tim.skyLostAt = some t)
    (ver : s.dev.get R.BASE_STATUS_STATE = 3) :
    exec .baseSkyLostTimeout s = .next { s with dev := (s.dev.passToMono (t + 60 * second)).baseState 2 0 } := by
  have hver : (s.dev.passToMono (t + 60 * second)).get R.BASE_STATUS_STATE = 3 := ver
  simp only [exec, execBaseSkyLostTimeout, onRun, onDev, run, lost, hver, if_true]

/-! ### Yard time read (R190) -/

/-- Both words of yard time. -/
def Dev.nowLatched (d : Dev) : Dev := (d.set R.TIME_NOW_LO_NS_LO d.now).set R.TIME_NOW_HI_NS_HI (d.now / 2 ^ 32)

theorem DevFrame.nowLatched (d : Dev) : DevFrame [] [] [R.TIME_NOW_LO_NS_LO, R.TIME_NOW_HI_NS_HI] d d.nowLatched :=
  ((DevFrame.setTim d (g := R.TIME_NOW_LO_NS_LO) (by decide) _ 0 0).mono (by decide)).next
    (.setTim _ (g := R.TIME_NOW_HI_NS_HI) (by decide) _ 0 0) (by decide)

theorem Dev.nowLatched_shows (d : Dev) : d.nowLatched.get R.TIME_NOW_LO_NS_LO = d.now % 2 ^ 32 ∧
    d.nowLatched.get R.TIME_NOW_HI_NS_HI = d.now / 2 ^ 32 % 2 ^ 32 := by
  refine ⟨?_, Dev.get_set_self _ R.TIME_NOW_HI_NS_HI _ 0 0 (by decide)⟩
  refine ((DevFrame.setTim _ (g := R.TIME_NOW_HI_NS_HI) (by decide) _ 0 0).readTim (f := R.TIME_NOW_LO_NS_LO) (by decide) 0 0).trans ?_
  exact Dev.get_set_self d _ _ 0 0 (by decide)

theorem exec_timeNowLoRead {s : State} (w : s.dev.writable R.TIME_NOW_LO_NS_LO = true) :
    exec .timeNowLoRead s = .next { s with dev := s.dev.nowLatched } :=
  onReg_next (g := Dev.nowLatched) w

/-! ### The time source (R181-R184) -/

/-- The registers that the choice of the time source may write, beside those of reports. -/
def sourceFlds : List Fld :=
  [R.TIME_STATUS_SRC, R.TIME_STATUS_SLEWING, R.TIME_STATUS_STEP_PENDING, R.TIME_UNC_UNC, R.TIME_ERR_ERR, R.TIME_FREQ_STEER, R.SYS_LEVEL_HOLDOVER]

theorem sourceFlds_tim : ∀ g ∈ sourceFlds, g ∈ timFlds := by decide

/-- A step of the time source: clocks, time, reports and those registers alone, and nothing of what is known of PPS_IN. -/
structure SourceStep (a b : Dev) : Prop where
  frame : DevFrame ([.clk, .tim] ++ reports) reportWs sourceFlds a b
  edge : b.tim.ppsEdge = a.tim.ppsEdge
  ok : b.tim.ppsOk = a.tim.ppsOk

namespace SourceStep

theorem refl (d : Dev) : SourceStep d d := ⟨.refl _ _ _ d, rfl, rfl⟩

theorem trans {a b c : Dev} (h : SourceStep a b) (k : SourceStep b c) : SourceStep a c :=
  ⟨h.frame.trans k.frame, k.edge.trans h.edge, k.ok.trans h.ok⟩

theorem ite {a b c : Dev} {p : Prop} [Decidable p] (h : SourceStep a b) (k : SourceStep a c) : SourceStep a (if p then b else c) := by
  split
  · exact h
  · exact k

theorem then_set {a b : Dev} (h : SourceStep a b) {g : Fld} {v : Nat} (m : g ∈ sourceFlds) : SourceStep a (b.set g v) :=
  h.trans ⟨(DevFrame.setTim b (sourceFlds_tim g m) v 0 0).mono
    ⟨fun _ hp => absurd hp List.not_mem_nil, fun _ hw => absurd hw List.not_mem_nil, fun _ hf => .inl (List.mem_singleton.1 hf ▸ m)⟩, rfl, rfl⟩

/-- An update of clocks and time that keeps what is known of PPS_IN. -/
theorem upd {a b c : Dev} (h : SourceStep a b) (o : c = { b with clk := c.clk, tim := c.tim }) (edge : c.tim.ppsEdge = b.tim.ppsEdge)
    (ok : c.tim.ppsOk = b.tim.ppsOk) : SourceStep a c :=
  h.trans ⟨⟨by rw [o]; rfl, .of_regs (congrArg Dev.regs o :)⟩, edge, ok⟩

theorem record (d : Dev) (c : Nat) (x : List Byte) : SourceStep d (d.record c x) :=
  ⟨(DevFrame.record d c x).mono (by decide), by rw [Dev.record_tim], by rw [Dev.record_tim]⟩

theorem setHoldover (d : Dev) (b : Bool) : SourceStep d (d.setHoldover b) := by
  unfold Dev.setHoldover
  extract_lets old l t
  refine .then_set ?_ (by decide)
  exact (refl d).upd rfl rfl rfl

theorem timeStatus (d : Dev) : SourceStep d d.timeStatus := by
  unfold Dev.timeStatus
  extract_lets src ho was d1 d2
  have h1 : SourceStep d d1 := (refl d).then_set (by decide)
  have h2 : SourceStep d d2 := (h1.trans (.setHoldover _ _)).then_set (by decide)
  exact .ite (h2.trans (.record _ _ _)) h2

theorem timeError (d : Dev) (e : Int) : SourceStep d (d.timeError e) := by
  unfold Dev.timeError
  extract_lets d1 d2 t
  have h1 : SourceStep d d1 := (refl d).then_set (by decide)
  have h2 : SourceStep d d2 := h1.then_set (by decide)
  exact .ite h1 (.ite (h2.upd (by rfl) rfl rfl) (h1.upd (by rfl) rfl rfl))

theorem timeSource (d : Dev) : SourceStep d d.timeSource := by
  unfold Dev.timeSource
  extract_lets old new u d1 l d2 clk tim d3 tim' d4 d5 d6
  have h1 : SourceStep d d1 := (refl d).then_set (by decide)
  have h2 : SourceStep d d2 := .ite h1 (h1.then_set (by decide))
  have h3 : SourceStep d d3 := h2.upd rfl rfl rfl
  have h4 : SourceStep d d4 := h1.upd rfl rfl rfl
  have h5 : SourceStep d d5 := .ite (h3.then_set (by decide)) (.ite (h4.trans (.timeError _ _)) h1)
  have h6 : SourceStep d d6 := h5.then_set (by decide)
  exact .ite (.timeStatus d) ((h6.trans (.record _ _ _)).trans (.timeStatus _))

end SourceStep

/-! ### An edge of PPS_IN (R181, R192) -/

/-- Now is a second after the last edge, to within 1 µs. -/
def Dev.ppsApart (d : Dev) : Bool :=
  match d.tim.ppsEdge with
  | some p => decide (p + second ≤ d.clk.mono + 1000 ∧ d.clk.mono ≤ p + second + 1000)
  | none => false

/-- The error against the tag, the cable delay taken off. -/
def Dev.ppsError (d : Dev) : Int :=
  rdiv (8 * (d.now : Int) - d.geti R.TIME_PPSIN_DELAY_DELAY -
    8 * ((d.gpsSec / 2 ^ 32 * 2 ^ 32 + d.get R.TIME_PPSIN_TOD_GPS_S : Nat) : Int) * second) 8

/-- The edge taken at its time, its tag used up. -/
def Dev.edgeTaken (d : Dev) (t : Nat) : Dev :=
  let x := d.passTo t
  ({ x with tim := { x.tim with
    ppsEdge := some x.clk.mono, ppsOk := x.ppsApart && x.get R.TIME_PPSIN_TOD_GPS_S != 0, ppsErr := x.ppsError } } : Dev).set R.TIME_PPSIN_TOD_GPS_S 0

theorem Dev.ppsInEdge_eq (d : Dev) (t : Nat) : d.ppsInEdge t =
    (if (d.edgeTaken t).get R.TIME_STATUS_SRC = 2 && (d.edgeTaken t).ppsValid then (d.edgeTaken t).timeError (d.passTo t).ppsError
      else d.edgeTaken t).timeSource := rfl

theorem SourceStep.ppsInEdge (d : Dev) (t : Nat) : SourceStep (d.edgeTaken t) (d.ppsInEdge t) := by
  rw [Dev.ppsInEdge_eq]
  exact (SourceStep.ite (.timeError _ _) (.refl _)).trans (.timeSource _)

/-- Behind the edge only the slew of the clocks may change. -/
theorem Dev.face_ppsInEdge (d : Dev) (t : Nat) : (d.ppsInEdge t).clk.face = (d.passTo t).clk.face := by
  have hcore : (d.ppsInEdge t).core = (d.edgeTaken t).core := by
    rw [Dev.ppsInEdge_eq, Dev.core_timeSource]
    split
    · exact Dev.core_timeError _ _
    · rfl
  exact (congrArg Core.clk hcore :)

theorem exec_ppsInEdge {s : State} (run : s.dev.runs .time = true) (t : Nat) :
    exec (.ppsInEdge t) s = .next { s with dev := s.dev.ppsInEdge t } :=
  onRun_next (f := fun d => d.ppsInEdge t) run

/-- Settles O25: GO by its MODE; the sky lost; the two words of yard time; an edge of PPS_IN. -/
theorem baseAndTime : Obligations.BaseAndTime := by
  unfold Obligations.BaseAndTime
  refine ⟨fun v s w go mode => ?_, fun v s w go mode => ?_, fun v s w go mode => ?_, fun v p s w go mode kept => ?_, fun v s w go mode kept => ?_,
    fun s t run lost ver => ?_, fun s w => ?_, fun e s run => ?_⟩
  · refine ⟨_, exec_baseGo w go, ?_⟩
    rw [Dev.baseMode_off ((s.dev.mode_goWritten _).trans mode), ← s.dev.stored_goWritten v.toNat]
    dsimp only
    exact (s.dev.goWritten v.toNat).baseGone_shows
  · refine ⟨_, exec_baseGo w go, ?_⟩
    rw [if_pos mode, Dev.baseMode_fixed (.inl ((s.dev.mode_goWritten _).trans mode))]
    dsimp only
    exact (s.dev.goWritten v.toNat).baseFixed_shows s.dev.baseRegs
  · refine ⟨_, exec_baseGo w go, ?_⟩
    rw [Dev.baseMode_survey ((s.dev.mode_goWritten _).trans mode)]
    dsimp only
    exact (s.dev.goWritten v.toNat).surveyStart_shows
  · refine ⟨_, exec_baseGo w go, ?_⟩
    rw [mode, if_neg (by decide), kept, Dev.baseMode_fixed (.inr ((s.dev.mode_goWritten _).trans mode))]
    dsimp only
    obtain ⟨hstate, hbase, -⟩ := (s.dev.goWritten v.toNat).baseFixed_shows p
    exact ⟨hstate, hbase⟩
  · refine ⟨_, exec_baseGo w go, ?_⟩
    rw [mode, if_neg (by decide), kept, Dev.baseMode_empty ((s.dev.mode_goWritten _).trans mode)]
    dsimp only
    obtain ⟨hstate, hbase, -⟩ := (s.dev.goWritten v.toNat).baseGone_shows
    exact ⟨hstate, hbase⟩
  · have hpass := DevFrame.passToMono s.dev (t + 60 * second)
    have hmono := s.dev.mono_passToMono (t + 60 * second)
    have htim := s.dev.passToMono_tim (t + 60 * second)
    refine ⟨_, exec_baseSkyLostTimeout run lost ver, ?_⟩
    generalize s.dev.passToMono (t + 60 * second) = x at hpass hmono htim
    have hstate := DevFrame.baseState x 2 0
    refine ⟨Dev.get_baseState x (by decide) 0, ?_, ?_, ((hpass.mono (by decide)).next hstate (by decide)).frame⟩ <;> dsimp only
    · rw [hstate.clk_of_tim, hmono]
      exact Nat.le_max_right _ _
    · rw [Dev.tim_baseState, htim]
  · obtain ⟨hlo, hhi⟩ := s.dev.nowLatched_shows
    exact ⟨_, exec_timeNowLoRead w, hlo, hhi, rfl, (DevFrame.nowLatched s.dev).frame⟩
  · have hstep := SourceStep.ppsInEdge s.dev e
    have hface := s.dev.face_ppsInEdge e
    have hmono : (s.dev.ppsInEdge e).clk.mono = (s.dev.passTo e).clk.mono := (congrArg Clk.mono hface :)
    have hyard := Dev.yard_passTo (Dev.timeGoes_of_timed (Dev.timed_of_runs_time run)) e
    have hok : (s.dev.ppsInEdge e).tim.ppsOk = ((s.dev.passTo e).ppsApart && s.dev.get R.TIME_PPSIN_TOD_GPS_S != 0) := hstep.ok
    refine ⟨_, exec_ppsInEdge run e, ?_, ?_, ?_, fun p last => ?_, fun last => ?_⟩ <;> dsimp only
    · rw [hstep.frame.readTim (by decide)]
      exact Dev.get_set_self _ R.TIME_PPSIN_TOD_GPS_S 0 0 0 (by decide)
    · rw [hstep.edge, hmono]
      rfl
    · rw [yard_of_face hface, hyard]
      exact Nat.le_max_right _ _
    · have hlast : (s.dev.passTo e).tim.ppsEdge = some p := last
      rw [hok, hmono]
      simp only [Dev.ppsApart, hlast]
    · have hlast : (s.dev.passTo e).tim.ppsEdge = none := last
      rw [hok]
      simp only [Dev.ppsApart, hlast, Bool.false_and]

end Sys2Proof.Machine
end

section
/-!
PROOFS. The output of corrections (R169-R173, R180): MSMs, the periodic messages, and the two registers that switch them off.
-/

namespace Sys2Proof.Machine

/-! ### MSMs (R170, R172) -/

theorem Dev.msmPeriod_pos (d : Dev) : 0 < d.msmPeriod := by
  unfold Dev.msmPeriod
  split <;> decide

/-- The next whole multiple of the MSM period. -/
def Dev.msmAt (d : Dev) : Nat := (d.now + d.msmPeriod - 1) / d.msmPeriod * d.msmPeriod

/-- The MSMs of the moment, every one but the last with its multiple-message bit. -/
def Dev.msmMsgs (d : Dev) : List (List Byte) :=
  (d.msmList.zipIdx).map fun x => rtcmFrame (d.msmBody x.1.1 x.1.2.1 (x.2 + 1 < d.msmList.length) x.1.2.2)

theorem Dev.msmMsgs_ne_nil {d : Dev} (h : d.msmList ≠ []) : d.msmMsgs ≠ [] := by
  simpa [Dev.msmMsgs] using h

theorem Dev.rtcmMsm_allowed {d : Dev} (h : d.rtcmAllowed true = true) : d.rtcmMsm = (d.passTo d.msmAt).rtcmOut (d.passTo d.msmAt).msmMsgs := by
  have hno : ¬ (!(d.passTo d.msmAt).rtcmAllowed true) = true := by
    rw [show (d.passTo d.msmAt).rtcmAllowed true = true from h]
    decide
  exact if_neg hno

theorem Dev.rtcmMsm_barred {d : Dev} (h : d.rtcmAllowed true = false) : d.rtcmMsm = d.passTo d.msmAt := by
  have hno : (!(d.passTo d.msmAt).rtcmAllowed true) = true := by
    rw [show (d.passTo d.msmAt).rtcmAllowed true = false from h]
    rfl
  exact if_pos hno

theorem exec_rtcmMsmOutput {s : State} (run : s.dev.runs .time = true) : exec .rtcmMsmOutput s = .next { s with dev := s.dev.rtcmMsm } :=
  onRun_next run

/-- Time stands at the next whole multiple of the MSM period. -/
theorem Dev.yard_passTo_msmAt {d : Dev} (goes : d.timeGoes = true) : (d.passTo d.msmAt).clk.yard = d.msmAt :=
  (Dev.yard_passTo goes _).trans (Nat.max_eq_right (nextMultiple_bounds d.now d.msmPeriod_pos).1)

/-! ### The periodic messages (R169) -/

/-- Ten seconds after the last periodic messages. -/
def Dev.periodicDue (d : Dev) : Dev :=
  let x := d.passToMono (d.tim.periodicAt + 10 * second)
  { x with tim := { x.tim with periodicAt := x.clk.mono } }

theorem DevFrame.periodicDue (d : Dev) : DevFrame [.clk, .tim] [] [] d d.periodicDue :=
  ((DevFrame.passToMono d _).mono (by decide)).next (.tim _ _) (by decide)

/-- A descriptor string is cut. -/
def Dev.stringsCut (d : Dev) : Bool := (antString (d.antBytes.take 32)).2 || (antString (d.antBytes.drop 32)).2

/-- Then, with STR_TRUNC written. -/
def Dev.periodicTruncs (d : Dev) : Dev := d.periodicDue.put R.CORR_STATUS_STR_TRUNC d.periodicDue.stringsCut

theorem DevFrame.periodicTruncs (d : Dev) : DevFrame [.clk, .tim] [] [R.CORR_STATUS_STR_TRUNC] d d.periodicTruncs :=
  ((DevFrame.periodicDue d).mono (by decide)).next (.setTim _ (g := R.CORR_STATUS_STR_TRUNC) (by decide) _ 0 0) (by decide)

/-- The periodic messages. -/
def Dev.periodicMsgs (d : Dev) : List (List Byte) :=
  (if d.tim.base.isSome then [d.stationMsg] else []) ++ [d.msg1033] ++ (if d.bit R.RTCM_CFG_SYS_MASK 1 then [d.msg1230] else [])

/-- 1033 is always among them. -/
theorem Dev.periodicMsgs_ne_nil (d : Dev) : d.periodicMsgs ≠ [] := by simp [Dev.periodicMsgs]

theorem Dev.rtcmPeriodic_eq (d : Dev) : d.rtcmPeriodic = if !d.periodicDue.rtcmAllowed false then d.periodicDue else
    d.periodicTruncs.rtcmOut d.periodicTruncs.periodicMsgs := rfl

theorem Dev.rtcmPeriodic_allowed {d : Dev} (h : d.rtcmAllowed false = true) :
    d.rtcmPeriodic = d.periodicTruncs.rtcmOut d.periodicTruncs.periodicMsgs := by
  rw [Dev.rtcmPeriodic_eq, show d.periodicDue.rtcmAllowed false = true from h]
  rfl

theorem Dev.rtcmPeriodic_barred {d : Dev} (h : d.rtcmAllowed false = false) : d.rtcmPeriodic = d.periodicDue := by
  rw [Dev.rtcmPeriodic_eq, show d.periodicDue.rtcmAllowed false = false from h]
  rfl

theorem Dev.periodicAt_rtcmOut (d : Dev) (msgs : List (List Byte)) : (d.rtcmOut msgs).tim.periodicAt = d.tim.periodicAt :=
  (congrArg Tim.periodicAt (d.uartless_rtcmOut msgs) :)

/-- Messages or none, the clock and the mark of the last periodic messages are those of the moment they are due. -/
theorem Dev.rtcmPeriodic_due (d : Dev) : d.rtcmPeriodic.clk = d.periodicDue.clk ∧ d.rtcmPeriodic.tim.periodicAt = d.periodicDue.clk.mono := by
  cases h : d.rtcmAllowed false
  · rw [Dev.rtcmPeriodic_barred h]
    exact ⟨rfl, rfl⟩
  · rw [Dev.rtcmPeriodic_allowed h]
    exact ⟨(DevFrame.rtcmOut d.periodicTruncs _).clk_of_tim, d.periodicTruncs.periodicAt_rtcmOut _⟩

theorem exec_rtcmPeriodicOutput {s : State} (run : s.dev.runs .time = true) :
    exec .rtcmPeriodicOutput s = .next { s with dev := s.dev.rtcmPeriodic } :=
  onRun_next run

/-! ### Switched off (R180) -/

/-- With RTCM_EN clear nothing is allowed out. -/
theorem Dev.rtcmAllowed_of_disabled {d : Dev} (h : d.get R.RTCM_CFG_RTCM_EN = 0) (msm : Bool) : d.rtcmAllowed msm = false := by
  have hon : d.on R.RTCM_CFG_RTCM_EN = false := by rw [Dev.on, h]; rfl
  simp [Dev.rtcmAllowed, Dev.rtcmFull, hon]

theorem fieldsAt_RTCM_CFG : (fieldsAt R.RTCM_CFG_RTCM_EN.addr).all (fun x => decide (x.1.acc = .rw) && decide (x.1.block = 0x05)) = true := by
  decide +kernel

theorem fieldsAt_CORR_CFG : (fieldsAt R.CORR_CFG_YC_EN.addr).all (fun x => decide (x.1.acc = .rw) && decide (x.1.block = 0x05)) = true := by
  decide +kernel

theorem exec_rtcmDisable {s : State} {v : Word32} (w : s.dev.writable R.RTCM_CFG_RTCM_EN = true) (h : bitOf v.toNat 20 = false) :
    exec (.rtcmDisable v) s = .next { s with dev := s.dev.writeAddr R.RTCM_CFG_RTCM_EN.addr v.toNat } := by
  simp only [exec, execRtcmDisable, onReg, onDev, w, h, if_true, Bool.false_eq_true, if_false]

theorem exec_ycDisable {s : State} {v : Word32} (w : s.dev.writable R.CORR_CFG_YC_EN = true) (h : bitOf v.toNat 0 = false) :
    exec (.ycDisable v) s = .next { s with dev := s.dev.writeAddr R.CORR_CFG_YC_EN.addr v.toNat } := by
  simp only [exec, execYcDisable, onReg, onDev, w, h, if_true, Bool.false_eq_true, if_false]

/-- Settles O26: the moment of MSMs, what the UART does with them, their bar; the same of the periodic messages; both switched off. -/
theorem correctionsOutput : Obligations.CorrectionsOutput := by
  unfold Obligations.CorrectionsOutput
  refine ⟨fun s run ok => ?_, fun s run ok uart ring any => ?_, fun s no => ?_, fun s run => ?_, fun s run ok uart ring => ?_,
    fun v s w off => ?_, fun v s w off => ?_⟩
  · have hyard : s.dev.rtcmMsm.clk.yard = s.dev.msmAt := by
      rw [Dev.rtcmMsm_allowed ok, (DevFrame.rtcmOut _ _).clk_of_tim]
      exact Dev.yard_passTo_msmAt (Dev.timeGoes_of_timed (Dev.timed_of_runs_time run))
    obtain ⟨hle, hlt⟩ := nextMultiple_bounds s.dev.now s.dev.msmPeriod_pos
    refine ⟨_, exec_rtcmMsmOutput run, ?_⟩
    dsimp only
    rw [hyard]
    exact ⟨Nat.mul_mod_left _ _, hle, hlt⟩
  · refine ⟨_, exec_rtcmMsmOutput run, ?_⟩
    dsimp only
    rw [Dev.rtcmMsm_allowed ok]
    exact Dev.rtcmOut_uart (d := s.dev.passTo s.dev.msmAt) uart ring (Dev.msmMsgs_ne_nil any)
  · cases run : s.dev.runs .time
    · exact ⟨s, by simp [exec, execRtcmMsmOutput, onRun, onDev, run], rfl, (DevFrame.refl _ _ _ s.dev).frame⟩
    · refine ⟨_, exec_rtcmMsmOutput run, ?_⟩
      rw [Dev.rtcmMsm_barred no]
      exact ⟨rfl, (DevFrame.passTo s.dev _).frame⟩
  · obtain ⟨hclk, hat⟩ := s.dev.rtcmPeriodic_due
    have hmono : s.dev.tim.periodicAt + 10 * second ≤ s.dev.periodicDue.clk.mono :=
      Nat.le_trans (Nat.le_max_right _ _) (Nat.le_of_eq (s.dev.mono_passToMono _).symm)
    refine ⟨_, exec_rtcmPeriodicOutput run, ?_, ?_, fun no => ?_⟩ <;> dsimp only
    · rwa [hclk]
    · rw [hat, hclk]
    · rw [Dev.rtcmPeriodic_barred no]
      rfl
  · have hframe := DevFrame.periodicTruncs s.dev
    refine ⟨_, exec_rtcmPeriodicOutput run, ?_⟩
    dsimp only
    rw [Dev.rtcmPeriodic_allowed ok, ← hframe.readTim (f := R.CORR_STATUS_UART_DROPPED) (by decide) 0 0]
    refine Dev.rtcmOut_uart ?_ ?_ (Dev.periodicMsgs_ne_nil _)
    · rwa [Dev.on, hframe.readTim (by decide)]
    · rwa [Dev.on, hframe.readTim (by decide)]
  · have hen : (s.dev.writeAddr R.RTCM_CFG_RTCM_EN.addr v.toNat).get R.RTCM_CFG_RTCM_EN = 0 :=
      s.dev.get_writeAddr_bit_clear (mem_of_timFlds (by decide)) (by decide) rfl rfl rfl off
    refine ⟨_, exec_rtcmDisable w off, ?_⟩
    dsimp only
    exact ⟨hen, Dev.rtcmAllowed_of_disabled hen true, Dev.rtcmAllowed_of_disabled hen false, (DevFrame.writeRw fieldsAt_RTCM_CFG s.dev v.toNat).frame⟩
  · refine ⟨_, exec_ycDisable w off, ?_⟩
    dsimp only
    exact ⟨s.dev.get_writeAddr_bit_clear (mem_of_timFlds (by decide)) (by decide) rfl rfl rfl off,
      (DevFrame.writeRw fieldsAt_CORR_CFG s.dev v.toNat).frame⟩

end Sys2Proof.Machine
end

section
/-!
PROOFS. Yard ranging (R198-R231), what its proofs share: the fields they tell apart, parts outside a frame, and what is shown of calibration (R207, R227, R230).
-/

namespace Sys2Proof.Machine

/-! ### The fields that these proofs read or write -/

/-- Fields that the proofs of yard ranging tell apart. -/
def yardFlds : List Fld :=
  [R.ID_DEV_DEV, R.PWR_STATUS_STATE, R.SYS_BOOT_STATUS_NO_SAFE, R.RING_GLB_STATUS_PAUSED, R.RING_GLB_STATUS_LINK_UP, R.RING_CTRL_EN,
    R.RING_STATUS_STAGED, R.TRK_CH_STAT_STATE, R.YRD_CTRL_EN, R.YRD_STATUS_DISCARDED, R.YRD_CAL_CFG_AVG, R.YRD_CAL_CFG_MAX_AGE, R.YRD_CAL_CFG_RES_TOL,
    R.YRD_AUTO_WAITING, R.YRD_AUTO_ALLOTTED, R.RAD_ERR_CRC_ERR, R.RAD_ERR_MIC_FAIL, R.RAD_ERR_REPLAY] ++ calFlds

theorem yardFlds_elem : yardFlds.all (fun g => regMap.elem g) = true := by decide +kernel

theorem mem_of_yardFlds {g : Fld} (h : g ∈ yardFlds) : g ∈ regMap := mem_regMap (List.all_eq_true.1 yardFlds_elem g h)

/-- A field of `yardFlds` outside a frame. -/
abbrev OutsideYrd (ws : List Nat) (fs : List Fld) (f : Fld) : Prop := f ∈ yardFlds ∧ f.block ∉ ws ∧ f ∉ fs

theorem Dev.timeGoes_of_runs_sup {d : Dev} (h : d.runs .sup = true) : d.timeGoes = true := by
  simp only [Dev.runs, Bool.and_eq_true] at h
  obtain ⟨-, ⟨⟨htimed, -⟩, -⟩, -⟩ := h
  exact Dev.timeGoes_of_timed htimed

/-- What only one part holds is the same without the others. -/
theorem Dev.without_keeps {α : Type} {f : Dev → α} {p : Part} (clear : ∀ x q, q ≠ p → f (x.clear q) = f x) (regs : ∀ x : Dev, f { x with regs := {} } = f x)
    {ps : List Part} (n : p ∉ ps) (d : Dev) : f (d.without ps) = f d :=
  List.foldlRecOn (motive := fun x : Dev => f x = f d) ps _ (regs d) fun x hx q hq => (clear x q fun e => n (e ▸ hq)).trans hx

namespace DevFrame

/-- A part outside the frame stays. -/
theorem keeps {ps : List Part} {ws : List Nat} {fs : List Fld} {a b : Dev} (h : DevFrame ps ws fs a b) {α : Type} {f : Dev → α} {p : Part}
    (clear : ∀ x q, q ≠ p → f (x.clear q) = f x) (regs : ∀ x : Dev, f { x with regs := {} } = f x) (n : p ∉ ps) : f b = f a :=
  (Dev.without_keeps clear regs n b).symm.trans ((congrArg f h.parts).trans (Dev.without_keeps clear regs n a))

theorem readYrd {ps : List Part} {ws : List Nat} {fs : List Fld} {a b : Dev} (h : DevFrame ps ws fs a b) {f : Fld} (o : OutsideYrd ws fs f)
    (i j : Nat) : b.get f i j = a.get f i j := by
  obtain ⟨hf, hw, hn⟩ := o
  exact h.regs f (mem_of_yardFlds hf) hw hn i j

theorem setYrd (d : Dev) {g : Fld} (hg : g ∈ yardFlds) (v i j : Nat) : DevFrame [] [] [g] d (d.set g v i j) :=
  ⟨rfl, .set d v i j (mem_of_yardFlds hg) (.inl (List.mem_singleton.2 rfl))⟩

/-- An update of the state of yard ranging. -/
theorem yrd (d : Dev) (x : Yrd) : DevFrame [.yrd] [] [] d { d with yrd := x } := ⟨rfl, .of_regs rfl⟩

section
variable {ps : List Part} {ws : List Nat} {fs : List Fld} {a b : Dev} (h : DevFrame ps ws fs a b)
include h

theorem keeps_clk (n : .clk ∉ ps) : b.clk = a.clk := h.keeps (fun _ q m => by cases q <;> simp_all [Dev.clear]) (fun _ => rfl) n

theorem keeps_boot (n : .boot ∉ ps) : b.boot = a.boot := h.keeps (fun _ q m => by cases q <;> simp_all [Dev.clear]) (fun _ => rfl) n

theorem keeps_ring (n : .ring ∉ ps) : b.ring = a.ring := h.keeps (fun _ q m => by cases q <;> simp_all [Dev.clear]) (fun _ => rfl) n

theorem keeps_tim (n : .tim ∉ ps) : b.tim = a.tim := h.keeps (fun _ q m => by cases q <;> simp_all [Dev.clear]) (fun _ => rfl) n

theorem keeps_yrd (n : .yrd ∉ ps) : b.yrd = a.yrd := h.keeps (fun _ q m => by cases q <;> simp_all [Dev.clear]) (fun _ => rfl) n

theorem keeps_sys (n : .sys ∉ ps) : b.sys = a.sys := h.keeps (fun _ q m => by cases q <;> simp_all [Dev.clear]) (fun _ => rfl) n

theorem keeps_out (n : .out ∉ ps) : b.out = a.out := h.keeps (fun _ q m => by cases q <;> simp_all [Dev.clear]) (fun _ => rfl) n

end

/-- A record writes the recorder's window and the fields of an item alone. -/
theorem record_exact (d : Dev) (c : Nat) (x : List Byte) : DevFrame reports [0x12] itemFlds d (d.record c x) :=
  ⟨d.without_record c x, .record_exact d c x⟩

end DevFrame

/-! ### What is shown of calibration (R207, R227, R230) -/

/-- A step that shows calibration: its fields, and what a record touches. -/
structure CalShown (a b : Dev) : Prop extends DevFrame reports [0x12] (calFlds ++ itemFlds) a b

namespace CalShown

theorem refl (d : Dev) : CalShown d d := ⟨.refl _ _ _ d⟩

theorem trans {a b c : Dev} (h : CalShown a b) (k : CalShown b c) : CalShown a c := ⟨h.toDevFrame.trans k.toDevFrame⟩

/-- One more step, of a frame within this one. -/
theorem next {ps : List Part} {ws : List Nat} {fs : List Fld} {a b c : Dev} (h : CalShown a b) (k : DevFrame ps ws fs b c)
    (le : FrameLe ps ws fs reports [0x12] (calFlds ++ itemFlds)) : CalShown a c := ⟨h.toDevFrame.next k le⟩

theorem foldl {α : Type} {f : Dev → α → Dev} (h : ∀ d x, CalShown d (f d x)) (l : List α) (d : Dev) : CalShown d (l.foldl f d) :=
  List.foldlRecOn (motive := CalShown d) l f (refl d) fun e he x _ => he.trans (h e x)

theorem set (d : Dev) {g : Fld} (hg : g ∈ calFlds) (v i j : Nat) : CalShown d (d.set g v i j) :=
  ⟨rfl, .set d v i j (mem_of_yardFlds (List.mem_append_right _ hg)) (.inl (List.mem_append_left _ hg))⟩

/-- Showing calibration does not change who the anchors are. -/
theorem anchSelf {a b : Dev} (h : CalShown a b) (k : Nat) : b.anchSelf k = a.anchSelf k := by
  simp only [Dev.anchSelf, Dev.id, h.keeps_yrd (by decide), h.readYrd (f := R.ID_DEV_DEV) (by decide)]

section
variable {a b : Dev} (h : CalShown a b)
include h

theorem yardOk : b.yardOk = a.yardOk := by
  simp only [Dev.yardOk, h.readYrd (f := R.TRK_CH_STAT_STATE) (by decide)]

theorem slewing : b.slewing = a.slewing := by
  simp only [Dev.slewing, h.keeps_clk (by decide), h.keeps_tim (by decide)]

theorem calFresh (t : Option Nat) : b.calFresh t = a.calFresh t := by
  unfold Dev.calFresh
  rw [h.keeps_clk (by decide), h.readYrd (f := R.YRD_CAL_CFG_MAX_AGE) (by decide)]

theorem calLast (k : Nat) : b.calLast k = a.calLast k := by
  rw [Dev.calLast, Dev.calLast, h.keeps_yrd (by decide), h.readYrd (f := R.YRD_CAL_CFG_AVG) (by decide)]

theorem calMean (k : Nat) : b.calMean k = a.calMean k := by
  unfold Dev.calMean
  rw [h.calLast, h.anchSelf]

theorem calTight (k : Nat) : b.calTight k = a.calTight k := by
  unfold Dev.calTight Dev.calDev
  rw [h.calLast, h.calMean, h.readYrd (f := R.YRD_CAL_CFG_RES_TOL) (by decide)]

/-- Nor whether an anchor is calibrated. -/
theorem calOk (k : Nat) : b.calOk k = a.calOk k := by
  unfold Dev.calOk
  rw [Dev.on, Dev.on, h.anchSelf, h.yardOk, h.slewing, h.calFresh, h.calFresh, h.calTight, h.keeps_yrd (by decide),
    h.readYrd (f := R.YRD_CTRL_EN) (by decide), h.readYrd (f := R.YRD_CAL_CFG_AVG) (by decide)]

end

end CalShown

/-- Entry `a` is in force and its anchor calibrated: what CAL shows. -/
def Dev.calNow (d : Dev) (a : Nat) : Bool := (tabFind d.yrd.anch a).isSome && d.calOk a

theorem CalShown.calNow {a b : Dev} (h : CalShown a b) (k : Nat) : b.calNow k = a.calNow k := by
  simp only [Dev.calNow, h.keeps_yrd (by decide), h.calOk]

/-- CAL of the anchor first; then only its AGE and RES, and a record. -/
theorem Dev.calView_after (d : Dev) (a : Nat) :
    DevFrame reports [0x12] ([R.YRD_ANCH_CAL_AGE, R.YRD_ANCH_CAL_RES] ++ itemFlds) (d.put R.YRD_ANCH_CAL_CAL (d.calNow a) a) (d.calView a) := by
  unfold Dev.calView
  extract_lets was ok self at0 age res x cause
  have hage := (DevFrame.setYrd (d.put R.YRD_ANCH_CAL_CAL (d.calNow a) a) (g := R.YRD_ANCH_CAL_AGE) (by decide) (min age 255) a 0).mono
    (ps' := reports) (ws' := [0x12]) (fs' := [R.YRD_ANCH_CAL_AGE, R.YRD_ANCH_CAL_RES] ++ itemFlds) (by decide)
  have hx : DevFrame reports [0x12] ([R.YRD_ANCH_CAL_AGE, R.YRD_ANCH_CAL_RES] ++ itemFlds) (d.put R.YRD_ANCH_CAL_CAL (d.calNow a) a) x :=
    hage.next (.setYrd _ (g := R.YRD_ANCH_CAL_RES) (by decide) (min res 255) a 0) (by decide)
  exact .ite (hx.next (.record_exact _ _ _) (by decide)) hx

theorem CalShown.calView (d : Dev) (a : Nat) : CalShown d (d.calView a) :=
  (CalShown.set d (g := R.YRD_ANCH_CAL_CAL) (by decide) _ a 0).next (d.calView_after a) (by decide)

theorem b2n_lt_two (b : Bool) : b2n b < 2 := by cases b <;> decide

theorem Dev.cal_calView_self (d : Dev) {a : Nat} (h : a < 16) : (d.calView a).get R.YRD_ANCH_CAL_CAL a = b2n (d.calNow a) := by
  rw [(d.calView_after a).readYrd (by decide)]
  exact (Dev.get_set_self d _ _ a 0 (Fld.has_row h Nat.one_pos)).trans (Nat.mod_eq_of_lt (b2n_lt_two _))

theorem Dev.cal_calView_other (d : Dev) {a k : Nat} (n : a ≠ k) : (d.calView k).get R.YRD_ANCH_CAL_CAL a = d.get R.YRD_ANCH_CAL_CAL a := by
  rw [(d.calView_after k).readYrd (by decide)]
  exact d.get_set_copy (mem_of_yardFlds (by decide)) (.inl n) _

/-- Every anchor's registers. -/
def Dev.anchorsShown (d : Dev) : Dev := (List.range 16).foldl (fun (d : Dev) (a : Nat) => d.calView a) d

theorem CalShown.anchorsShown (d : Dev) : CalShown d d.anchorsShown := .foldl .calView _ d

/-- CAL shows which anchors are calibrated. -/
theorem Dev.cal_anchorsShown (d : Dev) {a : Nat} (h : a < 16) : d.anchorsShown.get R.YRD_ANCH_CAL_CAL a = b2n (d.calNow a) := by
  obtain ⟨l, r, hl⟩ := List.append_of_mem (List.mem_range.2 h)
  have hbefore : CalShown d (l.foldl (fun (d : Dev) (a : Nat) => d.calView a) d) := .foldl .calView _ d
  rw [Dev.anchorsShown, hl, List.foldl_append, List.foldl_cons]
  refine (List.foldlRecOn (motive := fun x : Dev => CalShown d x ∧ x.get R.YRD_ANCH_CAL_CAL a = b2n (d.calNow a)) r _ ?_ ?_).2
  · exact ⟨hbefore.trans (.calView _ a), by rw [Dev.cal_calView_self _ h, hbefore.calNow]⟩
  · rintro x ⟨hx, hcal⟩ k -
    refine ⟨hx.trans (.calView x k), ?_⟩
    by_cases e : a = k
    · rw [← e, Dev.cal_calView_self x h, hx.calNow]
    · rw [Dev.cal_calView_other x e, hcal]

/-- The anchors that the registers show as calibrated. -/
def Dev.calibrated (d : Dev) : List Nat := (List.range 16).filter fun a => d.on R.YRD_ANCH_CAL_CAL a

/-- Yard ranging is calibrated (R207), as the anchors' registers show it. -/
def Dev.calEnough (d : Dev) : Bool := (d.calibrated.any fun a => d.anchSelf a) && d.get R.YRD_CFG_MIN_ANCH ≤ d.calibrated.length

/-- N_CAL and CALIBRATED, as the anchors' registers are. -/
def Dev.calCounted (d : Dev) : Dev := (d.set R.YRD_STATUS_N_CAL d.calibrated.length).put R.YRD_STATUS_CALIBRATED d.calEnough

theorem CalShown.calCounted (d : Dev) : CalShown d d.calCounted :=
  (CalShown.set d (g := R.YRD_STATUS_N_CAL) (by decide) _ 0 0).trans (.set _ (g := R.YRD_STATUS_CALIBRATED) (by decide) _ 0 0)

/-- The anchors' registers, then the two fields, and a record where CALIBRATED changed. -/
theorem Dev.yrdView_eq (d : Dev) : d.yrdView = if d.anchorsShown.calEnough != d.on R.YRD_STATUS_CALIBRATED then
    d.anchorsShown.calCounted.record 0x0601 (u8 d.anchorsShown.calibrated.length) else d.anchorsShown.calCounted := rfl

theorem Dev.yrdView_after (d : Dev) : DevFrame reports [0x12] itemFlds d.anchorsShown.calCounted d.yrdView := by
  rw [Dev.yrdView_eq]
  exact .ite (.record_exact _ _ _) (.refl _ _ _ _)

theorem CalShown.yrdView (d : Dev) : CalShown d d.yrdView :=
  ((CalShown.anchorsShown d).trans (.calCounted _)).next d.yrdView_after (by decide)

theorem Dev.cal_yrdView (d : Dev) {a : Nat} (h : a < 16) : d.yrdView.get R.YRD_ANCH_CAL_CAL a = b2n (d.calNow a) := by
  rw [d.yrdView_after.readYrd (by decide), ← d.cal_anchorsShown h]
  refine ((DevFrame.setYrd _ (g := R.YRD_STATUS_CALIBRATED) (by decide) _ 0 0).readYrd (by decide) a 0).trans ?_
  exact (DevFrame.setYrd _ (g := R.YRD_STATUS_N_CAL) (by decide) _ 0 0).readYrd (by decide) a 0

/-- Without a calibrated anchor yard ranging is not calibrated. -/
theorem Dev.calibrated_yrdView_of_none {d : Dev} (h : ∀ a, d.calNow a = false) : d.yrdView.get R.YRD_STATUS_CALIBRATED = 0 := by
  have hnone : d.anchorsShown.calibrated = [] := by
    refine List.filter_eq_nil_iff.2 fun a ha => ?_
    rw [Dev.on, d.cal_anchorsShown (List.mem_range.1 ha), h a]
    decide
  have hzero : d.anchorsShown.calEnough = false := by
    rw [Dev.calEnough, hnone]
    rfl
  rw [d.yrdView_after.readYrd (by decide), Dev.calCounted, hzero]
  exact Dev.get_set_self _ _ _ _ _ (by decide)

end Sys2Proof.Machine
end

section
/-!
PROOFS. Ranging slots and the device's own CAL frames (R199-R205, R257).
-/

namespace Sys2Proof.Machine

/-! ### What is received (R202, R204, R245) -/

/-- The counters of frames that a receiver rejects. -/
def rejectFlds : List Fld := [R.RAD_ERR_CRC_ERR, R.RAD_ERR_MIC_FAIL, R.RAD_ERR_REPLAY]

theorem DevFrame.reject (d : Dev) {g : Fld} (hg : g ∈ rejectFlds) (hy : g ∈ yardFlds) : DevFrame [.rad] [] rejectFlds d (d.inc g) :=
  ⟨rfl, .set d _ 0 0 (mem_of_yardFlds hy) (.inl hg)⟩

theorem DevFrame.receive (d : Dev) (f : List Byte) (len ex : Nat) (want : Bool) (k : Option (List Byte)) (hw : Option Nat) :
    DevFrame [.rad] [] rejectFlds d (d.receive f len ex want k hw).2 := by
  unfold Dev.receive
  split
  · exact .refl _ _ _ d
  · split
    · exact .reject d (by decide) (by decide)
    · split
      · exact .refl _ _ _ d
      · split
        · exact .reject d (by decide) (by decide)
        · split
          · split
            · exact .reject d (by decide) (by decide)
            · exact .refl _ _ _ d
          · exact .refl _ _ _ d

theorem DevFrame.receiveSite (d : Dev) (f : List Byte) (want : Bool) : DevFrame [.rad] [] rejectFlds d (d.receiveSite f want).2 := by
  have hrx := DevFrame.receive d f 49 0 (want && fSite f && fSrc f == 0xF0) (d.siteRxKey (fGen f)) (tabFind d.rad.hwSite (fCell f))
  unfold Dev.receiveSite
  split
  · next p x e =>
    rw [e] at hrx
    exact hrx.trans ⟨rfl, .of_regs rfl⟩
  · exact hrx

theorem DevFrame.receiveMach (d : Dev) (f : List Byte) (m : Nat) (want : Bool) : DevFrame [.rad] [] rejectFlds d (d.receiveMach f m want).2 := by
  have hrx := DevFrame.receive d f 49 0 (want && !fSite f && fCell f == d.cellNo && fSrc f == m && m < 240) (d.cellRxKey (fGen f)) (tabFind d.rad.hwM m)
  unfold Dev.receiveMach
  split
  · next p x e =>
    rw [e] at hrx
    exact hrx.trans ⟨rfl, .of_regs rfl⟩
  · exact hrx

/-- Verifying a frame changes the radio's high-water entries and counters alone. -/
theorem DevFrame.rangeVerify (d : Dev) (kind p f : Nat) (serving : Bool) (frame : List Byte) :
    DevFrame [.rad] [] rejectFlds d (d.rangeVerify kind p f serving frame).2 := by
  unfold Dev.rangeVerify
  extract_lets want body r r'
  split
  · exact .receiveSite d _ _
  · split
    · exact .receiveMach d _ _ _
    · exact .refl _ _ _ d

/-- The slot counts as received: within the search window, and strong enough. -/
def Dev.slotCounts (d : Dev) (x : RangeRx) : Bool :=
  851968 ≤ x.toa + 196608 && x.toa ≤ 851968 + 196608 && d.get R.YRD_CFG2_SNR_MIN ≤ x.snr

/-- A slot received: the frame is verified, and the measurement joins those of the exchange. -/
def Dev.measured (d : Dev) (kind p f : Nat) (serving : Bool) (x : RangeRx) : Dev :=
  let r := d.rangeVerify kind p f serving x.frame
  let m : YMeas := { f := f, toa := x.toa, phase := x.phase, snr := x.snr, fcnt := fCnt x.frame, src := fSrc x.frame, ok := r.1, got := r.2.yardOk }
  { r.2 with yrd := { r.2.yrd with rx := r.2.yrd.rx ++ [m] } }

theorem DevFrame.measured (d : Dev) (kind p f : Nat) (serving : Bool) (x : RangeRx) :
    DevFrame [.rad, .yrd] [] rejectFlds d (d.measured kind p f serving x) :=
  ((DevFrame.rangeVerify d kind p f serving x.frame).mono (by decide)).next (.yrd _ _) (by decide)

theorem DevFrame.yardOk {ps : List Part} {ws : List Nat} {fs : List Fld} {a b : Dev} (h : DevFrame ps ws fs a b)
    (o : OutsideYrd ws fs R.TRK_CH_STAT_STATE) : b.yardOk = a.yardOk := by
  simp only [Dev.yardOk, h.readYrd o]

/-- The measurement is the newest of the exchange. -/
theorem Dev.measured_last (d : Dev) (kind p f : Nat) (serving : Bool) (x : RangeRx) : ∃ m : YMeas,
    (d.measured kind p f serving x).yrd.rx.getLast? = some m ∧ m.f = f ∧ m.toa = x.toa ∧ m.phase = x.phase ∧ m.snr = x.snr ∧ m.got = d.yardOk :=
  ⟨_, List.getLast?_concat, rfl, rfl, rfl, rfl, (DevFrame.rangeVerify d kind p f serving x.frame).yardOk (by decide)⟩

/-- What is heard in a slot. -/
def Dev.slotHeard (d : Dev) (kind p f : Nat) (serving : Bool) (rx : Option RangeRx) : Dev :=
  match rx with
  | none => d
  | some x => if !d.slotCounts x then d else d.measured kind p f serving x

theorem Dev.slotHeard_some (d : Dev) (kind p f : Nat) (serving : Bool) (x : RangeRx) :
    d.slotHeard kind p f serving (some x) = if !d.slotCounts x then d else d.measured kind p f serving x := rfl

theorem DevFrame.slotHeard (d : Dev) (kind p f : Nat) (serving : Bool) (rx : Option RangeRx) :
    DevFrame [.rad, .yrd] [] rejectFlds d (d.slotHeard kind p f serving rx) := by
  cases rx with
  | none => exact .refl _ _ _ d
  | some x =>
    rw [Dev.slotHeard_some]
    exact .ite (.refl _ _ _ d) (.measured d _ _ _ _ x)

/-! ### A slot of an exchange (R198, R200) -/

/-- The plan position of a slot's exchange in the present superframe. -/
def Dev.slotPos (d : Dev) (slot : Nat) : Nat := 11 * (d.sfn % 10) + (slot - 347) / 3

/-- The device listens at a plan position: ranging is enabled, it does not send there itself, and the exchange is its cell's, a CAL exchange, or one that it measures
for others. -/
def Dev.listensAt (d : Dev) (p : Nat) : Bool :=
  !(!d.on R.YRD_CTRL_EN || ((d.planOf p).1 == 3 && (d.planOf p).2.2 == d.id) ||
    !((d.planOf p).2.1 == d.cellNo || (d.planOf p).1 == 3 || d.on R.YRD_CTRL_ANCHOR_EN))

/-- The first slot heard of an exchange drops the measurements of the one before. -/
def Dev.exchangeOf (d : Dev) (t : Nat) : Dev := if d.yrd.rxAt = t then d else { d with yrd := { d.yrd with rx := [], rxAt := t } }

theorem DevFrame.exchangeOf (d : Dev) (t : Nat) : DevFrame [.yrd] [] [] d (d.exchangeOf t) := .ite (.refl _ _ _ d) (.yrd d _)

theorem Dev.mem_rx_exchangeOf {d : Dev} {t : Nat} {m : YMeas} (h : m ∈ (d.exchangeOf t).yrd.rx) : m ∈ d.yrd.rx := by
  unfold Dev.exchangeOf at h
  split at h
  · exact h
  · exact absurd h List.not_mem_nil

/-- The end of a slot, with the measurements of its exchange. -/
def Dev.slotOver (d : Dev) (slot : Nat) : Dev := (d.passTo (d.slotStart (slot + 1))).exchangeOf (d.slotStart (347 + 3 * ((slot - 347) / 3)))

theorem DevFrame.slotOver (d : Dev) (slot : Nat) : DevFrame [.clk, .yrd] [] [] d (d.slotOver slot) :=
  ((DevFrame.passTo d _).mono (by decide)).next (.exchangeOf _ _) (by decide)

theorem Dev.clk_slotOver (d : Dev) (slot : Nat) : (d.slotOver slot).clk = (d.passTo (d.slotStart (slot + 1))).clk :=
  (DevFrame.exchangeOf _ _).keeps_clk (by decide)

/-- What is heard by the end of a slot where the device listens. -/
def Dev.slotTaken (d : Dev) (slot : Nat) (rx : Option RangeRx) : Dev :=
  let p := d.slotPos slot
  (d.slotOver slot).slotHeard (d.planOf p).1 p ((slot - 347) % 3) ((d.planOf p).2.1 == d.cellNo && (d.slotOver slot).reins) rx

theorem Dev.clk_slotTaken (d : Dev) (slot : Nat) (rx : Option RangeRx) : (d.slotTaken slot rx).clk = (d.passTo (d.slotStart (slot + 1))).clk :=
  ((DevFrame.slotHeard _ _ _ _ _ rx).keeps_clk (by decide)).trans (d.clk_slotOver slot)

section
variable {d : Dev} {slot : Nat} (lo : 347 ≤ slot) (hi : slot ≤ 379) (time : d.now ≤ d.slotStart (slot + 1)) (rx : Option RangeRx)
include lo hi time

theorem Dev.rangeRx_eq : d.rangeRx slot rx =
    if !d.listensAt (d.slotPos slot) then d.passTo (d.slotStart (slot + 1))
    else if (slot - 347) % 3 = 2 then (d.slotTaken slot rx).exchangeEnd ((slot - 347) / 3) (d.slotStart (347 + 3 * ((slot - 347) / 3))) (d.slotPos slot)
      (d.planOf (d.slotPos slot)).1 (d.planOf (d.slotPos slot)).2.1 (d.planOf (d.slotPos slot)).2.2 ((d.planOf (d.slotPos slot)).2.1 == d.cellNo)
    else d.slotTaken slot rx := by
  have hgo : ¬ (decide (slot < 347) || decide (379 < slot) || decide (d.slotStart (slot + 1) < d.now)) = true := by
    simp [lo, hi, time]
  unfold Dev.rangeRx
  rw [if_neg hgo, Dev.listensAt, Bool.not_not]
  cases rx <;> rfl

/-- Where the device does not listen, time passes to the slot's end. -/
theorem Dev.rangeRx_deaf (h : d.listensAt (d.slotPos slot) = false) : d.rangeRx slot rx = d.passTo (d.slotStart (slot + 1)) := by
  rw [Dev.rangeRx_eq lo hi time, h]
  rfl

/-- The first or second slot of an exchange. -/
theorem Dev.rangeRx_open (h : d.listensAt (d.slotPos slot) = true) (hf : (slot - 347) % 3 < 2) : d.rangeRx slot rx = d.slotTaken slot rx := by
  rw [Dev.rangeRx_eq lo hi time, h, if_neg (by decide), if_neg (by omega)]

/-- The third slot of an exchange. -/
theorem Dev.rangeRx_last (h : d.listensAt (d.slotPos slot) = true) (hf : (slot - 347) % 3 = 2) : d.rangeRx slot rx =
    (d.slotTaken slot rx).exchangeEnd ((slot - 347) / 3) (d.slotStart (347 + 3 * ((slot - 347) / 3))) (d.slotPos slot)
      (d.planOf (d.slotPos slot)).1 (d.planOf (d.slotPos slot)).2.1 (d.planOf (d.slotPos slot)).2.2 ((d.planOf (d.slotPos slot)).2.1 == d.cellNo) := by
  rw [Dev.rangeRx_eq lo hi time, h, if_neg (by decide), if_pos hf]

end

/-- The slot's end is reached. -/
theorem Dev.yard_slotEnd {d : Dev} {slot : Nat} (goes : d.timeGoes = true) (time : d.now ≤ d.slotStart (slot + 1)) :
    (d.passTo (d.slotStart (slot + 1))).clk.yard = d.slotStart (slot + 1) :=
  (Dev.yard_passTo goes _).trans (Nat.max_eq_right time)

theorem exec_rangingSlotRx {s : State} (run : s.dev.runs .rad = true) (slot : Nat) (rx : Option RangeRx) :
    exec (.rangingSlotRx slot rx) s = .next { s with dev := s.dev.rangeRx slot rx } :=
  onRun_next (f := fun d => d.rangeRx slot rx) run

theorem Dev.listensAt_eq_true {d : Dev} {p : Nat} (en : d.on R.YRD_CTRL_EN = true) (mine : ¬ ((d.planOf p).1 = 3 ∧ (d.planOf p).2.2 = d.id))
    (part : (d.planOf p).2.1 = d.cellNo ∨ (d.planOf p).1 = 3 ∨ d.on R.YRD_CTRL_ANCHOR_EN = true) : d.listensAt p = true := by
  have hmine : ((d.planOf p).1 == 3 && (d.planOf p).2.2 == d.id) = false := by simpa using mine
  have hpart : ((d.planOf p).2.1 == d.cellNo || (d.planOf p).1 == 3 || d.on R.YRD_CTRL_ANCHOR_EN) = true := by simpa [or_assoc] using part
  rw [Dev.listensAt, en, hmine, hpart]
  rfl

theorem Dev.listensAt_of_disabled {d : Dev} (en : d.on R.YRD_CTRL_EN = false) (p : Nat) : d.listensAt p = false := by
  simp [Dev.listensAt, en]

/-- A slot that does not count as received adds no measurement. -/
theorem Dev.slotTaken_of_not_counted {d : Dev} {slot : Nat} {x : RangeRx} (h : d.slotCounts x = false) : d.slotTaken slot (some x) = d.slotOver slot := by
  have hcount : (d.slotOver slot).slotCounts x = false := by
    unfold Dev.slotOver Dev.exchangeOf
    split <;> exact h
  simp [Dev.slotTaken, Dev.slotHeard, hcount]

/-- One that does adds its own. -/
theorem Dev.slotTaken_of_counted {d : Dev} {slot : Nat} {x : RangeRx} (h : d.slotCounts x = true) : ∃ m : YMeas,
    (d.slotTaken slot (some x)).yrd.rx.getLast? = some m ∧ m.f = (slot - 347) % 3 ∧ m.toa = x.toa ∧ m.phase = x.phase ∧ m.snr = x.snr ∧ m.got = d.yardOk := by
  have hcount : (d.slotOver slot).slotCounts x = true := by
    unfold Dev.slotOver Dev.exchangeOf
    split <;> exact h
  have htaken : d.slotTaken slot (some x) = (d.slotOver slot).measured (d.planOf (d.slotPos slot)).1 (d.slotPos slot) ((slot - 347) % 3)
      ((d.planOf (d.slotPos slot)).2.1 == d.cellNo && (d.slotOver slot).reins) x := by
    simp [Dev.slotTaken, Dev.slotHeard, hcount]
  rw [htaken, ← (DevFrame.slotOver d slot).yardOk (by decide)]
  exact Dev.measured_last _ _ _ _ _ x

/-! ### The end of an exchange (R203, R204) -/

/-- The samples that a report gives its exchange (R206): the report of the device itself one for every anchor. -/
def Dev.calTaken (d : Dev) (g : YGather) (a : Nat) : Dev :=
  if !g.cal then d
  else if d.anchSelf a then g.reports.foldl (fun (d : Dev) (p : Nat × List Byte) => d.calTry g p.1) d
  else d.calTry g a

/-- A step that leaves the clock and the measurements of the exchange alone. -/
structure RxKept (a b : Dev) : Prop where
  clk : b.clk = a.clk
  rx : b.yrd.rx = a.yrd.rx

namespace RxKept

theorem refl (d : Dev) : RxKept d d := ⟨rfl, rfl⟩

theorem trans {a b c : Dev} (h : RxKept a b) (k : RxKept b c) : RxKept a c := ⟨k.clk.trans h.clk, k.rx.trans h.rx⟩

theorem ite {a b c : Dev} {p : Prop} [Decidable p] (h : RxKept a b) (k : RxKept a c) : RxKept a (if p then b else c) := by
  split
  · exact h
  · exact k

theorem foldl {α : Type} {f : Dev → α → Dev} (h : ∀ d x, RxKept d (f d x)) (l : List α) (d : Dev) : RxKept d (l.foldl f d) :=
  List.foldlRecOn (motive := RxKept d) l f (refl d) fun e he x _ => he.trans (h e x)

theorem of_reports {ws : List Nat} {fs : List Fld} {a b : Dev} (h : DevFrame reports ws fs a b) : RxKept a b :=
  ⟨h.keeps_clk (by decide), by rw [h.keeps_yrd (by decide)]⟩

theorem calReset (d : Dev) (a : Nat) : RxKept d (d.calReset a) := ⟨rfl, rfl⟩

theorem gatherMod (d : Dev) (g : YGather) (f : YGather → YGather) : RxKept d (d.gatherMod g f) := ⟨rfl, rfl⟩

theorem calTry (d : Dev) (g : YGather) (a : Nat) : RxKept d (d.calTry g a) := by
  unfold Dev.calTry
  split
  · split
    · exact .ite (.refl d) ⟨rfl, rfl⟩
    · exact .refl d
  · exact .refl d

theorem yrdView (d : Dev) : RxKept d d.yrdView := .of_reports (CalShown.yrdView d).toDevFrame

theorem calTaken (d : Dev) (g : YGather) (a : Nat) : RxKept d (d.calTaken g a) := by
  unfold Dev.calTaken
  exact .ite (.refl d) (.ite (.foldl (fun d (p : Nat × List Byte) => .calTry d g p.1) _ d) (.calTry d g a))

theorem gatherReport (d : Dev) (g : YGather) (a : Nat) (b : List Byte) : RxKept d (d.gatherReport g a b) := by
  unfold Dev.gatherReport
  extract_lets x y
  have hx : RxKept d x := .ite (.calReset d a) (.refl d)
  have hy : RxKept d y := hx.trans (.gatherMod x _ _)
  refine .ite (hx.trans (.yrdView x)) ?_
  split
  · next g' _ => exact (hy.trans (.calTaken y g' a)).trans (.yrdView (y.calTaken g' a))
  · exact hy

end RxKept

/-- The third slot closes the exchange: its measurements are used up, and the clock stands. -/
theorem Dev.exchangeEnd_closes (d : Dev) (e t p kind cell id : Nat) (own : Bool) :
    (d.exchangeEnd e t p kind cell id own).clk = d.clk ∧ (d.exchangeEnd e t p kind cell id own).yrd.rx = [] := by
  unfold Dev.exchangeEnd
  extract_lets l oks discont d1 yrd d2 b formed d3 g0 d4
  have h3 : RxKept d2 d3 := .ite (.of_reports (.item _ _ _ _ _)) (.refl d2)
  have h4 : RxKept d2 d4 := h3.trans (.gatherMod d3 _ _)
  have hend : RxKept d2 (if (decide (kind = 3) || own && d3.reins && kind != 0) = true then
      match d4.anchIdx d4.id with
      | some a => if formed = true then d4.gatherReport g0 a b else d4
      | none => d4
      else d3) := by
    refine .ite ?_ h3
    split
    · exact h4.trans (.ite (.gatherReport d4 _ _ _) (.refl d4))
    · exact h4
  exact ⟨hend.clk, hend.rx⟩

/-! ### The device's own CAL frames (R205, R257) -/

/-- A CAL frame of an exchange, position, key and channel. -/
structure IsCalFrame (e p k f : Nat) (a : AirFrame) : Prop where
  slot : a.slot = 347 + 3 * e + f
  ch : a.ch = f
  typ : a.typ = 5
  key : a.key = k
  payload : a.payload.take 2 = u8 p ++ u8 f

/-- The CAL frame of a channel goes out in its slot. -/
def Dev.calSent (d : Dev) (e p k f : Nat) : Dev :=
  (d.passTo (d.slotStart (347 + 3 * e + f))).air (347 + 3 * e + f) f (d.get R.RAD_CELL_CFG_SITE_CODE) 5 0xF0 0xFF k true (u8 p ++ u8 f ++ zeros 29)

theorem Dev.calSent_out (d : Dev) (e p k f : Nat) : ∃ a, (d.calSent e p k f).out = d.out ++ [.air a] ∧ IsCalFrame e p k f a :=
  ⟨_, rfl, rfl, rfl, rfl, rfl, rfl⟩

theorem DevFrame.calSent (d : Dev) (e p k f : Nat) : DevFrame [.clk, .out] [] [] d (d.calSent e p k f) :=
  ((DevFrame.passTo d (d.slotStart (347 + 3 * e + f))).mono (by decide)).trans ⟨rfl, .of_regs rfl⟩

section
variable {d : Dev} {e f : Nat} (goes : d.timeGoes = true) (p k : Nat)
include goes

/-- Sending it, time comes to its slot and stays in the superframe. -/
theorem Dev.calSent_clock (he : e ≤ 10) (hf : f ≤ 2) (time : d.now ≤ d.slotStart (347 + 3 * e + f)) :
    (d.calSent e p k f).clk.yard = d.slotStart (347 + 3 * e + f) ∧ ∀ n, (d.calSent e p k f).slotStart n = d.slotStart n := by
  have hsfn : (d.passTo (d.slotStart (347 + 3 * e + f))).sfn = d.sfn := Dev.sfn_passTo goes (d.slotStart_lt (by omega))
  refine ⟨(Dev.yard_passTo goes _).trans (Nat.max_eq_right time), fun n => ?_⟩
  exact congrArg (fun x => x * superframe + n * slotLen) hsfn

/-- The three frames. -/
theorem Dev.calSent_three (he : e ≤ 10) (time : d.now ≤ d.slotStart (347 + 3 * e)) :
    let x := ((d.calSent e p k 0).calSent e p k 1).calSent e p k 2
    x.clk.yard = d.slotStart (349 + 3 * e) ∧ (∃ a b c, x.out = d.out ++ [.air a, .air b, .air c] ∧
      IsCalFrame e p k 0 a ∧ IsCalFrame e p k 1 b ∧ IsCalFrame e p k 2 c) ∧ DevFrame [.clk, .out] [] [] d x := by
  have hmono : ∀ m n, m ≤ n → d.slotStart m ≤ d.slotStart n := fun m n h => Nat.add_le_add_left (Nat.mul_le_mul_right _ h) _
  obtain ⟨hyard0, hstart0⟩ := Dev.calSent_clock goes p k (f := 0) he (by omega) time
  obtain ⟨a, ha, hisa⟩ := d.calSent_out e p k 0
  have hframe0 := DevFrame.calSent d e p k 0
  have goes0 : (d.calSent e p k 0).timeGoes = true := goes
  generalize d.calSent e p k 0 = x at *
  obtain ⟨hyard1, hstart1⟩ := Dev.calSent_clock goes0 p k (f := 1) he (by omega) (by rw [Dev.now, hyard0, hstart0]; exact hmono _ _ (by omega))
  obtain ⟨b, hb, hisb⟩ := x.calSent_out e p k 1
  have hframe1 := DevFrame.calSent x e p k 1
  have goes1 : (x.calSent e p k 1).timeGoes = true := goes0
  generalize x.calSent e p k 1 = y at *
  obtain ⟨hyard2, -⟩ := Dev.calSent_clock goes1 p k (f := 2) he (by omega) (by rw [Dev.now, hyard1, hstart1]; simp only [hstart0]; exact hmono _ _ (by omega))
  obtain ⟨c, hc, hisc⟩ := y.calSent_out e p k 2
  refine ⟨?_, ⟨a, b, c, by rw [hc, hb, ha]; simp, hisa, hisb, hisc⟩, (hframe0.trans hframe1).trans (.calSent y e p k 2)⟩
  rw [hyard2, hstart1, hstart0]
  congr 1
  omega

end

theorem Dev.calTx_sends {d : Dev} {e k : Nat} (he : e ≤ 10) (time : d.now ≤ d.slotStart (347 + 3 * e))
    (kind : (d.planOf (11 * (d.sfn % 10) + e)).1 = 3) (mine : (d.planOf (11 * (d.sfn % 10) + e)).2.2 = d.id) (tx : d.radTx = true) (level : d.level ≠ 0)
    (en : d.on R.YRD_CTRL_EN = true) (key : d.siteSlot = some k) :
    d.calTx e = ((d.calSent e (11 * (d.sfn % 10) + e) k 0).calSent e (11 * (d.sfn % 10) + e) k 1).calSent e (11 * (d.sfn % 10) + e) k 2 := by
  have hgo : ¬ (decide (10 < e) || decide (d.slotStart (347 + 3 * e) < d.now) || (d.planOf (11 * (d.sfn % 10) + e)).1 != 3 ||
      (d.planOf (11 * (d.sfn % 10) + e)).2.2 != d.id || !d.radTx || decide (d.level = 0) || !(d.on R.YRD_CTRL_EN || d.yrd.calTo == d.sfn + 1)) = true := by
    simp [he, time, kind, mine, tx, level, en]
  refine (if_neg hgo).trans ?_
  simp only [key]
  rfl

theorem exec_calFrameTx {s : State} (run : s.dev.runs .rad = true) (e : Nat) : exec (.calFrameTx e) s = .next { s with dev := s.dev.calTx e } :=
  onRun_next (f := fun d => d.calTx e) run

/-- Settles O27: a slot where the device listens, with and without a signal that counts; one where it does not; the third slot; the three CAL frames. -/
theorem rangingSlots : Obligations.RangingSlots := by
  unfold Obligations.RangingSlots
  refine ⟨fun slot x s run early late snr lo hi time en hf mine part => ?_, fun slot x s run bad lo hi time hf => ?_, fun slot rx s run lo hi time en => ?_,
    fun slot rx s run lo hi time en hf kind own => ?_, fun e k s he time kind mine run tx level en key => ?_⟩
  · have hcount : s.dev.slotCounts x = true := by simp [Dev.slotCounts, early, late, snr]
    refine ⟨_, exec_rangingSlotRx run slot (some x), ?_⟩
    dsimp only
    rw [Dev.rangeRx_open lo hi time _ (Dev.listensAt_eq_true en mine part) hf, Dev.clk_slotTaken]
    exact ⟨Dev.yard_slotEnd (Dev.timeGoes_of_runs_rad run) time, Dev.slotTaken_of_counted hcount⟩
  · have hcount : s.dev.slotCounts x = false := by
      rw [← Bool.not_eq_true]
      simp only [Dev.slotCounts, Bool.and_eq_true, decide_eq_true_eq]
      omega
    have hyard := Dev.yard_slotEnd (Dev.timeGoes_of_runs_rad run) time
    refine ⟨_, exec_rangingSlotRx run slot (some x), ?_⟩
    dsimp only
    cases listens : s.dev.listensAt (s.dev.slotPos slot)
    · rw [Dev.rangeRx_deaf lo hi time _ listens]
      exact ⟨hyard, fun m hm => hm, ((DevFrame.passTo s.dev _).mono (by decide)).frame⟩
    · rw [Dev.rangeRx_open lo hi time _ listens hf, Dev.slotTaken_of_not_counted hcount, Dev.clk_slotOver]
      exact ⟨hyard, fun m hm => Dev.mem_rx_exchangeOf (d := s.dev.passTo _) hm, (DevFrame.slotOver s.dev slot).frame⟩
  · refine ⟨_, exec_rangingSlotRx run slot rx, ?_⟩
    dsimp only
    rw [Dev.rangeRx_deaf lo hi time _ (Dev.listensAt_of_disabled en _)]
    exact ⟨Dev.yard_slotEnd (Dev.timeGoes_of_runs_rad run) time, (DevFrame.passTo s.dev _).frame⟩
  · have mine : ¬ ((s.dev.planOf (s.dev.slotPos slot)).1 = 3 ∧ (s.dev.planOf (s.dev.slotPos slot)).2.2 = s.dev.id) := by
      rw [Dev.slotPos, kind]
      omega
    refine ⟨_, exec_rangingSlotRx run slot rx, ?_⟩
    dsimp only
    rw [Dev.rangeRx_last lo hi time _ (Dev.listensAt_eq_true en mine (.inl own)) hf]
    obtain ⟨hclk, hrx⟩ := (s.dev.slotTaken slot rx).exchangeEnd_closes ((slot - 347) / 3) (s.dev.slotStart (347 + 3 * ((slot - 347) / 3))) (s.dev.slotPos slot)
      (s.dev.planOf (s.dev.slotPos slot)).1 (s.dev.planOf (s.dev.slotPos slot)).2.1 (s.dev.planOf (s.dev.slotPos slot)).2.2
      ((s.dev.planOf (s.dev.slotPos slot)).2.1 == s.dev.cellNo)
    rw [hclk, Dev.clk_slotTaken]
    exact ⟨Dev.yard_slotEnd (Dev.timeGoes_of_runs_rad run) time, hrx⟩
  · obtain ⟨hyard, ⟨a, b, c, hout, ha, hb, hc⟩, hframe⟩ :=
      Dev.calSent_three (Dev.timeGoes_of_runs_rad run) (11 * (s.dev.sfn % 10) + e) k he time
    refine ⟨_, exec_calFrameTx run e, ?_⟩
    dsimp only
    rw [Dev.calTx_sends he time kind mine tx level en key]
    refine ⟨hyard, ⟨a, b, c, hout, ha.slot, ?_, ?_, ha.ch, hb.ch, hc.ch, ha.typ, hb.typ, hc.typ, ha.key, hb.key, hc.key, ha.payload, hb.payload, hc.payload⟩,
      hframe.frame⟩
    · rw [hb.slot]
      omega
    · rw [hc.slot]
      omega

end Sys2Proof.Machine
end

section
/-!
PROOFS. Posted reports of neighbouring anchors (R221, R222): what a report to the host leaves of descriptors and link, gathering, and the completions.
-/

namespace Sys2Proof.Machine

/-! ### Items and records put something out, and leave what awaits its completion -/

/-- Output is added at most; no descriptor is completed and Bus Master Enable stays. -/
structure OutGrows (a b : Dev) : Prop where
  live : b.ring.live = a.ring.live
  master : b.ring.busMaster = a.ring.busMaster
  out : ∃ l, b.out = a.out ++ l

namespace OutGrows

theorem same {a b : Dev} (live : b.ring.live = a.ring.live) (master : b.ring.busMaster = a.ring.busMaster) (out : b.out = a.out) : OutGrows a b :=
  ⟨live, master, [], by rw [out, List.append_nil]⟩

theorem refl (d : Dev) : OutGrows d d := .same rfl rfl rfl

theorem trans {a b c : Dev} (h : OutGrows a b) (k : OutGrows b c) : OutGrows a c := by
  obtain ⟨l, hl⟩ := h.out
  obtain ⟨r, hr⟩ := k.out
  exact ⟨k.live.trans h.live, k.master.trans h.master, l ++ r, by rw [hr, hl, List.append_assoc]⟩

theorem ite {a b c : Dev} {p : Prop} [Decidable p] (h : OutGrows a b) (k : OutGrows a c) : OutGrows a (if p then b else c) := by
  split
  · exact h
  · exact k

theorem foldl {α : Type} {f : Dev → α → Dev} (h : ∀ d x, OutGrows d (f d x)) (l : List α) (d : Dev) : OutGrows d (l.foldl f d) :=
  List.foldlRecOn (motive := OutGrows d) l f (refl d) fun e he x _ => he.trans (h e x)

theorem set (d : Dev) (f : Fld) (v i j : Nat) : OutGrows d (d.set f v i j) := .same rfl rfl rfl

theorem emit (d : Dev) (o : Out) : OutGrows d (d.emit o) := ⟨rfl, rfl, _, rfl⟩

theorem devIrq (d : Dev) (b : Nat) : OutGrows d (d.devIrq b) := by
  unfold Dev.devIrq
  extract_lets was x
  have hx : OutGrows d x := .ite (.set d _ _ _ _) (.set d _ _ _ _)
  exact .ite (hx.trans (.emit x _)) hx

theorem raise (d : Dev) (f : Fld) (i v : Nat) : OutGrows d (d.raise f i v) := (OutGrows.set d f _ i 0).trans (.devIrq _ _)

theorem ringIrq (d : Dev) (r : Nat) : OutGrows d (d.ringIrq r) := by
  unfold Dev.ringIrq
  extract_lets q c t due cond
  exact .ite ⟨rfl, rfl, _, rfl⟩ (.refl d)

theorem entriesWritten (d : Dev) (r n : Nat) (now : Bool) : OutGrows d (d.entriesWritten r n now) := by
  unfold Dev.entriesWritten
  extract_lets q q' x ring y
  have hy : OutGrows d y := .same rfl rfl rfl
  exact (hy.trans (.set y _ _ _ _)).trans (.ringIrq _ r)

theorem putEntries (d : Dev) (r : Nat) (b : List Byte) (n : Nat) (i : ItemRef) : OutGrows d (d.putEntries r b n i) := by
  unfold Dev.putEntries
  extract_lets p ring x
  have hx : OutGrows d x := ⟨rfl, rfl, _, rfl⟩
  exact hx.trans (.entriesWritten x _ _ _)

theorem putItem (d : Dev) (r src seq fl t : Nat) (b : List Byte) (k : Nat) : OutGrows d (d.putItem r src seq fl t b k) := by
  have hpad : ∀ n, OutGrows d (d.putPad r n) := fun n => .ite (.refl d) (.putEntries d _ _ _ _)
  exact (hpad _).trans (.putEntries _ _ _ _ _)

theorem putGap (d : Dev) (src : Nat) (g : Gap) : OutGrows d (d.putGap src g) :=
  (OutGrows.putItem d g.ring src g.seq 2 g.tFirst (gapBody g) g.count).trans (.same rfl rfl rfl)

theorem dropItem (d : Dev) (r src seq t : Nat) : OutGrows d (d.dropItem r src seq t) := .same rfl rfl rfl

/-- An item, written or dropped. -/
theorem item (d : Dev) (r src t : Nat) (b : List Byte) : OutGrows d (d.item r src t b) := by
  have hseq : OutGrows d (d.nextSeq src).2 := .same rfl rfl rfl
  have hdrop : ∀ n seq, OutGrows d ((if (d.nextSeq src).2.tooLong r n then (d.nextSeq src).2.raise R.RING_ERR_TOO_LONG r else
      (d.nextSeq src).2).dropItem r src seq t) := fun n seq => (OutGrows.ite (hseq.trans (.raise _ _ _ _)) hseq).trans (.dropItem _ _ _ _ _)
  unfold Dev.item
  dsimp only
  split
  · exact .ite ((hseq.trans (.putGap _ _ _)).trans (.putItem _ _ _ _ _ _ _ _)) (hdrop _ _)
  · exact .ite (hseq.trans (.putItem _ _ _ _ _ _ _ _)) (hdrop _ _)

theorem evtStatus (d : Dev) : OutGrows d d.evtStatus := by
  unfold Dev.evtStatus
  extract_lets x
  split <;> exact .same rfl rfl rfl

theorem recLost (d : Dev) : OutGrows d d.recLost :=
  ((OutGrows.set d R.EVT_COUNTS_LOST _ 0 0).trans (.raise _ R.EVT_STATUS_OVERRUN 0 1)).trans (.same rfl rfl rfl)

theorem pushRec (d : Dev) (t c : Nat) (b : List Byte) : OutGrows d (d.pushRec t c b) := by
  unfold Dev.pushRec
  extract_lets rec full x buf evt y z
  have hx : OutGrows d x := .ite (.recLost d) (.refl d)
  have hy : OutGrows d y := hx.trans (.same rfl rfl rfl)
  have hz : OutGrows d z := hy.trans (.evtStatus y)
  exact .ite (hz.trans (.item z _ _ _ _)) hz

theorem record (d : Dev) (c : Nat) (b : List Byte) : OutGrows d (d.record c b) := by
  unfold Dev.record
  extract_lets k cl due x evt y first evt' z
  have hy : OutGrows d y := .same rfl rfl rfl
  have hz : OutGrows d (z.inc R.EVT_CLASS_STAT_PENDING k) := .same rfl rfl rfl
  exact .ite (.pushRec d _ _ _) (.ite (hy.trans (.pushRec y _ _ _)) hz)

theorem calView (d : Dev) (a : Nat) : OutGrows d (d.calView a) := by
  unfold Dev.calView
  extract_lets was ok self at0 age res x cause
  have hx : OutGrows d x := .same rfl rfl rfl
  exact .ite (hx.trans (.record x _ _)) hx

theorem anchorsShown (d : Dev) : OutGrows d d.anchorsShown := .foldl .calView _ d

theorem calCounted (d : Dev) : OutGrows d d.calCounted := .same rfl rfl rfl

theorem yrdView (d : Dev) : OutGrows d d.yrdView := by
  have hshown : OutGrows d d.anchorsShown.calCounted := (OutGrows.anchorsShown d).trans (.calCounted _)
  rw [Dev.yrdView_eq]
  exact .ite (hshown.trans (.record _ _ _)) hshown

end OutGrows

/-- Showing calibration leaves the link as it is. -/
theorem SameLink.yrdView (d : Dev) : SameLink d d.yrdView where
  sys := (CalShown.yrdView d).keeps_sys (by decide)
  boot := (CalShown.yrdView d).keeps_boot (by decide)
  master := (OutGrows.yrdView d).master
  regs f hf i := (CalShown.yrdView d).readYrd (by revert f; decide) i 0

/-- A descriptor awaits its completion as before. -/
theorem Awaits.yrdView {q : Desc} {d : Dev} (h : Awaits q d) : Awaits q d.yrdView := h.of_same (.yrdView d) (OutGrows.yrdView d).live

/-! ### Gathering (R210) -/

/-- The gathering changed is one there was, or a new one. -/
theorem Dev.gatherOf_gatherMod (d : Dev) (g0 : YGather) {f : YGather → YGather} (hf : ∀ g, (f g).tSlot = g.tSlot) :
    ∃ g, (d.gatherMod g0 f).gatherOf g0.tSlot = some (f g) ∧ (g = g0 ∨ g ∈ d.yrd.gathers ∧ g.tSlot = g0.tSlot) := by
  unfold Dev.gatherMod Dev.gatherOf
  extract_lets kept l
  have hmem : ∃ g ∈ l, (g.tSlot == g0.tSlot) = true := by
    by_cases h : (kept.any fun g => g.tSlot == g0.tSlot) = true
    · rw [show l = kept from if_pos h]
      exact List.any_eq_true.1 h
    · rw [show l = kept ++ [g0] from if_neg h]
      exact ⟨g0, List.mem_append_right _ (List.mem_singleton.2 rfl), beq_self_eq_true _⟩
  obtain ⟨g, hg⟩ := Option.isSome_iff_exists.1 (List.find?_isSome.2 hmem)
  have hslot : g.tSlot = g0.tSlot := beq_iff_eq.1 (List.find?_some (p := fun g : YGather => g.tSlot == g0.tSlot) hg)
  have hpred : ((fun g : YGather => g.tSlot == g0.tSlot) ∘ fun g => if g.tSlot == g0.tSlot then f g else g) = fun g => g.tSlot == g0.tSlot := by
    funext g
    by_cases h : (g.tSlot == g0.tSlot) = true
    · simp only [Function.comp, h, if_true, hf]
    · simp only [Function.comp, h, Bool.false_eq_true, if_false]
  have hin : g ∈ l := List.mem_of_find?_eq_some hg
  refine ⟨g, ?_, ?_⟩
  · dsimp only
    rw [List.find?_map, hpred, hg, Option.map_some, hslot, beq_self_eq_true, if_pos rfl]
  · have hkept : ∀ x ∈ kept, x ∈ d.yrd.gathers := fun x hx => (List.mem_filter.1 hx).1
    by_cases h : (kept.any fun g => g.tSlot == g0.tSlot) = true
    · rw [show l = kept from if_pos h] at hin
      exact .inr ⟨hkept g hin, hslot⟩
    · rw [show l = kept ++ [g0] from if_neg h] at hin
      exact (List.mem_append.1 hin).elim (fun h => .inr ⟨hkept g h, hslot⟩) fun h => .inl (List.mem_singleton.1 h)

/-- Where an exchange was not gathered, its gathering begins. -/
theorem Dev.gatherOf_gatherMod_new {d : Dev} {g0 : YGather} (none : d.gatherOf g0.tSlot = none) {f : YGather → YGather} (hf : ∀ g, (f g).tSlot = g.tSlot) :
    (d.gatherMod g0 f).gatherOf g0.tSlot = some (f g0) := by
  obtain ⟨g, hg, rfl | ⟨hmem, hslot⟩⟩ := d.gatherOf_gatherMod g0 hf
  · exact hg
  · exact absurd (beq_iff_eq.2 hslot) (List.find?_eq_none.1 none g hmem)

/-- The anchor's samples are discarded while it slews (R208). -/
def Dev.slewDropped (d : Dev) (a : Nat) (b : List Byte) : Dev := if repSlew b && !d.anchSelf a then d.calReset a else d

theorem DevFrame.slewDropped (d : Dev) (a : Nat) (b : List Byte) : DevFrame [.yrd] [] [] d (d.slewDropped a b) := .ite (.yrd d _) (.refl _ _ _ d)

theorem Dev.gatherOf_slewDropped (d : Dev) (a : Nat) (b : List Byte) (t : Nat) : (d.slewDropped a b).gatherOf t = d.gatherOf t := by
  unfold Dev.slewDropped
  split <;> rfl

/-- The report of an anchor begins the gathering of an exchange of the cell. -/
def Dev.reportBegins (d : Dev) (g0 : YGather) (a : Nat) (b : List Byte) : Dev :=
  (d.slewDropped a b).gatherMod g0 fun g => { g with reports := tabPut g.reports a b }

theorem DevFrame.reportBegins (d : Dev) (g0 : YGather) (a : Nat) (b : List Byte) : DevFrame [.yrd] [] [] d (d.reportBegins g0 a b) :=
  (DevFrame.slewDropped d a b).trans (.yrd _ _)

section
variable {d : Dev} {g0 : YGather} (none : d.gatherOf g0.tSlot = none) (a : Nat) (b : List Byte)
include none

theorem Dev.gatherOf_reportBegins :
    (d.reportBegins g0 a b).gatherOf g0.tSlot = some { g0 with reports := tabPut g0.reports a b } :=
  Dev.gatherOf_gatherMod_new ((d.gatherOf_slewDropped a b _).trans none) fun _ => rfl

theorem Dev.gatherReport_begins (cal : g0.cal = false) : d.gatherReport g0 a b = (d.reportBegins g0 a b).yrdView := by
  have hnone : (d.slewDropped a b).gatherOf g0.tSlot = .none := (d.gatherOf_slewDropped a b _).trans none
  have hbegins := Dev.gatherOf_reportBegins none a b
  unfold Dev.gatherReport
  simp only [← Dev.slewDropped.eq_1, hnone, Bool.false_eq_true, if_false, ← Dev.reportBegins.eq_1, hbegins, cal, Bool.not_false, if_true]

end

/-! ### The descriptor (R221, R222) -/

theorem exec_yrdReports {q : Desc} {s : State} (h : Ready 6 1 q s.dev) (m : Option (List Byte)) :
    exec (.yrdReports m) s = .next { s with dev := (s.dev.taken q).yrdReports q m } := by
  simp only [exec, execYrdReports, onDev, Dev.take_ready h]

/-- The block area of the descriptor is as R221 lays it out. -/
def reportsOk (a : List Byte) : Bool := !(!resvOk a [(0, 2), (8, 8)] || decide (fld a 1 1 = 0) || decide (64 < fld a 1 1) || fld a 8 8 % 16 != 0)

theorem reportsOk_eq_false {a : List Byte} (h : fld a 1 1 = 0 ∨ 64 < fld a 1 1 ∨ fld a 8 8 % 16 ≠ 0) : reportsOk a = false := by
  simp only [reportsOk, Bool.not_eq_false', Bool.or_eq_true, decide_eq_true_eq, bne_iff_ne, Bool.not_eq_true']
  tauto

theorem reportsOk_eq_true {a : List Byte} (resv : resvOk a [(0, 2), (8, 8)] = true) (low : 1 ≤ fld a 1 1) (high : fld a 1 1 ≤ 64) (al : fld a 8 8 % 16 = 0) :
    reportsOk a = true := by
  simp [reportsOk, resv, al, Nat.one_le_iff_ne_zero.1 low, high]

/-- The reports read, one by one: whether all were taken, and the state after. -/
def Dev.reportsIn (d : Dev) (n : Nat) (b : List Byte) : Bool × Dev :=
  (List.range n).foldl (fun (x : Bool × Dev) (i : Nat) => let y := x.2.reportIn (fit 48 (b.drop (48 * i))); (x.1 && y.1, y.2)) (true, d)

theorem Dev.yrdReports_eq (d : Dev) (q : Desc) (m : Option (List Byte)) : d.yrdReports q m =
    if !reportsOk q.area then d.complete q .badDescriptor
    else if !q.gate then d.complete q .refusedState
    else match m with
      | none => d.complete q .aborted
      | some b => (d.reportsIn (fld q.area 1 1) b).2.complete q (if (d.reportsIn (fld q.area 1 1) b).1 then .done else .donePartial) := by
  rw [reportsOk, Bool.not_not]
  cases m <;> rfl

theorem fit_self {b : List Byte} {n : Nat} (h : b.length = n) : fit n b = b := by
  rw [fit, ← h, List.take_left]

theorem Dev.reportsIn_one (d : Dev) {b : List Byte} (h : b.length = 48) : d.reportsIn 1 b = d.reportIn b := by
  have hrange : List.range 1 = [0] := rfl
  have hfit : fit 48 (b.drop (48 * 0)) = b := fit_self (by simpa using h)
  simp only [Dev.reportsIn, hrange, List.foldl_cons, List.foldl_nil, hfit, Bool.true_and]

/-- The report is one of an exchange of the cell (R203, R221). -/
structure CellReport (d : Dev) (b : List Byte) (a : Nat) : Prop where
  reins : d.reins = true
  cell : fld b 2 2 = d.cellNo
  pos : fld b 5 1 < 110
  flags : fld b 6 1 < 64
  resv : zeroAt b 7 1 = true
  tail : zeroAt b 41 7 = true
  dev : fld b 0 2 < 1024
  anch : d.anchIdx (fld b 0 2) = some a
  slot : fld b 8 8 % superframe = (347 + 3 * (fld b 5 1 % 11)) * slotLen
  second : fld b 8 8 / superframe % 10 = fld b 5 1 / 11

/-- The gathering it joins. -/
def Dev.reportGather (d : Dev) (b : List Byte) : YGather :=
  { tSlot := fld b 8 8, pos := fld b 5 1, cal := false, dev := (d.planOf (fld b 5 1)).2.2 }

theorem bitOf_seven_of_lt {v : Nat} (h : v < 110) : bitOf v 7 = false := by
  rw [bitOf, Nat.div_eq_of_lt (by omega)]
  rfl

/-- In time, it joins its exchange. -/
theorem Dev.reportIn_joins {d : Dev} {b : List Byte} {a : Nat} (h : CellReport d b a) (none : d.gatherOf (fld b 8 8) = none)
    (time : d.now ≤ d.gatherTo (fld b 8 8)) : d.reportIn b = (true, d.gatherReport (d.reportGather b) a b) := by
  have hcell : fld b 2 2 < 512 := h.cell ▸ d.get_lt R.RAD_CELL_CFG_CELL 0 0
  have hpos : fld b 5 1 % 128 = fld b 5 1 := Nat.mod_eq_of_lt (Nat.lt_trans h.pos (by decide))
  have hown : fld b 2 2 % 512 = d.cellNo := (Nat.mod_eq_of_lt hcell).trans h.cell
  unfold Dev.reportIn Dev.reportGather
  simp [hpos, hown, hcell, bitOf_seven_of_lt h.pos, h.reins, h.dev, h.flags, h.resv, h.tail, h.anch, h.pos, h.slot, h.second, none, time]

/-- A descriptor with one such report completes DONE, once the report has joined. -/
theorem Dev.yrdReports_joins {d : Dev} {q : Desc} {b : List Byte} {a : Nat} (ok : reportsOk q.area = true) (one : fld q.area 1 1 = 1) (gate : q.gate = true)
    (len : b.length = 48) (h : CellReport d b a) (none : d.gatherOf (fld b 8 8) = none) (time : d.now ≤ d.gatherTo (fld b 8 8)) :
    d.yrdReports q (some b) = ((d.reportBegins (d.reportGather b) a b).yrdView).complete q .done := by
  have hjoins := Dev.reportIn_joins h none time
  rw [Dev.gatherReport_begins (g0 := d.reportGather b) none a b rfl] at hjoins
  rw [Dev.yrdReports_eq, ok, gate, one]
  simp only [Bool.not_true, Bool.false_eq_true, if_false, Dev.reportsIn_one _ len, hjoins, if_true]

theorem Awaits.reportBegins {q : Desc} {d : Dev} (h : Awaits q d) (g0 : YGather) (a : Nat) (b : List Byte) : Awaits q (d.reportBegins g0 a b) := by
  have hframe := DevFrame.reportBegins d g0 a b
  have hring : (d.reportBegins g0 a b).ring = d.ring := hframe.keeps_ring (by decide)
  refine h.of_same ⟨hframe.keeps_sys (by decide), hframe.keeps_boot (by decide), by rw [hring], fun f hf i => ?_⟩ (by rw [hring])
  exact hframe.readYrd (by revert f; decide) i 0

/-- What is shown and completed leaves the gatherings. -/
theorem Dev.gatherOf_complete_yrdView (d : Dev) (q : Desc) (st : Status) (t : Nat) : (d.yrdView.complete q st).gatherOf t = d.gatherOf t := by
  rw [Dev.gatherOf, Dev.gatherOf, (ComplStep.complete d.yrdView q st).frame.keeps_yrd (by decide), (CalShown.yrdView d).keeps_yrd (by decide)]

/-- Settles O28: a bad descriptor, ranging disabled, a failed read, and a report that joins its exchange. -/
theorem postedReports : Obligations.PostedReports := by
  unfold Obligations.PostedReports
  refine ⟨fun q m s h bad => ?_, fun q m s h resv low high al gate => ?_, fun q s h resv low high al gate => ?_,
    fun q b a s h resv one al gate len reins cell pos flags z7 z41 dev anch slot sec none time => ?_⟩
  · have heq : (s.dev.taken q).yrdReports q m = (s.dev.taken q).complete q .badDescriptor := by
      rw [Dev.yrdReports_eq, reportsOk_eq_false bad]
      rfl
    exact ⟨_, exec_yrdReports h m, heq ▸ Completes.of_taken h.awaits _⟩
  · have heq : (s.dev.taken q).yrdReports q m = (s.dev.taken q).complete q .refusedState := by
      rw [Dev.yrdReports_eq, reportsOk_eq_true resv low high al, gate]
      rfl
    exact ⟨_, exec_yrdReports h m, heq ▸ Completes.of_taken h.awaits _⟩
  · have heq : (s.dev.taken q).yrdReports q none = (s.dev.taken q).complete q .aborted := by
      rw [Dev.yrdReports_eq, reportsOk_eq_true resv low high al, gate]
      rfl
    exact ⟨_, exec_yrdReports h none, heq ▸ Completes.of_taken h.awaits _⟩
  · have hcell : CellReport (s.dev.taken q) b a := ⟨reins, cell, pos, flags, z7, z41, dev, anch, slot, sec⟩
    have hawaits := (Dev.awaits_taken h.awaits).reportBegins ((s.dev.taken q).reportGather b) a b
    have hout : ((s.dev.taken q).reportBegins ((s.dev.taken q).reportGather b) a b).out = s.dev.out :=
      (DevFrame.reportBegins _ _ a b).keeps_out (by decide)
    have hgather := Dev.gatherOf_reportBegins (d := s.dev.taken q) (g0 := (s.dev.taken q).reportGather b) none a b
    have heq := Dev.yrdReports_joins (reportsOk_eq_true resv (by omega) (by omega) al) one gate len hcell none time
    refine ⟨_, exec_yrdReports h (some b), ?_⟩
    rw [heq]
    generalize (s.dev.taken q).reportBegins ((s.dev.taken q).reportGather b) a b = x at hawaits hout hgather
    obtain ⟨l, hl⟩ := (OutGrows.yrdView x).out
    rw [hout] at hl
    rw [← x.gatherOf_complete_yrdView q .done] at hgather
    refine ⟨.of_complete hawaits.yrdView _ hl, ?_⟩
    dsimp only
    generalize x.yrdView.complete q .done = y at hgather
    exact ⟨_, hgather, tabFind_put_self _ _ _, rfl⟩

end Sys2Proof.Machine
end

section
/-!
PROOFS. How ranging ends (R204, R207, R210, R218, R223): gathering, an anchor's calibration, AUTO positions, and EN cleared.
-/

namespace Sys2Proof.Machine

/-! ### Gathering ends (R210) -/

/-- A step that leaves the clock and the gatherings alone. -/
structure GathersKept (a b : Dev) : Prop where
  clk : b.clk = a.clk
  gathers : b.yrd.gathers = a.yrd.gathers

namespace GathersKept

theorem refl (d : Dev) : GathersKept d d := ⟨rfl, rfl⟩

theorem trans {a b c : Dev} (h : GathersKept a b) (k : GathersKept b c) : GathersKept a c := ⟨k.clk.trans h.clk, k.gathers.trans h.gathers⟩

theorem ite {a b c : Dev} {p : Prop} [Decidable p] (h : GathersKept a b) (k : GathersKept a c) : GathersKept a (if p then b else c) := by
  split
  · exact h
  · exact k

theorem of_reports {ws : List Nat} {fs : List Fld} {a b : Dev} (h : DevFrame reports ws fs a b) : GathersKept a b :=
  ⟨h.keeps_clk (by decide), by rw [h.keeps_yrd (by decide)]⟩

theorem fixMake (d : Dev) (g : YGather) (r : Nat) (l : List (Nat × Int × Bool)) : GathersKept d (d.fixMake g r l) := by
  unfold Dev.fixMake
  extract_lets m s1 drop l' s flags t mm u pos sig hint x y fixes
  have hx : GathersKept d x := .ite ⟨rfl, rfl⟩ (.refl d)
  have hy : GathersKept d y := .ite (hx.trans (.of_reports (.item x _ _ _ _))) hx
  exact hy.trans ⟨rfl, rfl⟩

end GathersKept

theorem DevFrame.discardExch (d : Dev) (p cause : Nat) : DevFrame reports reportWs [R.YRD_STATUS_DISCARDED] d (d.discardExch p cause) :=
  ((DevFrame.setYrd d (g := R.YRD_STATUS_DISCARDED) (by decide) _ 0 0).mono (by decide)).next (.record _ _ _) (by decide)

/-- An exchange discarded is counted (R204). -/
theorem Dev.discardExch_counts (d : Dev) (p cause : Nat) : (d.discardExch p cause).get R.YRD_STATUS_DISCARDED =
    min (d.get R.YRD_STATUS_DISCARDED + 1) (2 ^ R.YRD_STATUS_DISCARDED.width - 1) :=
  ((DevFrame.record _ _ _).readYrd (by decide) 0 0).trans (d.get_inc_self (by decide))

/-- Whatever comes of a gathered exchange, the clock and the gatherings stay. -/
theorem GathersKept.fixOf (d : Dev) (g : YGather) : GathersKept d (d.fixOf g) := by
  have hdiscard : ∀ c, GathersKept d (d.discardExch g.pos c) := fun c => .of_reports (.discardExch d _ c)
  unfold Dev.fixOf
  extract_lets l ref
  refine .ite (.refl d) (.ite (hdiscard 0) (.ite (hdiscard 1) ?_))
  clear_value ref
  cases ref with
  | none => exact .refl d
  | some r => exact .ite (.refl d) (.fixMake d _ _ _)

/-- Nobody verified a frame: the exchange is discarded (R204). -/
theorem Dev.fixOf_unverified {d : Dev} {g : YGather} (cal : g.cal = false) (rep : g.reports ≠ []) (base : g.base = []) (en : d.on R.YRD_CTRL_EN = true) :
    d.fixOf g = d.discardExch g.pos 0 := by
  simp [Dev.fixOf, cal, rep, base, en]

/-- Every anchor of the table has reported. -/
def Dev.allReported (d : Dev) (g : YGather) : Bool := d.yrd.anch.all fun x => (tabFind g.reports x.1).isSome

/-- Gathering over: at once, or when WAIT has passed. -/
def Dev.gatherOver (d : Dev) (g : YGather) : Dev :=
  (if d.allReported g then d else d.passTo (d.gatherTo g.tSlot)).gatherMod g fun g => { g with ended := true }

theorem DevFrame.gatherOver (d : Dev) (g : YGather) : DevFrame [.clk, .yrd] [] [] d (d.gatherOver g) :=
  (DevFrame.ite (.refl _ _ _ d) ((DevFrame.passTo d _).mono (by decide))).next (.yrd _ _) (by decide)

theorem Dev.gatherOver_ends (d : Dev) (g : YGather) : ((d.gatherOver g).gatherOf g.tSlot).map YGather.ended = some true := by
  obtain ⟨g', hg, -⟩ := Dev.gatherOf_gatherMod (if d.allReported g then d else d.passTo (d.gatherTo g.tSlot)) g
    (f := fun g => { g with ended := true }) fun _ => rfl
  rw [Dev.gatherOver, hg]
  rfl

theorem Dev.gatherOver_waits {d : Dev} {g : YGather} (goes : d.timeGoes = true) (missing : d.allReported g = false) :
    d.gatherTo g.tSlot ≤ (d.gatherOver g).clk.yard := by
  rw [Dev.gatherOver, missing]
  exact Nat.le_trans (Nat.le_max_right _ _) (Nat.le_of_eq (Dev.yard_passTo goes _).symm)

theorem Dev.gatherEnd_eq {d : Dev} {p : Nat} {g : YGather} (h : d.yrd.gathers.find? (fun g => g.pos == p && !g.ended) = some g) :
    d.gatherEnd p = (d.gatherOver g).fixOf g := by
  simp only [Dev.gatherEnd, h]
  rfl

/-! ### An anchor's newest sample grows too old (R207) -/

/-- The moment at which a sample is older than MAX_AGE. -/
def Dev.calDue (d : Dev) (t : Nat) : Nat := t + d.get R.YRD_CAL_CFG_MAX_AGE * second + 1

theorem Dev.calExpire_eq {d : Dev} {a t : Nat} (other : d.anchSelf a = false) (h : (tabGet d.yrd.cal a).at0 = some t) :
    d.calExpire a = (d.passToMono (d.calDue t)).yrdView := by
  simp only [Dev.calExpire, other, Bool.false_eq_true, if_false, h]
  rfl

/-- From then on the anchor is not calibrated. -/
theorem Dev.calNow_of_stale {d : Dev} {a t : Nat} (other : d.anchSelf a = false) (h : (tabGet d.yrd.cal a).at0 = some t)
    (late : t + d.get R.YRD_CAL_CFG_MAX_AGE * second < d.clk.mono) : d.calNow a = false := by
  simp [Dev.calNow, Dev.calOk, other, Dev.calFresh, h, late]

/-! ### AUTO positions given back (R218) -/

theorem DevFrame.autoView (d : Dev) : DevFrame [] [0x06] [] d d.autoView := by
  unfold Dev.autoView
  extract_lets x
  have hx : DevFrame [] [0x06] [] d x := (DevFrame.setYrd d (g := R.YRD_AUTO_WAITING) (by decide) _ 0 0).mono (by decide)
  exact hx.next (.setYrd x (g := R.YRD_AUTO_ALLOTTED) (by decide) _ 0 0) (by decide)

theorem DevFrame.autoSet (d : Dev) (m : Nat) (x : YAuto) : DevFrame [.yrd] [] [] d (d.autoSet m x) := .yrd d _

theorem Dev.mem_allotQ_autoSet (d : Dev) (m : Nat) (x : YAuto) : m ∈ (d.autoSet m x).yrd.allotQ := by
  unfold Dev.autoSet
  extract_lets q yrd
  show m ∈ q
  by_cases h : d.yrd.allotQ.contains m = true
  · rw [show q = d.yrd.allotQ from if_pos h]
    exact List.contains_iff_mem.1 h
  · rw [show q = d.yrd.allotQ ++ [m] from if_neg h]
    exact List.mem_append_right _ (List.mem_singleton.2 rfl)

/-- The machine is told of the positions it had. -/
def Dev.autoTold (d : Dev) (m : Nat) (x : YAuto) : Dev := if x.pos.isEmpty then d else d.autoSet m {}

theorem DevFrame.autoTold (d : Dev) (m : Nat) (x : YAuto) : DevFrame [.yrd] [] [] d (d.autoTold m x) := .ite (.refl _ _ _ d) (.autoSet d m _)

theorem Dev.mem_allotQ_autoTold (d : Dev) {m : Nat} {x : YAuto} (h : x.pos ≠ []) : m ∈ (d.autoTold m x).yrd.allotQ := by
  rw [Dev.autoTold, if_neg (by simpa using h)]
  exact d.mem_allotQ_autoSet m _

/-- The machine's entry goes. -/
def Dev.autoGone (d : Dev) (m : Nat) : Dev := { d with yrd := { d.yrd with auto := tabDel d.yrd.auto m } }

theorem Dev.autoRelease_eq {d : Dev} {m t : Nat} {x : YAuto} (h : tabFind d.yrd.auto m = some x) (cleared : x.cleared = some t) :
    d.autoRelease m = (((d.passTo (t + d.get R.YRD_AUTO_RELEASE_S * second)).autoTold m x).autoGone m).autoView := by
  simp only [Dev.autoRelease, h, cleared]
  rfl

/-! ### EN cleared (R223) -/

theorem fieldsAt_YRD_CTRL : (fieldsAt R.YRD_CTRL_EN.addr).all (fun x => decide (x.1.acc = .rw) && decide (x.1.block = 0x06)) = true := by decide +kernel

theorem Dev.en_writeYrdCtrl (d : Dev) {v : Nat} (h : bitOf v 0 = false) : (d.writeAddr R.YRD_CTRL_EN.addr v).get R.YRD_CTRL_EN = 0 :=
  d.get_writeAddr_bit_clear (mem_of_yardFlds (by decide)) (by decide) rfl rfl rfl h

/-- What ranging holds is dropped; CAL frames go on in this superframe. -/
def Dev.rangingDropped (d : Dev) : Dev := { d with yrd := { d.yrd with rx := [], gathers := [], cal := [], selfAt := none, calTo := d.sfn + 1 } }

theorem DevFrame.rangingDropped (d : Dev) : DevFrame [.yrd] [] [] d d.rangingDropped := .yrd d _

/-- The descriptors of a block given up. -/
def Dev.givenUp (d : Dev) (p : Desc → Bool) : List Desc := (d.ring.handed ++ d.ring.staged.flatMap fun x => x.2).filter p

/-- They leave the lists of handed and staged descriptors, and STAGED follows. -/
def Dev.unstaged (d : Dev) (p : Desc → Bool) : Dev :=
  let x := { d with ring := { d.ring with handed := d.ring.handed.filter (fun q => !p q), staged := tabMapV d.ring.staged fun _ x => x.filter fun q => !p q } }
  x.ring.staged.foldl (fun (d : Dev) (x : Nat × List Desc) => d.set R.RING_STATUS_STAGED x.2.length x.1) x

theorem Dev.giveUp_eq (d : Dev) (p : Desc → Bool) : d.giveUp p = (d.unstaged p).completeAll (d.givenUp p) .aborted := rfl

theorem DevFrame.unstaged (d : Dev) (p : Desc → Bool) : DevFrame [.ring] [] [R.RING_STATUS_STAGED] d (d.unstaged p) := by
  unfold Dev.unstaged
  extract_lets ring x
  have hx : DevFrame [.ring] [] [R.RING_STATUS_STAGED] d x := ⟨rfl, .of_regs rfl⟩
  have hfold : DevFrame [] [] [R.RING_STATUS_STAGED] x
      (x.ring.staged.foldl (fun (d : Dev) (x : Nat × List Desc) => d.set R.RING_STATUS_STAGED x.2.length x.1) x) :=
    .foldl (fun d (x : Nat × List Desc) => .setYrd d (g := R.RING_STATUS_STAGED) (by decide) x.2.length x.1 0) _ x
  exact hx.next hfold (by decide)

theorem ComplStep.ringsHeld {a b : Dev} (h : ComplStep a b) : b.ringsHeld = a.ringsHeld := (SearchStep.of_compl h).ringsHeld

theorem ComplStep.completeAll (d : Dev) (l : List Desc) (st : Status) : ComplStep d (d.completeAll l st) :=
  List.foldlRecOn (motive := ComplStep d) l _ (.refl d) fun e he q _ => he.trans (.complete e q st)

/-- While the rings are not held, none of the descriptors completed awaits anything more. -/
theorem Dev.isLive_completeAll {d : Dev} (run : d.ringsHeld = false) {l : List Desc} {q : Desc} (hq : q ∈ l) (st : Status) :
    (d.completeAll l st).isLive q = false := by
  obtain ⟨pre, post, hl⟩ := List.append_of_mem hq
  rw [Dev.completeAll, hl, List.foldl_append, List.foldl_cons]
  refine List.foldlRecOn (motive := fun e : Dev => e.isLive q = false) post _ ?_ fun e he p _ => Dev.isLive_complete_of_not he p st
  exact Dev.isLive_complete_self ((ComplStep.completeAll d pre st).ringsHeld.trans run) q st

theorem DevFrame.giveUp (d : Dev) (p : Desc → Bool) : DevFrame reports [0x0B] [] d (d.giveUp p) := by
  rw [Dev.giveUp_eq]
  exact ((DevFrame.unstaged d p).mono (by decide)).trans (ComplStep.completeAll _ _ _).frame

/-- Nor does a descriptor given up. -/
theorem Dev.isLive_giveUp {d : Dev} (run : d.ringsHeld = false) {p : Desc → Bool} {q : Desc} (hq : q ∈ d.ring.handed) (hp : p q = true) :
    (d.giveUp p).isLive q = false := by
  have hframe := DevFrame.unstaged d p
  have hheld : (d.unstaged p).ringsHeld = d.ringsHeld := Dev.ringsHeld_congr (hframe.keeps_sys (by decide)) (hframe.keeps_boot (by decide))
    fun f hf => hframe.readYrd (by revert f; decide) 0 0
  rw [Dev.giveUp_eq]
  exact Dev.isLive_completeAll (hheld.trans run) (List.mem_filter.2 ⟨List.mem_append_left _ hq, hp⟩) _

theorem DevFrame.yardView (d : Dev) : DevFrame [] [] [R.TRK_CH_STAT_STATE] d d.yardView := by
  unfold Dev.yardView
  extract_lets rx
  exact .foldl (fun d k => .ite (.refl _ _ _ d) (.setYrd d (g := R.TRK_CH_STAT_STATE) (by decide) _ _ 0)) _ d

/-- Ranging ended: what it holds dropped, its descriptors given up. -/
def Dev.rangingEnded (d : Dev) : Dev := d.rangingDropped.giveUp fun q => q.block == 6

/-- A write that clears EN ends ranging. -/
theorem Dev.yrdCtrlWrite_off {d : Dev} {v : Nat} (h : bitOf v 0 = false) (was : d.on R.YRD_CTRL_EN = true) :
    d.yrdCtrlWrite v = (d.writeAddr R.YRD_CTRL_EN.addr v).rangingEnded.yrdView.yardView := by
  have hoff : (d.writeAddr R.YRD_CTRL_EN.addr v).on R.YRD_CTRL_EN = false := by
    rw [Dev.on, d.en_writeYrdCtrl h]
    rfl
  unfold Dev.yrdCtrlWrite
  dsimp only
  rw [if_pos (by rw [was, hoff]; rfl)]
  rfl

theorem Dev.en_rangingEnded {d : Dev} (h : d.get R.YRD_CTRL_EN = 0) : d.rangingEnded.get R.YRD_CTRL_EN = 0 :=
  ((DevFrame.giveUp _ _).readYrd (by decide) 0 0).trans (((DevFrame.rangingDropped d).readYrd (by decide) 0 0).trans h)

theorem Dev.yrd_rangingEnded (d : Dev) : d.rangingEnded.yrd = d.rangingDropped.yrd := (DevFrame.giveUp _ _).keeps_yrd (by decide)

theorem Dev.calNow_of_disabled {d : Dev} (h : d.get R.YRD_CTRL_EN = 0) (a : Nat) : d.calNow a = false := by
  simp [Dev.calNow, Dev.calOk, Dev.on, h]

theorem Dev.isLive_rangingEnded {d : Dev} (run : d.ringsHeld = false) {q : Desc} (hq : q ∈ d.ring.handed) (hb : q.block = 6) :
    d.rangingEnded.isLive q = false := Dev.isLive_giveUp (d := d.rangingDropped) run hq (beq_iff_eq.2 hb)

/-- What ranging ended shows: not calibrated, nothing gathered, none of its descriptors waiting. -/
theorem Dev.rangingEnded_shows {d : Dev} (en : d.get R.YRD_CTRL_EN = 0) (run : d.ringsHeld = false) :
    let x := d.rangingEnded.yrdView.yardView
    x.get R.YRD_CTRL_EN = 0 ∧ x.get R.YRD_STATUS_CALIBRATED = 0 ∧ x.yrd.gathers = [] ∧ x.yrd.cal = [] ∧
      ∀ q ∈ d.ring.handed, q.block = 6 → x.isLive q = false := by
  have hen := Dev.en_rangingEnded en
  have hyrd := d.yrd_rangingEnded
  have hlive : ∀ q ∈ d.ring.handed, q.block = 6 → d.rangingEnded.isLive q = false := fun q hq hb => Dev.isLive_rangingEnded run hq hb
  generalize d.rangingEnded = x at hen hyrd hlive
  have hview := CalShown.yrdView x
  have hgrows := OutGrows.yrdView x
  have hcal := Dev.calibrated_yrdView_of_none (Dev.calNow_of_disabled hen)
  generalize x.yrdView = y at hview hgrows hcal
  have hyard := DevFrame.yardView y
  have hkept : y.yardView.yrd = d.rangingDropped.yrd := (hyard.keeps_yrd (by decide)).trans ((hview.keeps_yrd (by decide)).trans hyrd)
  refine ⟨?_, ?_, by rw [hkept]; rfl, by rw [hkept]; rfl, fun q hq hb => ?_⟩
  · rw [hyard.readYrd (by decide), hview.readYrd (by decide), hen]
  · rw [hyard.readYrd (by decide), hcal]
  · rw [Dev.isLive, hyard.keeps_ring (by decide), hgrows.live]
    exact hlive q hq hb

/-- YRD_CTRL written, the rings are held as before, and as many descriptors wait. -/
theorem Dev.writeYrdCtrl_ring (d : Dev) (v : Nat) : (d.writeAddr R.YRD_CTRL_EN.addr v).ringsHeld = d.ringsHeld ∧
    (d.writeAddr R.YRD_CTRL_EN.addr v).ring = d.ring := by
  have hframe := DevFrame.writeRw fieldsAt_YRD_CTRL d v
  exact ⟨Dev.ringsHeld_congr (hframe.keeps_sys (by decide)) (hframe.keeps_boot (by decide)) fun f hf => hframe.readYrd (by revert f; decide) 0 0,
    hframe.keeps_ring (by decide)⟩

theorem exec_yrdDisable {s : State} {v : Word32} (w : s.dev.writable R.YRD_CTRL_EN = true) (h : bitOf v.toNat 0 = false) :
    exec (.yrdDisable v) s = .next { s with dev := s.dev.yrdCtrlWrite v.toNat } := by
  simp only [exec, execYrdDisable, onReg, onDev, w, h, if_true, Bool.false_eq_true, if_false]

theorem exec_fixGatherEnd {s : State} (run : s.dev.runs .sup = true) (p : Nat) : exec (.fixGatherEnd p) s = .next { s with dev := s.dev.gatherEnd p } :=
  onRun_next (f := fun d => d.gatherEnd p) run

theorem exec_calAgeExpiry {s : State} (run : s.dev.runs .sup = true) (a : Nat) : exec (.calAgeExpiry a) s = .next { s with dev := s.dev.calExpire a } :=
  onRun_next (f := fun d => d.calExpire a) run

theorem exec_yrdAutoRelease {s : State} (run : s.dev.runs .sup = true) (m : Nat) :
    exec (.yrdAutoRelease m) s = .next { s with dev := s.dev.autoRelease m } :=
  onRun_next (f := fun d => d.autoRelease m) run

/-- Settles O29: gathering ends; a sample too old; AUTO positions given back; EN cleared. -/
theorem rangingEnds : Obligations.RangingEnds := by
  unfold Obligations.RangingEnds
  refine ⟨fun p g s run h => ?_, fun a t s run ha other h => ?_, fun m t x s run h cleared => ?_, fun v s w off was held => ?_⟩
  · obtain ⟨hclk, hgathers⟩ := GathersKept.fixOf (s.dev.gatherOver g) g
    have hframe := DevFrame.gatherOver s.dev g
    refine ⟨_, exec_fixGatherEnd run p, ?_⟩
    dsimp only
    rw [Dev.gatherEnd_eq h]
    refine ⟨?_, fun missing => ?_, fun cal rep base en => ?_⟩
    · rw [Dev.gatherOf, hgathers]
      exact s.dev.gatherOver_ends g
    · rw [hclk]
      exact Dev.gatherOver_waits (Dev.timeGoes_of_runs_sup run) missing
    · have hen : (s.dev.gatherOver g).on R.YRD_CTRL_EN = true := by rwa [Dev.on, hframe.readYrd (by decide)]
      rw [Dev.fixOf_unverified cal rep base hen, Dev.discardExch_counts, hframe.readYrd (by decide)]
  · have hmono : t + s.dev.get R.YRD_CAL_CFG_MAX_AGE * second < (s.dev.passToMono (s.dev.calDue t)).clk.mono := by
      rw [Dev.mono_passToMono]
      exact Nat.le_max_right _ (s.dev.calDue t)
    have hstale : (s.dev.passToMono (s.dev.calDue t)).calNow a = false := Dev.calNow_of_stale other h hmono
    refine ⟨_, exec_calAgeExpiry run a, ?_⟩
    dsimp only
    rw [Dev.calExpire_eq other h]
    refine ⟨by rw [Dev.cal_yrdView _ ha, hstale]; rfl, ?_, (((DevFrame.passToMono s.dev _).mono (by decide)).next (.yrdView _) (by decide)).frame⟩
    rwa [(CalShown.yrdView _).keeps_clk (by decide)]
  · have hpass := DevFrame.passTo s.dev (t + s.dev.get R.YRD_AUTO_RELEASE_S * second)
    have hyard := Dev.yard_passTo (Dev.timeGoes_of_runs_sup run) (t + s.dev.get R.YRD_AUTO_RELEASE_S * second)
    refine ⟨_, exec_yrdAutoRelease run m, ?_⟩
    dsimp only
    rw [Dev.autoRelease_eq h cleared]
    generalize s.dev.passTo (t + s.dev.get R.YRD_AUTO_RELEASE_S * second) = y at hpass hyard
    have htold := DevFrame.autoTold y m x
    refine ⟨tabFind_del_self _ _, fun hpos => y.mem_allotQ_autoTold hpos, ?_, ?_⟩
    · refine Nat.le_trans (Nat.le_max_right _ _) (Nat.le_of_eq (hyard.symm.trans ?_))
      exact congrArg Clk.yard (htold.keeps_clk (by decide)).symm
    · exact ((((hpass.mono (by decide)).next htold (by decide)).next (.yrd _ _) (by decide)).next (.autoView _) (by decide)).frame
  · obtain ⟨hheld, hring⟩ := s.dev.writeYrdCtrl_ring v.toNat
    refine ⟨_, exec_yrdDisable w off, ?_⟩
    dsimp only
    rw [Dev.yrdCtrlWrite_off off was, ← hring]
    exact Dev.rangingEnded_shows (s.dev.en_writeYrdCtrl off) (hheld.trans held)

end Sys2Proof.Machine
end

section
/-!
PROOFS. The site radio (R232-R280), what its proofs share: the fields they tell apart, parts outside a frame, frames received (R245).
-/

namespace Sys2Proof.Machine

/-! ### The fields that these proofs read or write -/

/-- Fields that the proofs of the site radio tell apart. -/
def radFlds : List Fld :=
  [R.ID_DEV_DEV, R.SYS_LEVEL_LEVEL, R.SYS_BOOT_STATUS_NO_SAFE, R.PWR_STATUS_STATE, R.RING_GLB_STATUS_PAUSED, R.TIME_STATUS_SRC, R.BRK_SRC_SRC,
    R.PAIR_STATUS_ROLE, R.IMG_PART_STAT_SELF_OK, R.RAD_CTRL_EN, R.RAD_STATUS_ROLE, R.RAD_STATUS_HOLD_EOA, R.RAD_STATUS_FREE, R.RAD_STATUS_DUP_ID,
    R.RAD_STATUS_MISSED, R.RAD_SITE_CFG_PRIO, R.RAD_SITE_CFG_ELECT_T, R.RAD_SITE_STAT_MASTER_ID, R.RAD_SITE_STAT_MASTER_VALID,
    R.RAD_SITE_STAT_MASTER_CELL, R.RAD_SITE_STAT_HEARD, R.RAD_TIMING_WIN, R.RAD_UL_STAT_OFS, R.RAD_UL_STAT_SNR, R.RAD_UL_STAT_MISSED,
    R.RAD_ADMIT_VALID_VALID, R.RAD_ERR_WINDOW]

theorem radFlds_elem : radFlds.all (fun g => regMap.elem g) = true := by decide +kernel

theorem mem_of_radFlds {g : Fld} (h : g ∈ radFlds) : g ∈ regMap := mem_regMap (List.all_eq_true.1 radFlds_elem g h)

/-- A field of `radFlds` outside a frame. -/
abbrev OutsideRad (ws : List Nat) (fs : List Fld) (f : Fld) : Prop := f ∈ radFlds ∧ f.block ∉ ws ∧ f ∉ fs

theorem Dev.get_set_rad (d : Dev) {f g : Fld} (hf : f ∈ radFlds) (hg : g ∈ radFlds) (n : f ≠ g) (v i j i' j' : Nat) :
    (d.set g v i' j').get f i j = d.get f i j := d.get_set_fld (mem_of_radFlds hf) (mem_of_radFlds hg) n v i j i' j'

/-! ### Frames -/

namespace DevFrame

theorem readRad {ps : List Part} {ws : List Nat} {fs : List Fld} {a b : Dev} (h : DevFrame ps ws fs a b) {f : Fld} (o : OutsideRad ws fs f)
    (i j : Nat) : b.get f i j = a.get f i j := by
  obtain ⟨hf, hw, hn⟩ := o
  exact h.regs f (mem_of_radFlds hf) hw hn i j

theorem setRad (d : Dev) {g : Fld} (hg : g ∈ radFlds) (v i j : Nat) : DevFrame [] [] [g] d (d.set g v i j) :=
  ⟨rfl, .set d v i j (mem_of_radFlds hg) (.inl (List.mem_singleton.2 rfl))⟩

/-- A write within some windows. -/
theorem setIn {ws : List Nat} (d : Dev) {g : Fld} (m : (g.tight && ws.elem g.block) = true) (v i j : Nat) : DevFrame [] ws [] d (d.set g v i j) := by
  obtain ⟨ht, hwin⟩ := (Bool.and_eq_true _ _).mp m
  exact ⟨rfl, .set_tight d v i j ht (List.elem_iff.1 hwin)⟩

/-- An update of the radio's state. -/
theorem rad (d : Dev) (x : Rad) : DevFrame [.rad] [] [] d { d with rad := x } := ⟨rfl, .of_regs rfl⟩

section
variable {ps : List Part} {ws : List Nat} {fs : List Fld} {a b : Dev} (h : DevFrame ps ws fs a b)
include h

theorem keeps_rad (n : .rad ∉ ps) : b.rad = a.rad := h.keeps (fun _ q m => by cases q <;> simp_all [Dev.clear]) (fun _ => rfl) n

theorem keeps_rsv (n : .rsv ∉ ps) : b.rsv = a.rsv := h.keeps (fun _ q m => by cases q <;> simp_all [Dev.clear]) (fun _ => rfl) n

theorem keeps_brk (n : .brk ∉ ps) : b.brk = a.brk := h.keeps (fun _ q m => by cases q <;> simp_all [Dev.clear]) (fun _ => rfl) n

theorem keeps_wb (n : .wb ∉ ps) : b.wb = a.wb := h.keeps (fun _ q m => by cases q <;> simp_all [Dev.clear]) (fun _ => rfl) n

theorem id_eq (o : OutsideRad ws fs R.ID_DEV_DEV) : b.id = a.id := h.readRad o 0 0

theorem reins_eq (o : OutsideRad ws fs R.PAIR_STATUS_ROLE) : b.reins = a.reins := by simp only [Dev.reins, h.readRad o]

theorem on_eq {f : Fld} (o : OutsideRad ws fs f) : b.on f = a.on f := by simp only [Dev.on, h.readRad o]

theorem sfn_eq (n : .clk ∉ ps) : b.sfn = a.sfn := congrArg (fun c : Clk => c.yard / superframe) (h.keeps_clk n)

end

end DevFrame

/-- A step of supervision, as a frame. -/
theorem BrkStep.devFrame {a b : Dev} (h : BrkStep a b) : DevFrame [.brk] [] brkFlds a b := ⟨by rw [h.only]; rfl, h.regs⟩

/-! ### The role (R274) -/

/-- The fields that show which master a device follows. -/
def masterFlds : List Fld := [R.RAD_SITE_STAT_MASTER_VALID, R.RAD_SITE_STAT_MASTER_ID, R.RAD_SITE_STAT_MASTER_CELL]

theorem DevFrame.unmaster (d : Dev) : DevFrame [.rad] [] masterFlds d d.unmaster := by
  have hrad := (DevFrame.rad d { d.rad with miss := 0, inelAt := none }).mono (ps' := [.rad]) (ws' := []) (fs' := masterFlds) (by decide)
  exact ((hrad.next (.setRad _ (g := R.RAD_SITE_STAT_MASTER_VALID) (by decide) _ 0 0) (by decide)).next
    (.setRad _ (g := R.RAD_SITE_STAT_MASTER_ID) (by decide) _ 0 0) (by decide)).next
    (.setRad _ (g := R.RAD_SITE_STAT_MASTER_CELL) (by decide) _ 0 0) (by decide)

theorem DevFrame.radRole (d : Dev) : DevFrame [.rad] [] (R.RAD_STATUS_ROLE :: masterFlds) d d.radRole := by
  unfold Dev.radRole
  extract_lets r n x
  have hx : DevFrame [.rad] [] (R.RAD_STATUS_ROLE :: masterFlds) d x := (DevFrame.setRad d (g := R.RAD_STATUS_ROLE) (by decide) n 0 0).mono (by decide)
  exact .ite (hx.next (.unmaster x) (by decide)) hx

/-! ### The clock of the superframe (R235) -/

/-- A slot of the superframe passed to: the superframe is the same. -/
theorem Dev.sfn_passToSlot {d : Dev} (goes : d.timeGoes = true) {n : Nat} (h : n < 400) : (d.passTo (d.slotStart n)).sfn = d.sfn :=
  Dev.sfn_passTo goes (d.slotStart_lt h)

/-! ### Frames received (R245) -/

/-- A frame that passes the checks changes nothing by itself. -/
theorem Dev.receive_taken {d e : Dev} {f p : List Byte} {len ex : Nat} {want : Bool} {k : Option (List Byte)} {hw : Option Nat}
    (h : d.receive f len ex want k hw = (some p, e)) : e = d := by
  unfold Dev.receive at h
  repeat' split at h
  all_goals simp_all

end Sys2Proof.Machine
end

section
/-!
PROOFS. The order of downlink slots (R237).
-/

namespace Sys2Proof.Machine

theorem exec_downlinkTx {s : State} (run : s.dev.runs .rad = true) : exec .downlinkTx s = .next { s with dev := s.dev.downlinkTx } :=
  onRun_next (f := Dev.downlinkTx) run

/-- The superframe goes on after slot `n`. -/
def Dev.dlPast (d : Dev) (n : Nat) : Dev := { d with rad := { d.rad with dlSf := d.sfn + 1, dlNext := n + 1 } }

/-- What the scan of the open slots finds goes out, and the superframe goes on after its slot. -/
theorem Dev.downlinkTx_sends {d e : Dev} {n m : Nat} (tx : d.cellTx = true) (en : d.on R.RAD_CTRL_EN = true) (mac : d.img.macSf ≠ d.sfn + 1)
    (scan : d.keyFrDeny.dlScan (104 - d.keyFrDeny.dlFrom) d.keyFrDeny.dlFrom = some (n, m, e)) : d.downlinkTx = (e.dlPast n).settle := by
  unfold Dev.downlinkTx
  rw [if_neg (by simp [tx, en, mac])]
  simp only [scan]
  rfl

theorem Dev.downlinkTx_silent {d : Dev} (h : d.cellTx = false) : d.downlinkTx = d := by simp [Dev.downlinkTx, h]

/-- An authority that is due comes first. -/
theorem Dev.dlOne_authority {d : Dev} {n m : Nat} (h : d.brk.order.find? (fun m => d.authDue m (104 - n) (d.slotStart n)) = some m) :
    (d.dlOne n).map (·.1) = some m := by
  unfold Dev.dlOne
  simp only [h]
  rfl

/-- With none due, a key frame that can be sent comes next. -/
theorem Dev.dlOne_key {d : Dev} {n : Nat} {k : KeyFr} (none : d.brk.order.find? (fun m => d.authDue m (104 - n) (d.slotStart n)) = none)
    (h : d.rad.keyQ.find? (fun k => k.sf ≤ d.sfn && d.keyFrOk k) = some k) : (d.dlOne n).map (·.1) = some k.m := by
  unfold Dev.dlOne
  simp only [none, h]
  rfl

/-- Settles O32: what the scan finds goes out; an authority due comes first, a key frame next; without the cell nothing goes out. -/
theorem downlinkOrder : Obligations.DownlinkOrder := by
  unfold Obligations.DownlinkOrder
  refine ⟨fun n k m e s run tx en mac hk scan => ?_, fun d n m h => Dev.dlOne_authority h, fun d n k none h => Dev.dlOne_key none h, fun s tx => ?_⟩
  · subst hk
    exact ⟨_, exec_downlinkTx run, e.dlPast n, Dev.downlinkTx_sends tx en mac scan, rfl, rfl, rfl⟩
  · exact .of_onRun_same (f := Dev.downlinkTx) rfl (Dev.downlinkTx_silent tx) rfl

end Sys2Proof.Machine
end

section
/-!
PROOFS. What supervision and reservation touch when they judge an uplink or count a missed one (R297-R300, R323, R335-R337): their own
state and windows, axes' locks, waybills' routes and reports, and nothing of the uplinks taken.
-/

namespace Sys2Proof.Machine

/-- The windows that reservation and supervision write: RSV, BRK, the axes' locks and what reports touch. -/
def supWs : List Nat := [0x08, 0x09, 0x0B, 0x0E, 0x12]

/-- A step of reservation and supervision, which leaves the uplinks taken as they are. -/
structure SupStep (a b : Dev) : Prop extends DevFrame ([.rsv, .brk, .wb] ++ reports) supWs [] a b where
  upl : b.rsv.upl = a.rsv.upl

namespace SupStep

theorem refl (d : Dev) : SupStep d d := ⟨.refl _ _ _ d, rfl⟩

theorem trans {a b c : Dev} (h : SupStep a b) (k : SupStep b c) : SupStep a c := ⟨h.toDevFrame.trans k.toDevFrame, k.upl.trans h.upl⟩

/-- An update of reservation, supervision and waybills that keeps the uplinks. -/
theorem upd {a b c : Dev} (h : SupStep a b) (o : c = { b with rsv := c.rsv, brk := c.brk, wb := c.wb }) (upl : c.rsv.upl = b.rsv.upl) : SupStep a c :=
  h.trans ⟨⟨by rw [o]; rfl, .of_regs (congrArg Dev.regs o :)⟩, upl⟩

theorem then_set {a b : Dev} (h : SupStep a b) {g : Fld} {v i j : Nat} (m : (g.tight && supWs.elem g.block) = true) : SupStep a (b.set g v i j) :=
  h.trans ⟨(DevFrame.setIn b m v i j).mono ⟨fun _ c => absurd c List.not_mem_nil, fun _ c => c, fun _ c => absurd c List.not_mem_nil⟩, rfl⟩

theorem foldl {α : Type} {f : Dev → α → Dev} (hf : ∀ d x, SupStep d (f d x)) (l : List α) (d : Dev) : SupStep d (l.foldl f d) :=
  List.foldlRecOn (motive := SupStep d) l f (refl d) fun _ hb x _ => hb.trans (hf _ x)

theorem ite {a b c : Dev} {p : Prop} [Decidable p] (h : SupStep a b) (k : SupStep a c) : SupStep a (if p then b else c) := by
  split
  · exact h
  · exact k

/-! ### Reports -/

theorem record (d : Dev) (c : Nat) (x : List Byte) : SupStep d (d.record c x) :=
  ⟨(DevFrame.record d c x).mono (by decide), congrArg Rsv.upl (Dev.record_rsv d c x)⟩

theorem complete (d : Dev) (q : Desc) (st : Status) : SupStep d (d.complete q st) :=
  ⟨(ComplStep.complete d q st).frame.mono (by decide), congrArg Rsv.upl (Dev.rest_rsv (Dev.rest_complete d q st))⟩

theorem toHost (d : Dev) (n : Nat) (b : List Byte) : SupStep d (d.toHost n b) :=
  ⟨(d.toHost_puts n b).frame.mono (by decide), congrArg Rsv.upl (Dev.rest_rsv (Dev.rest_toHost d n b))⟩

/-! ### Supervision (R323, R325, R335-R337, R339) -/

theorem of_brk {a b : Dev} (h : BrkStep a b) : SupStep a b := ⟨h.devFrame.mono (by decide), by rw [h.only]⟩

theorem brkSet (d : Dev) (m : Nat) (b : BrkM) : SupStep d (d.brkSet m b) := .of_brk (.brkSet d m b)

theorem setStop (d : Dev) (m cause speed : Nat) : SupStep d (d.setStop m cause speed) := by
  unfold Dev.setStop
  extract_lets perm d1 d2
  have h2 : SupStep d d2 := refl d |>.then_set (by decide) |>.then_set (by decide) |>.then_set (by decide)
  exact .ite (.refl d) (((h2.trans (.of_brk (.voidAuth _ m))).trans (.of_brk (.brkView _ m))).trans (.record _ _ _))

theorem authAck (d : Dev) (m : Nat) (u : Upl) : SupStep d (d.authAck m u) := by
  unfold Dev.authAck
  extract_lets b
  split
  · exact .ite (((refl d).then_set (by decide)).trans (.brkSet _ _ _)) (.refl d)
  · exact .refl d

theorem supervise (d : Dev) (m : Nat) (u : Upl) : SupStep d (d.supervise m u) := by
  unfold Dev.supervise
  extract_lets b d1 b1 v d2
  have h1 : SupStep d d1 := ((refl d).then_set (by decide)).trans (.brkSet _ _ _)
  have h2 : SupStep d d2 := h1.trans (.brkSet _ _ _)
  exact .ite (.refl d) (.ite (.ite h2 (h2.trans (.setStop _ _ _ _))) (.ite (h1.trans (.setStop _ _ _ _)) h1))

theorem missOne (d : Dev) (m : Nat) : SupStep d (d.missOne m) := by
  unfold Dev.missOne
  extract_lets b d1
  have h1 : SupStep d d1 := (refl d).then_set (by decide)
  refine .ite (.brkSet d m _) ?_
  split
  · exact .refl d
  · exact .ite (.ite (.refl d) (.trans (.of_brk (.voidAuth d m)) (.record _ _ _))) (.ite (h1.trans (.setStop _ _ _ _)) h1)

/-! ### Reservation (R288, R291, R293, R303, R304, R306) -/

theorem syncLocks (d : Dev) : SupStep d d.syncLocks := by
  unfold Dev.syncLocks
  exact .foldl (fun d _ => refl d |>.then_set (by decide) |>.then_set (by decide)) _ _

theorem segTake (d : Dev) (s m st rid : Nat) : SupStep d (d.segTake s m st rid) := by
  unfold Dev.segTake
  extract_lets d1 d2
  have h1 : SupStep d d1 := refl d |>.then_set (by decide) |>.then_set (by decide) |>.then_set (by decide) |>.then_set (by decide)
  have h2 : SupStep d d2 := h1.trans (.foldl (fun d _ => refl d |>.then_set (by decide) |>.then_set (by decide)) _ _)
  refine .trans ?_ (.syncLocks _)
  exact h2.upd rfl rfl

theorem segDrop (d : Dev) (s st : Nat) : SupStep d (d.segDrop s st) := by
  unfold Dev.segDrop
  extract_lets m d1 d2 d3
  have h1 : SupStep d d1 := refl d |>.then_set (by decide) |>.then_set (by decide) |>.then_set (by decide) |>.then_set (by decide)
  have h2 : SupStep d d2 := h1.then_set (by decide)
  have hgroup : ∀ (d : Dev) (g : Nat), SupStep d (d.set R.RSV_CG_COUNT (d.get R.RSV_CG_COUNT g - 1) g) := fun d g => (refl d).then_set (by decide)
  have h3 : SupStep d d3 := h2.trans (.foldl (fun d g => .ite ((hgroup d g).then_set (by decide)) (hgroup d g)) _ _)
  refine .trans ?_ (.syncLocks _)
  exact h3.upd rfl rfl

theorem syncBound (d : Dev) : SupStep d d.syncBound := by
  unfold Dev.syncBound
  extract_lets l d1 d2
  have h1 : SupStep d d1 := .foldl (fun d p => by
    split
    · exact .refl d
    · exact (refl d).upd rfl rfl) _ _
  have h2 : SupStep d d2 := h1.trans (.foldl (fun d p =>
    .ite (.refl d) (.ite (.ite ((refl d).then_set (by decide)) (.refl d)) (.ite ((refl d).then_set (by decide)) (.refl d)))) _ _)
  refine h2.trans (.foldl (fun d i => ?_) _ _)
  split
  · exact refl d |>.then_set (by decide) |>.then_set (by decide) |>.then_set (by decide)
  · exact refl d |>.then_set (by decide) |>.then_set (by decide) |>.then_set (by decide)

theorem segFree (d : Dev) (s : Nat) : SupStep d (d.segFree s) := by
  unfold Dev.segFree
  extract_lets e d1
  have h1 : SupStep d d1 := .segDrop d s 5
  clear_value d1
  refine .ite (.trans ?_ (.syncBound _)) (.segDrop d s _)
  exact h1.upd rfl rfl

theorem grant (d : Dev) (q : Req) : SupStep d (d.grant q) := by
  unfold Dev.grant
  extract_lets rid last rsv d1 d2 d3 brk d4
  have h1 : SupStep d d1 := (refl d).upd rfl rfl
  have h2 : SupStep d d2 := h1.trans (.foldl (fun d p => .ite (.segTake d _ _ _ _) ((refl d).then_set (by decide))) _ _)
  have h3 : SupStep d d3 := h2.then_set (by decide)
  have h4 : SupStep d d4 := h3.upd rfl rfl
  exact .ite (h4.trans (.of_brk (.callAuth _ _ _))) h4

theorem reqEnd (d : Dev) (q : Req) (st : Status) (rid : Nat) (v : Verdict) : SupStep d (d.reqEnd q st rid v) := by
  unfold Dev.reqEnd
  extract_lets d1 out wb
  have h1 : SupStep d d1 := .ite ((refl d).then_set (by decide)) (.refl d)
  split
  · exact .trans (.ite (h1.trans (.toHost _ _ _)) h1) (.complete _ _ _)
  · exact h1.upd rfl rfl
  · exact h1

theorem parkedPass (d : Dev) : SupStep d d.parkedPass := by
  have hdecide : ∀ (d : Dev) (q : Req) (v : Verdict), SupStep d (d.reqDecide q v false) := fun d q v => by
    unfold Dev.reqDecide
    extract_lets rid q1 q2 rsv
    exact .ite ((grant d q).trans (.reqEnd _ _ _ _ _)) (.ite ((refl d).upd rfl rfl) (.reqEnd d q _ _ v))
  unfold Dev.parkedPass
  extract_lets l rsv d1
  have h1 : SupStep d d1 := (refl d).upd rfl rfl
  exact .ite (.refl d) ((h1.trans (.foldl (fun d q => hdecide d q _) _ _)).then_set (by decide) |>.then_set (by decide))

/-! ### Uplinks (R297-R300, R316) -/

theorem occupy (d : Dev) (m s : Nat) : SupStep d (d.occupy m s) := by
  unfold Dev.occupy
  extract_lets d1
  have h1 : SupStep d d1 := .foldl (fun d _ => .ite ((refl d).then_set (by decide)) (.refl d)) _ _
  exact .ite (h1.then_set (by decide)) h1

theorem intrusion (d : Dev) (m s speed : Nat) : SupStep d (d.intrusion m s speed) := by
  unfold Dev.intrusion
  extract_lets e h others d1
  have h1 : SupStep d d1 := .record d _ _
  exact .ite (h1.trans (.setStop _ _ _ _)) (.ite (h1.trans (.foldl (fun _ _ => .setStop _ _ _ _) _ _))
    (.ite ((h1.trans (.segTake _ _ _ _ _)).trans (.setStop _ _ _ _)) (h1.trans (.setStop _ _ _ _))))

theorem release (d : Dev) (m : Nat) (u : Upl) : SupStep d (d.release m u) := by
  unfold Dev.release
  extract_lets p
  split
  · exact .refl d
  · extract_lets p1 d1 gone
    have h1 : SupStep d d1 := (refl d).upd rfl rfl
    exact .ite (.refl d) (.ite h1 (.trans (h1.trans (.foldl (fun _ _ => .segFree _ _) _ _)) (.parkedPass _)))

theorem shortUplink (d : Dev) (m : Nat) (u : Upl) : SupStep d (d.shortUplink m u) := by
  unfold Dev.shortUplink
  split
  · exact .refl d
  · extract_lets p k i rsv d1
    have h1 : SupStep d d1 := (refl d).upd rfl rfl
    split
    · extract_lets d2
      have h2 : SupStep d d2 := h1.trans (.foldl (fun _ _ => .segFree _ _) _ _)
      exact .ite ((h2.trans (.parkedPass _)).trans (.complete _ _ _)) (.refl d)
    · exact .refl d

theorem joinView (d : Dev) (m : Nat) : SupStep d (d.joinView m) := (refl d).then_set (by decide)

end SupStep

end Sys2Proof.Machine
end

section
/-!
PROOFS. Uplink slots (R255, R256, R261, R263, R279): an uplink taken, one outside the window, one missed.
-/

namespace Sys2Proof.Machine

/-! ### An uplink heard (R255) -/

theorem slotMach_lt {slot m : Nat} (h : slotMach slot = some m) : m < 240 := by
  unfold slotMach at h
  simp only [Bool.and_eq_true, decide_eq_true_eq] at h
  split_ifs at h <;> cases h <;> omega

theorem has_UL_STAT_MISSED {m : Nat} (h : m < 240) : R.RAD_UL_STAT_MISSED.has m 0 = true := by
  simp only [Fld.has, Bool.and_eq_true, decide_eq_true_eq]
  exact ⟨h, by decide⟩

/-- What is shown of an uplink heard, and the lists of the next beacon opened. -/
def Dev.uplinkShown (d : Dev) (m : Nat) (ofs : Int) (snr : Nat) : Dev := ((d.sati R.RAD_UL_STAT_OFS ofs m).sat R.RAD_UL_STAT_SNR snr m).ackOpen

theorem DevFrame.uplinkShown (d : Dev) (m : Nat) (ofs : Int) (snr : Nat) :
    DevFrame [.rad] [] [R.RAD_UL_STAT_OFS, R.RAD_UL_STAT_SNR] d (d.uplinkShown m ofs snr) := by
  have hofs := (DevFrame.setRad d (g := R.RAD_UL_STAT_OFS) (by decide) (enc2 R.RAD_UL_STAT_OFS.width (clamp2 R.RAD_UL_STAT_OFS.width ofs)) m 0).mono
    (ps' := [.rad]) (ws' := []) (fs' := [R.RAD_UL_STAT_OFS, R.RAD_UL_STAT_SNR]) (by decide)
  have hsnr := hofs.next (.setRad _ (g := R.RAD_UL_STAT_SNR) (by decide) (min snr (2 ^ R.RAD_UL_STAT_SNR.width - 1)) m 0) (by decide)
  exact .ite hsnr (hsnr.next (.rad _ _) (by decide))

/-- An uplink outside the window: counted, the machine told to resynchronize, recorded (R261). -/
def Dev.uplinkOutside (d : Dev) (m : Nat) (ofs : Int) : Dev :=
  { d.inc R.RAD_ERR_WINDOW with rad := { d.rad with resync := d.rad.resync ++ [m] } }.record 0x0705 (u8 m ++ s32 ofs)

/-- An uplink that passes the checks of R245 is taken, or lies outside the window. -/
theorem Dev.uplinkRx_heard {d e : Dev} {slot m snr : Nat} {ofs : Int} {f p : List Byte} (mach : slotMach slot = some m)
    (time : d.now ≤ d.slotStart (slot + 1)) (reins : d.reins = true) (level : d.level ≠ 0)
    (takes : (d.passTo (d.slotStart (slot + 1))).discards = false)
    (rx : (d.passTo (d.slotStart (slot + 1))).receiveMach f m (fType f == 4 && fDst f == 0xF0) = (some p, e)) :
    d.uplinkRx slot ofs snr f = if e.get R.RAD_TIMING_WIN * 16 < ofs.natAbs then (e.uplinkShown m ofs snr).uplinkOutside m ofs
      else (e.uplinkShown m ofs snr).uplinkTake m slot ofs p := by
  have hwin : (e.uplinkShown m ofs snr).get R.RAD_TIMING_WIN = e.get R.RAD_TIMING_WIN := (DevFrame.uplinkShown e m ofs snr).readRad (by decide) 0 0
  unfold Dev.uplinkRx
  simp only [mach]
  rw [if_neg (by simp [reins, level]; omega), if_neg (by simp [takes])]
  simp only [rx]
  rw [← hwin]
  rfl

theorem exec_uplinkRx {s : State} (run : s.dev.runs .rad = true) (slot : Nat) (ofs : Int) (snr : Nat) (f : List Byte) :
    exec (.uplinkRx slot ofs snr f) s = .next { s with dev := s.dev.uplinkRx slot ofs snr f } :=
  onRun_next (f := fun d => d.uplinkRx slot ofs snr f) run

/-! ### An uplink taken (R255, R256) -/

/-- What a payload reports (R255). -/
def Dev.uplOf (d : Dev) (slot : Nat) (p : List Byte) : Upl :=
  { t := d.slotStart slot, sf := d.sfn, seg := fld p 16 2, ofs := fld p 18 2, speed := fld p 12 2, age := fld p 20 2, sigma := fld p 30 1, authSeq := fld p 22 2 }

/-- The uplink acknowledged and kept; MISSED starts anew. -/
def Dev.uplinkKept (d : Dev) (m slot : Nat) (ofs : Int) (p : List Byte) : Dev :=
  { d with
    rad := { d.rad with
      ulAck := d.rad.ulAck ++ [m]
      tcorr := if d.get R.RAD_TIMING_TCORR_THR * 16 < ofs.natAbs then d.rad.tcorr ++ [(m, ofs)] else d.rad.tcorr
      sleep := if bitOf (fld p 0 1) 3 then tabPut d.rad.sleep m (d.slotStart 0 + fld p 1 1 * second) else tabDel d.rad.sleep m }
    rsv := { d.rsv with upl := tabPut d.rsv.upl m (d.uplOf slot p) } }.set R.RAD_UL_STAT_MISSED 0 m

/-- What reservation and supervision do with an uplink: acknowledgement, intrusion, occupation, judgement, release. -/
def Dev.uplinkJudged (d : Dev) (m : Nat) (u : Upl) : Dev :=
  let d := d.authAck m u
  let d := if u.seg < 2048 && d.holder u.seg == m then d else d.intrusion m u.seg u.speed
  (((((d.occupy m u.seg).supervise m u).release m u).shortUplink m u).joinView m)

theorem Dev.uplinkTake_eq (d : Dev) (m slot : Nat) (ofs : Int) (p : List Byte) : d.uplinkTake m slot ofs p =
    (((((d.uplinkKept m slot ofs p).autoUplink m (bitOf (fld p 0 1) 0)).uplinkJudged m (d.uplOf slot p)).uplinkEvent m (d.slotStart slot) p)).settle := rfl

theorem SupStep.uplinkJudged (d : Dev) (m : Nat) (u : Upl) : SupStep d (d.uplinkJudged m u) := by
  unfold Dev.uplinkJudged
  extract_lets d1 d2
  have h1 : SupStep d d1 := .authAck d m u
  have h2 : SupStep d d2 := .ite h1 (h1.trans (.intrusion _ _ _ _))
  exact ((((h2.trans (.occupy _ _ _)).trans (.supervise _ _ _)).trans (.release _ _ _)).trans (.shortUplink _ _ _)).trans (.joinView _ _)

theorem DevFrame.autoUplink (d : Dev) (m : Nat) (want : Bool) : DevFrame [.yrd] [] [] d (d.autoUplink m want) := by
  unfold Dev.autoUplink
  split
  · exact .yrd d _
  · exact .ite (.yrd d _) (.refl _ _ _ d)

/-- What the acknowledgement, the position and MISSED of a machine read. -/
structure UplinkKept (m : Nat) (a b : Dev) : Prop where
  ack : b.rad.ulAck = a.rad.ulAck
  upl : b.rsv.upl = a.rsv.upl
  missed : b.get R.RAD_UL_STAT_MISSED m = a.get R.RAD_UL_STAT_MISSED m

namespace UplinkKept

theorem trans {m : Nat} {a b c : Dev} (h : UplinkKept m a b) (k : UplinkKept m b c) : UplinkKept m a c :=
  ⟨k.ack.trans h.ack, k.upl.trans h.upl, k.missed.trans h.missed⟩

/-- A step outside the radio and reservation. -/
theorem of_frame {m : Nat} {ps : List Part} {ws : List Nat} {a b : Dev} (h : DevFrame ps ws [] a b) (rad : .rad ∉ ps) (rsv : .rsv ∉ ps)
    (win : R.RAD_UL_STAT_MISSED.block ∉ ws) : UplinkKept m a b :=
  ⟨congrArg Rad.ulAck (h.keeps_rad rad), congrArg Rsv.upl (h.keeps_rsv rsv), h.readRad ⟨by decide, win, List.not_mem_nil⟩ m 0⟩

theorem of_sup {m : Nat} {a b : Dev} (h : SupStep a b) : UplinkKept m a b :=
  ⟨congrArg Rad.ulAck (h.keeps_rad (by decide)), h.upl, h.readRad (by decide) m 0⟩

theorem fifoPut (m : Nat) (d : Dev) (e : MEvt) : UplinkKept m d (d.fifoPut e) := by
  unfold Dev.fifoPut
  extract_lets wb d1 d2
  have h1 : DevFrame ([.wb] ++ reports) (0x0A :: reportWs) [] d d1 := ⟨rfl, .of_regs rfl⟩
  have h2 : DevFrame ([.wb] ++ reports) (0x0A :: reportWs) [] d d2 :=
    (h1.next (.setIn (ws := [0x0A]) d1 (by decide) _ 0 0) (by decide)).next (.setIn (ws := [0x0A]) _ (by decide) _ 0 0) (by decide)
  have hfull : DevFrame ([.wb] ++ reports) (0x0A :: reportWs) [] d2 { d2 with wb := { d2.wb with fifoFull := true } } := ⟨rfl, .of_regs rfl⟩
  exact .of_frame (.ite h2 ((h2.trans hfull).next (.record _ _ _) (by decide))) (by decide) (by decide) (by decide)

/-- The event of an uplink enters the FIFO, or is to be repeated. -/
theorem uplinkEvent (m k t : Nat) (d : Dev) (p : List Byte) : UplinkKept m d (d.uplinkEvent k t p) := by
  unfold Dev.uplinkEvent
  extract_lets code
  split
  · exact ⟨rfl, rfl, rfl⟩
  · split
    · exact fifoPut m d _
    · exact ⟨rfl, rfl, rfl⟩

end UplinkKept

/-- What an uplink taken shows: acknowledged, its position kept, none missed. -/
theorem Dev.uplinkTake_shows (d : Dev) {m slot : Nat} (h : m < 240) (ofs : Int) (p : List Byte) : ∃ x : Dev, d.uplinkTake m slot ofs p = x.settle ∧
    m ∈ x.rad.ulAck ∧ tabFind x.rsv.upl m = some (d.uplOf slot p) ∧ x.get R.RAD_UL_STAT_MISSED m = 0 := by
  obtain ⟨hack, hupl, hmissed⟩ := ((UplinkKept.of_frame (m := m) (.autoUplink (d.uplinkKept m slot ofs p) m (bitOf (fld p 0 1) 0)) (by decide) (by decide)
    (by decide)).trans (.of_sup (.uplinkJudged _ m (d.uplOf slot p)))).trans (.uplinkEvent m m (d.slotStart slot) _ p)
  refine ⟨_, d.uplinkTake_eq m slot ofs p, ?_, ?_, ?_⟩
  · rw [hack]
    exact List.mem_append_right _ (List.mem_singleton.2 rfl)
  · rw [hupl]
    exact tabFind_put_self _ _ _
  · rw [hmissed]
    exact (Dev.get_set_self _ _ _ _ _ (has_UL_STAT_MISSED h)).trans (Nat.zero_mod _)

/-! ### An uplink missed (R263, R279) -/

/-- A count in one copy of a field. -/
theorem Dev.get_inc_copy (d : Dev) {f : Fld} {i : Nat} (a : f.has i 0 = true) : (d.inc f i).get f i = min (d.get f i + 1) (2 ^ f.width - 1) := by
  have hpos : 0 < 2 ^ f.width := Nat.two_pow_pos _
  rw [Dev.inc, Dev.sat, Dev.get_set_self _ _ _ _ _ a]
  exact Nat.mod_eq_of_lt (by omega)

theorem DevFrame.ulMissed (d : Dev) (m : Nat) (u : Upl) : DevFrame [] [] [R.RAD_UL_STAT_MISSED] d (d.ulMissed m u) :=
  .ite (.refl _ _ _ d) (.setRad d (by decide) _ m 0)

theorem DevFrame.admitted_eq {ps : List Part} {ws : List Nat} {fs : List Fld} {a b : Dev} (h : DevFrame ps ws fs a b)
    (o : OutsideRad ws fs R.RAD_ADMIT_VALID_VALID) (m : Nat) : b.admitted m = a.admitted m := by
  simp only [Dev.admitted, Dev.bit, h.readRad o]

/-- MISSED of another machine stays. -/
theorem Dev.missed_ulMissed_other (d : Dev) {k m : Nat} (n : m ≠ k) (u : Upl) :
    (d.ulMissed k u).get R.RAD_UL_STAT_MISSED m = d.get R.RAD_UL_STAT_MISSED m := by
  unfold Dev.ulMissed
  extract_lets asleep
  split
  · rfl
  · exact Dev.get_set_ne d _ (.inr (by simp only [Fld.key, R.RAD_UL_STAT_MISSED, mk1]; omega))

/-- A machine whose uplink is expected and did not come. -/
structure Expected (d : Dev) (m : Nat) (u : Upl) : Prop where
  old : u.sf ≠ d.sfn
  awake : tabFind d.rad.sleep m = none
  admitted : d.admitted m = true

theorem Expected.of_frame {d e : Dev} {m : Nat} {u : Upl} (h : Expected d m u) (sfn : e.sfn = d.sfn) (rad : e.rad = d.rad)
    (admitted : e.admitted m = d.admitted m) : Expected e m u :=
  ⟨sfn.symm ▸ h.old, rad.symm ▸ h.awake, admitted.trans h.admitted⟩

theorem Expected.missed_ulMissed {d : Dev} {m : Nat} {u : Upl} (h : Expected d m u) (hm : m < 240) :
    (d.ulMissed m u).get R.RAD_UL_STAT_MISSED m = min (d.get R.RAD_UL_STAT_MISSED m + 1) (2 ^ R.RAD_UL_STAT_MISSED.width - 1) := by
  have hcounts : d.ulMissed m u = d.inc R.RAD_UL_STAT_MISSED m := by simp [Dev.ulMissed, h.old, h.awake, h.admitted]
  rw [hcounts, Dev.get_inc_copy d (has_UL_STAT_MISSED hm)]

/-- MISSED of the machines of a list. -/
def Dev.ulsMissed (d : Dev) (l : Tab Upl) : Dev := l.foldl (fun (d : Dev) (x : Nat × Upl) => d.ulMissed x.1 x.2) d

theorem Dev.missed_ulsMissed_other {l : Tab Upl} {m : Nat} (n : ∀ x ∈ l, m ≠ x.1) (d : Dev) :
    (d.ulsMissed l).get R.RAD_UL_STAT_MISSED m = d.get R.RAD_UL_STAT_MISSED m :=
  List.foldlRecOn (motive := fun e : Dev => e.get R.RAD_UL_STAT_MISSED m = d.get R.RAD_UL_STAT_MISSED m) l _ rfl fun e he x hx =>
    (e.missed_ulMissed_other (n x hx) x.2).trans he

/-- Each machine stands in the list once: its uplink missed counts once. -/
theorem Expected.missed_ulsMissed {l : Tab Upl} {d : Dev} {m : Nat} {u : Upl} (h : Expected d m u) (hm : m < 240) (wf : tabWf l = true)
    (listed : tabFind l m = some u) :
    (d.ulsMissed l).get R.RAD_UL_STAT_MISSED m = min (d.get R.RAD_UL_STAT_MISSED m + 1) (2 ^ R.RAD_UL_STAT_MISSED.width - 1) := by
  have hsorted : l.Pairwise fun a b => a.1 < b.1 := of_decide_eq_true wf
  clear wf
  induction l generalizing d with
  | nil => cases listed
  | cons x l ih =>
    obtain ⟨k, w⟩ := x
    obtain ⟨hfirst, hrest⟩ := List.pairwise_cons.1 hsorted
    have hcons : d.ulsMissed ((k, w) :: l) = (d.ulMissed k w).ulsMissed l := rfl
    rw [hcons]
    by_cases e : m = k
    · subst e
      simp only [tabFind, if_true, Option.some.injEq] at listed
      subst listed
      rw [Dev.missed_ulsMissed_other (fun x hx => Nat.ne_of_lt (hfirst x hx)), h.missed_ulMissed hm]
    · simp only [tabFind, e, if_false] at listed
      have hframe := DevFrame.ulMissed d k w
      rw [ih (h.of_frame (hframe.sfn_eq (by decide)) (hframe.keeps_rad (by decide)) (hframe.admitted_eq (by decide) m)) listed hrest,
        d.missed_ulMissed_other e]

/-- The judgement of missed uplinks under supervision (R337) leaves the rest to the count of R263. -/
theorem SupStep.missCount (d : Dev) : SupStep (d.passTo (d.slotStart 347)) (d.missCount false) := by
  unfold Dev.missCount
  extract_lets x
  exact .ite (.refl x) (.foldl (fun d (p : Nat × BrkM) => .missOne d p.1) _ x)

/-- Time passed to the end of slot 346: the superframe is the same. -/
theorem Dev.missCount_sfn {d : Dev} (goes : d.timeGoes = true) : (d.missCount false).sfn = d.sfn :=
  ((SupStep.missCount d).sfn_eq (by decide)).trans (Dev.sfn_passToSlot goes (by decide))

theorem exec_missCount {s : State} (run : s.dev.runs .safe = true) (timed : s.dev.timed = true) (takes : s.dev.discards = false) :
    exec .missCount s = .next { s with dev := ((s.dev.missCount false).ulsMissed (s.dev.missCount false).rsv.upl).settle } := by
  have htakes : (s.dev.missCount false).discards = false := by
    refine Eq.trans ?_ takes
    simp only [Dev.discards, Dev.missCount_sfn (Dev.timeGoes_of_timed timed), (SupStep.missCount s.dev).keeps_rad (by decide)]
    rfl
  simp only [exec, execMissCount, onRun, onDev, run, timed, takes, htakes, if_true, Bool.not_true, Bool.false_eq_true, if_false]
  rfl

/-- Settles O33: an uplink taken; one outside the window; one expected and missed. -/
theorem uplinks : Obligations.Uplinks := by
  unfold Obligations.Uplinks
  refine ⟨fun slot m snr ofs f p e s run mach time reins level takes rx within => ?_,
    fun slot m snr ofs f p e s run mach time reins level takes rx outside => ?_, fun m u s run timed wf listed old awake admitted takes hm => ?_⟩
  · obtain ⟨x, hx, hack, hupl, hmissed⟩ := (e.uplinkShown m ofs snr).uplinkTake_shows (slot := slot) (slotMach_lt mach) ofs p
    refine ⟨_, exec_uplinkRx run slot ofs snr f, x, ?_, hack, by rw [hupl]; rfl, hmissed⟩
    dsimp only
    rw [Dev.uplinkRx_heard mach time reins level takes rx, if_neg (Nat.not_lt.2 within), hx]
  · have hshown := DevFrame.uplinkShown e m ofs snr
    refine ⟨_, exec_uplinkRx run slot ofs snr f, ?_⟩
    dsimp only
    rw [Dev.uplinkRx_heard mach time reins level takes rx, if_pos outside]
    refine ⟨?_, ?_, ?_, ?_⟩
    · rw [Dev.uplinkOutside, Dev.record_rad]
      exact List.mem_append_right _ (List.mem_singleton.2 rfl)
    · exact (Dev.record_rsv _ _ _).trans (hshown.keeps_rsv (by decide))
    · exact (Dev.record_brk _ _ _).trans (hshown.keeps_brk (by decide))
    · exact (Dev.record_wb _ _ _).trans (hshown.keeps_wb (by decide))
  · have hstep := SupStep.missCount s.dev
    have hexpected : Expected (s.dev.missCount false) m u := (Expected.mk old awake admitted).of_frame
      (Dev.missCount_sfn (Dev.timeGoes_of_timed timed)) (hstep.keeps_rad (by decide)) (hstep.admitted_eq (by decide) m)
    refine ⟨_, exec_missCount run timed takes, ?_⟩
    dsimp only
    refine ⟨_, rfl, ?_⟩
    rw [hexpected.missed_ulsMissed hm (hstep.upl.symm ▸ wf) (hstep.upl.symm ▸ listed), hstep.readRad (by decide)]
    rfl

end Sys2Proof.Machine
end

section
/-!
PROOFS. Joins, site beacons and the partner's cell beacon heard (R18, R258, R260, R264-R267, R620).
-/

namespace Sys2Proof.Machine

/-! ### Tables filtered -/

theorem tabFind_filter_of_none {α : Type} {t : Tab α} {k : Nat} (h : tabFind t k = none) (p : Nat × α → Bool) : tabFind (t.filter p) k = none := by
  induction t with
  | nil => rfl
  | cons x t ih =>
    obtain ⟨j, w⟩ := x
    by_cases e : k = j
    · simp [tabFind, e] at h
    · simp only [tabFind, e, if_false] at h
      rw [List.filter_cons]
      split
      · simp only [tabFind, e, if_false, ih h]
      · exact ih h

theorem tabFind_filter_of_some {α : Type} {t : Tab α} {k : Nat} {v : α} (h : tabFind t k = some v) {p : Nat × α → Bool} (keep : p (k, v) = true) :
    tabFind (t.filter p) k = some v := by
  induction t with
  | nil => cases h
  | cons x t ih =>
    obtain ⟨j, w⟩ := x
    by_cases e : k = j
    · subst e
      simp only [tabFind, if_true, Option.some.injEq] at h
      subst h
      simp [keep, tabFind]
    · simp only [tabFind, e, if_false] at h
      rw [List.filter_cons]
      split
      · simp only [tabFind, e, if_false, ih h]
      · exact ih h

/-! ### Joining (R258, R260) -/

/-- What an accepted join leaves of the radio's state: the entry cleared, the response queued for the next superframe. -/
def Dev.joinNoted (d : Dev) (serial m fcnt : Nat) : Dev :=
  { d with rad := { d.rad with
    hwM := tabDel d.rad.hwM m, hwSer := tabPut d.rad.hwSer serial fcnt, sleep := tabDel d.rad.sleep m
    keyQ := d.rad.keyQ ++ [({ join := true, serial := serial, m := m, sf := d.sfn + 1 } : KeyFr)] } }

/-- The machine's authority void, as shown. -/
def Dev.joinVoided (d : Dev) (m : Nat) : Dev := (d.voidAuth m).brkView m

/-- The waybill engine is told that the machine lost its waybill, and the join is recorded. -/
def Dev.joinTold (d : Dev) (serial m : Nat) : Dev :=
  { d with wb := { d.wb with port := d.wb.port ++ [WbIn.lost m 1] } }.record 0x0706 (u64 serial ++ u8 m)

theorem Dev.joinTake_eq (d : Dev) (serial m fcnt : Nat) :
    d.joinTake serial m fcnt = (((d.joinNoted serial m fcnt).joinVoided m).joinTold serial m).settle := rfl

theorem BrkStep.joinVoided (d : Dev) (m : Nat) : BrkStep d (d.joinVoided m) := (BrkStep.voidAuth d m).trans (.brkView _ m)

/-- A machine whose authority became void holds none (R325). -/
theorem Dev.authOf_voidAuth (d : Dev) (m : Nat) : (d.voidAuth m).authOf m = none := by
  unfold Dev.voidAuth
  extract_lets b call
  split
  · next h =>
    obtain ⟨hnone, -⟩ := (Bool.and_eq_true _ _).mp h
    exact Option.isNone_iff_eq_none.1 hnone
  · exact congrArg BrkM.auth (tabGet_put_self _ _ _)

/-- What an accepted join shows. -/
theorem Dev.joinTold_shows (d : Dev) (serial m fcnt : Nat) :
    let x := ((d.joinNoted serial m fcnt).joinVoided m).joinTold serial m
    x.rad = (d.joinNoted serial m fcnt).rad ∧ x.authOf m = none ∧ WbIn.lost m 1 ∈ x.wb.port := by
  have hvoid := (BrkStep.joinVoided (d.joinNoted serial m fcnt) m).devFrame
  refine ⟨?_, ?_, ?_⟩
  · exact (Dev.record_rad _ _ _).trans (hvoid.keeps_rad (by decide))
  · rw [Dev.joinTold, Dev.authOf, Dev.brkM, Dev.record_brk]
    exact Dev.authOf_voidAuth _ m
  · rw [Dev.joinTold, Dev.record_wb]
    exact List.mem_append_right _ (List.mem_singleton.2 rfl)

/-- The serial that a join names is one admitted. -/
def Dev.knownSerial (d : Dev) (f : List Byte) : Bool := (List.range 240).any fun m => d.admitted m && d.serialOf m == fld f 8 8

/-- A JOIN frame heard in its slot, that passes the checks and is admitted, is taken. -/
theorem Dev.joinRx_takes {d e : Dev} {slot m : Nat} {f p : List Byte} (low : 380 ≤ slot) (high : slot ≤ 395) (time : d.now ≤ d.slotStart (slot + 1))
    (reins : d.reins = true) (level : d.level ≠ 0) (takes : (d.passTo (d.slotStart (slot + 1))).discards = false)
    (rx : (d.passTo (d.slotStart (slot + 1))).receive f 49 8
      (d.knownSerial f && fType f == 6 && fCell f == d.cellNo && fSrc f == 0xFE && fDst f == 0xF0 && !fSite f)
      (d.joinKey (fld f 8 8)) (tabFind d.rad.hwSer (fld f 8 8)) = (some p, e))
    (accepted : e.admitFor (fld f 8 8) (fld p 9 1) = some m) : d.joinRx slot f = e.joinTake (fld f 8 8) m (fCnt f) := by
  unfold Dev.joinRx
  rw [if_neg (by simp [reins, level]; omega)]
  extract_lets x serial known
  rw [if_neg (by simp [x, takes])]
  split
  · next h => cases h.symm.trans rx
  · next h =>
    cases h.symm.trans rx
    simp only [serial, accepted]

theorem exec_joinRx {s : State} (run : s.dev.runs .rad = true) (slot : Nat) (f : List Byte) :
    exec (.joinRx slot f) s = .next { s with dev := s.dev.joinRx slot f } :=
  onRun_next (f := fun d => d.joinRx slot f) run

/-! ### Site beacons heard (R18, R264-R267) -/

/-- A device heard enters the list of eligible devices, or leaves it. -/
def Dev.heardNoted (d : Dev) (w : Nat) : Dev :=
  { d with rad := { d.rad with heard := if bitOf w 11 then tabPut d.rad.heard (w % 1024) (bits w 12 4, d.clk.mono) else tabDel d.rad.heard (w % 1024) } }

theorem Dev.heard_heardPrune (d : Dev) : d.heardPrune.rad.heard = d.rad.heard.filter fun x => d.clk.mono ≤ x.2.2 + 60 * second := rfl

/-- The list after a device was heard. -/
theorem Dev.heard_heardNoted (d : Dev) (w : Nat) :
    tabFind (d.heardNoted w).heardPrune.rad.heard (w % 1024) = if bitOf w 11 then some (bits w 12 4, d.clk.mono) else none := by
  rw [Dev.heard_heardPrune]
  unfold Dev.heardNoted
  dsimp only
  split
  · exact tabFind_filter_of_some (tabFind_put_self _ _ _) (by simp)
  · exact tabFind_filter_of_none (tabFind_del_self _ _) _

/-- A site beacon heard in its slot that passes the checks: the device's own ID, or another device's. -/
theorem Dev.siteRx_takes {d e : Dev} {slot : Nat} {f p : List Byte} (low : 396 ≤ slot) (high : slot ≤ 399) (time : d.now ≤ d.slotStart (slot + 1))
    (rx : (d.passTo (d.slotStart (slot + 1) - 1)).receiveSite f (fType f == 7 && siteDst f) = (some p, e)) (ofs : Int) :
    d.siteRx slot ofs f = if fld p 0 2 % 1024 = e.id then e.dupId
      else if bitOf (fld p 0 2) 10 then
        (e.heardNoted (fld p 0 2)).heardPrune.masterHeard (fld p 0 2 % 1024) (fCell f) (bits (fld p 0 2) 12 4) slot ofs p
      else (e.heardNoted (fld p 0 2)).heardPrune := by
  unfold Dev.siteRx
  rw [if_neg (by simp; omega)]
  simp only [rx]
  rfl

/-- A device that hears its own ID shows it (R18, R269). -/
theorem Dev.dupId_shows (d : Dev) : d.dupId.get R.RAD_STATUS_DUP_ID = 1 := by
  unfold Dev.dupId
  split
  · next h =>
    have hlt : d.get R.RAD_STATUS_DUP_ID < 2 := d.get_lt R.RAD_STATUS_DUP_ID 0 0
    have hne : d.get R.RAD_STATUS_DUP_ID ≠ 0 := by simpa [Dev.on] using h
    omega
  · rw [(DevFrame.record _ _ _).readRad (by decide), (DevFrame.radRole _).readRad (by decide), Dev.get_set_self _ _ _ _ _ (by decide)]
    rfl

theorem exec_siteBeaconRx {s : State} (run : s.dev.runs .rad = true) (slot : Nat) (ofs : Int) (f : List Byte) :
    exec (.siteBeaconRx slot ofs f) s = .next { s with dev := s.dev.siteRx slot ofs f } :=
  onRun_next (f := fun d => d.siteRx slot ofs f) run

/-! ### The partner's cell beacon (R18, R620) -/

/-- The cell beacon of the partner, heard. -/
def Dev.partnerHeard (d : Dev) : Dev := { d with rad := { d.rad with cellBcn := d.sfn + 1 } }.selfOk 3

theorem DevFrame.partnerHeard (d : Dev) : DevFrame [.rad] [] [R.IMG_PART_STAT_SELF_OK] d d.partnerHeard := by
  have hself : ∀ d : Dev, DevFrame [] [] [R.IMG_PART_STAT_SELF_OK] d (d.selfOk 3) := fun d =>
    .of_regs (d.selfOk_eq_regs 3) (.selfOk d 3 (List.mem_singleton.2 rfl))
  exact ((DevFrame.rad d { d.rad with cellBcn := d.sfn + 1 }).mono (by decide)).next (hself _) (by decide)

theorem Dev.cellBcn_partnerHeard (d : Dev) : d.partnerHeard.rad.cellBcn = d.sfn + 1 := by
  rw [Dev.partnerHeard, Dev.selfOk_eq_regs]

/-- A device without the reins that hears a cell beacon which is not its own takes it for the partner's. -/
theorem Dev.cellBeaconRx_takes {d e : Dev} {f p : List Byte} (reins : d.reins = false) (silent : d.rad.bcnSf ≠ d.sfn + 1)
    (rx : (d.passTo (d.slotStart 4)).receive f 237 0 (fType f == 0 && fCell f == d.cellNo && fSrc f == 0xF0 && fDst f == 0xFF && !fSite f)
      ((d.passTo (d.slotStart 4)).cellRxKey (fGen f)) none = (some p, e)) (other : fld p 20 2 % 1024 ≠ e.id) :
    d.cellBeaconRx f = e.partnerHeard := by
  have he : e = d.passTo (d.slotStart 4) := Dev.receive_taken rx
  have hreins : e.reins = false := by rw [he]; exact reins
  unfold Dev.cellBeaconRx
  rw [if_neg silent]
  extract_lets x
  split
  · next h => cases h.symm.trans rx
  · next h =>
    cases h.symm.trans rx
    rw [if_neg other, if_neg (by rw [hreins]; decide)]
    rfl

theorem exec_cellBeaconRx {s : State} (run : s.dev.runs .rad = true) (f : List Byte) :
    exec (.cellBeaconRx f) s = .next { s with dev := s.dev.cellBeaconRx f } :=
  onRun_next (f := fun d => d.cellBeaconRx f) run

/-- Settles O34: a join taken; another device heard; the device's own ID heard; the partner's cell beacon. -/
theorem joinsAndSiteBeacons : Obligations.JoinsAndSiteBeacons := by
  unfold Obligations.JoinsAndSiteBeacons
  refine ⟨fun slot m f p e s run low high time reins level takes rx accepted => ?_, fun slot ofs f p e s run low high time rx other follower => ?_,
    fun slot ofs f p e s run low high time rx own => ?_, fun f p e s run reins silent rx other => ?_⟩
  · obtain ⟨hrad, hauth, hport⟩ := e.joinTold_shows (fld f 8 8) m (fCnt f)
    refine ⟨_, exec_joinRx run slot f, ((e.joinNoted (fld f 8 8) m (fCnt f)).joinVoided m).joinTold (fld f 8 8) m, ?_, ?_, ?_, ?_, hauth, hport⟩
    · exact (Dev.joinRx_takes low high time reins level takes rx accepted).trans (e.joinTake_eq _ _ _)
    · rw [hrad]
      exact tabFind_del_self _ _
    · rw [hrad]
      exact tabFind_put_self _ _ _
    · rw [hrad]
      exact ⟨_, List.mem_append_right _ (List.mem_singleton.2 rfl), rfl, rfl, rfl⟩
  · refine ⟨_, exec_siteBeaconRx run slot ofs f, ?_⟩
    dsimp only
    rw [Dev.siteRx_takes low high time rx, if_neg other, if_neg (by rw [follower]; decide)]
    exact e.heard_heardNoted _
  · refine ⟨_, exec_siteBeaconRx run slot ofs f, ?_⟩
    dsimp only
    rw [Dev.siteRx_takes low high time rx, if_pos own]
    exact e.dupId_shows
  · have he : e = s.dev.passTo (s.dev.slotStart 4) := Dev.receive_taken rx
    refine ⟨_, exec_cellBeaconRx run f, ?_⟩
    dsimp only
    rw [Dev.cellBeaconRx_takes reins silent rx other]
    refine ⟨e.cellBcn_partnerHeard, ?_⟩
    rw [he]
    exact (((DevFrame.passTo s.dev _).mono (by decide)).next (.partnerHeard _) (by decide)).frame

end Sys2Proof.Machine
end

section
/-!
PROOFS. Which device is the site's time master (R181, R265, R268): beacons missed, a claim, a resignation.
-/

namespace Sys2Proof.Machine

/-! ### Beacons missed (R265) -/

/-- A beacon missed is counted. -/
def Dev.missNoted (d : Dev) : Dev :=
  { d with rad := { d.rad with miss := d.rad.miss + 1, missSf := d.sfn + 1 } }.sat R.RAD_STATUS_MISSED (d.rad.miss + 1)

/-- Slot 396 has passed without the master's beacon. -/
def Dev.beaconMissed (d : Dev) : Dev := (d.passTo (d.slotStart 397)).missNoted

theorem DevFrame.beaconMissed (d : Dev) : DevFrame [.clk, .rad] [] [R.RAD_STATUS_MISSED] d d.beaconMissed :=
  (((DevFrame.passTo d (d.slotStart 397)).mono (by decide)).next (.rad _ _) (by decide)).next (.setRad _ (by decide) _ 0 0) (by decide)

theorem Dev.miss_beaconMissed (d : Dev) : d.beaconMissed.rad.miss = d.rad.miss + 1 := rfl

theorem Dev.missSf_beaconMissed {d : Dev} (goes : d.timeGoes = true) : d.beaconMissed.rad.missSf = d.sfn + 1 :=
  congrArg (· + 1) (Dev.sfn_passToSlot goes (n := 397) (by decide))

/-- The beacon is a time source no longer. -/
def Dev.beaconGone (d : Dev) : Dev := { d with tim := { d.tim with beaconOk := false } }

/-- The device holds at EoA and runs free. -/
def Dev.heldFree (d : Dev) : Dev :=
  ((((d.set R.RAD_STATUS_HOLD_EOA 1).set R.RAD_STATUS_FREE 1).record 0x0701 (u8 (Config.argCode 0x0701 0)))).brkViewAll

section
variable {d : Dev} (goes : d.timeGoes = true) (follower : d.master = false) (valid : d.on R.RAD_SITE_STAT_MASTER_VALID = true)
  (unseen : d.rad.seenSf ≠ d.sfn + 1) (fresh : d.rad.missSf ≠ d.sfn + 1)
include goes follower valid unseen fresh

/-- A follower counts a beacon it missed; the third in a row takes the beacon from it. -/
theorem Dev.masterMiss_eq : d.masterMiss = if d.beaconMissed.rad.miss != 3 then d.beaconMissed else
    (if d.beaconMissed.get R.TIME_STATUS_SRC == 3 then d.beaconMissed.beaconGone.heldFree else d.beaconMissed.beaconGone).timeSource := by
  have hsfn : (d.passTo (d.slotStart 397)).sfn = d.sfn := Dev.sfn_passToSlot goes (by decide)
  have hmaster : (d.passTo (d.slotStart 397)).master = false := follower
  have hvalid : (d.passTo (d.slotStart 397)).on R.RAD_SITE_STAT_MASTER_VALID = true := valid
  unfold Dev.masterMiss
  rw [if_neg (by simp [hmaster, hvalid, hsfn, unseen, fresh])]
  rfl

theorem Dev.masterMiss_few (few : d.rad.miss ≠ 2) : d.masterMiss = d.beaconMissed := by
  rw [Dev.masterMiss_eq goes follower valid unseen fresh, if_pos (by simpa [Dev.miss_beaconMissed] using few)]

theorem Dev.masterMiss_third (third : d.rad.miss = 2) (src : d.get R.TIME_STATUS_SRC = 3) :
    d.masterMiss = d.beaconMissed.beaconGone.heldFree.timeSource := by
  have hsrc : d.beaconMissed.get R.TIME_STATUS_SRC = 3 := ((DevFrame.beaconMissed d).readRad (by decide) 0 0).trans src
  rw [Dev.masterMiss_eq goes follower valid unseen fresh, if_neg (by simp [Dev.miss_beaconMissed, third]), if_pos (beq_iff_eq.2 hsrc)]

end

/-- The device that holds shows it, and that it runs free. -/
theorem Dev.heldFree_shows (d : Dev) : d.heldFree.get R.RAD_STATUS_HOLD_EOA = 1 ∧ d.heldFree.get R.RAD_STATUS_FREE = 1 ∧ d.heldFree.tim = d.tim := by
  have hrec := (DevFrame.record_exact ((d.set R.RAD_STATUS_HOLD_EOA 1).set R.RAD_STATUS_FREE 1) 0x0701 (u8 (Config.argCode 0x0701 0))).mono
    (ps' := [.brk] ++ reports) (ws' := [0x12]) (fs' := itemFlds ++ brkFlds) (by decide)
  have hafter : DevFrame ([.brk] ++ reports) [0x12] (itemFlds ++ brkFlds) ((d.set R.RAD_STATUS_HOLD_EOA 1).set R.RAD_STATUS_FREE 1) d.heldFree :=
    hrec.next (BrkStep.brkViewAll _).devFrame (by decide)
  refine ⟨?_, ?_, hafter.keeps_tim (by decide)⟩
  · rw [hafter.readRad (by decide), Dev.get_set_rad _ (by decide) (by decide) (by decide), Dev.get_set_self _ _ _ _ _ (by decide)]
    rfl
  · rw [hafter.readRad (by decide), Dev.get_set_self _ _ _ _ _ (by decide)]
    rfl

/-! ### The choice of the time source leaves the beacon's state (R181) -/

theorem Dev.beaconOk_timeStatus (d : Dev) : d.timeStatus.tim.beaconOk = d.tim.beaconOk := by
  unfold Dev.timeStatus
  extract_lets src ho was d1 d2
  have h2 : d2.tim.beaconOk = d.tim.beaconOk := rfl
  split
  · rw [Dev.record_tim, h2]
  · exact h2

theorem Dev.beaconOk_timeError (d : Dev) (e : Int) : (d.timeError e).tim.beaconOk = d.tim.beaconOk := by
  unfold Dev.timeError
  extract_lets d1 d2 t
  repeat' split
  all_goals rfl

theorem Dev.beaconOk_timeSource (d : Dev) : d.timeSource.tim.beaconOk = d.tim.beaconOk := by
  unfold Dev.timeSource
  extract_lets old new u d1 l d2 clk tim d3 tim' d4 d5 d6
  have h2 : d2.tim.beaconOk = d.tim.beaconOk := by
    unfold d2
    split
    · rfl
    · rfl
  have h5 : d5.tim.beaconOk = d.tim.beaconOk := by
    unfold d5
    split
    · exact h2
    · split
      · exact Dev.beaconOk_timeError _ _
      · rfl
  split
  · exact d.beaconOk_timeStatus
  · rw [Dev.beaconOk_timeStatus, Dev.record_tim]
    exact h5

/-! ### A claim (R268) -/

theorem DevFrame.heardPrune (d : Dev) : DevFrame [.rad] [] [R.RAD_SITE_STAT_HEARD] d d.heardPrune :=
  ((DevFrame.rad d _).mono (by decide)).next (.setRad _ (by decide) _ 0 0) (by decide)

/-- The master followed, as shown. -/
def Dev.masterShown (d : Dev) (id cell : Nat) : Dev :=
  ((d.set R.RAD_SITE_STAT_MASTER_ID id).set R.RAD_SITE_STAT_MASTER_CELL cell).set R.RAD_SITE_STAT_MASTER_VALID 1

theorem DevFrame.masterShown (d : Dev) (id cell : Nat) : DevFrame [] [] masterFlds d (d.masterShown id cell) :=
  (((DevFrame.setRad d (by decide) id 0 0).mono (by decide)).next (.setRad _ (by decide) cell 0 0) (by decide)).next (.setRad _ (by decide) 1 0 0) (by decide)

theorem Dev.masterShown_shows (d : Dev) (cell : Nat) :
    (d.masterShown d.id cell).get R.RAD_SITE_STAT_MASTER_ID = d.id ∧ (d.masterShown d.id cell).get R.RAD_SITE_STAT_MASTER_VALID = 1 := by
  refine ⟨?_, Dev.get_set_self _ _ _ _ _ (by decide)⟩
  have hlt : d.id < 2 ^ R.RAD_SITE_STAT_MASTER_ID.width := d.get_lt R.ID_DEV_DEV 0 0
  rw [Dev.masterShown, Dev.get_set_rad _ (by decide) (by decide) (by decide), Dev.get_set_rad _ (by decide) (by decide) (by decide),
    Dev.get_set_self _ _ _ _ _ (by decide), Nat.mod_eq_of_lt hlt]

/-- No beacon missed; a master follows none. -/
def Dev.noneMissed (d : Dev) (own : Bool) : Dev :=
  { d with rad := { d.rad with miss := 0 }, tim := { d.tim with beaconOk := d.tim.beaconOk && !own } }.set R.RAD_STATUS_MISSED 0

theorem DevFrame.noneMissed (d : Dev) (own : Bool) : DevFrame [.rad, .tim] [] [R.RAD_STATUS_MISSED] d (d.noneMissed own) := by
  have hupd : DevFrame [.rad, .tim] [] [R.RAD_STATUS_MISSED] d
      { d with rad := { d.rad with miss := 0 }, tim := { d.tim with beaconOk := d.tim.beaconOk && !own } } := ⟨rfl, .of_regs rfl⟩
  exact hupd.next (.setRad _ (by decide) 0 0 0) (by decide)

/-- With the reins and no duplicate of its ID, a master stays master. -/
theorem Dev.radRole_master {d : Dev} (dup : d.on R.RAD_STATUS_DUP_ID = false) (reins : d.reins = true) (role : d.get R.RAD_STATUS_ROLE = 2) :
    d.radRole = d.set R.RAD_STATUS_ROLE 2 := by
  unfold Dev.radRole
  simp [dup, reins, role]

/-- The device shown as the master it follows, in the role of a master. -/
def Dev.ownMaster (d : Dev) (cell : Nat) : Dev := (((d.masterShown d.id cell).noneMissed true).set R.RAD_STATUS_ROLE 2).set R.RAD_STATUS_ROLE 2

/-- A device that takes itself as the master records it, and chooses its time source anew. -/
theorem Dev.setMaster_own {d : Dev} (dup : d.on R.RAD_STATUS_DUP_ID = false) (reins : d.reins = true) (cell cause : Nat) : ∃ arg,
    d.setMaster d.id cell cause = ((d.ownMaster cell).record 0x0702 arg).timeSource := by
  have hshown := (DevFrame.masterShown d d.id cell).mono (ps' := [.rad, .tim]) (ws' := []) (fs' := R.RAD_STATUS_MISSED :: R.RAD_STATUS_ROLE :: masterFlds)
    (by decide)
  have hrole := (hshown.next (.noneMissed _ true) (by decide)).next (.setRad _ (g := R.RAD_STATUS_ROLE) (by decide) 2 0 0) (by decide)
  have hmaster : (((d.masterShown d.id cell).noneMissed true).set R.RAD_STATUS_ROLE 2).radRole = d.ownMaster cell :=
    Dev.radRole_master ((hrole.on_eq (by decide)).trans dup) ((hrole.reins_eq (by decide)).trans reins) (Dev.get_set_self _ _ _ _ _ (by decide))
  refine ⟨u16 (if d.on R.RAD_SITE_STAT_MASTER_VALID then d.get R.RAD_SITE_STAT_MASTER_ID else 0xFFFF) ++ u16 d.id ++ u8 (Config.argCode 0x0702 cause), ?_⟩
  rw [← hmaster]
  unfold Dev.setMaster
  extract_lets old x own tim rad y z
  have hown : own = true := beq_iff_eq.2 (hshown.id_eq (by decide)).symm
  clear_value own
  subst hown
  have hy : y = (d.masterShown d.id cell).noneMissed true := rfl
  clear_value y
  subst hy
  rw [if_pos rfl]
  rfl

/-- The hold of R265 lifted, or not. -/
theorem DevFrame.holdLift (d : Dev) : DevFrame ([.brk] ++ reports) [0x12] ([R.RAD_STATUS_HOLD_EOA, R.RAD_STATUS_FREE] ++ itemFlds ++ brkFlds) d d.holdLift := by
  refine .ite ?_ (.refl _ _ _ d)
  have hset := (DevFrame.setRad d (g := R.RAD_STATUS_HOLD_EOA) (by decide) 0 0 0).mono (ps' := [.brk] ++ reports) (ws' := [0x12])
    (fs' := [R.RAD_STATUS_HOLD_EOA, R.RAD_STATUS_FREE] ++ itemFlds ++ brkFlds) (by decide)
  exact ((hset.next (.setRad _ (g := R.RAD_STATUS_FREE) (by decide) 0 0 0) (by decide)).next (.record_exact _ _ _) (by decide)).next
    (BrkStep.brkViewAll _).devFrame (by decide)

/-- A device that takes itself as the master shows its own ID, and is the master. -/
theorem Dev.setMaster_own_shows {d : Dev} (dup : d.on R.RAD_STATUS_DUP_ID = false) (reins : d.reins = true) (cell cause : Nat) :
    let x := (d.setMaster d.id cell cause).holdLift
    x.get R.RAD_SITE_STAT_MASTER_ID = d.id ∧ x.get R.RAD_SITE_STAT_MASTER_VALID = 1 ∧ x.get R.RAD_STATUS_ROLE = 2 := by
  obtain ⟨arg, harg⟩ := Dev.setMaster_own dup reins cell cause
  obtain ⟨hid, hvalid⟩ := d.masterShown_shows cell
  rw [harg]
  have hown : DevFrame [.rad, .tim] [] [R.RAD_STATUS_MISSED, R.RAD_STATUS_ROLE] (d.masterShown d.id cell) (d.ownMaster cell) :=
    (((DevFrame.noneMissed _ true).mono (by decide)).next (.setRad _ (g := R.RAD_STATUS_ROLE) (by decide) 2 0 0) (by decide)).next
      (.setRad _ (g := R.RAD_STATUS_ROLE) (by decide) 2 0 0) (by decide)
  have hrole : (d.ownMaster cell).get R.RAD_STATUS_ROLE = 2 := Dev.get_set_self _ _ _ _ _ (by decide)
  have hafter : ∀ f, OutsideRad reportWs (R.RAD_STATUS_HOLD_EOA :: R.RAD_STATUS_FREE :: sourceFlds ++ itemFlds ++ brkFlds) f →
      ((d.ownMaster cell).record 0x0702 arg).timeSource.holdLift.get f = (d.ownMaster cell).get f := fun f o => by
    have hrec := (DevFrame.record (d.ownMaster cell) 0x0702 arg).mono (ps' := [.clk, .tim, .brk] ++ reports) (ws' := reportWs)
      (fs' := R.RAD_STATUS_HOLD_EOA :: R.RAD_STATUS_FREE :: sourceFlds ++ itemFlds ++ brkFlds) (by decide)
    exact ((hrec.next (SourceStep.timeSource _).frame (by decide)).next (.holdLift _) (by decide)).readRad o 0 0
  refine ⟨?_, ?_, ?_⟩
  · rw [hafter _ (by decide), hown.readRad (by decide), hid]
  · rw [hafter _ (by decide), hown.readRad (by decide), hvalid]
  · rw [hafter _ (by decide), hrole]

/-- A device that listens and is eligible, where the master has been missed long enough and no other device was heard, claims. -/
theorem Dev.masterClaim_claims {d : Dev} (role : d.get R.RAD_STATUS_ROLE = 1) (eligible : d.eligible = true) (valid : d.on R.RAD_SITE_STAT_MASTER_VALID = true)
    (missed : d.get R.RAD_SITE_CFG_ELECT_T ≤ d.rad.miss) (alone : d.rad.heard = []) :
    d.masterClaim = (d.heardPrune.setMaster d.heardPrune.id d.heardPrune.cellNo 0).holdLift := by
  have hframe := DevFrame.heardPrune d
  have hrole : d.heardPrune.get R.RAD_STATUS_ROLE = 1 := (hframe.readRad (by decide) 0 0).trans role
  have hvalid : d.heardPrune.on R.RAD_SITE_STAT_MASTER_VALID = true := (hframe.on_eq (by decide)).trans valid
  have hmiss : d.heardPrune.get R.RAD_SITE_CFG_ELECT_T ≤ d.heardPrune.rad.miss := by
    rw [hframe.readRad (by decide)]
    exact missed
  have hheard : d.heardPrune.rad.heard = [] := by
    rw [Dev.heard_heardPrune, alone]
    rfl
  have helig : d.heardPrune.eligible = true := by
    have hlevel : d.heardPrune.level = d.level := hframe.readRad (f := R.SYS_LEVEL_LEVEL) (by decide) 0 0
    rw [Dev.eligible, hframe.readRad (f := R.RAD_SITE_CFG_PRIO) (by decide), hframe.reins_eq (by decide), hframe.readRad (f := R.TIME_STATUS_SRC) (by decide), hlevel]
    exact eligible
  unfold Dev.masterClaim
  dsimp only
  rw [if_pos (by simp [hrole, hvalid, hmiss, hheard, helig])]

/-! ### A resignation (R268) -/

/-- A master that has been ineligible since `t0` resigns. -/
def Dev.resigned (d : Dev) (t0 : Nat) : Dev := ((d.passToMono (t0 + 60 * second)).set R.RAD_STATUS_ROLE 1).unmaster

theorem DevFrame.resigned (d : Dev) (t0 : Nat) : DevFrame [.clk, .rad] [] (R.RAD_STATUS_ROLE :: masterFlds) d (d.resigned t0) :=
  (((DevFrame.passToMono d (t0 + 60 * second)).mono (by decide)).next (.setRad _ (g := R.RAD_STATUS_ROLE) (by decide) 1 0 0) (by decide)).next
    (.unmaster _) (by decide)

theorem Dev.resigned_shows (d : Dev) (t0 : Nat) : (d.resigned t0).get R.RAD_STATUS_ROLE = 1 ∧ t0 + 60 * second ≤ (d.resigned t0).clk.mono ∧
    (d.resigned t0).rad.inelAt = none := by
  have hframe := DevFrame.unmaster ((d.passToMono (t0 + 60 * second)).set R.RAD_STATUS_ROLE 1)
  refine ⟨?_, ?_, rfl⟩
  · exact (hframe.readRad (by decide) 0 0).trans (Dev.get_set_self _ _ _ _ _ (by decide))
  · rw [Dev.resigned, hframe.keeps_clk (by decide), Dev.set_clk, Dev.mono_passToMono]
    exact Nat.le_max_right _ _

theorem Dev.masterResign_eq {d : Dev} {t0 : Nat} (h : d.rad.inelAt = some t0) (master : d.master = true) :
    d.masterResign = (d.resigned t0).record 0x0702 (u16 d.id ++ u16 0xFFFF ++ u8 (Config.argCode 0x0702 1)) := by
  unfold Dev.masterResign
  simp only [h, master]
  rfl

/-! ### The commands -/

theorem exec_masterBeaconMiss {s : State} (run : s.dev.runs .rad = true) : exec .masterBeaconMiss s = .next { s with dev := s.dev.masterMiss } :=
  onRun_next (f := Dev.masterMiss) run

theorem exec_masterClaim {s : State} (run : s.dev.runs .rad = true) : exec .masterClaim s = .next { s with dev := s.dev.masterClaim } :=
  onRun_next (f := Dev.masterClaim) run

theorem exec_masterResign {s : State} (run : s.dev.runs .rad = true) : exec .masterResign s = .next { s with dev := s.dev.masterResign } :=
  onRun_next (f := Dev.masterResign) run

/-- Settles O35: beacons missed, the third in a row; a claim; a resignation. -/
theorem timeMaster : Obligations.TimeMaster := by
  unfold Obligations.TimeMaster
  refine ⟨fun s run follower valid unseen fresh few => ?_, fun s run follower valid unseen fresh third src => ?_,
    fun s run role eligible dup valid missed alone => ?_, fun t0 s run h master => ?_⟩
  · refine ⟨_, exec_masterBeaconMiss run, ?_⟩
    dsimp only
    rw [Dev.masterMiss_few (Dev.timeGoes_of_runs_rad run) follower valid unseen fresh few]
    exact ⟨s.dev.miss_beaconMissed, Dev.missSf_beaconMissed (Dev.timeGoes_of_runs_rad run), (DevFrame.beaconMissed s.dev).frame⟩
  · obtain ⟨hhold, hfree, htim⟩ := s.dev.beaconMissed.beaconGone.heldFree_shows
    have hsource := (SourceStep.timeSource s.dev.beaconMissed.beaconGone.heldFree).frame
    refine ⟨_, exec_masterBeaconMiss run, ?_⟩
    dsimp only
    rw [Dev.masterMiss_third (Dev.timeGoes_of_runs_rad run) follower valid unseen fresh third src]
    have hholds : s.dev.beaconMissed.beaconGone.heldFree.timeSource.get R.RAD_STATUS_HOLD_EOA = 1 := (hsource.readRad (by decide) 0 0).trans hhold
    refine ⟨hholds, (hsource.readRad (by decide) 0 0).trans hfree, ?_, ?_⟩
    · rw [Dev.beaconOk_timeSource, htim]
      rfl
    · rw [Dev.globalHold, Dev.on, hholds]
      rfl
  · have hframe := DevFrame.heardPrune s.dev
    have hreins : s.dev.reins = true := by
      simp only [Dev.eligible, Bool.and_eq_true] at eligible
      obtain ⟨⟨⟨-, hr⟩, -⟩, -⟩ := eligible
      exact hr
    obtain ⟨hid, hvalid, hrole⟩ := Dev.setMaster_own_shows ((hframe.on_eq (by decide)).trans dup) ((hframe.reins_eq (by decide)).trans hreins)
      s.dev.heardPrune.cellNo 0
    refine ⟨_, exec_masterClaim run, ?_⟩
    dsimp only
    rw [Dev.masterClaim_claims role eligible valid missed alone]
    exact ⟨hid.trans (hframe.id_eq (by decide)), hvalid, beq_iff_eq.2 hrole⟩
  · obtain ⟨hrole, hmono, hinel⟩ := s.dev.resigned_shows t0
    have hrec := DevFrame.record (s.dev.resigned t0) 0x0702 (u16 s.dev.id ++ u16 0xFFFF ++ u8 (Config.argCode 0x0702 1))
    refine ⟨_, exec_masterResign run, ?_⟩
    dsimp only
    rw [Dev.masterResign_eq h master]
    refine ⟨(hrec.readRad (by decide) 0 0).trans hrole, ?_, ?_, (((DevFrame.resigned s.dev t0).mono (by decide)).next hrec (by decide)).frame⟩
    · rwa [Dev.record_clk]
    · rwa [Dev.record_rad]

end Sys2Proof.Machine
end

section
/-!
PROOFS. Radio counters, keys and disabling (R245, R247, R271).
-/

namespace Sys2Proof.Machine

/-! ### Counters and the old key (R245, R247) -/

/-- The start of the GPS week that comes next, or is now. -/
def Dev.weekNext (d : Dev) : Nat := (d.now + 604800 * second - 1) / (604800 * second) * (604800 * second)

/-- The entries of the site's devices cleared at the start of a GPS week. -/
def Dev.siteCleared (d : Dev) : Dev := { d.passTo d.weekNext with rad := { (d.passTo d.weekNext).rad with hwSite := [] } }

theorem exec_siteHwmClear {s : State} (run : s.dev.runs .rad = true) : exec .siteHwmClear s = .next { s with dev := s.dev.siteCleared } :=
  onRun_next (f := Dev.siteCleared) run

theorem Dev.yard_siteCleared {d : Dev} (goes : d.timeGoes = true) : d.siteCleared.clk.yard = d.weekNext ∧ d.clk.yard ≤ d.weekNext := by
  obtain ⟨hle, -⟩ := nextMultiple_bounds d.clk.yard (p := 604800 * second) (by decide)
  exact ⟨(Dev.yard_passTo goes _).trans (Nat.max_eq_right hle), hle⟩

/-- The old key over at its superframe. -/
def Dev.oldKeyOver (d : Dev) (k : Nat) : Dev := { d.passTo (k * superframe) with rad := { d.rad with oldTo := none } }

theorem exec_oldKeyExpiry {s : State} {k : Nat} (run : s.dev.runs .rad = true) (h : s.dev.rad.oldTo = some k) :
    exec .oldKeyExpiry s = .next { s with dev := s.dev.oldKeyOver k } := by
  simp only [exec, execOldKeyExpiry, onRun, onDev, run, h, if_true, Dev.oldKeyOver]

/-! ### EN cleared (R271) -/

theorem fieldsAt_RAD_CTRL : (fieldsAt R.RAD_CTRL_EN.addr).all (fun x => decide (x.1.acc = .rw) && decide (x.1.block = 0x07)) = true := by decide +kernel

theorem DevFrame.writeRadCtrl (d : Dev) (v : Nat) : DevFrame [] [0x07] [] d (d.writeAddr R.RAD_CTRL_EN.addr v) := .writeRw fieldsAt_RAD_CTRL d v

theorem Dev.en_writeRadCtrl (d : Dev) {v : Nat} (h : bitOf v 0 = false) : (d.writeAddr R.RAD_CTRL_EN.addr v).get R.RAD_CTRL_EN = 0 :=
  d.get_writeAddr_bit_clear (mem_of_radFlds (by decide)) (by decide) rfl rfl rfl h

/-- A drag source set or released touches reports, supervision and the set of sources. -/
theorem DevFrame.setSrc (d : Dev) (k : Nat) (b : Bool) :
    DevFrame ([.brk] ++ reports) [0x12] (R.BRK_SRC_SRC :: (itemFlds ++ brkFlds)) d (d.setSrc k b) := by
  rcases d.setSrc_cases k b with ⟨-, he⟩ | hstep
  · rw [he]
    exact .refl _ _ _ d
  · have hset := (DevFrame.setRad d (g := R.BRK_SRC_SRC) (by decide) (d.srcNew k b) 0 0).mono
      (ps' := [.brk] ++ reports) (ws' := [0x12]) (fs' := R.BRK_SRC_SRC :: (itemFlds ++ brkFlds)) (by decide)
    exact (hset.next (.record_exact _ _ _) (by decide)).next hstep.devFrame (by decide)

/-- The cell is dragged, for four more drag slots on the air. -/
def Dev.cellStopped (d : Dev) : Dev := { d.setSrc 4 true with rad := { d.rad with stopAir := 4 } }

theorem DevFrame.cellStopped (d : Dev) :
    DevFrame ([.brk, .rad] ++ reports) [0x12] (R.BRK_SRC_SRC :: (itemFlds ++ brkFlds)) d d.cellStopped :=
  ((DevFrame.setSrc d 4 true).mono (by decide)).next (.rad _ _) (by decide)

/-- What waits for a downlink slot is dropped. -/
def Dev.waitingDropped (d : Dev) : Dev :=
  { d with
    rad := { d.rad with keyQ := [], sends := [] }
    yrd := { d.yrd with fixes := [], allotQ := [] }
    wb := { d.wb with cancels := [], store := tabMapV d.wb.store fun _ w => { w with queued := false } }
    rsv := { d.rsv with short := d.rsv.short.filter fun x => x.2.seq.isSome }
    brk := { d.brk with m := tabMapV d.brk.m fun _ b => { b with call := none } } }

/-- The descriptors that caused what waits. -/
def Dev.waitingDescs (d : Dev) : List Desc :=
  (d.rad.sends.map fun x => x.desc) ++ (d.rsv.short.filter fun x => x.2.seq.isNone).map fun x => x.2.desc

theorem Dev.dropDownlink_eq (d : Dev) : d.dropDownlink = (d.waitingDropped.completeAll d.waitingDescs .aborted).brkViewAll := rfl

/-- After what waits is dropped, reports and what shows supervision alone change. -/
theorem Dev.dropDownlink_after (d : Dev) : DevFrame ([.brk] ++ reports) [0x0B] brkFlds d.waitingDropped d.dropDownlink := by
  rw [Dev.dropDownlink_eq]
  exact ((ComplStep.completeAll d.waitingDropped d.waitingDescs .aborted).frame.mono (by decide)).next (BrkStep.brkViewAll _).devFrame (by decide)

theorem Dev.get_dropDownlink (d : Dev) {f : Fld} (o : OutsideRad [0x0B] brkFlds f) (i j : Nat) : d.dropDownlink.get f i j = d.get f i j :=
  d.dropDownlink_after.readRad o i j

/-- While the rings are not held, no descriptor of an IMG_SEND that waited awaits anything more. -/
theorem Dev.isLive_dropDownlink {d : Dev} (run : d.ringsHeld = false) {x : Send} (hx : x ∈ d.rad.sends) : d.dropDownlink.isLive x.desc = false := by
  rw [Dev.dropDownlink_eq, Dev.isLive, (BrkStep.brkViewAll _).devFrame.keeps_ring (by decide)]
  exact Dev.isLive_completeAll (d := d.waitingDropped) run (List.mem_append_left _ (List.mem_map_of_mem hx)) _

/-- The radio switched off: the cell is dragged, and what waits is dropped. -/
def Dev.radOff (d : Dev) : Dev := d.cellStopped.dropDownlink

theorem Dev.radCtrlWrite_off {d : Dev} {v : Nat} (h : bitOf v 0 = false) (was : d.on R.RAD_CTRL_EN = true) :
    d.radCtrlWrite v = (d.writeAddr R.RAD_CTRL_EN.addr v).radOff := by
  have hoff : (d.writeAddr R.RAD_CTRL_EN.addr v).on R.RAD_CTRL_EN = false := by
    rw [Dev.on, d.en_writeRadCtrl h]
    rfl
  unfold Dev.radCtrlWrite
  dsimp only
  rw [if_pos (by rw [was, hoff]; rfl)]
  rfl

theorem exec_radDisable {s : State} {v : Word32} (w : s.dev.writable R.RAD_CTRL_EN = true) (h : bitOf v.toNat 0 = false) :
    exec (.radDisable v) s = .next { s with dev := s.dev.radCtrlWrite v.toNat } := by
  simp only [exec, execRadDisable, onReg, onDev, w, h, if_true, Bool.false_eq_true, if_false]

/-- What is left in the radio's queues, and in those of ranging and of waybills, once the radio is off. -/
theorem Dev.radOff_queues (d : Dev) : d.radOff.rad.stopAir = 4 ∧ d.radOff.rad.keyQ = [] ∧ d.radOff.rad.sends = [] ∧ d.radOff.wb.cancels = [] ∧
    d.radOff.yrd.fixes = [] := by
  have hafter := d.cellStopped.dropDownlink_after
  have hrad : d.radOff.rad = d.cellStopped.waitingDropped.rad := hafter.keeps_rad (by decide)
  have hwb : d.radOff.wb = d.cellStopped.waitingDropped.wb := hafter.keeps_wb (by decide)
  have hyrd : d.radOff.yrd = d.cellStopped.waitingDropped.yrd := hafter.keeps_yrd (by decide)
  exact ⟨by rw [hrad]; rfl, by rw [hrad]; rfl, by rw [hrad]; rfl, by rw [hwb]; rfl, by rw [hyrd]; rfl⟩

theorem Dev.radOff_shows {d : Dev} (en : d.get R.RAD_CTRL_EN = 0) : d.radOff.get R.RAD_CTRL_EN = 0 ∧ d.radOff.bit R.BRK_SRC_SRC 4 = true := by
  refine ⟨?_, ?_⟩
  · rw [Dev.radOff, Dev.get_dropDownlink _ (by decide), (DevFrame.cellStopped d).readRad (by decide), en]
  · rw [Dev.bit, Dev.radOff, Dev.get_dropDownlink _ (by decide)]
    exact d.bit_setSrc_true (by decide)

theorem Dev.isLive_radOff {d : Dev} (run : d.ringsHeld = false) {x : Send} (hx : x ∈ d.rad.sends) : d.radOff.isLive x.desc = false := by
  have hframe := DevFrame.cellStopped d
  have hheld : d.cellStopped.ringsHeld = d.ringsHeld := Dev.ringsHeld_congr (hframe.keeps_sys (by decide)) (hframe.keeps_boot (by decide))
    fun f hf => hframe.readRad (by revert f; decide) 0 0
  exact Dev.isLive_dropDownlink (hheld.trans run) hx

/-- RAD_CTRL written, the rings are held as before, and the same pieces wait. -/
theorem Dev.writeRadCtrl_keeps (d : Dev) (v : Nat) : (d.writeAddr R.RAD_CTRL_EN.addr v).ringsHeld = d.ringsHeld ∧
    (d.writeAddr R.RAD_CTRL_EN.addr v).rad = d.rad := by
  have hframe := DevFrame.writeRadCtrl d v
  exact ⟨Dev.ringsHeld_congr (hframe.keeps_sys (by decide)) (hframe.keeps_boot (by decide)) fun f hf => hframe.readRad (by revert f; decide) 0 0,
    hframe.keeps_rad (by decide)⟩

/-- Settles O36: counters cleared; the old key over; EN cleared, with descriptors that waited and without. -/
theorem radioKeysAndDisable : Obligations.RadioKeysAndDisable := by
  unfold Obligations.RadioKeysAndDisable
  refine ⟨fun s run => ?_, fun k s run h => ?_, fun v s w off was held => ?_, fun v s w off was => ?_⟩
  · obtain ⟨hyard, hle⟩ := Dev.yard_siteCleared (Dev.timeGoes_of_runs_rad run)
    refine ⟨_, exec_siteHwmClear run, rfl, ?_, hyard ▸ hle, (((DevFrame.passTo s.dev _).mono (by decide)).next (.rad _ _) (by decide)).frame⟩
    dsimp only
    rw [hyard]
    exact Nat.mul_mod_left _ _
  · refine ⟨_, exec_oldKeyExpiry run h, rfl, ?_, (((DevFrame.passTo s.dev _).mono (by decide)).next (.rad _ _) (by decide)).frame⟩
    exact Nat.le_trans (Nat.le_max_right _ _) (Nat.le_of_eq (Dev.yard_passTo (Dev.timeGoes_of_runs_rad run) _).symm)
  · obtain ⟨hheld, hrad⟩ := s.dev.writeRadCtrl_keeps v.toNat
    refine ⟨_, exec_radDisable w off, ?_⟩
    dsimp only
    rw [Dev.radCtrlWrite_off off was]
    obtain ⟨hen, hsrc⟩ := Dev.radOff_shows (s.dev.en_writeRadCtrl off)
    obtain ⟨hair, hkeys, hsends, -, -⟩ := (s.dev.writeAddr R.RAD_CTRL_EN.addr v.toNat).radOff_queues
    exact ⟨hen, hsrc, hair, hkeys, hsends, fun x hx => Dev.isLive_radOff (hheld.trans held) (hrad ▸ hx)⟩
  · refine ⟨_, exec_radDisable w off, ?_⟩
    dsimp only
    rw [Dev.radCtrlWrite_off off was]
    obtain ⟨hen, hsrc⟩ := Dev.radOff_shows (s.dev.en_writeRadCtrl off)
    obtain ⟨hair, hkeys, -, hcancels, hfixes⟩ := (s.dev.writeAddr R.RAD_CTRL_EN.addr v.toNat).radOff_queues
    exact ⟨hen, hsrc, hair, hkeys, hcancels, hfixes⟩

end Sys2Proof.Machine
end
